-- ==== Sys2Proof/Word.lean ====
section
/-! DEFINITION. The words of the module: bytes, 16-, 32- and 64-bit words (R6, R11), and nothing else. -/

namespace Sys2Proof

/-- A byte of a record, frame, descriptor or memory. -/
abbrev Byte := BitVec 8

/-- A 16-bit integer field. -/
abbrev Half := BitVec 16

/-- A register word (R6: every register is 32 bits wide). -/
abbrev Word := BitVec 32

/-- A 64-bit integer field (registers of R143, queue words of R268, addresses of R263). -/
abbrev Dword := BitVec 64

end Sys2Proof
end

