-- ==== Sys2Proof/Syntax.lean ====
section
/-! DEFINITION. The commands of the module: one constructor of `Instr` for each row of
spec/opcode_table.json, in the table's order, with the operands that reach the module from outside
(an address, a value, a frame's bytes, a measured quantity). Operands of a fixed range are `Fin`. -/

namespace Sys2Proof

/-- The thirteen islands of R17, in the order of their codes. -/
inductive Isl where
  | ma | mb | mc | vl | ap | hi | cm | pt | sf | ks | pw | mg | tb
  deriving DecidableEq, Repr

/-- Where a command descriptor comes from: a submission queue (R252) or a fabric command (R303). -/
inductive CmdSrc where
  | sq (n : Fin 16)
  | fabric (node : Half)
  deriving DecidableEq, Repr

/-- A command descriptor: its source and its 64 bytes in the format of R252. -/
structure Desc where
  src : CmdSrc
  bytes : List Byte
  deriving DecidableEq, Repr

/-- A memory error that a read meets (R42). -/
inductive EccErr where
  | none | single | double
  deriving DecidableEq, Repr

/-- The supply-loss warning sources of R74; the Shell temperature of R408 raises its warning in
SHELL_TEMPERATURE_SAMPLE. -/
inductive WarnSrc where
  | nPfail | fieldSupply
  deriving DecidableEq, Repr

/-- A check row of R194, named for the 60 s limit of a check. -/
inductive CheckKind where
  | residual | rcmTest | phaseNeutral | weld | startTest | insulation | leak | fluidStatus
  deriving DecidableEq, Repr

/-- What a received vehicle protocol message says (R187 to R189). The message bytes are those of the
standards that R188 names; the model takes what PT decodes from them. -/
inductive VehMsg where
  /-- SLAC matching completed, or one attempt of it failed. -/
  | slacMatched
  | slacFailed
  /-- SECC discovery answered. -/
  | discovered
  /-- supportedAppProtocol: bit 0 DIN SPEC 70121, bit 1 ISO 15118-2, bit 2 ISO 15118-20 offered. -/
  | appProtocol (offered : BitVec 3)
  /-- The vehicle's identity string, with whether a contract certificate of it validated (R188, R198). -/
  | identity (name : List Byte) (certValid : Bool)
  /-- PowerDelivery start: the partner is ready. -/
  | ready
  /-- The partner asks to stop. -/
  | stop
  /-- Any other message that its standard allows at this point of the sequence. -/
  | progress
  /-- A message that fails EXI decoding, TLS authentication or the message sequence. -/
  | violation
  deriving DecidableEq, Repr

/-- What a generation 3 coupling message says (R191). -/
inductive CoupMsg where
  /-- The skid's answer: its identity string and whether its certificate and signature verify. -/
  | exchange (name : List Byte) (verified : Bool)
  /-- A later message under the session keys: sequence number, whether its GCM tag verifies, the
  ready flag, and whether it asks to stop. -/
  | data (seq : Dword) (authentic ready stop : Bool)
  deriving DecidableEq, Repr

/-- The causes of a safety channel discrepancy of R223 and SAF_FAULT.CAUSE that have no row of their own. -/
inductive DiscCause where
  | demand | inputReading | configCrc
  deriving DecidableEq, Repr

/-- A host ring queue (R248). -/
inductive RingQ where
  | sq (n : Fin 16)
  | cq (n : Fin 16)
  | eq (e : Fin 4)
  deriving DecidableEq, Repr

/-- A data-port transaction (R263): a read of so many bytes, or a write of bytes. -/
inductive DpOp where
  | read (len : Nat)
  | write (bytes : List Byte)
  deriving DecidableEq, Repr

/-- The IEEE 1588 messages of R304 with what the module's servo and clock selection use of them. -/
inductive PtpMsg where
  /-- A Sync (with its follow-up): the measured offset, fabric time minus device time, in ns. -/
  | sync (offsetNs : Int)
  /-- An Announce: domain, grandmaster's node address, priority1, clock class, priority2, grandmaster
  identity, steps removed, and currentUtcOffset with its valid flag. -/
  | announce (domain : Byte) (gm : Half) (prio1 class_ prio2 : Byte) (ident : BitVec 48) (steps : Nat)
      (utcOffset : Int) (utcValid : Bool)
  /-- A peer-delay message. -/
  | peerDelay (delayNs : Nat)
  deriving DecidableEq, Repr

/-- What the bow mirrors to the stroke (R306). -/
inductive MirrorItem where
  /-- The commanded states of the DUPLEX channels. -/
  | channels (on : Half)
  /-- A session's state, number, protocol, authorisation source and pilot duty. -/
  | session (p : Fin 8) (state : BitVec 4) (number : Word) (proto : Byte) (auth : BitVec 2) (duty : Nat)
  /-- A report's sequence number, type and body. -/
  | report (seq : Word) (type : Byte) (body : List Byte)
  /-- A heartbeat on a lane (false A, true B). -/
  | heartbeat (laneB : Bool)
  deriving DecidableEq, Repr

/-- An MTL frame as the line coder hands it over (R315 to R319): the header bytes, the body bytes and
the sorting of its bytes: per codeword the number of errors and of erasures, the header's first. -/
structure MtlRx where
  header : List Byte
  body : List Byte
  /-- (errors, erasures) of the header block. -/
  headErr : Nat × Nat
  /-- (errors, erasures) of each body codeword. -/
  bodyErr : List (Nat × Nat)
  /-- SNR of the frame in 0.25 dB (R326). -/
  snr : Int
  deriving DecidableEq, Repr

/-- A bus result of the I2C auxiliary port (R416, R417): what the bus answered. -/
inductive I2cBus where
  | ok (read : List Byte)
  | addrNack
  | dataNack (n : Nat)
  | stretch (sdaLowAfter : Bool)
  | stuck (sdaLowAfter : Bool)
  | lostArb (sdaLowAfter : Bool)
  deriving DecidableEq, Repr

/-- The commands. One constructor for each row of the table, in its order. -/
inductive Instr where
  | registerWrite (off : Word) (size : Nat) (v : Word)
  | quantumBoundary
  | crossingStall (snd rcv : Isl) (blameReceiver : Bool)
  | crossingReopen (snd rcv : Isl)
  | clockMonitorFault (i : Isl) (remote : Bool)
  | referenceFault
  | watchdogExpiry (engine : Fin 20)
  | lockstepError
  | vlRestart
  | scrubRead (i : Isl) (mem : Fin 4) (word : BitVec 24) (err : EccErr) (legalCopy : Bool)
  | linkFrame (c : Fin 3) (frame : List Byte)
  | linkTimeout (c : Fin 3)
  | referenceComparison (ab bc ca : Nat)
  | channelRecordComplete (c : Fin 3)
  | phaseConditionSet (c : Fin 3) (p : Fin 8) (k : Fin 3)
  | phaseConditionClear (c : Fin 3) (p : Fin 8) (k : Fin 3)
  | rcmTrip (c : Fin 3) (p : Fin 8) (row : Fin 5)
  | startTestRequest (v : Word)
  | startTest (d : Desc)
  | startTestBegin (p : Fin 8)
  | startTestEnd (p : Fin 8)
  | supplyLossWarning (src : WarnSrc)
  | supplyLossSave
  | saveComplete
  | supplyLossRestart
  | pulseEdge (n : Fin 16) (tickA tickB tickC : Nat)
  | modbusPollDue (e : Fin 16)
  | modbusResponse (port : Fin 4) (frame : List Byte) (gap : Bool)
  | modbusTimeout (port : Fin 4)
  | modbusValueStale (e : Fin 16)
  | totaliserCheck (e : Fin 16)
  | fieldRecordArrival (c : Fin 3)
  | fieldRecordLate (c : Fin 3)
  | substitutionStop (p : Fin 8)
  | quantumRecordArrival (arrived corrupt : List (Fin 3))
  | resolutionDeadline
  | reverificationBegin (c : Fin 3)
  | reverify (v : Word)
  | forceOut (v : Word)
  | channelRejoin (c : Fin 3)
  | votTolWrite (k : Fin 8) (v : Word)
  | signatureComplete
  | storeEntryWrite
  | slewComplete
  | servoMonth
  | timeQualityExpiry
  | fabricTimeMismatch
  | loadCalibrationSet (d : Desc)
  | loadTariffStructure (d : Desc)
  | closeBillingPeriod (d : Desc)
  | takeReading (d : Desc)
  | timeCorrection (d : Desc)
  | timeSet (d : Desc)
  | waveformCapture (d : Desc)
  | noOperation (d : Desc)
  | locateStore (d : Desc)
  | assignPointType (d : Desc)
  | identify (d : Desc)
  | authorise (d : Desc)
  | revocationStatus (d : Desc)
  | stopSession (d : Desc)
  | clearFault (d : Desc)
  | weldCheckEnd (p : Fin 8) (passed : Bool)
  | serviceState (d : Desc)
  | hostCurrentLimit (d : Desc)
  | clearRcmTrip (d : Desc)
  | loadContractTable (d : Desc)
  | pilotStateChange (p : Fin 8) (high low : Int) (ohms : Nat)
  | handshakeTimeout (p : Fin 8)
  | authorisationTimeout (p : Fin 8)
  | readyTimeout (p : Fin 8)
  | checksPassed (p : Fin 8)
  | checkTimeout (p : Fin 8) (k : CheckKind)
  | overcurrentViolation (p : Fin 8)
  | vehicleMessage (p : Fin 8) (m : VehMsg)
  | seccDiscoveryTimeout (p : Fin 8)
  | fallbackPilotFEnd (p : Fin 8)
  | vehicleMessageTimeout (p : Fin 8)
  | couplingDetect (p : Fin 8) (loop : Nat)
  | couplingAbsent (p : Fin 8) (loop : Nat)
  | couplingAttemptTimeout (p : Fin 8)
  | couplingIdentityFrame (p : Fin 8) (frame : List Byte)
  | couplingMessage (p : Fin 8) (m : CoupMsg)
  | couplingHeartbeatLost (p : Fin 8)
  | stackCommandSend (p : Fin 8)
  | stackStatusFrame (port : Fin 2) (ident : BitVec 11) (frame : List Byte)
  | stackStatusTimeout (p : Fin 8)
  | stackCurrentMismatch (p : Fin 8)
  | rcmTestTimeout (p : Fin 8)
  | insulationMeasurement (c : Fin 2) (kohm : Nat)
  | leakTestFillEnd (p : Fin 8)
  | leakTestSettleEnd (p : Fin 8)
  | leakTestEnd (p : Fin 8)
  | safeStateReport (p : Fin 8)
  | switchConfirmTimeout (p : Fin 8)
  | dcContactorOpenTimeout (p : Fin 8)
  | shortDetected (n : Fin 16)
  | overcurrent (n : Fin 16)
  | retryPauseEnd (n : Fin 16)
  | retrySequenceReset (n : Fin 16)
  | inrushEnd (n : Fin 16)
  | openLoad (n : Fin 16)
  | openLoadClear (n : Fin 16)
  | aggregateOverload (mean1s inst : Nat)
  | shedStep (mean10ms : Nat)
  | shedReturn (mean1s : Nat)
  | shedRestoreStep
  | arrayTemperature (degC : Int)
  | pwmPeriodStart (g : Fin 8)
  | vfieldDip (v10mV : Nat)
  | uvOff (v10mV : Nat)
  | uvRecovery (v10mV : Nat)
  | channelReclaim (n : Fin 16)
  | holdExpiry
  | lswCmdWrite (v : Word)
  | latchClear (v : Word)
  | lswAggRead
  | switchHostChannels (d : Desc)
  | clearLatches (d : Desc)
  | safetyInputFiltered (i : Fin 12) (level : Bool) (inA inB : Bool) (tA tB : Nat)
  | sfScan
  | safetyDiscrepancy (k : DiscCause) (out : Option (Fin 4))
  | outputTest (out : Fin 4) (swB fell : Bool)
  | switchStuck (out : Fin 4) (swB on : Bool)
  | inputDiscrepancy (f : Fin 6)
  | discrepancyClear (f : Fin 6)
  | twoHandTimeout (f : Fin 6) (inA inB : Bool)
  | safetyResetRequest (v : Word)
  | safetyRestart (v : Word)
  | startTestsComplete (pass : Bool)
  | loadSafetyConfiguration (d : Desc)
  | confirmSafetyConfiguration (d : Desc)
  | safetyConfigTimeout
  | hostLinkReset
  | hostLinkUp (gen width : BitVec 2)
  | linkRetrain (v : Word)
  | privLock (v : Word)
  | spiFrame (bytes : List Byte) (readLen : Nat) (brokenByte : Bool)
  | windowFrame (bytes : List Byte)
  | queueEnable (q : RingQ) (v : Word)
  | queueDisable (q : RingQ) (v : Word)
  | sqDoorbell (n : Fin 16) (v : Word) (fetched : List (List Byte)) (failed : Bool)
  | cqDoorbell (n : Fin 16) (v : Word)
  | eqDoorbell (e : Fin 4) (v : Word)
  | commandDispatch (n : Fin 16)
  | commandResult (writeFails : Bool)
  | hostCompletionTimeout (q : RingQ)
  | coalescingTimeout (q : RingQ)
  | dataPortAccess (off : Word) (op : DpOp)
  | queueOffer (i : Fin 35) (unit_ type_ : Byte) (body : List Dword) (mismatch : Bool)
  | queueRelease (i : Fin 35) (mismatch : Bool)
  | queStatRead (i : Fin 35)
  | phyLinkUp (k : Fin 4)
  | phyLinkDown (k : Fin 4)
  | helloSend (k : Fin 4)
  | helloReceive (k : Fin 4) (frame : List Byte)
  | helloTimeout (k : Fin 4)
  | linkStateAdvertReceive (port : Fin 5) (frame : List Byte)
  | advertRepeat
  | advertRefresh
  | advertAgeOut (ident : BitVec 48)
  | addressClaimFinal
  | linkCostUpdate (k : Fin 4) (badPerMille meanFill : Nat)
  | linkSuppressionEnd (port : Fin 5) (j : Fin 32)
  | routeRecompute
  | routedFrameForward (port : Fin 5) (frame : List Byte)
  | quarantineEnd (port : Fin 5) (j : Fin 32)
  | reportSpreadDue
  | reportSend
  | reportReceive (port : Fin 5) (payload : List Byte) (type_ : Byte)
  | collectorStoreWrite
  | mmd5206Frame (k : Fin 4) (frame : List Byte)
  | fabricCommandReceive (payload : List Byte)
  | fabricCommandCompletion (payload : List Byte)
  | ptpMessageReceive (k : Fin 4) (m : PtpMsg)
  | ptpSyncSend (k : Fin 4)
  | ptpAnnounceSend (k : Fin 4)
  | ptpPeerDelaySend (k : Fin 4)
  | ptpAnnounceTimeout (k : Fin 4)
  | ptpLockAcquired
  | ptpSyncLoss
  | pairHeartbeatSend
  | duplexMirror (m : MirrorItem)
  | pairReleaseReceive
  | pairHeartbeatLoss
  | pairLaneLoss (laneB : Bool)
  | pairLaneReturn (laneB : Bool) (partnerIdent : BitVec 48) (partnerBow : Bool)
  | routeLookup (d : Desc)
  | sendFabricCommand (d : Desc)
  | fabricCommandTimeout
  | switchRole (d : Desc)
  | clearQuarantine (d : Desc)
  | locateCollectorStore (d : Desc)
  | advanceKeyEpoch (d : Desc)
  | mtlDataFrame (rx : MtlRx)
  | mtlAckSend
  | mtlAcknowledgement (rx : MtlRx)
  | mtlAckTimeout
  | mtlBackoffSlot
  | mtlTransmissionEnd
  | mtlTransmissionCutoff
  | mtlBeaconSend
  | mtlBeacon (rx : MtlRx)
  | mtlRefreshSend
  | mtlRefreshList (rx : MtlRx)
  | mtlWantedAdvertSend (orig : Half)
  | mtlLinkTimeout (j : Fin 32)
  | mtlNeighbourFree (j : Fin 32)
  | mtlSegmentSetTimeout (j : Fin 32)
  | lineDriverFault
  | lineDriverResume
  | lineNoiseMeasurement (d : Desc) (noise : List Byte)
  | clearToneQuarantine (d : Desc)
  | keyUseRequest (requester : Fin 21) (slot : BitVec 9) (use : Fin 7) (checkOk rebuildOk : Bool)
  | writeKey (d : Desc)
  | deriveKey (d : Desc)
  | destroyKey (d : Desc)
  | keyStatement (d : Desc)
  | attest (d : Desc)
  | setMeterIdentity (d : Desc)
  | enrolIntegratorKey (d : Desc)
  | selectDestructionModes (d : Desc)
  | debugPort (d : Desc)
  | debugKill (d : Desc)
  | tamperInput (n : Fin 4)
  | sealChange (open_ : Bool)
  | displayPowerOn (v : Word)
  | displayPowerOff (v : Word)
  | displaySequenceStep
  | panelFault
  | railFault
  | fastDischargeComplete
  | commonToggle
  | stressCount
  | vcomTrimUpdate
  | displayPassStart
  | lineTransferComplete
  | displayPassEnd
  | legalPageAdvance
  | writeOpenLines (d : Desc)
  | storeFrame (d : Desc)
  | showStoredFrame (d : Desc)
  | powerOnReset (straps : BitVec 2) (rtcUs : Nat) (oscStop : Bool) (healthOk : Bool)
  | islandStartComplete (i : Isl)
  | nreset
  | resetModuleOrIsland (d : Desc)
  | moduleResetExecute
  | receiveContainerPart (d : Desc)
  | stageContainer (d : Desc) (unwrapOk : Bool)
  | activate (d : Desc)
  | updateStep (verified : Bool)
  | engineRunningReport (e : Fin 20)
  | updateStepTimeout
  | healthReport (e : Fin 20)
  | confirmHealth (d : Desc)
  | catchWindowEnd
  | revert (d : Desc)
  | shellTemperatureSample (degC : Int) (for1ms : Bool)
  | thermalRestart (degC : Int)
  | mgTempRead
  | i2cTransfer (d : Desc) (bus : I2cBus)
  | shellSupplyFault
  | rtcOscillatorStop
  | pairUp (partnerIdent : BitVec 48) (partnerAddr : Half) (partnerPref : Bool)
  | mediumBusy
  | mediumIdle (draw : Nat)
  | airtimeLimitEnd
  | lbusyRelease
  | tamperInputReturn (n : Fin 4)
  | switchCellOvertemperature (n : Fin 16)
  deriving DecidableEq, Repr

end Sys2Proof
end

