-- ==== Sys2Proof/Decode.lean ====
section
/-! DEFINITION. The command table gives no row any bits, so no word spells a command. -/

namespace Sys2Proof

/-- The command that a word of the command table spells. The table gives bits to none of its rows: a command
reaches the module as a register access, a ring entry, a frame or an event, never as a word (log 10). -/
def decodeTableWord (_nbits _w : Nat) : Option Instr := none

end Sys2Proof
end

