-- ==== Sys2Proof/Config.lean ====
section
/-! DEFINITION. The values that the spec leaves open: constants without a body, so that a statement about
one of them holds for every value of it. Each is applied to the operands it depends on, or to the plain
counter `State.free` for a value that nothing fixes. -/

namespace Sys2Proof.Config

/-! ### Arithmetic with irrational results (log 14) -/

/-- π as the flow and scaling arithmetic uses it. -/
opaque pi : Rat
/-- Square root. -/
opaque sqrt : Rat → Rat
/-- Power with a rational exponent. -/
opaque pow : Rat → Rat → Rat
/-- Exponential function. -/
opaque exp : Rat → Rat

/-! ### Filter chain and window quantities (R57, R63, R66, R70, R72): no taps or coefficients in the spec (log 15) -/

/-- Output of the decimator and compensation FIR from the newest 63 codes, newest first. -/
opaque fir : List Int → Rat
/-- Fractional delay by so many nanoseconds of a calibrated sequence, newest first. -/
opaque delay : Int → List Rat → Rat
/-- The 0.5 Hz high-pass filter on a sequence, newest first; the counter stands for its older past. -/
opaque highPass : Nat → List Rat → Rat
/-- The 90° all-pass transform of a voltage sequence, newest first; the counter stands for its older past. -/
opaque allPass : Nat → List Rat → Rat
/-- Number of samples of the measuring window, from V1's sequence and the F60 setting. -/
opaque windowLen : List Rat → Bool → Nat
/-- Rms value of a window. -/
opaque rms : List Rat → Rat
/-- Frequency of V1 in mHz. -/
opaque freq : List Rat → Rat
/-- THD of a window in 0.01 %. -/
opaque thd : List Rat → Rat
/-- Positive-, negative- and zero-sequence components of three voltages. -/
opaque seqPos : List Rat → List Rat → List Rat → Rat
opaque seqNeg : List Rat → List Rat → List Rat → Rat
opaque seqZero : List Rat → List Rat → List Rat → Rat
/-- Rms of a residual current band-limited from 10 Hz to 1 kHz. -/
opaque rcmAc : List Rat → Rat

/-- A byte of a captured row whose sample instant has no good frame: occasion and place (log 33). -/
opaque lostSample : Nat → Nat → Byte

/-- Power factor of a window without apparent power; the counter stands for the occasion (log 15). -/
opaque pfIdle : Nat → Int

/-! ### Properties of water, steam and ice (R49, R93, R95): the standards' equations are not in the spec (log 16) -/

/-- Temperature in °C of a platinum resistor with R₀ at a resistance, both in Ω (IEC 60751). -/
opaque cvd : Rat → Rat → Rat
/-- Saturation temperature in °C at a pressure in kPa, and saturation pressure in kPa at a temperature. -/
opaque tsat : Rat → Rat
opaque psat : Rat → Rat
/-- Sublimation pressure of ice in kPa. -/
opaque pice : Rat → Rat
/-- Specific volume, enthalpy and speed of sound of region 1 at (kPa, °C). -/
opaque v1 : Rat → Rat → Rat
opaque h1 : Rat → Rat → Rat
/-- Specific volume, enthalpy and speed of sound of region 2 at (kPa, °C). -/
opaque v2 : Rat → Rat → Rat
opaque h2 : Rat → Rat → Rat
opaque w2 : Rat → Rat → Rat
/-- Dynamic viscosity at a density and a temperature. -/
opaque visc : Rat → Rat → Rat

/-! ### Cryptography whose result the spec names but does not compute (log 17) -/

/-- SHA-384 of a byte string, 48 bytes. -/
opaque sha384 : List Byte → List Byte
/-- Uncompressed public key of a scalar on P-256 (code 3) or P-384 (code 4). -/
opaque ecPublic : Nat → List Byte → List Byte
/-- ECDSA signature on a curve under a scalar over a hash; the counter stands for the nonce. -/
opaque ecdsaSign : Nat → List Byte → List Byte → Nat → List Byte
/-- Whether an ECDSA signature verifies: curve, public key, hash, signature. -/
opaque ecdsaVerify : Nat → List Byte → List Byte → List Byte → Bool
/-- Whether the health tests of the entropy source pass at a start of KS after the first (R338). -/
opaque entropyOk : Nat → Bool
/-- The 256 bits that the DRBG draws. -/
opaque drbg : Nat → List Byte

/-! ### Power stacks (R193) (log 20) -/

/-- Bytes 2 to 7 of a stack command frame, its setpoints, for which the spec gives no values: by the command
code and the occasion. -/
opaque stackSetpoints : Nat → Nat → List Byte

/-! ### Legal display (R378): glyphs, layout and language are the sealed firmware's (log 31) -/

/-- Bytes of a line of the legal field: page, WIDTH, BPP, line of the field, the page's values, quantum. -/
opaque glyphs : Nat → Nat → Nat → Nat → List Nat → Nat → List Byte

/-! ### Firmware images (log 32) -/

/-- Image entry of an engine's factory image, 64 bytes (R391). -/
opaque factoryEntry : Nat → List Byte
/-- A byte of an image slot, whose header layout the spec does not give: slot, offset, occasion. -/
opaque slotByte : Nat → Nat → Nat → Byte
/-- Olfold release key held in the boot ROM (R392). -/
opaque olfoldKey : List Byte

/-! ### Fabric time (R160, R304) (log 29) -/

/-- Rate correction in ppm that the servo takes from an offset in ns, before its limit of ±100 ppm. -/
opaque servo : Int → Nat → Int

/-! ### Load switches (log 48) -/

/-- Output current of a channel in mA, 10 ms mean: channel, `now` and count of free values. No command brings it. -/
opaque chanCurrent : Nat → Nat → Nat → BitVec 16
/-- Whether a channel that is on is at its active limit: channel, `now` and count of free values. No command says so. -/
opaque chanLimiting : Nat → Nat → Nat → Bool

/-! ### Coupling link (R190) (log 24) -/

/-- CRC-8 of a generation 1 identity, whose polynomial the spec does not give. -/
opaque crc8 : List Byte → Byte

/-! ### Places that an implementation fixes (log 18) -/

/-- Base and size in Boathouse of a store: 0 reading log, 1 session end records, 2 profile rings, 3 non-legal
event log, 4 collector store, 5 display frame store. -/
opaque storeBase : Nat → Nat
opaque storeSize : Nat → Nat
/-- Offset of the newest entry that an empty store reports. -/
opaque storeEmpty : Nat → Nat

/-! ### Bytes of which the spec gives no value (log 40) -/

/-- A byte of the data port's map at an address for which no rule gives contents: occasion and address. -/
opaque dpGap : Nat → Nat → Byte
/-- A submission-queue entry that stands in host memory when a register write rings the doorbell: occasion and
place in the fetch. -/
opaque hostEntry : Nat → Nat → List Byte

end Sys2Proof.Config
end

