-- ==== Sys2Proof/Machine/Bits.lean ====
section
/-! DEFINITION. Bit fields, byte strings in little-endian order (R6, R11), signed fields, IEEE 754 binary32
values (chapter 3) and the check codes that records carry. -/

namespace Sys2Proof.Machine

/-- Bits [hi:lo] of a number. -/
def bitsOf (x hi lo : Nat) : Nat := (x >>> lo) % 2 ^ (hi + 1 - lo)

/-- A number with its bits [hi:lo] replaced by the low bits of `v`. -/
def putBits (x hi lo v : Nat) : Nat :=
  x - bitsOf x hi lo <<< lo + (v % 2 ^ (hi + 1 - lo)) <<< lo

/-- Bit `i` of a number with a new value. -/
def putBit (x i : Nat) (b : Bool) : Nat := putBits x i i b.toNat

/-- Number of ones among bits 0 to n − 1. -/
def ones (x : Nat) : Nat → Nat
  | 0 => 0
  | n + 1 => ones x n + (x.testBit n).toNat

/-- The indices below `n` whose bit is set, rising. -/
def setBits (x n : Nat) : List Nat := (List.range n).filter (fun i => x.testBit i)

/-- The largest value of an n-bit count that saturates. -/
def sat (n v : Nat) : Nat := min v (2 ^ n - 1)

/-- The signed value of an n-bit two's-complement number. -/
def toSigned (n v : Nat) : Int := if v < 2 ^ (n - 1) then (v : Int) else (v : Int) - 2 ^ n

/-- The n-bit two's-complement number of a signed value. -/
def ofSigned (n : Nat) (v : Int) : Nat := (v % 2 ^ n).toNat

/-- The number a byte string spells, least significant byte first. -/
def leNat : List Byte → Nat
  | [] => 0
  | b :: t => b.toNat + 256 * leNat t

/-- `n` bytes of a number, least significant first. -/
def natLE : Nat → Nat → List Byte
  | 0, _ => []
  | n + 1, v => BitVec.ofNat 8 v :: natLE n (v / 256)

/-- The number a byte string spells, most significant byte first. -/
def beNat (l : List Byte) : Nat := leNat l.reverse

/-- `n` bytes of a number, most significant first. -/
def natBE (n v : Nat) : List Byte := (natLE n v).reverse

/-- `n` bytes of a record from an offset. -/
def slice (l : List Byte) (off n : Nat) : List Byte := (l.drop off).take n

/-- The integer of `n` bytes at an offset of a record (R11). -/
def fld (l : List Byte) (off n : Nat) : Nat := leNat (slice l off n)

/-- The signed integer of `n` bytes at an offset of a record. -/
def sfld (l : List Byte) (off n : Nat) : Int := toSigned (8 * n) (fld l off n)

/-- A byte string cut, or filled with zeros, to a length. -/
def padTo (n : Nat) (l : List Byte) : List Byte := l.take n ++ List.replicate (n - l.length) 0

/-- `n` zero bytes. -/
def zeros (n : Nat) : List Byte := List.replicate n 0

/-- The value of an IEEE 754 binary32 number; none for NaN and the infinities. -/
def f32 (w : Nat) : Option Rat :=
  let e := bitsOf w 30 23
  let m := bitsOf w 22 0
  let sgn : Rat := if w.testBit 31 then -1 else 1
  if e = 255 then none
  else if e = 0 then some (sgn * (m : Rat) / (2 : Rat) ^ 149)
  else some (sgn * ((2 ^ 23 + m : Nat) : Rat) * (2 : Rat) ^ e / (2 : Rat) ^ 150)

/-- One step of the reflected CRC with the polynomial given. -/
def crcBit (poly c : Nat) : Nat := if c.testBit 0 then (c >>> 1) ^^^ poly else c >>> 1

/-- One byte of the reflected CRC. -/
def crcByte (poly c : Nat) (b : Byte) : Nat :=
  (List.range 8).foldl (fun c _ => crcBit poly c) (c ^^^ b.toNat)

/-- CRC-32 of a byte string. PRESUMED (log 3): the CRC-32 of IEEE 802.3, which the spec names without its
polynomial. -/
def crc32 (l : List Byte) : Nat := (l.foldl (crcByte 0xEDB88320) 0xFFFFFFFF) ^^^ 0xFFFFFFFF

/-- CRC-16 of a Modbus RTU frame (R88). PRESUMED (log 3): polynomial 0xA001 reflected, initial 0xFFFF. -/
def crc16 (l : List Byte) : Nat := l.foldl (crcByte 0xA001) 0xFFFF

/-- The element at an index of a list, or a default. -/
def nth {α : Type} (l : List α) (i : Nat) (d : α) : α := l.getD i d

/-- The floor of a rational as an integer. -/
def ratFloor (r : Rat) : Int := r.floor

/-- A rational rounded to the nearest integer, halves away from zero. -/
def ratRound (r : Rat) : Int :=
  if r < 0 then -((-r + 1 / 2).floor) else (r + 1 / 2).floor

/-- The median of three integers. -/
def median3 (a b c : Int) : Int := max (min a b) (min (max a b) c)

end Sys2Proof.Machine
end

