-- ==== Sys2Proof/Machine/RegMap.lean ====
section
/-! DEFINITION. The registers of the module: each register's BAR0 offset (namespace `R`) and each of its
fields (namespace `F`), under the spec's names, written from the register tables of chapters 1 to 16, and the
table of descriptors from which the bus (R6, R7, R10, R22) and the reset values are read. -/

namespace Sys2Proof.Machine

/-- A register field: the register's offset and the field's highest and lowest bit. -/
structure Fld where
  off : Nat
  hi : Nat
  lo : Nat
  deriving DecidableEq, Repr

/-- The access types of R7. -/
inductive Access where
  | ro | rw | rws | w1c | w1s | wo
  deriving DecidableEq, Repr

/-- A field that a host write can affect. -/
structure FldDesc where
  hi : Nat
  lo : Nat
  ty : Access
  deriving DecidableEq, Repr

/-- A register, or a row of like registers `stride` apart: first offset, stride, count, serving island, reset
value and the fields that are not read-only. -/
structure RegDesc where
  base : Nat
  stride : Nat
  count : Nat
  isl : Isl
  reset : Word
  fields : List FldDesc
  deriving DecidableEq, Repr

/-! ### Offsets -/

namespace R

def MG_RESET_CAUSE : Nat := 0x00000
def MG_RESET_CNT : Nat := 0x00004
def MG_BOOT_STATUS : Nat := 0x00008
def MG_PART : Nat := 0x0000C
def MG_TEMP : Nat := 0x00010
def MG_ISLAND_STATE : Nat := 0x00200
def MG_ISLAND_FAULT : Nat := 0x00204
def MG_CLKMON_STATUS : Nat := 0x00208
def MG_WDT_STATUS : Nat := 0x0020C
def MG_XING_STALL : Nat := 0x00210
def MG_ECC_COUNT : Nat := 0x00214
def MG_ECC_LAST : Nat := 0x00218
def MG_SCRUB_CTRL : Nat := 0x0021C
def MG_FAULT_LAST : Nat := 0x00220
def MG_I2C_CFG : Nat := 0x00300
def MG_I2C_STAT : Nat := 0x00304
def HI_ID : Nat := 0x10000
def HI_STATUS : Nat := 0x10004
def HI_CTRL : Nat := 0x10008
def HI_RING_ERR : Nat := 0x1000C
def HI_SQ_BASE_LO (n : Nat) : Nat := 0x10100 + 0x10 * n
def HI_SQ_BASE_HI (n : Nat) : Nat := 0x10104 + 0x10 * n
def HI_SQ_CFG (n : Nat) : Nat := 0x10108 + 0x10 * n
def HI_SQ_STATUS (n : Nat) : Nat := 0x1010C + 0x10 * n
def HI_CQ_BASE_LO (n : Nat) : Nat := 0x10200 + 0x10 * n
def HI_CQ_BASE_HI (n : Nat) : Nat := 0x10204 + 0x10 * n
def HI_CQ_CFG (n : Nat) : Nat := 0x10208 + 0x10 * n
def HI_CQ_STATUS (n : Nat) : Nat := 0x1020C + 0x10 * n
def HI_EQ_BASE_LO (e : Nat) : Nat := 0x10300 + 0x10 * e
def HI_EQ_BASE_HI (e : Nat) : Nat := 0x10304 + 0x10 * e
def HI_EQ_CFG (e : Nat) : Nat := 0x10308 + 0x10 * e
def HI_EQ_STATUS (e : Nat) : Nat := 0x1030C + 0x10 * e
def HI_EV_MASK (k : Nat) : Nat := 0x10400 + 0x4 * k
def HI_EV_ROUTE (k : Nat) : Nat := 0x10420 + 0x4 * k
def HI_DP_ADDR_LO : Nat := 0x10500
def HI_DP_ADDR_HI : Nat := 0x10504
def HI_DP_CTRL : Nat := 0x10508
def HI_DP_STRIDE : Nat := 0x1050C
def HI_SPI_WIN : Nat := 0x10600
def HI_IRQ_PEND_LO : Nat := 0x10604
def HI_IRQ_PEND_HI : Nat := 0x10608
def HI_DB_SQ (n : Nat) : Nat := 0x11000 + 0x8 * n
def HI_DB_CQ (n : Nat) : Nat := 0x11004 + 0x8 * n
def HI_DB_EQ (e : Nat) : Nat := 0x11080 + 0x4 * e
def MET_STATUS : Nat := 0x20004
def MET_CAL_ID : Nat := 0x20010
def MET_CAL_CRC : Nat := 0x20014
def MET_PFAIL_CFG : Nat := 0x20020
def MET_PFAIL_STATUS : Nat := 0x20024
def MET_REFCHK : Nat := 0x20030
def MET_STEST_CTRL : Nat := 0x20040
def MET_STEST_RESULT : Nat := 0x20044
def MET_INCFG (n : Nat) : Nat := 0x20100 + 0x4 * n
def MET_INSCALE (n : Nat) : Nat := 0x20180 + 0x4 * n
def MET_TPMAP_V (n : Nat) : Nat := 0x20200 + 0x10 * n
def MET_TPMAP_I (n : Nat) : Nat := 0x20204 + 0x10 * n
def MET_TPNOM (n : Nat) : Nat := 0x20208 + 0x10 * n
def MET_TPLIM (n : Nat) : Nat := 0x2020C + 0x10 * n
def MET_TPCOND (n : Nat) : Nat := 0x20280 + 0x4 * n
def MET_FL_CFG (n : Nat) : Nat := 0x20300 + 0x40 * n
def MET_FL_MAP (n : Nat) : Nat := 0x20304 + 0x40 * n
def MET_FL_PARAM (n : Nat) : Nat := 0x20308 + 0x40 * n
def MET_FL_LIM (n : Nat) : Nat := 0x2030C + 0x40 * n
def MET_FL_EXP (n : Nat) : Nat := 0x20310 + 0x40 * n
def MET_FL_BORE (n : Nat) : Nat := 0x20314 + 0x40 * n
def MET_FL_PIPE (n : Nat) : Nat := 0x20318 + 0x40 * n
def MET_FL_KFAC (n : Nat) : Nat := 0x2031C + 0x40 * n
def MET_FL_QREF (n : Nat) : Nat := 0x20320 + 0x40 * n
def MET_FL_PREF (n : Nat) : Nat := 0x20324 + 0x40 * n
def MET_FL_TREF (n : Nat) : Nat := 0x20328 + 0x40 * n
def MET_FL_HRET (n : Nat) : Nat := 0x2032C + 0x40 * n
def MET_FL_SUB_P (n : Nat) : Nat := 0x20330 + 0x40 * n
def MET_FL_SUB_T (n : Nat) : Nat := 0x20334 + 0x40 * n
def MET_FL_SUB_RH (n : Nat) : Nat := 0x20338 + 0x40 * n
def MET_FL_SUB_Q (n : Nat) : Nat := 0x2033C + 0x40 * n
def MET_FD_CFG (k : Nat) : Nat := 0x20500 + 0x10 * k
def MET_FD_ERR (k : Nat) : Nat := 0x20504 + 0x10 * k
def MET_MB_SRC (e : Nat) : Nat := 0x20540 + 0x20 * e
def MET_MB_FMT (e : Nat) : Nat := 0x20544 + 0x20 * e
def MET_MB_SCALE (e : Nat) : Nat := 0x20548 + 0x20 * e
def MET_MB_MIN (e : Nat) : Nat := 0x2054C + 0x20 * e
def MET_MB_MAX (e : Nat) : Nat := 0x20550 + 0x20 * e
def MET_MB_AGE (e : Nat) : Nat := 0x20554 + 0x20 * e
def MET_MB_EXPECT (e : Nat) : Nat := 0x20558 + 0x20 * e
def MET_MB_STAT (e : Nat) : Nat := 0x2055C + 0x20 * e
def MET_FLSTAT (n : Nat) : Nat := 0x20740 + 0x4 * n
def MET_PROV_SEQ : Nat := 0x20800
def MET_PROV_Q_LO : Nat := 0x20804
def MET_PROV_Q_HI : Nat := 0x20808
def MET_PROV_STATUS : Nat := 0x2080C
def MET_PROV_PT_FLAGS (n : Nat) : Nat := 0x20840 + 0x40 * n
def MET_PROV_PT_FLSTAT (n : Nat) : Nat := 0x20844 + 0x40 * n
def MET_PROV_PT_SLOT_LO (n k : Nat) : Nat := 0x20848 + 0x40 * n + 8 * k
def MET_PROV_PT_SLOT_HI (n k : Nat) : Nat := 0x2084C + 0x40 * n + 8 * k
def MET_CH_TEMP (c : Nat) : Nat := 0x21004 + 0x4000 * c
def MET_CH_LASTQ_LO (c : Nat) : Nat := 0x21008 + 0x4000 * c
def MET_CH_LASTQ_HI (c : Nat) : Nat := 0x2100C + 0x4000 * c
def MET_CH_LINKERR (c : Nat) : Nat := 0x21010 + 0x4000 * c
def MET_CH_OVR (c : Nat) : Nat := 0x21014 + 0x4000 * c
def MET_CH_REFDEV (c : Nat) : Nat := 0x21018 + 0x4000 * c
def VOT_CTRL : Nat := 0x30000
def VOT_STATUS : Nat := 0x30004
def VOT_DISAG : Nat := 0x30008
def VOT_REVER : Nat := 0x3000C
def VOT_REJOIN : Nat := 0x30010
def VOT_CONFQ_LO : Nat := 0x30014
def VOT_CONFQ_HI : Nat := 0x30018
def VOT_CNT_RETRACT : Nat := 0x3001C
def VOT_CNT_HOLD : Nat := 0x30020
def VOT_TOL (k : Nat) : Nat := 0x30040 + 0x4 * k
def VOT_CH_DEV (c : Nat) : Nat := 0x30060 + 0x4 * c
def BIL_PERIOD_CFG : Nat := 0x31000
def BIL_TAR_ID : Nat := 0x31004
def BIL_RATE_NOW : Nat := 0x31008
def BIL_NEXT_BOUND_LO : Nat := 0x3100C
def BIL_NEXT_BOUND_HI : Nat := 0x31010
def BIL_TIME_STATUS : Nat := 0x31014
def BIL_TIME_CFG : Nat := 0x31018
def BIL_LASTCLOSE_LO : Nat := 0x3101C
def BIL_LASTCLOSE_HI : Nat := 0x31020
def BIL_PERIOD_NO : Nat := 0x31024
def BIL_LOG_STATUS : Nat := 0x31028
def BIL_RDG_SEQ_LO : Nat := 0x3102C
def BIL_RDG_SEQ_HI : Nat := 0x31030
def BIL_SERVO_SUM : Nat := 0x31034
def BIL_DEM_CFG (n : Nat) : Nat := 0x31100 + 0x10 * n
def BIL_DEM_LAST (n : Nat) : Nat := 0x31104 + 0x10 * n
def BIL_DEM_STAT (n : Nat) : Nat := 0x31108 + 0x10 * n
def TPT_CTAB_STATUS : Nat := 0x40000
def TPT_TYPE_SLOTS : Nat := 0x40004
def TPT_IM (c : Nat) : Nat := 0x40010 + 0x4 * c
def TPT_STATE (n : Nat) : Nat := 0x40100 + 0x40 * n
def TPT_SESSION (n : Nat) : Nat := 0x40104 + 0x40 * n
def TPT_CFG (n : Nat) : Nat := 0x40108 + 0x40 * n
def TPT_LINK (n : Nat) : Nat := 0x4010C + 0x40 * n
def TPT_TIMES (n : Nat) : Nat := 0x40110 + 0x40 * n
def TPT_LIMIT (n : Nat) : Nat := 0x40114 + 0x40 * n
def TPT_LEAK (n : Nat) : Nat := 0x40118 + 0x40 * n
def TPT_LEAK2 (n : Nat) : Nat := 0x4011C + 0x40 * n
def PTN_CAN_CFG (j : Nat) : Nat := 0x50000 + 0x4 * j
def PTN_MAC_CFG (m : Nat) : Nat := 0x50010 + 0x4 * m
def PTN_CP (k : Nat) : Nat := 0x50100 + 0x20 * k
def PTN_PP (k : Nat) : Nat := 0x50104 + 0x20 * k
def PTN_COUP (k : Nat) : Nat := 0x50108 + 0x20 * k
def PTN_ERR (k : Nat) : Nat := 0x5010C + 0x20 * k
def LSW_STATUS : Nat := 0x60000
def LSW_THERM : Nat := 0x60004
def LSW_AGG : Nat := 0x60008
def LSW_CMD : Nat := 0x6000C
def LSW_LATCH : Nat := 0x60010
def LSW_PWM_PER (g : Nat) : Nat := 0x60040 + 0x8 * g
def LSW_PWM_DUTY (g : Nat) : Nat := 0x60044 + 0x8 * g
def LSW_CH_CFG (n : Nat) : Nat := 0x60100 + 0x10 * n
def LSW_CH_LIM (n : Nat) : Nat := 0x60104 + 0x10 * n
def LSW_CH_STAT (n : Nat) : Nat := 0x60108 + 0x10 * n
def LSW_CH_CNT (n : Nat) : Nat := 0x6010C + 0x10 * n
def SAF_STATUS : Nat := 0x70000
def SAF_CFG_CRC : Nat := 0x70004
def SAF_IN : Nat := 0x70008
def SAF_OUT : Nat := 0x7000C
def SAF_FAULT : Nat := 0x70010
def SAF_TWOHAND : Nat := 0x70014
def SAF_RESET_REQ : Nat := 0x70018
def SAF_FUNC (f : Nat) : Nat := 0x70040 + 0x8 * f
def SAF_FUNC_MASK (f : Nat) : Nat := 0x70044 + 0x8 * f
def MTL_CFG : Nat := 0x80000
def MTL_TX : Nat := 0x80004
def MTL_TIMING : Nat := 0x80008
def MTL_STATUS : Nat := 0x8000C
def MTL_ADVSET : Nat := 0x80010
def MTL_CNT_TX : Nat := 0x80014
def MTL_CNT_RX : Nat := 0x80018
def MTL_CNT_ARQ : Nat := 0x8001C
def MTL_CNT_ERAS : Nat := 0x80020
def MTL_NB_ID (j : Nat) : Nat := 0x80100 + 0x10 * j
def MTL_NB_LINK (j : Nat) : Nat := 0x80104 + 0x10 * j
def MTL_NB_AGE (j : Nat) : Nat := 0x80108 + 0x10 * j
def MTL_NB_CNT (j : Nat) : Nat := 0x8010C + 0x10 * j
def FAB_STATUS : Nat := 0x90000
def FAB_ID_CFG : Nat := 0x90004
def FAB_ADDR_CFG : Nat := 0x90008
def FAB_COLL_CFG : Nat := 0x9000C
def FAB_REP_CFG : Nat := 0x90010
def FAB_KEY_CFG : Nat := 0x90014
def FAB_QUAR_CFG : Nat := 0x90018
def FAB_CMD_PRIV : Nat := 0x9001C
def FAB_PTP_CFG : Nat := 0x90020
def FAB_PTP_STATUS : Nat := 0x90024
def FAB_PTP_OFFSET : Nat := 0x90028
def FAB_KEY_EPOCH : Nat := 0x9002C
def FAB_PAIR_CFG : Nat := 0x90030
def FAB_PAIR_STATUS : Nat := 0x90034
def FAB_NODES : Nat := 0x90040
def FAB_DUP_STATUS : Nat := 0x90044
def FAB_REP_SEQ : Nat := 0x90048
def FAB_DROPS : Nat := 0x9004C
def FAB_PORT_CFG (k : Nat) : Nat := 0x90100 + 0x10 * k
def FAB_PORT_STATUS (k : Nat) : Nat := 0x90104 + 0x10 * k
def FAB_PORT_ERR (k : Nat) : Nat := 0x90108 + 0x10 * k
def FAB_PORT_AUTH (k : Nat) : Nat := 0x9010C + 0x10 * k
def KEY_STATUS : Nat := 0xA0000
def KEY_LIFE : Nat := 0xA0004
def KEY_CHG_LEFT : Nat := 0xA0008
def KEY_IDENT_LO : Nat := 0xA000C
def KEY_IDENT_HI : Nat := 0xA0010
def KEY_RDG_KID : Nat := 0xA0014
def KEY_INTEG : Nat := 0xA0018
def KEY_TMP_CFG : Nat := 0xA0020
def KEY_TMP_STAT : Nat := 0xA0024
def KEY_SLOT_SEL : Nat := 0xA0030
def KEY_SLOT_INFO : Nat := 0xA0034
def KEY_SLOT_DEST : Nat := 0xA0038
def KEY_SLOT_CNT : Nat := 0xA003C
def LDP_CTRL : Nat := 0xB0000
def LDP_GEOM : Nat := 0xB0004
def LDP_LEGAL : Nat := 0xB0008
def LDP_STATUS : Nat := 0xB000C
def LDP_VCOM : Nat := 0xB0010
def LDP_VCOM_NOW : Nat := 0xB0014
def LDP_CNT : Nat := 0xB0018
def LDP_STRESS (b : Nat) : Nat := 0xB0040 + 0x4 * b
def LDP_DIRTY (k : Nat) : Nat := 0xB0080 + 0x4 * k
def QUE_STATUS : Nat := 0xC0000
def QUE_CFG (i : Nat) : Nat := 0xC0100 + 0x10 * i
def QUE_FILL (i : Nat) : Nat := 0xC0104 + 0x10 * i
def QUE_STAT (i : Nat) : Nat := 0xC0108 + 0x10 * i
def QUE_DROP (i : Nat) : Nat := 0xC010C + 0x10 * i
def UPD_CFG : Nat := 0xD0000
def UPD_STATUS : Nat := 0xD0004
def UPD_INCOMING : Nat := 0xD0008
def UPD_SLOT (g : Nat) : Nat := 0xD0010 + 0x4 * g
def UPD_ENG_VER (e : Nat) : Nat := 0xD0040 + 0x8 * e
def UPD_ENG_STAT (e : Nat) : Nat := 0xD0044 + 0x8 * e

end R

/-! ### Fields -/

namespace F

def MG_RESET_CAUSE_START_SRC : Fld := ⟨R.MG_RESET_CAUSE, 31, 24⟩
def MG_RESET_CAUSE_ISL_SRC : Fld := ⟨R.MG_RESET_CAUSE, 23, 16⟩
def MG_RESET_CAUSE_ISLAND : Fld := ⟨R.MG_RESET_CAUSE, 15, 12⟩
def MG_RESET_CNT_STARTS : Fld := ⟨R.MG_RESET_CNT, 31, 16⟩
def MG_RESET_CNT_ISL_RESETS : Fld := ⟨R.MG_RESET_CNT, 15, 0⟩
def MG_BOOT_STATUS_READY : Fld := ⟨R.MG_BOOT_STATUS, 31, 31⟩
def MG_BOOT_STATUS_RECOVERY : Fld := ⟨R.MG_BOOT_STATUS, 30, 30⟩
def MG_BOOT_STATUS_FIRST_START : Fld := ⟨R.MG_BOOT_STATUS, 29, 29⟩
def MG_BOOT_STATUS_HELD : Fld := ⟨R.MG_BOOT_STATUS, 19, 8⟩
def MG_BOOT_STATUS_BOOT_TIME : Fld := ⟨R.MG_BOOT_STATUS, 7, 0⟩
def MG_PART_ORDER : Fld := ⟨R.MG_PART, 7, 0⟩
def MG_TEMP_PEAK : Fld := ⟨R.MG_TEMP, 31, 23⟩
def MG_TEMP_HOT : Fld := ⟨R.MG_TEMP, 9, 9⟩
def MG_TEMP_SHELL : Fld := ⟨R.MG_TEMP, 8, 0⟩
def MG_ISLAND_STATE_STATE : Fld := ⟨R.MG_ISLAND_STATE, 25, 0⟩
def MG_ISLAND_FAULT_FENCED : Fld := ⟨R.MG_ISLAND_FAULT, 12, 0⟩
def MG_CLKMON_STATUS_REF_FAULT : Fld := ⟨R.MG_CLKMON_STATUS, 31, 31⟩
def MG_CLKMON_STATUS_REMOTE : Fld := ⟨R.MG_CLKMON_STATUS, 28, 16⟩
def MG_CLKMON_STATUS_LOCAL : Fld := ⟨R.MG_CLKMON_STATUS, 12, 0⟩
def MG_WDT_STATUS_EXPIRED : Fld := ⟨R.MG_WDT_STATUS, 19, 0⟩
def MG_XING_STALL_COUNT : Fld := ⟨R.MG_XING_STALL, 31, 16⟩
def MG_XING_STALL_LAST_ID : Fld := ⟨R.MG_XING_STALL, 7, 0⟩
def MG_ECC_COUNT_UNCORR : Fld := ⟨R.MG_ECC_COUNT, 31, 16⟩
def MG_ECC_COUNT_CORR : Fld := ⟨R.MG_ECC_COUNT, 15, 0⟩
def MG_ECC_LAST_UE : Fld := ⟨R.MG_ECC_LAST, 31, 31⟩
def MG_ECC_LAST_ISLAND : Fld := ⟨R.MG_ECC_LAST, 30, 27⟩
def MG_ECC_LAST_MEM : Fld := ⟨R.MG_ECC_LAST, 26, 24⟩
def MG_ECC_LAST_WORD : Fld := ⟨R.MG_ECC_LAST, 23, 0⟩
def MG_SCRUB_CTRL_PERIOD_H : Fld := ⟨R.MG_SCRUB_CTRL, 4, 0⟩
def MG_FAULT_LAST_CLASS : Fld := ⟨R.MG_FAULT_LAST, 31, 28⟩
def MG_FAULT_LAST_ISLAND : Fld := ⟨R.MG_FAULT_LAST, 27, 24⟩
def MG_FAULT_LAST_LOCKSTEP : Fld := ⟨R.MG_FAULT_LAST, 23, 16⟩
def MG_FAULT_LAST_SEQ : Fld := ⟨R.MG_FAULT_LAST, 15, 0⟩
def MG_I2C_CFG_FAST : Fld := ⟨R.MG_I2C_CFG, 1, 1⟩
def MG_I2C_CFG_EN : Fld := ⟨R.MG_I2C_CFG, 0, 0⟩
def MG_I2C_STAT_FAULTS : Fld := ⟨R.MG_I2C_STAT, 31, 16⟩
def MG_I2C_STAT_STUCK : Fld := ⟨R.MG_I2C_STAT, 2, 2⟩
def MG_I2C_STAT_BUSY : Fld := ⟨R.MG_I2C_STAT, 1, 1⟩
def MG_I2C_STAT_SDA : Fld := ⟨R.MG_I2C_STAT, 0, 0⟩
def HI_ID_DEVICE : Fld := ⟨R.HI_ID, 31, 16⟩
def HI_ID_STEPPING : Fld := ⟨R.HI_ID, 15, 8⟩
def HI_STATUS_PORT : Fld := ⟨R.HI_STATUS, 31, 30⟩
def HI_STATUS_GEN : Fld := ⟨R.HI_STATUS, 27, 26⟩
def HI_STATUS_WIDTH : Fld := ⟨R.HI_STATUS, 25, 24⟩
def HI_STATUS_EQ_ERR : Fld := ⟨R.HI_STATUS, 20, 17⟩
def HI_STATUS_PRIV_LOCKED : Fld := ⟨R.HI_STATUS, 16, 16⟩
def HI_CTRL_RETRAIN : Fld := ⟨R.HI_CTRL, 6, 6⟩
def HI_CTRL_GEN_CAP : Fld := ⟨R.HI_CTRL, 5, 4⟩
def HI_CTRL_PRIV_LOCK : Fld := ⟨R.HI_CTRL, 0, 0⟩
def HI_RING_ERR_CQ : Fld := ⟨R.HI_RING_ERR, 31, 16⟩
def HI_RING_ERR_SQ : Fld := ⟨R.HI_RING_ERR, 15, 0⟩
def HI_SQ_BASE_LO_BASE (n : Nat) : Fld := ⟨R.HI_SQ_BASE_LO n, 31, 0⟩
def HI_SQ_BASE_HI_BASE (n : Nat) : Fld := ⟨R.HI_SQ_BASE_HI n, 31, 0⟩
def HI_SQ_CFG_EN (n : Nat) : Fld := ⟨R.HI_SQ_CFG n, 31, 31⟩
def HI_SQ_CFG_PRIV (n : Nat) : Fld := ⟨R.HI_SQ_CFG n, 30, 26⟩
def HI_SQ_CFG_CQ (n : Nat) : Fld := ⟨R.HI_SQ_CFG n, 25, 22⟩
def HI_SQ_CFG_WEIGHT (n : Nat) : Fld := ⟨R.HI_SQ_CFG n, 21, 20⟩
def HI_SQ_CFG_SIZE (n : Nat) : Fld := ⟨R.HI_SQ_CFG n, 12, 0⟩
def HI_SQ_STATUS_STOPPED (n : Nat) : Fld := ⟨R.HI_SQ_STATUS n, 31, 31⟩
def HI_SQ_STATUS_ERR (n : Nat) : Fld := ⟨R.HI_SQ_STATUS n, 30, 30⟩
def HI_SQ_STATUS_HEAD (n : Nat) : Fld := ⟨R.HI_SQ_STATUS n, 12, 0⟩
def HI_CQ_BASE_LO_BASE (n : Nat) : Fld := ⟨R.HI_CQ_BASE_LO n, 31, 0⟩
def HI_CQ_BASE_HI_BASE (n : Nat) : Fld := ⟨R.HI_CQ_BASE_HI n, 31, 0⟩
def HI_CQ_CFG_EN (n : Nat) : Fld := ⟨R.HI_CQ_CFG n, 31, 31⟩
def HI_CQ_CFG_IEN (n : Nat) : Fld := ⟨R.HI_CQ_CFG n, 30, 30⟩
def HI_CQ_CFG_VECTOR (n : Nat) : Fld := ⟨R.HI_CQ_CFG n, 29, 24⟩
def HI_CQ_CFG_COAL_CNT (n : Nat) : Fld := ⟨R.HI_CQ_CFG n, 23, 20⟩
def HI_CQ_CFG_COAL_TIME (n : Nat) : Fld := ⟨R.HI_CQ_CFG n, 19, 13⟩
def HI_CQ_CFG_SIZE (n : Nat) : Fld := ⟨R.HI_CQ_CFG n, 12, 0⟩
def HI_CQ_STATUS_STOPPED (n : Nat) : Fld := ⟨R.HI_CQ_STATUS n, 31, 31⟩
def HI_CQ_STATUS_GAP_PEND (n : Nat) : Fld := ⟨R.HI_CQ_STATUS n, 30, 30⟩
def HI_CQ_STATUS_DROPPED (n : Nat) : Fld := ⟨R.HI_CQ_STATUS n, 29, 16⟩
def HI_CQ_STATUS_TAIL (n : Nat) : Fld := ⟨R.HI_CQ_STATUS n, 12, 0⟩
def HI_EQ_BASE_LO_BASE (e : Nat) : Fld := ⟨R.HI_EQ_BASE_LO e, 31, 0⟩
def HI_EQ_BASE_HI_BASE (e : Nat) : Fld := ⟨R.HI_EQ_BASE_HI e, 31, 0⟩
def HI_EQ_CFG_EN (e : Nat) : Fld := ⟨R.HI_EQ_CFG e, 31, 31⟩
def HI_EQ_CFG_IEN (e : Nat) : Fld := ⟨R.HI_EQ_CFG e, 30, 30⟩
def HI_EQ_CFG_VECTOR (e : Nat) : Fld := ⟨R.HI_EQ_CFG e, 29, 24⟩
def HI_EQ_CFG_COAL_CNT (e : Nat) : Fld := ⟨R.HI_EQ_CFG e, 23, 20⟩
def HI_EQ_CFG_COAL_TIME (e : Nat) : Fld := ⟨R.HI_EQ_CFG e, 19, 13⟩
def HI_EQ_CFG_SIZE (e : Nat) : Fld := ⟨R.HI_EQ_CFG e, 12, 0⟩
def HI_EQ_STATUS_STOPPED (e : Nat) : Fld := ⟨R.HI_EQ_STATUS e, 31, 31⟩
def HI_EQ_STATUS_GAP_PEND (e : Nat) : Fld := ⟨R.HI_EQ_STATUS e, 30, 30⟩
def HI_EQ_STATUS_DROPPED (e : Nat) : Fld := ⟨R.HI_EQ_STATUS e, 29, 16⟩
def HI_EQ_STATUS_TAIL (e : Nat) : Fld := ⟨R.HI_EQ_STATUS e, 12, 0⟩
def HI_EV_MASK_EN (k : Nat) : Fld := ⟨R.HI_EV_MASK k, 31, 0⟩
def HI_EV_ROUTE_EQ (k : Nat) : Fld := ⟨R.HI_EV_ROUTE k, 31, 0⟩
def HI_DP_ADDR_LO_ADDR : Fld := ⟨R.HI_DP_ADDR_LO, 31, 0⟩
def HI_DP_ADDR_HI_ADDR : Fld := ⟨R.HI_DP_ADDR_HI, 31, 0⟩
def HI_DP_CTRL_MODE : Fld := ⟨R.HI_DP_CTRL, 31, 31⟩
def HI_DP_CTRL_ERR : Fld := ⟨R.HI_DP_CTRL, 8, 8⟩
def HI_DP_CTRL_ELEM : Fld := ⟨R.HI_DP_CTRL, 7, 0⟩
def HI_DP_STRIDE_STRIDE : Fld := ⟨R.HI_DP_STRIDE, 31, 0⟩
def HI_SPI_WIN_WIN : Fld := ⟨R.HI_SPI_WIN, 4, 0⟩
def HI_IRQ_PEND_LO_PEND : Fld := ⟨R.HI_IRQ_PEND_LO, 31, 0⟩
def HI_IRQ_PEND_HI_PEND : Fld := ⟨R.HI_IRQ_PEND_HI, 31, 0⟩
def HI_DB_SQ_INDEX (n : Nat) : Fld := ⟨R.HI_DB_SQ n, 12, 0⟩
def HI_DB_CQ_INDEX (n : Nat) : Fld := ⟨R.HI_DB_CQ n, 12, 0⟩
def HI_DB_EQ_INDEX (e : Nat) : Fld := ⟨R.HI_DB_EQ e, 12, 0⟩
def MET_STATUS_TEMP_OOR : Fld := ⟨R.MET_STATUS, 20, 18⟩
def MET_STATUS_BAND : Fld := ⟨R.MET_STATUS, 17, 9⟩
def MET_STATUS_LINK_UP : Fld := ⟨R.MET_STATUS, 8, 6⟩
def MET_STATUS_REF_SUSPECT : Fld := ⟨R.MET_STATUS, 5, 3⟩
def MET_STATUS_CH_RUN : Fld := ⟨R.MET_STATUS, 2, 0⟩
def MET_CAL_ID_SLOTS_LEFT : Fld := ⟨R.MET_CAL_ID, 20, 16⟩
def MET_CAL_ID_SET_NO : Fld := ⟨R.MET_CAL_ID, 15, 0⟩
def MET_CAL_CRC_CRC : Fld := ⟨R.MET_CAL_CRC, 31, 0⟩
def MET_PFAIL_CFG_VF_THR : Fld := ⟨R.MET_PFAIL_CFG, 11, 4⟩
def MET_PFAIL_CFG_VF_EN : Fld := ⟨R.MET_PFAIL_CFG, 1, 1⟩
def MET_PFAIL_CFG_PIN_EN : Fld := ⟨R.MET_PFAIL_CFG, 0, 0⟩
def MET_PFAIL_STATUS_COUNT : Fld := ⟨R.MET_PFAIL_STATUS, 31, 16⟩
def MET_PFAIL_STATUS_VF_LOW : Fld := ⟨R.MET_PFAIL_STATUS, 1, 1⟩
def MET_PFAIL_STATUS_PIN_LOW : Fld := ⟨R.MET_PFAIL_STATUS, 0, 0⟩
def MET_REFCHK_WORST_PPM : Fld := ⟨R.MET_REFCHK, 31, 16⟩
def MET_REFCHK_SUSPECT : Fld := ⟨R.MET_REFCHK, 2, 0⟩
def MET_STEST_CTRL_PENDING : Fld := ⟨R.MET_STEST_CTRL, 23, 16⟩
def MET_STEST_CTRL_BUSY : Fld := ⟨R.MET_STEST_CTRL, 15, 8⟩
def MET_STEST_CTRL_REQ : Fld := ⟨R.MET_STEST_CTRL, 7, 0⟩
def MET_STEST_RESULT_PASS : Fld := ⟨R.MET_STEST_RESULT, 23, 0⟩
def MET_INCFG_INVERT (n : Nat) : Fld := ⟨R.MET_INCFG n, 4, 4⟩
def MET_INCFG_TYPE (n : Nat) : Fld := ⟨R.MET_INCFG n, 3, 0⟩
def MET_INSCALE_SCALE (n : Nat) : Fld := ⟨R.MET_INSCALE n, 31, 0⟩
def MET_TPMAP_V_VNE (n : Nat) : Fld := ⟨R.MET_TPMAP_V n, 19, 15⟩
def MET_TPMAP_V_V3 (n : Nat) : Fld := ⟨R.MET_TPMAP_V n, 14, 10⟩
def MET_TPMAP_V_V2 (n : Nat) : Fld := ⟨R.MET_TPMAP_V n, 9, 5⟩
def MET_TPMAP_V_V1 (n : Nat) : Fld := ⟨R.MET_TPMAP_V n, 4, 0⟩
def MET_TPMAP_I_RCM (n : Nat) : Fld := ⟨R.MET_TPMAP_I n, 24, 20⟩
def MET_TPMAP_I_IN (n : Nat) : Fld := ⟨R.MET_TPMAP_I n, 19, 15⟩
def MET_TPMAP_I_I3 (n : Nat) : Fld := ⟨R.MET_TPMAP_I n, 14, 10⟩
def MET_TPMAP_I_I2 (n : Nat) : Fld := ⟨R.MET_TPMAP_I n, 9, 5⟩
def MET_TPMAP_I_I1 (n : Nat) : Fld := ⟨R.MET_TPMAP_I n, 4, 0⟩
def MET_TPNOM_IREF (n : Nat) : Fld := ⟨R.MET_TPNOM n, 31, 16⟩
def MET_TPNOM_VNOM (n : Nat) : Fld := ⟨R.MET_TPNOM n, 15, 0⟩
def MET_TPLIM_F60 (n : Nat) : Fld := ⟨R.MET_TPLIM n, 24, 24⟩
def MET_TPLIM_VNE_LIM (n : Nat) : Fld := ⟨R.MET_TPLIM n, 23, 16⟩
def MET_TPLIM_START (n : Nat) : Fld := ⟨R.MET_TPLIM n, 15, 8⟩
def MET_TPLIM_NOLOAD (n : Nat) : Fld := ⟨R.MET_TPLIM n, 7, 0⟩
def MET_TPCOND_TEST_OK (n : Nat) : Fld := ⟨R.MET_TPCOND n, 7, 7⟩
def MET_TPCOND_TEST_ACTIVE (n : Nat) : Fld := ⟨R.MET_TPCOND n, 6, 6⟩
def MET_TPCOND_OVR (n : Nat) : Fld := ⟨R.MET_TPCOND n, 5, 5⟩
def MET_TPCOND_RCM_SENS (n : Nat) : Fld := ⟨R.MET_TPCOND n, 4, 4⟩
def MET_TPCOND_RCM_TRIP (n : Nat) : Fld := ⟨R.MET_TPCOND n, 3, 3⟩
def MET_TPCOND_NEUT_MISS (n : Nat) : Fld := ⟨R.MET_TPCOND n, 2, 2⟩
def MET_TPCOND_PHASE_LOSS (n : Nat) : Fld := ⟨R.MET_TPCOND n, 1, 1⟩
def MET_TPCOND_SEQ_ERR (n : Nat) : Fld := ⟨R.MET_TPCOND n, 0, 0⟩
def MET_FL_CFG_MBQ (n : Nat) : Fld := ⟨R.MET_FL_CFG n, 31, 28⟩
def MET_FL_CFG_PI (n : Nat) : Fld := ⟨R.MET_FL_CFG n, 27, 24⟩
def MET_FL_CFG_XMB (n : Nat) : Fld := ⟨R.MET_FL_CFG n, 23, 20⟩
def MET_FL_CFG_PRIM (n : Nat) : Fld := ⟨R.MET_FL_CFG n, 7, 5⟩
def MET_FL_CFG_PTAP (n : Nat) : Fld := ⟨R.MET_FL_CFG n, 4, 4⟩
def MET_FL_CFG_X_SRC (n : Nat) : Fld := ⟨R.MET_FL_CFG n, 3, 3⟩
def MET_FL_CFG_SUBM (n : Nat) : Fld := ⟨R.MET_FL_CFG n, 1, 1⟩
def MET_FL_MAP_RH (n : Nat) : Fld := ⟨R.MET_FL_MAP n, 19, 15⟩
def MET_FL_MAP_T (n : Nat) : Fld := ⟨R.MET_FL_MAP n, 14, 10⟩
def MET_FL_MAP_P (n : Nat) : Fld := ⟨R.MET_FL_MAP n, 9, 5⟩
def MET_FL_MAP_DP (n : Nat) : Fld := ⟨R.MET_FL_MAP n, 4, 0⟩
def MET_FL_PARAM_RHN (n : Nat) : Fld := ⟨R.MET_FL_PARAM n, 24, 18⟩
def MET_FL_PARAM_SAT_BAND (n : Nat) : Fld := ⟨R.MET_FL_PARAM n, 17, 10⟩
def MET_FL_PARAM_X_FIX (n : Nat) : Fld := ⟨R.MET_FL_PARAM n, 9, 0⟩
def MET_FL_LIM_SUB_STOP (n : Nat) : Fld := ⟨R.MET_FL_LIM n, 31, 16⟩
def MET_FL_LIM_HOLD (n : Nat) : Fld := ⟨R.MET_FL_LIM n, 15, 10⟩
def MET_FL_LIM_CUT (n : Nat) : Fld := ⟨R.MET_FL_LIM n, 9, 0⟩
def MET_FL_EXP_LAM_BORE (n : Nat) : Fld := ⟨R.MET_FL_EXP n, 31, 16⟩
def MET_FL_EXP_LAM_PIPE (n : Nat) : Fld := ⟨R.MET_FL_EXP n, 15, 0⟩
def MET_FL_BORE_BORE (n : Nat) : Fld := ⟨R.MET_FL_BORE n, 31, 0⟩
def MET_FL_PIPE_PIPE (n : Nat) : Fld := ⟨R.MET_FL_PIPE n, 31, 0⟩
def MET_FL_KFAC_KFAC (n : Nat) : Fld := ⟨R.MET_FL_KFAC n, 31, 0⟩
def MET_FL_QREF_QREF (n : Nat) : Fld := ⟨R.MET_FL_QREF n, 31, 0⟩
def MET_FL_PREF_PREF (n : Nat) : Fld := ⟨R.MET_FL_PREF n, 31, 0⟩
def MET_FL_TREF_TREF (n : Nat) : Fld := ⟨R.MET_FL_TREF n, 31, 0⟩
def MET_FL_HRET_HRET (n : Nat) : Fld := ⟨R.MET_FL_HRET n, 31, 0⟩
def MET_FL_SUB_P_SUB_P (n : Nat) : Fld := ⟨R.MET_FL_SUB_P n, 31, 0⟩
def MET_FL_SUB_T_SUB_T (n : Nat) : Fld := ⟨R.MET_FL_SUB_T n, 31, 0⟩
def MET_FL_SUB_RH_SUB_RH (n : Nat) : Fld := ⟨R.MET_FL_SUB_RH n, 31, 0⟩
def MET_FL_SUB_Q_SUB_Q (n : Nat) : Fld := ⟨R.MET_FL_SUB_Q n, 31, 0⟩
def MET_FD_CFG_TOUT (k : Nat) : Fld := ⟨R.MET_FD_CFG k, 23, 16⟩
def MET_FD_CFG_RETRY (k : Nat) : Fld := ⟨R.MET_FD_CFG k, 15, 14⟩
def MET_FD_CFG_PARITY (k : Nat) : Fld := ⟨R.MET_FD_CFG k, 13, 12⟩
def MET_FD_CFG_BAUD (k : Nat) : Fld := ⟨R.MET_FD_CFG k, 11, 8⟩
def MET_FD_CFG_EN (k : Nat) : Fld := ⟨R.MET_FD_CFG k, 0, 0⟩
def MET_FD_ERR_TOUT_CNT (k : Nat) : Fld := ⟨R.MET_FD_ERR k, 31, 20⟩
def MET_FD_ERR_FRAME_CNT (k : Nat) : Fld := ⟨R.MET_FD_ERR k, 19, 8⟩
def MET_FD_ERR_EXC_CNT (k : Nat) : Fld := ⟨R.MET_FD_ERR k, 7, 0⟩
def MET_MB_SRC_REG (e : Nat) : Fld := ⟨R.MET_MB_SRC e, 31, 16⟩
def MET_MB_SRC_SLAVE (e : Nat) : Fld := ⟨R.MET_MB_SRC e, 7, 0⟩
def MET_MB_FMT_EN (e : Nat) : Fld := ⟨R.MET_MB_FMT e, 31, 31⟩
def MET_MB_FMT_PORT (e : Nat) : Fld := ⟨R.MET_MB_FMT e, 29, 28⟩
def MET_MB_FMT_FUNC (e : Nat) : Fld := ⟨R.MET_MB_FMT e, 27, 26⟩
def MET_MB_FMT_ROLE (e : Nat) : Fld := ⟨R.MET_MB_FMT e, 25, 24⟩
def MET_MB_FMT_FMT (e : Nat) : Fld := ⟨R.MET_MB_FMT e, 23, 21⟩
def MET_MB_FMT_WSWAP (e : Nat) : Fld := ⟨R.MET_MB_FMT e, 20, 20⟩
def MET_MB_FMT_LINK (e : Nat) : Fld := ⟨R.MET_MB_FMT e, 19, 16⟩
def MET_MB_FMT_PERIOD (e : Nat) : Fld := ⟨R.MET_MB_FMT e, 15, 0⟩
def MET_MB_SCALE_SCALE (e : Nat) : Fld := ⟨R.MET_MB_SCALE e, 31, 0⟩
def MET_MB_MIN_MIN (e : Nat) : Fld := ⟨R.MET_MB_MIN e, 31, 0⟩
def MET_MB_MAX_MAX (e : Nat) : Fld := ⟨R.MET_MB_MAX e, 31, 0⟩
def MET_MB_AGE_MAXAGE (e : Nat) : Fld := ⟨R.MET_MB_AGE e, 31, 16⟩
def MET_MB_AGE_TOTTOL (e : Nat) : Fld := ⟨R.MET_MB_AGE e, 15, 0⟩
def MET_MB_EXPECT_EXPECT (e : Nat) : Fld := ⟨R.MET_MB_EXPECT e, 31, 0⟩
def MET_MB_STAT_AGE (e : Nat) : Fld := ⟨R.MET_MB_STAT e, 31, 16⟩
def MET_MB_STAT_TOT_MIS (e : Nat) : Fld := ⟨R.MET_MB_STAT e, 3, 3⟩
def MET_MB_STAT_ID_FAIL (e : Nat) : Fld := ⟨R.MET_MB_STAT e, 2, 2⟩
def MET_MB_STAT_IMPL (e : Nat) : Fld := ⟨R.MET_MB_STAT e, 1, 1⟩
def MET_MB_STAT_VALID (e : Nat) : Fld := ⟨R.MET_MB_STAT e, 0, 0⟩
def MET_FLSTAT_STATUS (n : Nat) : Fld := ⟨R.MET_FLSTAT n, 16, 0⟩
def MET_PROV_SEQ_SEQ : Fld := ⟨R.MET_PROV_SEQ, 31, 0⟩
def MET_PROV_Q_LO_QNUM : Fld := ⟨R.MET_PROV_Q_LO, 31, 0⟩
def MET_PROV_Q_HI_QNUM : Fld := ⟨R.MET_PROV_Q_HI, 31, 0⟩
def MET_PROV_STATUS_VALID : Fld := ⟨R.MET_PROV_STATUS, 15, 8⟩
def MET_PROV_STATUS_PRESENT : Fld := ⟨R.MET_PROV_STATUS, 2, 2⟩
def MET_PROV_STATUS_CH : Fld := ⟨R.MET_PROV_STATUS, 1, 0⟩
def MET_PROV_PT_FLAGS_MARKS (n : Nat) : Fld := ⟨R.MET_PROV_PT_FLAGS n, 23, 16⟩
def MET_PROV_PT_FLAGS_COND (n : Nat) : Fld := ⟨R.MET_PROV_PT_FLAGS n, 15, 0⟩
def MET_PROV_PT_FLSTAT_STATUS (n : Nat) : Fld := ⟨R.MET_PROV_PT_FLSTAT n, 31, 0⟩
def MET_PROV_PT_SLOT_LO_VALUE (n k : Nat) : Fld := ⟨R.MET_PROV_PT_SLOT_LO n k, 31, 0⟩
def MET_PROV_PT_SLOT_HI_VALUE (n k : Nat) : Fld := ⟨R.MET_PROV_PT_SLOT_HI n k, 31, 0⟩
def MET_CH_TEMP_TEMP (c : Nat) : Fld := ⟨R.MET_CH_TEMP c, 15, 0⟩
def MET_CH_LASTQ_LO_QNUM (c : Nat) : Fld := ⟨R.MET_CH_LASTQ_LO c, 31, 0⟩
def MET_CH_LASTQ_HI_QNUM (c : Nat) : Fld := ⟨R.MET_CH_LASTQ_HI c, 31, 0⟩
def MET_CH_LINKERR_BADQ (c : Nat) : Fld := ⟨R.MET_CH_LINKERR c, 31, 16⟩
def MET_CH_LINKERR_BADF (c : Nat) : Fld := ⟨R.MET_CH_LINKERR c, 15, 0⟩
def MET_CH_OVR_OVR (c : Nat) : Fld := ⟨R.MET_CH_OVR c, 23, 0⟩
def MET_CH_REFDEV_DEV (c : Nat) : Fld := ⟨R.MET_CH_REFDEV c, 15, 0⟩
def VOT_CTRL_FORCE_OUT : Fld := ⟨R.VOT_CTRL, 10, 8⟩
def VOT_CTRL_REVERIFY : Fld := ⟨R.VOT_CTRL, 6, 4⟩
def VOT_CTRL_AUTO_REVER : Fld := ⟨R.VOT_CTRL, 0, 0⟩
def VOT_STATUS_HOLD : Fld := ⟨R.VOT_STATUS, 23, 16⟩
def VOT_STATUS_MODE : Fld := ⟨R.VOT_STATUS, 15, 14⟩
def VOT_STATUS_LAG : Fld := ⟨R.VOT_STATUS, 13, 11⟩
def VOT_STATUS_CH_STATE : Fld := ⟨R.VOT_STATUS, 8, 0⟩
def VOT_DISAG_CONSEC : Fld := ⟨R.VOT_DISAG, 5, 0⟩
def VOT_REVER_RUN_C : Fld := ⟨R.VOT_REVER, 22, 16⟩
def VOT_REVER_RUN_B : Fld := ⟨R.VOT_REVER, 14, 8⟩
def VOT_REVER_RUN_A : Fld := ⟨R.VOT_REVER, 6, 0⟩
def VOT_REJOIN_COUNT : Fld := ⟨R.VOT_REJOIN, 11, 0⟩
def VOT_CONFQ_LO_QNUM : Fld := ⟨R.VOT_CONFQ_LO, 31, 0⟩
def VOT_CONFQ_HI_QNUM : Fld := ⟨R.VOT_CONFQ_HI, 31, 0⟩
def VOT_CNT_RETRACT_COUNT : Fld := ⟨R.VOT_CNT_RETRACT, 31, 0⟩
def VOT_CNT_HOLD_COUNT : Fld := ⟨R.VOT_CNT_HOLD, 31, 0⟩
def VOT_TOL_REL (k : Nat) : Fld := ⟨R.VOT_TOL k, 31, 24⟩
def VOT_TOL_ABS (k : Nat) : Fld := ⟨R.VOT_TOL k, 16, 0⟩
def VOT_CH_DEV_DISAG (c : Nat) : Fld := ⟨R.VOT_CH_DEV c, 31, 16⟩
def VOT_CH_DEV_DEV (c : Nat) : Fld := ⟨R.VOT_CH_DEV c, 15, 0⟩
def BIL_PERIOD_CFG_MODE : Fld := ⟨R.BIL_PERIOD_CFG, 17, 16⟩
def BIL_PERIOD_CFG_DAY : Fld := ⟨R.BIL_PERIOD_CFG, 12, 8⟩
def BIL_PERIOD_CFG_HOUR : Fld := ⟨R.BIL_PERIOD_CFG, 4, 0⟩
def BIL_TAR_ID_SLOTS_LEFT : Fld := ⟨R.BIL_TAR_ID, 30, 24⟩
def BIL_TAR_ID_DEFAULT_RATE : Fld := ⟨R.BIL_TAR_ID, 19, 16⟩
def BIL_TAR_ID_STRUCT_NO : Fld := ⟨R.BIL_TAR_ID, 15, 0⟩
def BIL_RATE_NOW_RATE : Fld := ⟨R.BIL_RATE_NOW, 31, 0⟩
def BIL_NEXT_BOUND_LO_TIME : Fld := ⟨R.BIL_NEXT_BOUND_LO, 31, 0⟩
def BIL_NEXT_BOUND_HI_TIME : Fld := ⟨R.BIL_NEXT_BOUND_HI, 31, 0⟩
def BIL_TIME_STATUS_SLEWING : Fld := ⟨R.BIL_TIME_STATUS, 31, 31⟩
def BIL_TIME_STATUS_SETBACK : Fld := ⟨R.BIL_TIME_STATUS, 30, 30⟩
def BIL_TIME_STATUS_BRANCH_OPEN : Fld := ⟨R.BIL_TIME_STATUS, 29, 29⟩
def BIL_TIME_STATUS_QUALITY : Fld := ⟨R.BIL_TIME_STATUS, 1, 0⟩
def BIL_TIME_CFG_SYNC_MAX : Fld := ⟨R.BIL_TIME_CFG, 7, 0⟩
def BIL_LASTCLOSE_LO_TIME : Fld := ⟨R.BIL_LASTCLOSE_LO, 31, 0⟩
def BIL_LASTCLOSE_HI_TIME : Fld := ⟨R.BIL_LASTCLOSE_HI, 31, 0⟩
def BIL_PERIOD_NO_NUMBER : Fld := ⟨R.BIL_PERIOD_NO, 31, 0⟩
def BIL_LOG_STATUS_REFUSING : Fld := ⟨R.BIL_LOG_STATUS, 31, 31⟩
def BIL_LOG_STATUS_OVERFLOW : Fld := ⟨R.BIL_LOG_STATUS, 27, 16⟩
def BIL_LOG_STATUS_USED : Fld := ⟨R.BIL_LOG_STATUS, 12, 0⟩
def BIL_RDG_SEQ_LO_SEQ : Fld := ⟨R.BIL_RDG_SEQ_LO, 31, 0⟩
def BIL_RDG_SEQ_HI_SEQ : Fld := ⟨R.BIL_RDG_SEQ_HI, 31, 0⟩
def BIL_SERVO_SUM_SUM : Fld := ⟨R.BIL_SERVO_SUM, 31, 0⟩
def BIL_DEM_CFG_DQ (n : Nat) : Fld := ⟨R.BIL_DEM_CFG n, 26, 24⟩
def BIL_DEM_CFG_SUB (n : Nat) : Fld := ⟨R.BIL_DEM_CFG n, 15, 8⟩
def BIL_DEM_CFG_PROF_EN (n : Nat) : Fld := ⟨R.BIL_DEM_CFG n, 4, 4⟩
def BIL_DEM_CFG_INT (n : Nat) : Fld := ⟨R.BIL_DEM_CFG n, 2, 0⟩
def BIL_DEM_LAST_VALUE (n : Nat) : Fld := ⟨R.BIL_DEM_LAST n, 31, 0⟩
def BIL_DEM_STAT_STATUS (n : Nat) : Fld := ⟨R.BIL_DEM_STAT n, 31, 0⟩
def TPT_CTAB_STATUS_COUNT : Fld := ⟨R.TPT_CTAB_STATUS, 27, 16⟩
def TPT_CTAB_STATUS_VERSION : Fld := ⟨R.TPT_CTAB_STATUS, 15, 0⟩
def TPT_TYPE_SLOTS_SLOTS_LEFT : Fld := ⟨R.TPT_TYPE_SLOTS, 5, 0⟩
def TPT_IM_OWNER (c : Nat) : Fld := ⟨R.TPT_IM c, 19, 17⟩
def TPT_IM_BUSY (c : Nat) : Fld := ⟨R.TPT_IM c, 16, 16⟩
def TPT_IM_R_ISO (c : Nat) : Fld := ⟨R.TPT_IM c, 15, 0⟩
def TPT_STATE_LAST_REASON (n : Nat) : Fld := ⟨R.TPT_STATE n, 31, 24⟩
def TPT_STATE_PROTO (n : Nat) : Fld := ⟨R.TPT_STATE n, 23, 16⟩
def TPT_STATE_AUTH_SRC (n : Nat) : Fld := ⟨R.TPT_STATE n, 13, 12⟩
def TPT_STATE_OOS (n : Nat) : Fld := ⟨R.TPT_STATE n, 11, 11⟩
def TPT_STATE_WELD (n : Nat) : Fld := ⟨R.TPT_STATE n, 10, 10⟩
def TPT_STATE_TYPE (n : Nat) : Fld := ⟨R.TPT_STATE n, 7, 4⟩
def TPT_STATE_STATE (n : Nat) : Fld := ⟨R.TPT_STATE n, 3, 0⟩
def TPT_SESSION_NUMBER (n : Nat) : Fld := ⟨R.TPT_SESSION n, 31, 0⟩
def TPT_CFG_AUTO_CLR (n : Nat) : Fld := ⟨R.TPT_CFG n, 31, 31⟩
def TPT_CFG_PROTO_EN (n : Nat) : Fld := ⟨R.TPT_CFG n, 15, 12⟩
def TPT_CFG_MIN_GEN (n : Nat) : Fld := ⟨R.TPT_CFG n, 9, 8⟩
def TPT_CFG_AUTH_EN (n : Nat) : Fld := ⟨R.TPT_CFG n, 7, 5⟩
def TPT_CFG_REVOC (n : Nat) : Fld := ⟨R.TPT_CFG n, 4, 4⟩
def TPT_CFG_VENT_OK (n : Nat) : Fld := ⟨R.TPT_CFG n, 3, 3⟩
def TPT_CFG_PP_MODE (n : Nat) : Fld := ⟨R.TPT_CFG n, 2, 2⟩
def TPT_CFG_LEAK_EN (n : Nat) : Fld := ⟨R.TPT_CFG n, 1, 1⟩
def TPT_LINK_MAC (n : Nat) : Fld := ⟨R.TPT_LINK n, 31, 31⟩
def TPT_LINK_VLAN (n : Nat) : Fld := ⟨R.TPT_LINK n, 27, 16⟩
def TPT_LINK_CAN (n : Nat) : Fld := ⟨R.TPT_LINK n, 15, 15⟩
def TPT_LINK_NODE (n : Nat) : Fld := ⟨R.TPT_LINK n, 14, 10⟩
def TPT_LINK_IM (n : Nat) : Fld := ⟨R.TPT_LINK n, 9, 9⟩
def TPT_LINK_RCM_LS (n : Nat) : Fld := ⟨R.TPT_LINK n, 7, 4⟩
def TPT_LINK_RCM_TEST_EN (n : Nat) : Fld := ⟨R.TPT_LINK n, 3, 3⟩
def TPT_TIMES_T_HS (n : Nat) : Fld := ⟨R.TPT_TIMES n, 31, 24⟩
def TPT_TIMES_T_AUTH (n : Nat) : Fld := ⟨R.TPT_TIMES n, 23, 16⟩
def TPT_TIMES_T_READY (n : Nat) : Fld := ⟨R.TPT_TIMES n, 15, 0⟩
def TPT_LIMIT_R_FAULT (n : Nat) : Fld := ⟨R.TPT_LIMIT n, 31, 16⟩
def TPT_LIMIT_I_MAX (n : Nat) : Fld := ⟨R.TPT_LIMIT n, 15, 0⟩
def TPT_LEAK_R_WARN (n : Nat) : Fld := ⟨R.TPT_LEAK n, 31, 16⟩
def TPT_LEAK_DECAY_MAX (n : Nat) : Fld := ⟨R.TPT_LEAK n, 15, 0⟩
def TPT_LEAK2_P_TEST (n : Nat) : Fld := ⟨R.TPT_LEAK2 n, 31, 20⟩
def TPT_LEAK2_SETTLE (n : Nat) : Fld := ⟨R.TPT_LEAK2 n, 19, 14⟩
def TPT_LEAK2_DUR (n : Nat) : Fld := ⟨R.TPT_LEAK2 n, 13, 5⟩
def PTN_CAN_CFG_DBR (j : Nat) : Fld := ⟨R.PTN_CAN_CFG j, 6, 4⟩
def PTN_CAN_CFG_NBR (j : Nat) : Fld := ⟨R.PTN_CAN_CFG j, 3, 1⟩
def PTN_CAN_CFG_EN (j : Nat) : Fld := ⟨R.PTN_CAN_CFG j, 0, 0⟩
def PTN_MAC_CFG_RGMII (m : Nat) : Fld := ⟨R.PTN_MAC_CFG m, 1, 1⟩
def PTN_MAC_CFG_EN (m : Nat) : Fld := ⟨R.PTN_MAC_CFG m, 0, 0⟩
def PTN_CP_CP_STATE (k : Nat) : Fld := ⟨R.PTN_CP k, 31, 28⟩
def PTN_CP_DUTY (k : Nat) : Fld := ⟨R.PTN_CP k, 27, 18⟩
def PTN_CP_DIODE_FAIL (k : Nat) : Fld := ⟨R.PTN_CP k, 17, 17⟩
def PTN_CP_HIGH (k : Nat) : Fld := ⟨R.PTN_CP k, 15, 8⟩
def PTN_CP_LOW (k : Nat) : Fld := ⟨R.PTN_CP k, 7, 0⟩
def PTN_PP_RATING (k : Nat) : Fld := ⟨R.PTN_PP k, 31, 28⟩
def PTN_PP_OHMS (k : Nat) : Fld := ⟨R.PTN_PP k, 15, 0⟩
def PTN_COUP_GEN (k : Nat) : Fld := ⟨R.PTN_COUP k, 31, 30⟩
def PTN_COUP_LOOP (k : Nat) : Fld := ⟨R.PTN_COUP k, 23, 16⟩
def PTN_COUP_REPLAY (k : Nat) : Fld := ⟨R.PTN_COUP k, 15, 0⟩
def PTN_ERR_VIOL (k : Nat) : Fld := ⟨R.PTN_ERR k, 31, 16⟩
def PTN_ERR_HB_LOST (k : Nat) : Fld := ⟨R.PTN_ERR k, 15, 0⟩
def LSW_STATUS_VFIELD : Fld := ⟨R.LSW_STATUS, 31, 16⟩
def LSW_STATUS_HOLD : Fld := ⟨R.LSW_STATUS, 2, 2⟩
def LSW_STATUS_UV_OFF : Fld := ⟨R.LSW_STATUS, 1, 1⟩
def LSW_STATUS_DIP : Fld := ⟨R.LSW_STATUS, 0, 0⟩
def LSW_THERM_SHED : Fld := ⟨R.LSW_THERM, 31, 16⟩
def LSW_THERM_TEMP : Fld := ⟨R.LSW_THERM, 8, 0⟩
def LSW_AGG_PEAK : Fld := ⟨R.LSW_AGG, 31, 16⟩
def LSW_AGG_MEAN : Fld := ⟨R.LSW_AGG, 15, 0⟩
def LSW_CMD_ON : Fld := ⟨R.LSW_CMD, 15, 0⟩
def LSW_LATCH_LATCHED : Fld := ⟨R.LSW_LATCH, 15, 0⟩
def LSW_PWM_PER_PERIOD (g : Nat) : Fld := ⟨R.LSW_PWM_PER g, 21, 0⟩
def LSW_PWM_DUTY_EN (g : Nat) : Fld := ⟨R.LSW_PWM_DUTY g, 16, 16⟩
def LSW_PWM_DUTY_DUTY (g : Nat) : Fld := ⟨R.LSW_PWM_DUTY g, 9, 0⟩
def LSW_CH_CFG_PAIR (n : Nat) : Fld := ⟨R.LSW_CH_CFG n, 31, 31⟩
def LSW_CH_CFG_OWN (n : Nat) : Fld := ⟨R.LSW_CH_CFG n, 30, 30⟩
def LSW_CH_CFG_POINT (n : Nat) : Fld := ⟨R.LSW_CH_CFG n, 29, 27⟩
def LSW_CH_CFG_AUX (n : Nat) : Fld := ⟨R.LSW_CH_CFG n, 26, 26⟩
def LSW_CH_CFG_RST_ON (n : Nat) : Fld := ⟨R.LSW_CH_CFG n, 25, 25⟩
def LSW_CH_CFG_DUPLEX (n : Nat) : Fld := ⟨R.LSW_CH_CFG n, 24, 24⟩
def LSW_CH_CFG_PRIO (n : Nat) : Fld := ⟨R.LSW_CH_CFG n, 23, 22⟩
def LSW_CH_CFG_RETRY (n : Nat) : Fld := ⟨R.LSW_CH_CFG n, 21, 18⟩
def LSW_CH_CFG_GEN (n : Nat) : Fld := ⟨R.LSW_CH_CFG n, 17, 15⟩
def LSW_CH_CFG_PWM_EN (n : Nat) : Fld := ⟨R.LSW_CH_CFG n, 14, 14⟩
def LSW_CH_CFG_PHASE (n : Nat) : Fld := ⟨R.LSW_CH_CFG n, 13, 6⟩
def LSW_CH_LIM_INRUSH (n : Nat) : Fld := ⟨R.LSW_CH_LIM n, 31, 25⟩
def LSW_CH_LIM_OC_TIME (n : Nat) : Fld := ⟨R.LSW_CH_LIM n, 23, 16⟩
def LSW_CH_LIM_OPEN (n : Nat) : Fld := ⟨R.LSW_CH_LIM n, 15, 8⟩
def LSW_CH_LIM_LIMIT (n : Nat) : Fld := ⟨R.LSW_CH_LIM n, 6, 0⟩
def LSW_CH_STAT_CURRENT (n : Nat) : Fld := ⟨R.LSW_CH_STAT n, 31, 16⟩
def LSW_CH_STAT_TRY (n : Nat) : Fld := ⟨R.LSW_CH_STAT n, 15, 12⟩
def LSW_CH_STAT_HELD (n : Nat) : Fld := ⟨R.LSW_CH_STAT n, 7, 7⟩
def LSW_CH_STAT_SHED (n : Nat) : Fld := ⟨R.LSW_CH_STAT n, 6, 6⟩
def LSW_CH_STAT_OPEN (n : Nat) : Fld := ⟨R.LSW_CH_STAT n, 5, 5⟩
def LSW_CH_STAT_LATCHED (n : Nat) : Fld := ⟨R.LSW_CH_STAT n, 4, 4⟩
def LSW_CH_STAT_PAUSE (n : Nat) : Fld := ⟨R.LSW_CH_STAT n, 3, 3⟩
def LSW_CH_STAT_INRUSH (n : Nat) : Fld := ⟨R.LSW_CH_STAT n, 2, 2⟩
def LSW_CH_STAT_LIMITING (n : Nat) : Fld := ⟨R.LSW_CH_STAT n, 1, 1⟩
def LSW_CH_STAT_ON (n : Nat) : Fld := ⟨R.LSW_CH_STAT n, 0, 0⟩
def LSW_CH_CNT_SHORTS (n : Nat) : Fld := ⟨R.LSW_CH_CNT n, 31, 16⟩
def LSW_CH_CNT_OVERCUR (n : Nat) : Fld := ⟨R.LSW_CH_CNT n, 15, 0⟩
def SAF_STATUS_MODE : Fld := ⟨R.SAF_STATUS, 31, 30⟩
def SAF_STATUS_AWAIT : Fld := ⟨R.SAF_STATUS, 23, 18⟩
def SAF_STATUS_DISC : Fld := ⟨R.SAF_STATUS, 17, 12⟩
def SAF_STATUS_DEMAND : Fld := ⟨R.SAF_STATUS, 11, 6⟩
def SAF_STATUS_ACTIVE : Fld := ⟨R.SAF_STATUS, 5, 0⟩
def SAF_CFG_CRC_CRC : Fld := ⟨R.SAF_CFG_CRC, 31, 0⟩
def SAF_IN_CH_B : Fld := ⟨R.SAF_IN, 27, 16⟩
def SAF_IN_CH_A : Fld := ⟨R.SAF_IN, 11, 0⟩
def SAF_OUT_OUT : Fld := ⟨R.SAF_OUT, 15, 0⟩
def SAF_FAULT_CAUSE : Fld := ⟨R.SAF_FAULT, 31, 24⟩
def SAF_FAULT_OUT : Fld := ⟨R.SAF_FAULT, 23, 20⟩
def SAF_FAULT_FUNC : Fld := ⟨R.SAF_FAULT, 19, 16⟩
def SAF_FAULT_COUNT : Fld := ⟨R.SAF_FAULT, 15, 0⟩
def SAF_TWOHAND_CH_A : Fld := ⟨R.SAF_TWOHAND, 31, 16⟩
def SAF_TWOHAND_CH_B : Fld := ⟨R.SAF_TWOHAND, 15, 0⟩
def SAF_RESET_REQ_KEY : Fld := ⟨R.SAF_RESET_REQ, 31, 16⟩
def SAF_RESET_REQ_FAULT_CLR : Fld := ⟨R.SAF_RESET_REQ, 8, 8⟩
def SAF_RESET_REQ_FUNC : Fld := ⟨R.SAF_RESET_REQ, 5, 0⟩
def SAF_FUNC_TYPE (f : Nat) : Fld := ⟨R.SAF_FUNC f, 31, 29⟩
def SAF_FUNC_PAIR (f : Nat) : Fld := ⟨R.SAF_FUNC f, 28, 26⟩
def SAF_FUNC_WIRING (f : Nat) : Fld := ⟨R.SAF_FUNC f, 25, 25⟩
def SAF_FUNC_RESTART (f : Nat) : Fld := ⟨R.SAF_FUNC f, 24, 24⟩
def SAF_FUNC_RESET_SRC (f : Nat) : Fld := ⟨R.SAF_FUNC f, 23, 20⟩
def SAF_FUNC_SFO (f : Nat) : Fld := ⟨R.SAF_FUNC f, 19, 16⟩
def SAF_FUNC_DISC (f : Nat) : Fld := ⟨R.SAF_FUNC f, 15, 0⟩
def SAF_FUNC_MASK_POINTS (f : Nat) : Fld := ⟨R.SAF_FUNC_MASK f, 23, 16⟩
def SAF_FUNC_MASK_LS (f : Nat) : Fld := ⟨R.SAF_FUNC_MASK f, 15, 0⟩
def MTL_CFG_BASE : Fld := ⟨R.MTL_CFG, 31, 24⟩
def MTL_CFG_MAX_TRY : Fld := ⟨R.MTL_CFG, 23, 20⟩
def MTL_CFG_SNR_MIN : Fld := ⟨R.MTL_CFG, 19, 14⟩
def MTL_CFG_PLAN : Fld := ⟨R.MTL_CFG, 9, 8⟩
def MTL_CFG_EN : Fld := ⟨R.MTL_CFG, 0, 0⟩
def MTL_TX_AIR_MAX : Fld := ⟨R.MTL_TX, 23, 16⟩
def MTL_TX_LEVEL : Fld := ⟨R.MTL_TX, 6, 0⟩
def MTL_TIMING_BEACON_INT : Fld := ⟨R.MTL_TIMING, 23, 16⟩
def MTL_TIMING_IMP_THR : Fld := ⟨R.MTL_TIMING, 15, 8⟩
def MTL_TIMING_CS_THR : Fld := ⟨R.MTL_TIMING, 7, 0⟩
def MTL_STATUS_AIR : Fld := ⟨R.MTL_STATUS, 31, 24⟩
def MTL_STATUS_NEIGH_UP : Fld := ⟨R.MTL_STATUS, 17, 12⟩
def MTL_STATUS_DRV_FAULT : Fld := ⟨R.MTL_STATUS, 4, 4⟩
def MTL_STATUS_BUSY : Fld := ⟨R.MTL_STATUS, 3, 3⟩
def MTL_STATUS_TX : Fld := ⟨R.MTL_STATUS, 2, 2⟩
def MTL_STATUS_AIR_LIMIT : Fld := ⟨R.MTL_STATUS, 1, 1⟩
def MTL_STATUS_RUN : Fld := ⟨R.MTL_STATUS, 0, 0⟩
def MTL_ADVSET_FILTERED : Fld := ⟨R.MTL_ADVSET, 31, 16⟩
def MTL_ADVSET_SET : Fld := ⟨R.MTL_ADVSET, 7, 0⟩
def MTL_CNT_TX_FRAMES : Fld := ⟨R.MTL_CNT_TX, 31, 16⟩
def MTL_CNT_TX_RETRIES : Fld := ⟨R.MTL_CNT_TX, 15, 0⟩
def MTL_CNT_RX_DECODED : Fld := ⟨R.MTL_CNT_RX, 31, 16⟩
def MTL_CNT_RX_FAILED : Fld := ⟨R.MTL_CNT_RX, 15, 0⟩
def MTL_CNT_ARQ_EXHAUSTED : Fld := ⟨R.MTL_CNT_ARQ, 31, 16⟩
def MTL_CNT_ARQ_DUPLICATES : Fld := ⟨R.MTL_CNT_ARQ, 15, 0⟩
def MTL_CNT_ERAS_ERASED : Fld := ⟨R.MTL_CNT_ERAS, 31, 0⟩
def MTL_NB_ID_ADDR (j : Nat) : Fld := ⟨R.MTL_NB_ID j, 31, 16⟩
def MTL_NB_ID_SUPPR (j : Nat) : Fld := ⟨R.MTL_NB_ID j, 3, 3⟩
def MTL_NB_ID_QUAR (j : Nat) : Fld := ⟨R.MTL_NB_ID j, 2, 2⟩
def MTL_NB_ID_UP (j : Nat) : Fld := ⟨R.MTL_NB_ID j, 1, 1⟩
def MTL_NB_ID_VALID (j : Nat) : Fld := ⟨R.MTL_NB_ID j, 0, 0⟩
def MTL_NB_LINK_COST (j : Nat) : Fld := ⟨R.MTL_NB_LINK j, 31, 24⟩
def MTL_NB_LINK_FAIL (j : Nat) : Fld := ⟨R.MTL_NB_LINK j, 23, 16⟩
def MTL_NB_LINK_SNR (j : Nat) : Fld := ⟨R.MTL_NB_LINK j, 15, 0⟩
def MTL_NB_AGE_AGE (j : Nat) : Fld := ⟨R.MTL_NB_AGE j, 15, 0⟩
def MTL_NB_CNT_DOWNS (j : Nat) : Fld := ⟨R.MTL_NB_CNT j, 31, 16⟩
def MTL_NB_CNT_EXHAUSTED (j : Nat) : Fld := ⟨R.MTL_NB_CNT j, 15, 0⟩
def FAB_STATUS_ADDR : Fld := ⟨R.FAB_STATUS, 31, 16⟩
def FAB_STATUS_SINGLE : Fld := ⟨R.FAB_STATUS, 12, 12⟩
def FAB_STATUS_ROLE : Fld := ⟨R.FAB_STATUS, 11, 10⟩
def FAB_STATUS_STATE : Fld := ⟨R.FAB_STATUS, 9, 8⟩
def FAB_STATUS_QUAR : Fld := ⟨R.FAB_STATUS, 7, 4⟩
def FAB_STATUS_UP : Fld := ⟨R.FAB_STATUS, 3, 0⟩
def FAB_ID_CFG_FABRIC_ID : Fld := ⟨R.FAB_ID_CFG, 15, 0⟩
def FAB_ADDR_CFG_FIXED : Fld := ⟨R.FAB_ADDR_CFG, 16, 16⟩
def FAB_ADDR_CFG_FIX_ADDR : Fld := ⟨R.FAB_ADDR_CFG, 15, 0⟩
def FAB_COLL_CFG_COLL_B : Fld := ⟨R.FAB_COLL_CFG, 31, 16⟩
def FAB_COLL_CFG_COLL_A : Fld := ⟨R.FAB_COLL_CFG, 15, 0⟩
def FAB_REP_CFG_IS_COLL : Fld := ⟨R.FAB_REP_CFG, 25, 25⟩
def FAB_REP_CFG_SPREAD : Fld := ⟨R.FAB_REP_CFG, 24, 16⟩
def FAB_REP_CFG_SESS_REP : Fld := ⟨R.FAB_REP_CFG, 2, 2⟩
def FAB_REP_CFG_READ_REP : Fld := ⟨R.FAB_REP_CFG, 1, 1⟩
def FAB_REP_CFG_INT_REP : Fld := ⟨R.FAB_REP_CFG, 0, 0⟩
def FAB_KEY_CFG_CMD_SLOT : Fld := ⟨R.FAB_KEY_CFG, 25, 17⟩
def FAB_KEY_CFG_LINK_SLOT : Fld := ⟨R.FAB_KEY_CFG, 16, 8⟩
def FAB_QUAR_CFG_QUAR_TIME : Fld := ⟨R.FAB_QUAR_CFG, 31, 16⟩
def FAB_QUAR_CFG_AUTH_MAX : Fld := ⟨R.FAB_QUAR_CFG, 15, 8⟩
def FAB_QUAR_CFG_RATE : Fld := ⟨R.FAB_QUAR_CFG, 7, 0⟩
def FAB_CMD_PRIV_CONFIG : Fld := ⟨R.FAB_CMD_PRIV, 1, 1⟩
def FAB_CMD_PRIV_OPS : Fld := ⟨R.FAB_CMD_PRIV, 0, 0⟩
def FAB_PTP_CFG_DOMAIN : Fld := ⟨R.FAB_PTP_CFG, 31, 24⟩
def FAB_PTP_CFG_PRIO1 : Fld := ⟨R.FAB_PTP_CFG, 23, 16⟩
def FAB_PTP_CFG_PRIO2 : Fld := ⟨R.FAB_PTP_CFG, 15, 8⟩
def FAB_PTP_CFG_GM_CAP : Fld := ⟨R.FAB_PTP_CFG, 0, 0⟩
def FAB_PTP_STATUS_GM_ADDR : Fld := ⟨R.FAB_PTP_STATUS, 31, 16⟩
def FAB_PTP_STATUS_STEPS : Fld := ⟨R.FAB_PTP_STATUS, 11, 8⟩
def FAB_PTP_STATUS_LOCK : Fld := ⟨R.FAB_PTP_STATUS, 2, 2⟩
def FAB_PTP_STATUS_ROLE : Fld := ⟨R.FAB_PTP_STATUS, 1, 0⟩
def FAB_PTP_OFFSET_OFFSET : Fld := ⟨R.FAB_PTP_OFFSET, 31, 0⟩
def FAB_KEY_EPOCH_EPOCH : Fld := ⟨R.FAB_KEY_EPOCH, 15, 0⟩
def FAB_PAIR_CFG_PREF_BOW : Fld := ⟨R.FAB_PAIR_CFG, 1, 1⟩
def FAB_PAIR_CFG_EN : Fld := ⟨R.FAB_PAIR_CFG, 0, 0⟩
def FAB_PAIR_STATUS_PAIR_ADDR : Fld := ⟨R.FAB_PAIR_STATUS, 31, 16⟩
def FAB_PAIR_STATUS_SWITCHES : Fld := ⟨R.FAB_PAIR_STATUS, 15, 8⟩
def FAB_PAIR_STATUS_MIRROR_OK : Fld := ⟨R.FAB_PAIR_STATUS, 3, 3⟩
def FAB_PAIR_STATUS_LANE_B : Fld := ⟨R.FAB_PAIR_STATUS, 2, 2⟩
def FAB_PAIR_STATUS_LANE_A : Fld := ⟨R.FAB_PAIR_STATUS, 1, 1⟩
def FAB_PAIR_STATUS_PARTNER : Fld := ⟨R.FAB_PAIR_STATUS, 0, 0⟩
def FAB_NODES_ROUTES : Fld := ⟨R.FAB_NODES, 31, 16⟩
def FAB_NODES_NODES : Fld := ⟨R.FAB_NODES, 12, 0⟩
def FAB_DUP_STATUS_DISCARDED : Fld := ⟨R.FAB_DUP_STATUS, 31, 16⟩
def FAB_DUP_STATUS_SOURCES : Fld := ⟨R.FAB_DUP_STATUS, 11, 0⟩
def FAB_REP_SEQ_SEQ : Fld := ⟨R.FAB_REP_SEQ, 31, 0⟩
def FAB_DROPS_FULL : Fld := ⟨R.FAB_DROPS, 31, 16⟩
def FAB_DROPS_OLD : Fld := ⟨R.FAB_DROPS, 15, 0⟩
def FAB_PORT_CFG_BASE (k : Nat) : Fld := ⟨R.FAB_PORT_CFG k, 15, 8⟩
def FAB_PORT_CFG_M5206_EN (k : Nat) : Fld := ⟨R.FAB_PORT_CFG k, 2, 2⟩
def FAB_PORT_CFG_AMP (k : Nat) : Fld := ⟨R.FAB_PORT_CFG k, 1, 1⟩
def FAB_PORT_CFG_EN (k : Nat) : Fld := ⟨R.FAB_PORT_CFG k, 0, 0⟩
def FAB_PORT_STATUS_NEIGH (k : Nat) : Fld := ⟨R.FAB_PORT_STATUS k, 31, 16⟩
def FAB_PORT_STATUS_COST (k : Nat) : Fld := ⟨R.FAB_PORT_STATUS k, 15, 8⟩
def FAB_PORT_STATUS_SUPPR (k : Nat) : Fld := ⟨R.FAB_PORT_STATUS k, 2, 2⟩
def FAB_PORT_STATUS_QUAR (k : Nat) : Fld := ⟨R.FAB_PORT_STATUS k, 1, 1⟩
def FAB_PORT_STATUS_UP (k : Nat) : Fld := ⟨R.FAB_PORT_STATUS k, 0, 0⟩
def FAB_PORT_ERR_BAD (k : Nat) : Fld := ⟨R.FAB_PORT_ERR k, 31, 16⟩
def FAB_PORT_ERR_DOWNS (k : Nat) : Fld := ⟨R.FAB_PORT_ERR k, 15, 0⟩
def FAB_PORT_AUTH_AUTH_FAIL (k : Nat) : Fld := ⟨R.FAB_PORT_AUTH k, 31, 16⟩
def FAB_PORT_AUTH_REPLAY (k : Nat) : Fld := ⟨R.FAB_PORT_AUTH k, 15, 0⟩
def KEY_STATUS_ROOT_OK : Fld := ⟨R.KEY_STATUS, 31, 31⟩
def KEY_STATUS_ROOT_FAULT : Fld := ⟨R.KEY_STATUS, 30, 30⟩
def KEY_STATUS_TRNG_FAIL : Fld := ⟨R.KEY_STATUS, 29, 29⟩
def KEY_STATUS_SEAL_OPEN : Fld := ⟨R.KEY_STATUS, 28, 28⟩
def KEY_STATUS_DBG_OPEN : Fld := ⟨R.KEY_STATUS, 27, 27⟩
def KEY_STATUS_SLOTS_USED : Fld := ⟨R.KEY_STATUS, 9, 0⟩
def KEY_LIFE_TAMPER_COUNT : Fld := ⟨R.KEY_LIFE, 20, 16⟩
def KEY_LIFE_DEBUG_KILL : Fld := ⟨R.KEY_LIFE, 3, 3⟩
def KEY_LIFE_DESTROY_TAMPER : Fld := ⟨R.KEY_LIFE, 2, 2⟩
def KEY_LIFE_DESTROY_PARENT : Fld := ⟨R.KEY_LIFE, 1, 1⟩
def KEY_LIFE_ROOT_SET : Fld := ⟨R.KEY_LIFE, 0, 0⟩
def KEY_CHG_LEFT_TYPE : Fld := ⟨R.KEY_CHG_LEFT, 25, 20⟩
def KEY_CHG_LEFT_TARIFF : Fld := ⟨R.KEY_CHG_LEFT, 19, 13⟩
def KEY_CHG_LEFT_CAL : Fld := ⟨R.KEY_CHG_LEFT, 12, 8⟩
def KEY_CHG_LEFT_INTEG : Fld := ⟨R.KEY_CHG_LEFT, 6, 4⟩
def KEY_CHG_LEFT_IDENT : Fld := ⟨R.KEY_CHG_LEFT, 3, 2⟩
def KEY_CHG_LEFT_DBG : Fld := ⟨R.KEY_CHG_LEFT, 0, 0⟩
def KEY_IDENT_LO_IDENT : Fld := ⟨R.KEY_IDENT_LO, 31, 0⟩
def KEY_IDENT_HI_IDENT : Fld := ⟨R.KEY_IDENT_HI, 31, 0⟩
def KEY_RDG_KID_KID : Fld := ⟨R.KEY_RDG_KID, 31, 0⟩
def KEY_INTEG_INDEX : Fld := ⟨R.KEY_INTEG, 2, 0⟩
def KEY_TMP_CFG_HIGH : Fld := ⟨R.KEY_TMP_CFG, 7, 4⟩
def KEY_TMP_CFG_EN : Fld := ⟨R.KEY_TMP_CFG, 3, 0⟩
def KEY_TMP_STAT_ZEROISED : Fld := ⟨R.KEY_TMP_STAT, 8, 8⟩
def KEY_TMP_STAT_LEVEL : Fld := ⟨R.KEY_TMP_STAT, 7, 4⟩
def KEY_TMP_STAT_LATCH : Fld := ⟨R.KEY_TMP_STAT, 3, 0⟩
def KEY_SLOT_SEL_SLOT : Fld := ⟨R.KEY_SLOT_SEL, 8, 0⟩
def KEY_SLOT_INFO_VALID : Fld := ⟨R.KEY_SLOT_INFO, 31, 31⟩
def KEY_SLOT_INFO_ORPHAN : Fld := ⟨R.KEY_SLOT_INFO, 30, 30⟩
def KEY_SLOT_INFO_FAULT : Fld := ⟨R.KEY_SLOT_INFO, 29, 29⟩
def KEY_SLOT_INFO_PERSIST : Fld := ⟨R.KEY_SLOT_INFO, 28, 28⟩
def KEY_SLOT_INFO_EXPIRY : Fld := ⟨R.KEY_SLOT_INFO, 27, 27⟩
def KEY_SLOT_INFO_SYSTEM : Fld := ⟨R.KEY_SLOT_INFO, 26, 26⟩
def KEY_SLOT_INFO_DEPTH : Fld := ⟨R.KEY_SLOT_INFO, 25, 22⟩
def KEY_SLOT_INFO_TYPE : Fld := ⟨R.KEY_SLOT_INFO, 21, 18⟩
def KEY_SLOT_INFO_PARENT : Fld := ⟨R.KEY_SLOT_INFO, 17, 9⟩
def KEY_SLOT_INFO_USE : Fld := ⟨R.KEY_SLOT_INFO, 7, 0⟩
def KEY_SLOT_DEST_DEST : Fld := ⟨R.KEY_SLOT_DEST, 20, 0⟩
def KEY_SLOT_CNT_LEFT : Fld := ⟨R.KEY_SLOT_CNT, 31, 0⟩
def LDP_CTRL_EN : Fld := ⟨R.LDP_CTRL, 31, 31⟩
def LDP_CTRL_DIV : Fld := ⟨R.LDP_CTRL, 30, 24⟩
def LDP_CTRL_COM_PER : Fld := ⟨R.LDP_CTRL, 14, 8⟩
def LDP_CTRL_LEG_DWELL : Fld := ⟨R.LDP_CTRL, 7, 4⟩
def LDP_GEOM_BPP : Fld := ⟨R.LDP_GEOM, 31, 31⟩
def LDP_GEOM_WIDTH : Fld := ⟨R.LDP_GEOM, 24, 16⟩
def LDP_GEOM_HEIGHT : Fld := ⟨R.LDP_GEOM, 15, 8⟩
def LDP_LEGAL_LEG_COUNT : Fld := ⟨R.LDP_LEGAL, 15, 8⟩
def LDP_LEGAL_LEG_FIRST : Fld := ⟨R.LDP_LEGAL, 7, 0⟩
def LDP_STATUS_RAIL : Fld := ⟨R.LDP_STATUS, 31, 30⟩
def LDP_STATUS_RAIL_FAULT : Fld := ⟨R.LDP_STATUS, 29, 29⟩
def LDP_STATUS_PANEL_FAULT : Fld := ⟨R.LDP_STATUS, 28, 28⟩
def LDP_STATUS_DISCH : Fld := ⟨R.LDP_STATUS, 27, 27⟩
def LDP_STATUS_PHASE : Fld := ⟨R.LDP_STATUS, 26, 26⟩
def LDP_STATUS_PASS : Fld := ⟨R.LDP_STATUS, 25, 25⟩
def LDP_STATUS_GROUP : Fld := ⟨R.LDP_STATUS, 24, 24⟩
def LDP_STATUS_PAGE : Fld := ⟨R.LDP_STATUS, 23, 16⟩
def LDP_STATUS_LINE : Fld := ⟨R.LDP_STATUS, 7, 0⟩
def LDP_VCOM_AGE_SLOPE : Fld := ⟨R.LDP_VCOM, 31, 16⟩
def LDP_VCOM_BASE : Fld := ⟨R.LDP_VCOM, 15, 0⟩
def LDP_VCOM_NOW_TRIM : Fld := ⟨R.LDP_VCOM_NOW, 15, 0⟩
def LDP_CNT_PASSES : Fld := ⟨R.LDP_CNT, 31, 16⟩
def LDP_CNT_REWRITES : Fld := ⟨R.LDP_CNT, 15, 0⟩
def LDP_STRESS_SECONDS (b : Nat) : Fld := ⟨R.LDP_STRESS b, 31, 0⟩
def LDP_DIRTY_PENDING (k : Nat) : Fld := ⟨R.LDP_DIRTY k, 31, 0⟩
def QUE_STATUS_MISMATCH : Fld := ⟨R.QUE_STATUS, 31, 16⟩
def QUE_STATUS_LAST_ID : Fld := ⟨R.QUE_STATUS, 7, 0⟩
def QUE_CFG_OWNER (i : Nat) : Fld := ⟨R.QUE_CFG i, 27, 24⟩
def QUE_CFG_K (i : Nat) : Fld := ⟨R.QUE_CFG i, 23, 20⟩
def QUE_CFG_SPILL_CAP (i : Nat) : Fld := ⟨R.QUE_CFG i, 1, 1⟩
def QUE_CFG_SPILL (i : Nat) : Fld := ⟨R.QUE_CFG i, 0, 0⟩
def QUE_FILL_NOTICES (i : Nat) : Fld := ⟨R.QUE_FILL i, 31, 16⟩
def QUE_FILL_FILL (i : Nat) : Fld := ⟨R.QUE_FILL i, 15, 0⟩
def QUE_STAT_GAP_PEND (i : Nat) : Fld := ⟨R.QUE_STAT i, 31, 31⟩
def QUE_STAT_FENCED (i : Nat) : Fld := ⟨R.QUE_STAT i, 30, 30⟩
def QUE_STAT_RESETS (i : Nat) : Fld := ⟨R.QUE_STAT i, 23, 16⟩
def QUE_STAT_PEAK (i : Nat) : Fld := ⟨R.QUE_STAT i, 15, 0⟩
def QUE_DROP_DROPPED (i : Nat) : Fld := ⟨R.QUE_DROP i, 31, 0⟩
def UPD_CFG_FLEET_SLOT : Fld := ⟨R.UPD_CFG, 24, 16⟩
def UPD_CFG_CATCH : Fld := ⟨R.UPD_CFG, 15, 4⟩
def UPD_CFG_HOST_CONF : Fld := ⟨R.UPD_CFG, 0, 0⟩
def UPD_STATUS_STATE : Fld := ⟨R.UPD_STATUS, 31, 29⟩
def UPD_STATUS_STEP : Fld := ⟨R.UPD_STATUS, 28, 24⟩
def UPD_STATUS_LAST_RESULT : Fld := ⟨R.UPD_STATUS, 23, 20⟩
def UPD_STATUS_CATCH_LEFT : Fld := ⟨R.UPD_STATUS, 15, 0⟩
def UPD_INCOMING_RECEIVED : Fld := ⟨R.UPD_INCOMING, 31, 0⟩
def UPD_SLOT_RUN (g : Nat) : Fld := ⟨R.UPD_SLOT g, 31, 31⟩
def UPD_SLOT_STATE_B (g : Nat) : Fld := ⟨R.UPD_SLOT g, 27, 24⟩
def UPD_SLOT_STATE_A (g : Nat) : Fld := ⟨R.UPD_SLOT g, 23, 20⟩
def UPD_ENG_VER_VERSION (e : Nat) : Fld := ⟨R.UPD_ENG_VER e, 31, 0⟩
def UPD_ENG_STAT_SEC_FLOOR (e : Nat) : Fld := ⟨R.UPD_ENG_STAT e, 31, 16⟩
def UPD_ENG_STAT_SETTINGS (e : Nat) : Fld := ⟨R.UPD_ENG_STAT e, 11, 10⟩
def UPD_ENG_STAT_HEALTHY (e : Nat) : Fld := ⟨R.UPD_ENG_STAT e, 7, 7⟩
def UPD_ENG_STAT_TRIAL (e : Nat) : Fld := ⟨R.UPD_ENG_STAT e, 6, 6⟩
def UPD_ENG_STAT_SLOT (e : Nat) : Fld := ⟨R.UPD_ENG_STAT e, 5, 5⟩
def UPD_ENG_STAT_BOOT (e : Nat) : Fld := ⟨R.UPD_ENG_STAT e, 3, 0⟩

end F

/-! ### Descriptors, block by block (R21) -/

def mgRegs : List RegDesc := [
  /- MG_RESET_CAUSE -/ ⟨0x00000, 0x0, 1, .mg, 0x00000000, []⟩,
  /- MG_RESET_CNT -/ ⟨0x00004, 0x0, 1, .mg, 0x00000000, []⟩,
  /- MG_BOOT_STATUS -/ ⟨0x00008, 0x0, 1, .mg, 0x00000000, []⟩,
  /- MG_PART -/ ⟨0x0000C, 0x0, 1, .mg, 0x00000045, []⟩,
  /- MG_TEMP -/ ⟨0x00010, 0x0, 1, .mg, 0x00000000, []⟩,
  /- MG_ISLAND_STATE -/ ⟨0x00200, 0x0, 1, .mg, 0x03FFFFFF, []⟩,
  /- MG_ISLAND_FAULT -/ ⟨0x00204, 0x0, 1, .mg, 0x00000000, [⟨12, 0, .w1c⟩]⟩,
  /- MG_CLKMON_STATUS -/ ⟨0x00208, 0x0, 1, .mg, 0x00000000, [⟨28, 16, .w1c⟩, ⟨12, 0, .w1c⟩]⟩,
  /- MG_WDT_STATUS -/ ⟨0x0020C, 0x0, 1, .mg, 0x00000000, [⟨19, 0, .w1c⟩]⟩,
  /- MG_XING_STALL -/ ⟨0x00210, 0x0, 1, .mg, 0x00000000, []⟩,
  /- MG_ECC_COUNT -/ ⟨0x00214, 0x0, 1, .mg, 0x00000000, []⟩,
  /- MG_ECC_LAST -/ ⟨0x00218, 0x0, 1, .mg, 0x00000000, []⟩,
  /- MG_SCRUB_CTRL -/ ⟨0x0021C, 0x0, 1, .mg, 0x00000018, [⟨4, 0, .rw⟩]⟩,
  /- MG_FAULT_LAST -/ ⟨0x00220, 0x0, 1, .mg, 0x00000000, []⟩,
  /- MG_I2C_CFG -/ ⟨0x00300, 0x0, 1, .mg, 0x00000000, [⟨1, 1, .rw⟩, ⟨0, 0, .rw⟩]⟩,
  /- MG_I2C_STAT -/ ⟨0x00304, 0x0, 1, .mg, 0x00000000, []⟩]

def hiRegs : List RegDesc := [
  /- HI_ID -/ ⟨0x10000, 0x0, 1, .hi, 0x7428B000, []⟩,
  /- HI_STATUS -/ ⟨0x10004, 0x0, 1, .hi, 0x00000000, []⟩,
  /- HI_CTRL -/ ⟨0x10008, 0x0, 1, .hi, 0x00000030, [⟨6, 6, .w1s⟩, ⟨5, 4, .rw⟩, ⟨0, 0, .w1s⟩]⟩,
  /- HI_RING_ERR -/ ⟨0x1000C, 0x0, 1, .hi, 0x00000000, []⟩,
  /- HI_SQ_BASE_LO_n -/ ⟨0x10100, 0x10, 16, .hi, 0x00000000, [⟨31, 0, .rw⟩]⟩,
  /- HI_SQ_BASE_HI_n -/ ⟨0x10104, 0x10, 16, .hi, 0x00000000, [⟨31, 0, .rw⟩]⟩,
  /- HI_SQ_CFG_n -/ ⟨0x10108, 0x10, 16, .hi, 0x00000000, [⟨31, 31, .rw⟩, ⟨30, 26, .rw⟩, ⟨25, 22, .rw⟩, ⟨21, 20, .rw⟩, ⟨12, 0, .rw⟩]⟩,
  /- HI_SQ_STATUS_n -/ ⟨0x1010C, 0x10, 16, .hi, 0x80000000, []⟩,
  /- HI_CQ_BASE_LO_n -/ ⟨0x10200, 0x10, 16, .hi, 0x00000000, [⟨31, 0, .rw⟩]⟩,
  /- HI_CQ_BASE_HI_n -/ ⟨0x10204, 0x10, 16, .hi, 0x00000000, [⟨31, 0, .rw⟩]⟩,
  /- HI_CQ_CFG_n -/ ⟨0x10208, 0x10, 16, .hi, 0x00000000, [⟨31, 31, .rw⟩, ⟨30, 30, .rw⟩, ⟨29, 24, .rw⟩, ⟨23, 20, .rw⟩, ⟨19, 13, .rw⟩, ⟨12, 0, .rw⟩]⟩,
  /- HI_CQ_STATUS_n -/ ⟨0x1020C, 0x10, 16, .hi, 0x80000000, []⟩,
  /- HI_EQ_BASE_LO_e -/ ⟨0x10300, 0x10, 4, .hi, 0x00000000, [⟨31, 0, .rw⟩]⟩,
  /- HI_EQ_BASE_HI_e -/ ⟨0x10304, 0x10, 4, .hi, 0x00000000, [⟨31, 0, .rw⟩]⟩,
  /- HI_EQ_CFG_e -/ ⟨0x10308, 0x10, 4, .hi, 0x00000000, [⟨31, 31, .rw⟩, ⟨30, 30, .rw⟩, ⟨29, 24, .rw⟩, ⟨23, 20, .rw⟩, ⟨19, 13, .rw⟩, ⟨12, 0, .rw⟩]⟩,
  /- HI_EQ_STATUS_e -/ ⟨0x1030C, 0x10, 4, .hi, 0x80000000, []⟩,
  /- HI_EV_MASK_k -/ ⟨0x10400, 0x4, 8, .hi, 0xFFFFFFFF, [⟨31, 0, .rw⟩]⟩,
  /- HI_EV_ROUTE_k -/ ⟨0x10420, 0x4, 16, .hi, 0x00000000, [⟨31, 0, .rw⟩]⟩,
  /- HI_DP_ADDR_LO -/ ⟨0x10500, 0x0, 1, .hi, 0x00000000, [⟨31, 0, .rw⟩]⟩,
  /- HI_DP_ADDR_HI -/ ⟨0x10504, 0x0, 1, .hi, 0x00000000, [⟨31, 0, .rw⟩]⟩,
  /- HI_DP_CTRL -/ ⟨0x10508, 0x0, 1, .hi, 0x00000000, [⟨31, 31, .rw⟩, ⟨8, 8, .w1c⟩, ⟨7, 0, .rw⟩]⟩,
  /- HI_DP_STRIDE -/ ⟨0x1050C, 0x0, 1, .hi, 0x00000000, [⟨31, 0, .rw⟩]⟩,
  /- HI_SPI_WIN -/ ⟨0x10600, 0x0, 1, .hi, 0x00000000, [⟨4, 0, .rw⟩]⟩,
  /- HI_IRQ_PEND_LO -/ ⟨0x10604, 0x0, 1, .hi, 0x00000000, [⟨31, 0, .w1c⟩]⟩,
  /- HI_IRQ_PEND_HI -/ ⟨0x10608, 0x0, 1, .hi, 0x00000000, [⟨31, 0, .w1c⟩]⟩,
  /- HI_DB_SQ_n -/ ⟨0x11000, 0x8, 16, .hi, 0x00000000, [⟨31, 13, .wo⟩, ⟨12, 0, .wo⟩]⟩,
  /- HI_DB_CQ_n -/ ⟨0x11004, 0x8, 16, .hi, 0x00000000, [⟨31, 13, .wo⟩, ⟨12, 0, .wo⟩]⟩,
  /- HI_DB_EQ_e -/ ⟨0x11080, 0x4, 4, .hi, 0x00000000, [⟨31, 13, .wo⟩, ⟨12, 0, .wo⟩]⟩]

def metRegs0 : List RegDesc := [
  /- MET_STATUS -/ ⟨0x20004, 0x0, 1, .vl, 0x00000000, []⟩,
  /- MET_CAL_ID -/ ⟨0x20010, 0x0, 1, .vl, 0x00000000, []⟩,
  /- MET_CAL_CRC -/ ⟨0x20014, 0x0, 1, .vl, 0x00000000, []⟩,
  /- MET_PFAIL_CFG -/ ⟨0x20020, 0x0, 1, .vl, 0x00000323, [⟨11, 4, .rw⟩, ⟨1, 1, .rw⟩, ⟨0, 0, .rw⟩]⟩,
  /- MET_PFAIL_STATUS -/ ⟨0x20024, 0x0, 1, .vl, 0x00000000, []⟩,
  /- MET_REFCHK -/ ⟨0x20030, 0x0, 1, .vl, 0x00000000, []⟩,
  /- MET_STEST_CTRL -/ ⟨0x20040, 0x0, 1, .vl, 0x00000000, [⟨7, 0, .w1s⟩]⟩,
  /- MET_STEST_RESULT -/ ⟨0x20044, 0x0, 1, .vl, 0x00000000, []⟩,
  /- MET_INCFG_n -/ ⟨0x20100, 0x4, 24, .vl, 0x00000000, [⟨4, 4, .rws⟩, ⟨3, 0, .rws⟩]⟩,
  /- MET_INSCALE_n -/ ⟨0x20180, 0x4, 24, .vl, 0x3F800000, [⟨31, 0, .rws⟩]⟩,
  /- MET_TPMAP_V_n -/ ⟨0x20200, 0x10, 8, .vl, 0x000FFFFF, [⟨19, 15, .rws⟩, ⟨14, 10, .rws⟩, ⟨9, 5, .rws⟩, ⟨4, 0, .rws⟩]⟩,
  /- MET_TPMAP_I_n -/ ⟨0x20204, 0x10, 8, .vl, 0x01FFFFFF, [⟨24, 20, .rws⟩, ⟨19, 15, .rws⟩, ⟨14, 10, .rws⟩, ⟨9, 5, .rws⟩, ⟨4, 0, .rws⟩]⟩,
  /- MET_TPNOM_n -/ ⟨0x20208, 0x10, 8, .vl, 0x0C8008FC, [⟨31, 16, .rws⟩, ⟨15, 0, .rws⟩]⟩,
  /- MET_TPLIM_n -/ ⟨0x2020C, 0x10, 8, .vl, 0x003228A0, [⟨24, 24, .rws⟩, ⟨23, 16, .rws⟩, ⟨15, 8, .rws⟩, ⟨7, 0, .rws⟩]⟩,
  /- MET_TPCOND_n -/ ⟨0x20280, 0x4, 8, .vl, 0x00000000, []⟩,
  /- MET_FL_CFG_n -/ ⟨0x20300, 0x40, 8, .vl, 0x00000000, [⟨31, 28, .rws⟩, ⟨27, 24, .rws⟩, ⟨23, 20, .rws⟩, ⟨7, 5, .rws⟩, ⟨4, 4, .rws⟩, ⟨3, 3, .rws⟩, ⟨1, 1, .rws⟩]⟩,
  /- MET_FL_MAP_n -/ ⟨0x20304, 0x40, 8, .vl, 0x000FFFFF, [⟨19, 15, .rws⟩, ⟨14, 10, .rws⟩, ⟨9, 5, .rws⟩, ⟨4, 0, .rws⟩]⟩,
  /- MET_FL_PARAM_n -/ ⟨0x20308, 0x40, 8, .vl, 0x000053E8, [⟨24, 18, .rws⟩, ⟨17, 10, .rws⟩, ⟨9, 0, .rws⟩]⟩,
  /- MET_FL_LIM_n -/ ⟨0x2030C, 0x40, 8, .vl, 0x003C280A, [⟨31, 16, .rws⟩, ⟨15, 10, .rws⟩, ⟨9, 0, .rws⟩]⟩,
  /- MET_FL_EXP_n -/ ⟨0x20310, 0x40, 8, .vl, 0x3E803E80, [⟨31, 16, .rws⟩, ⟨15, 0, .rws⟩]⟩,
  /- MET_FL_BORE_n -/ ⟨0x20314, 0x40, 8, .vl, 0x00000000, [⟨31, 0, .rws⟩]⟩,
  /- MET_FL_PIPE_n -/ ⟨0x20318, 0x40, 8, .vl, 0x00000000, [⟨31, 0, .rws⟩]⟩,
  /- MET_FL_KFAC_n -/ ⟨0x2031C, 0x40, 8, .vl, 0x00000000, [⟨31, 0, .rws⟩]⟩,
  /- MET_FL_QREF_n -/ ⟨0x20320, 0x40, 8, .vl, 0x00000000, [⟨31, 0, .rws⟩]⟩,
  /- MET_FL_PREF_n -/ ⟨0x20324, 0x40, 8, .vl, 0x42C80000, [⟨31, 0, .rws⟩]⟩,
  /- MET_FL_TREF_n -/ ⟨0x20328, 0x40, 8, .vl, 0x41A00000, [⟨31, 0, .rws⟩]⟩,
  /- MET_FL_HRET_n -/ ⟨0x2032C, 0x40, 8, .vl, 0x00000000, [⟨31, 0, .rws⟩]⟩,
  /- MET_FL_SUB_P_n -/ ⟨0x20330, 0x40, 8, .vl, 0x00000000, [⟨31, 0, .rws⟩]⟩,
  /- MET_FL_SUB_T_n -/ ⟨0x20334, 0x40, 8, .vl, 0x00000000, [⟨31, 0, .rws⟩]⟩,
  /- MET_FL_SUB_RH_n -/ ⟨0x20338, 0x40, 8, .vl, 0x00000000, [⟨31, 0, .rws⟩]⟩,
  /- MET_FL_SUB_Q_n -/ ⟨0x2033C, 0x40, 8, .vl, 0x00000000, [⟨31, 0, .rws⟩]⟩,
  /- MET_FD_CFG_k -/ ⟨0x20500, 0x10, 4, .vl, 0x000A5100, [⟨23, 16, .rws⟩, ⟨15, 14, .rws⟩, ⟨13, 12, .rws⟩, ⟨11, 8, .rws⟩, ⟨0, 0, .rws⟩]⟩,
  /- MET_FD_ERR_k -/ ⟨0x20504, 0x10, 4, .vl, 0x00000000, []⟩,
  /- MET_MB_SRC_e -/ ⟨0x20540, 0x20, 16, .vl, 0x00000001, [⟨31, 16, .rws⟩, ⟨7, 0, .rws⟩]⟩,
  /- MET_MB_FMT_e -/ ⟨0x20544, 0x20, 16, .vl, 0x004003E8, [⟨31, 31, .rws⟩, ⟨29, 28, .rws⟩, ⟨27, 26, .rws⟩, ⟨25, 24, .rws⟩, ⟨23, 21, .rws⟩, ⟨20, 20, .rws⟩, ⟨19, 16, .rws⟩, ⟨15, 0, .rws⟩]⟩,
  /- MET_MB_SCALE_e -/ ⟨0x20548, 0x20, 16, .vl, 0x3F800000, [⟨31, 0, .rws⟩]⟩,
  /- MET_MB_MIN_e -/ ⟨0x2054C, 0x20, 16, .vl, 0x00000000, [⟨31, 0, .rws⟩]⟩,
  /- MET_MB_MAX_e -/ ⟨0x20550, 0x20, 16, .vl, 0x7F7FFFFF, [⟨31, 0, .rws⟩]⟩,
  /- MET_MB_AGE_e -/ ⟨0x20554, 0x20, 16, .vl, 0x0BB80032, [⟨31, 16, .rws⟩, ⟨15, 0, .rws⟩]⟩,
  /- MET_MB_EXPECT_e -/ ⟨0x20558, 0x20, 16, .vl, 0x00000000, [⟨31, 0, .rws⟩]⟩]

def metRegs1 : List RegDesc := [
  /- MET_MB_STAT_e -/ ⟨0x2055C, 0x20, 16, .vl, 0x00000000, []⟩,
  /- MET_FLSTAT_n -/ ⟨0x20740, 0x4, 8, .vl, 0x00000000, []⟩,
  /- MET_PROV_SEQ -/ ⟨0x20800, 0x0, 1, .vl, 0x00000000, []⟩,
  /- MET_PROV_Q_LO -/ ⟨0x20804, 0x0, 1, .vl, 0x00000000, []⟩,
  /- MET_PROV_Q_HI -/ ⟨0x20808, 0x0, 1, .vl, 0x00000000, []⟩,
  /- MET_PROV_STATUS -/ ⟨0x2080C, 0x0, 1, .vl, 0x00000000, []⟩,
  /- MET_PROV_PT_FLAGS_n -/ ⟨0x20840, 0x40, 8, .vl, 0x00000000, []⟩,
  /- MET_PROV_PT_FLSTAT_n -/ ⟨0x20844, 0x40, 8, .vl, 0x00000000, []⟩,
  /- MET_PROV_PT_SLOTk_LO -/ ⟨0x20848, 0x40, 8, .vl, 0x00000000, []⟩,
  /- MET_PROV_PT_SLOTk_LO -/ ⟨0x20850, 0x40, 8, .vl, 0x00000000, []⟩,
  /- MET_PROV_PT_SLOTk_LO -/ ⟨0x20858, 0x40, 8, .vl, 0x00000000, []⟩,
  /- MET_PROV_PT_SLOTk_LO -/ ⟨0x20860, 0x40, 8, .vl, 0x00000000, []⟩,
  /- MET_PROV_PT_SLOTk_HI -/ ⟨0x2084C, 0x40, 8, .vl, 0x00000000, []⟩,
  /- MET_PROV_PT_SLOTk_HI -/ ⟨0x20854, 0x40, 8, .vl, 0x00000000, []⟩,
  /- MET_PROV_PT_SLOTk_HI -/ ⟨0x2085C, 0x40, 8, .vl, 0x00000000, []⟩,
  /- MET_PROV_PT_SLOTk_HI -/ ⟨0x20864, 0x40, 8, .vl, 0x00000000, []⟩,
  /- MET_CH_TEMP -/ ⟨0x21004, 0x4000, 3, .ma, 0x00000000, []⟩,
  /- MET_CH_LASTQ_LO -/ ⟨0x21008, 0x4000, 3, .ma, 0x00000000, []⟩,
  /- MET_CH_LASTQ_HI -/ ⟨0x2100C, 0x4000, 3, .ma, 0x00000000, []⟩,
  /- MET_CH_LINKERR -/ ⟨0x21010, 0x4000, 3, .ma, 0x00000000, []⟩,
  /- MET_CH_OVR -/ ⟨0x21014, 0x4000, 3, .ma, 0x00000000, [⟨23, 0, .w1c⟩]⟩,
  /- MET_CH_REFDEV -/ ⟨0x21018, 0x4000, 3, .ma, 0x00000000, []⟩]

def metRegs : List RegDesc := metRegs0 ++ metRegs1

def vlRegs : List RegDesc := [
  /- VOT_CTRL -/ ⟨0x30000, 0x0, 1, .vl, 0x00000001, [⟨10, 8, .rws⟩, ⟨6, 4, .w1s⟩, ⟨0, 0, .rws⟩]⟩,
  /- VOT_STATUS -/ ⟨0x30004, 0x0, 1, .vl, 0x00000000, []⟩,
  /- VOT_DISAG -/ ⟨0x30008, 0x0, 1, .vl, 0x00000000, []⟩,
  /- VOT_REVER -/ ⟨0x3000C, 0x0, 1, .vl, 0x00000000, []⟩,
  /- VOT_REJOIN -/ ⟨0x30010, 0x0, 1, .vl, 0x00000000, []⟩,
  /- VOT_CONFQ_LO -/ ⟨0x30014, 0x0, 1, .vl, 0x00000000, []⟩,
  /- VOT_CONFQ_HI -/ ⟨0x30018, 0x0, 1, .vl, 0x00000000, []⟩,
  /- VOT_CNT_RETRACT -/ ⟨0x3001C, 0x0, 1, .vl, 0x00000000, []⟩,
  /- VOT_CNT_HOLD -/ ⟨0x30020, 0x0, 1, .vl, 0x00000000, []⟩,
  /- VOT_TOL_k -/ ⟨0x30040, 0x4, 8, .vl, 0x14010000, [⟨31, 24, .rws⟩, ⟨16, 0, .rws⟩]⟩,
  /- VOT_CH_DEV_c -/ ⟨0x30060, 0x4, 3, .vl, 0x00000000, []⟩,
  /- BIL_PERIOD_CFG -/ ⟨0x31000, 0x0, 1, .vl, 0x00010100, [⟨17, 16, .rws⟩, ⟨12, 8, .rws⟩, ⟨4, 0, .rws⟩]⟩,
  /- BIL_TAR_ID -/ ⟨0x31004, 0x0, 1, .vl, 0x00000000, []⟩,
  /- BIL_RATE_NOW -/ ⟨0x31008, 0x0, 1, .vl, 0x00000000, []⟩,
  /- BIL_NEXT_BOUND_LO -/ ⟨0x3100C, 0x0, 1, .vl, 0x00000000, []⟩,
  /- BIL_NEXT_BOUND_HI -/ ⟨0x31010, 0x0, 1, .vl, 0x00000000, []⟩,
  /- BIL_TIME_STATUS -/ ⟨0x31014, 0x0, 1, .vl, 0x00000002, []⟩,
  /- BIL_TIME_CFG -/ ⟨0x31018, 0x0, 1, .vl, 0x00000018, [⟨7, 0, .rws⟩]⟩,
  /- BIL_LASTCLOSE_LO -/ ⟨0x3101C, 0x0, 1, .vl, 0x00000000, []⟩,
  /- BIL_LASTCLOSE_HI -/ ⟨0x31020, 0x0, 1, .vl, 0x00000000, []⟩,
  /- BIL_PERIOD_NO -/ ⟨0x31024, 0x0, 1, .vl, 0x00000000, []⟩,
  /- BIL_LOG_STATUS -/ ⟨0x31028, 0x0, 1, .vl, 0x00000000, []⟩,
  /- BIL_RDG_SEQ_LO -/ ⟨0x3102C, 0x0, 1, .vl, 0x00000000, []⟩,
  /- BIL_RDG_SEQ_HI -/ ⟨0x31030, 0x0, 1, .vl, 0x00000000, []⟩,
  /- BIL_SERVO_SUM -/ ⟨0x31034, 0x0, 1, .vl, 0x00000000, []⟩,
  /- BIL_DEM_CFG_n -/ ⟨0x31100, 0x10, 8, .vl, 0x00000113, [⟨26, 24, .rws⟩, ⟨15, 8, .rws⟩, ⟨4, 4, .rws⟩, ⟨2, 0, .rws⟩]⟩,
  /- BIL_DEM_LAST_n -/ ⟨0x31104, 0x10, 8, .vl, 0x00000000, []⟩,
  /- BIL_DEM_STAT_n -/ ⟨0x31108, 0x10, 8, .vl, 0x00000000, []⟩]

def tptRegs : List RegDesc := [
  /- TPT_CTAB_STATUS -/ ⟨0x40000, 0x0, 1, .ap, 0x00000000, []⟩,
  /- TPT_TYPE_SLOTS -/ ⟨0x40004, 0x0, 1, .ap, 0x00000000, []⟩,
  /- TPT_IM_c -/ ⟨0x40010, 0x4, 2, .ap, 0x00000000, []⟩,
  /- TPT_STATE_n -/ ⟨0x40100, 0x40, 8, .ap, 0x00000000, []⟩,
  /- TPT_SESSION_n -/ ⟨0x40104, 0x40, 8, .ap, 0x00000000, []⟩,
  /- TPT_CFG_n -/ ⟨0x40108, 0x40, 8, .ap, 0x000010E2, [⟨31, 31, .rw⟩, ⟨15, 12, .rw⟩, ⟨9, 8, .rw⟩, ⟨7, 5, .rw⟩, ⟨4, 4, .rw⟩, ⟨3, 3, .rw⟩, ⟨2, 2, .rw⟩, ⟨1, 1, .rw⟩]⟩,
  /- TPT_LINK_n -/ ⟨0x4010C, 0x40, 8, .ap, 0x00000000, [⟨31, 31, .rw⟩, ⟨27, 16, .rw⟩, ⟨15, 15, .rw⟩, ⟨14, 10, .rw⟩, ⟨9, 9, .rw⟩, ⟨7, 4, .rw⟩, ⟨3, 3, .rw⟩]⟩,
  /- TPT_TIMES_n -/ ⟨0x40110, 0x40, 8, .ap, 0x3C1E012C, [⟨31, 24, .rw⟩, ⟨23, 16, .rw⟩, ⟨15, 0, .rw⟩]⟩,
  /- TPT_LIMIT_n -/ ⟨0x40114, 0x40, 8, .ap, 0x00640140, [⟨31, 16, .rw⟩, ⟨15, 0, .rw⟩]⟩,
  /- TPT_LEAK_n -/ ⟨0x40118, 0x40, 8, .ap, 0x01F40000, [⟨31, 16, .rw⟩, ⟨15, 0, .rw⟩]⟩,
  /- TPT_LEAK2_n -/ ⟨0x4011C, 0x40, 8, .ap, 0x00000000, [⟨31, 20, .rw⟩, ⟨19, 14, .rw⟩, ⟨13, 5, .rw⟩]⟩]

def ptnRegs : List RegDesc := [
  /- PTN_CAN_CFG_j -/ ⟨0x50000, 0x4, 2, .pt, 0x00000013, [⟨6, 4, .rw⟩, ⟨3, 1, .rw⟩, ⟨0, 0, .rw⟩]⟩,
  /- PTN_MAC_CFG_m -/ ⟨0x50010, 0x4, 2, .pt, 0x00000000, [⟨1, 1, .rw⟩, ⟨0, 0, .rw⟩]⟩,
  /- PTN_CP_k -/ ⟨0x50100, 0x20, 8, .pt, 0x00000000, []⟩,
  /- PTN_PP_k -/ ⟨0x50104, 0x20, 8, .pt, 0x0000FFFF, []⟩,
  /- PTN_COUP_k -/ ⟨0x50108, 0x20, 8, .pt, 0x00000000, []⟩,
  /- PTN_ERR_k -/ ⟨0x5010C, 0x20, 8, .pt, 0x00000000, []⟩]

def lswRegs : List RegDesc := [
  /- LSW_STATUS -/ ⟨0x60000, 0x0, 1, .pw, 0x00000000, []⟩,
  /- LSW_THERM -/ ⟨0x60004, 0x0, 1, .pw, 0x00000000, []⟩,
  /- LSW_AGG -/ ⟨0x60008, 0x0, 1, .pw, 0x00000000, []⟩,
  /- LSW_CMD -/ ⟨0x6000C, 0x0, 1, .pw, 0x00000000, [⟨15, 0, .rw⟩]⟩,
  /- LSW_LATCH -/ ⟨0x60010, 0x0, 1, .pw, 0x00000000, [⟨15, 0, .w1c⟩]⟩,
  /- LSW_PWM_PER_g -/ ⟨0x60040, 0x8, 8, .pw, 0x0000C350, [⟨21, 0, .rw⟩]⟩,
  /- LSW_PWM_DUTY_g -/ ⟨0x60044, 0x8, 8, .pw, 0x00000000, [⟨16, 16, .rw⟩, ⟨9, 0, .rw⟩]⟩,
  /- LSW_CH_CFG_n -/ ⟨0x60100, 0x10, 16, .pw, 0x000C0000, [⟨31, 31, .rw⟩, ⟨30, 30, .rw⟩, ⟨29, 27, .rw⟩, ⟨26, 26, .rw⟩, ⟨25, 25, .rw⟩, ⟨24, 24, .rw⟩, ⟨23, 22, .rw⟩, ⟨21, 18, .rw⟩, ⟨17, 15, .rw⟩, ⟨14, 14, .rw⟩, ⟨13, 6, .rw⟩]⟩,
  /- LSW_CH_LIM_n -/ ⟨0x60104, 0x10, 16, .pw, 0x140A0519, [⟨31, 25, .rw⟩, ⟨23, 16, .rw⟩, ⟨15, 8, .rw⟩, ⟨6, 0, .rw⟩]⟩,
  /- LSW_CH_STAT_n -/ ⟨0x60108, 0x10, 16, .pw, 0x00000000, []⟩,
  /- LSW_CH_CNT_n -/ ⟨0x6010C, 0x10, 16, .pw, 0x00000000, []⟩]

def safRegs : List RegDesc := [
  /- SAF_STATUS -/ ⟨0x70000, 0x0, 1, .sf, 0x00000000, []⟩,
  /- SAF_CFG_CRC -/ ⟨0x70004, 0x0, 1, .sf, 0x00000000, []⟩,
  /- SAF_IN -/ ⟨0x70008, 0x0, 1, .sf, 0x00000000, []⟩,
  /- SAF_OUT -/ ⟨0x7000C, 0x0, 1, .sf, 0x00000000, []⟩,
  /- SAF_FAULT -/ ⟨0x70010, 0x0, 1, .sf, 0x00000000, []⟩,
  /- SAF_TWOHAND -/ ⟨0x70014, 0x0, 1, .sf, 0x00000000, []⟩,
  /- SAF_RESET_REQ -/ ⟨0x70018, 0x0, 1, .sf, 0x00000000, [⟨31, 16, .wo⟩, ⟨15, 9, .wo⟩, ⟨8, 8, .wo⟩, ⟨7, 6, .wo⟩, ⟨5, 0, .wo⟩]⟩,
  /- SAF_FUNC_f -/ ⟨0x70040, 0x8, 6, .sf, 0x00000000, []⟩,
  /- SAF_FUNC_MASK_f -/ ⟨0x70044, 0x8, 6, .sf, 0x00000000, []⟩]

def mtlRegs : List RegDesc := [
  /- MTL_CFG -/ ⟨0x80000, 0x0, 1, .cm, 0x78418000, [⟨31, 24, .rw⟩, ⟨23, 20, .rw⟩, ⟨19, 14, .rw⟩, ⟨9, 8, .rw⟩, ⟨0, 0, .rw⟩]⟩,
  /- MTL_TX -/ ⟨0x80004, 0x0, 1, .cm, 0x0019003C, [⟨23, 16, .rw⟩, ⟨6, 0, .rw⟩]⟩,
  /- MTL_TIMING -/ ⟨0x80008, 0x0, 1, .cm, 0x000A0C05, [⟨23, 16, .rw⟩, ⟨15, 8, .rw⟩, ⟨7, 0, .rw⟩]⟩,
  /- MTL_STATUS -/ ⟨0x8000C, 0x0, 1, .cm, 0x00000000, []⟩,
  /- MTL_ADVSET -/ ⟨0x80010, 0x0, 1, .cm, 0x00000000, []⟩,
  /- MTL_CNT_TX -/ ⟨0x80014, 0x0, 1, .cm, 0x00000000, []⟩,
  /- MTL_CNT_RX -/ ⟨0x80018, 0x0, 1, .cm, 0x00000000, []⟩,
  /- MTL_CNT_ARQ -/ ⟨0x8001C, 0x0, 1, .cm, 0x00000000, []⟩,
  /- MTL_CNT_ERAS -/ ⟨0x80020, 0x0, 1, .cm, 0x00000000, []⟩,
  /- MTL_NB_ID_j -/ ⟨0x80100, 0x10, 32, .cm, 0x00000000, []⟩,
  /- MTL_NB_LINK_j -/ ⟨0x80104, 0x10, 32, .cm, 0x00000000, []⟩,
  /- MTL_NB_AGE_j -/ ⟨0x80108, 0x10, 32, .cm, 0x00000000, []⟩,
  /- MTL_NB_CNT_j -/ ⟨0x8010C, 0x10, 32, .cm, 0x00000000, []⟩]

def fabRegs : List RegDesc := [
  /- FAB_STATUS -/ ⟨0x90000, 0x0, 1, .cm, 0x00000000, []⟩,
  /- FAB_ID_CFG -/ ⟨0x90004, 0x0, 1, .cm, 0x00000001, [⟨15, 0, .rw⟩]⟩,
  /- FAB_ADDR_CFG -/ ⟨0x90008, 0x0, 1, .cm, 0x00000000, [⟨16, 16, .rw⟩, ⟨15, 0, .rw⟩]⟩,
  /- FAB_COLL_CFG -/ ⟨0x9000C, 0x0, 1, .cm, 0x00000000, [⟨31, 16, .rw⟩, ⟨15, 0, .rw⟩]⟩,
  /- FAB_REP_CFG -/ ⟨0x90010, 0x0, 1, .cm, 0x001E0007, [⟨25, 25, .rw⟩, ⟨24, 16, .rw⟩, ⟨2, 2, .rw⟩, ⟨1, 1, .rw⟩, ⟨0, 0, .rw⟩]⟩,
  /- FAB_KEY_CFG -/ ⟨0x90014, 0x0, 1, .cm, 0x03FFFF00, [⟨25, 17, .rw⟩, ⟨16, 8, .rw⟩]⟩,
  /- FAB_QUAR_CFG -/ ⟨0x90018, 0x0, 1, .cm, 0x012C08C8, [⟨31, 16, .rw⟩, ⟨15, 8, .rw⟩, ⟨7, 0, .rw⟩]⟩,
  /- FAB_CMD_PRIV -/ ⟨0x9001C, 0x0, 1, .cm, 0x00000000, [⟨1, 1, .rw⟩, ⟨0, 0, .rw⟩]⟩,
  /- FAB_PTP_CFG -/ ⟨0x90020, 0x0, 1, .cm, 0x00808000, [⟨31, 24, .rw⟩, ⟨23, 16, .rw⟩, ⟨15, 8, .rw⟩, ⟨0, 0, .rw⟩]⟩,
  /- FAB_PTP_STATUS -/ ⟨0x90024, 0x0, 1, .cm, 0x00000000, []⟩,
  /- FAB_PTP_OFFSET -/ ⟨0x90028, 0x0, 1, .cm, 0x00000000, []⟩,
  /- FAB_KEY_EPOCH -/ ⟨0x9002C, 0x0, 1, .cm, 0x00000000, []⟩,
  /- FAB_PAIR_CFG -/ ⟨0x90030, 0x0, 1, .cm, 0x00000000, [⟨1, 1, .rw⟩, ⟨0, 0, .rw⟩]⟩,
  /- FAB_PAIR_STATUS -/ ⟨0x90034, 0x0, 1, .cm, 0x00000000, []⟩,
  /- FAB_NODES -/ ⟨0x90040, 0x0, 1, .cm, 0x00000000, []⟩,
  /- FAB_DUP_STATUS -/ ⟨0x90044, 0x0, 1, .cm, 0x00000000, []⟩,
  /- FAB_REP_SEQ -/ ⟨0x90048, 0x0, 1, .cm, 0x00000000, []⟩,
  /- FAB_DROPS -/ ⟨0x9004C, 0x0, 1, .cm, 0x00000000, []⟩,
  /- FAB_PORT_CFG_k -/ ⟨0x90100, 0x10, 4, .cm, 0x00000A00, [⟨15, 8, .rw⟩, ⟨2, 2, .rw⟩, ⟨1, 1, .rw⟩, ⟨0, 0, .rw⟩]⟩,
  /- FAB_PORT_STATUS_k -/ ⟨0x90104, 0x10, 4, .cm, 0x00000000, []⟩,
  /- FAB_PORT_ERR_k -/ ⟨0x90108, 0x10, 4, .cm, 0x00000000, []⟩,
  /- FAB_PORT_AUTH_k -/ ⟨0x9010C, 0x10, 4, .cm, 0x00000000, []⟩]

def keyRegs : List RegDesc := [
  /- KEY_STATUS -/ ⟨0xA0000, 0x0, 1, .ks, 0x00000000, []⟩,
  /- KEY_LIFE -/ ⟨0xA0004, 0x0, 1, .ks, 0x00000000, []⟩,
  /- KEY_CHG_LEFT -/ ⟨0xA0008, 0x0, 1, .mg, 0x02081049, []⟩,
  /- KEY_IDENT_LO -/ ⟨0xA000C, 0x0, 1, .mg, 0x00000001, []⟩,
  /- KEY_IDENT_HI -/ ⟨0xA0010, 0x0, 1, .mg, 0x00000000, []⟩,
  /- KEY_RDG_KID -/ ⟨0xA0014, 0x0, 1, .ks, 0x00000000, []⟩,
  /- KEY_INTEG -/ ⟨0xA0018, 0x0, 1, .mg, 0x00000000, []⟩,
  /- KEY_TMP_CFG -/ ⟨0xA0020, 0x0, 1, .ks, 0x00000000, [⟨7, 4, .rws⟩, ⟨3, 0, .rws⟩]⟩,
  /- KEY_TMP_STAT -/ ⟨0xA0024, 0x0, 1, .ks, 0x00000000, [⟨8, 8, .w1c⟩, ⟨3, 0, .w1c⟩]⟩,
  /- KEY_SLOT_SEL -/ ⟨0xA0030, 0x0, 1, .ks, 0x00000000, [⟨8, 0, .rw⟩]⟩,
  /- KEY_SLOT_INFO -/ ⟨0xA0034, 0x0, 1, .ks, 0x00000000, []⟩,
  /- KEY_SLOT_DEST -/ ⟨0xA0038, 0x0, 1, .ks, 0x00000000, []⟩,
  /- KEY_SLOT_CNT -/ ⟨0xA003C, 0x0, 1, .ks, 0x00000000, []⟩]

def ldpRegs : List RegDesc := [
  /- LDP_CTRL -/ ⟨0xB0000, 0x0, 1, .vl, 0x04001440, [⟨31, 31, .rw⟩, ⟨30, 24, .rw⟩, ⟨14, 8, .rw⟩, ⟨7, 4, .rw⟩]⟩,
  /- LDP_GEOM -/ ⟨0xB0004, 0x0, 1, .vl, 0x8190F000, [⟨31, 31, .rws⟩, ⟨24, 16, .rws⟩, ⟨15, 8, .rws⟩]⟩,
  /- LDP_LEGAL -/ ⟨0xB0008, 0x0, 1, .vl, 0x000030C0, [⟨15, 8, .rws⟩, ⟨7, 0, .rws⟩]⟩,
  /- LDP_STATUS -/ ⟨0xB000C, 0x0, 1, .vl, 0x00000000, []⟩,
  /- LDP_VCOM -/ ⟨0xB0010, 0x0, 1, .vl, 0x0000FF9C, [⟨31, 16, .rws⟩, ⟨15, 0, .rws⟩]⟩,
  /- LDP_VCOM_NOW -/ ⟨0xB0014, 0x0, 1, .vl, 0x00000000, []⟩,
  /- LDP_CNT -/ ⟨0xB0018, 0x0, 1, .vl, 0x00000000, []⟩,
  /- LDP_STRESS_b -/ ⟨0xB0040, 0x4, 15, .vl, 0x00000000, []⟩,
  /- LDP_DIRTY_k -/ ⟨0xB0080, 0x4, 8, .vl, 0x00000000, []⟩]

def queRegs : List RegDesc := [
  /- QUE_STATUS -/ ⟨0xC0000, 0x0, 1, .mg, 0x00000000, []⟩,
  /- QUE_CFG_i -/ ⟨0xC0100, 0x10, 35, .mg, 0x00000000, [⟨0, 0, .rw⟩]⟩,
  /- QUE_FILL_i -/ ⟨0xC0104, 0x10, 35, .mg, 0x00000000, []⟩,
  /- QUE_STAT_i -/ ⟨0xC0108, 0x10, 35, .mg, 0x00000000, []⟩,
  /- QUE_DROP_i -/ ⟨0xC010C, 0x10, 35, .mg, 0x00000000, []⟩]

def updRegs : List RegDesc := [
  /- UPD_CFG -/ ⟨0xD0000, 0x0, 1, .mg, 0x01FF2580, [⟨24, 16, .rw⟩, ⟨15, 4, .rw⟩, ⟨0, 0, .rw⟩]⟩,
  /- UPD_STATUS -/ ⟨0xD0004, 0x0, 1, .mg, 0x00000000, []⟩,
  /- UPD_INCOMING -/ ⟨0xD0008, 0x0, 1, .mg, 0x00000000, []⟩,
  /- UPD_SLOT_g -/ ⟨0xD0014, 0x4, 7, .mg, 0x00300000, []⟩,
  /- UPD_ENG_VER_e -/ ⟨0xD0080, 0x8, 12, .mg, 0x00000000, []⟩,
  /- UPD_ENG_STAT_e -/ ⟨0xD0084, 0x8, 12, .mg, 0x00000000, []⟩]

/-- The registers of a 64 KiB block (R21). -/
def blockRegs (b : Nat) : List RegDesc :=
  match b with
  | 0 => mgRegs
  | 1 => hiRegs
  | 2 => metRegs
  | 3 => vlRegs
  | 4 => tptRegs
  | 5 => ptnRegs
  | 6 => lswRegs
  | 7 => safRegs
  | 8 => mtlRegs
  | 9 => fabRegs
  | 10 => keyRegs
  | 11 => ldpRegs
  | 12 => queRegs
  | 13 => updRegs
  | _ => []

/-- Whether the descriptor's row of registers has a register at `off`. -/
def RegDesc.covers (d : RegDesc) (off : Nat) : Bool :=
  decide (d.base ≤ off) &&
    (if d.stride = 0 then off == d.base
     else (off - d.base) % d.stride == 0 && decide ((off - d.base) / d.stride < d.count))

/-- The register at an offset, if the offset is assigned (R22). -/
def regAt (off : Nat) : Option RegDesc := (blockRegs (off / 0x10000)).find? (fun d => d.covers off)

end Sys2Proof.Machine
end

