-- ==== Sys2Proof/Machine/State.lean ====
section
/-! DEFINITION. The state of the module as plain data: the register file (every register of the spec, by
its BAR0 offset, R21), and for each chapter the state that lies behind the registers (records, queues,
timers, memories). `pending` is the queue of commands waiting to be executed, first in first out. -/

namespace Sys2Proof.Machine

/-- The byte memories of the module, in one list of cells: strictly rising addresses, and no cell that
holds the byte an unlisted address reads as. -/
abbrev Mem := List Host.Cell

/-! ### Time base (island TB) -/

/-- Where the supply-loss sequence of R74 to R77 stands. -/
inductive SupplyPhase where
  | normal | warned | saving | saved
  deriving DecidableEq, Repr

/-- Device time, the quantum count (R13 to R15) and the corrections of R160. -/
structure TimeS where
  /-- Number of the quantum in progress (R15). -/
  quantum : Nat
  /-- Device time of its start, in µs (R14). -/
  qStart : Nat
  /-- Microseconds passed in the quantum (the model's clock inside a quantum). -/
  usInQ : Nat
  /-- Microseconds of the model's clock, never stepped nor reset (for rate limits and windows). -/
  now : Nat
  /-- Device time still to be slewed, µs (R160). -/
  slewLeft : Int
  /-- Size of the slew in progress, µs. -/
  slewTotal : Int
  /-- An accepted step that takes effect at the next boundary: its size and whether a time set (R160). -/
  stepPend : Option (Int × Bool)
  /-- Rate correction of the IEEE 1588 servo, ppm, −100 to +100 (R160, R304). -/
  servoPpm : Int
  /-- Servo correction accumulated in 10⁻⁶ µs (ppm × µs), below one µs. -/
  servoFrac : Int
  /-- `now` of the newest synchronisation of R159, if any. -/
  lastSync : Option Nat
  /-- Confirmed timestamps: quantum number and device time of its start, newest first (R15). -/
  starts : List (Nat × Nat)
  /-- The real-time clock's oscillator-stop flag (R158, R404). -/
  oscStop : Bool
  deriving DecidableEq, Repr

/-! ### Islands and faults (chapter 1) -/

/-- State behind the MG block that chapter 1 and chapter 15 give. -/
structure IslS where
  /-- Crossings that are fenced (R30, R31). -/
  fenced : List (Isl × Isl)
  /-- Islands that R31 has fenced whose crossings have not all reopened (EV005). -/
  due : List Isl
  /-- Stalls of the last 1 ms: blamed island and `now` (R31). -/
  stalls : List (Isl × Nat)
  /-- The supply-loss phase (R76, R77). -/
  supply : SupplyPhase
  /-- A commanded module reset that follows 1 ms after its completion (R387): its source code. -/
  resetPend : Option Nat
  /-- The restart of R77 is withheld until Shell is below 115 °C (R408). -/
  hotHold : Bool
  /-- Reset-cause code by which each island was last reset (for the power-on entry of VL). -/
  vlCause : Nat
  /-- Commanded island resets whose islands have not restarted (R387), with their commands. -/
  resetCmd : List (Isl × Desc)
  /-- The short quantum q_w of the newest supply-loss warning (R76). -/
  qw : Nat
  /-- `now` of the release of the newest module start (MG_BOOT_STATUS.BOOT_TIME). -/
  startAt : Nat
  deriving DecidableEq, Repr

/-! ### Quantum records (R113, R114) -/

/-- A point block of a quantum record (R114). -/
structure PBlock where
  type_ : Nat
  marks : Byte
  conds : Half
  fluid : Word
  /-- Slots 0 to 3, signed, in 2⁻¹⁶ of the register resolution. -/
  slots : List Int
  /-- The fields of the measurement area in the order of R116, each as a number. -/
  meas : List Int
  deriving DecidableEq, Repr

/-- A quantum record (R113), in a channel or confirmed. -/
structure QRec where
  /-- 0 to 2 for A to C, 3 for a confirmed record. -/
  chan : Nat
  flags : Byte
  q : Nat
  samples : Nat
  band : Nat
  /-- Blocks of the configured points: point number and block, in increasing order. -/
  blocks : List (Nat × PBlock)
  calNo : Nat
  gen : Nat
  deriving DecidableEq, Repr

/-! ### Metering (chapters 2 and 3) -/

/-- A Modbus entry's part of a field record (R91). -/
structure FieldVal where
  value : Option Rat
  ageMs : Nat
  stale : Bool
  impl : Bool
  idFail : Bool
  totMis : Bool
  deriving DecidableEq, Repr

/-- A field record (R91): the quantum it is for and its sixteen entries. -/
structure FieldRec where
  q : Nat
  vals : List FieldVal
  deriving DecidableEq, Repr

/-- Newest good values of a fluid point's roles, each with its quantum (R98, R100). -/
structure FluidGood where
  p : Option (Nat × Rat)
  t : Option (Nat × Rat)
  rh : Option (Nat × Rat)
  x : Option (Nat × Rat)
  flow : Option (Nat × Rat)
  deriving DecidableEq, Repr

/-- A quantum whose samples are complete and whose record is still to be sent: what held for it. -/
structure ClosedQ where
  q : Nat
  /-- Sample rows, oldest first, 24 codes each. -/
  rows : List (List Int)
  samples : Nat
  short : Bool
  link : Bool
  gen : Half
  cal : Option (List Byte)
  /-- Settings that changed at the quantum's end, with the values in force in the quantum (R48). -/
  overlay : List (Nat × Word)
  /-- Type codes of the points. -/
  types : List Nat
  /-- Points on which a start test ran (R68). -/
  tests : Byte
  band : Nat
  oor : Bool
  ref : Bool
  /-- Inputs that reached a full-scale code (R51). -/
  ovr : BitVec 24
  /-- Channel ticks of the quantum's two boundaries, and the pulse edges before its end, newest first. -/
  t0 : Nat
  t1 : Nat
  edges : Vector (List Nat) 16
  deriving DecidableEq, Repr

/-- A metering channel: its island and its side of the link (R18, R52). -/
structure ChanS where
  /-- Sample rows of the quantum in progress, newest first, 24 codes each (R53, R54). -/
  rows : List (List Int)
  /-- The 63 rows before the quantum in progress, newest first (R57). -/
  hist : List (List Int)
  /-- Processed samples of the quanta before, newest first, as far back as the windows of R66 reach. -/
  win : List (List Rat)
  /-- Newest THD values of each point (R66). -/
  thd : Vector (List Int) 8
  /-- Frame counter of the newest frame (R54). -/
  ctr : Option Half
  /-- Bad frames received in the quantum in progress (R55). -/
  badN : Nat
  /-- Sum and number of the reference temperatures of the quantum, 0.01 °C (R59). -/
  tempSum : Int
  tempCnt : Nat
  /-- The band is chosen afresh without hysteresis (R423). -/
  freshBand : Bool
  /-- Inputs that reached a full-scale code in the quantum in progress (R51). -/
  ovr : BitVec 24
  /-- Rogowski integrator states y and last inputs s, per input (R57 step 5). -/
  integ : List (Rat × Rat)
  /-- Remainders of R65: per point, per slot, in units of 2⁻¹⁶ of the register resolution. -/
  rem : Vector (List Rat) 8
  /-- Counts of R70: per point, for sequence, loss and neutral: quanta present, quanta absent. -/
  condCnt : Vector (List (Nat × Nat)) 8
  /-- Counts of R72: per point, the five rows of its table. -/
  rcmCnt : Vector (List Nat) 8
  /-- Condition flags of R114 of each point. -/
  conds : Vector Half 8
  /-- Start-test accumulators, in joules (R68). -/
  testAcc : Vector Rat 8
  /-- The quantum whose record is being computed. -/
  closed : Option ClosedQ
  /-- Records kept until VL acknowledges them, oldest first (R37). -/
  kept : List QRec
  /-- How many of `kept`, from the front, were offered before and await an answer (R25). -/
  offered : Nat
  /-- Newest field record held (R91), and whether the closed quantum's is awaited or was late. -/
  field : Option FieldRec
  fieldLate : Bool
  fieldWait : Bool
  /-- Newest pulse edges, newest first, per pulse input, in clock ticks (R83). -/
  edges : Vector (List Nat) 16
  /-- Channel tick at which the quantum in progress began. -/
  tick0 : Nat
  /-- Channel tick at which each point's settings last took effect (R84). -/
  since : Vector Nat 8
  good : Vector FluidGood 8
  /-- Points that had a substitution bit in the newest quantum (R100). -/
  subst : Byte
  deriving DecidableEq, Repr

/-- A Modbus entry in AP (R87 to R90). -/
structure MbEntry where
  /-- Newest valid value and the `now` of its arrival. -/
  value : Option (Rat × Nat)
  /-- `now` of the start of its newest poll. -/
  polled : Option Nat
  /-- A read is wanted at once (identity read on entry into Connected, R89). -/
  readNow : Bool
  impl : Bool
  idFail : Bool
  totMis : Bool
  /-- Totaliser value and arrival of the window's start (R90). -/
  totPrev : Option (Rat × Nat)
  /-- Integral of the entry's values over the window, value × µs, and the `now` up to which it runs. -/
  integral : Rat
  integAt : Nat
  /-- A value of the window was stale (R90). -/
  skip : Bool
  deriving DecidableEq, Repr

/-- A waveform capture (R264, command 0x0206): its channel, first quantum, number of quanta and input mask. -/
structure Capture where
  desc : Desc
  chan : Fin 3
  first : Nat
  quanta : Nat
  mask : Nat
  deriving DecidableEq, Repr

/-- What the common MET block keeps beside its registers. -/
structure MetS where
  chans : Vector ChanS 3
  /-- Settings written since the boundary, with the values still in force until the next (R48, R119). -/
  waiting : List (Nat × Word)
  /-- Settings generation of R113. -/
  gen : Half
  /-- Calibration set and settings generation recorded for each quantum, newest first (R117). -/
  recorded : List (Nat × Nat × Nat)
  /-- Active calibration set's bytes; none is set 0 (R61). -/
  cal : Option (List Byte)
  calPend : Option (List Byte)
  /-- A point's type that takes effect at the next boundary (R174). -/
  typePend : Vector (Option Nat) 8
  /-- R56: consecutive comparisons that make each bank suspect, that find all pairs apart, and clean ones. -/
  suspRun : Vector Nat 3
  allRun : Nat
  cleanRun : Vector Nat 3
  /-- Pairwise differences of the last second with their `now` (MET_REFCHK.WORST_PPM). -/
  worst : List (Nat × Nat)
  /-- First quantum of the running start test of each point (R68). -/
  testQ : Vector (Option Nat) 8
  /-- Confirmed quanta in Transferring for which FLOW_SUB or RANGE was set without a break (R102). -/
  subRun : Vector Nat 8
  entries : Vector MbEntry 16
  /-- Transaction outstanding on each FD port: entry and repeats left (R87). -/
  busy : Vector (Option (Fin 16 × Nat)) 4
  /-- Timeouts, discarded frames and exceptions of each FD port in AP. -/
  fdErr : Vector (Nat × Nat × Nat) 4
  /-- Field record in flight from AP to each channel (R91). -/
  fieldOut : Vector (Option FieldRec) 3
  /-- Waveform captures, the one in progress first. -/
  captures : List Capture
  deriving DecidableEq, Repr

/-! ### Voter (chapter 4) -/

/-- An arrived record: its arrival order, its tick, the record and whether its CRC held. -/
structure Arr where
  tick : Nat
  qrec : QRec
  crcOk : Bool
  deriving DecidableEq, Repr

/-- A hold run of a point (R127): its first quantum, the slots held so far, and the sums. -/
structure HoldRun where
  first : Nat
  mask : BitVec 4
  /-- Per slot, the sums of channels A, B and C. -/
  sums : List (List Int)
  deriving DecidableEq, Repr

structure VotS where
  /-- Records of unresolved quanta that have arrived, in order of arrival. -/
  arrived : List Arr
  /-- Counts the ticks at which records arrived. -/
  tick : Nat
  /-- Newest resolved quanta's confirmed records, newest first, at most 65 (R124, R125, R137). -/
  confirmed : List QRec
  /-- Sequence count of the confirmed record region (R137). -/
  confSeq : Word
  /-- The record in the provisional window (R135). -/
  prov : Option QRec
  /-- Provisional records published for unresolved quanta (R133). -/
  published : List QRec
  /-- Channel that would be faulty's q_f (R128). -/
  qf : Vector Nat 3
  /-- After a failed start test of a channel's bank: the points whose start test it has passed since (R128). -/
  owed : Vector (Option (List Nat)) 3
  /-- Quantum from which each channel takes part after a rejoin (R128). -/
  join : Vector Nat 3
  /-- Next quantum of each channel's re-verification run, and the last one judged in it. -/
  revNext : Vector Nat 3
  runLast : Vector Nat 3
  /-- A complete re-verification run's last quantum was resolved: rejoin at the next boundary. -/
  rejoin : Vector Bool 3
  /-- Each channel's deviations of the last second in 0.01 of the tolerance, with their `now` (VOT_CH_DEV). -/
  devs : Vector (List (Nat × Nat)) 3
  /-- `now` of each channel's rejoins (R128). -/
  rejoins : Vector (List Nat) 3
  holds : Vector (Option HoldRun) 8
  /-- Newest quantum each channel delivered (R125). -/
  newest : Vector Nat 3
  /-- VL is catching up (R139). -/
  catchUp : Bool
  /-- Quanta that were never metered end before this quantum (R126, R158). -/
  firstQ : Nat
  deriving DecidableEq, Repr

/-! ### Custody registers and tariffs (chapter 5) -/

/-- A quantity block (R143). -/
structure Block where
  total : Dword
  rates : Vector Dword 16
  residue : Half
  marked : Dword
  markedRes : Half
  deriving DecidableEq, Repr

/-- A maximum-demand register (R148, R172). -/
structure MaxDem where
  value : Word
  status : Word
  start : Dword
  deriving DecidableEq, Repr

/-- A demand subinterval that has closed: its sum and status (R149). -/
structure SubInt where
  sum : Nat
  status : Word
  start : Nat
  deriving DecidableEq, Repr

/-- The open demand interval or subinterval of a point (R147, R148). -/
structure Demand where
  /-- Start (device time) of the interval, none before the first quantum. -/
  start : Option Nat
  /-- End (device time). -/
  end_ : Nat
  /-- Number of its first quantum. -/
  firstQ : Nat
  /-- Sums of the credits of each quantity block u, in 2⁻¹⁶ counts. -/
  sums : List Nat
  status : Word
  /-- Closed subintervals of the window, newest first. -/
  subs : List SubInt
  /-- End of the newest closed interval (R161). -/
  closedEnd : Nat
  /-- Configuration of BIL_DEM_CFG_n in force. -/
  cfg : Word
  /-- Type of the point whose quantity blocks the sums hold. -/
  ty : Nat
  deriving DecidableEq, Repr

structure PointBill where
  /-- Quantity blocks by quantity code 0x01 to 0x0B; index 0 is unused (R143). -/
  blocks : Vector Block 12
  maxDem : Vector MaxDem 16
  demand : Demand
  /-- Flags since the point's previous reading (R164, byte 43). -/
  flags : Byte
  deriving DecidableEq, Repr

/-- A reading that is waiting for its quantum or for its signature (R163). -/
structure ReadReq where
  reason : Byte
  point : Fin 8
  qr : Nat
  cmd : Option Desc
  deriving DecidableEq, Repr

/-- A packet for the Boathouse writer (queue 0x22, R268): kind 0 reading, 1 session end record, 2 profile entry. -/
structure StorePkt where
  kind : Nat
  point : Nat
  bytes : List Byte
  deriving DecidableEq, Repr

/-- What the supply-loss save writes beside the registers themselves (R157). -/
structure Saved where
  resolved : Nat
  qStart : Nat
  rate : Nat
  pendSwitch : Bool
  quality : Nat
  deriving DecidableEq, Repr

structure BilS where
  points : Vector PointBill 8
  /-- Previous-period copy (R151). -/
  prev : Vector (Vector Block 12 × Vector MaxDem 16) 8
  /-- Active tariff structure's bytes; none is structure 0 (R152). -/
  tariff : Option (List Byte)
  /-- A loaded structure with the quantum from whose start it applies. -/
  tariffPend : Option (Nat × List Byte)
  /-- Rate committed for the quantum to be resolved next (R155). -/
  rate : Nat
  /-- Rate in force for the newest resolved quantum (R164). -/
  rateQ : Nat
  /-- `now` of the newest rate switch (R157). -/
  switchedAt : Option Nat
  /-- Close-period commands with the quantum at whose start they take effect (R151). -/
  closePend : List (Desc × Nat)
  /-- Readings not yet taken, and the signed ones' bodies waiting for the signature, oldest first. -/
  wanted : List ReadReq
  signing : List (ReadReq × List Byte)
  /-- Entries of the legal log, newest first, 64 bytes each (R167). -/
  log : List (List Byte)
  /-- Packets waiting for the Boathouse writer (R150, R163, R180), oldest first. -/
  store : List StorePkt
  /-- Write positions in Boathouse: reading log, session end records, profile rings, and newest entries. -/
  storeAt : List (Nat × Nat)
  saved : Option Saved
  /-- Quanta lost by supply failure (R157). -/
  lost : Nat
  /-- Sequence counts of the data-port regions of R172: current, previous, tariff. -/
  seqs : List Word
  /-- Interval reports, readings and records offered to the fabric wait in `FabS`. Month of the servo sum. -/
  servoMonth : Nat
  /-- Reading sequence and total of each point's newest start and end reading. -/
  lastRead : Vector (Nat × Nat) 8
  /-- Time steps not yet resolved: the quantum at whose start each took effect, and its size in µs (R161). -/
  stepped : List (Nat × Int)
  /-- Settings changes that cleared remainders, not yet resolved: the first quantum and the points (R148). -/
  cleared : List (Nat × Byte)
  deriving DecidableEq, Repr

/-! ### Sessions and partners (chapter 6) -/

/-- Phase of the leak test (R197). -/
inductive LeakPhase where
  | idle | filling | settling | testing | passed
  deriving DecidableEq, Repr

/-- A session and its partner interface. -/
structure Sess where
  /-- Identity string of the partner (R189, R190). -/
  ident : List Byte
  certValid : Bool
  /-- The certificate waits for the host's revocation answer (R198). -/
  certWait : Bool
  /-- EV062 has asked the host. -/
  hostAsked : Bool
  contractIdx : Half
  prepaid : Dword
  qs : Option Nat
  qe : Option Nat
  startSeq : Dword
  endSeq : Dword
  startTotal : Dword
  endTotal : Dword
  /-- Flags of the session end record (R180). -/
  flags : Word
  /-- The start reading has been taken. -/
  startTaken : Bool
  /-- Closing waits for the end reading; the state it goes to. -/
  waitEnd : Bool
  /-- PW was ordered to the safe state and has not confirmed. -/
  waitSafe : Bool
  partner : Bool
  ready : Bool
  hostLimit : Option Nat
  /-- `now` of recent changes between pilot states B and C (R185). -/
  bcChanges : List Nat
  slacFails : Nat
  /-- Pilot at state F for the fallback's 3 s (R187). -/
  fallbackF : Bool
  /-- Consecutive quanta with every V input below 10 % of VNOM (R194). -/
  weldQ : Nat
  /-- A clear-fault's weld row is running, for this command (R181). -/
  weldCmd : Option Desc
  rcmTesting : Bool
  rcmDone : Bool
  leak : LeakPhase
  leakP0 : Int
  isoGood : Nat
  isoBad : Nat
  /-- Generation being tried on the coupling (R190), last generation-1 identity heard. -/
  trying : Nat
  gen1 : Option (List Byte)
  coupSeq : Dword
  replays : List Nat
  /-- Sequence and command of the CAN FD command frame (R193); mismatching quanta. -/
  stackSeq : Byte
  stackCmd : Byte
  stackAmps : Int
  stackMis : Nat
  /-- The session was adopted and its partner has not resumed (R308, R386). -/
  adopted : Bool
  /-- A session end record is still to be written, once the end reading is complete (R179, R180, R39). -/
  recDue : Bool
  /-- `now` of the newest event that changed the state (R176). -/
  actedAt : Option Nat
  /-- The 300 ms of the residual-current test's drive ended with a trip, still to be cleared (R195). -/
  rcmSeen : Bool
  deriving DecidableEq, Repr

structure TptS where
  sess : Vector Sess 8
  /-- Newest session number (R177). -/
  counter : Word
  /-- The contract table's bytes (R199). -/
  table : List Byte
  /-- Sessions recorded in eMRAM: the state each point is recorded in (R386). -/
  recorded : Vector (BitVec 4) 8
  /-- Reason behind each latched WELD, 0 none (R181). -/
  latched : Vector Nat 8
  deriving DecidableEq, Repr

/-! ### Load switches (chapter 7) -/

structure LswS where
  /-- Generator settings in force: period, duty, enabled (R214). -/
  pwm : Vector (Nat × Nat × Bool) 8
  /-- Phase offsets in force. -/
  phase : Vector Byte 16
  /-- Shed channels, newest first, each with whether the temperature shed it (R210, R211). -/
  shedOrder : List (Fin 16 × Bool)
  /-- Shedding is in progress (R210), by current or by temperature. -/
  shedCur : Bool
  shedTemp : Bool
  /-- Shed channels may return (R210, R211). -/
  returning : Bool
  /-- Channels waiting to turn on again after an undervoltage off, or a dip (R215). -/
  uvWait : Half
  /-- Channels that the safety logic holds off (R203, R223). -/
  forced : Half
  /-- Newest mirrored commanded state of the DUPLEX channels (R219). -/
  mirror : Half
  /-- Shedding has raised EV080 in the present run (R220). -/
  shedRun : Bool
  deriving DecidableEq, Repr

/-! ### Safety (chapter 8) -/

/-- States of a safety function (R230). -/
inductive FnState where
  | released | demanded | awaiting | discrepancy
  deriving DecidableEq, Repr

/-- Modes of a safety channel (SAF_STATUS.MODE). -/
inductive SafMode where
  | startTests | run | safeFault | unconfigured
  deriving DecidableEq, Repr

/-- A two-hand attempt in one channel (R231): armed, first hand's pair and its sample, accepted interval or refusal. -/
structure TwoHand where
  armed : Bool
  first : Option (Nat × Nat)
  /-- Newest interval, 0.1 ms; none before the first attempt of this arming. -/
  result : Option Nat
  deriving DecidableEq, Repr

/-- One safety channel's view (R222). -/
structure SafCh where
  mode : SafMode
  fns : Vector FnState 6
  hands : Vector TwoHand 6
  /-- Sample at which a reset button was pressed, with the functions Awaiting reset then (R234). -/
  press : Vector (Option (Nat × BitVec 6)) 6
  deriving DecidableEq, Repr

structure SafS where
  chA : SafCh
  chB : SafCh
  /-- Output test period of the active configuration, 100 ms (R238). -/
  otest : Half
  /-- Staged configuration waiting for its confirmation (R238). -/
  staged : Option (List Byte)
  /-- Switch states commanded by the channels: bit n for SFOn. -/
  swA : BitVec 4
  swB : BitVec 4
  /-- Which switch the next output test of each output turns off (R224). -/
  testB : BitVec 4
  deriving DecidableEq, Repr

/-! ### Host rings and data port (chapter 9) -/

/-- A result that a target island returned (R258). -/
structure Result where
  desc : Desc
  status : Nat
  detail : Nat
  bytes : List Byte
  deriving DecidableEq, Repr

/-- The part of a ring queue that its registers do not show (R248 to R251). -/
structure RingS where
  /-- SQ tail, or CQ or EQ head: the host's index. -/
  host : Nat
  /-- Phase bit of the module's next entry (R250). -/
  phase : Bool
  /-- Entries dropped since the last gap entry (R251). -/
  gap : Nat
  /-- Entries written since the newest signal (R261). -/
  unsig : Nat
  /-- EQ sequence number (R254). -/
  seq : Word
  deriving DecidableEq, Repr

structure HostS where
  sq : Vector RingS 16
  cq : Vector RingS 16
  eq : Vector RingS 4
  /-- Fetched commands not yet dispatched, oldest first. -/
  fetched : Vector (List Desc) 16
  /-- Commands dispatched and not completed, oldest first. -/
  inFlight : List Desc
  results : List Result
  /-- Data that the newest read by the host returned. -/
  readData : List Byte
  /-- Bytes consumed of the current stream element (R263). -/
  elemPos : Nat
  /-- Rate limits of events: source, unit and `now` when last raised. -/
  evLast : List (Nat × Nat × Nat)
  /-- A change of link state waits for the link to come up (R245). -/
  linkChanged : Bool
  /-- Highest generation that the link partner offers (R244). -/
  linkGen : Nat
  deriving DecidableEq, Repr

/-! ### Internal queues (chapter 10) -/

/-- A pending gap (R273, R274): SEQ of the first loss, packets lost, reset cause and time of the first loss. -/
structure Gap where
  seq : Half
  lost : Nat
  cause : BitVec 2
  time : Nat
  deriving DecidableEq, Repr

structure QueS where
  w : Nat
  r : Nat
  /-- Committed packets, oldest first, as their words. -/
  pkts : List (List Dword)
  seq : Half
  gap : Option Gap
  /-- Words in the tail buffer, spill region and head buffer of spill mode (R279). -/
  tailW : Nat
  spillW : Nat
  headW : Nat
  deriving DecidableEq, Repr

/-! ### Fabric and duplex pair (chapter 11) -/

/-- A link-state advert in the database (R293). -/
structure Advert where
  ident : BitVec 48
  addr : Half
  seq : Word
  /-- Age in s when stored, and `now` of the storing. -/
  age : Nat
  at_ : Nat
  flags : Byte
  pair : Half
  /-- neighbour address, cost, port. -/
  links : List (Half × Nat × Nat)
  deriving DecidableEq, Repr

/-- A replay window (R286): newest number and the 64 numbers up to it. -/
structure Replay where
  newest : Option Word
  bits : BitVec 64
  deriving DecidableEq, Repr

/-- What CM keeps of a neighbour, on a fabric port or on the mains tone link. -/
structure Neigh where
  /-- Its identity, whether it has joined, and whether it has heard this module's address. -/
  ident : BitVec 48
  joined : Bool
  heardUs : Bool
  replay : Replay
  /-- Hop sequence number of the next frame sent to it. -/
  txSeq : Word
  /-- `now` of authentication failures, replay discards and link-downs (R287, R292). -/
  auths : List Nat
  replays : List Nat
  downs : List Nat
  /-- `now` of the frames accepted in the last second, and of the adverts by originator (R287). -/
  rate : List Nat
  advRate : List (BitVec 48 × Nat)
  /-- `now` of the newest advertised cost (R292, R326). -/
  costAt : Option Nat
  deriving DecidableEq, Repr

structure FabPort where
  phy : Bool
  nb : Neigh
  /-- `now` of the MMD5206 frames of the last second (R302). -/
  rate5206 : List Nat
  deriving DecidableEq, Repr

/-- A route: hops, total cost and first port (R294). -/
structure Route where
  hops : List Half
  cost : Nat
  port : Nat
  deriving DecidableEq, Repr

structure RouteEntry where
  dest : Half
  prim : Route
  sec : Option Route
  deriving DecidableEq, Repr

/-- A source in the duplicate-discard table (R300). -/
structure DupEntry where
  src : Half
  newest : Word
  bits : BitVec 64
  used : Nat
  deriving DecidableEq, Repr

/-- A report waiting to be issued or sent (R296 to R299). -/
structure Report where
  type_ : Byte
  body : List Byte
  /-- `now` at which its spreading offset ends. -/
  due : Nat
  /-- Its sequence number, once issued. -/
  seq : Option Word
  deriving DecidableEq, Repr

/-- Fabric commands sent and not answered (R303). -/
structure RemoteCmd where
  desc : Desc
  dest : Half
  counter : Dword
  deriving DecidableEq, Repr

/-- A master's announced qualities, in the order in which they are compared, with its address and port. -/
structure PtpMaster where
  prio1 : Nat
  class_ : Nat
  prio2 : Nat
  ident : Nat
  steps : Nat
  addr : Half
  port : Nat
  deriving DecidableEq, Repr

/-- The best master seen, and the servo's lock (R304). -/
structure PtpS where
  /-- The best announced master. -/
  best : Option PtpMaster
  /-- `now` since which the offset has stayed within ±50 µs. -/
  within : Option Nat
  syncAt : Option Nat
  utcOffset : Option Int
  /-- `now` since which fabric time has differed by more than 2 s (R159). -/
  apart : Option Nat
  deriving DecidableEq, Repr

/-- A session as the bow mirrored it (R306). -/
structure MirSess where
  point : Fin 8
  state : BitVec 4
  number : Word
  proto : Byte
  auth : BitVec 2
  duty : Nat
  deriving DecidableEq, Repr

/-- The pair link (R305 to R308). -/
structure PairS where
  ident : BitVec 48
  addr : Half
  pref : Bool
  /-- Mirrored sessions. -/
  sessions : List MirSess
  /-- The 16 newest mirrored reports. -/
  reports : List Report
  mirrorAt : Option Nat
  /-- This bow has sent a release that no other bow has answered yet. -/
  released : Bool
  /-- `now` of the newest switch-over to this module (R219). -/
  switchAt : Option Nat
  deriving DecidableEq, Repr

structure FabS where
  /-- Draw count k (R288), and the stored address with its k. -/
  k : Nat
  stored : Option (Half × Nat)
  claimAt : Nat
  ownSeq : Word
  repeats : Nat
  db : List Advert
  ports : Vector FabPort 4
  routes : List RouteEntry
  dups : List DupEntry
  reports : List Report
  /-- Last counter of each sender, most recently used first, at most 32 (R303). -/
  counters : List (Half × Dword)
  /-- Accepted fabric commands that have not been answered, with their counters (R303). -/
  waiting : List (Desc × Dword)
  ownCounter : Dword
  remote : List RemoteCmd
  ptp : PtpS
  pair : PairS
  deriving DecidableEq, Repr

/-! ### Mains tone link (chapter 12) -/

/-- A partial segment set (R323): its number, its count, the segments held, `now` of the first. -/
structure SegSet where
  set_ : Nat
  count : Nat
  held : List (Nat × List Byte)
  first : Nat
  deriving DecidableEq, Repr

/-- A neighbour's state behind MTL_NB_j. -/
structure MtlNb where
  nb : Neigh
  /-- Last 8 frame numbers accepted (R322). -/
  frames : List Byte
  /-- Newest beacon counter accepted (R325). -/
  counter : Option Word
  /-- Own filtered SNR and reported SNR, in 0.25 dB (R326). -/
  snrF : Option Rat
  snrRep : Option Rat
  /-- Outcomes of the last 100 unicast attempts, true for a failure. -/
  tries : List Bool
  lastAt : Nat
  segs : Option SegSet
  deriving DecidableEq, Repr

/-- A transmission of the MTL (R320). -/
structure MtlTx where
  kind : Nat
  /-- Place in the service order of R320: 3 beacon or refresh list, 4 advert, 5 routed frame. -/
  prio : Nat
  dest : Half
  number : Byte
  body : List Byte
  /-- Attempts made so far. -/
  tries : Nat
  /-- Remaining segments of the same Derquan frame. -/
  rest : List (List Byte)
  deriving DecidableEq, Repr

structure MtlS where
  nbs : Vector MtlNb 32
  /-- Transmissions waiting, in the service order of R320. -/
  queue : List MtlTx
  /-- Backoff slots left of the transmission at the front, if it is counting. -/
  slots : Option Nat
  counting : Bool
  sending : Option MtlTx
  awaiting : Option MtlTx
  /-- Acknowledgement to send: destination, frame number, result, SNR, erasures. -/
  ack : Option (Half × Byte × Byte × Int × Nat)
  number : Byte
  setNo : Byte
  startCnt : Half
  lowCnt : Half
  /-- Originators in the port-4 advert set and those left out of it (R328); originators wanted from neighbours
  and those due in the next refresh list (R329). -/
  advSet : List (BitVec 48)
  left : List (BitVec 48)
  wants : List Half
  refresh : List (BitVec 48)
  /-- Originators that neighbours want, each with the neighbour; those sent whole since the last refresh list
  (R329, R330). -/
  asked : List (Half × Fin 32)
  whole : List (BitVec 48)
  /-- Airtime: start `now` and µs of own transmissions of the last 60 s. -/
  air : List (Nat × Nat)
  driverOffAt : Option Nat
  /-- PLAN and LEVEL in force (R330). -/
  plan : Nat
  level : Nat
  deriving DecidableEq, Repr

/-! ### Keys (chapter 13) -/

inductive SlotState where
  | valid | orphan | fault
  deriving DecidableEq, Repr

/-- A key slot that is not empty (R333, R334). -/
structure KeySlot where
  no : Nat
  state : SlotState
  type_ : Nat
  use : Byte
  dest : BitVec 21
  count : Option Nat
  expiry : Bool
  parent : Nat
  depth : Nat
  material : List Byte
  /-- Last 64 tags accepted under the slot (R354). -/
  tags : List (List Byte)
  deriving DecidableEq, Repr

structure KeyS where
  /-- General slots that are not empty, in increasing number. -/
  slots : List KeySlot
  /-- The root in the fuses (R338). -/
  root : Option (List Byte)
  /-- The wrapped store (R342): the persistent slots as stored. -/
  store : List KeySlot
  /-- Session-cache keys: parent slot, epoch and the context they are derived for (R343). -/
  cache : List (Nat × Nat × Nat)
  /-- Tamper inputs that must return before they count again (R347). -/
  spent : BitVec 4
  /-- `now` of the newest zeroise, whose tick fails every use, write and derivation (R349). -/
  zeroAt : Option Nat
  /-- Integrator key hashes enrolled, newest first (R361). -/
  hashes : List (List Byte)
  /-- Counter fuses that fail to verify when they are next blown (R358): the chip's, not a command's. -/
  badFuses : Nat
  deriving DecidableEq, Repr

/-! ### Legal display (chapter 14) -/

/-- A pass (R376). -/
structure Pass where
  /-- Legal lines still to be written in the group, then open lines still to be written. -/
  legal : List Nat
  open_ : List Nat
  /-- The transfer running: 0 hold, 1 legal line, 2 release, 3 open line, 4 none. -/
  at_ : Nat
  /-- Lines of this pass whose transfer has begun. -/
  begun : List Nat
  deriving DecidableEq, Repr

structure LdpS where
  /-- Legal snapshot lines as composed by E07, newest, and the one of the group in progress. -/
  snap : List (List Byte)
  shown : List (List Byte)
  pass_ : Option Pass
  /-- Sequence running: on or off, and the step reached (R369). -/
  seq : Option (Bool × Nat)
  /-- A write of EN that takes effect when the sequence ends. -/
  enNext : Option Bool
  /-- A common toggle is due (R371). -/
  toggleDue : Bool
  lbusy : Bool
  /-- Applied trim and stress counters last stored in eMRAM (R373, R374). -/
  trimStored : Option Int
  stressStored : List Nat
  /-- Lines in the pending bitmap whose transfer the running or last pass had begun: rewrites (R377). -/
  again : List Nat
  discharging : Bool
  deriving DecidableEq, Repr

/-! ### Update (chapter 15) -/

structure UpdS where
  /-- Length given with the part at offset 0 (R393). -/
  total : Nat
  /-- Steps planned: engines in order; the next step's index. -/
  steps : List (Fin 20)
  at_ : Nat
  groups : Byte
  /-- Engines stepped so far, newest first. -/
  done : List (Fin 20)
  hostOk : Bool
  /-- Catch window in force in s, and `now` at which it opened (R395). -/
  window : Nat
  openedAt : Nat
  /-- Manifests stored in slots, by slot index 2(g − 1) + s (R389, R393); a slot not listed holds the factory image. -/
  manifests : List (Nat × List Byte)
  /-- Settings formats by group: those that differ from the factory image's, and the old copies kept (R397). -/
  fmts : List (Nat × Nat)
  oldFmts : List (Nat × Nat)
  /-- The settings that the old copies hold, by group. -/
  oldRegs : List (Nat × List (Nat × Word))
  deriving DecidableEq, Repr

/-- What the module sends out of itself, in order (the model's own record; nothing reads it). -/
inductive Out where
  /-- A write into host memory over PCIe (R250), and an MSI-X signal. -/
  | hostWrite (addr : Nat) (bytes : List Byte)
  | msix (vector : Nat)
  /-- A Modbus request on a field port, a CAN FD frame, a Derquan frame on a port, an MTL frame with its tone plan and
  output level. -/
  | modbus (port : Nat) (bytes : List Byte)
  | can (port ident : Nat) (bytes : List Byte)
  | fabric (port : Nat) (bytes : List Byte)
  | mtl (plan level : Nat) (bytes : List Byte)
  /-- A message on both pair-link lanes: 0 heartbeat, 1 release, 2 mirror, 3 acknowledgement. -/
  | pair (kind : Nat)
  /-- A panel command (R366). -/
  | panel (code : Byte) (bytes : List Byte)
  /-- An IEEE 1588 message: 0 Sync, 1 Announce, 2 peer-delay request. -/
  | ptp (port kind : Nat)
  /-- I2C transfer: address, bytes written, bytes asked. -/
  | i2c (addr : Nat) (bytes : List Byte) (readLen : Nat)
  /-- A partner message of the module on a partner port: kind and bytes. -/
  | partner (port kind : Nat) (bytes : List Byte)
  deriving DecidableEq, Repr

/-- The machine. -/
structure State where
  /-- Commands waiting, first in first out. -/
  pending : List Instr
  /-- Registers that something has written, by BAR0 offset, strictly rising; any other reads its reset value. -/
  regs : List (Nat × Word)
  /-- The byte memories, at the internal addresses of R264 and, for the memories that the data port does
  not reach, at addresses above them. -/
  mem : Mem
  time : TimeS
  isl : IslS
  met : MetS
  vot : VotS
  bil : BilS
  tpt : TptS
  lsw : LswS
  saf : SafS
  host : HostS
  ques : Vector QueS 35
  fab : FabS
  mtl : MtlS
  key : KeyS
  ldp : LdpS
  upd : UpdS
  out : List Out
  /-- Counts the free values taken so far (the model's own field). -/
  free : Nat
  deriving DecidableEq, Repr

/-- Ends a run with a fault. No command of the spec leaves the module stopped (R44), so nothing raises it. -/
inductive Fault where
  /-- Raised by nothing: kept so that the type is inhabited. Safe. -/
  | none
  deriving DecidableEq, Repr

/-- Why a command has no meaning. -/
inductive Refusal where
  /-- The command has no meaning in this model yet. Raised by `exec`'s refused arms only. Safe. -/
  | notModelled (mnemonic : String)
  deriving DecidableEq, Repr

/-! ### The state right after reset

Every register reads its reset value (`State.regs` lists nothing). What the spec's tables load from OTP or
eMRAM, and what lies behind the registers, stands as at first start (log 4). -/

/-- A metering channel that has received nothing. -/
def ChanS.reset : ChanS :=
  { rows := [], hist := [], win := [], thd := Vector.replicate 8 [0, 0, 0, 0, 0, 0], ctr := none, badN := 0, tempSum := 0, tempCnt := 0, freshBand := true, ovr := 0,
    integ := List.replicate 24 (0, 0), rem := Vector.replicate 8 [0, 0, 0, 0],
    condCnt := Vector.replicate 8 [(0, 0), (0, 0), (0, 0)], rcmCnt := Vector.replicate 8 [0, 0, 0, 0, 0],
    conds := Vector.replicate 8 0, testAcc := Vector.replicate 8 0, closed := none, kept := [], offered := 0,
    field := none, fieldLate := false, fieldWait := false, edges := Vector.replicate 16 [], tick0 := 0,
    since := Vector.replicate 8 0,
    good := Vector.replicate 8 ⟨none, none, none, none, none⟩, subst := 0 }

/-- The metering block before any setting. -/
def MetS.reset : MetS :=
  { chans := Vector.replicate 3 ChanS.reset, waiting := [], gen := 0, recorded := [], cal := none,
    calPend := none, typePend := Vector.replicate 8 none, suspRun := Vector.replicate 3 0, allRun := 0,
    cleanRun := Vector.replicate 3 0, worst := [], testQ := Vector.replicate 8 none, subRun := Vector.replicate 8 0,
    entries := Vector.replicate 16 ⟨none, none, false, false, false, false, none, 0, 0, false⟩,
    busy := Vector.replicate 4 none, fdErr := Vector.replicate 4 (0, 0, 0), fieldOut := Vector.replicate 3 none, captures := [] }

/-- The voter before any record. -/
def VotS.reset : VotS :=
  { arrived := [], tick := 0, confirmed := [], confSeq := 0, prov := none, published := [],
    qf := Vector.replicate 3 0, owed := Vector.replicate 3 none, join := Vector.replicate 3 0,
    revNext := Vector.replicate 3 0, runLast := Vector.replicate 3 0, rejoin := Vector.replicate 3 false,
    devs := Vector.replicate 3 [], rejoins := Vector.replicate 3 [], holds := Vector.replicate 8 none, newest := Vector.replicate 3 0,
    catchUp := false, firstQ := 0 }

/-- A quantity block before any credit (R143). -/
def Block.zero : Block := ⟨0, Vector.replicate 16 0, 0, 0, 0⟩

/-- A point's registers before any credit. -/
def PointBill.reset : PointBill :=
  { blocks := Vector.replicate 12 Block.zero, maxDem := Vector.replicate 16 ⟨0, 0, 0⟩,
    demand := ⟨none, 0, 0, [], 0, [], 0, 0x113, 0⟩, flags := 0 }

/-- The custody registers before any credit, tariff structure 0, an empty log (R142, R152). -/
def BilS.reset : BilS :=
  { points := Vector.replicate 8 PointBill.reset,
    prev := Vector.replicate 8 (Vector.replicate 12 Block.zero, Vector.replicate 16 ⟨0, 0, 0⟩),
    tariff := none, tariffPend := none, rate := 0, rateQ := 0, switchedAt := none, closePend := [], wanted := [],
    signing := [], log := [], store := [], storeAt := [], saved := none, lost := 0, seqs := [0, 0, 0],
    servoMonth := 0, lastRead := Vector.replicate 8 (0, 0), stepped := [], cleared := [] }

/-- A session interface with no partner. -/
def Sess.reset : Sess :=
  { ident := [], certValid := false, certWait := false, hostAsked := false, contractIdx := 0xFFFF, prepaid := 0,
    qs := none, qe := none, startSeq := 0, endSeq := 0, startTotal := 0, endTotal := 0, flags := 0,
    startTaken := false, waitEnd := false, waitSafe := false, partner := false, ready := false, hostLimit := none,
    bcChanges := [], slacFails := 0, fallbackF := false, weldQ := 0, weldCmd := none, rcmTesting := false,
    rcmDone := false, leak := .idle, leakP0 := 0, isoGood := 0, isoBad := 0, trying := 0,
    gen1 := none, coupSeq := 0, replays := [], stackSeq := 0, stackCmd := 0, stackAmps := 0, stackMis := 0,
    adopted := false, recDue := false, actedAt := none, rcmSeen := false }

/-- The sessions before any partner. -/
def TptS.reset : TptS :=
  { sess := Vector.replicate 8 Sess.reset, counter := 0, table := [], recorded := Vector.replicate 8 0,
    latched := Vector.replicate 8 0 }

/-- The load switches, all off. -/
def LswS.reset : LswS :=
  { pwm := Vector.replicate 8 (50000, 0, false), phase := Vector.replicate 16 0, shedOrder := [], shedCur := false,
    shedTemp := false, returning := false, uvWait := 0, forced := 0, mirror := 0, shedRun := false }

/-- A safety channel before its first start tests. -/
def SafCh.reset : SafCh :=
  { mode := .unconfigured, fns := Vector.replicate 6 .demanded, hands := Vector.replicate 6 ⟨false, none, none⟩,
    press := Vector.replicate 6 none }

/-- The safety part without a configuration (R238). -/
def SafS.reset : SafS :=
  { chA := SafCh.reset, chB := SafCh.reset, otest := 0, staged := none, swA := 0, swB := 0, testB := 0 }

/-- A ring queue that was never enabled. -/
def RingS.reset : RingS := ⟨0, true, 0, 0, 0⟩

/-- Island HI without a queue. -/
def HostS.reset : HostS :=
  { sq := Vector.replicate 16 RingS.reset, cq := Vector.replicate 16 RingS.reset, eq := Vector.replicate 4 RingS.reset,
    fetched := Vector.replicate 16 [], inFlight := [], results := [], readData := [], elemPos := 0, evLast := [],
    linkChanged := false, linkGen := 0 }

/-- An empty internal queue. -/
def QueS.reset : QueS := ⟨0, 0, [], 0, none, 0, 0, 0⟩

/-- A replay window that has seen nothing (R286). -/
def Replay.reset : Replay := ⟨none, 0⟩

/-- A neighbour of which nothing is known. -/
def Neigh.reset : Neigh :=
  { ident := 0, joined := false, heardUs := false, replay := Replay.reset, txSeq := 0, auths := [], replays := [],
    downs := [], rate := [], advRate := [], costAt := none }

/-- A fabric port without a link. -/
def FabPort.reset : FabPort := { phy := false, nb := Neigh.reset, rate5206 := [] }

/-- The fabric before the first draw. -/
def FabS.reset : FabS :=
  { k := 0, stored := none, claimAt := 0, ownSeq := 0, repeats := 0, db := [], ports := Vector.replicate 4 FabPort.reset,
    routes := [], dups := [], reports := [], counters := [], waiting := [], ownCounter := 0, remote := [],
    ptp := ⟨none, none, none, none, none⟩, pair := ⟨0, 0, false, [], [], none, false, none⟩ }

/-- A neighbour entry of the mains tone link that is free. -/
def MtlNb.reset : MtlNb :=
  { nb := Neigh.reset, frames := [], counter := none, snrF := none, snrRep := none, tries := [], lastAt := 0,
    segs := none }

/-- The mains tone link before any frame. -/
def MtlS.reset : MtlS :=
  { nbs := Vector.replicate 32 MtlNb.reset, queue := [], slots := none, counting := false, sending := none,
    awaiting := none, ack := none, number := 0, setNo := 0, startCnt := 0, lowCnt := 0, advSet := [], left := [], wants := [],
    refresh := [], asked := [], whole := [], air := [], driverOffAt := none, plan := 0, level := 60 }

/-- The key store before the root is generated. -/
def KeyS.reset : KeyS :=
  { slots := [], root := none, store := [], cache := [], spent := 0, zeroAt := none, hashes := [], badFuses := 0 }

/-- The display port, off. -/
def LdpS.reset : LdpS :=
  { snap := [], shown := [], pass_ := none, seq := none, enNext := none, toggleDue := false, lbusy := false,
    trimStored := none, stressStored := [], again := [], discharging := false }

/-- The update engine with nothing received. -/
def UpdS.reset : UpdS :=
  { total := 0, steps := [], at_ := 0, groups := 0, done := [], hostOk := false, window := 0, openedAt := 0,
    manifests := [], fmts := [], oldFmts := [], oldRegs := [] }

/-- The module right after the power-on reset is asserted for the first time: every island held, every
register at its reset value, no command waiting, memory with nothing listed. -/
def State.reset : State :=
  { pending := [], regs := [], mem := [],
    time := { quantum := 0, qStart := 1577836800000000, usInQ := 0, now := 0, slewLeft := 0, slewTotal := 0,
              stepPend := none, servoPpm := 0, servoFrac := 0, lastSync := none, starts := [], oscStop := false },
    isl := { fenced := [], due := [], stalls := [], supply := .normal, resetPend := none, hotHold := false, vlCause := 1,
             resetCmd := [], qw := 0, startAt := 0 },
    met := MetS.reset, vot := VotS.reset, bil := BilS.reset, tpt := TptS.reset, lsw := LswS.reset, saf := SafS.reset,
    host := HostS.reset, ques := Vector.replicate 35 QueS.reset, fab := FabS.reset, mtl := MtlS.reset,
    key := KeyS.reset, ldp := LdpS.reset, upd := UpdS.reset, out := [], free := 0 }

end Sys2Proof.Machine
end

