-- ==== Sys2Proof/Machine/Operands.lean ====
section
/-! DEFINITION. The operand forms of the commands: the islands' codes (R17), the registers of a ring queue (R248),
and the fields of a command descriptor (R252). -/

namespace Sys2Proof

open Sys2Proof.Machine

/-! ### The codes of operand types -/

/-- Island code (R17). -/
def Isl.code : Isl → Nat
  | .ma => 0 | .mb => 1 | .mc => 2 | .vl => 3 | .ap => 4 | .hi => 5 | .cm => 6 | .pt => 7
  | .sf => 8 | .ks => 9 | .pw => 10 | .mg => 11 | .tb => 12

/-- Offset of a ring queue's first register: BASE_LO, then BASE_HI, CFG and STATUS. -/
def RingQ.off : RingQ → Nat
  | .sq n => R.HI_SQ_BASE_LO n.val
  | .cq n => R.HI_CQ_BASE_LO n.val
  | .eq e => R.HI_EQ_BASE_LO e.val

/-- The queue's unit number (R267). -/
def RingQ.unit : RingQ → Nat
  | .sq n => n.val
  | .cq n => 16 + n.val
  | .eq e => 32 + e.val

/-- EN of a ring queue. -/
def RingQ.en (q : RingQ) : Fld := ⟨q.off + 8, 31, 31⟩
/-- SIZE of a ring queue. -/
def RingQ.size (q : RingQ) : Fld := ⟨q.off + 8, 12, 0⟩
/-- STOPPED of a ring queue. -/
def RingQ.stopped (q : RingQ) : Fld := ⟨q.off + 12, 31, 31⟩
/-- HEAD of an SQ, TAIL of a CQ or EQ. -/
def RingQ.index (q : RingQ) : Fld := ⟨q.off + 12, 12, 0⟩
/-- GAP_PEND of a CQ or EQ. -/
def RingQ.gapPend (q : RingQ) : Fld := ⟨q.off + 12, 30, 30⟩
/-- DROPPED of a CQ or EQ. -/
def RingQ.dropped (q : RingQ) : Fld := ⟨q.off + 12, 29, 16⟩
/-- The queue's error bit: HI_RING_ERR or HI_STATUS.EQ_ERR. -/
def RingQ.err : RingQ → Fld
  | .sq n => ⟨R.HI_RING_ERR, n.val, n.val⟩
  | .cq n => ⟨R.HI_RING_ERR, 16 + n.val, 16 + n.val⟩
  | .eq e => ⟨R.HI_STATUS, 17 + e.val, 17 + e.val⟩

/-- Integer of `n` bytes at a descriptor offset. -/
def Desc.n (d : Desc) (off n : Nat) : Nat := fld d.bytes off n
/-- Opcode of a descriptor (R252). -/
def Desc.opcode (d : Desc) : Nat := d.n 0 2
/-- FENCE of a descriptor. -/
def Desc.fence (d : Desc) : Bool := (d.n 2 1).testBit 0
/-- Whether a command came over the fabric (R303). -/
def Desc.remote (d : Desc) : Bool :=
  match d.src with
  | .sq _ => false
  | .fabric _ => true
/-- The point byte of a descriptor. -/
def Desc.point (d : Desc) : Nat := d.n 3 1
/-- The point, reduced to the range that check 3 of R260 has passed. -/
def Desc.pt (d : Desc) : Fin 8 := Fin.ofNat 8 d.point
/-- Source code of a legal-log entry that a command makes (R168). -/
def Desc.logSrc (d : Desc) : Nat :=
  match d.src with
  | .sq _ => 1
  | .fabric _ => 2

end Sys2Proof
end

