-- ==== Sys2Proof/Machine/Ops.lean ====
section
/-! DEFINITION. The operations that every family shares: reading and writing registers and memory, the run
states of the islands, raising an event (R255), MG_FAULT_LAST (R43), the legal log (R167 to R170), and
checking and completing a command of the host (R252 to R260). -/

namespace Sys2Proof.Machine

/-! ### Registers -/

/-- log2 of the depth of an internal queue (R268). -/
def queK (i : Nat) : Nat :=
  if i < 0x10 then 8 else if i < 0x14 then 10 else if i < 0x18 then 13 else if i = 0x18 then 14
  else if i = 0x19 then 15 else if i < 0x1C then 10 else if i < 0x20 then 12 else if i < 0x22 then 9 else 13

/-- Island code of the owner of an internal queue (R268). -/
def queOwner (i : Nat) : Nat :=
  if i < 0x14 then 5 else if i < 0x1C then 6 else if i < 0x22 then 7 else 4

/-- Whether an internal queue is spill-capable (R268). -/
def queSpillCap (i : Nat) : Bool := decide (0x10 ≤ i) && decide (i < 0x14)

/-- Reset value of QUE_CFG_i, with SPILL 0 (R268, R280). -/
def queCfgReset (i : Nat) : Nat := queOwner i <<< 24 + queK i <<< 20 + (queSpillCap i).toNat <<< 1

/-- Whether an offset lies in the MSI-X table of R244. -/
def inMsixTable (off : Nat) : Bool := decide (0x18000 ≤ off) && decide (off < 0x18400)

/-- Whether an offset lies in the MSI-X pending-bit array of R244. -/
def inMsixPba (off : Nat) : Bool := off == 0x19000 || off == 0x19004

/-- The value a register holds until something writes it: its reset value; for a register loaded from OTP
or eMRAM the value at first start (log 4); for the vector control words of the MSI-X table the PCI Express
default, masked (log 5). -/
def resetAt (off : Nat) : Word :=
  if 0xC0100 ≤ off ∧ off < 0xC0330 ∧ off % 16 = 0 then BitVec.ofNat 32 (queCfgReset ((off - 0xC0100) / 16))
  else if inMsixTable off then (if off % 16 = 12 then 1 else 0)
  else match regAt off with
    | some d => d.reset
    | none => 0

/-- The value of a register in a register file. -/
def regGet : List (Nat × Word) → Nat → Word
  | [], off => resetAt off
  | (a, w) :: t, off => if a = off then w else regGet t off

/-- A register file with one register written. -/
def regPut : List (Nat × Word) → Nat → Word → List (Nat × Word)
  | [], off, w => [(off, w)]
  | (a, x) :: t, off, w =>
    if a = off then (off, w) :: t
    else if off < a then (off, w) :: (a, x) :: t
    else (a, x) :: regPut t off w

/-- The value that a register holds. -/
def State.reg (s : State) (off : Nat) : Nat := (regGet s.regs off).toNat

/-- The state with a register written. -/
def State.setReg (s : State) (off v : Nat) : State :=
  { s with regs := regPut s.regs off (BitVec.ofNat 32 v) }

/-- The value of a register field. -/
def State.get (s : State) (f : Fld) : Nat := bitsOf (s.reg f.off) f.hi f.lo

/-- The state with a register field written, its register's other bits kept. -/
def State.set (s : State) (f : Fld) (v : Nat) : State := s.setReg f.off (putBits (s.reg f.off) f.hi f.lo v)

/-- Whether a one-bit field is 1. -/
def State.flag (s : State) (f : Fld) : Bool := s.get f == 1

/-- Bit `i` of a field. -/
def State.bit (s : State) (f : Fld) (i : Nat) : Bool := (s.get f).testBit i

/-- The state with bit `i` of a field written. -/
def State.setBit (s : State) (f : Fld) (i : Nat) (b : Bool) : State := s.set f (putBit (s.get f) i b)

/-- The state with a counting field advanced by `n`, saturating at its largest value. -/
def State.count (s : State) (f : Fld) (n : Nat) : State := s.set f (sat (f.hi + 1 - f.lo) (s.get f + n))

/-- The state with a field advanced by one modulo its width. -/
def State.wrap (s : State) (f : Fld) : State := s.set f (s.get f + 1)

/-- A 64-bit value in a LO and a HI register. -/
def State.get64 (s : State) (lo : Nat) : Nat := s.reg lo + s.reg (lo + 4) <<< 32

/-- The state with a LO and a HI register written. -/
def State.set64 (s : State) (lo v : Nat) : State := (s.setReg lo (v % 2 ^ 32)).setReg (lo + 4) (v >>> 32)

/-- The field, saturating at its largest value. -/
def State.setSat (s : State) (f : Fld) (v : Nat) : State := s.set f (sat (f.hi + 1 - f.lo) v)

/-! ### Memory -/

/-- What a byte that nothing has written reads as (log 6). -/
def memBlank : Byte := 0

/-- A byte of memory. -/
def memGet : Mem → Nat → Byte
  | [], _ => memBlank
  | (a, x) :: t, b => if a = b then x else memGet t b

/-- A memory with one byte written, in canonical form. -/
def memPut : Mem → Nat → Byte → Mem
  | [], b, v => if v = memBlank then [] else [(b, v)]
  | (a, x) :: t, b, v =>
    if b < a then (if v = memBlank then (a, x) :: t else (b, v) :: (a, x) :: t)
    else if a = b then (if v = memBlank then t else (b, v) :: t)
    else (a, x) :: memPut t b v

/-- `n` bytes of memory from an address. -/
def memRead (m : Mem) (a : Nat) : Nat → List Byte
  | 0 => []
  | n + 1 => memGet m a :: memRead m (a + 1) n

/-- A memory with a byte string written at an address. -/
def memWrite (m : Mem) (a : Nat) : List Byte → Mem
  | [] => m
  | b :: t => memWrite (memPut m a b) (a + 1) t

/-- The canonical form: addresses strictly rising, every byte different from the blank one. -/
def Mem.wf : Mem → Bool
  | [] => true
  | [(_, x)] => x != memBlank
  | (a, x) :: (b, y) :: t => decide (a < b) && (x != memBlank) && Mem.wf ((b, y) :: t)

/-- The state with bytes written to memory. -/
def State.store (s : State) (a : Nat) (l : List Byte) : State := { s with mem := memWrite s.mem a l }

/-- Internal address of the staging buffer, 512 KiB (R264). -/
def stagingBase : Nat := 0x100000
/-- Internal address of the waveform capture buffer, 1 MiB (R264). -/
def captureBase : Nat := 0x800000
/-- Internal address of Boathouse, 128 MiB (R264). -/
def boathouseBase : Nat := 0x100000000
/-- Where the model keeps ring SRAM, which the data port does not reach (log 7). -/
def ringBase : Nat := 0x200000000
/-- Where the model keeps the display frame buffer, which the data port does not reach (log 7). -/
def frameBase : Nat := 0x300000000

/-! ### Islands -/

/-- The islands in the order of their codes. -/
def islands : List Isl := [.ma, .mb, .mc, .vl, .ap, .hi, .cm, .pt, .sf, .ks, .pw, .mg, .tb]

/-- The run state of an island: its bits of MG_ISLAND_STATE. -/
def State.islState (s : State) (i : Isl) : Nat :=
  bitsOf (s.get F.MG_ISLAND_STATE_STATE) (2 * i.code + 1) (2 * i.code)

/-- The state with an island's run state. -/
def State.setIsl (s : State) (i : Isl) (v : Nat) : State :=
  s.set F.MG_ISLAND_STATE_STATE (putBits (s.get F.MG_ISLAND_STATE_STATE) (2 * i.code + 1) (2 * i.code) v)

/-- Whether an island is running. -/
def State.running (s : State) (i : Isl) : Bool := s.islState i == 0

/-- The receivers of an island's crossings (R421). -/
def crossingsFrom : Isl → List Isl
  | .ma => [.vl, .hi, .mg]
  | .mb => [.vl, .hi, .mg]
  | .mc => [.vl, .hi, .mg]
  | .vl => [.ma, .mb, .mc, .ap, .hi, .cm, .ks, .mg, .tb]
  | .ap => [.ma, .mb, .mc, .vl, .hi, .cm, .pt, .sf, .ks, .pw, .mg]
  | .hi => [.ma, .mb, .mc, .vl, .ap, .cm, .pt, .sf, .ks, .pw, .mg]
  | .cm => [.vl, .ap, .hi, .ks, .pw, .mg, .tb]
  | .pt => [.ap, .hi, .ks, .mg]
  | .sf => [.ap, .hi, .pw, .ks, .mg]
  | .ks => [.vl, .ap, .hi, .cm, .pt, .sf, .pw, .mg]
  | .pw => [.ap, .hi, .cm, .sf, .ks, .mg]
  | .mg => [.ma, .mb, .mc, .vl, .ap, .hi, .cm, .pt, .sf, .ks, .pw, .tb]
  | .tb => [.ma, .mb, .mc, .vl, .ap, .cm, .pt, .sf, .ks, .pw, .mg]

/-- Whether a crossing exists (R421). -/
def hasCrossing (a b : Isl) : Bool := (crossingsFrom a).contains b

/-- Crossing identifier (R23). -/
def crossingId (a b : Isl) : Nat := 16 * a.code + b.code

/-- Whether a crossing passes records: both islands run and it is not fenced on its own (R30, R32). -/
def State.open_ (s : State) (a b : Isl) : Bool :=
  s.running a && s.running b && hasCrossing a b && !(s.isl.fenced.contains (a, b))

/-- The state with a fault recorded in MG_FAULT_LAST (R43). -/
def State.fault (s : State) (cls : Nat) (i : Isl) : State :=
  ((s.set F.MG_FAULT_LAST_CLASS cls).set F.MG_FAULT_LAST_ISLAND i.code).wrap F.MG_FAULT_LAST_SEQ

/-- An island reset noted in MG_RESET_CAUSE and MG_RESET_CNT (R385). -/
def State.noteReset (s : State) (code : Nat) (i : Isl) : State :=
  ((s.set F.MG_RESET_CAUSE_ISL_SRC code).set F.MG_RESET_CAUSE_ISLAND i.code).count F.MG_RESET_CNT_ISL_RESETS 1

/-! ### Device time -/

/-- Device time (R13): the quantum's start and the microseconds passed in it. -/
def State.devTime (s : State) : Nat := s.time.qStart + s.time.usInQ

/-- E of R14, the fabric epoch in device time. -/
def epoch : Nat := 1577836800000000

/-- The newest resolved quantum (VOT_CONFQ). -/
def State.resolved (s : State) : Nat := s.get64 R.VOT_CONFQ_LO

/-- A free value: the counter with the state in which it has advanced. -/
def State.fresh (s : State) : Nat × State := (s.free, { s with free := s.free + 1 })

/-- The state with something sent out of the module. -/
def State.emit (s : State) (o : Out) : State := { s with out := o :: s.out }

/-! ### Host rings: writing entries -/

/-- Whether the host port is the PCIe endpoint (R243). -/
def State.pcie (s : State) : Bool :=
  let p := s.get F.HI_STATUS_PORT
  p == 0 || p == 3

/-- What lies behind the registers of a ring queue. -/
def State.ring (s : State) : RingQ → RingS
  | .sq n => s.host.sq[n]
  | .cq n => s.host.cq[n]
  | .eq e => s.host.eq[e]

/-- The state with that part of a ring queue replaced. -/
def State.setRing (s : State) (q : RingQ) (r : RingS) : State :=
  match q with
  | .sq n => { s with host := { s.host with sq := s.host.sq.set n r } }
  | .cq n => { s with host := { s.host with cq := s.host.cq.set n r } }
  | .eq e => { s with host := { s.host with eq := s.host.eq.set e r } }

/-- Bytes written to the host's memory: over PCIe out of the module, over the octal-SPI port into ring SRAM
(R246). -/
def State.toHost (s : State) (a : Nat) (l : List Byte) : State :=
  if s.pcie then s.emit (.hostWrite a l) else s.store (ringBase + a) l

/-- A vector signalled (R261): MSI-X over PCIe, with a masked vector's pending bit set (log 5); a bit of
HI_IRQ_PEND over the octal-SPI port. -/
def State.signal (s : State) (v : Nat) : State :=
  if s.pcie then
    if bitsOf (s.reg (0x18000 + 16 * v + 12)) 0 0 = 0 then s.emit (.msix v)
    else s.setReg (0x19000 + 4 * (v / 32)) (putBit (s.reg (0x19000 + 4 * (v / 32))) (v % 32) true)
  else
    let r := R.HI_IRQ_PEND_LO + 4 * (v / 32)
    s.setReg r (putBit (s.reg r) (v % 32) true)

/-- A CQ or EQ signals its vector after an entry, as its coalescing fields say (R261). -/
def State.coalesce (s : State) (q : RingQ) : State :=
  let cfg := s.reg (q.off + 8)
  let r := s.ring q
  if bitsOf cfg 30 30 = 0 then s
  else if bitsOf cfg 19 13 = 0 ∨ max 1 (bitsOf cfg 23 20) ≤ r.unsig + 1 then
    (s.setRing q { r with unsig := 0 }).signal (bitsOf cfg 29 24)
  else s.setRing q { r with unsig := r.unsig + 1 }

/-- An entry written at the tail of a CQ or EQ that has room (R250): `entry` gives its 32 bytes from the
phase bit. -/
def State.putEntry (s : State) (q : RingQ) (entry : Nat → List Byte) : State :=
  let r := s.ring q
  let size := s.get q.size
  let tail := s.get q.index
  let next := if tail + 1 = size then 0 else tail + 1
  let s := s.toHost (s.get64 q.off + 32 * tail) (padTo 32 (entry r.phase.toNat))
  let s := s.set q.index next
  let s := s.setRing q { r with phase := if next = 0 then !r.phase else r.phase }
  s.coalesce q

/-- Whether one more entry would make a ring's tail equal to its head (R251). -/
def State.ringFull (s : State) (q : RingQ) : Bool :=
  let tail := s.get q.index
  (if tail + 1 = s.get q.size then 0 else tail + 1) == (s.ring q).host

/-- `n` entries lost to a CQ or EQ (R251, R275). -/
def State.ringDrop (s : State) (q : RingQ) (n : Nat) : State :=
  let r := s.ring q
  ((s.setRing q { r with gap := r.gap + n }).count q.dropped n).set q.gapPend 1

/-- An entry offered to a CQ or EQ: written, or dropped when the ring is full or a gap entry is due; nothing
reaches a disabled queue or one in error (R249, R251). -/
def State.offerEntry (s : State) (q : RingQ) (entry : Nat → List Byte) : State :=
  if s.get q.en = 0 ∨ s.get q.err = 1 then s
  else if s.ringFull q ∨ (s.ring q).gap ≠ 0 then s.ringDrop q 1
  else s.putEntry q entry

/-! ### Events -/

/-- An event as a chapter raises it: source, P, point, unit, quantum (the newest resolved one where none is
named), detail, and the shortest time between two of it in µs (0: no limit). -/
structure Ev where
  src : Nat
  p : Bool := false
  point : Nat := 0xFF
  unit_ : Nat := 0xFF
  q : Option Nat := none
  detail : Nat := 0
  every : Nat := 0
  /-- What the limit is counted for, besides point and unit. -/
  lim : Nat := 0
  /-- The limit is the source's own, whatever the point and unit. -/
  whole : Bool := false
  deriving DecidableEq, Repr

/-- The key under which a limited event is counted. -/
def Ev.key (e : Ev) : Nat := if e.whole then 65536 * e.lim else e.lim * 65536 + e.point * 256 + e.unit_

/-- Whether a limited event was raised too short a time ago. -/
def State.evLimited (s : State) (e : Ev) : Bool :=
  e.every != 0 && s.host.evLast.any (fun x => x.1 == e.src && x.2.1 == e.key && decide (s.time.now < x.2.2 + e.every))

/-- An event raised (R254, R255): a masked source writes no entry; an entry goes to the EQ of
HI_EV_ROUTE. The sequence number of an EQ counts the events raised to it while it is enabled, dropped or
not (log 8). -/
def State.raise (s : State) (e : Ev) : State :=
  if s.evLimited e then s
  else
    let s := if e.every = 0 then s else
      { s with host := { s.host with evLast := ((e.src, e.key, s.time.now) ::
        (s.host.evLast.filter (fun x => !(x.1 == e.src && x.2.1 == e.key)))) } }
    if bitsOf (s.reg (R.HI_EV_MASK (e.src / 32))) (e.src % 32) (e.src % 32) = 0 then s
    else
      let n := bitsOf (s.reg (R.HI_EV_ROUTE (e.src / 16))) (2 * (e.src % 16) + 1) (2 * (e.src % 16))
      let q := RingQ.eq (Fin.ofNat 4 n)
      if s.get q.en = 0 then s
      else
        let r := s.ring q
        let t := s.devTime
        let qn := e.q.getD s.resolved
        let s := s.setRing q { r with seq := r.seq + 1 }
        s.offerEntry q (fun ph =>
          natLE 1 e.src ++ natLE 1 (ph + 2 * e.p.toNat) ++ natLE 1 e.point ++ natLE 1 e.unit_ ++
          natLE 4 r.seq.toNat ++ natLE 8 qn ++ natLE 8 t ++ natLE 8 e.detail)

/-- The gap entry of R251, written once a slot is free, with EV094 at most once per second per queue. -/
def State.gapEntry (s : State) (q : RingQ) : State :=
  let r := s.ring q
  if r.gap = 0 ∨ s.get q.en = 0 ∨ s.get q.err = 1 ∨ s.ringFull q then s
  else
    let n := r.gap
    let s := (s.setRing q { r with gap := 0 }).set q.gapPend 0
    let s := match q with
      | .cq _ => s.putEntry q (fun ph => zeros 3 ++ natLE 1 (ph + 2) ++ zeros 4 ++ natLE 8 n ++ zeros 16)
      | _ => s.putEntry q (fun ph => zeros 1 ++ natLE 1 (ph + 4) ++ zeros 22 ++ natLE 8 n)
    s.raise { src := 94, unit_ := q.unit, detail := n, every := 1000000 }

/-- A ring queue put in error, with EV092 (R249). -/
def State.ringError (s : State) (q : RingQ) : State :=
  let s := s.set q.err 1
  let s := match q with
    | .sq n => s.set (F.HI_SQ_STATUS_ERR n.val) 1
    | _ => s
  s.raise { src := 92, unit_ := q.unit }

/-! ### The legal log -/

/-- Whether the legal log refuses changes (R170). -/
def State.logRefusing (s : State) : Bool := s.get F.BIL_LOG_STATUS_REFUSING == 1

/-- A legal-log entry as a chapter asks for it (R168). -/
structure LogE where
  type_ : Nat
  src : Nat := 0
  point : Nat := 0xFF
  sub : Nat := 0
  /-- The quantum of effect; none for the newest resolved one. -/
  q : Option Nat := none
  payload : List Byte := []
  deriving DecidableEq, Repr

/-- The bytes of a legal-log entry, chained to the entry before (R167, R168). -/
def State.logBytes (s : State) (e : LogE) : List Byte :=
  natLE 2 e.type_ ++ natLE 1 e.src ++ natLE 1 e.point ++ natLE 1 e.sub ++ zeros 3 ++
  natLE 8 (e.q.getD s.resolved) ++ natLE 8 s.devTime ++ padTo 24 e.payload ++
  (match s.bil.log with
   | [] => zeros 16
   | h :: _ => (sha256 h).take 16)

/-- An entry appended to the legal log (R167, R170). A change is checked against REFUSING by its own rule
before it comes here. -/
def State.log (s : State) (e : LogE) : State :=
  let used := s.get F.BIL_LOG_STATUS_USED
  if 4096 ≤ used then (s.count F.BIL_LOG_STATUS_OVERFLOW 1).raise { src := 58 }
  else
    let s := { s with bil := { s.bil with log := s.logBytes e :: s.bil.log } }
    let s := s.set F.BIL_LOG_STATUS_USED (used + 1)
    let s := if used + 1 = 3584 then s.raise { src := 56 } else s
    if used + 1 = 4032 then (s.set F.BIL_LOG_STATUS_REFUSING 1).raise { src := 57 } else s

/-! ### Register access -/

/-- The block of BAR0 in which an offset lies (R21). -/
def blockOf (off : Nat) : Nat := off / 0x10000

/-- The island that serves an offset: of a register its own (the channel sub-blocks of R21 belong to their
channels), of any other offset the owner of its block. -/
def islAt (off : Nat) : Isl :=
  if 0x21000 ≤ off ∧ off < 0x2D000 then
    (if off < 0x25000 then .ma else if off < 0x29000 then .mb else .mc)
  else match regAt off with
    | some d => d.isl
    | none =>
      match blockOf off with
      | 1 => .hi | 2 => .vl | 3 => .vl | 4 => .ap | 5 => .pt | 6 => .pw | 7 => .sf | 8 => .cm | 9 => .cm
      | 10 => .ks | 11 => .vl | _ => .mg

/-- Whether an offset is assigned (R22): a register, the MSI-X table or its pending-bit array. -/
def assigned (off : Nat) : Bool := (regAt off).isSome || inMsixTable off || inMsixPba off

/-- Whether the serving island answers an access. MG's blocks answer while MG is held before READY too: the
MG block at all times, the UPD block when MG runs or BOOT_STATUS shows recovery (R382, R384). -/
def State.serves (s : State) (off : Nat) : Bool :=
  let i := islAt off
  if i = .mg then
    if blockOf off = 0 then s.islState .mg == 0 || s.islState .mg == 3
    else s.running .mg || (s.islState .mg == 3 && s.flag F.MG_BOOT_STATUS_RECOVERY)
  else s.running i

/-- EV000, and in a block of BAR0 whose island is fenced or in reset also EV003 (R6, R22). -/
def State.accessError (s : State) (off : Nat) : State :=
  let i := islAt off
  let s := s.raise { src := 0 }
  if off < 0xE0000 ∧ (s.islState i = 1 ∨ s.islState i = 2) then s.raise { src := 3, unit_ := i.code } else s

/-- Runs a register access that R6 and R22 admit; refuses any other. Nothing answers while HI itself is not
running. -/
def State.guard (s : State) (off size : Nat) (body : State → State) : State :=
  if s.running .hi = false then s
  else if off % 4 = 0 ∧ size = 4 ∧ assigned off = true ∧ s.serves off = true then body s
  else s.accessError off

/-- A read row of the table: the register's value goes to the host and the read has its side effect; a
refused read returns all ones (R6, R22). -/
def State.readRow (s : State) (off : Nat) (side : State → State) : State :=
  if s.running .hi = false then s
  else if off % 4 = 0 ∧ assigned off = true ∧ s.serves off = true then
    let v := natLE 4 (s.reg off)
    let s := side s
    { s with host := { s.host with readData := v } }
  else
    let s := s.accessError off
    { s with host := { s.host with readData := natLE 4 0xFFFFFFFF } }

/-- EV000 for a write that a rule discards. -/
def State.discard (s : State) : State := s.raise { src := 0 }

/-- A register write with its fields' access types (R7) and the seal (R10): the register's new value, and
whether a sealed field was refused. -/
def applyFields (openSeal : Bool) (l : List FldDesc) (old v : Nat) : Nat × Bool :=
  l.foldl (fun (acc : Nat × Bool) f =>
    let x := bitsOf v f.hi f.lo
    let o := bitsOf old f.hi f.lo
    match f.ty with
    | .rw => (putBits acc.1 f.hi f.lo x, acc.2)
    | .rws =>
      if openSeal then (putBits acc.1 f.hi f.lo x, acc.2)
      else (acc.1, acc.2 || x != o)
    | .w1c => (putBits acc.1 f.hi f.lo (o - (o &&& x)), acc.2)
    | .w1s => (putBits acc.1 f.hi f.lo (o ||| x), acc.2)
    | _ => acc) (old, false)

/-- Whether the seal is open (KEY_STATUS, R350). -/
def State.sealOpen (s : State) : Bool := s.flag F.KEY_STATUS_SEAL_OPEN

/-- A write of a register as R7 and R10 lay down, without any action of its own. -/
def State.plainWrite (s : State) (off v : Nat) : State :=
  match regAt off with
  | none => s
  | some d =>
    let r := applyFields s.sealOpen d.fields (s.reg off) v
    let s := s.setReg off r.1
    if r.2 then s.raise { src := 1 } else s

/-! ### Commands of the host -/

/-- What the staged-data fields of a command may hold (R266). -/
inductive Staged where
  /-- No staged data: both fields 0. -/
  | none
  /-- Staged data of a length within the bounds; absent too, when `opt`. -/
  | len (lo hi : Nat) (opt : Bool)
  deriving DecidableEq, Repr

/-- A row of the command catalogue (R266): opcode, privilege bit, target island, whether byte 3 names a
point, the parameter bytes used (offset, size), staged data, and whether it is a staged load (R265). -/
structure CmdSpec where
  opcode : Nat
  priv : Option Nat
  isl : Isl
  point : Bool := false
  params : List (Nat × Nat) := []
  staged : Staged := .none
  load : Bool := false
  deriving DecidableEq, Repr

/-- Privileges of a command's source (R259, R303). -/
def State.privs (s : State) (c : CmdSrc) : Nat :=
  match c with
  | .sq n => s.get (F.HI_SQ_CFG_PRIV n.val)
  | .fabric _ => s.reg R.FAB_CMD_PRIV

/-- Opcodes of the staged loads of R265. -/
def isLoadOp (op : Nat) : Bool := [0x010A, 0x0204, 0x0205, 0x0401, 0x0801, 0x0802, 0x0B01, 0x0B02].contains op

/-- A staged load has begun and its result has not been returned (R265, log 9). -/
def State.loading (s : State) : Bool := s.host.results.any (fun r => isLoadOp r.desc.opcode)

/-- Whether a descriptor's staged fields fail: the offset of the bad one. -/
def stagedBad (d : Desc) (st : Staged) : Option Nat :=
  let a := d.n 8 8
  let n := d.n 16 4
  match st with
  | .none => if a ≠ 0 then some 8 else if n ≠ 0 then some 16 else Option.none
  | .len lo hi opt =>
    if opt = true ∧ a = 0 ∧ n = 0 then Option.none
    else if a < stagingBase ∨ stagingBase + 0x80000 ≤ a then some 8
    else if n < lo ∨ hi < n ∨ stagingBase + 0x80000 < a + n then some 16
    else Option.none

/-- First bad field of a descriptor: flags, point, reserved bytes, unused parameter bytes and the
parameters' own ranges, in the order of their offsets (R252, R260 check 3). -/
def badField (d : Desc) (c : CmdSpec) (ranges : List (Nat × Bool)) : Option Nat :=
  let used := fun k => c.params.any (fun p => decide (p.1 ≤ k) && decide (k < p.1 + p.2))
  let bad := fun k =>
    if k = 2 then decide (1 < d.n 2 1)
    else if k = 3 then (if c.point then decide (7 < d.point) else decide (7 < d.point) && d.point != 0xFF)
    else if k = 6 ∨ k = 7 ∨ (20 ≤ k ∧ k < 24) then d.n k 1 != 0
    else if 24 ≤ k ∧ k < 56 then (!used k && d.n k 1 != 0) || ranges.any (fun r => r.1 == k && r.2)
    else false
  (List.range 56).find? bad

/-- Whether a command's target island takes it: it runs, or it is MG in recovery mode, which serves the update
commands (R384). -/
def State.takes (s : State) (c : CmdSpec) : Bool :=
  s.running c.isl || (c.isl == .mg && s.islState .mg == 3 && s.flag F.MG_BOOT_STATUS_RECOVERY &&
    decide (0x0801 ≤ c.opcode) && decide (c.opcode ≤ 0x0805))

/-- The checks 1 to 4 of R260 on a command, with the target island's state (R258) and the staging lock
(R265): the status and detail of the first that fails. `privs` lists the privileges the command needs,
`ranges` its parameters that lie outside their ranges. -/
def State.cmdFail (s : State) (d : Desc) (c : CmdSpec) (privs : List Nat) (ranges : List (Nat × Bool)) :
    Option (Nat × Nat) :=
  match privs.find? (fun b => !((s.privs d.src).testBit b)) with
  | some b => some (0x0003, b)
  | none =>
    if d.opcode ≠ c.opcode then some (0x0001, 0)
    else match badField d c ranges with
      | some k => some (0x0002, k)
      | none =>
        match stagedBad d c.staged with
        | some k => some (0x0002, k)
        | none =>
          if !(s.takes c) then some (0x000A, c.isl.code)
          else if c.load && s.loading then some (0x000B, 0)
          else none

/-- A command's result returned by its target island (R258): status, detail and up to 16 result bytes. -/
def State.complete (s : State) (d : Desc) (status detail : Nat) (bytes : List Byte) : State :=
  { s with host := { s.host with results := s.host.results ++ [⟨d, status, detail, bytes⟩] } }

/-- A command that completes with success and no detail. -/
def State.ok (s : State) (d : Desc) (bytes : List Byte) : State := s.complete d 0 0 bytes

/-- A command: its checks, and its own effect when they pass. -/
def State.command (s : State) (d : Desc) (c : CmdSpec) (ranges : List (Nat × Bool)) (body : State → State) :
    State :=
  match s.cmdFail d c c.priv.toList ranges with
  | some (st, det) => s.complete d st det []
  | none => body s

/-- The target island of an opcode (R258): the island that owns the command's rule. None for an opcode that
the catalogue of R266 does not have. -/
def opcodeIsl (op : Nat) : Option Isl :=
  if op = 0x0001 then some .hi
  else if 0x0101 ≤ op ∧ op ≤ 0x010A then some (if op = 0x0108 then .vl else .ap)
  else if 0x0201 ≤ op ∧ op ≤ 0x0206 then some .vl
  else if op = 0x0301 ∨ op = 0x0302 then some .pw
  else if op = 0x0401 ∨ op = 0x0402 then some .sf
  else if op = 0x0501 ∨ op = 0x0502 then some .vl
  else if op = 0x0601 then some .ap
  else if 0x0701 ≤ op ∧ op ≤ 0x070A then some (if op = 0x0707 then .mg else .ks)
  else if 0x0801 ≤ op ∧ op ≤ 0x0805 then some .mg
  else if (0x0901 ≤ op ∧ op ≤ 0x0906) ∨ op = 0x0A01 ∨ op = 0x0A02 then some .cm
  else if 0x0B01 ≤ op ∧ op ≤ 0x0B03 then some .vl
  else if op = 0x0C01 then some .mg
  else if op = 0x0D01 then some .mg
  else none

/-- The staged data of a command, read when it begins to execute (R265). -/
def State.staged (s : State) (d : Desc) : List Byte := memRead s.mem (d.n 8 8) (d.n 16 4)

/-- The first failing check of an owning rule's list: each check with the status and detail it gives. -/
def firstFail (l : List (Bool × Nat × Nat)) : Option (Nat × Nat) :=
  match l.find? (fun c => !c.1) with
  | some c => some c.2
  | none => none

end Sys2Proof.Machine
end

