-- ==== Sys2Proof/Machine/Settings.lean ====
section
/-! DEFINITION. Settings that wait for a quantum boundary (R48, R65, R82, R119), the types of the points
(R173) and how inputs are mapped to them (R62, R79). -/

namespace Sys2Proof.Machine

/-- The value of a register in force in the quantum in progress: a value written since the boundary waits
(R48). -/
def State.inForce (s : State) (off : Nat) : Nat :=
  match s.met.waiting.lookup off with
  | some w => w.toNat
  | none => s.reg off

/-- A field in force in the quantum in progress. -/
def State.now (s : State) (f : Fld) : Nat := bitsOf (s.inForce f.off) f.hi f.lo

/-- A register in force in a quantum that has closed. -/
def ClosedQ.reg (cl : ClosedQ) (s : State) (off : Nat) : Nat :=
  match cl.overlay.lookup off with
  | some w => w.toNat
  | none => s.inForce off

/-- A field in force in a quantum that has closed. -/
def ClosedQ.get (cl : ClosedQ) (s : State) (f : Fld) : Nat := bitsOf (cl.reg s f.off) f.hi f.lo

/-- A binary32 setting in force in a quantum that has closed; 0 where it holds no number. -/
def ClosedQ.num (cl : ClosedQ) (s : State) (off : Nat) : Rat := (f32 (cl.reg s off)).getD 0

/-- A register written whose value takes effect at the next quantum boundary. -/
def State.setWaiting (s : State) (off v : Nat) : State :=
  let old := s.reg off
  if old = v then s
  else
    let s := if (s.met.waiting.lookup off).isSome then s
      else { s with met := { s.met with waiting := (off, BitVec.ofNat 32 old) :: s.met.waiting } }
    s.setReg off v

/-- Type code of a point (R173). -/
def State.type_ (s : State) (n : Fin 8) : Nat := s.get (F.TPT_STATE_TYPE n.val)
/-- Session state of a point (R16). -/
def State.sess (s : State) (n : Fin 8) : Nat := s.get (F.TPT_STATE_STATE n.val)
/-- An AC point (R173). -/
def isAc (t : Nat) : Bool := t == 1 || t == 2
/-- An electrical point (R173). -/
def isElec (t : Nat) : Bool := t == 1 || t == 2 || t == 3
/-- A fluid point (R173). -/
def isFluid (t : Nat) : Bool := t == 4 || t == 5 || t == 6
/-- Whether a session state is Connected to Ending, in which settings are refused (R48, R82). -/
def busyState (st : Nat) : Bool := decide (1 ≤ st) && decide (st ≤ 6)
/-- Whether a session state is Idle, Closed or Faulted (R68). -/
def restState (st : Nat) : Bool := st == 0 || st == 7 || st == 15

/-- The island of a metering channel. -/
def chanIsl (c : Fin 3) : Isl :=
  match c with
  | 0 => .ma
  | 1 => .mb
  | 2 => .mc

/-- Number of used slots of a type (R115). -/
def usedSlots (t : Nat) : Nat :=
  match t with
  | 1 => 3 | 2 => 3 | 3 => 1 | 4 => 2 | 5 => 1 | 6 => 1 | _ => 0

/-- Tolerance kind of a type's first slot; the later ones count on (R115). -/
def tolKind (t : Nat) : Nat :=
  match t with
  | 3 => 3 | 4 => 4 | 5 => 6 | 6 => 7 | _ => 0

/-- Quantity codes of a type in the order of u (R143). -/
def qtyCodes (t : Nat) : List (Fin 12) :=
  match t with
  | 1 => [1, 2, 3, 4, 5, 6, 7]
  | 2 => [1, 2, 3, 4, 5, 6, 7]
  | 3 => [1, 2]
  | 4 => [8, 9]
  | 5 => [10]
  | 6 => [11]
  | _ => []

/-- Input numbers that a point's electrical mapping names: V1, V2, V3, VNE, I1, I2, I3, IN, RCM; 31 none. -/
def elecMap (get : Fld → Nat) (n : Nat) : List Nat :=
  [get (F.MET_TPMAP_V_V1 n), get (F.MET_TPMAP_V_V2 n), get (F.MET_TPMAP_V_V3 n), get (F.MET_TPMAP_V_VNE n),
   get (F.MET_TPMAP_I_I1 n), get (F.MET_TPMAP_I_I2 n), get (F.MET_TPMAP_I_I3 n), get (F.MET_TPMAP_I_IN n),
   get (F.MET_TPMAP_I_RCM n)]

/-- Input numbers that a point's fluid mapping names: DP, P, T, RH; 31 none. -/
def fluidMap (get : Fld → Nat) (n : Nat) : List Nat :=
  [get (F.MET_FL_MAP_DP n), get (F.MET_FL_MAP_P n), get (F.MET_FL_MAP_T n), get (F.MET_FL_MAP_RH n)]

/-- Whether a point names an input in a mapping that belongs to its type. -/
def State.mapsInput (s : State) (n : Fin 8) (i : Nat) : Bool :=
  let t := s.type_ n
  (isElec t && (elecMap s.get n.val).contains i) || (isFluid t && (fluidMap s.get n.val).contains i)

/-- Whether a point uses a Modbus entry: as its rate, its dryness fraction, or through an entry that guards
one of them (R82, R89, R90). -/
def State.usesEntry (s : State) (n : Fin 8) (e : Nat) : Bool :=
  let prim := s.get (F.MET_FL_CFG_PRIM n.val)
  let q := s.get (F.MET_FL_CFG_MBQ n.val)
  let x := s.get (F.MET_FL_CFG_XMB n.val)
  let useQ := prim == 5 || prim == 6
  let useX := s.get (F.MET_FL_CFG_X_SRC n.val) == 1
  let direct := fun k => (useQ && q == k) || (useX && x == k)
  let role := s.get (F.MET_MB_FMT_ROLE e)
  isFluid (s.type_ n) && (direct e || ((role == 1 || role == 2) && direct (s.get (F.MET_MB_FMT_LINK e))))

/-- The points for which a condition holds, as a list. -/
def points : List (Fin 8) := List.finRange 8

/-- The channels. -/
def chans : List (Fin 3) := List.finRange 3

/-- The state with a channel's part replaced. -/
def State.setChan (s : State) (c : Fin 3) (x : ChanS) : State :=
  { s with met := { s.met with chans := s.met.chans.set c x } }

end Sys2Proof.Machine
end

