-- ==== Sys2Proof/Machine/Keys.lean ====
section
/-! DEFINITION. The key store, the tamper and seal inputs, key statements, attestation, command tags, the
limited-change settings and the debug port (chapter 13). -/

namespace Sys2Proof

open Sys2Proof.Machine

/-- Whether a slot is valid. -/
def Machine.KeySlot.valid (k : KeySlot) : Bool := k.state == .valid

end Sys2Proof

namespace Sys2Proof.Machine

/-! ### Derivation (R335, R336) -/

/-- ASCII bytes of a label. -/
def ascii (t : String) : List Byte := t.toList.map (fun c => BitVec.ofNat 8 c.toNat)

/-- The KDF of R335: the first L bits under a parent key. -/
def kdf (key label context : List Byte) (bits : Nat) : List Byte :=
  let block := fun i => hmac256 key (natBE 4 (i + 1) ++ label ++ [0] ++ context ++ natBE 4 bits)
  ((List.range ((bits + 255) / 256)).flatMap block).take (bits / 8)

/-- Order of the curve of a type: P-256 for 3, P-384 for 4 (log 3). -/
def curveOrder (type_ : Nat) : Nat :=
  if type_ = 3 then 0xFFFFFFFF00000000FFFFFFFFFFFFFFFFBCE6FAADA7179E84F3B9CAC2FC632551
  else 0xFFFFFFFFFFFFFFFFFFFFFFFFFFFFFFFFFFFFFFFFFFFFFFFFC7634D81F4372DDF581A0DB248B0A77AECEC196ACCC52973

/-- Bytes of a type's material (R334). -/
def materialLen (type_ : Nat) : Nat := if type_ = 4 then 48 else 32

/-- The material that a derivation gives a slot of a type (R336). -/
def derived (key label context : List Byte) (type_ : Nat) : List Byte :=
  if type_ = 3 ∨ type_ = 4 then
    let c := beNat (kdf key label context (if type_ = 3 then 320 else 448))
    natBE (materialLen type_) (c % (curveOrder type_ - 1) + 1)
  else kdf key label context 256

/-! ### Slots (R333, R334) -/

/-- The meter identity, 48 bits. -/
def State.identity (s : State) : Nat := s.get64 R.KEY_IDENT_LO % 2 ^ 48

/-- Whether the root is present and sound. -/
def State.rootOk (s : State) : Bool := s.key.root.isSome && !(s.flag F.KEY_STATUS_ROOT_FAULT)

/-- A system slot (R333). -/
def systemSlot (no type_ use dest depth : Nat) (material : List Byte) : KeySlot :=
  { no := no, state := .valid, type_ := type_, use := BitVec.ofNat 8 use, dest := BitVec.ofNat 21 dest, count := none,
    expiry := false, parent := if no = 0 then 0x1FF else 0, depth := depth, material := material, tags := [] }

/-- A slot by its number: a system slot built from the root, or a general slot that is not empty. -/
def State.keySlot (s : State) (no : Nat) : Option KeySlot :=
  if no < 5 then
    if s.rootOk then
      let root := s.key.root.getD []
      let ident := natBE 6 s.identity
      match no with
      | 0 => some (systemSlot 0 1 0x01 0 0 root)
      | 1 => some (systemSlot 1 3 0x10 0x40 1 (derived root (ascii "MMD-RDG") ident 3))
      | 2 => some (systemSlot 2 3 0x30 0xC000 1 (derived root (ascii "MMD-CPL") ident 3))
      | 3 => some (systemSlot 3 2 0x06 0 1 (derived root (ascii "MMD-WRAP") [] 2))
      | _ => some (systemSlot 4 1 0x08 0 1 (derived root (ascii "MMD-INTG") [] 1))
    else none
  else s.key.slots.find? (fun k => k.no == no)

/-- Key identifier of a public key (R164). -/
def keyId (pub : List Byte) : List Byte := (sha256 pub).take 4

/-- Key identifier of slot 1; zeros while there is no root. -/
def State.readingKid (s : State) : List Byte :=
  match s.keySlot 1 with
  | some k => keyId (Config.ecPublic 3 k.material)
  | none => zeros 4

/-- The registers that follow the slots: SLOTS_USED, ROOT_OK and KEY_RDG_KID. -/
def State.keyShow (s : State) : State :=
  let n := (s.key.slots.filter KeySlot.valid).length + (if s.rootOk then 5 else 0)
  let s := s.set F.KEY_STATUS_SLOTS_USED n
  let s := s.set F.KEY_STATUS_ROOT_OK s.rootOk.toNat
  s.set F.KEY_RDG_KID_KID (leNat s.readingKid)

/-- The state with the general slots replaced: the wrapped store is rewritten (R342). -/
def State.setSlots (s : State) (l : List KeySlot) : State :=
  ({ s with key := { s.key with slots := l, store := l.filter (fun k => k.valid && !k.expiry) } }).keyShow

/-- A list of slots with one slot put in place of its number, in increasing order. -/
def putSlot (l : List KeySlot) (k : KeySlot) : List KeySlot :=
  l.filter (fun x => decide (x.no < k.no)) ++ k :: l.filter (fun x => decide (k.no < x.no))

/-- KEY_SLOT_INFO of the selected slot. -/
def State.slotInfo (s : State) : Nat :=
  match s.keySlot (s.get F.KEY_SLOT_SEL_SLOT) with
  | none => 0
  | some k =>
    k.valid.toNat <<< 31 + (k.state == .orphan).toNat <<< 30 + (k.state == .fault).toNat <<< 29 +
    (k.valid && !k.expiry && decide (5 ≤ k.no)).toNat <<< 28 + k.expiry.toNat <<< 27 + (decide (k.no < 5)).toNat <<< 26 +
    k.depth <<< 22 + k.type_ <<< 18 + k.parent <<< 9 + k.use.toNat

/-- KEY_SLOT_DEST of the selected slot. -/
def State.slotDest (s : State) : Nat :=
  match s.keySlot (s.get F.KEY_SLOT_SEL_SLOT) with
  | some k => k.dest.toNat
  | none => 0

/-- KEY_SLOT_CNT of the selected slot. -/
def State.slotCnt (s : State) : Nat :=
  match s.keySlot (s.get F.KEY_SLOT_SEL_SLOT) with
  | some k => match k.count with
    | some n => n
    | none => 0xFFFFFFFF
  | none => 0

/-! ### Destruction (R346) -/

/-- Whether a slot descends from another, at any depth. -/
def descends (l : List KeySlot) (anc : Nat) : Nat → Nat → Bool
  | 0, _ => false
  | n + 1, no =>
    match l.find? (fun k => k.no == no) with
    | none => false
    | some k => k.parent == anc || descends l anc n k.parent

/-- The valid descendants of a slot. -/
def descendants (l : List KeySlot) (no : Nat) : List KeySlot :=
  l.filter (fun k => k.valid && k.no != no && descends l no 9 k.no)

/-- A slot destroyed: with PARENT its valid descendants become orphans; the session-cache keys of the slots
concerned are wiped; EV121 carries the count (R343, R346). -/
def State.destroySlot (s : State) (no : Nat) : State × Nat :=
  let desc := if s.flag F.KEY_LIFE_DESTROY_PARENT then descendants s.key.slots no else []
  let hit := fun n => n == no || desc.any (fun k => k.no == n)
  let l := (s.key.slots.filter (fun k => k.no != no)).map (fun k =>
    if desc.any (fun x => x.no == k.no) then { k with state := .orphan, material := [], tags := [] } else k)
  let s := s.setSlots l
  let s := { s with key := { s.key with cache := s.key.cache.filter (fun c => !(hit c.1)) } }
  (s.raise { src := 121, unit_ := no % 256, detail := desc.length }, desc.length)

/-- A served use counted (R341): the one that brings the count to 0 destroys the slot. -/
def State.countUse (s : State) (no : Nat) : State :=
  if no < 5 then s
  else match s.keySlot no with
    | none => s
    | some k =>
      match k.count with
      | none => s
      | some n =>
        let s := s.setSlots (putSlot s.key.slots { k with count := some (n - 1) })
        if n ≤ 1 then (s.destroySlot no).1 else s

/-- Whether a tamper has zeroised the slots in this tick, which is a microsecond of the model: it acts first, and a
use, a write or a derivation of the same tick fails (R349). -/
def State.zeroising (s : State) : Bool := s.key.zeroAt == some s.time.now

/-- The slot that a requester may use in a way, if it may (R341): valid, use in its set, requester in its
mask, no root fault, and no zeroise in the same tick (R349). -/
def State.mayUse (s : State) (requester no use : Nat) : Option KeySlot :=
  match s.keySlot no with
  | some k =>
    if s.running .ks = true ∧ s.zeroising = false ∧ k.valid = true ∧ k.use.toNat.testBit use = true ∧
      k.dest.toNat.testBit requester = true then some k else none
  | none => none

/-- A root fault (R339). -/
def State.rootFault (s : State) : State :=
  let s := (s.set F.KEY_STATUS_ROOT_FAULT 1).raise { src := 122 }
  (s.fault 7 .ks).keyShow

/-- A key-use request: `checkOk` is the slot's check at this use, `rebuildOk` that of a system slot after its
rebuild (R341, R344). -/
def execKeyUseRequest (requester : Fin 21) (slot : BitVec 9) (use : Fin 7) (checkOk rebuildOk : Bool) (s : State) :
    Host.Outcome State Fault Refusal :=
  match s.mayUse requester.val slot.toNat use.val with
  | none => .next s
  | some k =>
    if checkOk then .next (s.countUse k.no)
    else if k.no < 5 then .next (if rebuildOk then s else s.rootFault)
    else
      let s := s.setSlots (putSlot s.key.slots { k with state := .fault, material := [], tags := [] })
      .next ((s.raise { src := 119, unit_ := k.no % 256 }).fault 7 .ks)

/-! ### Key commands (R340, R351, R353, R363) -/

/-- Uses that a type allows (R334). -/
def usesOf (type_ : Nat) : Nat :=
  match type_ with
  | 1 => 0x49
  | 2 => 0x06
  | 3 => 0x30
  | 4 => 0x10
  | _ => 0

/-- Ranges of the attributes that write-key and derive-key carry. -/
def attrRanges (d : Desc) : List (Nat × Bool) :=
  let ty := d.n 26 1
  let use := d.n 27 1
  [(24, decide (d.n 24 2 < 5) || decide (510 < d.n 24 2)), (26, usesOf ty == 0),
   (27, use == 0 || (use - (use &&& usesOf ty)) != 0), (28, d.n 28 4 == 0 || decide (2 ^ 21 ≤ d.n 28 4)),
   (36, decide (1 < d.n 36 1))]

/-- Whether a general slot can be filled: it is empty or in fault (R340, log 19). -/
def State.fillable (s : State) (no : Nat) : Bool :=
  match s.keySlot no with
  | none => true
  | some k => k.state == .fault

/-- The slot that write-key or derive-key fills. -/
def newSlot (d : Desc) (expiry : Bool) (parent depth : Nat) (material : List Byte) : KeySlot :=
  { no := d.n 24 2, state := .valid, type_ := d.n 26 1, use := BitVec.ofNat 8 (d.n 27 1), dest := BitVec.ofNat 21 (d.n 28 4),
    count := if d.n 32 4 = 0 then none else some (d.n 32 4), expiry := expiry, parent := parent, depth := depth,
    material := material, tags := [] }

/-- Command 0x0701: write a key in clear (R340). -/
def execWriteKey (d : Desc) (s : State) : Host.Outcome State Fault Refusal :=
  let ty := d.n 26 1
  let len := materialLen ty
  .next (s.command d { opcode := 0x0701, priv := some 3, isl := .ks,
                       params := [(24, 2), (26, 1), (27, 1), (28, 4), (32, 4), (36, 1)], staged := .len len len false }
    (attrRanges d) (fun s =>
      if s.fillable (d.n 24 2) = false then s.complete d 0x0002 24 []
      else
        let m := s.staged d
        let scalar := beNat m
        if 3 ≤ ty ∧ (scalar = 0 ∨ curveOrder ty ≤ scalar) then s.complete d 0x0008 1 []
        else if s.zeroising then s.complete d 0x000E 0 []
        else
          let s := s.setSlots (putSlot s.key.slots (newSlot d ((d.n 36 1).testBit 0) 0x1FF 1 m))
          (s.store (d.n 8 8) (zeros len)).ok d []))

/-- Command 0x0702: derive a key (R335 to R337). -/
def execDeriveKey (d : Desc) (s : State) : Host.Outcome State Fault Refusal :=
  let ln := d.n 40 1
  let cn := d.n 41 1
  .next (s.command d { opcode := 0x0702, priv := some 3, isl := .ks,
                       params := [(24, 2), (26, 1), (27, 1), (28, 4), (32, 4), (36, 1), (38, 2), (40, 1), (41, 1)],
                       staged := .len (ln + cn) (ln + cn) false }
    (attrRanges d ++ [(38, decide (510 < d.n 38 2)), (40, ln == 0 || decide (64 < ln)), (41, decide (64 < cn))])
    (fun s =>
      let data := s.staged d
      let label := data.take ln
      if s.fillable (d.n 24 2) = false then s.complete d 0x0002 24 []
      else match s.keySlot (d.n 38 2) with
        | none => s.complete d 0x0002 38 []
        | some p =>
          if p.valid = false ∨ p.type_ ≠ 1 ∨ p.use.toNat.testBit 0 = false ∨ 8 ≤ p.depth ∨ p.no = d.n 24 2 then
            s.complete d 0x0002 38 []
          else if label.take 4 = ascii "MMD-" then s.complete d 0x0008 1 []
          else if s.zeroising then s.complete d 0x000E 0 []
          else
            let m := derived p.material label (data.drop ln) (d.n 26 1)
            let s := s.setSlots (putSlot s.key.slots
              (newSlot d ((d.n 36 1).testBit 0 || p.expiry) p.no (p.depth + 1) m))
            (s.countUse p.no).ok d (natLE 1 (p.depth + 1))))

/-- Command 0x0703: destroy a key (R346). -/
def execDestroyKey (d : Desc) (s : State) : Host.Outcome State Fault Refusal :=
  .next (s.command d { opcode := 0x0703, priv := some 3, isl := .ks, params := [(24, 2)] }
    [(24, decide (d.n 24 2 < 5) || decide (510 < d.n 24 2))] (fun s =>
      let no := d.n 24 2
      match s.keySlot no with
      | none => s.complete d 0x0002 24 []
      | some k =>
        if k.valid = false ∨ (s.flag F.KEY_LIFE_DESTROY_PARENT = false ∧ descendants s.key.slots no ≠ []) then
          s.complete d 0x0002 24 []
        else
          let r := s.destroySlot no
          r.1.ok d (natLE 2 r.2)))

/-- A signature with a slot's key over a byte string: SHA-256 for P-256, SHA-384 for P-384. -/
def State.signWith (s : State) (k : KeySlot) (body : List Byte) : List Byte × State :=
  let (n, s) := s.fresh
  (padTo (if k.type_ = 3 then 64 else 96)
    (Config.ecdsaSign k.type_ k.material (if k.type_ = 3 then sha256 body else Config.sha384 body) n), s)

/-- Command 0x0704: a key statement (R351). -/
def execKeyStatement (d : Desc) (s : State) : Host.Outcome State Fault Refusal :=
  .next (s.command d { opcode := 0x0704, priv := some 0, isl := .ks, params := [(24, 2)],
                       staged := .len 236 0x80000 false } [(24, decide (510 < d.n 24 2))] (fun s =>
      match s.keySlot (d.n 24 2) with
      | none => s.complete d 0x0002 24 []
      | some k =>
        if k.valid = false ∨ k.type_ < 3 then s.complete d 0x0002 24 []
        else
          let pub := Config.ecPublic k.type_ k.material
          let body := natLE 4 0x54534B4D ++ natLE 2 1 ++ natLE 2 k.no ++ natLE 6 s.identity ++ natLE 1 k.type_ ++
            [k.use] ++ natLE 4 k.dest.toNat ++ keyId pub ++ natLE 8 s.devTime ++ natLE 4 (s.reg R.KEY_LIFE) ++
            natLE 4 (s.reg R.KEY_CHG_LEFT) ++ padTo 97 pub ++ zeros 3
          let (sig, s) := s.signWith k body
          (s.store (d.n 8 8) (body ++ padTo 96 sig)).ok d (natLE 4 236)))

/-- Command 0x0705: attest (R353). -/
def execAttest (d : Desc) (s : State) : Host.Outcome State Fault Refusal :=
  let nl := d.n 26 1
  .next (s.command d { opcode := 0x0705, priv := some 0, isl := .ks, params := [(24, 2), (26, 1)],
                       staged := .len 96 0x80000 false }
    [(24, decide (510 < d.n 24 2)), (26, decide (nl < 16) || decide (64 < nl) || nl % 4 != 0)] (fun s =>
      match s.mayUse 20 (d.n 24 2) 6 with
      | none => s.complete d 0x0002 24 []
      | some k =>
        if k.type_ ≠ 1 then s.complete d 0x0002 24 []
        else
          let nonce := (s.staged d).take nl
          let body := natLE 4 0x54414B4D ++ natLE 2 1 ++ natLE 2 k.no ++ natLE 6 s.identity ++
            natLE 1 s.sealOpen.toNat ++ natLE 1 nl ++ natLE 4 (s.reg R.KEY_LIFE) ++ natLE 4 (s.reg R.KEY_CHG_LEFT) ++
            s.readingKid ++ natLE 2 (s.get F.MET_CAL_ID_SET_NO) ++ natLE 2 (s.get F.BIL_TAR_ID_STRUCT_NO) ++
            natLE 8 s.resolved ++ natLE 8 s.devTime ++ zeros 16
          let s := s.store (d.n 8 8) (body ++ hmac256 k.material (nonce ++ body))
          (s.countUse k.no).ok d (natLE 4 96)))

/-! ### Command tags (R354) -/

/-- The check of a command tag under a slot: an accepted tag is kept and counts as a use. -/
def State.checkTag (s : State) (slot : Nat) (body tag : List Byte) : Option State :=
  match s.mayUse 6 slot 3 with
  | none => none
  | some k =>
    if k.type_ ≠ 1 ∨ k.no < 5 ∨ k.tags.contains tag = true ∨ (hmac256 k.material body).take 16 ≠ tag then none
    else some ((s.setSlots (putSlot s.key.slots { k with tags := (tag :: k.tags).take 64 })).countUse k.no)

/-! ### Limited-change settings (R357 to R361) -/

/-- A change-slot fuse blown and verified; a fuse that fails to verify is consumed. None when no slot is
left (R358 step 2). The second state is that of a failed attempt. -/
def State.blowFuse (s : State) (f : Fld) : Bool × State :=
  let left := s.get f
  let bad := s.key.badFuses
  if bad < left then (true, { s with key := { s.key with badFuses := 0 } }.set f (left - 1 - bad))
  else (false, { s with key := { s.key with badFuses := bad - left } }.set f 0)

/-- A limited change once its own checks have passed: a recognised warning refuses it, then the fuse, then
the change (R358). -/
def State.limited (s : State) (d : Desc) (f : Fld) (change : State → State) : State :=
  if s.isl.supply ≠ .normal then s.complete d 0x000F 0 []
  else match s.blowFuse f with
    | (false, s) => s.complete d 0x0005 0 []
    | (true, s) => change s

/-- The checks that every limited change has: seal, slot, log (R358 step 1). -/
def State.limitedChecks (s : State) (f : Fld) : List (Bool × Nat × Nat) :=
  [(s.sealOpen, 0x0004, 0), (decide (0 < s.get f), 0x0005, 0), (!s.logRefusing, 0x0006, 0)]

/-- No point is in Transferring. -/
def State.noTransfer (s : State) : Bool := points.all (fun n => s.sess n != 5)

/-- Command 0x0706: set the meter identity (R360). -/
def execSetMeterIdentity (d : Desc) (s : State) : Host.Outcome State Fault Refusal :=
  let new := d.n 24 6
  .next (s.command d { opcode := 0x0706, priv := some 3, isl := .ks, params := [(24, 6)] }
    [(24, new == 0 || new == 2 ^ 48 - 1 || new == s.identity)] (fun s =>
      match firstFail (s.limitedChecks F.KEY_CHG_LEFT_IDENT ++ [(s.noTransfer, 0x0007, 5)]) with
      | some (st, det) => s.complete d st det []
      | none => s.limited d F.KEY_CHG_LEFT_IDENT (fun s =>
          let old := s.identity
          let left := s.get F.KEY_CHG_LEFT_IDENT
          let s := (s.set64 R.KEY_IDENT_LO new).keyShow
          let s := s.log { type_ := 0x0032, src := d.logSrc, sub := 2, payload := natLE 8 old ++ natLE 8 new ++ natLE 1 left }
          (s.raise { src := 123 }).ok d (natLE 1 left))))

/-- Command 0x0707: enrol the integrator's signing key (R361). -/
def execEnrolIntegratorKey (d : Desc) (s : State) : Host.Outcome State Fault Refusal :=
  .next (s.command d { opcode := 0x0707, priv := some 3, isl := .mg, staged := .len 97 97 false } [] (fun s =>
      match firstFail (s.limitedChecks F.KEY_CHG_LEFT_INTEG) with
      | some (st, det) => s.complete d st det []
      | none => s.limited d F.KEY_CHG_LEFT_INTEG (fun s =>
          let h := padTo 48 (Config.sha384 (s.staged d))
          let left := s.get F.KEY_CHG_LEFT_INTEG
          let s := { s with key := { s.key with hashes := h :: s.key.hashes } }
          let idx := 4 - left
          let s := s.set F.KEY_INTEG_INDEX idx
          let s := s.log { type_ := 0x0032, src := d.logSrc, sub := 5, payload := h.take 16 ++ natLE 1 idx ++ natLE 1 left }
          (s.raise { src := 123 }).ok d (natLE 1 idx ++ natLE 1 left))))

/-- Command 0x0708: select destruction modes (R345). -/
def execSelectDestructionModes (d : Desc) (s : State) : Host.Outcome State Fault Refusal :=
  let new := d.n 24 1
  .next (s.command d { opcode := 0x0708, priv := some 3, isl := .ks, params := [(24, 1)] }
    [(24, decide (3 < new))] (fun s =>
      let old := (s.flag F.KEY_LIFE_DESTROY_PARENT).toNat + 2 * (s.flag F.KEY_LIFE_DESTROY_TAMPER).toNat
      if old - (old &&& new) ≠ 0 then s.complete d 0x0002 24 []
      else match firstFail [(s.sealOpen, 0x0004, 0), (!s.logRefusing, 0x0006, 0)] with
        | some (st, det) => s.complete d st det []
        | none =>
          if new = old then s.ok d (natLE 1 new)
          else if s.isl.supply ≠ .normal then s.complete d 0x000F 0 []
          else
            let s := (s.set F.KEY_LIFE_DESTROY_PARENT (new % 2)).set F.KEY_LIFE_DESTROY_TAMPER (new / 2)
            let s := s.log { type_ := 0x0032, src := d.logSrc, sub := 7, payload := natLE 1 old ++ natLE 1 new }
            (s.raise { src := 123 }).ok d (natLE 1 new)))

/-- The debug port opened or closed, with EV124 at a change (R362). -/
def State.setDebug (s : State) (on : Bool) : State :=
  if s.flag F.KEY_STATUS_DBG_OPEN = on then s
  else (s.set F.KEY_STATUS_DBG_OPEN on.toNat).raise { src := 124 }

/-- Command 0x0709: debug port (R362). -/
def execDebugPort (d : Desc) (s : State) : Host.Outcome State Fault Refusal :=
  .next (s.command d { opcode := 0x0709, priv := some 3, isl := .ks, params := [(24, 1)] }
    [(24, decide (1 < d.n 24 1))] (fun s =>
      let on := d.n 24 1 == 1
      match firstFail [(!(s.flag F.KEY_LIFE_DEBUG_KILL), 0x0005, 0), (!on || s.sealOpen, 0x0004, 0)] with
      | some (st, det) => s.complete d st det []
      | none => (s.setDebug on).ok d []))

/-- Command 0x070A: debug kill (R362). -/
def execDebugKill (d : Desc) (s : State) : Host.Outcome State Fault Refusal :=
  .next (s.command d { opcode := 0x070A, priv := some 3, isl := .ks, params := [(24, 1)] }
    [(24, d.n 24 1 != 0x5A)] (fun s =>
      match firstFail (s.limitedChecks F.KEY_CHG_LEFT_DBG) with
      | some (st, det) => s.complete d st det []
      | none => s.limited d F.KEY_CHG_LEFT_DBG (fun s =>
          let s := (s.set F.KEY_LIFE_DEBUG_KILL 1).setDebug false
          let s := s.log { type_ := 0x0032, src := d.logSrc, sub := 6, payload := zeros 17 }
          (s.raise { src := 123 }).ok d [])))

/-! ### Tamper inputs and seal (R347 to R350) -/

/-- A tamper accepted on an input: latch, count and EV118; with TAMPER the zeroise (R347, R348). -/
def State.tamper (s : State) (n : Fin 4) : State :=
  let s := { s with key := { s.key with spent := s.key.spent ||| (1 <<< n.val) } }
  let s := s.setBit F.KEY_TMP_STAT_LATCH n.val true
  let cnt := s.get F.KEY_LIFE_TAMPER_COUNT
  let s := s.set F.KEY_LIFE_TAMPER_COUNT (min 16 (cnt + 1))
  let s :=
    if s.flag F.KEY_LIFE_DESTROY_TAMPER then
      let s := { s with key := { s.key with cache := [], zeroAt := some s.time.now } }
      (s.setSlots []).set F.KEY_TMP_STAT_ZEROISED 1
    else s
  s.raise { src := 118, unit_ := n.val }

/-- A tamper input has been away from its inactive level for 100 µs (R347). -/
def execTamperInput (n : Fin 4) (s : State) : Host.Outcome State Fault Refusal :=
  let s := s.setBit F.KEY_TMP_STAT_LEVEL n.val true
  if s.running .ks = false ∨ s.bit F.KEY_TMP_CFG_EN n.val = false ∨ s.key.spent.toNat.testBit n.val = true then .next s
  else .next (s.tamper n)

/-- A tamper input has been back at its inactive level for 100 µs (R347). -/
def execTamperInputReturn (n : Fin 4) (s : State) : Host.Outcome State Fault Refusal :=
  let s := s.setBit F.KEY_TMP_STAT_LEVEL n.val false
  .next { s with key := { s.key with spent := BitVec.ofNat 4 (putBit s.key.spent.toNat n.val false) } }

/-- The seal opens or closes (R350). -/
def execSealChange (open_ : Bool) (s : State) : Host.Outcome State Fault Refusal :=
  if s.sealOpen = open_ then .next s
  else
    let s := s.set F.KEY_STATUS_SEAL_OPEN open_.toNat
    let s := s.log { type_ := 0x0033, sub := open_.toNat }
    let s := s.raise { src := 120 }
    .next (if open_ then s else s.setDebug false)

end Sys2Proof.Machine
end

