-- ==== Sys2Proof/Machine/Reports.lean ====
section
/-! DEFINITION. Reports as they come to the fabric: offered by AP, spread, and issued (R296, R297, R299). -/

namespace Sys2Proof.Machine

/-- Interval length in µs of a BIL_DEM_CFG value (R147). -/
def demL (cfg : Nat) : Nat :=
  (match bitsOf cfg 2 0 with
   | 0 => 1 | 1 => 5 | 2 => 10 | 3 => 15 | 4 => 30 | _ => 60) * 60000000

/-- Whether the module has joined the fabric (R288). -/
def State.joined (s : State) : Bool := s.get F.FAB_STATUS_STATE == 2

/-- Whether the module is the standby member of a duplex pair (R305). -/
def State.stroke (s : State) : Bool := s.get F.FAB_STATUS_ROLE == 2

/-- Whether the module is the active member of a duplex pair (R305). -/
def State.bow (s : State) : Bool := s.get F.FAB_STATUS_ROLE == 1

/-- The bow mirrors a change to the stroke (R306). -/
def State.mirrored (s : State) : State := if s.bow then s.emit (.pair 2) else s

/-- The report source address: the pair address in a duplex pair, else the node address (R297, R305). -/
def State.reportSource (s : State) : Nat :=
  if s.flag F.FAB_PAIR_STATUS_PARTNER then s.get F.FAB_PAIR_STATUS_PAIR_ADDR else s.get F.FAB_STATUS_ADDR

/-- A report issued: it takes the next sequence number, and its payload is fixed (R297). The bow mirrors it. -/
def State.issueReport (s : State) (type_ : Byte) (body : List Byte) : State :=
  let seq := (s.reg R.FAB_REP_SEQ + 1) % 2 ^ 32
  let s := s.setReg R.FAB_REP_SEQ seq
  let pay := natLE 4 seq ++ natLE 6 (s.get64 R.KEY_IDENT_LO % 2 ^ 48) ++ natLE 2 s.reportSource ++ natLE 8 s.resolved ++
    natLE 4 body.length ++ body
  let r : Report := ⟨type_, pay, s.time.now, some (BitVec.ofNat 32 seq)⟩
  ({ s with fab := { s.fab with reports := s.fab.reports ++ [r] } }).mirrored

/-- Spreading window in ms of an entry (R299): 0 sends at once. `kind` is 0 for a reading, 1 for a session end
record, 2 for a profile entry. -/
def State.spreadWindow (s : State) (kind : Nat) (point : Fin 8) (bytes : List Byte) : Nat :=
  let w := s.get F.FAB_REP_CFG_SPREAD * 1000
  if kind = 2 then min w (demL s.bil.points[point].demand.cfg.toNat / 2000)
  else if kind = 0 ∧ fld bytes 6 1 = 3 then w
  else 0

/-- An entry that AP passes to the fabric (R296): spread, or issued at once while the module has joined. The
standby module of a pair issues none. -/
def State.offerReport (s : State) (kind : Nat) (point : Fin 8) (bytes : List Byte) : State :=
  let on := if kind = 0 then s.flag F.FAB_REP_CFG_READ_REP else if kind = 1 then s.flag F.FAB_REP_CFG_SESS_REP
    else s.flag F.FAB_REP_CFG_INT_REP
  if s.open_ .ap .cm = false ∨ on = false ∨ s.stroke = true ∨ s.reg R.FAB_COLL_CFG = 0 then s
  else
    let type_ : Byte := if kind = 0 then 0x11 else if kind = 1 then 0x12 else 0x10
    let w := s.spreadWindow kind point bytes
    if w = 0 then (if s.joined then s.issueReport type_ bytes else s)
    else
      let off := beNat ((sha256 (natLE 2 s.reportSource)).take 4) % w
      let r : Report := ⟨type_, bytes, s.time.now + 1000 * off, none⟩
      { s with fab := { s.fab with reports := s.fab.reports ++ [r] } }

end Sys2Proof.Machine
end

