-- ==== Sys2Proof/Machine/Tariff.lean ====
section
/-! DEFINITION. The tariff structure and calendar (R152 to R154), billing-period boundaries (R151) and the
checks of a loaded structure. -/

namespace Sys2Proof.Machine

/-! ### Civil dates -/

/-- Year, month and day of a day count from 1970-01-01. -/
def civil (days : Int) : Int × Nat × Nat :=
  let z := days + 719468
  let era := z / 146097
  let doe := (z - era * 146097).toNat
  let yoe := (doe - doe / 1460 + doe / 36524 - doe / 146096) / 365
  let doy := doe - (365 * yoe + yoe / 4 - yoe / 100)
  let mp := (5 * doy + 2) / 153
  let d := doy - (153 * mp + 2) / 5 + 1
  let m := if mp < 10 then mp + 3 else mp - 9
  let y : Int := (yoe : Int) + era * 400 + (if m ≤ 2 then 1 else 0)
  (y, m, d)

/-- Day count from 1970-01-01 of a date. -/
def daysOf (y : Int) (m d : Nat) : Int :=
  let y' := if m ≤ 2 then y - 1 else y
  let era := y' / 400
  let yoe := y' - era * 400
  let mp : Int := if 2 < m then (m : Int) - 3 else (m : Int) + 9
  let doy := (153 * mp + 2) / 5 + (d : Int) - 1
  era * 146097 + (yoe * 365 + yoe / 4 - yoe / 100 + doy) - 719468

/-- µs of a day. -/
def dayUs : Int := 86400000000

/-- Day of the week of a day count, Monday 0. -/
def weekday (days : Int) : Nat := ((days + 3) % 7).toNat

/-! ### The structure (R152, R153) -/

/-- Calendar entries of a structure, 16 bytes each, in the order of their index. -/
def calEntries (t : Option (List Byte)) : List (List Byte) :=
  match t with
  | none => []
  | some b => (List.range (fld b 8 2)).map (fun i => slice b (400 + 16 * i) 16)

/-- Default rate; 0 in structure 0. -/
def defaultRate (t : Option (List Byte)) : Nat :=
  match t with
  | none => 0
  | some b => fld b 10 1

/-- Spans of constant offset, oldest first: the device time from which each runs (none for the standard
offset's) and the offset in µs. -/
def offsetSpans (t : Option (List Byte)) : List (Option Int × Int) :=
  match t with
  | none => [(none, 0)]
  | some b => (none, sfld b 12 2 * 60000000) ::
      (List.range (fld b 11 1)).map (fun i =>
        (some (fld b (16 + 12 * i) 8 : Int), sfld b (24 + 12 * i) 2 * 60000000))

/-- The offset in force at a device time (R154). -/
def offsetAt (t : Option (List Byte)) (at_ : Int) : Int :=
  (offsetSpans t).foldl (fun acc s => match s.1 with
    | some c => if c ≤ at_ then s.2 else acc
    | none => s.2) 0

/-- Local time of a device time, in µs. -/
def localTime (t : Option (List Byte)) (at_ : Int) : Int := at_ + offsetAt t at_

/-- Whether an entry's day range covers a day (R153). -/
def covers (e : List Byte) (d : Int) : Bool :=
  let first := (fld e 8 2 : Int)
  let last := (fld e 10 2 : Int)
  if fld e 12 1 % 2 = 1 then
    let c := civil d
    let md : Int := (c.2.1 : Int) * 100 + c.2.2
    if first ≤ last then decide (first ≤ md) && decide (md ≤ last) else decide (first ≤ md) || decide (md ≤ last)
  else
    let n := d - 18262
    decide (first ≤ n) && decide (n ≤ last)

/-- Day type of a local day: that of the highest special-day entry that covers it; 0 for an ordinary day. -/
def dayType (es : List (List Byte)) (d : Int) : Nat :=
  es.foldl (fun acc e => if fld e 0 1 = 2 ∧ covers e d = true then fld e 1 1 else acc) 0

/-- The day's set of switch points: time of day in seconds and rate, in the order of their index (R154). -/
def daySet (es : List (List Byte)) (d : Int) : List (Nat × Nat) :=
  let ty := dayType es d
  let on := fun e =>
    fld e 0 1 == 1 && covers e d &&
      (if ty = 0 then (fld e 2 1).testBit (weekday d) else fld e 3 1 == ty)
  (es.filter on).map (fun e => (fld e 4 4, fld e 1 1))

/-- The rate of the latest switch point at or before a time of day; among equal times the highest index. -/
def latestRate (set_ : List (Nat × Nat)) (tod : Int) : Option Nat :=
  (set_.foldl (fun (acc : Option (Nat × Nat)) x =>
    if (x.1 : Int) * 1000000 ≤ tod then
      (match acc with
       | some a => if a.1 ≤ x.1 then some x else acc
       | none => some x)
    else acc) none).map (·.2)

/-- The rate in force at a device time (R154). -/
def rateAt (t : Option (List Byte)) (at_ : Int) : Nat :=
  let l := localTime t at_
  let d := l / dayUs
  let es := calEntries t
  match latestRate (daySet es d) (l - d * dayUs) with
  | some r => r
  | none =>
    match (List.range 7).findSome? (fun (k : Nat) => latestRate (daySet es (d - 1 - k)) dayUs) with
    | some r => r
    | none => defaultRate t

/-- Device times of a local day at which the rate may change: the day's start and its switch points under
every offset, and the offset changes. -/
def candidates (t : Option (List Byte)) (d : Int) : List Int :=
  let tods : List Int := 0 :: (calEntries t).map (fun e => (fld e 4 4 : Int) * 1000000)
  let offs := offsetSpans t
  let changes := offs.filterMap (fun s => match s.1 with
    | some c => if (c + s.2) / dayUs = d then some c else none
    | none => none)
  changes ++ tods.flatMap (fun x => (offs.map (fun s => d * dayUs + x - s.2)).filter
    (fun u => decide (localTime t u = d * dayUs + x)))

/-- Whether a device time is a tariff boundary: the rate in force changes at it (R154). -/
def isBoundary (t : Option (List Byte)) (u : Int) : Bool := rateAt t u != rateAt t (u - 1)

/-- The least of a list of times. -/
def leastOf (l : List Int) : Option Int :=
  l.foldl (fun acc x => match acc with
    | some a => some (min a x)
    | none => some x) none

/-- The next tariff boundary after a device time within 400 days (R154). -/
def nextBoundary (t : Option (List Byte)) (now : Int) : Option Int :=
  if calEntries t = [] then none
  else
    let d0 := localTime t now / dayUs - 1
    (List.range 403).findSome? (fun (k : Nat) =>
      leastOf ((candidates t (d0 + k)).filter (fun u =>
        decide (now < u) && decide (u ≤ now + 400 * dayUs) && isBoundary t u)))

/-- Whether a tariff boundary lies within `w` µs of a device time. -/
def boundaryNear (t : Option (List Byte)) (at_ w : Int) : Bool :=
  let d := localTime t at_ / dayUs
  [d - 1, d, d + 1].any (fun k => (candidates t k).any (fun u =>
    decide (at_ - w ≤ u) && decide (u ≤ at_ + w) && isBoundary t u))

/-! ### Billing-period boundaries (R151) -/

/-- The first device time at which local time has reached `l`: its first occurrence, or the offset change that
skips it. -/
def firstReach (spans : List (Option Int × Int)) (l : Int) : Int :=
  match spans with
  | [] => l
  | s :: rest =>
    let u := match s.1 with
      | some c => max c (l - s.2)
      | none => l - s.2
    match rest with
    | (some c, _) :: _ => if u < c then u else firstReach rest l
    | _ => u

/-- The newest monthly closing boundary at or before a device time. -/
def periodBoundary (t : Option (List Byte)) (day hour : Nat) (at_ : Int) : Option Int :=
  let c := civil (localTime t at_ / dayUs)
  let months : List (Int × Nat) := (List.range 4).map (fun (k : Nat) =>
    let n : Int := c.1 * 12 + (c.2.1 : Int) - (k : Int)
    (n / 12, (n % 12).toNat + 1))
  let times := months.map (fun m =>
    firstReach (offsetSpans t) (daysOf m.1 m.2 day * dayUs + (hour : Int) * 3600000000))
  times.find? (fun u => decide (u ≤ at_))

/-! ### Checks of a loaded structure (R152, R153) -/

/-- Whether an entry's fields lie in their ranges (R153). -/
def entryOk (e : List Byte) : Bool :=
  let kind := fld e 0 1
  let b1 := fld e 1 1
  let b2 := fld e 2 1
  let b3 := fld e 3 1
  let annual := fld e 12 1 % 2 == 1
  let md := fun v => decide (1 ≤ v / 100) && decide (v / 100 ≤ 12) && decide (1 ≤ v % 100) && decide (v % 100 ≤ 31)
  let days := if annual then md (fld e 8 2) && md (fld e 10 2) else decide (fld e 8 2 ≤ fld e 10 2)
  days && decide (fld e 12 1 ≤ 1) && fld e 13 3 == 0 &&
    (if kind = 1 then decide (b1 ≤ 15) && decide (b2 ≤ 127) && decide (b3 ≤ 15) && decide (fld e 4 4 ≤ 86399)
     else kind == 2 && decide (1 ≤ b1) && decide (b1 ≤ 15) && b2 == 0 && b3 == 0 && fld e 4 4 == 0)

/-- Whether the header and the offset changes meet their rules (R152). -/
def headOk (b : List Byte) : Bool :=
  let n := fld b 11 1
  let off := fun v => decide (-720 ≤ v) && decide (v ≤ (840 : Int))
  let ch := fun i => slice b (16 + 12 * i) 12
  let rising := (List.range (n - 1)).all (fun i => decide (fld (ch i) 0 8 < fld (ch (i + 1)) 0 8))
  decide (fld b 10 1 ≤ 15) && decide (n ≤ 32) && off (sfld b 12 2) && fld b 14 2 == 0 && rising &&
    (List.range n).all (fun i => off (sfld (ch i) 8 2) && fld (ch i) 10 2 == 0) &&
    (slice b (16 + 12 * n) (384 - 12 * n)).all (· == 0)

/-- Whether two switch points can apply on the same local day (R152, check 11). -/
def mayMeet (a b : List Byte) : Bool :=
  let annual := fun e => fld e 12 1 % 2 == 1
  fld a 3 1 == fld b 3 1 && (fld a 3 1 != 0 || (fld a 2 1 &&& fld b 2 1) != 0) &&
    (annual a || annual b ||
      (decide (fld a 8 2 ≤ fld b 10 2) && decide (fld b 8 2 ≤ fld a 10 2)))

/-- Check 11 of R152: any two such switch points lie at least 60 s apart. -/
def spaced : List (List Byte) → Bool
  | [] => true
  | a :: l => l.all (fun b => !(mayMeet a b) ||
      decide (fld a 4 4 + 60 ≤ fld b 4 4) || decide (fld b 4 4 + 60 ≤ fld a 4 4)) && spaced l

end Sys2Proof.Machine
end

