-- ==== Sys2Proof/Machine/Billing.lean ====
section
/-! DEFINITION. Crediting, demand, billing periods and the rate in force (R143 to R156, R161, R162), the
legal loads, readings and time corrections (chapter 5). -/

namespace Sys2Proof.Machine

/-! ### Timestamps -/

/-- The confirmed timestamp of a quantum, or its expected one where it has not begun (R15, R155). -/
def State.stamp (s : State) (q : Nat) : Nat :=
  match s.time.starts.lookup q with
  | some t => t
  | none => ((s.time.qStart : Int) + 10000 * ((q : Int) - (s.time.quantum : Int))).toNat

/-- Time quality (R159). -/
def State.quality (s : State) : Nat := s.get F.BIL_TIME_STATUS_QUALITY

/-- A change of time quality, with EV054 and its entry (R159). -/
def State.setQuality (s : State) (v : Nat) : State :=
  let old := s.quality
  if v = old then s
  else
    let s := s.set F.BIL_TIME_STATUS_QUALITY v
    (s.log { type_ := 0x0013, sub := v, payload := natLE 1 old }).raise { src := 54 }

/-- C_last (R151). -/
def State.lastClose (s : State) : Nat := s.get64 R.BIL_LASTCLOSE_LO

/-- Whether a set-back run is active (R162). -/
def State.setback (s : State) : Bool := s.flag F.BIL_TIME_STATUS_SETBACK

/-! ### Crediting (R143 to R146) -/

/-- An amount credited to a block under a rate, and to its marked register when `marked` (R145, R146). -/
def Block.credit (b : Block) (a rate : Nat) (marked : Bool) : Block :=
  let s := b.residue.toNat + a
  let c := s / 65536
  let b := { b with residue := BitVec.ofNat 16 s, total := b.total + BitVec.ofNat 64 c,
                    rates := b.rates.set (Fin.ofNat 16 rate) (b.rates[Fin.ofNat 16 rate] + BitVec.ofNat 64 c) }
  if marked then
    let m := b.markedRes.toNat + a
    { b with markedRes := BitVec.ofNat 16 m, marked := b.marked + BitVec.ofNat 64 (m / 65536) }
  else b

/-- Amounts credited to the blocks u of a type by slot values of which those of `held` are held (R144). -/
def amounts (ty : Nat) (slots : List Int) (held : Nat) : List Nat :=
  let x := fun k => if held.testBit k then 0 else nth slots k 0
  let quad : Nat := if 0 ≤ x 0 then (if 0 < x 1 then 2 else 5) else (if 0 < x 1 then 3 else 4)
  if isAc ty then
    (List.range 7).map (fun u =>
      if u = 0 then (x 0).toNat
      else if u = 1 then (-(x 0)).toNat
      else if u = 6 then (x 2).toNat
      else if u = quad then (x 1).natAbs
      else 0)
  else if ty = 3 then [(x 0).toNat, (-(x 0)).toNat]
  else (List.range (qtyCodes ty).length).map (fun u => (x u).toNat)

/-- Slot that feeds block u of a type (R144). -/
def slotOf (ty u : Nat) : Nat :=
  if isAc ty then (if u ≤ 1 then 0 else if u = 6 then 2 else 1) else if ty = 3 then 0 else u

/-- Whether a confirmed quantum is marked for a point (R146). -/
def markedQ (flags : Byte) (fluid : Word) : Bool := flags.toNat.testBit 2 || (fluid.toNat &&& 0x11CF) != 0

/-- A point's confirmed block credited (R144 to R146), with the flags of R164. -/
def creditPoint (p : PointBill) (blk : PBlock) (rate : Nat) (marked setback voted2 : Bool) : PointBill :=
  let held := blk.marks.toNat / 16
  let amt := amounts blk.type_ blk.slots held
  let blocks := ((qtyCodes blk.type_).zip amt).foldl
    (fun (bs : Vector Block 12) ca => bs.set ca.1 (bs[ca.1].credit ca.2 rate marked)) p.blocks
  let f := marked.toNat + 2 * (held != 0).toNat + 4 * setback.toNat + 8 * voted2.toNat
  { p with blocks := blocks, flags := p.flags ||| BitVec.ofNat 8 f }

/-! ### Demand (R147 to R150) -/

/-- Subinterval count K of a BIL_DEM_CFG value. -/
def demK (cfg : Nat) : Nat := max 1 (bitsOf cfg 15 8)

/-- Demand quantity of a BIL_DEM_CFG value. -/
def demQ (cfg : Nat) : Nat := bitsOf cfg 26 24

/-- Length in µs of the spans that close: intervals, or subintervals when K > 1. -/
def demSpan (cfg : Nat) : Nat := demL cfg / demK cfg

/-- Status bits of R148, R150. -/
def stIncomplete : Nat := 1
def stMarked : Nat := 2
def stHeld : Nat := 4
def stSetback : Nat := 8

/-- The state with a point's billing part replaced. -/
def State.setBill (s : State) (n : Fin 8) (p : PointBill) : State :=
  { s with bil := { s.bil with points := s.bil.points.set n p } }

/-- The open interval that a quantum at device time `t` belongs to, opened if none is. A written
configuration takes effect at the next interval boundary (R147, R148, R161). -/
def openDemand (d : Demand) (cfg nblocks q t : Nat) : Demand :=
  match d.start with
  | some _ => d
  | none =>
    let old := d.cfg.toNat
    let sub := epoch + (t - epoch) / demSpan old * demSpan old
    let inside := d.closedEnd == sub && (sub - epoch) % demL old != 0
    let cfg := if inside then old else cfg
    let subs := if cfg = old then d.subs else []
    let start := epoch + (t - epoch) / demSpan cfg * demSpan cfg
    let resumed := decide (t < d.closedEnd)
    { d with
      cfg := BitVec.ofNat 32 cfg, subs := subs, start := some (if resumed then t else start),
      end_ := if resumed then d.closedEnd else start + demSpan cfg, firstQ := q, sums := List.replicate nblocks 0,
      status := BitVec.ofNat 32 (if resumed || decide (start + 10000 ≤ t) then stIncomplete else 0) }

/-- A quantum's credits added to the open interval (R148). -/
def addDemand (d : Demand) (amt : List Nat) (ty held : Nat) (marked setback cleared : Bool) : Demand :=
  let st := d.status.toNat ||| (if marked then stMarked else 0) ||| (if setback then stSetback else 0) |||
    (if held.testBit (slotOf ty (demQ d.cfg.toNat)) then stHeld else 0) ||| (if cleared then stIncomplete else 0)
  { d with sums := List.zipWith (· + ·) d.sums amt, status := BitVec.ofNat 32 st }

/-- The open interval of a point whose type is now `ty`: the demand quantity of a new type has had no credit yet, and
a block beyond its N becomes block 0 (R142, R147, R148). -/
def Demand.ofType (d : Demand) (ty : Nat) : Demand :=
  if qtyCodes d.ty = qtyCodes ty then { d with ty := ty }
  else
    let n := (qtyCodes ty).length
    let cfg := if n ≤ demQ d.cfg.toNat then putBits d.cfg.toNat 26 24 0 else d.cfg.toNat
    { d with ty := ty, sums := List.replicate n 0, cfg := BitVec.ofNat 32 cfg }

/-- A point's part of step 1 of R156. -/
def State.creditOne (s : State) (rec : QRec) (np : Nat × PBlock) : State :=
  let n : Fin 8 := Fin.ofNat 8 np.1
  let blk := np.2
  let marked := markedQ rec.flags blk.fluid
  let p := creditPoint s.bil.points[n] blk s.bil.rate marked s.setback (rec.flags.toNat.testBit 5)
  let held := blk.marks.toNat / 16
  let d := openDemand (p.demand.ofType blk.type_) (s.reg (R.BIL_DEM_CFG n.val)) (qtyCodes blk.type_).length rec.q (s.stamp rec.q)
  let cleared := s.bil.cleared.any (fun c => c.1 == rec.q && c.2.toNat.testBit n.val && decide (d.firstQ < rec.q))
  let d := addDemand d (amounts blk.type_ blk.slots held) blk.type_ held marked s.setback cleared
  s.setBill n { p with demand := d }

/-- Step 1 of R156: credit a resolved quantum. -/
def State.credit (s : State) (rec : QRec) : State :=
  rec.blocks.foldl (fun s np => s.creditOne rec np) { s with bil := { s.bil with rateQ := s.bil.rate } }

/-- A packet for the Boathouse writer, offered to the fabric as well (R150, R296). -/
def State.toStore (s : State) (kind point : Nat) (bytes : List Byte) : State :=
  let p : StorePkt := ⟨kind, point, bytes⟩
  let s : State := { s with bil := { s.bil with store := s.bil.store ++ [p] } }
  s.offerReport kind (Fin.ofNat 8 point) bytes

/-- A profile entry (R150). -/
def profileEntry (start status q : Nat) (sums : List Nat) : List Byte :=
  let rest := natLE 8 q ++ (sums.map (fun x => natLE 8 (x / 65536))).flatten
  let crc := crc32 (natLE 8 start ++ natLE 4 status ++ zeros 4 ++ rest)
  natLE 8 start ++ natLE 4 status ++ natLE 4 crc ++ rest

/-- A point's open interval or subinterval closes under a rate (R148 to R150). -/
def State.closeDemand (s : State) (n : Fin 8) (incomplete : Bool) (rate : Nat) : State :=
  let p := s.bil.points[n]
  let d := p.demand
  match d.start with
  | none => s
  | some start =>
    let cfg := d.cfg.toNat
    let k := demK cfg
    let st := if incomplete then d.status.toNat ||| stIncomplete else d.status.toNat
    let subs := (⟨nth d.sums (demQ cfg) 0, BitVec.ofNat 32 st, start⟩ :: d.subs).take k
    let common := s.quality <<< 4 + rate <<< 8 + n.val <<< 12
    let win := subs.foldl (fun a x => a ||| x.status.toNat) 0 ||| (if subs.length < k then stIncomplete else 0)
    let value := (subs.map SubInt.sum).sum / 65536
    let status := win + common
    let first := match subs.getLast? with
      | some x => x.start
      | none => start
    let r := Fin.ofNat 16 rate
    let md := if win.testBit 0 = false ∧ p.maxDem[r].value.toNat < value then
        p.maxDem.set r ⟨BitVec.ofNat 32 (sat 32 value), BitVec.ofNat 32 status, BitVec.ofNat 64 first⟩
      else p.maxDem
    let prof := cfg.testBit 4
    let s := s.setBill n { p with maxDem := md, demand :=
      { d with start := none, subs := subs, closedEnd := max d.closedEnd d.end_ } }
    let s := (s.setSat (F.BIL_DEM_LAST_VALUE n.val) value).set (F.BIL_DEM_STAT_STATUS n.val) status
    let s := s.raise { src := 49, point := n.val }
    if prof then s.toStore 2 n.val (profileEntry start (st + common) d.firstQ d.sums) else s

/-- Step 3 of R156: the intervals that end at or before the next quantum's start close. -/
def State.closeDemands (s : State) (t1 : Nat) : State :=
  points.foldl (fun s n =>
    if s.bil.points[n].demand.start.isSome ∧ s.bil.points[n].demand.end_ ≤ t1 then s.closeDemand n false s.bil.rate
    else s) s

/-! ### Steps and set-back runs (R161, R162) -/

/-- A set-back run begins or ends (R162). -/
def State.setSetback (s : State) (on : Bool) : State :=
  let s := s.set F.BIL_TIME_STATUS_SETBACK on.toNat
  (s.log { type_ := 0x0014, sub := (!on).toNat, payload := natLE 8 s.lastClose }).raise { src := 55 }

/-- Step 2 of R156: a time step that takes effect at a quantum's start closes the open intervals as
INCOMPLETE (R161); a backward one below C_last starts a set-back run, which ends at C_last (R162). -/
def State.applySteps (s : State) (q1 t1 : Nat) : State :=
  let mine := s.bil.stepped.filter (fun x => decide (x.1 ≤ q1))
  let s := { s with bil := { s.bil with stepped := s.bil.stepped.filter (fun x => decide (q1 < x.1)) } }
  let s := if mine = [] then s else points.foldl (fun s n => s.closeDemand n true s.bil.rateQ) s
  let back := decide ((mine.map (fun x => x.2)).sum < 0)
  if back && decide (t1 < s.lastClose) && !s.setback then s.setSetback true
  else if s.setback && decide (s.lastClose ≤ t1) then s.setSetback false
  else s

/-! ### Billing periods (R151) -/

/-- A reading wanted at the resolution of a quantum (R163). -/
def State.wantReading (s : State) (reason : Byte) (n : Fin 8) (qr : Nat) (cmd : Option Desc) : State :=
  { s with bil := { s.bil with wanted := s.bil.wanted ++ [⟨reason, n, qr, cmd⟩] } }

/-- One data-port sequence count advanced by an update (R136, R172). -/
def State.bumpSeq (s : State) (k : Nat) : State :=
  { s with bil := { s.bil with seqs := s.bil.seqs.set k (nth s.bil.seqs k 0 + 2) } }

/-- The billing period closes at the start of a quantum at device time `t1`; `q` is the newest resolved
quantum (R151). -/
def State.closePeriod (s : State) (q t1 : Nat) : State :=
  let s := s.set64 R.BIL_LASTCLOSE_LO t1
  let prev := s.bil.points.map (fun p => (p.blocks, p.maxDem))
  let points' := s.bil.points.map (fun p => { p with maxDem := Vector.replicate 16 ⟨0, 0, 0⟩ })
  let s := { s with bil := { s.bil with prev := prev, points := points' } }
  let s := (s.bumpSeq 1).set F.BIL_PERIOD_NO_NUMBER (s.get F.BIL_PERIOD_NO_NUMBER + 1)
  let s := (points.filter (fun n => s.type_ n != 0)).foldl (fun s n => s.wantReading 0x03 n q none) s
  let s := s.log { type_ := 0x0040, payload := natLE 8 (s.get F.BIL_PERIOD_NO_NUMBER) ++ natLE 8 t1 }
  s.raise { src := 50 }

/-- Step 4 of R156: the period closes when its boundary, or a close-period command's, is the next quantum's
start. -/
def State.periodStep (s : State) (q t0 t1 : Nat) : State :=
  let cmds := s.bil.closePend.filter (fun c => decide (c.2 ≤ q + 1))
  let due := s.get F.BIL_PERIOD_CFG_MODE == 1 &&
    (match periodBoundary s.bil.tariff (s.get F.BIL_PERIOD_CFG_DAY) (s.get F.BIL_PERIOD_CFG_HOUR) (t1 : Int) with
     | some b => decide ((t0 : Int) < b) && decide ((s.lastClose : Int) < b)
     | none => false)
  if cmds = [] ∧ due = false then s
  else
    let s := s.closePeriod q t1
    let s := { s with bil := { s.bil with closePend := s.bil.closePend.filter (fun c => decide (q + 1 < c.2)) } }
    cmds.foldl (fun s c => s.ok c.1 (natLE 4 (s.get F.BIL_PERIOD_NO_NUMBER))) s

/-! ### The rate in force (R154, R155) -/

/-- BIL_RATE_NOW: the rate in force for each point with a type. -/
def State.showRate (s : State) : State :=
  s.set F.BIL_RATE_NOW_RATE ((points.map (fun n => if s.type_ n = 0 then 0 else s.bil.rate <<< (4 * n.val))).sum)

/-- Whether a demand, subinterval or period boundary lies within `w` µs of a device time. -/
def State.billBoundaryNear (s : State) (t w : Nat) : Bool :=
  (points.any (fun n => s.type_ n != 0 &&
    (let l := demSpan (s.bil.points[n].demand.cfg.toNat)
     decide ((t - epoch) % l ≤ w) || decide (l ≤ (t - epoch) % l + w)))) ||
  (s.get F.BIL_PERIOD_CFG_MODE == 1 &&
    (match periodBoundary s.bil.tariff (s.get F.BIL_PERIOD_CFG_DAY) (s.get F.BIL_PERIOD_CFG_HOUR) ((t + w : Nat) : Int) with
     | some b => decide ((t : Int) - (w : Int) ≤ b)
     | none => false))

/-- AP's next tariff boundary in BIL_NEXT_BOUND (R154). -/
def State.nextBound (s : State) : State :=
  s.set64 R.BIL_NEXT_BOUND_LO (match nextBoundary s.bil.tariff (s.devTime : Int) with
    | some b => b.toNat
    | none => 2 ^ 64 - 1)

/-- Step 5 of R156: the next quantum's rate committed, and whether a branch pair is open for the quantum after
it (R155). -/
def State.commitRate (s : State) (q1 t1 : Nat) : State :=
  let s : State := match s.bil.tariffPend with
    | some p => if p.1 ≤ q1 then { s with bil := { s.bil with tariff := some p.2, tariffPend := none } } else s
    | none => s
  let plain := s.quality == 2 || s.setback
  let rate := if plain then defaultRate s.bil.tariff else rateAt s.bil.tariff (t1 : Int)
  let near := !plain && (boundaryNear s.bil.tariff ((t1 + 10000 : Nat) : Int) 2020000 || s.billBoundaryNear (t1 + 10000) 2020000 ||
    s.time.stepPend.isSome)
  let s := s.set F.BIL_TIME_STATUS_BRANCH_OPEN near.toNat
  let at_ := rate != s.bil.rate
  let s := { s with bil := { s.bil with rate := rate, switchedAt := if at_ then some s.time.now else s.bil.switchedAt } }
  let s := s.showRate
  let s := if at_ then s.raise { src := 48 } else s
  if s.running .ap && decide (s.get64 R.BIL_NEXT_BOUND_LO ≤ t1) then s.nextBound else s

/-! ### Readings (R163 to R165) -/

/-- A quantity block of a reading (R165). -/
def blockBytes (code : Nat) (b : Block) : List Byte :=
  natLE 1 code ++ zeros 1 ++ natLE 2 b.residue.toNat ++ zeros 4 ++ natLE 8 b.total.toNat ++ natLE 8 b.marked.toNat ++
    (b.rates.toList.map (fun r => natLE 8 r.toNat)).flatten

/-- Session number for a reading: a session's own readings carry it always, another reading 0 outside a
session (R164, R177). -/
def State.readSession (s : State) (reason : Byte) (n : Fin 8) : Nat :=
  if reason = 1 ∨ reason = 2 ∨ (2 ≤ s.sess n ∧ s.sess n ≤ 6) then s.get (F.TPT_SESSION_NUMBER n.val) else 0

/-- The signed bytes of a reading (R164); `rate` and `q` are those of q_r. -/
def State.readingBody (s : State) (r : ReadReq) (seq q rate : Nat) : List Byte :=
  let n := r.point
  let ty := s.type_ n
  let p := s.bil.points[n]
  let head := match s.bil.log with
    | h :: _ => (sha256 h).take 16
    | [] => zeros 16
  natLE 4 0x47445252 ++ natLE 2 1 ++ [r.reason] ++ natLE 1 (n.val + 16 * ty) ++ natLE 6 s.identity ++
    natLE 2 (s.get F.MET_CAL_ID_SET_NO) ++ natLE 8 seq ++ natLE 8 q ++ natLE 8 (s.stamp q) ++ natLE 1 s.quality ++
    natLE 1 rate ++ natLE 1 (qtyCodes ty).length ++ [p.flags] ++ natLE 4 (s.readSession r.reason n) ++
    natLE 2 (s.get F.BIL_TAR_ID_STRUCT_NO) ++ natLE 2 (s.get F.BIL_LOG_STATUS_USED) ++ zeros 4 ++ head ++
    ((qtyCodes ty).map (fun c => blockBytes c.val p.blocks[c])).flatten ++ s.readingKid ++ zeros 4

/-- Total of a point's first quantity block. -/
def State.total0 (s : State) (n : Fin 8) : Nat :=
  match qtyCodes (s.type_ n) with
  | c :: _ => s.bil.points[n].blocks[c].total.toNat
  | [] => 0

/-- A reading taken: its record goes to the signer, and a session reading's total to its session (R163). -/
def State.buildReading (s : State) (r : ReadReq) (q rate : Nat) : State :=
  let seq := s.get64 R.BIL_RDG_SEQ_LO + 1
  let s := s.set64 R.BIL_RDG_SEQ_LO seq
  let body := s.readingBody r seq q rate
  let s := s.setBill r.point { s.bil.points[r.point] with flags := 0 }
  let total := s.total0 r.point
  let x := s.tpt.sess[r.point]
  let x := if r.reason = 1 then { x with startTaken := true, startTotal := BitVec.ofNat 64 total }
    else if r.reason = 2 then { x with endTotal := BitVec.ofNat 64 total } else x
  { s with bil := { s.bil with signing := s.bil.signing ++ [(r, body)], lastRead := s.bil.lastRead.set r.point (seq, total) },
           tpt := { s.tpt with sess := s.tpt.sess.set r.point x } }

/-- The readings whose quantum is resolved are taken, oldest request first. -/
def State.takeReadings (s : State) (q rate : Nat) : State :=
  let due := s.bil.wanted.filter (fun r => decide (r.qr ≤ q))
  let s := { s with bil := { s.bil with wanted := s.bil.wanted.filter (fun r => decide (q < r.qr)) } }
  due.foldl (fun s r => s.buildReading r q rate) s

/-- A reading requested at a quantum: taken at once if that quantum is resolved, else at its resolution. -/
def State.requestReading (s : State) (reason : Byte) (n : Fin 8) (qr : Nat) (cmd : Option Desc) : State :=
  if qr ≤ s.resolved then s.buildReading ⟨reason, n, qr, cmd⟩ s.resolved s.bil.rateQ
  else s.wantReading reason n qr cmd

/-! ### The order of R156 -/

/-- Steps 1 to 5 of R156 at the resolution of a quantum, and the readings that name it. -/
def State.bill (s : State) (rec : QRec) : State :=
  let q := rec.q
  let t0 := s.stamp q
  let t1 := s.stamp (q + 1)
  let rate := s.bil.rate
  let s := (s.credit rec).bumpSeq 0
  let s := s.applySteps (q + 1) t1
  let s := s.closeDemands t1
  let s := s.periodStep q t0 t1
  let s := s.commitRate (q + 1) t1
  let s := { s with bil := { s.bil with cleared := s.bil.cleared.filter (fun c => decide (q < c.1)) } }
  s.takeReadings q rate

/-! ### Commands of the host -/

/-- Checks 5 to 10 of a calibration set (R60, R61): the number of the first that fails. -/
def State.calBad (s : State) (b : List Byte) : Option Nat :=
  let entry := fun i => slice b (16 + 12 * i) 12
  let ok := fun (e : List Byte) =>
    decide (0x20000000 ≤ fld e 0 4) && decide (fld e 0 4 ≤ 0x60000000) && decide (-65536 ≤ sfld e 4 4) &&
    decide (sfld e 4 4 ≤ 65536) && decide (-20000 ≤ sfld e 8 2) && decide (sfld e 8 2 ≤ 20000) && fld e 10 2 == 0
  (firstFail [(fld b 0 4 == 0x4C434D4D, 5, 0), (fld b 6 2 == 1, 6, 0), (fld b 8 2 == 576, 7, 0),
    (fld b 6928 4 == crc32 (b.take 6928), 8, 0), (decide (s.get F.MET_CAL_ID_SET_NO < fld b 4 2), 9, 0),
    (fld b 10 6 == 0 && (List.range 576).all (fun i => ok (entry i)), 10, 0)]).map (fun x => x.1)

/-- Command 0x0204: load a calibration set (R61). -/
def execLoadCalibrationSet (d : Desc) (s : State) : Host.Outcome State Fault Refusal :=
  .next (s.command d { opcode := 0x0204, priv := some 2, isl := .vl, staged := .len 6932 6932 false, load := true } []
    (fun s =>
      let b := s.staged d
      match firstFail (s.limitedChecks F.KEY_CHG_LEFT_CAL ++ [(s.noTransfer, 0x0007, 5)]) with
      | some (st, det) => s.complete d st det []
      | none =>
        match s.calBad b with
        | some k => s.complete d 0x0008 k []
        | none => s.limited d F.KEY_CHG_LEFT_CAL (fun s =>
            let left := s.get F.KEY_CHG_LEFT_CAL
            let old := s.get F.MET_CAL_ID_SET_NO
            let s := { s with met := { s.met with calPend := some b } }
            let s := (s.set F.MET_CAL_ID_SET_NO (fld b 4 2)).set F.MET_CAL_CRC_CRC (fld b 6928 4)
            let pay := natLE 2 old ++ natLE 2 (fld b 4 2) ++ natLE 4 (fld b 6928 4) ++ natLE 1 left
            let s := s.log { type_ := 0x0030, src := d.logSrc, payload := pay }
            (s.raise { src := 123 }).ok d (natLE 1 left))))

/-- Checks 5 to 11 of a tariff structure (R152): the number of the first that fails. -/
def State.tariffBad (s : State) (b : List Byte) : Option Nat :=
  let m := fld b 8 2
  let es := calEntries (some b)
  (firstFail [(fld b 0 4 == 0x54465253, 5, 0), (fld b 6 2 == 1, 6, 0),
    (decide (1 ≤ m) && decide (m ≤ 1024) && b.length == 404 + 16 * m, 7, 0),
    (fld b (400 + 16 * m) 4 == crc32 (b.take (400 + 16 * m)), 8, 0),
    (decide (s.get F.BIL_TAR_ID_STRUCT_NO < fld b 4 2), 9, 0), (headOk b && es.all entryOk, 10, 0),
    (spaced (es.filter (fun e => fld e 0 1 == 1)), 11, 0)]).map (fun x => x.1)

/-- Command 0x0205: load a tariff structure (R152). -/
def execLoadTariffStructure (d : Desc) (s : State) : Host.Outcome State Fault Refusal :=
  .next (s.command d { opcode := 0x0205, priv := some 2, isl := .vl, staged := .len 0 0x80000 false, load := true } []
    (fun s =>
      let b := s.staged d
      match firstFail (s.limitedChecks F.KEY_CHG_LEFT_TARIFF ++ [(s.noTransfer, 0x0007, 5)]) with
      | some (st, det) => s.complete d st det []
      | none =>
        match s.tariffBad b with
        | some k => s.complete d 0x0008 k []
        | none => s.limited d F.KEY_CHG_LEFT_TARIFF (fun s =>
            let left := s.get F.KEY_CHG_LEFT_TARIFF
            let old := s.get F.BIL_TAR_ID_STRUCT_NO
            let n := 400 + 16 * fld b 8 2
            let s := { s with bil := { s.bil with tariffPend := some (s.time.quantum + 1, b) } }
            let s := (s.set F.BIL_TAR_ID_STRUCT_NO (fld b 4 2)).set F.BIL_TAR_ID_DEFAULT_RATE (fld b 10 1)
            let s := s.bumpSeq 2
            let pay := natLE 2 old ++ natLE 2 (fld b 4 2) ++ natLE 4 (fld b n 4) ++ natLE 1 left
            let s := s.log { type_ := 0x0031, src := d.logSrc, payload := pay }
            let s := (s.raise { src := 59 }).raise { src := 123 }
            let s := if s.running .ap then
                s.set64 R.BIL_NEXT_BOUND_LO (match nextBoundary (some b) (s.devTime : Int) with
                  | some t => t.toNat
                  | none => 2 ^ 64 - 1)
              else s
            s.ok d (natLE 1 left))))

/-- Command 0x0203: close the billing period at the next quantum boundary (R151). -/
def execCloseBillingPeriod (d : Desc) (s : State) : Host.Outcome State Fault Refusal :=
  .next (s.command d { opcode := 0x0203, priv := some 1, isl := .vl } [] (fun s =>
    { s with bil := { s.bil with closePend := s.bil.closePend ++ [(d, s.time.quantum + 1)] } }))

/-- Command 0x0202: take a reading at the next resolution (R163, R266). -/
def execTakeReading (d : Desc) (s : State) : Host.Outcome State Fault Refusal :=
  let c : CmdSpec := { opcode := 0x0202, priv := some 0, isl := .vl, point := true, params := [(24, 1)] }
  let reason := d.n 24 1
  .next (match s.cmdFail d c (if reason = 5 then [0, 2] else [0]) [(24, reason != 4 && reason != 5)] with
    | some (st, det) => s.complete d st det []
    | none =>
      if reason = 5 ∧ s.sealOpen = false then s.complete d 0x0004 0 []
      else s.wantReading (BitVec.ofNat 8 reason) d.pt (s.resolved + 1) (some d))

/-! ### Time corrections (R159, R160) -/

/-- A step accepted: it takes effect at the next quantum boundary, where its entry names the device times
before and after it (R15, R160). -/
def State.acceptStep (s : State) (d : Desc) (size : Int) (slot : Nat) (timeSet : Bool) : State :=
  let next : Int := (s.time.qStart : Int) + 10000
  let s := { s with time := { s.time with stepPend := some (size, timeSet), slewLeft := 0, slewTotal := 0 } }
  let s := s.set F.BIL_TIME_STATUS_SLEWING 0
  let s := if s.quality = 2 ∨ s.setback = true then s else s.set F.BIL_TIME_STATUS_BRANCH_OPEN 1
  let pay := natLE 8 next.toNat ++ natLE 8 (next + size).toNat ++ natLE 2 slot
  let s := s.log { type_ := 0x0010, src := d.logSrc, q := some (s.time.quantum + 1), payload := pay }
  let s := s.raise { src := 52 }
  if s.running .ap then s.nextBound else s

/-- A correction refused, with EV053 (R160, R170). -/
def State.refuseTime (s : State) (d : Desc) (st det : Nat) : State := (s.raise { src := 53 }).complete d st det []

/-- Command 0x0501: time correction (R160). -/
def execTimeCorrection (d : Desc) (s : State) : Host.Outcome State Fault Refusal :=
  .next (s.command d { opcode := 0x0501, priv := some 1, isl := .vl, params := [(24, 8), (32, 2), (40, 16)] } []
    (fun s =>
      let x := sfld d.bytes 24 8
      let slot := d.n 32 2
      let small := decide (x.natAbs ≤ 2000000)
      if s.time.stepPend.isSome then s.refuseTime d 0x0007 0
      else
        let auth : Option State := if small = true ∧ slot = 0xFFFF then some s
          else s.checkTag slot (d.bytes.take 40) (slice d.bytes 40 16)
        match auth with
        | none => s.refuseTime d 0x0009 0
        | some s =>
          if s.logRefusing then s.refuseTime d 0x0006 0
          else if small then
            let s := { s with time := { s.time with slewLeft := x, slewTotal := x } }
            let s := s.set F.BIL_TIME_STATUS_SLEWING (x != 0).toNat
            let s := s.log { type_ := 0x0011, src := d.logSrc, payload := natLE 8 (ofSigned 64 x) ++ natLE 4 x.natAbs }
            let s := s.raise { src := 52 }
            let s := if s.running .ap then s.nextBound else s
            s.ok d (natLE 1 0)
          else (s.acceptStep d x slot false).ok d (natLE 1 1)))

/-- A synchronisation (R159): time quality 2 is left by an authenticated time set only, at the boundary where the
set takes effect. -/
def State.synced (s : State) (authentic : Bool) : State :=
  let s := { s with time := { s.time with lastSync := some s.time.now } }
  if s.quality = 2 ∧ authentic = false then s else s.setQuality 0

/-- Command 0x0502: time set (R159, R160). -/
def execTimeSet (d : Desc) (s : State) : Host.Outcome State Fault Refusal :=
  .next (s.command d { opcode := 0x0502, priv := some 1, isl := .vl, params := [(24, 8), (32, 2), (40, 16)] } []
    (fun s =>
      let slot := d.n 32 2
      if s.time.stepPend.isSome then s.refuseTime d 0x0007 0
      else match s.checkTag slot (d.bytes.take 40) (slice d.bytes 40 16) with
        | none => s.refuseTime d 0x0009 0
        | some s =>
          if s.logRefusing then s.refuseTime d 0x0006 0
          else
            (s.acceptStep d ((d.n 24 8 : Int) - (s.devTime : Int)) slot true).ok d []))

/-- A slew has used up its correction (R160). -/
def execSlewComplete (s : State) : Host.Outcome State Fault Refusal :=
  if s.time.slewLeft ≠ 0 then .next s
  else .next ({ s with time := { s.time with slewTotal := 0 } }.set F.BIL_TIME_STATUS_SLEWING 0)

/-- Year and month of device time as one number. -/
def monthOf (t : Nat) : Nat :=
  let c := civil ((t : Int) / dayUs)
  (c.1 * 12 + (c.2.1 : Int)).toNat

/-- A calendar month of device time has passed: the servo's summed correction is logged as a fact (R160). -/
def execServoMonth (s : State) : Host.Outcome State Fault Refusal :=
  let m := monthOf s.devTime
  if s.running .vl = false ∨ m = s.bil.servoMonth then .next s
  else
    let sum := toSigned 32 (s.reg R.BIL_SERVO_SUM)
    let s := s.log { type_ := 0x0012, payload := natLE 8 (ofSigned 64 sum) }
    .next ({ s with bil := { s.bil with servoMonth := m } }.setReg R.BIL_SERVO_SUM 0)

/-- No synchronisation within SYNC_MAX hours turns quality 0 into 1 (R159). -/
def execTimeQualityExpiry (s : State) : Host.Outcome State Fault Refusal :=
  if s.running .vl = false ∨ s.quality ≠ 0 then .next s else .next (s.setQuality 1)

/-- Fabric time has differed from device time by more than 2 s for 60 s (R159). -/
def execFabricTimeMismatch (s : State) : Host.Outcome State Fault Refusal :=
  if s.running .vl = false ∨ s.fab.ptp.apart = none then .next s else .next (s.setQuality 2)

/-! ### The Boathouse writer (R150, R163, R180) -/

/-- Size of a store's ring: profile rings hold 4 MiB each, the collector store 16 MiB (R150, R301). -/
def ringSize (kind : Nat) : Nat :=
  if kind = 2 then 0x400000 else if kind = 4 then 0x1000000 else Config.storeSize kind

/-- Key of a store's write position: profile rings have one for each point. -/
def storeKey (kind point : Nat) : Nat := if kind = 2 then 16 + point else kind

/-- Boathouse offset of a store's ring. -/
def ringAt (kind point : Nat) : Nat := Config.storeBase kind + (if kind = 2 then 0x400000 * point else 0)

/-- Position at which a store writes an entry of so many bytes: the oldest entries are overwritten. -/
def State.storePos (s : State) (kind point len : Nat) : Nat :=
  let pos := (s.bil.storeAt.lookup (storeKey kind point)).getD 0
  if ringSize kind < pos + len then 0 else pos

/-- An entry written to its store; the position at which it lies. -/
def State.writeStore (s : State) (p : StorePkt) : State :=
  let pos := s.storePos p.kind p.point p.bytes.length
  let k := storeKey p.kind p.point
  let keep := s.bil.storeAt.filter (fun x => x.1 != k && x.1 != k + 100)
  let s := { s with bil := { s.bil with storeAt := (k, pos + p.bytes.length) :: (k + 100, pos) :: keep } }
  s.store (boathouseBase + ringAt p.kind p.point + pos) p.bytes

/-- AP writes the oldest waiting entry to Boathouse (R150). -/
def execStoreEntryWrite (s : State) : Host.Outcome State Fault Refusal :=
  match s.bil.store with
  | [] => .next s
  | p :: rest =>
    if s.running .ap = false then .next s
    else .next ({ s with bil := { s.bil with store := rest } }.writeStore p)

/-- Offset of the newest entry of a store. -/
def State.storeNewest (s : State) (kind point : Nat) : Nat :=
  (s.bil.storeAt.lookup (storeKey kind point + 100)).getD (Config.storeEmpty kind)

/-- Command 0x0601: location of a non-legal store (R266). -/
def execLocateStore (d : Desc) (s : State) : Host.Outcome State Fault Refusal :=
  let k := d.n 24 1
  .next (s.command d { opcode := 0x0601, priv := some 0, isl := .ap, point := decide (k = 2), params := [(24, 1)] }
    [(24, decide (3 < k))] (fun s =>
      s.ok d (natLE 8 (boathouseBase + ringAt k d.pt.val) ++ natLE 4 (ringSize k) ++
        natLE 4 (s.storeNewest k d.pt.val))))

end Sys2Proof.Machine
end

