-- ==== Sys2Proof/Machine/Display.lean ====
section
/-! DEFINITION. The legal display port: panel frames, rails, fast discharge, common toggles, ageing
compensation, passes over dirty lines, the legal field and its commands (R365 to R380). -/

namespace Sys2Proof.Machine

/-- The state with the display's part changed. -/
def State.modLdp (s : State) (f : LdpS → LdpS) : State := { s with ldp := f s.ldp }

/-- RAIL of LDP_STATUS: 0 off, 1 powering on, 2 on, 3 powering off. -/
def State.rail (s : State) : Nat := s.get F.LDP_STATUS_RAIL

/-- Bytes of a panel line (R365). -/
def State.lineBytes (s : State) : Nat := s.get F.LDP_GEOM_WIDTH * (s.get F.LDP_GEOM_BPP + 1) / 8

/-- Lines of the panel. -/
def State.panelLines (s : State) : List Nat := List.range (s.get F.LDP_GEOM_HEIGHT)

/-- Whether a line lies in the legal field (R375). -/
def State.legalLine (s : State) (l : Nat) : Bool :=
  let first := s.get F.LDP_LEGAL_LEG_FIRST
  decide (first ≤ l) && decide (l < first + s.get F.LDP_LEGAL_LEG_COUNT)

/-- Address of a line of the frame buffer, 100 bytes apart (log 7). -/
def frameLine (l : Nat) : Nat := frameBase + 100 * l

/-- Address of a line of the panel's own memory, as the module has written it (log 7). -/
def panelBase : Nat := frameBase + 0x10000
/-- Address of a line of it. -/
def panelLine (l : Nat) : Nat := panelBase + 100 * l

/-- A panel frame sent; none is started while LBUSY is high (R366). -/
def State.panel (s : State) (code : Byte) (data : List Byte) : State :=
  if s.ldp.lbusy then s else s.emit (.panel code data)

/-- Every line at level 0: All white, or the end of a fast discharge. -/
def State.panelWhite (s : State) : State :=
  { s with mem := s.mem.filter (fun c => decide (c.1 < panelBase) || decide (panelBase + 0x10000 ≤ c.1)) }

/-- A line written to the panel. -/
def State.writeLine (s : State) (l : Nat) (bytes : List Byte) : State :=
  let s := s.set F.LDP_STATUS_LINE l
  (s.panel 0x01 (natBE 2 l ++ bytes)).store (panelLine l) bytes

/-- Whether a line is in the pending bitmap. -/
def State.dirty (s : State) (l : Nat) : Bool := s.bit (F.LDP_DIRTY_PENDING (l / 32)) (l % 32)

/-- The state with a line put in the bitmap or taken from it; the bitmap has bits for 256 lines. -/
def State.setDirty (s : State) (l : Nat) (b : Bool) : State :=
  if 256 ≤ l then s else s.setBit (F.LDP_DIRTY_PENDING ((Fin.ofNat 8 (l / 32)).val)) (l % 32) b

/-- The lines of the pending bitmap, in increasing order. -/
def State.dirtyLines (s : State) : List Nat := s.panelLines.filter s.dirty

/-- A request for a line (R377): it stays in the running pass while its transfer has not begun, except a legal
line once the group's hold has begun; else it enters the pending bitmap. -/
def State.markLine (s : State) (l : Nat) : State :=
  match s.ldp.pass_ with
  | none => s.setDirty l true
  | some p =>
    if p.open_.contains l ∨ (p.legal.contains l = true ∧ s.flag F.LDP_STATUS_GROUP = false) then s
    else
      let s := s.setDirty l true
      if p.begun.contains l = true ∧ s.ldp.again.contains l = false then s.modLdp (fun x => { x with again := l :: x.again }) else s

/-- A request for several lines. -/
def State.markLines (s : State) (l : List Nat) : State := l.foldl (fun (s : State) x => s.markLine x) s

/-! ### The legal snapshot (R375, R378) -/

/-- The values of a legal page, from the legal registers (R378). -/
def State.pageValues (s : State) (page : Nat) : List Nat :=
  if page = 0 then
    [s.identity, leNat s.readingKid, s.get F.KEY_STATUS_SEAL_OPEN, s.get F.MET_CAL_ID_SET_NO, s.get F.BIL_TAR_ID_STRUCT_NO]
  else if page = 1 then
    [s.get F.KEY_LIFE_TAMPER_COUNT, s.get F.KEY_CHG_LEFT_TYPE, s.get F.KEY_CHG_LEFT_TARIFF, s.get F.KEY_CHG_LEFT_CAL,
     s.get F.KEY_CHG_LEFT_INTEG, s.get F.KEY_CHG_LEFT_IDENT, s.get F.KEY_CHG_LEFT_DBG, s.get F.BIL_LOG_STATUS_USED,
     s.get F.BIL_LOG_STATUS_OVERFLOW]
  else
    let n : Fin 8 := Fin.ofNat 8 (page - 2)
    let p := s.bil.points[n]
    let total := match qtyCodes (s.type_ n) with
      | c :: _ => p.blocks[c].total.toNat
      | [] => 0
    [n.val, s.type_ n, total, s.bil.rateQ, s.sess n, s.get F.BIL_TIME_STATUS_QUALITY, p.flags.toNat]

/-- The legal field's lines as E07 composes them for the page shown. -/
def State.composeLegal (s : State) : List (List Byte) :=
  let page := s.get F.LDP_STATUS_PAGE
  (List.range (s.get F.LDP_LEGAL_LEG_COUNT)).map (fun i =>
    padTo s.lineBytes (Config.glyphs page (s.get F.LDP_GEOM_WIDTH) (s.get F.LDP_GEOM_BPP) i (s.pageValues page) s.resolved))

/-- The snapshot that E07 takes at the resolution of a quantum that ends a second: differing legal lines are
marked (R375). -/
def State.legalSnapshot (s : State) : State :=
  if s.running .vl = false then s
  else
    let new := s.composeLegal
    let old := s.ldp.snap
    let s := s.modLdp (fun x => { x with snap := new })
    let diff := (List.range new.length).filter (fun i => decide (old[i]? ≠ new[i]?))
    s.markLines (diff.map (· + s.get F.LDP_LEGAL_LEG_FIRST))

/-! ### Passes (R376, R377) -/

/-- A common toggle issued: the drive phase inverts, and LBUSY goes high (R366, R371). -/
def State.toggle (s : State) : State :=
  let s := (s.panel 0x02 []).set F.LDP_STATUS_PHASE (1 - s.get F.LDP_STATUS_PHASE)
  s.modLdp (fun x => { x with toggleDue := false, lbusy := true })

/-- A rewritten line is counted when it is written again (R377). -/
def State.rewritten (s : State) (l : Nat) : State :=
  if s.ldp.again.contains l then
    (s.count F.LDP_CNT_REWRITES 1).modLdp (fun x => { x with again := x.again.filter (· != l) })
  else s

/-- The next transfer of the running pass begins: hold, a legal line of the held snapshot, release, or an open
line from the frame buffer (R376). -/
def State.nextTransfer (s : State) (p : Pass) : State :=
  let put := fun (s : State) (p : Pass) => s.modLdp (fun x => { x with pass_ := some p })
  let held := s.flag F.LDP_STATUS_GROUP
  match p.legal, p.open_ with
  | l :: rest, _ =>
    if held then
      let s := s.rewritten l
      let s := put s { p with legal := rest, at_ := 1, begun := l :: p.begun }
      s.writeLine l (nth s.ldp.shown (l - s.get F.LDP_LEGAL_LEG_FIRST) [])
    else
      let s := ((s.panel 0x03 []).set F.LDP_STATUS_GROUP 1).modLdp (fun x => { x with shown := x.snap })
      put s { p with at_ := 0 }
  | [], l =>
    if held then put (s.panel 0x04 []) { p with at_ := 2 }
    else match l with
      | x :: rest =>
        let s := s.rewritten x
        let s := put s { p with open_ := rest, at_ := 3, begun := x :: p.begun }
        s.writeLine x (memRead s.mem (frameLine x) s.lineBytes)
      | [] => put s { p with at_ := 4 }

/-- The interface goes on when it is free: a toggle that is due outside a group, else the pass. -/
def State.panelNext (s : State) : State :=
  let busy := match s.ldp.pass_ with
    | some p => p.at_ != 4
    | none => false
  if s.ldp.lbusy || busy then s
  else if s.ldp.toggleDue && !(s.flag F.LDP_STATUS_GROUP) then s.toggle
  else match s.ldp.pass_ with
    | some p => s.nextTransfer p
    | none => s

/-- Whether the interface writes lines: the rails on, or the last step of their power-on reached. -/
def State.panelReady (s : State) : Bool :=
  s.running .vl && !s.ldp.discharging && (s.rail == 2 || s.ldp.seq == some (true, 4))

/-- A pass takes the bitmap and clears it (R376). -/
def State.startPass (s : State) : State :=
  let l := s.dirtyLines
  if s.panelReady = false ∨ s.ldp.pass_.isSome = true ∨ l = [] then s
  else
    let p : Pass := ⟨l.filter s.legalLine, l.filter (fun x => !(s.legalLine x)), 4, []⟩
    let s := l.foldl (fun (s : State) x => s.setDirty x false) s
    let s := (s.set F.LDP_STATUS_PASS 1).count F.LDP_CNT_PASSES 1
    (s.modLdp (fun x => { x with pass_ := some p })).panelNext

/-- A pass starts. -/
def execDisplayPassStart (s : State) : Host.Outcome State Fault Refusal := .next s.startPass

/-- A line or command transfer ends, and the next begins; a release ends the group (R371, R376). -/
def execLineTransferComplete (s : State) : Host.Outcome State Fault Refusal :=
  .next (match s.ldp.pass_ with
    | none => s
    | some p =>
      if s.panelReady = false ∨ p.at_ = 4 then s
      else
        let s := if p.at_ = 2 then s.set F.LDP_STATUS_GROUP 0 else s
        (s.modLdp (fun x => { x with pass_ := some { p with at_ := 4 } })).panelNext)

/-- A pass that has written its lines ends, and the next starts at once if lines are pending (R377). -/
def execDisplayPassEnd (s : State) : Host.Outcome State Fault Refusal :=
  .next (match s.ldp.pass_ with
    | none => s
    | some p =>
      if p.at_ ≠ 4 ∨ p.legal ≠ [] ∨ p.open_ ≠ [] ∨ s.flag F.LDP_STATUS_GROUP = true then s
      else ((s.set F.LDP_STATUS_PASS 0).modLdp (fun x => { x with pass_ := none })).startPass)

/-- The panel's LBUSY falls low: the next frame may start (R366). -/
def execLbusyRelease (s : State) : Host.Outcome State Fault Refusal :=
  .next (s.modLdp (fun x => { x with lbusy := false })).panelNext

/-- Every COM_PER × 10 ms a common toggle is due; it waits for a transfer, a held group or LBUSY (R371, R372). -/
def execCommonToggle (s : State) : Host.Outcome State Fault Refusal :=
  .next (if s.running .vl = true ∧ s.rail = 2 ∧ s.ldp.discharging = false then
      (s.modLdp (fun x => { x with toggleDue := true })).panelNext
    else s)

/-! ### Rails (R368, R369) -/

/-- The running pass is dropped; its group is not released. -/
def State.dropPass (s : State) : State :=
  ((s.set F.LDP_STATUS_PASS 0).set F.LDP_STATUS_GROUP 0).modLdp (fun x => { x with pass_ := none, toggleDue := false })

/-- The power-on sequence begins (R369). -/
def State.railsOn (s : State) : State :=
  if s.rail ≠ 0 then s
  else
    let s := ((s.set F.LDP_STATUS_RAIL 1).set F.LDP_STATUS_RAIL_FAULT 0).set F.LDP_STATUS_PANEL_FAULT 0
    s.modLdp (fun x => { x with seq := some (true, 0), lbusy := false })

/-- The power-off sequence begins (R369). -/
def State.railsOff (s : State) : State :=
  if s.rail ≠ 2 then s
  else (s.set F.LDP_STATUS_RAIL 3).modLdp (fun x => { x with seq := some (false, 0) })

/-- EN takes effect: at once, or when the sequence that is running ends (R369); the rails stay off until VFIELD is
present (R381). -/
def State.displayEn (s : State) (on : Bool) : State :=
  if s.ldp.seq.isSome || s.ldp.discharging || (on && s.flag F.LSW_STATUS_UV_OFF) then
    s.modLdp (fun x => { x with enNext := some on })
  else if on then s.railsOn else (s.modLdp (fun x => { x with enNext := none })).railsOff

/-- A sequence has ended: a write of EN that came meanwhile takes effect. -/
def State.seqDone (s : State) : State :=
  let next := s.ldp.enNext
  let s := s.modLdp (fun x => { x with seq := none, enNext := none })
  match next with
  | some on => s.displayEn on
  | none => s

/-- VFIELD is present again: a write of EN that waited for it takes effect (R381). -/
def State.displayAgain (s : State) : State :=
  match s.ldp.seq, s.ldp.discharging, s.ldp.enNext with
  | none, false, some on => (s.modLdp (fun x => { x with enNext := none })).displayEn on
  | _, _, _ => s

/-- A write of LDP_CTRL: DIV, COM_PER and LEG_DWELL within their ranges, else discarded with EV000; EN takes
effect under R369 and ends what DISCH records. -/
def State.writeLdpCtrl (s : State) (v : Nat) : State :=
  let div := bitsOf v 30 24
  let com := bitsOf v 14 8
  let dwell := bitsOf v 7 4
  if div < 4 ∨ 99 < div ∨ com < 1 ∨ 100 < com ∨ dwell < 2 ∨ 10 < dwell then s.raise { src := 0 }
  else
    let en := bitsOf v 31 31
    let s := (((s.set F.LDP_CTRL_EN en).set F.LDP_CTRL_DIV div).set F.LDP_CTRL_COM_PER com).set F.LDP_CTRL_LEG_DWELL dwell
    (s.set F.LDP_STATUS_DISCH 0).displayEn (en == 1)

/-- A host write to LDP_CTRL with EN 1, from which the power-on sequence runs (R369). -/
def execDisplayPowerOn (v : Word) (s : State) : Host.Outcome State Fault Refusal :=
  .next (s.guard R.LDP_CTRL 4 (fun s => s.writeLdpCtrl (putBits v.toNat 31 31 1)))

/-- A host write to LDP_CTRL with EN 0, from which the power-off sequence runs (R369). -/
def execDisplayPowerOff (v : Word) (s : State) : Host.Outcome State Fault Refusal :=
  .next (s.guard R.LDP_CTRL 4 (fun s => s.writeLdpCtrl (putBits v.toNat 31 31 0)))

/-- The trim with which the rails power on: the value last stored, else BASE (R374). -/
def State.firstTrim (s : State) : Int := s.ldp.trimStored.getD (toSigned 16 (s.get F.LDP_VCOM_BASE))

/-- A step of the power-on sequence: VGH, VSH and VSL, VCOM, then nLRST with All white and every line, at last
the rails on once the legal field has been written (R369). -/
def State.onStep (s : State) (n : Nat) : State :=
  let at_ := fun (s : State) (k : Nat) => s.modLdp (fun x => { x with seq := some (true, k) })
  if n = 0 ∨ n = 1 then at_ s (n + 1)
  else if n = 2 then (at_ s 3).set F.LDP_VCOM_NOW_TRIM (ofSigned 16 s.firstTrim)
  else if n = 3 then
    let s := (s.panel 0x05 []).panelWhite
    let s := at_ (s.modLdp (fun x => { x with snap := s.composeLegal })) 4
    s.markLines s.panelLines
  else if s.ldp.pass_.isSome = true ∨ s.dirtyLines.any s.legalLine = true then s
  else (s.set F.LDP_STATUS_RAIL 2).seqDone

/-- A step of the power-off sequence: All white and two toggles, VCOM with VSH and VSL, VGH, VGL, rails off
(R369). -/
def State.offStep (s : State) (n : Nat) : State :=
  if n = 0 then
    let s := (s.dropPass.panel 0x05 []).panelWhite
    ((s.panel 0x02 []).panel 0x02 []).modLdp (fun x => { x with seq := some (false, 1) })
  else if n < 4 then s.modLdp (fun x => { x with seq := some (false, n + 1) })
  else (s.set F.LDP_STATUS_RAIL 0).seqDone

/-- A timed step of a rail sequence is reached. -/
def execDisplaySequenceStep (s : State) : Host.Outcome State Fault Refusal :=
  .next (match s.running .vl, s.ldp.seq with
    | true, some (true, n) => s.onStep n
    | true, some (false, n) => s.offStep n
    | _, _ => s)

/-- The rails power off for a fault, and stay off until EN is written again. -/
def State.faultOff (s : State) : State := s.displayEn false

/-- LBUSY has stayed high for 5 ms (R367). -/
def execPanelFault (s : State) : Host.Outcome State Fault Refusal :=
  .next (if s.running .vl = true ∧ s.rail ≠ 0 then
      ((s.set F.LDP_STATUS_PANEL_FAULT 1).raise { src := 127 }).faultOff
    else s)

/-- A rail has been out of its limits for 1 ms (R368). -/
def execRailFault (s : State) : Host.Outcome State Fault Refusal :=
  .next (if s.running .vl = true ∧ s.rail ≠ 0 then
      ((s.set F.LDP_STATUS_RAIL_FAULT 1).raise { src := 125 }).faultOff
    else s)

/-- The fast discharge begins: LDIS high, the interface stops, a held group is discarded (R370). -/
def State.fastDischarge (s : State) : State :=
  s.dropPass.modLdp (fun x => { x with discharging := true, seq := none, enNext := none })

/-- VGL has risen above −1 V: the rails are off, the panel white, DISCH set, EV126 if VL runs (R370). -/
def execFastDischargeComplete (s : State) : Host.Outcome State Fault Refusal :=
  .next (
    let s := ((s.dropPass.panelWhite.set F.LDP_STATUS_RAIL 0).set F.LDP_STATUS_DISCH 1)
    let s := if s.running .vl then s.raise { src := 126 } else s
    (s.modLdp (fun x => { x with discharging := false })).seqDone)

/-- VL has restarted: the interface writes every line again (R372). -/
def State.displayRestart (s : State) : State :=
  if s.rail = 2 then s.dropPass.markLines s.panelLines else s

/-! ### Ageing compensation (R373, R374) -/

/-- Number of bands of 16 lines. -/
def State.bands (s : State) : Nat := (s.get F.LDP_GEOM_HEIGHT + 15) / 16

/-- Whether a line of a band holds a pixel at a level other than 0. -/
def State.bandDark (s : State) (b : Nat) : Bool :=
  (List.range 16).any (fun i =>
    decide (16 * b + i < s.get F.LDP_GEOM_HEIGHT) && (memRead s.mem (panelLine (16 * b + i)) s.lineBytes).any (· != 0))

/-- A second of device time has passed: the counters of the bands that are not white (R373). -/
def execStressCount (s : State) : Host.Outcome State Fault Refusal :=
  .next (if s.running .vl = true ∧ s.rail = 2 then
      ((List.finRange 15).filter (fun b => decide (b.val < s.bands) && s.bandDark b.val)).foldl
        (fun (s : State) b => s.count (F.LDP_STRESS_SECONDS b.val) 1) s
    else s)

/-- The counters and the applied trim are stored in eMRAM (R373, R374). -/
def State.storeStress (s : State) : State :=
  let c := (List.range 15).map (fun b => s.get (F.LDP_STRESS_SECONDS b))
  let trim := if s.rail = 2 then some (toSigned 16 (s.get F.LDP_VCOM_NOW_TRIM)) else s.ldp.trimStored
  s.modLdp (fun x => { x with stressStored := c, trimStored := trim })

/-- The stored counters restored at a start (R373). -/
def State.restoreStress (s : State) : State :=
  (List.finRange 15).foldl (fun (s : State) b => s.set (F.LDP_STRESS_SECONDS b.val) (nth s.ldp.stressStored b.val 0)) s

/-- The target trim in 10 mV (R374): rounded toward zero and clamped. -/
def State.targetTrim (s : State) : Int :=
  let sum := ((List.range s.bands).map (fun b => s.get (F.LDP_STRESS_SECONDS b))).sum
  let mean : Rat := (sum : Rat) / ((max 1 s.bands : Nat) : Rat)
  let mV : Rat := (toSigned 16 (s.get F.LDP_VCOM_BASE) : Rat) * 10 + (toSigned 16 (s.get F.LDP_VCOM_AGE_SLOPE) : Rat) * mean / 3600000
  let t := mV / 10
  let r := if 0 ≤ t then t.floor else t.ceil
  max (-250) (min 50 r)

/-- Once per hour the trim moves toward its target by at most 10 mV, and the counters are stored (R373, R374). -/
def execVcomTrimUpdate (s : State) : Host.Outcome State Fault Refusal :=
  .next (if s.running .vl = false then s
    else if s.rail ≠ 2 then s.storeStress
    else
      let now := toSigned 16 (s.get F.LDP_VCOM_NOW_TRIM)
      let t := s.targetTrim
      let next := if now < t then now + 1 else if t < now then now - 1 else now
      let s := s.set F.LDP_VCOM_NOW_TRIM (ofSigned 16 next)
      (if next = now then s else s.raise { src := 128 }).storeStress)

/-! ### Pages and commands (R378, R379) -/

/-- The page after another: 0, 1, then one for each point with a type. -/
def State.nextPage (s : State) (page : Nat) : Nat :=
  let pages := [0, 1] ++ (points.filter (fun n => s.type_ n != 0)).map (fun n => 2 + n.val)
  (pages.find? (fun x => decide (page < x))).getD 0

/-- LEG_DWELL seconds have passed: the next page, which the next snapshot composes. -/
def execLegalPageAdvance (s : State) : Host.Outcome State Fault Refusal :=
  .next (if s.running .vl then s.set F.LDP_STATUS_PAGE (s.nextPage (s.get F.LDP_STATUS_PAGE)) else s)

/-- Open lines written to the frame buffer, and marked while EN is 1 (R379). -/
def State.putOpen (s : State) (lines : List (Nat × List Byte)) : State :=
  let s := lines.foldl (fun (s : State) x => s.store (frameLine x.1) x.2) s
  if s.flag F.LDP_CTRL_EN then s.markLines (lines.map Prod.fst) else s

/-- Bytes cut into lines from a line number on. -/
def cutLines (n first : Nat) (bytes : List Byte) (count : Nat) : List (Nat × List Byte) :=
  (List.range count).map (fun i => (first + i, slice bytes (n * i) n))

/-- Command 0x0B01: write open lines; a range that reaches a legal line or lies beyond HEIGHT is refused. -/
def execWriteOpenLines (d : Desc) (s : State) : Host.Outcome State Fault Refusal :=
  let first := d.n 24 2
  let count := d.n 26 2
  let bad := decide (s.get F.LDP_GEOM_HEIGHT < first + count) || (List.range (min count 256)).any (fun i => s.legalLine (first + i))
  let len := count * s.lineBytes
  .next (s.command d { opcode := 0x0B01, priv := some 0, isl := .vl, params := [(24, 2), (26, 2)], staged := .len len len false, load := true }
    [(24, bad)] (fun s => (s.putOpen (cutLines s.lineBytes first (s.staged d) count)).ok d []))

/-- Address of a frame slot in the frame store (R379). -/
def frameSlot (n : Nat) : Nat := boathouseBase + Config.storeBase 5 + 24576 * n

/-- Command 0x0B02: store frame. -/
def execStoreFrame (d : Desc) (s : State) : Host.Outcome State Fault Refusal :=
  let len := s.get F.LDP_GEOM_HEIGHT * s.lineBytes
  .next (s.command d { opcode := 0x0B02, priv := some 0, isl := .vl, params := [(24, 2)], staged := .len len len false, load := true }
    [(24, decide (511 < d.n 24 2))] (fun s => (s.store (frameSlot (d.n 24 2)) (s.staged d)).ok d []))

/-- Command 0x0B03: show stored frame: its open lines are copied, its legal lines ignored. -/
def execShowStoredFrame (d : Desc) (s : State) : Host.Outcome State Fault Refusal :=
  .next (s.command d { opcode := 0x0B03, priv := some 0, isl := .vl, params := [(24, 2)] } [(24, decide (511 < d.n 24 2))]
    (fun s =>
      let n := s.lineBytes
      let bytes := memRead s.mem (frameSlot (d.n 24 2)) (n * s.get F.LDP_GEOM_HEIGHT)
      let lines := (cutLines n 0 bytes (s.get F.LDP_GEOM_HEIGHT)).filter (fun x => !(s.legalLine x.1))
      (s.putOpen lines).ok d []))

end Sys2Proof.Machine
end

