-- ==== Sys2Proof/Machine/HostRings.lean ====
section
/-! DEFINITION. Island HI: the link, the ring queues, their doorbells, the walker and the data-port registers
(chapter 9). -/

namespace Sys2Proof.Machine

/-! ### The link (R244, R245) -/

/-- The HI_ registers and the MSI-X table back at their reset values, HI_STATUS.PORT kept; every queue
disabled and its commands gone (R245). -/
def State.hiReset (s : State) : State :=
  let port := s.get F.HI_STATUS_PORT
  let s := { s with
    regs := s.regs.filter (fun r => blockOf r.1 != 1),
    host := { HostS.reset with
      linkGen := s.host.linkGen, evLast := s.host.evLast, linkChanged := true,
      inFlight := s.host.inFlight.filter Desc.remote, results := s.host.results.filter (fun r => r.desc.remote) } }
  s.set F.HI_STATUS_PORT port

/-- Link down, hot reset, function-level reset or D3hot (R245). -/
def execHostLinkReset (s : State) : Host.Outcome State Fault Refusal := .next (s.hiReset.noteReset 0x0B .hi)

/-- The link comes up at the generation and width negotiated, capped by GEN_CAP (R244); the change of link
state raises EV095 (R245). -/
def execHostLinkUp (gen width : BitVec 2) (s : State) : Host.Outcome State Fault Refusal :=
  let s := { s with host := { s.host with linkGen := gen.toNat, linkChanged := false } }
  let s := (s.set F.HI_STATUS_GEN (min gen.toNat (s.get F.HI_CTRL_GEN_CAP))).set F.HI_STATUS_WIDTH width.toNat
  .next (s.raise { src := 95 })

/-- A write of HI_CTRL: GEN_CAP 0 discards it; PRIV_LOCK freezes the PRIV fields until a reset that reaches
HI (R259); RETRAIN retrains the link under GEN_CAP, and clears when that is done (R9, R244). -/
def State.writeHiCtrl (s : State) (v : Nat) : State :=
  if bitsOf v 5 4 = 0 then s.discard
  else
    let s := s.set F.HI_CTRL_GEN_CAP (bitsOf v 5 4)
    let s := if v.testBit 0 then (s.set F.HI_CTRL_PRIV_LOCK 1).set F.HI_STATUS_PRIV_LOCKED 1 else s
    if v.testBit 6 ∧ s.get F.HI_STATUS_GEN ≠ 0 then
      s.set F.HI_STATUS_GEN (min s.host.linkGen (s.get F.HI_CTRL_GEN_CAP))
    else s

/-- A write of HI_CTRL with RETRAIN (R244). -/
def execLinkRetrain (v : Word) (s : State) : Host.Outcome State Fault Refusal :=
  .next (s.guard R.HI_CTRL 4 (fun s => s.writeHiCtrl v.toNat))

/-- A write of HI_CTRL with PRIV_LOCK (R259). -/
def execPrivLock (v : Word) (s : State) : Host.Outcome State Fault Refusal :=
  .next (s.guard R.HI_CTRL 4 (fun s => s.writeHiCtrl v.toNat))

/-! ### Enabling and disabling queues (R248) -/

/-- Entry size of a ring queue. -/
def ringEntry : RingQ → Nat
  | .sq _ => 64
  | _ => 32

/-- Smallest number of entries of a ring queue. -/
def ringLeast : RingQ → Nat
  | .eq _ => 16
  | _ => 2

/-- Whether a queue's configuration fields accept a write (R248). -/
def State.ringIdle (s : State) (q : RingQ) : Bool := s.get q.en == 0 && s.get q.stopped == 1

/-- Whether an enabled SQ is bound to CQ `n`. -/
def State.cqBound (s : State) (n : Fin 16) : Bool :=
  (List.finRange 16).any (fun k => s.get (F.HI_SQ_CFG_EN k.val) == 1 && s.get (F.HI_SQ_CFG_CQ k.val) == n.val)

/-- The configuration word that a write would leave: the PRIV field stays under the lock of R259. -/
def State.newCfg (s : State) (q : RingQ) (v : Nat) : Nat :=
  match q with
  | .sq n =>
    let keep := if s.get F.HI_CTRL_PRIV_LOCK = 1 then putBits v 30 26 (s.get (F.HI_SQ_CFG_PRIV n.val)) else v
    putBits keep 19 13 0
  | _ => v

/-- Whether a write would grant KEYADM to a second SQ (R259). -/
def State.secondKeyadm (s : State) (q : RingQ) (v : Nat) : Bool :=
  match q with
  | .sq n => v.testBit 29 &&
      (List.finRange 16).any (fun k => k != n && (s.get (F.HI_SQ_CFG_PRIV k.val)).testBit 3)
  | _ => false

/-- Whether a queue may be enabled with a configuration word: its size, the alignment and place of its ring
(R248) and, for an SQ, its CQ. -/
def State.mayEnable (s : State) (q : RingQ) (v : Nat) : Bool :=
  let size := bitsOf v 12 0
  let base := s.get64 q.off
  decide (ringLeast q ≤ size) && decide (size ≤ 4096) && base % ringEntry q == 0 &&
  (s.pcie || decide (base + size * ringEntry q ≤ 0x100000)) &&
  (match q with
   | .sq _ => s.get (F.HI_CQ_CFG_EN (bitsOf v 25 22)) == 1
   | _ => true)

/-- Whether a configuration word leaves a queue's fields other than EN as they are. -/
def State.sameCfg (s : State) (q : RingQ) (v : Nat) : Bool :=
  bitsOf (s.newCfg q v) 30 0 == bitsOf (s.reg (q.off + 8)) 30 0

/-- A write of EN = 1 to an idle queue (R248): indices 0, phase 1, no error. To an enabled queue a write that
changes no field is nothing (log 44). -/
def State.enableRing (s : State) (q : RingQ) (v : Nat) : State :=
  if s.get q.en = 1 ∧ s.sameCfg q v = true then s
  else
  let v := s.newCfg q v
  if s.ringIdle q = false ∨ s.secondKeyadm q v = true ∨ s.mayEnable q v = false then s.discard
  else
    let s := s.setReg (q.off + 8) v
    let s := s.set q.err 0
    let s := s.setReg (q.off + 12) 0
    s.setRing q { RingS.reset with seq := (s.ring q).seq }

/-- An SQ that is disabled and has no command left in flight sets STOPPED (R248). -/
def State.sqStop (s : State) (n : Fin 16) : State :=
  if s.get (F.HI_SQ_CFG_EN n.val) = 0 ∧ s.host.fetched[n] = [] ∧
      s.host.inFlight.all (fun d => d.src != .sq n) = true
  then s.set (F.HI_SQ_STATUS_STOPPED n.val) 1 else s

/-- A write of EN = 0 (R248): it stops an enabled queue when it leaves the other fields as they are, and is
discarded otherwise (log 44); to an idle queue it writes the configuration fields. -/
def State.disableRing (s : State) (q : RingQ) (v : Nat) : State :=
  if s.get q.en = 1 ∧ s.sameCfg q v = false then s.discard
  else if s.get q.en = 1 then
    match q with
    | .sq n => (s.set q.en 0).sqStop n
    | .cq n => if s.cqBound n then s.discard else (s.set q.en 0).set q.stopped 1
    | .eq _ => (s.set q.en 0).set q.stopped 1
  else
    let v' := s.newCfg q v
    if s.ringIdle q = false then (if s.sameCfg q v then s else s.discard)
    else if s.secondKeyadm q v' = true then s.discard
    else s.setReg (q.off + 8) v'

/-- A write of a queue's CFG register. -/
def State.writeCfg (s : State) (q : RingQ) (v : Nat) : State :=
  if v.testBit 31 then s.enableRing q v else s.disableRing q v

/-- A write of a queue's CFG register with EN = 1 (R248). -/
def execQueueEnable (q : RingQ) (v : Word) (s : State) : Host.Outcome State Fault Refusal :=
  .next (s.guard (q.off + 8) 4 (fun s => s.enableRing q (putBit v.toNat 31 true)))

/-- A write of a queue's CFG register with EN = 0 (R248). -/
def execQueueDisable (q : RingQ) (v : Word) (s : State) : Host.Outcome State Fault Refusal :=
  .next (s.guard (q.off + 8) 4 (fun s => s.disableRing q (putBit v.toNat 31 false)))

/-! ### Doorbells (R249) -/

/-- An SQ doorbell: the new tail, and what the walker finds in the ring from its head on: `entries` over
PCIe, the ring SRAM over the octal-SPI port; `failed` when host memory refuses the fetch (R262). The entries
up to the new tail are fetched at once (log 12). -/
def State.sqBell (s : State) (n : Fin 16) (v : Nat) (entries : List (List Byte)) (failed : Bool) : State :=
  let q := RingQ.sq n
  let idx := bitsOf v 12 0
  let size := s.get q.size
  if s.get q.en = 0 then s.discard
  else if s.get q.err = 1 then s
  else
    let head := s.get q.index
    let r := s.ring q
    let out := (r.host + size - head) % size
    let more := (idx + size - r.host) % size
    if size ≤ idx ∨ size - 1 < out + more then s.ringError q
    else if failed then (s.ringError q).raise { src := 93, unit_ := q.unit }
    else
      let base := s.get64 q.off
      let ds := (List.range (out + more)).map (fun k =>
        (⟨.sq n, if s.pcie then padTo 64 (nth entries k [])
          else memRead s.mem (ringBase + base + 64 * ((head + k) % size)) 64⟩ : Desc))
      let s := (s.setRing q { r with host := idx }).set q.index idx
      { s with host := { s.host with fetched := s.host.fetched.set n (s.host.fetched[n] ++ ds) } }

/-- A CQ or EQ doorbell: the new head, which frees slots (R249, R251). -/
def State.headBell (s : State) (q : RingQ) (v : Nat) : State :=
  let idx := bitsOf v 12 0
  let size := s.get q.size
  if s.get q.en = 0 then s.discard
  else if s.get q.err = 1 then s
  else
    let r := s.ring q
    let written := (s.get q.index + size - r.host) % size
    if size ≤ idx ∨ written < (idx + size - r.host) % size then s.ringError q
    else (s.setRing q { r with host := idx }).gapEntry q

/-- A doorbell write to an SQ (R249, R256). -/
def execSqDoorbell (n : Fin 16) (v : Word) (fetched : List (List Byte)) (failed : Bool) (s : State) :
    Host.Outcome State Fault Refusal :=
  .next (s.guard (R.HI_DB_SQ n.val) 4 (fun s => s.sqBell n v.toNat fetched failed))

/-- A doorbell write to a CQ (R249). -/
def execCqDoorbell (n : Fin 16) (v : Word) (s : State) : Host.Outcome State Fault Refusal :=
  .next (s.guard (R.HI_DB_CQ n.val) 4 (fun s => s.headBell (.cq n) v.toNat))

/-- A doorbell write to an EQ (R249). -/
def execEqDoorbell (e : Fin 4) (v : Word) (s : State) : Host.Outcome State Fault Refusal :=
  .next (s.guard (R.HI_DB_EQ e.val) 4 (fun s => s.headBell (.eq e) v.toNat))

/-! ### Dispatch (R256) -/

/-- The command at the front of an SQ is dispatched, once FENCE and the limit of 256 allow (R256). An
opcode that the catalogue does not have is answered at once (R260). -/
def State.dispatch (s : State) (n : Fin 16) : State :=
  match s.host.fetched[n] with
  | [] => s
  | d :: rest =>
    let mine := s.host.inFlight.filter (fun x => x.src == .sq n)
    if 256 ≤ s.host.inFlight.length ∨ (d.fence = true ∧ mine ≠ []) ∨ mine.any Desc.fence = true then s
    else
      let s := { s with host := { s.host with
        fetched := s.host.fetched.set n rest, inFlight := s.host.inFlight ++ [d] } }
      if (opcodeIsl d.opcode).isNone then s.complete d 0x0001 0 [] else s

/-- A fetched command is dispatched (R256). -/
def execCommandDispatch (n : Fin 16) (s : State) : Host.Outcome State Fault Refusal := .next (s.dispatch n)

/-- The commands in flight whose target island has been fenced before their result arrived complete with
status 0x000A (R258). -/
def State.lostCommands (s : State) (i : Isl) : State :=
  let waiting := s.host.inFlight.filter (fun d =>
    opcodeIsl d.opcode == some i && !(s.host.results.any (fun r => r.desc == d)) &&
      !(s.isl.resetCmd.any (fun x => x.2 == d)))
  waiting.foldl (fun s d => s.complete d 0x000A i.code []) s

/-- The completion of a command of an SQ (R250, R253): its entry in the bound CQ, and STOPPED of a disabled
SQ with its last command. A completion of a command that HI no longer holds is discarded (R245). -/
def State.postResult (s : State) (n : Fin 16) (r : Result) (writeFails : Bool) : State :=
  if s.host.inFlight.contains r.desc = false then s
  else
    let s := { s with host := { s.host with inFlight := s.host.inFlight.erase r.desc } }
    let c := RingQ.cq (Fin.ofNat 16 (s.get (F.HI_SQ_CFG_CQ n.val)))
    let s :=
      if writeFails = true ∧ s.get c.en = 1 ∧ s.get c.err = 0 then (s.ringError c).raise { src := 93, unit_ := c.unit }
      else s.offerEntry c (fun ph =>
        natLE 2 (r.desc.n 4 2) ++ natLE 1 n.val ++ natLE 1 ph ++ natLE 2 r.status ++ natLE 2 r.detail ++
        slice r.desc.bytes 56 8 ++ padTo 16 r.bytes)
    s.sqStop n

/-- A read or write of host memory for a queue gets no completion within 50 ms (R262). -/
def execHostCompletionTimeout (q : RingQ) (s : State) : Host.Outcome State Fault Refusal :=
  if s.get q.en = 0 ∨ s.get q.err = 1 then .next s
  else .next ((s.ringError q).raise { src := 93, unit_ := q.unit })

/-- COAL_TIME has passed since the oldest entry not signalled (R261). -/
def execCoalescingTimeout (q : RingQ) (s : State) : Host.Outcome State Fault Refusal :=
  let cfg := s.reg (q.off + 8)
  match q with
  | .sq _ => .next s
  | _ =>
    if s.get q.en = 0 ∨ bitsOf cfg 30 30 = 0 ∨ (s.ring q).unsig = 0 then .next s
    else .next ((s.setRing q { (s.ring q) with unsig := 0 }).signal (bitsOf cfg 29 24))

/-- Command 0x0001: no operation (R266). -/
def execNoOperation (d : Desc) (s : State) : Host.Outcome State Fault Refusal :=
  .next (s.command d { opcode := 0x0001, priv := none, isl := .hi } [] (fun s => s.ok d []))

end Sys2Proof.Machine
end

