-- ==== Sys2Proof/Machine/Links.lean ====
section
/-! DEFINITION. What fabric ports and the mains tone link share: neighbours, link keys, the Derquan frame, its
checks on receipt, quarantine, links going up and down, the module's own advert and its flooding (R282 to R293,
R323, R325, R328). -/

namespace Sys2Proof.Machine

/-- A link: to the neighbour on a fabric port, or to an entry of the mains tone link's neighbour table. -/
inductive Lnk where
  | fp (k : Fin 4)
  | tl (j : Fin 32)
  deriving DecidableEq, Repr

/-- Port number of a link (R310). -/
def linkPort : Lnk → Nat
  | .fp k => k.val
  | .tl _ => 4

/-- All links. -/
def links : List Lnk := (List.finRange 4).map Lnk.fp ++ (List.finRange 32).map Lnk.tl

/-- The neighbour address of a link. -/
def linkAddr : Lnk → Fld
  | .fp k => F.FAB_PORT_STATUS_NEIGH k.val
  | .tl j => F.MTL_NB_ID_ADDR j.val
/-- UP of a link. -/
def linkUpF : Lnk → Fld
  | .fp k => F.FAB_PORT_STATUS_UP k.val
  | .tl j => F.MTL_NB_ID_UP j.val
/-- QUAR of a link. -/
def linkQuarF : Lnk → Fld
  | .fp k => F.FAB_PORT_STATUS_QUAR k.val
  | .tl j => F.MTL_NB_ID_QUAR j.val
/-- SUPPR of a link. -/
def linkSupprF : Lnk → Fld
  | .fp k => F.FAB_PORT_STATUS_SUPPR k.val
  | .tl j => F.MTL_NB_ID_SUPPR j.val
/-- Advertised cost of a link. -/
def linkCostF : Lnk → Fld
  | .fp k => F.FAB_PORT_STATUS_COST k.val
  | .tl j => F.MTL_NB_LINK_COST j.val

/-- What CM keeps of a link's neighbour. -/
def State.nb (s : State) : Lnk → Neigh
  | .fp k => s.fab.ports[k].nb
  | .tl j => s.mtl.nbs[j].nb

/-- The state with that changed. -/
def State.modNb (s : State) (l : Lnk) (f : Neigh → Neigh) : State :=
  match l with
  | .fp k => { s with fab := { s.fab with ports := s.fab.ports.set k { s.fab.ports[k] with nb := f s.fab.ports[k].nb } } }
  | .tl j => { s with mtl := { s.mtl with nbs := s.mtl.nbs.set j { s.mtl.nbs[j] with nb := f s.mtl.nbs[j].nb } } }

/-- Whether a link carries frames: up and not quarantined. -/
def State.usable (s : State) (l : Lnk) : Bool := s.flag (linkUpF l) && !(s.flag (linkQuarF l))

/-- UP of a link, and the fields that show it. -/
def State.setUp (s : State) (l : Lnk) (b : Bool) : State :=
  let s := s.set (linkUpF l) b.toNat
  match l with
  | .fp k => s.setBit F.FAB_STATUS_UP k.val b
  | .tl _ => s.set F.MTL_STATUS_NEIGH_UP ((List.finRange 32).filter (fun j => s.flag (F.MTL_NB_ID_UP j.val))).length

/-- QUAR of a link, and FAB_STATUS.QUAR of a port. -/
def State.setQuar (s : State) (l : Lnk) (b : Bool) : State :=
  let s := s.set (linkQuarF l) b.toNat
  match l with
  | .fp k => s.setBit F.FAB_STATUS_QUAR k.val b
  | .tl _ => s

/-- The module's node address, claimed or joined. -/
def State.ownAddr (s : State) : Nat := s.get F.FAB_STATUS_ADDR

/-- The entries of a list of times that lie within the last `w` µs. -/
def State.recent (s : State) (w : Nat) (l : List Nat) : List Nat := l.filter (fun t => decide (s.time.now < t + w))

/-! ### Keys (R285, R325, R343) -/

/-- A key derived from the fabric key for a label, a context and an epoch: from the session cache, or derived
anew as a use by an engine. None where LINK_SLOT names no key that may be used. -/
def State.fabricKey (s : State) (engine : Nat) (label ctx : List Byte) (epoch : Nat) : Option (List Byte × State) :=
  let slot := s.get F.FAB_KEY_CFG_LINK_SLOT
  let id := leNat (ascii "D" ++ label ++ ctx)
  match s.mayUse engine slot 0 with
  | none => none
  | some k =>
    let key := kdf k.material label (ctx ++ natBE 2 epoch) 256
    if s.key.cache.contains (slot, epoch, id) then some (key, s)
    else
      let s := { s with key := { s.key with cache := (slot, epoch, id) :: s.key.cache } }
      some (key, s.countUse slot)

/-- The link key of a link: lower and higher address, 0 for a node that is drawing (R285). -/
def State.linkKey (s : State) (l : Lnk) (epoch : Nat) : Option (List Byte × State) :=
  let a := if s.joined then s.ownAddr else 0
  let b := if (s.nb l).joined then s.get (linkAddr l) else 0
  s.fabricKey 12 (ascii "DQ-LINK") (natBE 2 (min a b) ++ natBE 2 (max a b)) epoch

/-- The segment key (R325). -/
def State.segmentKey (s : State) (epoch : Nat) : Option (List Byte × State) :=
  s.fabricKey 13 (ascii "DQ-TONE") (natBE 2 (s.get F.FAB_ID_CFG_FABRIC_ID)) epoch

/-- The current key epoch, and the one before it. -/
def State.epochs (s : State) : List Nat :=
  let e := s.get F.FAB_KEY_EPOCH_EPOCH
  [e, (e + 65535) % 65536]

/-- Whether LINK_SLOT names a key; EV109 while it does not. -/
def State.noKey (s : State) : State := s.raise { src := 109 }

/-! ### Sending (R282, R283, R323) -/

/-- The Ethernet header of a fabric port (R282). -/
def State.ethHeader (s : State) (k : Fin 4) : List Byte :=
  [0x03, 0x4F, 0x46, 0x00, 0x00, 0x01, 0x02, 0x4F, 0x46, BitVec.ofNat 8 k.val] ++ natBE 2 s.ownAddr ++ natBE 2 0x88B6

/-- Segments of a Derquan frame on the mains tone link. -/
def segments : Nat → List Byte → List (List Byte)
  | 0, _ => []
  | _ + 1, [] => []
  | n + 1, l => l.take 438 :: segments n (l.drop 438)

/-- Codewords of a data frame with n segment bytes (R317). -/
def dataWords (n : Nat) : Nat := (n + 10 + 27) / 28

/-- Body bytes of a data frame before its CRC (R317). -/
def dataBody (dest index count set_ : Nat) (seg : List Byte) : List Byte :=
  padTo (28 * dataWords seg.length - 4)
    (natLE 2 dest ++ natLE 1 (index + 4 * (count - 1)) ++ natLE 1 set_ ++ natLE 2 seg.length ++ seg)

/-- A Derquan frame queued for a neighbour on the mains tone link, in segments under one set number. -/
def State.mtlSend (s : State) (j : Fin 32) (prio : Nat) (frame : List Byte) : State :=
  if s.flag F.MTL_CFG_EN = false then s
  else
    let dest := s.get (F.MTL_NB_ID_ADDR j.val)
    let segs := segments 4 frame
    let set_ := s.mtl.setNo + 1
    let bodies := (segs.zip (List.range segs.length)).map (fun x => dataBody dest x.2 segs.length set_.toNat x.1)
    match bodies with
    | [] => s
    | b :: rest =>
      let n := s.mtl.number + 1
      let tx : MtlTx := ⟨1, prio, BitVec.ofNat 16 dest, n, b, 0, rest⟩
      { s with mtl := { s.mtl with setNo := set_, number := n, queue := s.mtl.queue ++ [tx] } }

/-- A Derquan frame sent on a link: its head from byte 0 to the route index, its hops and its payload. The hop
sequence number advances; without a key the tag is zero, and only hellos are sent so (log 30). -/
def State.sendFrame (s : State) (l : Lnk) (type_ flags dest index : Nat) (route : List Half) (payload : List Byte) :
    State :=
  let seq := (s.nb l).txSeq + 1
  let s := s.modNb l (fun x => { x with txSeq := seq })
  let e := s.get F.FAB_KEY_EPOCH_EPOCH
  let head := natLE 1 2 ++ natLE 1 type_ ++ natLE 1 flags ++ zeros 1 ++ natLE 2 (s.get F.FAB_ID_CFG_FABRIC_ID) ++
    natLE 2 s.ownAddr ++ natLE 2 dest ++ natLE 1 route.length ++ natLE 1 index ++ natLE 4 seq.toNat ++ natLE 2 e ++
    natLE 2 payload.length ++ (route.map (fun h => natLE 2 h.toNat)).flatten ++ payload
  let put := fun (s : State) (f : List Byte) =>
    match l with
    | .fp k => s.emit (.fabric k.val (s.ethHeader k ++ f))
    | .tl j => s.mtlSend j (if type_ = 2 then 4 else 5) f
  match s.linkKey l e with
  | some (key, s) => put s (head ++ (hmac256 key head).take 16)
  | none => if type_ = 1 then put s (head ++ zeros 16) else s

/-! ### The module's own advert (R291 to R293, R327) -/

/-- Flags of hellos and adverts: joined, collector, pair member, grandmaster-capable, fixed. -/
def State.nodeFlags (s : State) : Nat :=
  s.joined.toNat + 2 * s.get F.FAB_REP_CFG_IS_COLL + 4 * s.get F.FAB_PAIR_CFG_EN +
    8 * s.get F.FAB_PTP_CFG_GM_CAP + 16 * s.get F.FAB_ADDR_CFG_FIXED

/-- A link as the module's advert lists it. -/
def State.linkEntry (s : State) (l : Lnk) : Half × Nat × Nat :=
  (BitVec.ofNat 16 (s.get (linkAddr l)), s.get (linkCostF l), linkPort l)

/-- An entry put in order of cost and address. -/
def insertLink (e : Half × Nat × Nat) : List (Half × Nat × Nat) → List (Half × Nat × Nat)
  | [] => [e]
  | x :: t => if e.2.1 < x.2.1 ∨ (e.2.1 = x.2.1 ∧ e.1.toNat < x.1.toNat) then e :: x :: t else x :: insertLink e t

/-- The links that the module lists: its usable fabric ports, and its port-4 links of lowest cost (R293, R327). -/
def State.ownLinks (s : State) : List (Half × Nat × Nat) :=
  let fp := ((List.finRange 4).map Lnk.fp).filter s.usable
  let tl := ((List.finRange 32).map Lnk.tl).filter s.usable
  fp.map s.linkEntry ++ ((tl.map s.linkEntry).foldl (fun acc e => insertLink e acc) []).take (5 - fp.length)

/-- The module's own advert (R293). -/
def State.ownAdvert (s : State) : Advert :=
  { ident := BitVec.ofNat 48 s.identity, addr := BitVec.ofNat 16 s.ownAddr, seq := s.fab.ownSeq, age := 0, at_ := s.time.now,
    flags := BitVec.ofNat 8 s.nodeFlags, pair := BitVec.ofNat 16 (s.get F.FAB_PAIR_STATUS_PAIR_ADDR), links := s.ownLinks }

/-- An advert's payload with an age (R293). -/
def Advert.bytes (a : Advert) (age : Nat) : List Byte :=
  natLE 6 a.ident.toNat ++ natLE 2 a.addr.toNat ++ natLE 4 a.seq.toNat ++ natLE 2 age ++ natLE 1 a.links.length ++
    [a.flags] ++ natLE 2 a.pair.toNat ++ zeros 2 ++
    (a.links.map (fun l => natLE 2 l.1.toNat ++ natLE 1 l.2.1 ++ natLE 1 l.2.2)).flatten

/-- Age in s of a stored advert. -/
def State.ageOf (s : State) (a : Advert) : Nat := a.age + (s.time.now - a.at_) / 1000000

/-- Whether an originator is in the port-4 advert set (R328). -/
def State.inAdvSet (s : State) (a : Advert) : Bool := s.mtl.advSet.contains a.ident

/-- An advert flooded: whole on every usable fabric port but the one it came from; on port 4, where it is in
the advert set, whole to each neighbour if its content changed, else in the next refresh list (R293, R328,
R329). -/
def State.flood (s : State) (a : Advert) (age : Nat) (from_ : Option Lnk) (changed : Bool) : State :=
  let to_ := links.filter (fun l => s.usable l && some l != from_)
  let s := (to_.filter (fun l => linkPort l != 4)).foldl (fun (s : State) l => s.sendFrame l 2 0 0xFFFF 0 [] (a.bytes age)) s
  if s.inAdvSet a = false then s
  else if changed then
    let s := { s with mtl := { s.mtl with refresh := s.mtl.refresh.filter (fun i => i != a.ident), whole := a.ident :: s.mtl.whole } }
    (to_.filter (fun l => linkPort l == 4)).foldl (fun (s : State) l => s.sendFrame l 2 0 0xFFFF 0 [] (a.bytes age)) s
  else if s.mtl.refresh.contains a.ident || s.mtl.whole.contains a.ident then s
  else { s with mtl := { s.mtl with refresh := s.mtl.refresh ++ [a.ident] } }

/-- The module advertises its links on a change: a new sequence number, and two repeats due (R293). -/
def State.advertise (s : State) : State :=
  let s := { s with fab := { s.fab with ownSeq := s.fab.ownSeq + 1, repeats := 2 } }
  s.flood s.ownAdvert 0 none true

/-! ### Links up and down, quarantine (R287, R291, R292, R326) -/

/-- SNR of a port-4 link in 0.25 dB: the lower of the module's own and the neighbour's (R326). -/
def State.toneSnr (s : State) (j : Fin 32) : Option Rat :=
  match s.mtl.nbs[j].snrF, s.mtl.nbs[j].snrRep with
  | some a, some b => some (min a b)
  | some a, none => some a
  | none, r => r

/-- Failed attempts among the last 100 (R326). -/
def MtlNb.fails (n : MtlNb) : Nat := (n.tries.filter id).length

/-- Cost of a port-4 link (R326). -/
def State.toneCost (s : State) (j : Fin 32) : Nat :=
  let base := s.get F.MTL_CFG_BASE + min 100 (2 * s.mtl.nbs[j].fails)
  match s.toneSnr j with
  | none => min 255 base
  | some x =>
    if x < ((4 * s.get F.MTL_CFG_SNR_MIN : Nat) : Rat) then 255
    else min 255 (base + (max 0 (96 - x).ceil).toNat)

/-- Cost with which a link starts: its base cost, on port 4 its computed cost, or 255 while it is suppressed
(R292, R326). -/
def State.baseCost (s : State) (l : Lnk) : Nat :=
  if s.flag (linkSupprF l) then 255
  else match l with
    | .fp k => s.get (F.FAB_PORT_CFG_BASE k.val)
    | .tl j => s.toneCost j

/-- What a port-4 link that goes down discards: the open segment set, and at the sending side the data frames
for that neighbour (R323, R330). -/
def State.toneDrop (s : State) (l : Lnk) : State :=
  match l with
  | .fp _ => s
  | .tl j =>
    let a := BitVec.ofNat 16 (s.get (F.MTL_NB_ID_ADDR j.val))
    let mine := fun (t : MtlTx) => t.kind == 1 && t.dest == a
    let wait := match s.mtl.awaiting with
      | some t => if mine t then none else some t
      | none => none
    { s with mtl := { s.mtl with
        nbs := s.mtl.nbs.set j { s.mtl.nbs[j] with segs := none },
        queue := s.mtl.queue.filter (fun t => !(mine t)), awaiting := wait } }

/-- A link comes up: its replay window restarts, EV100, and the module advertises it (R286, R291). -/
def State.linkUp (s : State) (l : Lnk) : State :=
  let s := (s.setUp l true).modNb l (fun x => { x with replay := Replay.reset })
  let s := s.set (linkCostF l) (s.baseCost l)
  (s.raise { src := 100, unit_ := linkPort l }).advertise

/-- A link comes up when each side has heard the other, and nothing bars it. -/
def State.tryUp (s : State) (l : Lnk) : State :=
  if s.flag (linkUpF l) = false ∧ s.flag (linkQuarF l) = false ∧ (s.nb l).heardUs = true ∧ s.ownAddr ≠ 0 ∧
      s.get (linkAddr l) ≠ 0 then s.linkUp l else s

/-- Window in µs of three link-downs that suppress a link (R292, R326). -/
def supprWindow : Lnk → Nat
  | .fp _ => 60000000
  | .tl _ => 600000000

/-- A link goes down: counted, EV100, the fault class of R43 on a fabric port, and suppression after the third
within its window; the module advertises the change (R291, R292, R326). -/
def State.linkDown (s : State) (l : Lnk) : State :=
  if s.flag (linkUpF l) = false then s
  else
    let s := s.setUp l false
    let downs := s.time.now :: s.recent (supprWindow l) (s.nb l).downs
    let s := s.modNb l (fun x => { x with heardUs := false, downs := downs })
    let s := match l with
      | .fp k => ((s.count (F.FAB_PORT_ERR_DOWNS k.val) 1).set (F.FAB_PORT_STATUS_NEIGH k.val) 0).fault 0xC .cm
      | .tl j => s.count (F.MTL_NB_CNT_DOWNS j.val) 1
    let s := if 3 ≤ downs.length then (s.set (linkSupprF l) 1).set (linkCostF l) 255 else s
    let s := s.toneDrop l
    (s.raise { src := 100, unit_ := linkPort l }).advertise

/-- A neighbour quarantined: its link leaves the module's advert (R287). -/
def State.quarantine (s : State) (l : Lnk) : State :=
  if s.flag (linkQuarF l) then s
  else
    let s := ((s.setQuar l true).setUp l false).modNb l (fun x => { x with auths := [], replays := [] })
    let s := s.toneDrop l
    (s.raise { src := 101, unit_ := linkPort l }).advertise

/-- A quarantine ends: the link must come up again (R287). -/
def State.endQuarantine (s : State) (l : Lnk) : State :=
  if s.flag (linkQuarF l) then (s.setQuar l false).modNb l (fun x => { x with heardUs := false }) else s

/-- An authentication failure of a neighbour (R285, R287). -/
def State.authFail (s : State) (l : Lnk) : State :=
  let s := match l with
    | .fp k => s.count (F.FAB_PORT_AUTH_AUTH_FAIL k.val) 1
    | .tl _ => s
  let s := s.raise { src := 102, unit_ := linkPort l, every := 1000000 }
  let a := s.time.now :: s.recent 10000000 (s.nb l).auths
  let s := s.modNb l (fun x => { x with auths := a })
  if s.get F.FAB_QUAR_CFG_AUTH_MAX ≤ a.length then s.quarantine l else s

/-- A replay discard of a neighbour (R286, R287). -/
def State.replayDiscard (s : State) (l : Lnk) : State :=
  let s := match l with
    | .fp k => s.count (F.FAB_PORT_AUTH_REPLAY k.val) 1
    | .tl _ => s
  let s := s.raise { src := 103, unit_ := linkPort l, every := 1000000 }
  let a := s.time.now :: s.recent 10000000 (s.nb l).replays
  let s := s.modNb l (fun x => { x with replays := a })
  if 64 ≤ a.length then s.quarantine l else s

/-! ### Receiving (R283 to R287) -/

/-- A number taken into a replay window: none where it is a replay (R286, R300). -/
def Replay.take (r : Replay) (n : Word) : Option Replay :=
  match r.newest with
  | none => some ⟨some n, 1⟩
  | some m =>
    let ahead := (n - m).toNat
    let back := (m - n).toNat
    if 0 < ahead ∧ ahead < 2 ^ 31 then some ⟨some n, (if 64 ≤ ahead then 0 else r.bits <<< ahead) ||| 1⟩
    else if back < 64 ∧ r.bits.toNat.testBit back = false then some ⟨some m, r.bits ||| (1 <<< back)⟩
    else none

/-- A frame that is discarded as BAD (R284); the mains tone link counts none. -/
def State.badFabric (s : State) (port : Fin 5) : State :=
  if port.val < 4 then s.count (F.FAB_PORT_ERR_BAD port.val) 1 else s

/-- The Derquan frame that an Ethernet frame of a fabric port carries; on port 4 the frame itself. None for
another destination or EtherType, or a payload above 1,500 bytes (R282). -/
def derquan (port : Fin 5) (frame : List Byte) : Option (List Byte) :=
  if port.val < 4 then
    if frame.take 6 = [0x03, 0x4F, 0x46, 0x00, 0x00, 0x01] ∧ slice frame 12 2 = [0x88, 0xB6] ∧ frame.length ≤ 1514 then
      some (frame.drop 14)
    else none
  else some frame

/-- A received Derquan frame's parts. -/
structure RxFrame where
  link : Lnk
  flags : Nat
  src : Nat
  dest : Nat
  index : Nat
  route : List Half
  payload : List Byte
  deriving DecidableEq, Repr

/-- The frame types of R284. -/
def frameTypes : List Nat := [0x01, 0x02, 0x05, 0x10, 0x11, 0x12, 0x20, 0x21, 0x30]

/-- Whether a frame is well formed for this fabric: version, type, fabric identifier and lengths. -/
def State.frameOk (s : State) (f : List Byte) : Bool :=
  let h := fld f 10 1
  let n := fld f 18 2
  fld f 0 1 == 2 && frameTypes.contains (fld f 1 1) && fld f 4 2 == s.get F.FAB_ID_CFG_FABRIC_ID && decide (h ≤ 16) &&
    f.length == 36 + 2 * h + n

/-- The link on which a frame arrives: the port's, or the neighbour entry of its source. -/
def State.linkOf (s : State) (port : Fin 5) (src : Nat) : Option Lnk :=
  if port.val < 4 then some (.fp (Fin.ofNat 4 port.val))
  else ((List.finRange 32).find? (fun j => s.flag (F.MTL_NB_ID_VALID j.val) && s.get (F.MTL_NB_ID_ADDR j.val) == src)).map Lnk.tl

/-- The checks of a frame on its link: rate, quarantine, epoch and tag, replay; a hello is taken in quarantine
and on a link that is down, where no other frame is (R285 to R287). -/
def State.admitFrame (s : State) (l : Lnk) (port : Fin 5) (f : List Byte) : Option RxFrame × State :=
  let hello := fld f 1 1 == 1
  let rate := s.recent 1000000 (s.nb l).rate
  if 10 * s.get F.FAB_QUAR_CFG_RATE ≤ rate.length then (none, s.badFabric port)
  else if hello = false ∧ s.usable l = false then (none, s)
  else
    let e := fld f 16 2
    let body := f.take (f.length - 16)
    match s.linkKey l e with
    | none => (none, s.noKey)
    | some (key, s) =>
      if s.epochs.contains e = false ∨ (hmac256 key body).take 16 ≠ f.drop (f.length - 16) then (none, s.authFail l)
      else match (s.nb l).replay.take (BitVec.ofNat 32 (fld f 12 4)) with
        | none => (none, s.replayDiscard l)
        | some r =>
          let h := fld f 10 1
          let s := s.modNb l (fun x => { x with replay := r, rate := s.time.now :: rate })
          let route := (List.range h).map (fun i => BitVec.ofNat 16 (fld f (20 + 2 * i) 2))
          (some ⟨l, fld f 2 1, fld f 6 2, fld f 8 2, fld f 11 1, route, (f.drop (20 + 2 * h)).take (fld f 18 2)⟩, s)

/-- A frame of one of some types received on a port. -/
def State.rxFrame (s : State) (port : Fin 5) (frame : List Byte) (types : List Nat) : Option RxFrame × State :=
  let on := if port.val < 4 then s.flag (F.FAB_PORT_CFG_EN port.val) && (s.fab.ports[Fin.ofNat 4 port.val]).phy
    else s.flag F.MTL_CFG_EN
  if s.running .cm = false ∨ on = false then (none, s)
  else match derquan port frame with
    | none => (none, s.badFabric port)
    | some f =>
      if s.frameOk f = false ∨ types.contains (fld f 1 1) = false then (none, s.badFabric port)
      else match s.linkOf port (fld f 6 2) with
        | none => (none, s)
        | some l => s.admitFrame l port f

end Sys2Proof.Machine
end

