-- ==== Sys2Proof/Machine/Queues.lean ====
section
/-! DEFINITION. The internal queues of islands HI, CM, PT and AP (chapter 10). -/

namespace Sys2Proof.Machine

/-- Depth of a queue in words (R268). -/
def queDepth (i : Nat) : Nat := 2 ^ queK i

/-- Whether a queue is in spill mode (R279). -/
def State.spill (s : State) (i : Nat) : Bool := s.flag (F.QUE_CFG_SPILL i)

/-- Capacity of a queue in words: its depth, or that of its three parts in spill mode (R279). -/
def State.queCap (s : State) (i : Nat) : Nat := if s.spill i then 8256 else queDepth i

/-- Fill of a queue in words (R271). -/
def QueS.fill (q : QueS) : Nat := (q.pkts.map List.length).sum

/-- Header word of a packet (R270). -/
def queHeader (seq : Half) (type_ unit_ : Byte) (len : Nat) : Dword :=
  BitVec.ofNat 64 (seq.toNat <<< 48 + type_.toNat <<< 40 + unit_.toNat <<< 32 + len)

/-- A gap marker (R274). -/
def gapMarker (seq : Half) (lost : Nat) (reset : Bool) (cause : BitVec 2) (time : Nat) : List Dword :=
  [queHeader seq 0xFF 0xFF 3,
   BitVec.ofNat 64 (min lost 0xFFFFFFFF <<< 32 + reset.toNat <<< 31 + cause.toNat <<< 29),
   BitVec.ofNat 64 time]

/-- `n` words enter a spill-mode queue at its tail buffer (R279). -/
def spillIn : Nat → QueS → QueS
  | 0, q => q
  | n + 1, q =>
    let q := { q with tailW := q.tailW + 1 }
    let q :=
      if q.spillW = 0 ∧ q.headW < 32 then { q with tailW := q.tailW - 1, headW := q.headW + 1 }
      else if 16 ≤ q.tailW then { q with tailW := q.tailW - 16, spillW := q.spillW + 16 }
      else q
    spillIn n q

/-- `n` words leave a spill-mode queue at its head buffer, which refills (R279). -/
def spillOut : Nat → QueS → QueS
  | 0, q => q
  | n + 1, q =>
    let q := { q with headW := q.headW - 1 }
    let q :=
      if 0 < q.spillW then { q with spillW := q.spillW - 1, headW := q.headW + 1 }
      else if 0 < q.tailW then { q with tailW := q.tailW - 1, headW := q.headW + 1 }
      else q
    spillOut n q

/-- A packet committed: W advances by its length (R272). -/
def QueS.commit (q : QueS) (depth : Nat) (spill : Bool) (pkt : List Dword) : QueS :=
  let q := { q with pkts := q.pkts ++ [pkt] }
  if spill then spillIn pkt.length q else { q with w := (q.w + pkt.length) % (2 * depth) }

/-- The first packet released: R advances by its length (R272). -/
def QueS.release (q : QueS) (depth : Nat) (spill : Bool) : QueS :=
  match q.pkts with
  | [] => q
  | p :: rest =>
    let q := { q with pkts := rest }
    if spill then spillOut p.length q else { q with r := (q.r + p.length) % (2 * depth) }

/-- The marker of a pending gap, written when at least six words are free (R274). -/
def QueS.mark (q : QueS) (cap depth : Nat) (spill : Bool) : QueS :=
  match q.gap with
  | none => q
  | some g =>
    if cap < q.fill + 6 then q
    else ({ q with gap := none }).commit depth spill (gapMarker g.seq g.lost (g.cause != 0) g.cause g.time)

/-- A packet dropped (R273). -/
def QueS.drop (q : QueS) (now : Nat) : QueS :=
  match q.gap with
  | none => { q with gap := some ⟨q.seq, 1, 0, now⟩, seq := q.seq + 1 }
  | some g => { q with gap := some { g with lost := g.lost + 1 }, seq := q.seq + 1 }

/-- The state with a queue replaced, and its fill, notices, peak and gap-pending bits reported to MG. -/
def State.setQue (s : State) (i : Fin 35) (q : QueS) : State :=
  let s := { s with ques := s.ques.set i q }
  let s := s.setSat (F.QUE_FILL_FILL i.val) q.fill
  let s := s.setSat (F.QUE_FILL_NOTICES i.val) q.pkts.length
  let s := s.set (F.QUE_STAT_PEAK i.val) (max (s.get (F.QUE_STAT_PEAK i.val)) (sat 16 q.fill))
  s.set (F.QUE_STAT_GAP_PEND i.val) q.gap.isSome.toNat

/-- Entries lost in a staging queue count for the gap entry of its CQ or EQ (R275). -/
def State.stagingLoss (s : State) (i : Fin 35) (n : Nat) : State :=
  let ring := fun (q : RingQ) => if s.get q.en = 1 ∧ s.get q.err = 0 then (s.ringDrop q n).gapEntry q else s
  if i.val < 0x10 then ring (.cq (Fin.ofNat 16 i.val))
  else if i.val < 0x14 then ring (.eq (Fin.ofNat 4 (i.val - 0x10)))
  else s

/-- The owner of a queue (R268). -/
def queIsl (i : Fin 35) : Isl :=
  match queOwner i.val with
  | 4 => .ap | 5 => .hi | 6 => .cm | _ => .pt

/-- The reset of R277 after a pointer mismatch: the queue restarts with a gap marker that counts the packets
lost, `writing` of them not yet committed. A gap that was pending is superseded (log 13). -/
def State.queMismatch (s : State) (i : Fin 35) (writing : Nat) : State :=
  let q := s.ques[i]
  let lost := q.pkts.length + writing
  let next := q.seq + BitVec.ofNat 16 writing
  let q' := QueS.commit { QueS.reset with seq := next } (queDepth i.val) (s.spill i.val)
    (gapMarker (next - BitVec.ofNat 16 lost) lost true 1 s.devTime)
  let s := s.setQue i q'
  let s := (s.count (F.QUE_STAT_RESETS i.val) 1).count F.QUE_STATUS_MISMATCH 1
  let s := s.set F.QUE_STATUS_LAST_ID i.val
  let s := s.raise { src := 98, unit_ := i.val }
  (s.fault 0xA (queIsl i)).stagingLoss i lost

/-- A packet offered to a queue (R270 to R274): its marker first, then the fit test with three words kept in
reserve. While a gap is pending that has no room for its marker, the packet is dropped too. -/
def State.queOffer (s : State) (i : Fin 35) (unit_ type_ : Byte) (body : List Dword) (mismatch : Bool) : State :=
  let len := body.length + 1
  if s.running (queIsl i) = false ∨ min 512 (queDepth i.val / 4) < len then s
  else if mismatch then s.queMismatch i 1
  else
    let sp := s.spill i.val
    let cap := s.queCap i.val
    let q := s.ques[i].mark cap (queDepth i.val) sp
    if q.gap = none ∧ q.fill + len + 3 ≤ cap then
      let pkt := queHeader q.seq type_ unit_ len :: body
      s.setQue i ({ q with seq := q.seq + 1 }.commit (queDepth i.val) sp pkt)
    else
      let s := s.setQue i (q.drop s.devTime)
      let s := s.count (F.QUE_DROP_DROPPED i.val) 1
      (s.raise { src := 99, unit_ := i.val, every := 1000000 }).stagingLoss i 1

/-- The consumer releases the first packet (R272, R274). -/
def State.queRelease (s : State) (i : Fin 35) (mismatch : Bool) : State :=
  if s.running (queIsl i) = false then s
  else if mismatch then s.queMismatch i 0
  else
    let sp := s.spill i.val
    s.setQue i ((s.ques[i].release (queDepth i.val) sp).mark (s.queCap i.val) (queDepth i.val) sp)

/-- The queues of an island that is fenced show FENCED (R278). -/
def State.queFenced (s : State) (i : Isl) (on : Bool) : State :=
  ((List.finRange 35).filter (fun k => queIsl k == i)).foldl
    (fun s k => s.set (F.QUE_STAT_FENCED k.val) on.toNat) s

/-- The queues of an island that is reset restart empty, their first packet a gap marker of an unknown
count (R278). -/
def State.queOwnerReset (s : State) (i : Isl) : State :=
  ((List.finRange 35).filter (fun k => queIsl k == i)).foldl
    (fun s k =>
      let q := s.ques[k]
      let q' := QueS.commit { QueS.reset with seq := q.seq } (queDepth k.val) (s.spill k.val)
        (gapMarker q.seq 0xFFFFFFFF true 2 s.devTime)
      (s.setQue k q').count (F.QUE_STAT_RESETS k.val) 1) s

/-- A producer offers a packet (R273). -/
def execQueueOffer (i : Fin 35) (unit_ type_ : Byte) (body : List Dword) (mismatch : Bool) (s : State) :
    Host.Outcome State Fault Refusal := .next (s.queOffer i unit_ type_ body mismatch)

/-- The consumer releases a packet (R272). -/
def execQueueRelease (i : Fin 35) (mismatch : Bool) (s : State) : Host.Outcome State Fault Refusal :=
  .next (s.queRelease i mismatch)

/-- A read of QUE_STAT_i returns the register and clears PEAK. -/
def State.readQueStat (s : State) (i : Fin 35) : State := s.set (F.QUE_STAT_PEAK i.val) 0

/-- A host read of QUE_STAT_i. -/
def execQueStatRead (i : Fin 35) (s : State) : Host.Outcome State Fault Refusal :=
  .next (s.readRow (R.QUE_STAT i.val) (fun s => s.readQueStat i))

end Sys2Proof.Machine
end

