-- ==== Sys2Proof/Machine/Fabric.lean ====
section
/-! DEFINITION. The Derquan fabric in island CM: hellos and links, the draw, adverts, routes, routed frames,
reports and collectors, and fabric commands (R282 to R303, R309). -/

namespace Sys2Proof.Machine

/-- Words of a byte string, eight bytes each, least significant first. -/
def wordsOf : Nat → List Byte → List Dword
  | 0, _ => []
  | n + 1, l => BitVec.ofNat 64 (leNat (l.take 8)) :: wordsOf n (l.drop 8)

/-- Runs an event of island CM while it runs. -/
def State.cm (s : State) (body : State → State) : State := if s.running .cm then body s else s

/-! ### Hellos (R291) -/

/-- A port's PHY link comes up. -/
def execPhyLinkUp (k : Fin 4) (s : State) : Host.Outcome State Fault Refusal :=
  .next (s.cm (fun s =>
    if s.flag (F.FAB_PORT_CFG_EN k.val) = false then s
    else { s with fab := { s.fab with ports := s.fab.ports.set k { s.fab.ports[k] with phy := true } } }))

/-- A port's PHY link drops: its link goes down at once. -/
def execPhyLinkDown (k : Fin 4) (s : State) : Host.Outcome State Fault Refusal :=
  .next (s.cm (fun s =>
    { s with fab := { s.fab with ports := s.fab.ports.set k { s.fab.ports[k] with phy := false } } }.linkDown (.fp k)))

/-- Payload of a hello (R291). -/
def State.helloPayload (s : State) (k : Fin 4) : List Byte :=
  let n := s.get (F.FAB_PORT_STATUS_NEIGH k.val)
  natLE 6 s.identity ++ natLE 2 s.ownAddr ++ natLE 2 (if n = 0 then 0xFFFF else n) ++
    natLE 1 (s.get (F.FAB_PORT_STATUS_COST k.val)) ++ natLE 1 (s.nodeFlags % 8) ++ zeros 4

/-- CM sends a hello on an enabled port with its PHY link up. -/
def execHelloSend (k : Fin 4) (s : State) : Host.Outcome State Fault Refusal :=
  .next (s.cm (fun s =>
    if s.flag (F.FAB_PORT_CFG_EN k.val) = false ∨ s.fab.ports[k].phy = false then s
    else s.sendFrame (.fp k) 1 0 0xFFFF 0 [] (s.helloPayload k)))

/-- A hello is received: a valid one names the neighbour, and brings the link up once each side has heard the
other (R291). The link key takes the sender's address as the hello gives it. -/
def State.helloRx (s : State) (k : Fin 4) (frame : List Byte) : State :=
  let l := Lnk.fp k
  let p := frame.drop 34
  let addr := s.get (linkAddr l)
  let was := (s.nb l).joined
  let t := (s.set (linkAddr l) (fld frame 20 2)).modNb l (fun x => { x with joined := (fld p 11 1).testBit 0 })
  match t.rxFrame (Fin.ofNat 5 k.val) frame [0x01] with
  | (none, t) => (t.set (linkAddr l) addr).modNb l (fun x => { x with joined := was })
  | (some f, t) =>
    let heard := fld f.payload 8 2 == t.ownAddr && t.ownAddr != 0
    let t := t.modNb l (fun x => { x with ident := BitVec.ofNat 48 (fld f.payload 0 6), heardUs := x.heardUs || heard })
    let t := if addr ≠ f.src ∧ t.flag (linkUpF l) = true then t.advertise else t
    t.tryUp l

/-- A hello arrives on a port. -/
def execHelloReceive (k : Fin 4) (frame : List Byte) (s : State) : Host.Outcome State Fault Refusal :=
  .next (s.cm (fun s => s.helloRx k frame))

/-- No valid hello for 40 ms. -/
def execHelloTimeout (k : Fin 4) (s : State) : Host.Outcome State Fault Refusal :=
  .next (s.cm (fun s => s.linkDown (.fp k)))

/-! ### The draw (R288, R289) -/

/-- The candidate address of draw k (R288). -/
def State.candidate (s : State) (k : Nat) : Nat := beNat ((sha256 (natLE 6 s.identity ++ natLE 1 k)).take 2)

/-- The first draw from `k` on whose candidate is not reserved. -/
def State.drawFrom (s : State) : Nat → Nat → Nat
  | 0, k => k
  | n + 1, k =>
    let a := s.candidate k
    if a = 0 ∨ a = 0xFFFE ∨ a = 0xFFFF then s.drawFrom n (k + 1) else k

/-- The module claims an address under a draw count, and advertises the claim (R288). -/
def State.claim (s : State) (addr k : Nat) : State :=
  let s := (s.set F.FAB_STATUS_ADDR addr).set F.FAB_STATUS_STATE 1
  ({ s with fab := { s.fab with k := k, claimAt := s.time.now } }).advertise

/-- A draw begins: the fixed address, the stored one, or candidate 0 (R288). -/
def State.startDraw (s : State) : State :=
  if s.flag F.FAB_ADDR_CFG_FIXED then s.claim (s.get F.FAB_ADDR_CFG_FIX_ADDR) 0
  else match s.fab.stored with
    | some (a, k) => s.claim a.toNat k
    | none =>
      let k := s.drawFrom 256 0
      s.claim (s.candidate k) k

/-- The module yields its claim and draws again (R289). -/
def State.yieldClaim (s : State) : State :=
  let k := s.drawFrom 256 (s.fab.k + 1)
  (s.raise { src := 105 }).claim (s.candidate k) k

/-- A claim has stood for 3 s: the module is joined (R288). -/
def execAddressClaimFinal (s : State) : Host.Outcome State Fault Refusal :=
  .next (s.cm (fun s =>
    if s.get F.FAB_STATUS_STATE ≠ 1 then s
    else
      let s := s.set F.FAB_STATUS_STATE 2
      let keep := if s.flag F.FAB_ADDR_CFG_FIXED then s.fab.stored else some (BitVec.ofNat 16 s.ownAddr, s.fab.k)
      let s := { s with fab := { s.fab with stored := keep } }
      (s.raise { src := 104 }).advertise))

/-- A conflict with another module's claim of the own address is resolved (R289). -/
def State.conflict (s : State) (a : Advert) : State :=
  let mineFixed := s.flag F.FAB_ADDR_CFG_FIXED
  let theirFixed := a.flags.toNat.testBit 4
  let theirJoined := a.flags.toNat.testBit 0
  if a.addr.toNat ≠ s.ownAddr ∨ s.ownAddr = 0 ∨ a.ident.toNat = s.identity ∨ s.get F.FAB_STATUS_STATE = 0 then s
  else if mineFixed && theirFixed then (s.raise { src := 105 }).set F.FAB_STATUS_STATE 0
  else if mineFixed then s
  else if theirFixed then s.yieldClaim
  else if s.joined && !theirJoined then s
  else if !s.joined && theirJoined then s.yieldClaim
  else if a.ident.toNat < s.identity then s.yieldClaim
  else s

/-! ### Adverts (R290, R293) -/

/-- An advert read from its payload; none where its length does not fit. -/
def State.readAdvert (s : State) (p : List Byte) : Option Advert :=
  let m := fld p 14 1
  if 5 < m ∨ p.length ≠ 20 + 4 * m then none
  else some {
    ident := BitVec.ofNat 48 (fld p 0 6), addr := BitVec.ofNat 16 (fld p 6 2), seq := BitVec.ofNat 32 (fld p 8 4),
    age := fld p 12 2, at_ := s.time.now, flags := BitVec.ofNat 8 (fld p 15 1), pair := BitVec.ofNat 16 (fld p 16 2),
    links := (List.range m).map (fun i => (BitVec.ofNat 16 (fld p (20 + 4 * i) 2), fld p (22 + 4 * i) 1, fld p (23 + 4 * i) 1)) }

/-- Serial comparison of sequence numbers modulo 2³². -/
def serialNewer (a b : Word) : Bool := decide (0 < (a - b).toNat) && decide ((a - b).toNat < 2 ^ 31)

/-- Whether two adverts have the same content: all but sequence number and age (R328). -/
def Advert.sameAs (a b : Advert) : Bool :=
  a.ident == b.ident && a.addr == b.addr && a.flags == b.flags && a.pair == b.pair && a.links == b.links

/-- The state with the database replaced, and FAB_NODES.NODES. -/
def State.setDb (s : State) (l : List Advert) : State :=
  ({ s with fab := { s.fab with db := l } }).set F.FAB_NODES_NODES l.length

/-- An advert taken into the database, flooded, and its conflict resolved (R289, R290, R293). -/
def State.takeAdvert (s : State) (a : Advert) (from_ : Option Lnk) : State :=
  if a.ident.toNat = s.identity then
    let own := s.ownAdvert
    if serialNewer a.seq own.seq || (a.seq == own.seq && !(a.sameAs own)) then
      ({ s with fab := { s.fab with ownSeq := a.seq } }).advertise
    else s
  else match s.fab.db.find? (fun x => x.ident == a.ident) with
    | some old =>
      if serialNewer a.seq old.seq then
        let s := s.setDb (s.fab.db.map (fun x => if x.ident = a.ident then a else x))
        (s.flood a (a.age + 1) from_ (!(a.sameAs old))).conflict a
      else s
    | none =>
      if 4096 ≤ s.fab.db.length then s.raise { src := 109 }
      else ((s.setDb (s.fab.db ++ [a])).flood a (a.age + 1) from_ true).conflict a

/-- A frame taken from the mains tone link leaves that link's receive queue, where it stands at the front
(R268, R323). -/
def State.takeTone (s : State) (port : Fin 5) (frame : List Byte) : State :=
  match port.val, s.ques[(0x1B : Fin 35)].pkts with
  | 4, pkt :: _ => if pkt.drop 1 = wordsOf ((frame.length + 7) / 8) frame then s.queRelease 0x1B false else s
  | _, _ => s

/-- An advert of a neighbour's frame: one per originator per second (R287). -/
def State.advertRx (s : State) (port : Fin 5) (frame : List Byte) : State :=
  match s.rxFrame port frame [0x02] with
  | (none, s) => s
  | (some f, s) =>
    match s.readAdvert f.payload with
    | none => s.badFabric port
    | some a =>
      let seen := (s.nb f.link).advRate.filter (fun x => decide (s.time.now < x.2 + 1000000))
      if seen.any (fun x => x.1 == a.ident) then s.badFabric port
      else (s.modNb f.link (fun x => { x with advRate := (a.ident, s.time.now) :: seen })).takeAdvert a (some f.link)

/-- A link-state advert arrives. -/
def execLinkStateAdvertReceive (port : Fin 5) (frame : List Byte) (s : State) : Host.Outcome State Fault Refusal :=
  .next (s.cm (fun s => (s.takeTone port frame).advertRx port frame))

/-- A changed advert of the module is repeated on the fabric ports (R293, R328). -/
def execAdvertRepeat (s : State) : Host.Outcome State Fault Refusal :=
  .next (s.cm (fun s =>
    if s.fab.repeats = 0 then s
    else
      let s := { s with fab := { s.fab with repeats := s.fab.repeats - 1 } }
      let a := s.ownAdvert
      (((List.finRange 4).map Lnk.fp).filter s.usable).foldl (fun (s : State) l => s.sendFrame l 2 0 0xFFFF 0 [] (a.bytes 0)) s))

/-- The module refreshes its own advert (R293). -/
def execAdvertRefresh (s : State) : Host.Outcome State Fault Refusal :=
  .next (s.cm (fun s =>
    let s := { s with fab := { s.fab with ownSeq := s.fab.ownSeq + 1 } }
    s.flood s.ownAdvert 0 none false))

/-- A stored advert reaches age 120 s: it and its originator leave the database (R290, R293). -/
def execAdvertAgeOut (ident : BitVec 48) (s : State) : Host.Outcome State Fault Refusal :=
  .next (s.cm (fun s => s.setDb (s.fab.db.filter (fun a => a.ident != ident))))

/-! ### Link costs, suppression and quarantine (R287, R292) -/

/-- A new cost of a link: advertised when it differs by 8 or reaches 255, at most once in its interval (R292, R326). -/
def State.newCost (s : State) (l : Lnk) (cost interval : Nat) : State :=
  let old := s.get (linkCostF l)
  let due := match (s.nb l).costAt with
    | some t => decide (t + interval ≤ s.time.now)
    | none => true
  let far := decide (8 ≤ ((cost : Int) - (old : Int)).natAbs) || (cost == 255 && old != 255)
  if s.flag (linkUpF l) = false ∨ s.flag (linkSupprF l) = true ∨ due = false ∨ far = false then s
  else
    let s := (s.set (linkCostF l) cost).modNb l (fun x => { x with costAt := some s.time.now })
    s.advertise

/-- A fabric port's link cost from its bad frames per 1,000 over 10 s and the mean fill in words of its
transmit queue over 1 s (R292). -/
def execLinkCostUpdate (k : Fin 4) (badPerMille meanFill : Nat) (s : State) : Host.Outcome State Fault Refusal :=
  .next (s.cm (fun s =>
    let c := min 255 (s.get (F.FAB_PORT_CFG_BASE k.val) + min 100 badPerMille + 100 * meanFill / 8192)
    s.newCost (.fp k) c 2000000))

/-- The link that a port and a neighbour index name: on ports 0 to 3 the port's own. -/
def linkNamed (port : Fin 5) (j : Fin 32) : Lnk :=
  if port.val < 4 then .fp (Fin.ofNat 4 port.val) else .tl j

/-- A suppressed link's period ends (R292, R326). -/
def execLinkSuppressionEnd (port : Fin 5) (j : Fin 32) (s : State) : Host.Outcome State Fault Refusal :=
  .next (s.cm (fun s =>
    let l := linkNamed port j
    if s.flag (linkSupprF l) = false then s
    else
      let s := s.set (linkSupprF l) 0
      let s := s.set (linkCostF l) (s.baseCost l)
      if s.flag (linkUpF l) then s.advertise else s))

/-- QUAR_TIME seconds of a quarantine have passed (R287). -/
def execQuarantineEnd (port : Fin 5) (j : Fin 32) (s : State) : Host.Outcome State Fault Refusal :=
  .next (s.cm (fun s => s.endQuarantine (linkNamed port j)))

/-- Command 0x0904: clear quarantine of a port (R287, R309). -/
def execClearQuarantine (d : Desc) (s : State) : Host.Outcome State Fault Refusal :=
  .next (s.command d { opcode := 0x0904, priv := some 1, isl := .cm, params := [(24, 1)] } [(24, decide (3 < d.n 24 1))]
    (fun s => (s.endQuarantine (.fp (Fin.ofNat 4 (d.n 24 1)))).ok d []))

/-- Command 0x0906: advance key epoch (R285); cached keys of epochs no longer current or previous are wiped
(R343). -/
def execAdvanceKeyEpoch (d : Desc) (s : State) : Host.Outcome State Fault Refusal :=
  .next (s.command d { opcode := 0x0906, priv := some 1, isl := .cm } [] (fun s =>
    let e := (s.get F.FAB_KEY_EPOCH_EPOCH + 1) % 65536
    let s := s.set F.FAB_KEY_EPOCH_EPOCH e
    let s := { s with key := { s.key with cache := s.key.cache.filter (fun c => s.epochs.contains c.2.1) } }
    s.ok d (natLE 2 e)))

/-! ### Routes (R294, R327) -/

/-- A directed link of the fabric's graph: from the node that advertises it. -/
structure Edge where
  src : Half
  dst : Half
  cost : Nat
  port : Nat
  deriving DecidableEq, Repr

/-- A walk from the module: the edges taken, newest first. -/
abbrev Walk := List Edge

/-- The usable links of the graph: those of the module and of every stored advert (R292, R294). -/
def State.edges (s : State) : List Edge :=
  let of := fun (src : Half) (l : List (Half × Nat × Nat)) => l.map (fun x => (⟨src, x.1, x.2.1, x.2.2⟩ : Edge))
  (of (BitVec.ofNat 16 s.ownAddr) s.ownLinks ++ s.fab.db.flatMap (fun a => of a.addr a.links)).filter
    (fun e => decide (e.cost < 255) && e.dst != BitVec.ofNat 16 s.ownAddr)

/-- Total cost of a walk. -/
def walkCost (w : Walk) : Nat := (w.map Edge.cost).sum
/-- First hop's address of a walk. -/
def walkFirst (w : Walk) : Nat := match w.getLast? with
  | some e => e.dst.toNat
  | none => 0
/-- The node a walk ends at. -/
def walkEnd (w : Walk) : Option Half := w.head?.map Edge.dst
/-- Whether every link of a walk is a port-4 link. -/
def walkTone (w : Walk) : Bool := w.all (fun e => e.port == 4)

/-- Whether a walk is better than another: least cost, then fewer hops, then the lower first hop. -/
def walkBetter (a b : Walk) : Bool :=
  let ca := walkCost a
  let cb := walkCost b
  decide (ca < cb) || (ca == cb && (decide (a.length < b.length) || (a.length == b.length && decide (walkFirst a < walkFirst b))))

/-- The best of a list of walks. -/
def bestWalk : List Walk → Option Walk
  | [] => none
  | w :: t => some (t.foldl (fun b x => if walkBetter x b then x else b) w)

/-- A walk put among the best of its length: one for each end, and one more for those on port-4 links only,
so that the limit of R327 leaves out no other path. -/
def keepWalk (l : List Walk) (w : Walk) : List Walk :=
  let same := fun (x : Walk) => walkEnd x == walkEnd w && walkTone x == walkTone w
  match l.find? same with
  | none => l ++ [w]
  | some x => if walkBetter w x then l.map (fun y => if y = x then w else y) else l

/-- The best walks of one more link. -/
def nextWalks (edges : List Edge) (ws : List Walk) : List Walk :=
  (ws.flatMap (fun w => (edges.filter (fun e => some e.src == walkEnd w)).map (fun e => e :: w))).foldl keepWalk []

/-- The best walks of 1 to `n` links after those given. -/
def walksUpTo (edges : List Edge) : Nat → List Walk → List Walk
  | 0, _ => []
  | n + 1, ws => ws ++ walksUpTo edges n (nextWalks edges ws)

/-- The walks of at most 16 hops over some edges, at most 15 of them on port 4. -/
def walksFrom (own : Half) (edges : List Edge) : List Walk :=
  let first := ((edges.filter (fun e => e.src == own)).map (fun e => [e])).foldl keepWalk []
  (walksUpTo edges 16 first).filter (fun w => decide (w.length < 16) || !(walkTone w))

/-- A walk as a route. -/
def walkRoute (w : Walk) : Route :=
  { hops := w.reverse.map Edge.dst, cost := walkCost w, port := match w.getLast? with
      | some e => e.port
      | none => 0 }

/-- The entry of a destination: the least-cost path, and the least-cost one that shares no link and no
intermediate node with it (R294). -/
def routeEntry (own : Half) (edges : List Edge) (ws : List Walk) (dest : Half) : Option RouteEntry :=
  match bestWalk (ws.filter (fun w => walkEnd w == some dest)) with
  | none => none
  | some w =>
    let mid := (w.map Edge.dst).filter (fun a => a != dest)
    let rest := edges.filter (fun e => !(w.contains e) && !(mid.contains e.src) && !(mid.contains e.dst))
    let sec := bestWalk ((walksFrom own rest).filter (fun x => walkEnd x == some dest))
    some ⟨dest, walkRoute w, sec.map walkRoute⟩

/-- The collectors that the module names (R296). -/
def State.collectors (s : State) : List Half :=
  ([s.get F.FAB_COLL_CFG_COLL_A, s.get F.FAB_COLL_CFG_COLL_B].filter (· != 0)).eraseDups.map (BitVec.ofNat 16)

/-- The route table's entry of a destination. -/
def State.routeTo (s : State) (dest : Half) : Option RouteEntry := s.fab.routes.find? (fun r => r.dest == dest)

/-- FAB_STATUS.SINGLE: some named collector has no secondary route (R298). -/
def State.showSingle (s : State) : State :=
  s.set F.FAB_STATUS_SINGLE (s.collectors.any (fun c => match s.routeTo c with
    | some r => r.sec.isNone
    | none => true)).toNat

/-- The port-4 advert set (R328): collectors, nodes on the routes to the named collectors, nodes with a port-4
link, and nodes that claim the address of one of these; at most 128. -/
def State.advCandidates (s : State) : List (BitVec 48) :=
  let all := s.ownAdvert :: s.fab.db
  let onRoute := (s.collectors.filterMap s.routeTo).flatMap (fun r => r.prim.hops ++ (match r.sec with
    | some x => x.hops
    | none => []))
  let tone := fun (a : Advert) => a.links.any (fun l => l.2.2 == 4)
  let toneAddr := (all.filter tone).map Advert.addr
  let cls := fun (p : Advert → Bool) => (all.filter p).map Advert.ident
  (cls (fun a => a.flags.toNat.testBit 1) ++ cls (fun a => onRoute.contains a.addr) ++ cls tone ++
    cls (fun a => toneAddr.contains a.addr)).eraseDups

/-- The set recomputed; originators newly left out are counted (R328). -/
def State.updateAdvSet (s : State) : State :=
  let c := s.advCandidates
  let left := c.drop 128
  let new := left.filter (fun i => !(s.mtl.left.contains i))
  let s := { s with mtl := { s.mtl with advSet := c.take 128, left := left } }
  let s := s.set F.MTL_ADVSET_SET (c.take 128).length
  if new = [] then s
  else (s.count F.MTL_ADVSET_FILTERED new.length).raise { src := 116, every := 60000000 }

/-- Routes recomputed; entries are replaced whole (R294). -/
def State.recompute (s : State) : State :=
  let own := BitVec.ofNat 16 s.ownAddr
  let edges := s.edges
  let ws := walksFrom own edges
  let dests := ((s.fab.db.map Advert.addr).eraseDups).filter (fun a => a != own && a != 0)
  let r := dests.filterMap (routeEntry own edges ws)
  let s := { s with fab := { s.fab with routes := r } }
  let s := s.set F.FAB_NODES_ROUTES (r.length + (r.filter (fun x => x.sec.isSome)).length)
  s.showSingle.updateAdvSet

/-- CM recomputes its routes after a change of the database. -/
def execRouteRecompute (s : State) : Host.Outcome State Fault Refusal := .next (s.cm State.recompute)

/-- Cost, hops and first port of a route, or 0xFF each. -/
def routeBytes : Option Route → List Byte
  | some r => natLE 1 (min 255 r.cost) ++ natLE 1 r.hops.length ++ natLE 1 r.port
  | none => [0xFF, 0xFF, 0xFF]

/-- Command 0x0901: route lookup (R309). -/
def execRouteLookup (d : Desc) (s : State) : Host.Outcome State Fault Refusal :=
  .next (s.command d { opcode := 0x0901, priv := some 1, isl := .cm, params := [(24, 2)] } [] (fun s =>
    let e := s.routeTo (BitVec.ofNat 16 (d.n 24 2))
    s.ok d (routeBytes (e.map RouteEntry.prim) ++ routeBytes (e.bind RouteEntry.sec))))

/-! ### Routed frames (R295) -/

/-- The usable link to a neighbour address: on the port given, or on any. -/
def State.linkTo (s : State) (addr : Half) (port : Option Nat) : Option Lnk :=
  links.find? (fun l => s.usable l && s.get (linkAddr l) == addr.toNat && (match port with
    | some p => linkPort l == p
    | none => true))

/-- A frame sent along a route from its source (R295). -/
def State.sendRoute (s : State) (r : Route) (type_ flags : Nat) (payload : List Byte) : State :=
  match r.hops with
  | [] => s
  | h :: _ =>
    match s.linkTo h (some r.port) with
    | some l => s.sendFrame l type_ flags (match r.hops.getLast? with
        | some d => d.toNat
        | none => 0) 0 r.hops payload
    | none => s.badFabric (Fin.ofNat 5 r.port)

/-! ### Reports and collectors (R298 to R301) -/

/-- Bytes of words. -/
def bytesOf (l : List Dword) : List Byte := (l.map (fun w => natLE 8 w.toNat)).flatten

/-- An accepted report enters the collector reports queue as one packet (R301): acceptance time, then flags,
port and length, then its bytes. -/
def State.collect (s : State) (port relay : Nat) (bytes : List Byte) : State :=
  let n := (bytes.length + 7) / 8
  let head := [BitVec.ofNat 64 s.devTime, BitVec.ofNat 64 (relay + port <<< 16 + bytes.length <<< 32)]
  s.queOffer 0x19 (BitVec.ofNat 8 port) 0x19 (head ++ wordsOf n bytes) false

/-- The duplicate-discard table with an entry replaced or added, and FAB_DUP_STATUS.SOURCES. -/
def State.setDups (s : State) (l : List DupEntry) : State :=
  ({ s with fab := { s.fab with dups := l } }).set F.FAB_DUP_STATUS_SOURCES l.length

/-- The entry unused for the longest time, if that is 600 s or more. -/
def State.staleDup (s : State) : Option DupEntry :=
  (s.fab.dups.filter (fun e => decide (e.used + 600000000 ≤ s.time.now))).foldl (fun acc e => match acc with
    | some a => if e.used < a.used then some e else some a
    | none => some e) none

/-- A collector takes a report and checks it against its table (R300). -/
def State.reportRx (s : State) (port : Nat) (type_ : Nat) (p : List Byte) : State :=
  let seq := BitVec.ofNat 32 (fld p 0 4)
  let src := BitVec.ofNat 16 (fld p 10 2)
  let now := s.time.now
  let accept := fun (s : State) =>
    if type_ = 0x30 then s.collect port 1 ((p.drop 24).take (fld p 20 4)) else s.collect port 0 p
  if s.flag F.FAB_REP_CFG_IS_COLL = false ∨ p.length < 24 then s
  else match s.fab.dups.find? (fun e => e.src == src) with
    | none =>
      let new : DupEntry := ⟨src, seq, 1, now⟩
      if s.fab.dups.length < 2048 then accept (s.setDups (s.fab.dups ++ [new]))
      else match s.staleDup with
        | some e => accept (s.setDups (s.fab.dups.filter (fun x => x.src != e.src) ++ [new]))
        | none => (s.count F.FAB_DROPS_FULL 1).raise { src := 107, every := 60000000 }
    | some e =>
      let put := fun (s : State) (e : DupEntry) => s.setDups (s.fab.dups.map (fun x => if x.src = e.src then e else x))
      let back := (e.newest - seq).toNat
      if serialNewer seq e.newest then
        let r := (Replay.take ⟨some e.newest, e.bits⟩ seq).getD ⟨some seq, 1⟩
        accept (put s ⟨src, seq, r.bits, now⟩)
      else if back < 64 then
        if e.bits.toNat.testBit back then (put s { e with used := now }).count F.FAB_DUP_STATUS_DISCARDED 1
        else accept (put s { e with bits := e.bits ||| (1 <<< back), used := now })
      else (put s { e with used := now }).count F.FAB_DROPS_OLD 1

/-- A report reaches a collector (R300). -/
def execReportReceive (port : Fin 5) (payload : List Byte) (type_ : Byte) (s : State) : Host.Outcome State Fault Refusal :=
  .next (s.cm (fun s => if [0x10, 0x11, 0x12, 0x30].contains type_.toNat then s.reportRx port.val type_.toNat payload else s))

/-- A collector store entry (R301). -/
def collectorEntry (flags port time : Nat) (bytes : List Byte) : List Byte :=
  let body := padTo ((bytes.length + 7) / 8 * 8) bytes
  natLE 4 (16 + body.length) ++ natLE 2 flags ++ natLE 2 port ++ natLE 8 time ++ body

/-- The collector store entry of a queue packet: a report, or the gap entry of a gap marker (R274, R301). -/
def packetEntry (pkt : List Dword) : List Byte :=
  let h := (nth pkt 0 0).toNat
  let w := (nth pkt 1 0).toNat
  if bitsOf h 47 40 = 0xFF then
    collectorEntry 2 0 (nth pkt 2 0).toNat (natLE 4 (bitsOf w 63 32) ++ natLE 2 (bitsOf h 63 48))
  else
    let x := (nth pkt 2 0).toNat
    collectorEntry (bitsOf x 0 0) (bitsOf x 31 16) w ((bytesOf (pkt.drop 3)).take (bitsOf x 63 32))

/-- E12 writes the oldest packet of the collector reports queue to the collector store (R301). -/
def execCollectorStoreWrite (s : State) : Host.Outcome State Fault Refusal :=
  .next (s.cm (fun s =>
    match s.ques[(0x19 : Fin 35)].pkts with
    | [] => s
    | pkt :: _ =>
      let s := s.queRelease 0x19 false
      (s.writeStore ⟨4, 0, packetEntry pkt⟩).raise { src := 108, every := 1000000 }))

/-- Command 0x0905: locate collector store (R301, R309). -/
def execLocateCollectorStore (d : Desc) (s : State) : Host.Outcome State Fault Refusal :=
  .next (s.command d { opcode := 0x0905, priv := some 0, isl := .cm } [] (fun s =>
    s.ok d (natLE 8 (boathouseBase + ringAt 4 0) ++ natLE 4 (ringSize 4) ++ natLE 4 (s.storeNewest 4 0))))

/-- Reports whose spreading offset has ended are issued while the module has joined; else they are not (R296,
R299). -/
def execReportSpreadDue (s : State) : Host.Outcome State Fault Refusal :=
  .next (s.cm (fun s =>
    let due := s.fab.reports.filter (fun r => r.seq.isNone && decide (r.due ≤ s.time.now))
    let s := { s with fab := { s.fab with reports := s.fab.reports.filter (fun r => r.seq.isSome || decide (s.time.now < r.due)) } }
    if s.joined && !s.stroke then due.foldl (fun (s : State) r => s.issueReport r.type_ r.body) s else s))

/-- A report sent to a collector over both routes (R298). -/
def State.sendReport (s : State) (r : Report) (coll : Half) : State :=
  match s.routeTo coll with
  | none => s.badFabric 0
  | some e =>
    let s := s.sendRoute e.prim r.type_.toNat 0 r.body
    match e.sec with
    | some x => s.sendRoute x r.type_.toNat 1 r.body
    | none => (s.set F.FAB_STATUS_SINGLE 1).raise { src := 106, every := 60000000 }

/-- The oldest issued report is sent, once its copy is acknowledged or 1 ms has passed (R298, R306). -/
def execReportSend (s : State) : Host.Outcome State Fault Refusal :=
  .next (s.cm (fun s =>
    match s.fab.reports.find? (fun r => r.seq.isSome) with
    | none => s
    | some r =>
      if s.joined = false ∨ s.stroke = true then s
      else
        let s := { s with fab := { s.fab with reports := s.fab.reports.erase r } }
        s.collectors.foldl (fun (s : State) c => s.sendReport r c) s))

/-- An MMD5206 report frame arrives: relayed, within 10 per second, as the body of a report (R302). -/
def execMmd5206Frame (k : Fin 4) (frame : List Byte) (s : State) : Host.Outcome State Fault Refusal :=
  .next (s.cm (fun s =>
    let p := s.fab.ports[k]
    let recent := s.recent 1000000 p.rate5206
    if s.flag (F.FAB_PORT_CFG_EN k.val) = false ∨ p.phy = false then s
    else match derquan (Fin.ofNat 5 k.val) frame with
      | none => s.badFabric (Fin.ofNat 5 k.val)
      | some f =>
        if s.flag (F.FAB_PORT_CFG_M5206_EN k.val) = false ∨ fld f 0 1 ≠ 1 ∨ 10 ≤ recent.length then
          s.badFabric (Fin.ofNat 5 k.val)
        else
          let s := { s with fab := { s.fab with ports := s.fab.ports.set k { p with rate5206 := s.time.now :: recent } } }
          if s.joined && !s.stroke && s.collectors != [] then s.issueReport 0x30 f else s))

/-! ### Fabric commands (R303) -/

/-- The command key (R303). -/
def State.commandKey (s : State) : Option (List Byte × State) :=
  (s.mayUse 12 (s.get F.FAB_KEY_CFG_CMD_SLOT) 3).map (fun k => (k.material, s.countUse k.no))

/-- The privileges that a command needs (R266), as bits. -/
def opcodePrivs (d : Desc) : List Nat :=
  let op := d.opcode
  if op = 0x0001 ∨ opcodeIsl op = none then []
  else if op = 0x0109 ∨ op = 0x0204 ∨ op = 0x0205 then [2]
  else if op = 0x0202 then (if d.n 24 1 = 5 then [0, 2] else [0])
  else if op = 0x010A ∨ op = 0x0203 ∨ op = 0x0401 ∨ op = 0x0402 ∨ op = 0x0501 ∨ op = 0x0502 ∨ op = 0x0C01 then [1]
  else if op / 256 = 7 then (if op = 0x0704 ∨ op = 0x0705 then [0] else [3])
  else if op / 256 = 8 then [4]
  else if op / 256 = 9 ∨ op / 256 = 10 then (if op = 0x0905 then [0] else [1])
  else [0]

/-- The completion of a fabric command returned to its sender over the primary route, tagged over it and the
sender's counter `c` (R303). -/
def State.fabricReply (s : State) (node : Half) (r : Result) (c : Dword) : State :=
  let body := natLE 2 (r.desc.n 4 2) ++ zeros 2 ++ natLE 2 r.status ++ natLE 2 r.detail ++ slice r.desc.bytes 56 8 ++
    padTo 16 r.bytes
  match s.commandKey, s.routeTo node with
  | some (key, s), some e => s.sendRoute e.prim 0x21 0 (body ++ (hmac256 key (body ++ natLE 8 c.toNat)).take 16)
  | _, _ => s

/-- The result of an accepted fabric command goes back under the counter that came with it (R303); a command that CM
no longer holds is not answered. -/
def State.fabricAnswer (s : State) (node : Half) (r : Result) : State :=
  let s := { s with host := { s.host with inFlight := s.host.inFlight.erase r.desc } }
  match s.fab.waiting.lookup r.desc with
  | none => s
  | some c => State.fabricReply { s with fab := { s.fab with waiting := s.fab.waiting.erase (r.desc, c) } } node r c

/-- A fabric command refused: its completion, and EV111 (R303). -/
def State.fabricRefuse (s : State) (d : Desc) (node : Half) (c : Dword) (status detail : Nat) : State :=
  (s.fabricReply node ⟨d, status, detail, []⟩ c).raise { src := 111 }

/-- An accepted fabric command waits for its execution; an opcode that the catalogue does not have is answered at
once (R260, R303). -/
def State.fabricAccept (s : State) (d : Desc) (node : Half) (c : Dword) : State :=
  let s := { s with
    host := { s.host with inFlight := if s.host.inFlight.length < 256 then s.host.inFlight ++ [d] else s.host.inFlight },
    fab := { s.fab with
      counters := (node, c) :: (s.fab.counters.filter (fun x => x.1 != node)).take 31,
      waiting := s.fab.waiting ++ [(d, c)] } }
  if (opcodeIsl d.opcode).isNone then s.complete d 0x0001 0 [] else s

/-- A fabric command's payload received: its tag, its counter and its privileges; an accepted command waits for
its execution like a dispatched one (R303). -/
def State.fabricCommandRx (s : State) (p : List Byte) : State :=
  let node := BitVec.ofNat 16 (fld p 0 2)
  let ctr := BitVec.ofNat 64 (fld p 4 8)
  let d : Desc := ⟨.fabric node, slice p 12 64⟩
  if p.length ≠ 92 ∨ fld p 2 2 ≠ s.ownAddr then s
  else match s.commandKey with
    | none => s.fabricRefuse d node ctr 0x0009 0
    | some (key, s) =>
      let newer := match s.fab.counters.lookup node with
        | some c => decide (c.toNat < ctr.toNat)
        | none => true
      if (hmac256 key (p.take 76)).take 16 ≠ p.drop 76 ∨ newer = false then s.fabricRefuse d node ctr 0x0009 0
      else match (opcodePrivs d).find? (fun b => !((s.privs d.src).testBit b)) with
        | some b => s.fabricRefuse d node ctr 0x0003 b
        | none => s.fabricAccept d node ctr

/-- A fabric command arrives at its destination. -/
def execFabricCommandReceive (payload : List Byte) (s : State) : Host.Outcome State Fault Refusal :=
  .next (s.cm (fun s => s.fabricCommandRx payload))

/-- A fabric command's completion received: that of the outstanding command whose counter its tag covers. -/
def State.fabricCompletionRx (s : State) (p : List Byte) : State :=
  match s.commandKey with
  | none => s
  | some (key, s) =>
    let mine := fun (r : RemoteCmd) => (hmac256 key (p.take 32 ++ natLE 8 r.counter.toNat)).take 16 == p.drop 32
    if p.length ≠ 48 then s
    else match s.fab.remote.find? mine with
      | none => s
      | some r =>
        let s := { s with fab := { s.fab with remote := s.fab.remote.erase r } }
        s.ok r.desc (p.take 16)

/-- The completion of a fabric command returns to the module that sent it. -/
def execFabricCommandCompletion (payload : List Byte) (s : State) : Host.Outcome State Fault Refusal :=
  .next (s.cm (fun s => s.fabricCompletionRx payload))

/-- Command 0x0902: send fabric command (R303, R309). -/
def execSendFabricCommand (d : Desc) (s : State) : Host.Outcome State Fault Refusal :=
  .next (s.command d { opcode := 0x0902, priv := some 1, isl := .cm, params := [(24, 2)], staged := .len 64 64 false } []
    (fun s =>
      let dest := BitVec.ofNat 16 (d.n 24 2)
      let ctr := s.fab.ownCounter + 1
      let r : RemoteCmd := ⟨d, dest, ctr⟩
      let s := { s with fab := { s.fab with ownCounter := ctr, remote := s.fab.remote ++ [r] } }
      let body := natLE 2 s.ownAddr ++ natLE 2 dest.toNat ++ natLE 8 ctr.toNat ++ s.staged d
      match s.commandKey, s.routeTo dest with
      | some (key, s), some e => s.sendRoute e.prim 0x20 0 (body ++ (hmac256 key body).take 16)
      | _, _ => s))

/-- No completion of the oldest outstanding fabric command within 2 s (R309). -/
def execFabricCommandTimeout (s : State) : Host.Outcome State Fault Refusal :=
  .next (s.cm (fun s =>
    match s.fab.remote with
    | [] => s
    | r :: rest => { s with fab := { s.fab with remote := rest } }.complete r.desc 0x000A Isl.cm.code []))

/-! ### Forwarding and delivery (R295) -/

/-- A routed frame at its destination. -/
def State.deliver (s : State) (port type_ : Nat) (p : List Byte) : State :=
  if type_ = 0x20 then s.fabricCommandRx p
  else if type_ = 0x21 then s.fabricCompletionRx p
  else s.reportRx port type_ p

/-- A routed frame received: delivered at its last hop, else re-tagged and sent on to its next (R295). -/
def State.routedRx (s : State) (port : Fin 5) (frame : List Byte) : State :=
  match s.rxFrame port frame [0x10, 0x11, 0x12, 0x20, 0x21, 0x30] with
  | (none, s) => s
  | (some f, s) =>
    let type_ := match derquan port frame with
      | some x => fld x 1 1
      | none => 0
    if f.route[f.index]? ≠ some (BitVec.ofNat 16 s.ownAddr) then s.badFabric port
    else match f.route[f.index + 1]? with
      | none => s.deliver port.val type_ f.payload
      | some h =>
        match s.linkTo h none with
        | none => s.badFabric port
        | some l => s.sendFrame l type_ f.flags f.dest (f.index + 1) f.route f.payload

/-- A routed frame arrives. -/
def execRoutedFrameForward (port : Fin 5) (frame : List Byte) (s : State) : Host.Outcome State Fault Refusal :=
  .next (s.cm (fun s => (s.takeTone port frame).routedRx port frame))

end Sys2Proof.Machine
end

