-- ==== Sys2Proof/Machine/Samples.lean ====
section
/-! DEFINITION. From sample codes to calibrated values: the filter chain of R57, the input types of R47 and
the calibration set of R60. What has no coefficients in the spec is a constant of Config. -/

namespace Sys2Proof.Machine

/-- Full scale at the land of an input type, in volts (R47). -/
def fullScale (t : Nat) : Rat := if t = 2 ∨ t = 4 then 1 / 20 else 1 / 2

/-- GAIN, OFFSET and PHASE of a bank, an input and a band; set 0 where no set was loaded (R60, R61). -/
def calEntry (cal : Option (List Byte)) (bank input band : Nat) : Rat × Int × Int :=
  match cal with
  | none => (1, 0, 0)
  | some b =>
    let o := 16 + 12 * ((bank * 24 + input) * 8 + band)
    ((fld b o 4 : Rat) / 2 ^ 30, sfld b (o + 4) 4, sfld b (o + 8) 2)

/-- A function of every sequence that ends at one of the newest `n` elements, newest first. -/
def onTails {α : Type} (f : List α → Rat) : Nat → List α → List Rat
  | 0, _ => []
  | n + 1, l =>
    match l with
    | [] => []
    | _ :: t => f l :: onTails f n t

/-- Mean of a sequence; 0 of an empty one. -/
def mean (l : List Rat) : Rat := if l = [] then 0 else l.sum / (l.length : Rat)

/-- The codes of one input, newest first: the quantum's and the 63 before it. -/
def codes (cl : ClosedQ) (hist : List (List Int)) (i : Nat) : List Int :=
  (cl.rows.reverse ++ hist).map (fun r => nth r i 0)

/-- The calibrated values of one input at the land, in volts, newest first (steps 2 to 4 of R57). -/
def calLand (s : State) (c : Fin 3) (cl : ClosedQ) (hist : List (List Int)) (i : Nat) : List Rat :=
  let t := cl.get s (F.MET_INCFG_TYPE i)
  if t = 0 then cl.rows.map (fun _ => 0)
  else
    let e := calEntry cl.cal c.val i cl.band
    let n := cl.rows.length
    let fir := onTails (fun l => Config.fir (l.take 63)) (n + hist.length) (codes cl hist i)
    let s1 := fir.map (fun x => e.1 * (x - (e.2.1 : Rat)))
    let s2 := onTails (Config.delay e.2.2) n s1
    let sg : Rat := if cl.get s (F.MET_INCFG_INVERT i) = 1 then -1 else 1
    s2.map (fun x => sg * x * fullScale t / 2 ^ 23)

/-- The leaky integrator of R57 step 5 over a sequence, oldest first: its outputs and its last state. -/
def integrate : List Rat → Rat × Rat → List Rat × (Rat × Rat)
  | [], st => ([], st)
  | x :: t, (y, x0) =>
    let y' := (1 - 1 / 2 ^ 14) * y + (1 / 32000) * (x + x0)
    let r := integrate t (y', x)
    (y' :: r.1, r.2)

/-- The processed values of a voltage or current input in primary units, newest first, with the
integrator's state after them (steps 5 to 7 of R57). `ac` asks for DC removal; `seed` stands for the older
past of the high-pass filter. -/
def primary (s : State) (c : Fin 3) (cl : ClosedQ) (hist : List (List Int)) (st : Rat × Rat) (ac f60 : Bool)
    (seed i : Nat) : List Rat × (Rat × Rat) :=
  let t := cl.get s (F.MET_INCFG_TYPE i)
  let land := calLand s c cl hist i
  let scale := cl.num s (R.MET_INSCALE i)
  let r := if t = 4 then
      let x := integrate land.reverse st
      (x.1.reverse.map (fun y => y * 2 * Config.pi * (if f60 then 60 else 50)), x.2)
    else (land, st)
  let v := if ac && (t == 1 || t == 2 || t == 3 || t == 4) || t == 3 || t == 4 then
      onTails (Config.highPass seed) r.1.length r.1
    else r.1
  (v.map (fun x => x * scale), r.2)

/-- Whether an input carries a 4–20 mA current or an RTD that is failed or out of range in a quantum, or is
overranged (R49, R50, R51), with its engineering value (R49, R80). -/
def slowInput (s : State) (c : Fin 3) (cl : ClosedQ) (hist : List (List Int)) (i : Nat) : Bool × Rat :=
  let t := cl.get s (F.MET_INCFG_TYPE i)
  let m := mean (calLand s c cl hist i)
  let ovd := cl.ovr.toNat.testBit i
  if t = 5 then
    let ma := m / 20 * 1000
    (ovd || decide (ma < 36 / 10) || decide (21 < ma), (ma - 4) * cl.num s (R.MET_INSCALE i))
  else
    let r0 : Rat := if t = 6 then 100 else 1000
    let ohm : Rat := if t = 6 then m * 1000 else m * 10000
    let temp := Config.cvd r0 ohm
    (ovd || decide (temp < -200) || decide (850 < temp), temp)

end Sys2Proof.Machine
end

