-- ==== Sys2Proof/Machine/Fluid.lean ====
section
/-! DEFINITION. Steam, compressed air and water: pulses, the field ports, the property unit, substitution,
primary flow and the quantities of a quantum (chapter 3). -/

namespace Sys2Proof.Machine

/-! ### Field ports (R86 to R90) -/

/-- The state with a Modbus entry replaced. -/
def State.setEntry (s : State) (e : Fin 16) (x : MbEntry) : State :=
  { s with met := { s.met with entries := s.met.entries.set e x } }

/-- The state with the transaction of a port replaced. -/
def State.setBusy (s : State) (k : Fin 4) (x : Option (Fin 16 × Nat)) : State :=
  { s with met := { s.met with busy := s.met.busy.set k x } }

/-- One count of a port advanced: 0 timeouts, 1 discarded frames, 2 exceptions. -/
def State.fdCount (s : State) (k : Fin 4) (which : Nat) : State :=
  let x := s.met.fdErr[k]
  let x := match which with
    | 0 => (min 0xFFF (x.1 + 1), x.2)
    | 1 => (x.1, min 0xFFF (x.2.1 + 1), x.2.2)
    | _ => (x.1, x.2.1, min 0xFF (x.2.2 + 1))
  { s with met := { s.met with fdErr := s.met.fdErr.set k x } }

/-- Registers that a data format reads (R86). -/
def fmtRegs (f : Nat) : Nat := if f = 3 then 4 else if f = 4 ∨ f = 5 then 1 else 2

/-- Port of an entry. -/
def State.entryPort (s : State) (e : Fin 16) : Fin 4 := Fin.ofNat 4 (s.now (F.MET_MB_FMT_PORT e.val))

/-- Function code of an entry's requests. -/
def State.entryFunc (s : State) (e : Fin 16) : Nat := if s.now (F.MET_MB_FMT_FUNC e.val) = 1 then 4 else 3

/-- The request of an entry: slave, function, register, quantity and CRC (R86). -/
def State.request (s : State) (e : Fin 16) : List Byte :=
  let b := natLE 1 (s.now (F.MET_MB_SRC_SLAVE e.val)) ++ natLE 1 (s.entryFunc e) ++
    natBE 2 (s.now (F.MET_MB_SRC_REG e.val)) ++ natBE 2 (fmtRegs (s.now (F.MET_MB_FMT_FMT e.val)))
  b ++ natLE 2 (crc16 b)

/-- Whether an entry is enabled on an enabled port. -/
def State.entryOn (s : State) (e : Fin 16) : Bool :=
  s.now (F.MET_MB_FMT_EN e.val) == 1 && s.now (F.MET_FD_CFG_EN (s.entryPort e).val) == 1

/-- Whether an entry's poll is due (R87, R89). -/
def State.entryDue (s : State) (e : Fin 16) : Bool :=
  s.entryOn e && (s.met.entries[e].readNow ||
    match s.met.entries[e].polled with
    | none => true
    | some t => decide (t + 1000 * s.now (F.MET_MB_FMT_PERIOD e.val) ≤ s.time.now))

/-- A due entry is polled when its port is free; among the entries of a port the lowest number goes first
(R87). -/
def execModbusPollDue (e : Fin 16) (s : State) : Host.Outcome State Fault Refusal :=
  let k := s.entryPort e
  let lower := (List.finRange 16).any (fun j => decide (j.val < e.val) && s.entryPort j == k && s.entryDue j)
  if s.running .ap = false ∨ s.entryDue e = false ∨ s.met.busy[k].isSome = true ∨ lower = true then .next s
  else
    let s := s.setEntry e { s.met.entries[e] with polled := some s.time.now, readNow := false }
    let s := s.setBusy k (some (e, s.now (F.MET_FD_CFG_RETRY k.val)))
    .next (s.emit (.modbus k.val (s.request e)))

/-- A transaction draws no accepted response: repeated, or a failed poll with EV028 (R87). -/
def State.pollRetry (s : State) (k : Fin 4) : State :=
  match s.met.busy[k] with
  | none => s
  | some (e, r) =>
    if 0 < r then (s.setBusy k (some (e, r - 1))).emit (.modbus k.val (s.request e))
    else (s.setBusy k none).raise { src := 28, unit_ := e.val, every := 1000000 }

/-- No accepted response within TOUT (R87). -/
def execModbusTimeout (port : Fin 4) (s : State) : Host.Outcome State Fault Refusal :=
  if s.running .ap = false ∨ s.met.busy[port].isNone = true then .next s
  else .next ((s.fdCount port 0).pollRetry port)

/-- The raw contents of a response in its format: the words in order, high word first unless swapped. -/
def rawValue (data : List Byte) (swap : Bool) : Nat :=
  if swap then
    ((List.range (data.length / 2)).map (fun i => beNat (slice data (2 * i) 2) <<< (16 * i))).sum
  else beNat data

/-- The value of an IEEE 754 binary64 number; none for NaN and the infinities. -/
def f64 (w : Nat) : Option Rat :=
  let e := bitsOf w 62 52
  let m := bitsOf w 51 0
  let sgn : Rat := if w.testBit 63 then -1 else 1
  if e = 2047 then none
  else if e = 0 then some (sgn * (m : Rat) / (2 : Rat) ^ 1074)
  else some (sgn * ((2 ^ 52 + m : Nat) : Rat) * (2 : Rat) ^ e / (2 : Rat) ^ 1075)

/-- A raw value in an entry's format (R86, R88). -/
def fmtValue (f raw : Nat) : Option Rat :=
  match f with
  | 0 => some (toSigned 32 raw : Rat)
  | 1 => some (raw : Rat)
  | 2 => f32 raw
  | 3 => f64 raw
  | 4 => some (toSigned 16 raw : Rat)
  | _ => some (raw : Rat)

/-- The integral of an entry's values brought up to the present (R90). -/
def MbEntry.held (x : MbEntry) (now : Nat) : MbEntry :=
  match x.value with
  | none => { x with integAt := now }
  | some (v, _) => { x with integral := x.integral + v * ((now - x.integAt : Nat) : Rat), integAt := now }

/-- An accepted response: an identity is compared with EXPECT (R89); any other value is scaled and tested
against its range (R88). -/
def State.accept (s : State) (e : Fin 16) (data : List Byte) : State :=
  let raw := rawValue data (s.now (F.MET_MB_FMT_WSWAP e.val) == 1)
  let link := Fin.ofNat 16 (s.now (F.MET_MB_FMT_LINK e.val))
  if s.now (F.MET_MB_FMT_ROLE e.val) = 1 then
    let same := raw == s.now (F.MET_MB_EXPECT_EXPECT e.val)
    let s := s.setEntry link { s.met.entries[link] with idFail := !same }
    if same then s else s.raise { src := 31, unit_ := e.val, every := 1000000 }
  else
    let num := fun off => f32 (s.inForce off)
    let x := (fmtValue (s.now (F.MET_MB_FMT_FMT e.val)) raw).map (· * (num (R.MET_MB_SCALE e.val)).getD 0)
    let good := match x, num (R.MET_MB_MIN e.val), num (R.MET_MB_MAX e.val) with
      | some v, some lo, some hi => decide (lo ≤ v) && decide (v ≤ hi)
      | _, _, _ => false
    let old := s.met.entries[e].held s.time.now
    if good then s.setEntry e { old with value := x.map (·, s.time.now), impl := false }
    else (s.setEntry e { old with impl := true }).raise { src := 30, unit_ := e.val, every := 1000000 }

/-- A frame arrives on a field port (R87, R88). -/
def execModbusResponse (port : Fin 4) (frame : List Byte) (gap : Bool) (s : State) :
    Host.Outcome State Fault Refusal :=
  if s.running .ap = false then .next s
  else match s.met.busy[port] with
    | none => .next (s.fdCount port 1)
    | some (e, _) =>
      let n := frame.length
      let body := frame.take (n - 2)
      let qty := fmtRegs (s.now (F.MET_MB_FMT_FMT e.val))
      let func := s.entryFunc e
      let sound := !gap && decide (5 ≤ n) && leNat (frame.drop (n - 2)) == crc16 body &&
        fld frame 0 1 == s.now (F.MET_MB_SRC_SLAVE e.val)
      if sound = true ∧ fld frame 1 1 = func + 0x80 ∧ n = 5 then
        .next (((s.fdCount port 2).setBusy port none).raise { src := 28, unit_ := e.val, every := 1000000 })
      else if sound = true ∧ fld frame 1 1 = func ∧ fld frame 2 1 = 2 * qty ∧ n = 5 + 2 * qty then
        .next ((s.setBusy port none).accept e (slice frame 3 (2 * qty)))
      else .next ((s.fdCount port 1).pollRetry port)

/-- Whether an entry's newest valid value is older than MAXAGE, or there is none (R88). -/
def State.entryStale (s : State) (e : Fin 16) : Bool :=
  match s.met.entries[e].value with
  | none => true
  | some (_, t) => !(s.entryOn e) || decide (t + 1000 * s.now (F.MET_MB_AGE_MAXAGE e.val) < s.time.now)

/-- An entry becomes stale (R88); the totaliser window it belongs to is skipped (R90). -/
def execModbusValueStale (e : Fin 16) (s : State) : Host.Outcome State Fault Refusal :=
  if s.running .ap = false ∨ s.entryOn e = false ∨ s.entryStale e = false then .next s
  else .next ((s.setEntry e { s.met.entries[e] with skip := true }).raise
    { src := 29, unit_ := e.val, every := 1000000 })

/-- QREF of the point whose primary rate an entry is; 0 where there is none. -/
def State.entryQref (s : State) (e : Fin 16) : Rat :=
  match points.find? (fun n => isFluid (s.type_ n) &&
      (s.now (F.MET_FL_CFG_PRIM n.val) == 5 || s.now (F.MET_FL_CFG_PRIM n.val) == 6) &&
      s.now (F.MET_FL_CFG_MBQ n.val) == e.val) with
  | some n => (f32 (s.inForce (R.MET_FL_QREF n.val))).getD 0
  | none => 0

/-- Absolute value of a rational. -/
def ratAbs (x : Rat) : Rat := if x < 0 then -x else x

/-- The totaliser comparison at the end of a 900 s window (R90). -/
def execTotaliserCheck (e : Fin 16) (s : State) : Host.Outcome State Fault Refusal :=
  if s.running .ap = false ∨ s.now (F.MET_MB_FMT_ROLE e.val) ≠ 2 then .next s
  else
    let g := Fin.ofNat 16 (s.now (F.MET_MB_FMT_LINK e.val))
    let gx := s.met.entries[g].held s.time.now
    let restart := fun (s : State) (v : Option (Rat × Nat)) =>
      (s.setEntry g { gx with integral := 0, skip := false }).setEntry e
        { s.met.entries[e] with totPrev := v, skip := false }
    match s.met.entries[e].value, s.met.entries[e].totPrev with
    | some v, some p =>
      if s.met.entries[e].skip = true ∨ gx.skip = true then .next (restart s (some v))
      else
        let d := v.1 - p.1
        let i := gx.integral / 3600000000
        let tol := (s.now (F.MET_MB_AGE_TOTTOL e.val) : Rat) / 10000
        let ref := max (ratAbs i) (s.entryQref g / 400)
        let bad := decide (tol * ref < ratAbs (d - i))
        let s := restart s (some v)
        let s := s.setEntry g { s.met.entries[g] with totMis := bad }
        .next (if bad then s.raise { src := 32, unit_ := g.val, every := 1000000 } else s)
    | v, _ => .next (restart s v)

/-! ### Field records (R91, R92) -/

/-- The field record that AP builds at its boundary (R91). -/
def State.fieldRecord (s : State) (q : Nat) : FieldRec :=
  { q := q, vals := (List.finRange 16).map (fun e =>
      let x := s.met.entries[e]
      { value := if s.entryOn e then x.value.map (·.1) else none,
        ageMs := match x.value with
          | some (_, t) => (s.time.now - t) / 1000
          | none => 0
        stale := s.entryStale e, impl := x.impl, idFail := x.idFail, totMis := x.totMis }) }

/-- A channel receives AP's field record; one that comes after its deadline is discarded (R91). -/
def execFieldRecordArrival (c : Fin 3) (s : State) : Host.Outcome State Fault Refusal :=
  match s.met.fieldOut[c] with
  | none => .next s
  | some r =>
    let s := { s with met := { s.met with fieldOut := s.met.fieldOut.set c none } }
    let x := s.met.chans[c]
    if s.running (chanIsl c) = false then .next s
    else if x.fieldLate && (x.closed.map ClosedQ.q == some r.q) then .next s
    else .next (s.setChan c { x with field := some r, fieldWait := false })

/-- The deadline of a channel's field record passes without a record (R91). -/
def execFieldRecordLate (c : Fin 3) (s : State) : Host.Outcome State Fault Refusal :=
  let x := s.met.chans[c]
  if s.running (chanIsl c) = false ∨ x.fieldWait = false then .next s
  else .next ((s.setChan c { x with fieldWait := false, fieldLate := true }).raise
    { src := 35, unit_ := c.val, every := 1000000 })

/-! ### Pulses (R83 to R85) -/

/-- A rising edge on a pulse land is stamped by each running channel. -/
def execPulseEdge (n : Fin 16) (tickA tickB tickC : Nat) (s : State) : Host.Outcome State Fault Refusal :=
  let tick := fun (c : Fin 3) => match c with
    | 0 => tickA
    | 1 => tickB
    | 2 => tickC
  .next (chans.foldl (fun s c =>
    if s.running (chanIsl c) then
      let x := s.met.chans[c]
      s.setChan c { x with edges := x.edges.set n (tick c :: x.edges[n]) }
    else s) s)

/-- f(t) of R84 from the edges before t, newest first. -/
def pulseFrac (edges : List Nat) (t : Nat) : Rat :=
  match edges with
  | a :: b :: _ => if a = b then 1 else min 1 (((t - a : Nat) : Rat) / ((a - b : Nat) : Rat))
  | _ => 0

/-- The pulse count of a quantum (R84) and whether two of its edges lie less than 40 µs, 8,000 ticks, apart
(R85). The fractions see the edges from the tick `since` on, at which the point's settings took effect. -/
def pulseCount (edges : List Nat) (since t0 t1 : Nat) : Rat × Bool :=
  let before := fun t => edges.filter (fun e => decide (e < t))
  let seen := fun t => (before t).filter (fun e => decide (since ≤ e))
  let inQ := (before t1).filter (fun e => decide (t0 ≤ e))
  let close := (inQ.zip (inQ.drop 1)).any (fun p => decide (p.1 < p.2 + 8000))
  ((inQ.length : Rat) + pulseFrac (seen t1) t1 - pulseFrac (seen t0) t0, close)

/-! ### Properties (R94 to R96) -/

/-- The state of a fluid and what the flow equations take from it. -/
structure Props where
  rho : Rat
  h : Rat
  mu : Rat
  kappa : Rat
  /-- Effective dryness of steam, compressibility of air. -/
  x : Rat
  sat : Bool
  deriving DecidableEq, Repr

/-- Steam at (p, T) with dryness x and band b (R94). -/
def steamProps (p t x b : Rat) : Props :=
  let ts := Config.tsat p
  let hl := Config.h1 p ts
  let vl := Config.v1 p ts
  let hv := Config.h2 p ts
  let vv := Config.v2 p ts
  let sv := Config.w2 p ts
  if ts + b ≤ t then
    let v := Config.v2 p t
    let w := Config.w2 p t
    ⟨1 / v, Config.h2 p t, Config.visc (1 / v) t, w * w / v / (p * 1000), 1, false⟩
  else
    let xe := if ts ≤ t then x + (1 - x) * (t - ts) / b else x
    let h := if ts ≤ t then (1 - xe) * hl + xe * Config.h2 p t else hl + x * (hv - hl)
    let v := if ts ≤ t then (1 - xe) * vl + xe * Config.v2 p t else vl + x * (vv - vl)
    ⟨1 / v, h, Config.visc (1 / vv) ts, sv * sv / vv / (p * 1000), xe, true⟩

/-- Saturation vapour pressure over water or ice, kPa (R95). -/
def vapour (t : Rat) : Rat := if t < 1 / 100 then Config.pice t else Config.psat t

/-- Compressibility of dry air (R95). -/
def airZ (p t : Rat) : Rat :=
  let k := t + 27315 / 100
  1 + p / 1000 * (-6026 / 100000 + 3137 / 10000000 * k - 41 / 100000000 * k * k)

/-- Compressed air at (p, T) and relative humidity in % (R95). -/
def airProps (p t rh : Rat) : Props :=
  let k := t + 27315 / 100
  let pv := rh / 100 * vapour t
  let rho := ((p - pv) * 1000 / (airZ p t * (287055 / 1000)) + pv * 1000 / (461526 / 1000)) / k
  let mu := 1716 / 100000000 * Config.pow (k / (27315 / 100)) (3 / 2) * (38355 / 100) / (k + 1104 / 10)
  ⟨rho, 0, mu, 14 / 10, airZ p t, false⟩

/-- Water at (p, T) (R96). -/
def waterProps (p t : Rat) : Props :=
  let rho := 1 / Config.v1 p t
  ⟨rho, Config.h1 p t, Config.visc rho t, 1, 1, false⟩

/-- The properties of a type at a state. -/
def props (ty : Nat) (p t rh x band : Rat) : Props :=
  match ty with
  | 4 => steamProps p t x band
  | 5 => airProps p t rh
  | _ => waterProps p t

/-- The validated range of R97. -/
def validState (ty : Nat) (p t rh x band : Rat) : Bool :=
  match ty with
  | 4 => decide (20 ≤ p) && decide (p ≤ 10000) && decide (Config.tsat p - band ≤ t) && decide (t ≤ 500) &&
      decide (8 / 10 ≤ x) && decide (x ≤ 1)
  | 5 => decide (20 ≤ p) && decide (p ≤ 2000) && decide (-20 ≤ t) && decide (t ≤ 80) && decide (0 ≤ rh) &&
      decide (rh ≤ 100)
  | _ => decide (20 ≤ p) && decide (p ≤ 10000) && decide (1 / 10 ≤ t) && decide (t ≤ Config.tsat p - band) &&
      decide (t ≤ 150)

/-! ### Orifice flow (R103, R104) -/

/-- The discharge coefficient at a Reynolds number; none for Re → ∞. `taps`: 1 corner, 2 flange, 3 D and D/2. -/
def discharge (taps : Nat) (beta dmm : Rat) (re : Option Rat) : Rat :=
  let pow := Config.pow
  let l1 : Rat := if taps = 1 then 0 else if taps = 2 then 254 / 10 / dmm else 1
  let l2 : Rat := if taps = 1 then 0 else if taps = 2 then 254 / 10 / dmm else 47 / 100
  let m2 := 2 * l2 / (1 - beta)
  let b4 := beta * beta * beta * beta
  let a := match re with
    | none => 0
    | some r => pow (19000 * beta / r) (8 / 10)
  let cs : Rat := if dmm < 7112 / 100 then 11 / 1000 * (75 / 100 - beta) * (28 / 10 - dmm / (254 / 10)) else 0
  let reTerms := match re with
    | none => 0
    | some r => 521 / 1000000 * pow (1000000 * beta / r) (7 / 10) +
        (188 / 10000 + 63 / 10000 * a) * pow beta (35 / 10) * pow (1000000 / r) (3 / 10)
  5961 / 10000 + 261 / 10000 * beta * beta - 216 / 1000 * b4 * b4 + reTerms +
    (43 / 1000 + 80 / 1000 * Config.exp (-10 * l1) - 123 / 1000 * Config.exp (-7 * l1)) * (1 - 11 / 100 * a) *
      b4 / (1 - b4) -
    31 / 1000 * (m2 - 8 / 10 * pow m2 (11 / 10)) * pow beta (13 / 10) + cs

/-- The iteration of R104: from C, the flow per C, Re per flow and the least Re; flow, whether Re was raised,
and whether the last step left it unfinished. -/
def iterate (taps : Nat) (beta dmm flowPerC rePerFlow reMin : Rat) : Nat → Rat → Bool → Rat × Bool × Bool
  | 0, c, low => (flowPerC * c, low, true)
  | n + 1, c, low =>
    let re := rePerFlow * (flowPerC * c)
    let low := low || decide (re < reMin)
    let c' := discharge taps beta dmm (some (max re reMin))
    if ratAbs (c' - c) ≤ c' / 1000000 then (flowPerC * c', low, false)
    else if n = 0 then (flowPerC * c', low, true)
    else iterate taps beta dmm flowPerC rePerFlow reMin n c' low

/-- Mass flow through an orifice in kg/s, with the ORIF and ITER bits (R103, R104). `bore` and `pipe` in mm at
20 °C, `lb` and `lp` in 10⁻⁹ per K, pressures in kPa. -/
def orifice (taps : Nat) (bore pipe lb lp p1 t dp : Rat) (pr : Props) (water : Bool) : Rat × Bool × Bool :=
  let d := bore * (1 + lb / 1000000000 * (t - 20))
  let dd := pipe * (1 + lp / 1000000000 * (t - 20))
  let beta := d / dd
  let b4 := beta * beta * beta * beta
  let ratio := (p1 - dp) / p1
  let lowP := decide (ratio < 75 / 100)
  let r := max ratio (75 / 100)
  let eps := if water then 1 else
    1 - (351 / 1000 + 256 / 1000 * b4 + 93 / 100 * b4 * b4) * (1 - Config.pow r (1 / pr.kappa))
  let area := Config.pi / 4 * (d / 1000) * (d / 1000)
  let flowPerC := eps * area * Config.sqrt (2 * dp * 1000 * pr.rho) / Config.sqrt (1 - b4)
  let rePerFlow := 4 / (Config.pi * pr.mu * (dd / 1000))
  let reMin := if 56 / 100 < beta then
      max 5000 (if taps = 1 then 16000 * beta * beta else 170 * beta * beta * dd)
    else 5000
  let x := iterate taps beta dd flowPerC rePerFlow reMin 6 (discharge taps beta dd none) false
  (x.1, lowP || x.2.1, x.2.2)

/-! ### A fluid point's quantum (R97 to R111) -/

/-- A role's value with its substitution: the constant, or with SUBM = 1 the newest good value for HOLD
seconds (R98). -/
def substitute (subm : Bool) (hold q : Nat) (newest : Option (Nat × Rat)) (const : Rat) : Rat :=
  match newest with
  | some (q0, v) => if subm && decide (q ≤ q0 + 100 * hold) then v else const
  | none => const

/-- One role of a fluid point: failed or not, the value used, and the newest good value after the quantum.
An unmapped role takes its constant and is not failed (R81). -/
def role (mapped failed subm : Bool) (hold q : Nat) (v const : Rat) (newest : Option (Nat × Rat)) :
    Bool × Rat × Option (Nat × Rat) :=
  if !mapped then (false, const, newest)
  else if failed then (true, substitute subm hold q newest const, newest)
  else (false, v, some (q, v))

/-- A rational scaled and rounded to a record's integer. -/
def meas (v scale : Rat) : Int := ratRound (v * scale)

/-- A fluid point's quantum in one channel: its block, its newest good values, its remainders and whether
the iteration did not finish. `fv` is the field record's part for an entry. -/
def fluidBlock (s : State) (c : Fin 3) (cl : ClosedQ) (n : Nat) (ty : Nat) (x : ChanS) (good : FluidGood)
    (rem : List Rat) (fv : Nat → Option FieldVal) (late : Bool) : PBlock × FluidGood × List Rat :=
  let g := cl.get s
  let num := cl.num s
  let prim := g (F.MET_FL_CFG_PRIM n)
  let subm := g (F.MET_FL_CFG_SUBM n) == 1
  let hold := g (F.MET_FL_LIM_HOLD n)
  let band : Rat := (g (F.MET_FL_PARAM_SAT_BAND n) : Rat) / 10
  let xfix : Rat := (g (F.MET_FL_PARAM_X_FIX n) : Rat) / 1000
  let inp := fun i => slowInput s c cl x.hist i
  let rl := fun (i : Nat) (const : Rat) (newest : Option (Nat × Rat)) =>
    let v := inp i
    role (i != 31) v.1 subm hold cl.q v.2 const newest
  let stale := fun (v : Option FieldVal) => late || (match v with
    | some f => f.stale || f.value.isNone
    | none => true)
  let impl := fun (v : Option FieldVal) => match v with
    | some f => f.impl
    | none => false
  let idf := fun (v : Option FieldVal) => match v with
    | some f => f.idFail
    | none => false
  let val := fun (v : Option FieldVal) => ((v.bind (·.value)).getD 0 : Rat)
  let pR := rl (g (F.MET_FL_MAP_P n)) (num (R.MET_FL_SUB_P n)) good.p
  let tR := rl (g (F.MET_FL_MAP_T n)) (num (R.MET_FL_SUB_T n)) good.t
  let hR := if ty = 5 then rl (g (F.MET_FL_MAP_RH n)) (num (R.MET_FL_SUB_RH n)) good.rh
    else (false, 0, good.rh)
  let rh : Rat := if (100 : Rat) < hR.2.1 ∧ hR.2.1 ≤ 105 then 100 else hR.2.1
  let xe := fv (g (F.MET_FL_CFG_XMB n))
  let useX := ty == 4 && g (F.MET_FL_CFG_X_SRC n) == 1
  let xR := role useX (stale xe || impl xe || idf xe) subm hold cl.q (val xe) xfix good.x
  let inRange := validState ty pR.2.1 tR.2.1 rh xR.2.1 band
  let p := if inRange then pR.2.1 else num (R.MET_FL_SUB_P n)
  let t := if inRange then tR.2.1 else num (R.MET_FL_SUB_T n)
  let rh := if inRange then rh else num (R.MET_FL_SUB_RH n)
  let xx := if inRange then xR.2.1 else xfix
  let tq : Rat := if cl.short then (cl.samples : Rat) / 16000 else 1 / 100
  let dpI := inp (g (F.MET_FL_MAP_DP n))
  let isOr := prim == 1 || prim == 2 || prim == 3
  let isMb := prim == 5 || prim == 6
  let qe := fv (g (F.MET_FL_CFG_MBQ n))
  let pc := pulseCount (nth cl.edges.toList (g (F.MET_FL_CFG_PI n)) []) x.since[Fin.ofNat 8 n] cl.t0 cl.t1
  let p1 := if isOr && g (F.MET_FL_CFG_PTAP n) == 1 then p + dpI.2 else p
  let pr := props ty p1 t rh xx band
  let span : Rat := 16 * num (R.MET_INSCALE (g (F.MET_FL_MAP_DP n)))
  let orf := if isOr && !dpI.1 && decide (span / 1000 < dpI.2) then
      orifice prim (num (R.MET_FL_BORE n)) (num (R.MET_FL_PIPE n)) (g (F.MET_FL_EXP_LAM_BORE n))
        (g (F.MET_FL_EXP_LAM_PIPE n)) p1 t dpI.2 pr (ty == 6)
    else (0, false, false)
  let implP := prim == 4 && pc.2
  let failed := (isOr && dpI.1) || implP || (isMb && (stale qe || impl qe || idf qe))
  -- the rate in kg/h for steam, m³/h for air and water
  let kfac := num (R.MET_FL_KFAC n)
  let massRate : Rat := orf.1 * 3600
  let volRate : Rat := if kfac = 0 ∨ tq = 0 then 0 else pc.1 / kfac / tq * 3600
  let rate0 : Rat :=
    if isOr then (if ty = 4 then massRate else massRate / pr.rho)
    else if prim = 4 then (if ty = 4 then volRate * pr.rho else volRate)
    else if prim = 5 then (if ty = 4 then val qe * pr.rho else val qe)
    else (if ty = 4 then val qe else val qe / pr.rho)
  let fR := role true failed subm hold cl.q rate0 (num (R.MET_FL_SUB_Q n)) good.flow
  let rate := fR.2.1
  let cut : Rat := (g (F.MET_FL_LIM_CUT n) : Rat) / 1000 * num (R.MET_FL_QREF n)
  let rev := decide (rate < 0) && decide (cut ≤ -rate)
  let low := decide (rate < cut) && !rev
  let zero := decide (rate < 0) || decide (rate < cut)
  let amount : Rat := rate * tq / 3600
  let mass : Rat := if ty = 4 then amount else amount * pr.rho
  let hret := num (R.MET_FL_HRET n)
  let hlow := ty == 4 && decide (pr.h ≤ hret)
  let pref := num (R.MET_FL_PREF n)
  let tref := num (R.MET_FL_TREF n)
  let quants : List Rat :=
    match ty with
    | 4 => [mass * 1000, if hlow then 0 else mass * (pr.h - hret)]
    | 5 =>
      let pv := rh / 100 * vapour t
      let pn := (g (F.MET_FL_PARAM_RHN n) : Rat) / 100 * vapour tref
      [amount * 10000 * (p - pv) / (pref - pn) * (tref + 27315 / 100) / (t + 27315 / 100) * airZ pref tref / airZ p t]
    | _ => [mass * Config.v1 pref tref * 1000000]
  let rems := (List.range quants.length).map (fun k => nth rem k 0 + nth quants k 0 * 65536)
  let slots := if zero then quants.map (fun _ => (0 : Int)) else rems.map (fun r => r.floor)
  let rem' := if zero then rem else rems.map (fun r => r - (r.floor : Rat))
  let bits : List Bool := [pR.1, tR.1, hR.1, xR.1, implP || (isMb && impl qe), isMb && stale qe, !inRange, orf.2.1,
    orf.2.2, hlow, rev, low, failed, (isMb && idf qe) || (useX && idf xe),
    isMb && (match qe with
      | some f => f.totMis
      | none => false), late, pr.sat]
  let fluid := (List.range 17).foldl (fun a k => putBit a k (nth bits k false)) 0
  let ms : List Int :=
    match ty with
    | 4 => [meas p 10, meas t 100, meas pr.rho 1000, meas pr.h 100, meas rate 100, meas pr.x 1000]
    | 5 => [meas p 10, meas t 100, meas rh 100, meas pr.x 1000000, meas rate 1000]
    | _ => [meas p 10, meas t 100, meas pr.rho 1000, meas rate 1000]
  ({ type_ := ty, marks := 0, conds := 0, fluid := BitVec.ofNat 32 fluid, slots := slots, meas := ms },
   { p := pR.2.2, t := tR.2.2, rh := hR.2.2, x := xR.2.2, flow := fR.2.2 }, rem')

/-- Whether a point's quantum needs the field record (R91). -/
def needsField (g : Fld → Nat) (n ty : Nat) : Bool :=
  isFluid ty && (g (F.MET_FL_CFG_PRIM n) == 5 || g (F.MET_FL_CFG_PRIM n) == 6 ||
    (ty == 4 && g (F.MET_FL_CFG_X_SRC n) == 1))

end Sys2Proof.Machine
end

