-- ==== Sys2Proof/Machine/LoadSwitch.lean ====
section
/-! DEFINITION. The load-switch channels as Rigger's controllers run them: pairs, turning on and off, the
retry sequence, shedding, generators, supply dips and hold latches (chapter 7). -/

namespace Sys2Proof.Machine

/-- The channels. -/
def lsChans : List (Fin 16) := List.finRange 16

/-- The channel whose command, configuration and limits a channel follows: the even one of its pair (R202). -/
def State.leader (s : State) (n : Fin 16) : Fin 16 :=
  if n.val % 2 = 1 ∧ s.flag (F.LSW_CH_CFG_PAIR (n.val - 1)) = true then Fin.ofNat 16 (n.val - 1) else n

/-- The channels that act together with a channel: its pair, or itself (R202). -/
def State.members (s : State) (n : Fin 16) : List (Fin 16) :=
  let l := s.leader n
  if l.val % 2 = 0 ∧ s.flag (F.LSW_CH_CFG_PAIR l.val) = true then [l, Fin.ofNat 16 (l.val + 1)] else [l]

/-- Whether a channel belongs to a transfer point (R203). -/
def State.pointOwned (s : State) (n : Fin 16) : Bool := s.flag (F.LSW_CH_CFG_OWN (s.leader n).val)

/-- The point that owns a channel. -/
def State.ownerPoint (s : State) (n : Fin 16) : Fin 8 := Fin.ofNat 8 (s.get (F.LSW_CH_CFG_POINT (s.leader n).val))

/-- The main channels of a point, leaders only (R203). -/
def State.mains (s : State) (p : Fin 8) : List (Fin 16) :=
  lsChans.filter (fun n => s.leader n == n && s.pointOwned n && s.ownerPoint n == p && !(s.flag (F.LSW_CH_CFG_AUX n.val)))

/-- All channels of a point, leaders only. -/
def State.pointChans (s : State) (p : Fin 8) : List (Fin 16) :=
  lsChans.filter (fun n => s.leader n == n && s.pointOwned n && s.ownerPoint n == p)

/-- Whether a channel is commanded on. -/
def State.commanded (s : State) (n : Fin 16) : Bool := s.bit F.LSW_CMD_ON n.val

/-- Whether a channel's output is switched on. -/
def State.lsOn (s : State) (n : Fin 16) : Bool := s.flag (F.LSW_CH_STAT_ON n.val)

/-- Whether the generator that a channel follows lets it be on: duty 0 or a disabled generator holds it off
(R214). -/
def State.pwmGate (s : State) (n : Fin 16) : Bool :=
  let l := (s.leader n).val
  if s.flag (F.LSW_CH_CFG_PWM_EN l) then
    let g := s.lsw.pwm[Fin.ofNat 8 (s.get (F.LSW_CH_CFG_GEN l))]
    g.2.2 && decide (0 < g.2.1)
  else true

/-- Whether a reference fault is in force (R39). -/
def State.refFault (s : State) : Bool := s.flag F.MG_CLKMON_STATUS_REF_FAULT

/-- Whether nothing keeps a commanded channel off: no latch, pause, shed, dip, undervoltage, safety hold, standby
role or reference fault (R39, R203, R208, R210, R215, R219, R223). -/
def State.mayTurnOn (s : State) (n : Fin 16) : Bool :=
  !s.refFault &&
  s.commanded (s.leader n) && !(s.flag (F.LSW_CH_STAT_LATCHED n.val)) && !(s.flag (F.LSW_CH_STAT_PAUSE n.val)) &&
  !(s.flag (F.LSW_CH_STAT_SHED n.val)) && !(s.flag F.LSW_STATUS_UV_OFF) && !(s.flag F.LSW_STATUS_DIP) &&
  !(s.lsw.uvWait.toNat.testBit n.val) && !(s.lsw.forced.toNat.testBit n.val) &&
  !(s.get F.FAB_STATUS_ROLE == 2 && s.flag (F.LSW_CH_CFG_DUPLEX (s.leader n).val)) && s.pwmGate n

/-- One channel turned on with a fresh inrush window (R205). -/
def State.turnOn (s : State) (n : Fin 16) : State :=
  let s := s.set (F.LSW_CH_STAT_ON n.val) 1
  s.set (F.LSW_CH_STAT_INRUSH n.val) (decide (0 < s.get (F.LSW_CH_LIM_INRUSH (s.leader n).val))).toNat

/-- One channel turned off. -/
def State.turnOff (s : State) (n : Fin 16) : State :=
  ((s.set (F.LSW_CH_STAT_ON n.val) 0).set (F.LSW_CH_STAT_INRUSH n.val) 0).set (F.LSW_CH_STAT_LIMITING n.val) 0

/-- One bit of a half word written. -/
def setHalf (w : Half) (i : Nat) (b : Bool) : Half := BitVec.ofNat 16 (putBit w.toNat i b)

/-- A channel's waiting for VFIELD noted or ended (R215). -/
def State.setWait (s : State) (n : Fin 16) (b : Bool) : State :=
  { s with lsw := { s.lsw with uvWait := setHalf s.lsw.uvWait n.val b } }

/-- The channels of a pair turned on, those that may be; a commanded one that a dip or undervoltage keeps off waits for
VFIELD (R215). -/
def State.tryOn (s : State) (n : Fin 16) : State :=
  (s.members n).foldl (fun s m =>
    if s.lsOn m then s
    else if s.mayTurnOn m then s.turnOn m
    else if s.commanded (s.leader m) && (s.flag F.LSW_STATUS_UV_OFF || s.flag F.LSW_STATUS_DIP) then s.setWait m true
    else s) s

/-- A channel's SHED bit in both places where it shows. -/
def State.setShed (s : State) (n : Fin 16) (b : Bool) : State :=
  (s.set (F.LSW_CH_STAT_SHED n.val) b.toNat).setBit F.LSW_THERM_SHED n.val b

/-- A channel's LATCHED bit in both places where it shows. -/
def State.setLatched (s : State) (n : Fin 16) (b : Bool) : State :=
  (s.set (F.LSW_CH_STAT_LATCHED n.val) b.toNat).setBit F.LSW_LATCH_LATCHED n.val b

/-- LSW_STATUS.HOLD follows the HELD bits (R216). -/
def State.showHold (s : State) : State :=
  s.set F.LSW_STATUS_HOLD (lsChans.any (fun n => s.flag (F.LSW_CH_STAT_HELD n.val))).toNat

/-- A channel, with its pair, commanded on or off. Off ends a pause, the retry sequence, a shed and a wait for
the supply; either ends its hold (R208, R210, R215, R217). -/
def State.commandChan (s : State) (n : Fin 16) (on : Bool) : State :=
  let ms := s.members n
  let s := ms.foldl (fun s m => (s.setBit F.LSW_CMD_ON m.val on).set (F.LSW_CH_STAT_HELD m.val) 0) s
  let s := s.showHold
  if on then s.tryOn n
  else
    let s := ms.foldl (fun s m =>
      let s := (s.turnOff m).set (F.LSW_CH_STAT_TRY m.val) 0
      ((s.set (F.LSW_CH_STAT_PAUSE m.val) 0).setShed m false).setWait m false) s
    { s with lsw := { s.lsw with shedOrder := s.lsw.shedOrder.filter (fun x => !(ms.contains x.1)) } }

/-- Every channel of a point commanded off (R203, R204). -/
def State.openPoint (s : State) (p : Fin 8) : State := (s.pointChans p).foldl (fun s n => s.commandChan n false) s

/-- Whether every channel of a point is off: its safe state (R204). -/
def State.pointSafe (s : State) (p : Fin 8) : Bool :=
  (s.pointChans p).all (fun n => (s.members n).all (fun m => !(s.lsOn m)))

/-- The main channels of a point commanded on (R203). -/
def State.closePoint (s : State) (p : Fin 8) : State := (s.mains p).foldl (fun s n => s.commandChan n true) s

/-- Retries before a channel latches (R208). -/
def State.retries (s : State) (n : Fin 16) : Nat := s.get (F.LSW_CH_CFG_RETRY (s.leader n).val)

/-- A fault of a channel: it and its pair go off; the retry sequence advances by one or the channel latches.
True when it latched (R206 to R208). `src` is the event of the sequence's first fault. -/
def State.channelFault (s : State) (n : Fin 16) (src : Nat) : Bool × State :=
  let ms := s.members n
  let k := s.get (F.LSW_CH_STAT_TRY (s.leader n).val) + 1
  let latch := decide (s.retries n < k)
  let s := ms.foldl (fun s m =>
    let s := (s.turnOff m).setSat (F.LSW_CH_STAT_TRY m.val) k
    if latch then (s.set (F.LSW_CH_STAT_PAUSE m.val) 0).setLatched m true
    else s.set (F.LSW_CH_STAT_PAUSE m.val) 1) s
  let s := if k = 1 then s.raise { src := src, unit_ := n.val } else s
  (latch, if latch then s.raise { src := 77, unit_ := n.val } else s)

/-- Latches cleared on a mask of channels (R208). -/
def State.clearLatches (s : State) (mask : Nat) : State :=
  ((lsChans.filter (fun n => mask.testBit n.val)).flatMap s.members).foldl
    (fun s m => (s.setLatched m false).set (F.LSW_CH_STAT_TRY m.val) 0) s

/-! ### Shedding (R210, R211) -/

/-- Shed order: highest PRIO first, then the highest channel number. -/
def State.nextShed (s : State) : Option (Fin 16) :=
  let on := lsChans.filter (fun n => s.leader n == n && (s.members n).any s.lsOn)
  let key := fun (n : Fin 16) => 16 * s.get (F.LSW_CH_CFG_PRIO n.val) + n.val
  on.foldl (fun acc n => match acc with
    | some a => if key a < key n then some n else acc
    | none => some n) none

/-- EV080 once per shedding run (R220). -/
def State.shedEvent (s : State) : State :=
  if s.lsw.shedRun then s
  else { s with lsw := { s.lsw with shedRun := true } }.raise { src := 80 }

/-- A channel, with its pair, shed. -/
def State.shed (s : State) (n : Fin 16) (thermal : Bool) : State :=
  let s := (s.members n).foldl (fun s m => (s.turnOff m).setShed m true) s
  { s with lsw := { s.lsw with shedOrder := (n, thermal) :: s.lsw.shedOrder } }

/-- Array temperature in °C. -/
def State.arrayTemp (s : State) : Int := toSigned 9 (s.get F.LSW_THERM_TEMP)

/-- The newest shed channel that may return (R210, R211). -/
def State.nextReturn (s : State) : Option (Fin 16) :=
  (s.lsw.shedOrder.find? (fun x =>
    if x.2 then decide (s.arrayTemp < 130) else s.lsw.returning)).map (fun x => x.1)

/-- Shedding threshold of the aggregate mean in 10 mA: 24.0 A (R210), on the MMD7428-T 12.0 A (R409). -/
def State.meanLimit (s : State) : Nat := if s.get F.MG_PART_ORDER = 0x54 then 1200 else 2400

/-- Limit of the instantaneous aggregate in 10 mA: 60 A (R210), on the MMD7428-T 40 A (R409). -/
def State.instLimit (s : State) : Nat := if s.get F.MG_PART_ORDER = 0x54 then 4000 else 6000

/-- Return threshold of the aggregate mean in 10 mA: 20.0 A, on the MMD7428-T 10.0 A (R210). -/
def State.returnLimit (s : State) : Nat := if s.get F.MG_PART_ORDER = 0x54 then 1000 else 2000

/-- A shed channel's bit ends; it turns on again if it is still commanded on. -/
def State.unshed (s : State) (n : Fin 16) : State :=
  let s := (s.members n).foldl (fun s m => s.setShed m false) s
  let l := s.lsw.shedOrder.filter (fun x => x.1 != n)
  ({ s with lsw := { s.lsw with shedOrder := l, shedRun := s.lsw.shedRun && l != [] } }).tryOn n

/-! ### Supply (R215) and holds (R216, R217) -/

/-- Every channel switched off by undervoltage; those commanded on wait. Returns the channels that were on. -/
def State.uvOff (s : State) (v : Nat) : State × List (Fin 16) :=
  let on := lsChans.filter s.lsOn
  let s := ((s.setSat F.LSW_STATUS_VFIELD v).set F.LSW_STATUS_UV_OFF 1).set F.LSW_STATUS_DIP 0
  let s := lsChans.foldl (fun s n =>
    let s := if s.lsOn n then s.turnOff n else s
    if s.commanded (s.leader n) then s.setWait n true else s) s
  (s.raise { src := 81 }, on)

/-- The channels that waited for VFIELD turn on again in channel order (R215). -/
def State.uvReturn (s : State) (v : Nat) : State :=
  let s := ((s.setSat F.LSW_STATUS_VFIELD v).set F.LSW_STATUS_UV_OFF 0).set F.LSW_STATUS_DIP 0
  lsChans.foldl (fun s n =>
    if s.lsw.uvWait.toNat.testBit n.val then (s.setWait n false).tryOn n else s) s

/-- A reset reaches PW: Rigger's latches hold every channel in its state (R216). -/
def State.holdAll (s : State) : State :=
  (lsChans.foldl (fun s n => s.set (F.LSW_CH_STAT_HELD n.val) 1) s).showHold

/-- A power-on reset starts every channel off, with no hold (R218). -/
def State.allOff (s : State) : State :=
  let s := lsChans.foldl (fun s n =>
    let s := (s.turnOff n).setBit F.LSW_CMD_ON n.val false
    (((s.setShed n false).setLatched n false).setReg (R.LSW_CH_STAT n.val) 0)) s
  { s with lsw := { LswS.reset with pwm := s.lsw.pwm, phase := s.lsw.phase } }.showHold

end Sys2Proof.Machine
end

