-- ==== Sys2Proof/Machine/Metering.lean ====
section
/-! DEFINITION. The metering channels: link frames, the close of a quantum, electrical quantities, no-load,
phase, neutral and residual-current supervision, start tests and the quantum record (chapter 2, R113 to
R116). -/

namespace Sys2Proof.Machine

/-! ### Start tests that fall due (R68) -/

/-- The electrical points, as a mask. -/
def State.elecMask (s : State) : Nat := (points.map (fun n => (isElec (s.type_ n)).toNat <<< n.val)).sum

/-- A start test falls due for every AC and DC point (R68). -/
def State.dueTests (s : State) : State :=
  s.set F.MET_STEST_CTRL_PENDING (s.get F.MET_STEST_CTRL_PENDING ||| s.elecMask)

/-- Start tests requested on a mask of points: a point under test already, or without an electrical type, is
left out (R68). -/
def State.requestTests (s : State) (mask : Nat) : State :=
  let m := mask &&& s.elecMask
  let s := s.set F.MET_STEST_CTRL_REQ (s.get F.MET_STEST_CTRL_REQ ||| m)
  s.set F.MET_STEST_CTRL_PENDING
    (s.get F.MET_STEST_CTRL_PENDING ||| (m - (m &&& s.get F.MET_STEST_CTRL_BUSY)))

/-- A write of MET_STEST_CTRL (R68). -/
def execStartTestRequest (v : Word) (s : State) : Host.Outcome State Fault Refusal :=
  .next (s.guard R.MET_STEST_CTRL 4 (fun s => s.requestTests (bitsOf v.toNat 7 0)))

/-- Command 0x0201: start tests on a point mask (R68, R266). -/
def execStartTest (d : Desc) (s : State) : Host.Outcome State Fault Refusal :=
  .next (s.command d { opcode := 0x0201, priv := some 0, isl := .vl, params := [(24, 1)] } []
    (fun s => (s.requestTests (d.n 24 1)).ok d []))

/-- Voltage inputs that a point names: V1, V2, V3 and VNE. -/
def State.voltInputs (s : State) (n : Fin 8) : List Nat :=
  ((elecMap s.get n.val).take 4).filter (fun i => i != 31)

/-- Whether a start test of a point may run: it rests, and so does every other electrical point that shares
a voltage input with it (R62, R68). -/
def State.testMayRun (s : State) (n : Fin 8) : Bool :=
  isElec (s.type_ n) && restState (s.sess n) &&
  points.all (fun m => m == n || !isElec (s.type_ m) || restState (s.sess m) ||
    !((s.voltInputs m).any (fun i => (s.voltInputs n).contains i)))

/-- At a quantum boundary the lands of a point are switched to the test sources (R68). -/
def execStartTestBegin (p : Fin 8) (s : State) : Host.Outcome State Fault Refusal :=
  if s.bit F.MET_STEST_CTRL_PENDING p.val = false ∨ s.met.testQ[p].isSome = true ∨ s.testMayRun p = false ∨
      s.time.usInQ ≠ 0 ∨ s.isl.supply ≠ .normal then .next s
  else
    let s := s.setBit F.MET_STEST_CTRL_PENDING p.val false
    let s := s.setBit F.MET_STEST_CTRL_BUSY p.val true
    let s := s.set (F.MET_TPCOND_TEST_ACTIVE p.val) 1
    .next { s with met := { s.met with
      testQ := s.met.testQ.set p (some s.time.quantum),
      chans := s.met.chans.map (fun x => { x with testAcc := x.testAcc.set p 0 }) } }

/-- Running start tests aborted: they count as not run and fall due again (R69). -/
def State.abortTests (s : State) : State :=
  let busy := s.get F.MET_STEST_CTRL_BUSY
  let s := s.set F.MET_STEST_CTRL_PENDING (s.get F.MET_STEST_CTRL_PENDING ||| busy)
  let s := s.set F.MET_STEST_CTRL_BUSY 0
  let s := points.foldl (fun s n => s.set (F.MET_TPCOND_TEST_ACTIVE n.val) 0) s
  { s with met := { s.met with testQ := Vector.replicate 8 none } }

/-! ### Link frames (R54, R55) -/

/-- The 24 sample codes of a frame. -/
def frameCodes (f : List Byte) : List Int := (List.range 24).map (fun i => sfld f (4 + 3 * i) 3)

/-- Whether a sample is a full-scale code (R51). -/
def fullCode (c : Int) : Bool := c == 8388607 || c == -8388608

/-- A row of a waveform capture written: `row` counts the sample instants from the start of the quantum in
progress. An instant without a good frame has no sample code, and its bytes are free (R264, log 33). -/
def State.captureRow (s : State) (c : Fin 3) (row : Nat) (codes : Option (List Int)) : State :=
  match s.met.captures with
  | [] => s
  | k :: _ =>
    let q := s.time.quantum + row / 160
    if k.chan = c ∧ k.first ≤ q ∧ q < k.first + k.quanta then
      let (seed, s) := s.fresh
      let word := fun (n : Nat) =>
        if k.mask.testBit n then
          (match codes with
           | some l => natLE 4 (ofSigned 32 (nth l n 0))
           | none => (List.range 4).map (fun i => Config.lostSample seed (4 * n + i)))
        else zeros 4
      s.store (captureBase + 96 * (160 * (q - k.first) + row % 160)) ((List.range 24).map word).flatten
    else s

/-- Bad frames of a channel counted (R55). -/
def State.badFrames (s : State) (c : Fin 3) (n : Nat) : State :=
  if n = 0 then s
  else
    let x := s.met.chans[c]
    let s := (List.range n).foldl (fun (s : State) i => s.captureRow c (x.rows.length + x.badN + i) none) s
    ((s.setChan c { x with badN := x.badN + n }).count (F.MET_CH_LINKERR_BADF c.val) n).raise
      { src := 13, unit_ := c.val, every := 1000000 }

/-- A good frame's contents taken: its samples, the inputs at full scale, and the auxiliary word (R51, R54). -/
def State.goodFrame (s : State) (c : Fin 3) (f : List Byte) : State :=
  let x := s.met.chans[c]
  let l := frameCodes f
  let s := s.captureRow c (x.rows.length + x.badN) (some l)
  let ov := ((List.range 24).map (fun i => (fullCode (nth l i 0)).toNat <<< i)).sum
  let ctr := fld f 2 2
  let aux := sfld f 76 2
  let x := { x with rows := l :: x.rows, ctr := some (BitVec.ofNat 16 (ctr + 1)),
                    ovr := x.ovr ||| BitVec.ofNat 24 ov }
  let x := if ctr % 16 = 0 then { x with tempSum := x.tempSum + aux, tempCnt := x.tempCnt + 1 } else x
  let s := s.setChan c x
  let s := s.set (F.MET_CH_OVR_OVR c.val) (s.get (F.MET_CH_OVR_OVR c.val) ||| ov)
  let s := if ctr % 16 = 1 then s.set (F.MET_CH_REFDEV_DEV c.val) (ofSigned 16 aux) else s
  s.setBit F.MET_STATUS_LINK_UP c.val true

/-- A frame of a converter bank arrives (R54, R55). The island expects the counter after the newest sample's;
a frame that skips instants of the quantum makes them missing ones, any other discontinuity makes the frame
bad. Frames belong to the quantum in progress. -/
def execLinkFrame (c : Fin 3) (frame : List Byte) (s : State) : Host.Outcome State Fault Refusal :=
  if s.running (chanIsl c) = false ∨ s.isl.supply ≠ .normal then .next s
  else
    let x := s.met.chans[c]
    let sound := frame.length == 82 && fld frame 0 1 == 0xA5 && fld frame 1 1 / 64 == c.val &&
      fld frame 78 4 == crc32 (frame.take 78)
    if sound = false then .next (s.badFrames c 1)
    else
      let ctr := fld frame 2 2
      let skip := match x.ctr with
        | none => 0
        | some e => (ctr + 65536 - e.toNat) % 65536
      if x.rows.length + x.badN + skip < 160 then .next ((s.badFrames c skip).goodFrame c frame)
      else if skip = 0 then .next (s.goodFrame c frame)
      else
        .next ((s.setChan c { x with ctr := some (BitVec.ofNat 16 (ctr + 1)) }).badFrames c 1)

/-- No good frame arrives for 1 ms (R55). -/
def execLinkTimeout (c : Fin 3) (s : State) : Host.Outcome State Fault Refusal :=
  if s.running (chanIsl c) = false then .next s
  else
    let s := s.setBit F.MET_STATUS_LINK_UP c.val false
    let s := s.setBit F.MET_STATUS_CH_RUN c.val false
    .next (s.raise { src := 13, unit_ := c.val, every := 1000000 })

/-! ### Reference comparator (R56) -/

/-- The comparator's result for a bank: `mine` says that both its pairs differ, `some_` that one does, `rest`
that the other pair does. Suspect after three such comparisons, clear after 100 clean ones. -/
def State.refBank (s : State) (b : Fin 3) (mine some_ rest : Bool) : State :=
  let m := s.met
  let run : Nat := if mine && !rest then m.suspRun[b] + 1 else 0
  let clean : Nat := if some_ then 0 else m.cleanRun[b] + 1
  let s : State := { s with met := { m with suspRun := m.suspRun.set b run, cleanRun := m.cleanRun.set b clean } }
  let was := s.bit F.MET_REFCHK_SUSPECT b.val
  let put := fun (s : State) (v : Bool) =>
    (s.setBit F.MET_REFCHK_SUSPECT b.val v).setBit F.MET_STATUS_REF_SUSPECT b.val v
  if was = false ∧ (3 ≤ run ∨ 3 ≤ m.allRun) then (put s true).raise { src := 12, unit_ := b.val }
  else if was = true ∧ 100 ≤ clean then (put s false).dueTests
  else s

/-- Rigger compares the references of the banks: the differences of A–B, B–C and C–A in ppm (R56). -/
def execReferenceComparison (ab bc ca : Nat) (s : State) : Host.Outcome State Fault Refusal :=
  let x := decide (500 < ab)
  let y := decide (500 < bc)
  let z := decide (500 < ca)
  let recent := (s.time.now, max ab (max bc ca)) :: s.met.worst.filter (fun w => decide (s.time.now < w.1 + 1000000))
  let s := { s with met := { s.met with
    allRun := if x && y && z then s.met.allRun + 1 else 0, worst := recent } }
  let s := s.setSat F.MET_REFCHK_WORST_PPM (recent.foldl (fun a w => max a w.2) 0)
  let s := s.refBank 0 (x && z) (x || z) y
  let s := s.refBank 1 (x && y) (x || y) z
  .next (s.refBank 2 (y && z) (y || z) x)

/-! ### Sequences of an electrical point -/

/-- Number of phases of a type. -/
def phases (t : Nat) : Nat := if t = 2 then 3 else 1

/-- The processed samples of a point's eight roles (V1, V2, V3, VNE, I1, I2, I3, IN) and of RCM in a quantum,
newest first (R57); an unmapped role gives zeros. -/
def roleSeqs (s : State) (c : Fin 3) (cl : ClosedQ) (x : ChanS) (seed n : Nat) : List (List Rat) :=
  let t := nth cl.types n 0
  let f60 := cl.get s (F.MET_TPLIM_F60 n) == 1
  (elecMap (cl.get s) n).map (fun i =>
    if i = 31 then cl.rows.map (fun _ => 0)
    else (primary s c cl x.hist (nth x.integ i (0, 0)) (isAc t) f60 seed i).1)

/-- The rows of the newest samples of all points' first eight roles, eight values per point, newest first. -/
def roleRows (cl : ClosedQ) (seqs : List (List (List Rat))) : List (List Rat) :=
  (List.range cl.rows.length).map (fun k =>
    (seqs.map (fun p => (p.take 8).map (fun q => nth q k 0))).flatten)

/-- One role's sequence, newest first, from the kept rows. -/
def winSeq (win : List (List Rat)) (n k : Nat) : List Rat := win.map (fun r => nth r (8 * n + k) 0)

/-- The measuring window of R66 for a point: how many of the newest samples it holds, and the frequency of V1
in mHz (0 where the window is the fixed 200 ms). -/
def window (v1 : List Rat) (f60 : Bool) (vnom : Rat) : Nat × Int :=
  let f := Config.freq v1
  if Config.rms (v1.take 3200) < vnom / 10 ∨ f < 42500 ∨ 69000 < f then (3200, 0)
  else (Config.windowLen v1 f60, ratRound f)

/-- VNOM in V, IREF in A and the start power P_st of a point in a closed quantum (R67). -/
def ClosedQ.pst (cl : ClosedQ) (s : State) (n : Nat) : Rat :=
  (phases (nth cl.types n 0) : Rat) * ((cl.get s (F.MET_TPNOM_VNOM n) : Rat) / 10) *
    ((cl.get s (F.MET_TPLIM_START n) : Rat) / 100000 * ((cl.get s (F.MET_TPNOM_IREF n) : Rat) / 100))

/-! ### Conditions (R70, R72, R73) -/

/-- Quanta after which the rows of R72 set the trip flag. -/
def rcmNeed : List Nat := [100, 10, 3, 10, 2]

/-- Whether each row of R72 applies to DC and AC components in A. -/
def rcmRows (dc ac : Rat) : List Bool :=
  let m := ratAbs dc
  [decide (6 / 1000 ≤ m), decide (60 / 1000 ≤ m), decide (200 / 1000 ≤ m), decide (30 / 1000 ≤ ac),
   decide (150 / 1000 ≤ ac)]

/-- The conditions of R70 present for a point: SEQ_ERR, PHASE_LOSS, NEUT_MISS. -/
def presentConds (s : State) (cl : ClosedQ) (win : List (List Rat)) (n : Nat) : List Bool :=
  let t := nth cl.types n 0
  let vnom : Rat := (cl.get s (F.MET_TPNOM_VNOM n) : Rat) / 10
  let v := fun k => winSeq win n k
  let w := (window (v 0) (cl.get s (F.MET_TPLIM_F60 n) == 1) vnom).1
  let u := fun k => (v k).take w
  if t = 2 then
    let loss := (List.range 3).any (fun k => decide (Config.rms (u k) < vnom / 2))
    [!loss && decide (Config.seqPos (u 0) (u 1) (u 2) < Config.seqNeg (u 0) (u 1) (u 2)), loss,
     decide (vnom / 10 < Config.seqZero (u 0) (u 1) (u 2))]
  else
    [false, false, t == 1 && cl.get s (F.MET_TPMAP_V_VNE n) != 31 &&
      decide ((cl.get s (F.MET_TPLIM_VNE_LIM n) : Rat) < Config.rms (u 3))]

/-- Counts of consecutive quanta present and absent, advanced. -/
def condStep (p : Nat × Nat) (present : Bool) : Nat × Nat := if present then (p.1 + 1, 0) else (0, p.2 + 1)

/-- The counts of R70 and R72 of a point advanced by a quantum. Those of a three-phase point stand still
during a start test (R68). -/
def advancePoint (s : State) (c : Fin 3) (cl : ClosedQ) (win : List (List Rat)) (rcmSeq : List Rat) (x : ChanS)
    (n : Fin 8) : ChanS :=
  let t := nth cl.types n.val 0
  let pres := presentConds s cl win n.val
  let x :=
    if isAc t = false ∨ (t = 2 ∧ cl.tests.toNat.testBit n.val = true) then x
    else
      let l := (List.range 3).map (fun k => condStep (nth x.condCnt[n] k (0, 0)) (nth pres k false))
      { x with condCnt := x.condCnt.set n l }
  if isElec t = false ∨ cl.get s (F.MET_TPMAP_I_RCM n.val) = 31 ∨ cl.rows = [] then x
  else
    let rows := rcmRows (mean rcmSeq) (Config.rcmAc rcmSeq)
    let l := (List.range 5).map (fun k => if nth rows k false then (nth x.rcmCnt[n] k 0) + 1 else 0)
    let x := { x with rcmCnt := x.rcmCnt.set n l }
    let i := cl.get s (F.MET_TPMAP_I_RCM n.val)
    let out := (calLand s c cl x.hist i).any (fun v => decide (45 / 100 < ratAbs v))
    if out then { x with conds := x.conds.set n (x.conds[n] ||| 0x10) } else x

/-- The conditions that a point's counts set and clear (R70, R72). -/
def applyConds (x : ChanS) (n : Fin 8) : ChanS :=
  let cond := (List.range 3).foldl (fun v k =>
    let p := nth x.condCnt[n] k (0, 0)
    if 5 ≤ p.1 then putBit v k true else if 50 ≤ p.2 then putBit v k false else v) x.conds[n].toNat
  let trip := (List.range 5).any (fun k => decide (nth rcmNeed k 0 ≤ nth x.rcmCnt[n] k 0))
  { x with conds := x.conds.set n (BitVec.ofNat 16 (if trip then putBit cond 3 true else cond)) }

/-- A condition present for 5 consecutive quanta is set: `k` 0 SEQ_ERR, 1 PHASE_LOSS, 2 NEUT_MISS (R70). -/
def execPhaseConditionSet (c : Fin 3) (p : Fin 8) (k : Fin 3) (s : State) : Host.Outcome State Fault Refusal :=
  let x := s.met.chans[c]
  if s.running (chanIsl c) = false ∨ (nth x.condCnt[p] k.val (0, 0)).1 < 5 then .next s
  else .next (s.setChan c { x with conds := x.conds.set p (BitVec.ofNat 16 (putBit x.conds[p].toNat k.val true)) })

/-- A condition absent for 50 consecutive quanta is cleared (R70). -/
def execPhaseConditionClear (c : Fin 3) (p : Fin 8) (k : Fin 3) (s : State) : Host.Outcome State Fault Refusal :=
  let x := s.met.chans[c]
  if s.running (chanIsl c) = false ∨ (nth x.condCnt[p] k.val (0, 0)).2 < 50 then .next s
  else .next (s.setChan c { x with conds := x.conds.set p (BitVec.ofNat 16 (putBit x.conds[p].toNat k.val false)) })

/-- A row of R72 sustained for its quantum count sets the trip flag. -/
def execRcmTrip (c : Fin 3) (p : Fin 8) (row : Fin 5) (s : State) : Host.Outcome State Fault Refusal :=
  let x := s.met.chans[c]
  if s.running (chanIsl c) = false ∨ nth x.rcmCnt[p] row.val 0 < nth rcmNeed row.val 0 then .next s
  else .next (s.setChan c { x with conds := x.conds.set p (x.conds[p] ||| 8) })

/-- The residual-current flags of a point cleared in every channel, and RCM_SENS set again where the newest
sample still lies outside the limits of R73. -/
def State.clearRcm (s : State) (p : Fin 8) : State :=
  let s := (s.set (F.MET_TPCOND_RCM_TRIP p.val) 0).set (F.MET_TPCOND_RCM_SENS p.val) 0
  chans.foldl (fun s c =>
    let x := s.met.chans[c]
    let i := s.now (F.MET_TPMAP_I_RCM p.val)
    let fs := fullScale (s.now (F.MET_INCFG_TYPE i))
    let still := match x.rows with
      | r :: _ => i != 31 && decide (45 / 100 < ratAbs ((nth r i 0 : Rat) * fs / 2 ^ 23))
      | [] => false
    let v := putBit (putBit x.conds[p].toNat 3 false) 4 still
    s.setChan c { x with conds := x.conds.set p (BitVec.ofNat 16 v), rcmCnt := x.rcmCnt.set p [0, 0, 0, 0, 0] }) s

/-- Command 0x0108: clear the residual-current trip and sensor fault (R72, R73). -/
def execClearRcmTrip (d : Desc) (s : State) : Host.Outcome State Fault Refusal :=
  .next (s.command d { opcode := 0x0108, priv := some 0, isl := .vl, point := true } []
    (fun s => if s.sess d.pt = 5 then s.complete d 0x0007 5 [] else (s.clearRcm d.pt).ok d []))

/-! ### The close of a quantum in a channel (R53, R55, R59, R76) -/

/-- Lower bounds of bands 1 to 7 in 0.01 °C (R58). -/
def bandBounds : List Int := [-2000, 0, 2000, 4000, 6000, 7500, 9000]

/-- The band that a mean temperature in 0.01 °C lies in. -/
def bandOf (t : Int) : Nat := (bandBounds.filter (fun b => decide (b ≤ t))).length

/-- The band for the next quantum, with the hysteresis of 0.5 °C (R59). -/
def nextBand (k : Nat) (t : Int) : Nat :=
  if k < 7 ∧ nth bandBounds k 0 + 50 ≤ t then max (k + 1) (bandOf (t - 50))
  else if 0 < k ∧ t < nth bandBounds (k - 1) 0 - 50 then min (k - 1) (bandOf (t + 50))
  else k

/-- A channel's mean temperature of a quantum, its band and TEMP_OOR (R59). Returns the band in force in the
quantum with the state whose band holds for the next. -/
def State.bandStep (s : State) (c : Fin 3) (mean : Option Int) (freshBand : Bool) : Nat × Bool × State :=
  let at_ := fun (s : State) => bitsOf (s.get F.MET_STATUS_BAND) (3 * c.val + 2) (3 * c.val)
  let put := fun (s : State) (k : Nat) => s.set F.MET_STATUS_BAND (putBits (s.get F.MET_STATUS_BAND) (3 * c.val + 2) (3 * c.val) k)
  match mean with
  | none => (at_ s, s.bit F.MET_STATUS_TEMP_OOR c.val, s)
  | some t =>
    let s := s.set (F.MET_CH_TEMP_TEMP c.val) (ofSigned 16 t)
    let oor := decide (t < -4000) || decide (10500 < t)
    let s := if oor && !(s.bit F.MET_STATUS_TEMP_OOR c.val) then s.raise { src := 15, unit_ := c.val } else s
    let s := s.setBit F.MET_STATUS_TEMP_OOR c.val oor
    if freshBand then (bandOf t, oor, put s (bandOf t))
    else
      let k := at_ s
      let k' := nextBand k t
      (k, oor, if k' = k then s else (put s k').raise { src := 14, unit_ := c.val })

/-- The points on which a start test runs, as a mask. -/
def State.testMask (s : State) : Byte :=
  BitVec.ofNat 8 ((points.map (fun n => s.met.testQ[n].isSome.toNat <<< n.val)).sum)

/-- The remainders of the points that a change of settings concerns from the quantum in progress on (R65); their pulse
fractions start again (R84). -/
def State.clearRemainders (s : State) (c : Fin 3) : State :=
  let mask := (s.bil.cleared.filter (fun k => k.1 == s.time.quantum)).foldl (fun (m : Nat) k => m ||| k.2.toNat) 0
  let x := s.met.chans[c]
  if mask = 0 then s
  else s.setChan c { x with
    rem := Vector.ofFn (fun n : Fin 8 => if mask.testBit n.val then [0, 0, 0, 0] else x.rem[n]),
    since := Vector.ofFn (fun n : Fin 8 => if mask.testBit n.val then x.tick0 else x.since[n]) }

/-- A channel's quantum in progress closes: what held for it is kept until its record is sent, and its
processed samples and counts are brought up to it. With the link down no record is sent (R55). -/
def State.closeChan (s : State) (c : Fin 3) (short : Bool) (endTick : Nat) : State :=
  let s := s.clearRemainders c
  let x := s.met.chans[c]
  let missing := if short then 0 else 160 - (x.rows.length + x.badN)
  let s := s.badFrames c missing
  let x := s.met.chans[c]
  let ctr := x.ctr.map (fun e => e + BitVec.ofNat 16 missing)
  let take := if short then x.rows.length else 160 - x.badN
  let mine := (x.rows.reverse).take take
  let rest := (x.rows.reverse.drop take).reverse
  let clear : ChanS := { x with rows := rest, ctr := ctr, badN := 0, tempSum := 0, tempCnt := 0, ovr := 0, tick0 := endTick }
  if s.bit F.MET_STATUS_LINK_UP c.val = false then
    s.setChan c { clear with closed := none, fieldWait := false, hist := (mine.reverse ++ x.hist).take 63 }
  else
    let s := if 0 < x.badN then s.count (F.MET_CH_LINKERR_BADQ c.val) 1 else s
    let meanT := if x.tempCnt = 0 then none else some (ratRound ((x.tempSum : Rat) / (x.tempCnt : Rat)))
    let (band, oor, s) := s.bandStep c meanT x.freshBand
    let (seed, s) := s.fresh
    let cl : ClosedQ := {
      q := s.time.quantum, rows := mine, samples := mine.length, short := short, link := decide (0 < x.badN),
      gen := s.met.gen, cal := s.met.cal, overlay := s.met.waiting, types := points.map s.type_,
      tests := s.testMask, band := band, oor := oor, ref := s.bit F.MET_REFCHK_SUSPECT c.val, ovr := x.ovr,
      t0 := x.tick0, t1 := endTick, edges := x.edges }
    let seqs := (List.range 8).map (fun n => roleSeqs s c cl x seed n)
    let win := (roleRows cl seqs ++ x.win).take 5000
    let integ := (List.range 24).map (fun i =>
      if cl.get s (F.MET_INCFG_TYPE i) = 4 then
        (integrate (calLand s c cl x.hist i).reverse (nth x.integ i (0, 0))).2
      else nth x.integ i (0, 0))
    let x' := points.foldl (fun x' n => advancePoint s c cl win (nth (nth seqs n.val []) 8 []) x' n) x
    let wait := (List.range 8).any (fun n => needsField (cl.get s) n (nth cl.types n 0))
    s.setChan c { x' with rows := rest, ctr := ctr, badN := 0, tempSum := 0, tempCnt := 0, ovr := 0,
                          tick0 := endTick, freshBand := x.freshBand && meanT.isNone, win := win,
                          integ := integ, closed := some cl, fieldLate := false,
                          fieldWait := wait && !(x.field.map FieldRec.q == some cl.q) }

/-! ### Electrical quantities (R63 to R67) -/

/-- An energy's increment: the quantity's exact value with its remainder, its floor, and the new remainder. -/
def increment (rem : Rat) (counts : Rat) : Int × Rat :=
  let v := counts + rem
  (v.floor, v - (v.floor : Rat))

/-- Increments of an AC or DC point: slots, remainders (import, export, Q1 to Q4, apparent), the NOLOAD mark,
and E_P after the no-load rule in joules (R63 to R65, R67). `es` is E_S. -/
def energies (ep0 eq0 es0 tq pnl : Rat) (ac means : Bool) (rem : List Rat) : List Int × List Rat × Bool × Rat :=
  let small := fun (e : Rat) => means && decide (ratAbs e < pnl * tq)
  let zp := small ep0
  let zq := ac && small eq0
  let zs := ac && small es0
  let ep := if zp then 0 else ep0
  let eq := if zq then 0 else eq0
  let es := if zs then 0 else es0
  let counts := fun (e : Rat) => ratAbs e / (36 / 10) * 65536
  let kp := if ep < 0 then 1 else 0
  let kq := if 0 ≤ ep then (if 0 < eq then 2 else 5) else (if 0 < eq then 3 else 4)
  let ip := increment (nth rem kp 0) (counts ep)
  let iq := increment (nth rem kq 0) (counts eq)
  let is := increment (nth rem 6 0) (counts es)
  let put := fun (l : List Rat) (k : Nat) (v : Rat) => (List.range 7).map (fun j => if j = k then v else nth l j 0)
  let rem1 := if ep = 0 then rem else put rem kp ip.2
  let rem2 := if ac = false ∨ eq = 0 then rem1 else put rem1 kq iq.2
  let rem3 := if ac = false ∨ es = 0 then rem2 else put rem2 6 is.2
  let sp := if ep = 0 then 0 else if ep < 0 then -ip.1 else ip.1
  let sq := if eq = 0 then 0 else if eq < 0 then -iq.1 else iq.1
  let ss := if es = 0 then 0 else is.1
  (if ac then [sp, sq, ss] else [sp], rem3, zp || zq || zs, ep)

/-- The measurement area of an AC point (R66, R116), with its newest THD values. -/
def acMeas (win : List (List Rat)) (n : Nat) (v i : List (List Rat)) (f60 : Bool) (vnom : Rat) (seed : Nat)
    (thd : List Int) : List Int × List Rat :=
  let w := window (winSeq win n 0) f60 vnom
  let u := fun k => (winSeq win n k).take w.1
  let vr := (List.range 4).map (fun k => Config.rms (u k))
  let ir := (List.range 4).map (fun k => Config.rms (u (4 + k)))
  let pw := (List.range 3).map (fun k => mean (List.zipWith (· * ·) (u k) (u (4 + k))))
  let sw := (List.range 3).map (fun k => nth vr k 0 * nth ir k 0)
  let pf := fun (p s : Rat) => if s = 0 then Config.pfIdle seed else meas (p / s) 10000
  let ph := v.length
  let pfs := (List.range 3).map (fun k => if k < ph then pf (nth pw k 0) (nth sw k 0) else 0)
  let tot := pf (pw.take ph).sum (sw.take ph).sum
  (vr.map (meas · 100) ++ ir.map (meas · 1000) ++ [w.2] ++ pfs ++ [tot] ++ thd,
   List.zipWith (fun a b => a * b) (vr.take ph) (ir.take i.length))

/-- An electrical point's quantum in a channel: its block, its remainders, its newest THD values and its
start-test energy. -/
def elecBlock (s : State) (cl : ClosedQ) (x : ChanS) (n : Fin 8) (ty seed : Nat) :
    PBlock × List Rat × List Int × Rat :=
  let k := phases ty
  let m := cl.samples
  let seq := fun j => (winSeq x.win n.val j).take m
  let v := (List.range k).map seq
  let i := (List.range k).map (fun j => seq (4 + j))
  let ts : Rat := 1 / 16000
  let tq : Rat := if cl.short then (m : Rat) * ts else 1 / 100
  let dot := fun (a b : List Rat) => (List.zipWith (· * ·) a b).sum * ts
  let hat := fun j => onTails (Config.allPass seed) m (winSeq x.win n.val j)
  let ac := isAc ty
  let ep := (List.zipWith dot v i).sum
  let eq := if ac then (List.zipWith dot ((List.range k).map hat) i).sum else 0
  let vnom : Rat := (cl.get s (F.MET_TPNOM_VNOM n.val) : Rat) / 10
  let f60 := cl.get s (F.MET_TPLIM_F60 n.val) == 1
  let w := (window (winSeq x.win n.val 0) f60 vnom).1
  let thd := if cl.q % 20 = 0 then
      (List.range 6).map (fun j =>
        let r := if j < 3 then j else 1 + j
        if j % 3 < k then meas (Config.thd ((winSeq x.win n.val r).take w)) 1 else 0)
    else x.thd[n]
  let am := acMeas x.win n.val v i f60 vnom seed thd
  let es := if ac then am.2.sum * tq else 0
  let pnl := (cl.get s (F.MET_TPLIM_NOLOAD n.val) : Rat) / 256 * cl.pst s n.val
  let e := energies ep eq es tq pnl ac (m != 0) x.rem[n]
  let test := cl.tests.toNat.testBit n.val
  let billed := (List.range k).flatMap (fun j => [nth (elecMap (cl.get s) n.val) j 31, nth (elecMap (cl.get s) n.val) (4 + j) 31])
  let over_ := billed.any (fun j => cl.ovr.toNat.testBit j)
  let marks := over_.toNat + 2 * test.toNat + 4 * (e.2.2.1 && !test).toNat
  let ms := if ac then am.1 else [meas (mean (seq 0)) 100, meas (mean (seq 4)) 1000]
  ({ type_ := ty, marks := BitVec.ofNat 8 marks, conds := x.conds[n], fluid := 0,
     slots := if test then e.1.map (fun _ => 0) else e.1, meas := ms },
   if test then x.rem[n] else e.2.1, thd, e.2.2.2)

/-- Whether a closed quantum lies in the 100 quanta of a point's running start test (R68). -/
def State.inTest (s : State) (cl : ClosedQ) (n : Fin 8) : Bool :=
  match s.met.testQ[n] with
  | some q0 => cl.tests.toNat.testBit n.val && decide (cl.q < q0 + 100)
  | none => false

/-- An electrical point's block added to a record in the making. -/
def elecPoint (s : State) (cl : ClosedQ) (seed ty : Nat) (n : Fin 8) (x : ChanS) : ChanS × PBlock :=
  let r := elecBlock s cl x n ty seed
  let acc : Rat := if s.inTest cl n then x.testAcc[n] + r.2.2.2 else x.testAcc[n]
  ({ x with rem := x.rem.set n r.2.1, thd := x.thd.set n r.2.2.1, testAcc := x.testAcc.set n acc }, r.1)

/-- A fluid point's block added to a record in the making. -/
def fluidPoint (s : State) (c : Fin 3) (cl : ClosedQ) (ty : Nat) (n : Fin 8) (x : ChanS) : ChanS × PBlock :=
  let fr : Option FieldRec := match x.field with
    | some f => if f.q = cl.q then some f else none
    | none => none
  let late := needsField (cl.get s) n.val ty && fr.isNone
  let fv : Nat → Option FieldVal := fun e => match fr with
    | some f => f.vals[e]?
    | none => none
  let r := fluidBlock s c cl n.val ty x x.good[n] x.rem[n] fv late
  let sub := r.1.fluid.toNat &&& 0x104F
  ({ x with rem := x.rem.set n r.2.2, good := x.good.set n r.2.1,
            subst := BitVec.ofNat 8 (putBit x.subst.toNat n.val (sub != 0)) }, r.1)

/-- The blocks of a quantum's configured points computed, one after another. -/
def pointBlock (s : State) (c : Fin 3) (cl : ClosedQ) (seed : Nat) (acc : ChanS × List (Nat × PBlock)) (n : Fin 8) :
    ChanS × List (Nat × PBlock) :=
  let ty := nth cl.types n.val 0
  if isElec ty then
    let r := elecPoint s cl seed ty n acc.1
    (r.1, acc.2 ++ [(n.val, r.2)])
  else if isFluid ty then
    let r := fluidPoint s c cl ty n acc.1
    (r.1, acc.2 ++ [(n.val, r.2)])
  else acc

/-- The record of a channel's closed quantum, computed and kept until VL acknowledges it (R37, R113). -/
def State.completeChan (s : State) (c : Fin 3) : State :=
  match s.met.chans[c].closed with
  | none => s
  | some cl =>
    let (seed, s) := s.fresh
    let x := points.foldl applyConds s.met.chans[c]
    let r := points.foldl (pointBlock s c cl seed) (x, [])
    let flags := cl.link.toNat + 2 * cl.ref.toNat + 4 * cl.oor.toNat + 8 * cl.short.toNat
    let qrec : QRec := {
      chan := c.val, flags := BitVec.ofNat 8 flags, q := cl.q, samples := cl.samples, band := cl.band,
      blocks := r.2, calNo := match cl.cal with
        | some b => fld b 4 2
        | none => 0
      gen := cl.gen.toNat }
    let kept := x.kept ++ [qrec]
    let x := { r.1 with closed := none, fieldLate := false, fieldWait := false,
                        hist := (cl.rows.reverse ++ x.hist).take 63,
                        kept := kept.drop (kept.length - 64),
                        offered := x.offered - (kept.length - 64) }
    (s.setChan c x).setBit F.MET_STATUS_CH_RUN c.val true

/-- A channel finishes a quantum's computation (R65); while it awaits AP's field record it does not (R91). -/
def execChannelRecordComplete (c : Fin 3) (s : State) : Host.Outcome State Fault Refusal :=
  if s.running (chanIsl c) = false ∨ s.bit F.MET_STATUS_LINK_UP c.val = false ∨
      s.met.chans[c].fieldWait = true then .next s
  else .next (s.completeChan c)

end Sys2Proof.Machine
end

