-- ==== Sys2Proof/Machine/Sessions.lean ====
section
/-! DEFINITION. The sessions of the transfer points in AP: the state machine of R175, how a session ends and
its records (R178 to R181), the pilot drive of R183 and authorisation (R198). Each command stands for an AP
tick of its own; events of one tick come in the order of R176 (log 21). -/

namespace Sys2Proof.Machine

/-- A point's session. -/
def State.sx (s : State) (p : Fin 8) : Sess := s.tpt.sess[p]

/-- The state with a point's session changed. -/
def State.modSx (s : State) (p : Fin 8) (f : Sess → Sess) : State :=
  { s with tpt := { s.tpt with sess := s.tpt.sess.set p (f s.tpt.sess[p]) } }

/-- Runs an event that reaches AP; a fenced or reset AP takes none. -/
def State.ap (s : State) (body : State → State) : State := if s.running .ap then body s else s

/-! ### The pilot (R183) -/

/-- Whether a digital protocol is enabled on a point (R187). -/
def State.digitalOn (s : State) (p : Fin 8) : Bool := s.get (F.TPT_CFG_PROTO_EN p.val) / 2 != 0

/-- Cable rating of a PTN_PP code in 0.1 A; 0 for no cable and for an invalid one (R184). -/
def ratingAmps (code : Nat) : Nat :=
  match code with
  | 1 => 130 | 2 => 200 | 3 => 320 | 4 => 630 | _ => 0

/-- Cable rating in 0.1 A; the rating of a tethered cable is I_MAX (R184). -/
def State.cable (s : State) (p : Fin 8) : Nat :=
  if s.flag (F.TPT_CFG_PP_MODE p.val) then s.get (F.TPT_LIMIT_I_MAX p.val)
  else ratingAmps (s.get (F.PTN_PP_RATING p.val))

/-- The offered current in 0.1 A (R183). -/
def State.offered (s : State) (p : Fin 8) : Nat :=
  let i := s.get (F.TPT_LIMIT_I_MAX p.val)
  let i := if s.cable p = 0 then i else min i (s.cable p)
  match (s.sx p).hostLimit with
  | some h => min i h
  | none => i

/-- Duty for an offered current in 0.1 A, in 0.1 % (R183). -/
def dutyFor (i : Nat) : Nat := if i ≤ 510 then (10 * i + 3) / 6 else (4 * i + 5) / 10 + 640

/-- Whether the module holds the pilot at state F (R183, R187). -/
def State.pilotF (s : State) (p : Fin 8) : Bool :=
  s.flag (F.TPT_STATE_OOS p.val) || s.type_ p == 0 || s.sess p == 15 || (s.sx p).fallbackF

/-- The duty that the module drives, 0 with no PWM (R183, R187). Under basic charging D is offered in Checked
and Transferring, and from the end of a fallback's 3 s on (log 22). The standby module of a pair drives none
(R306). -/
def State.pilotDuty (s : State) (p : Fin 8) : Nat :=
  let st := s.sess p
  if isElec (s.type_ p) = false ∨ s.pilotF p = true ∨ st = 0 ∨ st = 7 ∨ s.stroke = true then 0
  else if s.get (F.TPT_STATE_PROTO p.val) = 1 then
    (if st = 4 ∨ st = 5 ∨ s.digitalOn p = true then dutyFor (s.offered p) else 0)
  else if s.digitalOn p then 50 else 0

/-- The pilot as the module now drives it. -/
def State.showPilot (s : State) (p : Fin 8) : State :=
  let s := s.set (F.PTN_CP_DUTY p.val) (s.pilotDuty p)
  if s.pilotF p then s.set (F.PTN_CP_CP_STATE p.val) 5 else s

/-! ### Insulation channels (R196) -/

/-- The insulation channel of a point. -/
def State.imOf (s : State) (p : Fin 8) : Nat := s.get (F.TPT_LINK_IM p.val)

/-- A DC point that has reached Authorised takes its insulation channel if that is free. -/
def State.claimIm (s : State) (p : Fin 8) : State :=
  let c := s.imOf p
  if s.type_ p = 3 ∧ s.flag (F.TPT_IM_BUSY c) = false then
    ((s.set (F.TPT_IM_BUSY c) 1).set (F.TPT_IM_OWNER c) p.val).modSx p (fun x => { x with isoGood := 0, isoBad := 0 })
  else s

/-- Whether a point holds its insulation channel. -/
def State.hasIm (s : State) (p : Fin 8) : Bool :=
  s.flag (F.TPT_IM_BUSY (s.imOf p)) && s.get (F.TPT_IM_OWNER (s.imOf p)) == p.val

/-- A point gives its insulation channel up; a point that waits for it in Authorised takes it. -/
def State.releaseIm (s : State) (p : Fin 8) : State :=
  if s.type_ p = 3 ∧ s.hasIm p = true then
    let c := s.imOf p
    let s := s.set (F.TPT_IM_BUSY c) 0
    match points.find? (fun k => k != p && s.sess k == 3 && s.type_ k == 3 && s.imOf k == c) with
    | some k => s.claimIm k
    | none => s
  else s

/-! ### State changes (R175) -/

/-- Whether a state is one of those in which a session has its insulation channel. -/
def holdsIm (st : Nat) : Bool := decide (3 ≤ st) && decide (st ≤ 6)

/-- A point's session state changes: EV061, the recorded state of R386, the pilot, and what its checks drove. -/
def State.enter (s : State) (p : Fin 8) (new reason : Nat) : State :=
  let old := s.sess p
  let s := if old = 3 ∧ ((s.sx p).rcmTesting = true ∨ (s.sx p).leak = .filling) then s.openPoint p else s
  let s := s.set (F.TPT_STATE_STATE p.val) new
  let s := if reason = 0 then s else s.set (F.TPT_STATE_LAST_REASON p.val) reason
  let s := { s with tpt := { s.tpt with recorded := s.tpt.recorded.set p (BitVec.ofNat 4 new) } }
  let s := s.modSx p (fun x => { x with actedAt := some s.time.now, rcmTesting := false, leak := .idle, stackCmd := (if x.waitSafe || holdsIm new then x.stackCmd else 0) })
  let s := s.raise { src := 61, point := p.val, detail := new + old <<< 8 + reason <<< 16 }
  let s := if holdsIm old && !(holdsIm new) then s.releaseIm p else s
  (s.showPilot p).mirrored

/-- The session end record (R180). -/
def State.endRecord (s : State) (p : Fin 8) : List Byte :=
  let x := s.sx p
  let src := s.get (F.TPT_STATE_AUTH_SRC p.val)
  let total := if x.startSeq = 0 ∨ x.endSeq = 0 then 0 else (x.endTotal - x.startTotal).toNat
  let body := natLE 4 0x45535353 ++ natLE 2 1 ++ natLE 1 (p.val + 16 * s.type_ p) ++
    natLE 1 (s.get (F.TPT_STATE_LAST_REASON p.val)) ++
    natLE 4 (if x.ident = [] then 0 else s.get (F.TPT_SESSION_NUMBER p.val)) ++
    natLE 1 (s.get (F.TPT_STATE_PROTO p.val)) ++ natLE 1 src ++ natLE 2 (if src = 2 then x.contractIdx.toNat else 0xFFFF) ++
    (if x.ident = [] then zeros 16 else (sha256 x.ident).take 16) ++ natLE 8 x.startSeq.toNat ++ natLE 8 x.endSeq.toNat ++
    natLE 8 (x.qs.getD 0) ++ natLE 8 (x.qe.getD 0) ++ natLE 8 total ++ natLE 4 x.flags.toNat
  body ++ natLE 4 (crc32 body)

/-- The record written and offered, with EV073 (R180). -/
def State.writeRecord (s : State) (p : Fin 8) : State :=
  ((s.toStore 1 p.val (s.endRecord p)).modSx p (fun x => { x with recDue := false })).raise { src := 73, point := p.val }

/-- A bit of the record's flags set (R180). -/
def State.sessFlag (s : State) (p : Fin 8) (bit : Nat) : State :=
  s.modSx p (fun x => { x with flags := BitVec.ofNat 32 (putBit x.flags.toNat bit true) })

/-- Another stop event of the tick in which the session was stopped is recorded by its flag (R176). -/
def State.sameTick (s : State) (p : Fin 8) (bit : Nat) : State :=
  if (s.sx p).actedAt = some s.time.now then s.sessFlag p bit else s

/-- A point whose partner is gone leaves Closed, and Faulted where AUTO_CLR allows (R175, R181). -/
def State.leaveIfAbsent (s : State) (p : Fin 8) : State :=
  let x := s.sx p
  let st := s.sess p
  if x.partner then s
  else if st = 7 then s.enter p 0 0
  else if st = 15 ∧ s.flag (F.TPT_CFG_AUTO_CLR p.val) = true ∧ s.flag (F.TPT_STATE_WELD p.val) = false ∧
      x.recDue = false ∧ x.weldCmd = none then s.enter p 0 0
  else s

/-- A session closes with its end record (R175, R180). -/
def State.sessClose (s : State) (p : Fin 8) (reason : Nat) : State :=
  ((s.enter p 7 reason).writeRecord p).leaveIfAbsent p

/-- Whether a DC point's stack must ramp down before its contactor opens (R186). -/
def State.mustRamp (s : State) (p : Fin 8) : Bool :=
  s.type_ p == 3 && (s.mains p).any s.lsOn && decide (50 ≤ (s.sx p).stackAmps.natAbs)

/-- The open command to PW, and on a DC point the ramp-down before it; PW's confirmation is awaited (R186). -/
def State.sessOpen (s : State) (p : Fin 8) : State :=
  let s := if s.mustRamp p then s else s.openPoint p
  s.modSx p (fun x => { x with waitSafe := true, stackCmd := 4 })

/-- A latching reason sets WELD (R181). -/
def State.latchWeld (s : State) (p : Fin 8) (reason : Nat) : State :=
  if reason = 0x12 ∨ reason = 0x28 then
    { s.set (F.TPT_STATE_WELD p.val) 1 with tpt := { s.tpt with latched := s.tpt.latched.set p reason } }
  else s

/-- A session fails: switches to their safe state first where it had reached Checked; the record at once, or
once the end reading is complete (R175, R178, R180). -/
def State.sessFault (s : State) (p : Fin 8) (reason : Nat) (prov : Bool) : State :=
  let old := s.sess p
  let s := if prov then s.sessFlag p 0 else s
  let s := if 4 ≤ old ∧ old ≤ 6 then s.sessOpen p else s
  let s := (s.latchWeld p reason).enter p 15 reason
  let s := if old = 5 then s.modSx p (fun x => { x with waitEnd := true, recDue := true })
    else if old = 6 ∧ (s.sx p).waitEnd = true then s.modSx p (fun x => { x with recDue := true })
    else if 2 ≤ old ∧ old ≤ 6 then s.writeRecord p
    else s
  s.leaveIfAbsent p

/-- A session in Transferring stops (R175). -/
def State.sessStop (s : State) (p : Fin 8) (reason : Nat) (prov : Bool) : State :=
  let s := if prov then s.sessFlag p 0 else s
  ((s.sessOpen p).modSx p (fun x => { x with waitEnd := true })).enter p 6 reason

/-- A session that waits in Ending closes once its switches are confirmed open and its end reading is complete;
one that waits in Faulted then has its record written (R175, R178). -/
def State.sessTryEnd (s : State) (p : Fin 8) : State :=
  let x := s.sx p
  if x.waitEnd then s
  else if s.sess p = 6 then (if x.waitSafe then s else s.sessClose p (s.get (F.TPT_STATE_LAST_REASON p.val)))
  else if x.recDue = true ∧ s.sess p = 15 then (s.writeRecord p).leaveIfAbsent p
  else s

/-- The end reading of a session asked for, with its q_e (R178). -/
def State.sessEndReading (s : State) (p : Fin 8) (qe : Nat) : State :=
  (s.modSx p (fun x => { x with qe := some qe })).requestReading 2 p qe none

/-- A point enters Transferring: the close command to PW, q_s and the start reading (R175, R178). -/
def State.sessStart (s : State) (p : Fin 8) : State :=
  let q := s.time.quantum
  let s := (s.closePoint p).modSx p (fun x => { x with qs := some q, stackCmd := 3, stackMis := 0 })
  (s.requestReading 1 p (q - 1) none).enter p 5 0

/-- Whether the partner is ready: pilot state C or D under basic charging, with the protocol's own start under
a digital one (R185, R189); the skid's ready flag, assumed in generation 1 (R191). -/
def State.partnerReady (s : State) (p : Fin 8) : Bool :=
  let proto := s.get (F.TPT_STATE_PROTO p.val)
  let cp := s.get (F.PTN_CP_CP_STATE p.val)
  let c := cp == 2 || (cp == 3 && s.flag (F.TPT_CFG_VENT_OK p.val))
  if isElec (s.type_ p) then c && (proto == 1 || (s.sx p).ready) else proto == 0x11 || (s.sx p).ready

/-- A partner that is ready starts the transfer from Checked (R175). -/
def State.tryStart (s : State) (p : Fin 8) : State :=
  if s.sess p = 4 ∧ s.partnerReady p = true then s.sessStart p else s

/-- A partner absent (R175, R180). -/
def State.sessAbsent (s : State) (p : Fin 8) : State :=
  let s := s.modSx p (fun x => { x with partner := false, ready := false })
  match s.sess p with
  | 1 => s.enter p 0 0
  | 2 => s.sessClose p 0x05
  | 3 => s.sessClose p 0x05
  | 4 => s.sessClose p 0x05
  | 5 => s.sessFault p 0x05 false
  | 6 => s.sameTick p 4
  | _ => (if (s.sx p).recDue then s.sameTick p 4 else s).leaveIfAbsent p

/-- A stop by the partner or the host before the end (R175): Transferring ends, an earlier session closes. -/
def State.sessStopBy (s : State) (p : Fin 8) (reason : Nat) : State :=
  match s.sess p with
  | 2 => s.sessClose p reason
  | 3 => s.sessClose p reason
  | 4 => s.sessClose p reason
  | 5 => s.sessStop p reason false
  | _ => s

/-- A stop by the partner (R175); in the tick of another stop only its flag is recorded (R176). -/
def State.sessPartnerStop (s : State) (p : Fin 8) : State :=
  let st := s.sess p
  let s := s.modSx p (fun x => { x with ready := false })
  if 2 ≤ st ∧ st ≤ 5 then s.sessStopBy p 0x01 else s.sameTick p 3

/-- A pilot, heartbeat, authentication or stack fault: it ends a session from Connected to Transferring (log 23). -/
def State.sessFaultLive (s : State) (p : Fin 8) (reason : Nat) : State :=
  if 1 ≤ s.sess p ∧ s.sess p ≤ 5 then s.sessFault p reason false else s

/-- A safety stop (R237): Checked or later stops, an earlier session closes. -/
def State.sessSafety (s : State) (p : Fin 8) : State :=
  let st := s.sess p
  if 4 ≤ st ∧ st ≤ 6 then s.sessFault p 0x25 false
  else if 1 ≤ st ∧ st ≤ 3 then s.sessClose p 0x25
  else s

/-- SF's signal of a demand reaches AP for a mask of points (R237). -/
def State.safetyStop (s : State) (mask : Nat) : State :=
  s.ap (fun s => (points.filter (fun p => mask.testBit p.val)).foldl (fun s p => s.sessSafety p) s)

/-- A load-switch channel of a point in Checked or later shed, latched or off at undervoltage (R212). -/
def State.switchStop (s : State) (p : Fin 8) (reason : Nat) : State :=
  s.ap (fun s => if 4 ≤ s.sess p ∧ s.sess p ≤ 6 then s.sessFault p reason false else s)

/-! ### Detection (R175, R183, R190) -/

/-- Whether the electrical mapping of a point meets R62. -/
def State.elecReady (s : State) (p : Fin 8) : Bool :=
  let m := elecMap s.get p.val
  let on := fun k => nth m k 31 != 31
  on 0 && on 4 && on 8 && (s.type_ p != 2 || (on 1 && on 2 && on 5 && on 6))

/-- A binary32 setting. -/
def State.num (s : State) (off : Nat) : Rat := (f32 (s.reg off)).getD 0

/-- Whether a fluid role's input carries one of the types stated for it (R79). -/
def State.roleOk (s : State) (i : Nat) (types : List Nat) : Bool :=
  i != 31 && types.contains (s.get (F.MET_INCFG_TYPE i))

/-- Whether a fluid point's mapping, input types, primary settings, substitute state and geometry meet R81,
R101, R103 and R106, and its leak test R197. -/
def State.fluidReady (s : State) (p : Fin 8) : Bool :=
  let n := p.val
  let ty := s.type_ p
  let m := fluidMap s.get n
  let prim := s.get (F.MET_FL_CFG_PRIM n)
  let orif := decide (1 ≤ prim) && decide (prim ≤ 3)
  let dp := s.roleOk (nth m 0 31) [5]
  let pr := s.roleOk (nth m 1 31) [5]
  let tm := s.roleOk (nth m 2 31) [6, 7]
  let rh := nth m 3 31 == 31 || s.roleOk (nth m 3 31) [5]
  let pOk := if ty = 6 then nth m 1 31 == 31 || pr else pr
  let x : Rat := (s.get (F.MET_FL_PARAM_X_FIX n) : Rat) / 1000
  let band : Rat := (s.get (F.MET_FL_PARAM_SAT_BAND n) : Rat) / 10
  let sub := validState ty (s.num (R.MET_FL_SUB_P n)) (s.num (R.MET_FL_SUB_T n)) (s.num (R.MET_FL_SUB_RH n)) x band
  let d := s.num (R.MET_FL_BORE n)
  let pipe := s.num (R.MET_FL_PIPE n)
  let geo := decide (125 / 10 ≤ d) && decide (50 ≤ pipe) && decide (pipe ≤ 1000) && decide (pipe / 10 ≤ d) &&
    decide (d ≤ pipe * 3 / 4)
  let leak := s.get (F.TPT_CFG_LEAK_EN n) == 0 ||
    (s.get (F.TPT_LEAK2_P_TEST n) != 0 && s.get (F.TPT_LEAK2_SETTLE n) != 0 && s.get (F.TPT_LEAK2_DUR n) != 0 &&
      (ty != 6 || nth m 1 31 != 31))
  decide (1 ≤ prim) && decide (prim ≤ 6) && (!orif || (dp && geo)) && pOk && tm && (ty != 5 || rh) && sub &&
    decide (0 < s.num (R.MET_FL_QREF n)) && leak

/-- Whether a point may leave Idle when a partner is detected (R175). The standby module of a pair runs no
session (R177); while update steps run every point counts as out of service (R394). -/
def State.mayConnect (s : State) (p : Fin 8) : Bool :=
  let ty := s.type_ p
  s.sess p == 0 && !(s.flag (F.TPT_STATE_OOS p.val)) && !(s.flag (F.TPT_STATE_WELD p.val)) &&
  s.get F.FAB_STATUS_ROLE != 2 && s.get F.UPD_STATUS_STATE != 2 && (if isElec ty then s.elecReady p else isFluid ty && s.fluidReady p)

/-- Highest generation that may be tried, and the lowest (R190). -/
def State.minGen (s : State) (p : Fin 8) : Nat :=
  match s.get (F.TPT_CFG_MIN_GEN p.val) with
  | 0 => 3
  | g => g

/-- A partner detected (R175, R187, R190). -/
def State.sessDetect (s : State) (p : Fin 8) : State :=
  let s := s.modSx p (fun x => { x with partner := true })
  if s.mayConnect p = false then s
  else
    let old := s.sx p
    let new : Sess := { Sess.reset with partner := true, ready := old.ready, hostLimit := old.hostLimit }
    let s := s.modSx p (fun _ => { new with bcChanges := old.bcChanges })
    let s := if isFluid (s.type_ p) then s.modSx p (fun x => { x with trying := 3 }) else s
    let proto := if isElec (s.type_ p) && !(s.digitalOn p) then 1 else 0
    let s := ((s.set (F.TPT_STATE_PROTO p.val) proto).set (F.TPT_STATE_AUTH_SRC p.val) 0).set (F.PTN_COUP_GEN p.val) 0
    s.enter p 1 0

/-! ### Authorisation (R198, R199) -/

/-- The entry of the contract table that admits an identity at a point: its index and prepaid limit (R199). -/
def State.contract (s : State) (p : Fin 8) (ident : List Byte) : Option (Nat × Nat) :=
  let h := (sha256 ident).take 16
  let proto := s.get (F.TPT_STATE_PROTO p.val)
  let low := proto == 0x11 || proto == 0x12
  let hit := fun k =>
    let e := slice s.tpt.table (32 * k) 32
    let f := fld e 17 1
    e.take 16 == h && f.testBit 0 && (fld e 16 1).testBit p.val && (!low || f.testBit 1)
  ((List.range (s.tpt.table.length / 32)).find? hit).map (fun k => (k, fld s.tpt.table (32 * k + 24) 8))

/-- The checks of a point in Authorised begin, once no start test runs on it: the drive of the residual-current
test, and the filling of the leak test (R194, R195, R197). RCM_LS must name an auxiliary channel of the point. -/
def State.beginChecks (s : State) (p : Fin 8) : State :=
  if s.sess p ≠ 3 ∨ s.bit F.MET_STEST_CTRL_BUSY p.val = true then s
  else if isElec (s.type_ p) then
    if s.flag (F.TPT_LINK_RCM_TEST_EN p.val) then
      let n : Fin 16 := Fin.ofNat 16 (s.get (F.TPT_LINK_RCM_LS p.val))
      let aux := s.pointOwned n && s.ownerPoint n == p && s.flag (F.LSW_CH_CFG_AUX (s.leader n).val)
      (if aux then s.commandChan n true else s).modSx p (fun x => { x with rcmTesting := true })
    else s
  else if s.flag (F.TPT_CFG_LEAK_EN p.val) then (s.closePoint p).modSx p (fun x => { x with leak := .filling })
  else s

/-- Entry to Authorised from a source; the checks begin (R194, R198). -/
def State.sessGrant (s : State) (p : Fin 8) (src prepaid : Nat) : State :=
  let s := s.set (F.TPT_STATE_AUTH_SRC p.val) src
  let pre := BitVec.ofNat 64 prepaid
  let s := s.modSx p (fun x => { x with prepaid := pre, certWait := false, hostAsked := false })
  let s := s.modSx p (fun x => { x with weldQ := 0, rcmDone := false, rcmSeen := false, stackCmd := 1 })
  ((s.enter p 3 0).claimIm p).beginChecks p

/-- Sources 2 and 3 (R198): the contract table, then a request to the host. -/
def State.authTable (s : State) (p : Fin 8) : State :=
  let en := s.get (F.TPT_CFG_AUTH_EN p.val)
  let x := s.sx p
  if en.testBit 1 = true ∧ x.contractIdx ≠ 0xFFFF then s.sessGrant p 2 x.prepaid.toNat
  else if en.testBit 2 then (s.modSx p (fun x => { x with hostAsked := true })).raise { src := 62, point := p.val }
  else s

/-- The sources tried in order (R198). -/
def State.authorise (s : State) (p : Fin 8) : State :=
  let x := s.sx p
  if (s.get (F.TPT_CFG_AUTH_EN p.val)).testBit 0 = true ∧ x.certValid = true then
    if s.flag (F.TPT_CFG_REVOC p.val) then
      (s.modSx p (fun x => { x with certWait := true })).raise { src := 63, point := p.val }
    else s.sessGrant p 1 0
  else s.authTable p

/-- An identity established: a session number, the contract table as it now is, and the sources of
authorisation (R175, R177, R198, R199). -/
def State.sessIdentify (s : State) (p : Fin 8) (ident : List Byte) (cert : Bool) : State :=
  let n := (s.tpt.counter.toNat + 1) % 2 ^ 32
  let n := if n = 0 then 1 else n
  let s := { s with tpt := { s.tpt with counter := BitVec.ofNat 32 n } }
  let s := s.set (F.TPT_SESSION_NUMBER p.val) n
  let c := s.contract p ident
  let s := s.modSx p (fun x => { x with ident := ident, certValid := cert, certWait := false, hostAsked := false })
  let idx := BitVec.ofNat 16 ((c.map Prod.fst).getD 0xFFFF)
  let pre := BitVec.ofNat 64 ((c.map Prod.snd).getD 0)
  let s := s.modSx p (fun x => { x with contractIdx := idx, prepaid := pre })
  (s.enter p 2 0).authorise p

/-! ### Confirmed and provisional values (R71, R72, R127, R132, R194, R198) -/

/-- The phase voltages of a block, in 0.01 V: of an AC point its rms values, of a DC point its mean. -/
def PBlock.volts (b : PBlock) : List Nat :=
  if isAc b.type_ then (b.meas.take 4).map Int.natAbs else (b.meas.take 1).map Int.natAbs

/-- Whether a confirmed block meets the weld row in a quantum: every V input below 10 % of VNOM (R194). -/
def State.voltsLow (s : State) (p : Fin 8) (b : PBlock) : Bool :=
  b.volts.all (fun v => decide (v < s.get (F.MET_TPNOM_VNOM p.val)))

/-- Reason of a condition in Transferring: the phase conditions before the residual-current ones (log 23). -/
def condReason (c : Half) : Nat := if c.toNat % 8 ≠ 0 then 0x14 else 0x21

/-- Whether the session total, by a value of the first block's total, reaches the prepaid limit (R198). -/
def Sess.prepaidReached (x : Sess) (total : Nat) : Bool :=
  x.startTaken && x.prepaid != 0 && decide (x.prepaid.toNat ≤ (total + 2 ^ 64 - x.startTotal.toNat) % 2 ^ 64)

/-- What a provisional record does to a session in Transferring: only the safe direction (R132). -/
def State.sessProv (s : State) (p : Fin 8) (b : PBlock) : State :=
  if s.sess p ≠ 5 then s
  else if b.conds ≠ 0 then s.sessFault p (condReason b.conds) true
  else
    let code := nth (qtyCodes b.type_) 0 0
    let blk := s.bil.points[p].blocks[code]
    let total := blk.total.toNat + (blk.residue.toNat + (nth b.slots 0 0).toNat) / 65536
    if (s.sx p).prepaidReached total then
      let s := (s.sessFlag p 1).sessStop p 0x03 true
      s.raise { src := 74, p := true, point := p.val }
    else s

/-- FLOW_SUB, RANGE, ID_FAIL and FIELD_LATE of the fluid status word (R102, R111). -/
def flMask : Nat := 0xB040

/-- The rows of the checks that a point's registers show unmet: the reasons of those that fail (R194). -/
def State.unmet (s : State) (p : Fin 8) (held : Bool) : List Nat :=
  let n := p.val
  let ty := s.type_ p
  let c := s.reg (R.MET_TPCOND n)
  (if held then [0x20] else []) ++
  (if isElec ty then
    (if bitsOf c 4 3 ≠ 0 then [0x10] else []) ++ (if isAc ty && bitsOf c 2 0 != 0 then [0x14] else []) ++
    (if c.testBit 7 then [] else [0x15])
  else if s.reg (R.MET_FLSTAT n) &&& flMask ≠ 0 then [0x04] else [])

/-- A failed check reported (R194, R200). -/
def State.checkFailed (s : State) (p : Fin 8) (reason : Nat) : State :=
  let s := s.raise { src := 64, point := p.val }
  let s := if reason = 0x12 then s.raise { src := 72, point := p.val } else s
  s.sessFault p reason false

/-- What a confirmed record does to the session of a point (R127, R175, R181, R194, R195, R198). -/
def State.sessConfirmed (s : State) (p : Fin 8) (b : PBlock) (held : Bool) : State :=
  let low := !held && s.pointSafe p && s.voltsLow p b
  let trip := !held && b.conds.toNat.testBit 3
  let s := s.modSx p (fun x => { x with weldQ := (if low then x.weldQ + 1 else 0), rcmSeen := (x.rcmSeen || x.rcmTesting && trip) })
  let i := (nth b.meas 1 0).natAbs
  let far := s.type_ p == 3 && s.sess p == 5 && !held &&
    decide (2 * i + 50000 < 100 * ((nth b.meas 1 0) - 100 * (s.sx p).stackAmps).natAbs)
  let s := s.modSx p (fun x => { x with stackMis := (if far then x.stackMis + 1 else 0) })
  match s.sess p with
  | 4 =>
    match s.unmet p held with
    | r :: _ => s.checkFailed p r
    | [] => if isElec b.type_ && s.pointSafe p && !(s.voltsLow p b) then s.checkFailed p 0x12 else s
  | 5 =>
    if held then s.sessFault p 0x20 false
    else if b.conds ≠ 0 then s.sessFault p (condReason b.conds) false
    else if (s.sx p).prepaidReached (s.total0 p) then
      ((s.sessFlag p 1).sessStop p 0x03 false).raise { src := 74, point := p.val }
    else s
  | _ => s

/-- What a confirmed record does to the sessions; a partner that waited for its point is taken up again. -/
def State.sessQuantum (s : State) (rec : QRec) : State :=
  s.ap (fun s => points.foldl (fun s p =>
    let s := match rec.blocks.lookup p.val with
      | some b => s.sessConfirmed p b (s.vot.holds[p]).isSome
      | none => s
    if s.sess p = 0 ∧ (s.sx p).partner = true then s.sessDetect p else s) s)

/-- What a provisional record does to the sessions (R132). -/
def State.sessProvRec (s : State) (rec : QRec) : State :=
  s.ap (fun s => rec.blocks.foldl (fun s nb => s.sessProv (Fin.ofNat 8 nb.1) nb.2) s)

end Sys2Proof.Machine
end

