-- ==== Sys2Proof/Machine/Voting.lean ====
section
/-! DEFINITION. The voter in VL: qualified records, agreement and confirmation, provisional quanta, holds,
channel states and the end of start tests (chapter 4, R68, R69, R102). Quanta are resolved in increasing
order (log 28). -/

namespace Sys2Proof.Machine

/-! ### Bytes of a quantum record (R113, R114, R116) -/

/-- Offsets and sizes of the measurement fields of a type (R116). -/
def measLayout (ty : Nat) : List (Nat × Nat) :=
  if isAc ty then
    (List.range 9).map (fun k => (4 * k, 4)) ++ (List.range 4).map (fun k => (36 + 2 * k, 2)) ++
      (List.range 6).map (fun k => (44 + 2 * k, 2))
  else match ty with
    | 3 => [(0, 4), (4, 4)]
    | 4 => [(0, 4), (4, 4), (8, 4), (12, 4), (16, 4), (20, 2)]
    | 5 => [(0, 4), (4, 4), (8, 2), (12, 4), (16, 4)]
    | 6 => [(0, 4), (4, 4), (8, 4), (16, 4)]
    | _ => []

/-- The measurement area of a block. -/
def PBlock.measBytes (b : PBlock) : List Byte :=
  padTo 64 ((measLayout b.type_).zip b.meas |>.foldl (fun acc f =>
    padTo f.1.1 acc ++ natLE f.1.2 (ofSigned (8 * f.1.2) f.2)) [])

/-- A point block's 104 bytes. -/
def PBlock.bytes (b : PBlock) : List Byte :=
  natLE 1 b.type_ ++ [b.marks] ++ natLE 2 b.conds.toNat ++ natLE 4 b.fluid.toNat ++
    ((List.range 4).map (fun k => natLE 8 (ofSigned 64 (nth b.slots k 0)))).flatten ++ b.measBytes

/-- The point mask of a record. -/
def QRec.mask (r : QRec) : Nat := (r.blocks.map (fun nb => 1 <<< nb.1)).sum

/-- A record's 864 bytes. -/
def QRec.bytes (r : QRec) : List Byte :=
  let body := natLE 2 0x5152 ++ natLE 1 r.chan ++ [r.flags] ++ natLE 8 r.q ++ natLE 2 r.samples ++ natLE 1 r.band ++
    natLE 1 r.mask ++ natLE 2 r.calNo ++ natLE 2 r.gen ++ zeros 4 ++
    ((List.range 8).map (fun n => match r.blocks.lookup n with
      | some b => b.bytes
      | none => zeros 104)).flatten
  body ++ natLE 4 (crc32 body) ++ zeros 4

/-! ### Channel states (R118, R124, R128) -/

/-- The state with the voter's part changed. -/
def State.modVot (s : State) (f : VotS → VotS) : State := { s with vot := f s.vot }

/-- State of a channel: 0 voting, 1 faulty, 2 re-verifying, 3 forced out, 4 fenced. -/
def State.chState (s : State) (c : Fin 3) : Nat :=
  bitsOf (s.get F.VOT_STATUS_CH_STATE) (3 * c.val + 2) (3 * c.val)

/-- VOT_STATUS.MODE from the number of voting channels (R118). -/
def State.showMode (s : State) : State :=
  let n := (chans.filter (fun c => s.chState c == 0)).length
  s.set F.VOT_STATUS_MODE (if n = 3 then 0 else if n = 2 then 1 else 2)

/-- Consecutive disagreements of a channel (VOT_DISAG). -/
def State.consec (s : State) (c : Fin 3) : Nat := bitsOf (s.get F.VOT_DISAG_CONSEC) (2 * c.val + 1) (2 * c.val)

/-- The state with a channel's consecutive disagreements. -/
def State.setConsec (s : State) (c : Fin 3) (v : Nat) : State :=
  s.set F.VOT_DISAG_CONSEC (putBits (s.get F.VOT_DISAG_CONSEC) (2 * c.val + 1) (2 * c.val) v)

/-- Quanta passed in a channel's re-verification run (VOT_REVER). -/
def runFld (c : Fin 3) : Fld := ⟨R.VOT_REVER, 8 * c.val + 6, 8 * c.val⟩

/-- A channel changes state, with its legal-log entry (R124, R169). -/
def State.setChState (s : State) (c : Fin 3) (new : Nat) : State :=
  let old := s.chState c
  let s := s.log { type_ := 0x0020, sub := c.val, payload := natLE 1 old ++ natLE 1 new ++ zeros 6 ++ natLE 8 s.vot.qf[c] }
  let s := s.set F.VOT_STATUS_CH_STATE (putBits (s.get F.VOT_STATUS_CH_STATE) (3 * c.val + 2) (3 * c.val) new)
  let s := s.set (runFld c) 0
  (s.modVot (fun v => { v with rejoin := v.rejoin.set c false })).showMode

/-- A channel marked faulty with its q_f (R124, R43). -/
def State.markFaulty (s : State) (c : Fin 3) (qf : Nat) : State :=
  let s := s.modVot (fun v => { v with qf := v.qf.set c qf })
  ((s.setChState c 1).fault 0xB (chanIsl c)).raise { src := 42, unit_ := c.val, q := some qf }

/-- A re-verification run ends without rejoin (R128). -/
def State.revFail (s : State) (c : Fin 3) (qf : Nat) : State :=
  (s.markFaulty c qf).raise { src := 46, unit_ := c.val, q := some qf }

/-- A channel becomes faulty from whatever state it is in: voting, or re-verifying. -/
def State.failChan (s : State) (c : Fin 3) (qf : Nat) : State :=
  match s.chState c with
  | 0 => s.markFaulty c qf
  | 2 => s.revFail c qf
  | _ => s

/-- The electrical points. -/
def State.elecPoints (s : State) : List (Fin 8) := points.filter (fun n => isElec (s.type_ n))

/-- Whether a failed start test still bars a channel from re-verification (R128). -/
def State.testOwed (s : State) (c : Fin 3) : Bool :=
  match s.vot.owed[c] with
  | some l => s.elecPoints.any (fun n => !(l.contains n.val))
  | none => false

/-- Re-verification begins with the quantum in progress (R128). -/
def State.startRev (s : State) (c : Fin 3) : State :=
  let q := s.time.quantum
  let s := (s.setChState c 2).setConsec c 0
  let s := s.modVot (fun v => { v with owed := v.owed.set c none, revNext := v.revNext.set c q })
  s.raise { src := 44, unit_ := c.val, q := some q }

/-- Rejoins of a channel within the last 24 h of VL time (R128). -/
def State.rejoins (s : State) (c : Fin 3) : List Nat :=
  s.vot.rejoins[c].filter (fun t => decide (s.time.now < t + 86400000000))

/-- VOT_REJOIN and VOT_CH_DEV.DEV as of now. -/
def State.showVoterCounts (s : State) : State :=
  chans.foldl (fun s c =>
    let s := s.set F.VOT_REJOIN_COUNT (putBits (s.get F.VOT_REJOIN_COUNT) (4 * c.val + 3) (4 * c.val) (sat 4 (s.rejoins c).length))
    let l := s.vot.devs[c].filter (fun d => decide (s.time.now < d.1 + 1000000))
    let s := s.modVot (fun v => { v with devs := v.devs.set c l })
    s.setSat (F.VOT_CH_DEV_DEV c.val) (l.foldl (fun a d => max a d.2) 0)) s

/-! ### Qualification and agreement (R117, R119, R120) -/

/-- A record that meets R117. -/
def State.qualified (s : State) (a : Arr) : Bool :=
  a.crcOk && !(a.qrec.flags.toNat.testBit 0) && !(a.qrec.flags.toNat.testBit 1) &&
    s.met.recorded.lookup a.qrec.q == some (a.qrec.calNo, a.qrec.gen)

/-- Whether a channel takes part in a quantum (R118, R128). -/
def State.takesPart (s : State) (q c : Nat) : Bool :=
  let c : Fin 3 := Fin.ofNat 3 c
  s.chState c == 0 && decide (s.vot.join[c] ≤ q)

/-- The tolerance of R119 between two values of a kind. -/
def State.tolerance (s : State) (kind : Nat) (x y : Int) : Nat :=
  let m := max x.natAbs y.natAbs
  max ((s.now (F.VOT_TOL_REL kind) * m + 99999) / 100000) (s.now (F.VOT_TOL_ABS kind))

/-- Whether two values of a slot agree (R119). -/
def State.agree (s : State) (kind : Nat) (x y : Int) : Bool := decide ((x - y).natAbs ≤ s.tolerance kind x y)

/-- A channel's value of a slot, with the tick of its arrival. -/
structure Vote where
  chan : Nat
  value : Int
  tick : Nat
  deriving DecidableEq, Repr

/-- Order of the pairs of R120: smallest difference, then the pair whose later record came first, then the
lower letters. -/
def pairBefore (a b : Vote × Vote) : Bool :=
  let d := fun (p : Vote × Vote) => (p.1.value - p.2.value).natAbs
  let t := fun (p : Vote × Vote) => max p.1.tick p.2.tick
  decide (d a < d b) || (d a == d b && (decide (t a < t b) ||
    (t a == t b && decide (3 * a.1.chan + a.2.chan < 3 * b.1.chan + b.2.chan))))

/-- The pairs of a list, in its order. -/
def pairs : List Vote → List (Vote × Vote)
  | [] => []
  | v :: t => t.map (fun w => (v, w)) ++ pairs t

/-- The agreeing set of a slot (R120). -/
def State.agreeingSet (s : State) (kind : Nat) (votes : List Vote) : List Vote :=
  let ok := (pairs votes).filter (fun p => s.agree kind p.1.value p.2.value)
  if ok.length = (pairs votes).length then votes
  else match ok with
    | [] => []
    | p :: t =>
      let b := t.foldl (fun b p => if pairBefore p b then p else b) p
      [b.1, b.2]

/-- Whether an agreeing set is allowed with so many channels voting (R121). -/
def allowedSet (voting : Nat) (set_ : List Vote) : Bool :=
  decide (2 ≤ voting) && decide (2 ≤ set_.length)

/-- The value of a set: its median, or of two the floor of the mean (R122). -/
def setValue : List Int → Int
  | [a, b, c] => median3 a b c
  | [a, b] => (a + b) / 2
  | a :: _ => a
  | [] => 0

/-- A bit field voted: majority of three, either of two (R123). -/
def voteBits : List Nat → Nat
  | [a, b, c] => (a &&& b) ||| (a &&& c) ||| (b &&& c)
  | l => l.foldl (· ||| ·) 0

/-! ### Forming the confirmed record (R121 to R123, R126, R144) -/

/-- What the voter holds for a quantum: the arrived records, those that take part, and the number of voting
channels. -/
structure Poll where
  recs : List Arr
  good : List Arr
  voting : Nat
  deriving DecidableEq, Repr

/-- The records of a quantum by channel letter. -/
def State.poll (s : State) (q : Nat) : Poll :=
  let recs := (List.range 3).flatMap (fun c => s.vot.arrived.filter (fun a => a.qrec.q == q && a.qrec.chan == c))
  { recs := recs, good := recs.filter (fun a => s.takesPart q a.qrec.chan && s.qualified a),
    voting := (chans.filter (fun c => s.takesPart q c.val)).length }

/-- Types of the configured points of a quantum: those of a qualified record, else of any record, else as the
points are now typed. -/
def State.pollTypes (s : State) (p : Poll) : List (Nat × Nat) :=
  match p.good ++ p.recs with
  | a :: _ => a.qrec.blocks.map (fun nb => (nb.1, nb.2.type_))
  | [] => (points.filter (fun n => s.type_ n != 0)).map (fun n => (n.val, s.type_ n))

/-- The qualified blocks of a point (R117). -/
def Poll.blocks (p : Poll) (n : Nat) : List (Arr × PBlock) :=
  p.good.filterMap (fun a => match a.qrec.blocks.lookup n with
    | some b => if b.marks.toNat.testBit 0 then none else some (a, b)
    | none => none)

/-- The agreeing set of a point's slot. -/
def State.slotSet (s : State) (p : Poll) (n ty k : Nat) : List Vote :=
  s.agreeingSet (tolKind ty + k) ((p.blocks n).map (fun ab => ⟨ab.1.qrec.chan, nth ab.2.slots k 0, ab.1.tick⟩))

/-- The slots of a point that would be held if the quantum were resolved now; with slot 0 of an AC point its
slot 1 too (R126, R144). -/
def State.heldMask (s : State) (p : Poll) (n ty : Nat) : Nat :=
  let m := ((List.range (usedSlots ty)).map (fun k => (!(allowedSet p.voting (s.slotSet p n ty k))).toNat <<< k)).sum
  if isAc ty then m ||| ((m % 2) <<< 1) else m

/-- Whether a quantum is confirmed by R121. -/
def State.complete? (s : State) (p : Poll) : Bool :=
  let l := s.pollTypes p
  if l.all (fun nt => usedSlots nt.2 == 0) then decide (2 ≤ p.voting) && decide (2 ≤ p.good.length)
  else p.good != [] && l.all (fun nt => s.heldMask p nt.1 nt.2 == 0)

/-- A confirmed point block (R122, R123), and whether a slot was confirmed from two values. -/
def State.confBlock (s : State) (p : Poll) (n ty : Nat) : PBlock × Bool :=
  let bs := (p.blocks n).map Prod.snd
  let held := s.heldMask p n ty
  let sets := (List.range (usedSlots ty)).map (fun k => if held.testBit k then [] else s.slotSet p n ty k)
  let ovr := voteBits (p.good.filterMap (fun a => (a.qrec.blocks.lookup n).map (fun b => b.marks.toNat % 2)))
  let marks := ovr + (voteBits (bs.map (fun b => b.marks.toNat)) &&& 6) + held <<< 4
  let ms := match bs with
    | b :: _ => (List.range b.meas.length).map (fun k => setValue (bs.map (fun b => nth b.meas k 0)))
    | [] => []
  ({ type_ := ty, marks := BitVec.ofNat 8 marks,
     conds := BitVec.ofNat 16 (voteBits (bs.map (fun b => b.conds.toNat))),
     fluid := BitVec.ofNat 32 (voteBits (bs.map (fun b => b.fluid.toNat))),
     slots := sets.map (fun l => setValue (l.map Vote.value)), meas := ms },
   sets.any (fun l => l.length == 2))

/-- The confirmed record of a quantum. -/
def State.confRecord (s : State) (q : Nat) (p : Poll) (noProv : Bool) : QRec :=
  let bs := (s.pollTypes p).map (fun nt => (nt.1, s.confBlock p nt.1 nt.2))
  let any := fun i => p.good.any (fun a => a.qrec.flags.toNat.testBit i)
  let flags := 4 * (any 2).toNat + 8 * (any 3).toNat + 32 * (bs.any (fun b => b.2.2)).toNat + 64 * noProv.toNat
  let rec_ := (s.met.recorded.lookup q).getD (0, 0)
  { chan := 3, flags := BitVec.ofNat 8 flags, q := q,
    samples := (setValue (p.good.map (fun a => (a.qrec.samples : Int)))).toNat,
    band := (setValue (p.good.map (fun a => (a.qrec.band : Int)))).toNat,
    blocks := bs.map (fun b => (b.1, b.2.1)), calNo := rec_.1, gen := rec_.2 }

/-! ### The provisional window (R129 to R136) -/

/-- MET_PROV_PT_ registers of a point from a block; none for a point without a provisional value. -/
def State.showProv (s : State) (n : Nat) (b : Option PBlock) : State :=
  let s := s.setReg (R.MET_PROV_PT_FLAGS n) (match b with
    | some b => b.marks.toNat <<< 16 + b.conds.toNat
    | none => 0)
  let s := s.setReg (R.MET_PROV_PT_FLSTAT n) (match b with
    | some b => b.fluid.toNat
    | none => 0)
  (List.range 4).foldl (fun (s : State) k => s.set64 (R.MET_PROV_PT_SLOT_LO n k) (match b with
    | some b => ofSigned 64 (nth b.slots k 0)
    | none => 0)) s

/-- The blocks of a provisional record that are qualified (R117). -/
def provBlock (r : QRec) (n : Nat) : Option PBlock :=
  match r.blocks.lookup n with
  | some b => if b.marks.toNat.testBit 0 then none else some b
  | none => none

/-- The window with a record, or withdrawn, under its sequence count (R135, R136). -/
def State.setWindow (s : State) (r : Option QRec) : State :=
  let s := s.modVot (fun v => { v with prov := r })
  let s := s.set F.MET_PROV_SEQ_SEQ (s.get F.MET_PROV_SEQ_SEQ + 2)
  match r with
  | some r =>
    let valid := ((List.range 8).map (fun n => (provBlock r n).isSome.toNat <<< n)).sum
    let s := (s.set64 R.MET_PROV_Q_LO r.q).setReg R.MET_PROV_STATUS (valid <<< 8 + 4 + r.chan)
    (List.range 8).foldl (fun (s : State) n => s.showProv n (provBlock r n)) s
  | none =>
    let s := s.setReg R.MET_PROV_STATUS 0
    (List.range 8).foldl (fun (s : State) n => s.showProv n none) s

/-- The events of R138 for condition bits of a point that newly appear. -/
def State.condEvents (s : State) (n new : Nat) (prov : Bool) (q : Nat) : State :=
  (setBits new 5).foldl (fun (s : State) k => s.raise { src := 19 + k, p := prov, point := n, q := some q }) s

/-- Condition bits of a provisional record's point that are new: set in no newer confirmed or provisional one. -/
def State.newProvConds (s : State) (r : QRec) (n : Nat) : Nat :=
  match provBlock r n with
  | none => 0
  | some b =>
    let seen := s.vot.published.foldl (fun a x => a ||| ((provBlock x n).map (fun b => b.conds.toNat)).getD 0)
      (s.reg (R.MET_TPCOND n) % 32)
    b.conds.toNat % 32 - (b.conds.toNat % 32 &&& seen)

/-- A provisional record published (R129, R135): the window holds the newest one. -/
def State.publish (s : State) (r : QRec) : State :=
  let newer := match s.vot.prov with
    | some x => decide (x.q ≤ r.q)
    | none => true
  let s := if newer then s.setWindow (some r) else s
  let s := s.raise { src := 36, p := true, q := some r.q }
  let s := (List.range 8).foldl (fun (s : State) n => s.condEvents n (s.newProvConds r n) true r.q) s
  (s.modVot (fun v => { v with published := r :: v.published })).sessProvRec r

/-- The first difference between a provisional and a confirmed record: point, and slot or 0xFF (R133). -/
def State.retraction (s : State) (prov conf : QRec) : Option (Nat × Nat) :=
  (List.range 8).findSome? (fun n =>
    match provBlock prov n, conf.blocks.lookup n with
    | some a, some b =>
      match (List.range (usedSlots b.type_)).find? (fun k => b.marks.toNat.testBit (4 + k) ||
          !(s.agree (tolKind b.type_ + k) (nth a.slots k 0) (nth b.slots k 0))) with
      | some k => some (n, k)
      | none => if a.conds = b.conds then none else some (n, 0xFF)
    | _, _ => none)

/-! ### Hold runs (R127) -/

/-- A record's values of held slots added to a run's sums; a bad CRC counts 0. -/
def HoldRun.add (r : HoldRun) (a : Arr) (n held : Nat) : HoldRun :=
  match a.crcOk, a.qrec.blocks.lookup n with
  | true, some b =>
    { r with sums := (List.range 4).map (fun k =>
        let l := nth r.sums k [0, 0, 0]
        if held.testBit k then (List.range 3).map (fun c => nth l c 0 + (if c = a.qrec.chan then nth b.slots k 0 else 0))
        else l) }
  | _, _ => r

/-- The state with a point's hold run. -/
def State.setHold (s : State) (n : Fin 8) (r : Option HoldRun) : State :=
  (s.modVot (fun v => { v with holds := v.holds.set n r })).setBit F.VOT_STATUS_HOLD n.val r.isSome

/-- A point's hold run brought up to a resolved quantum. -/
def State.holdStep (s : State) (conf : QRec) (recs : List Arr) (n : Fin 8) : State :=
  match conf.blocks.lookup n.val with
  | none => s
  | some b =>
    let held := b.marks.toNat / 16
    match s.vot.holds[n] with
    | none =>
      if held = 0 then s
      else
        let r : HoldRun := ⟨conf.q, BitVec.ofNat 4 held, List.replicate 4 [0, 0, 0]⟩
        let s := s.setHold n (some (recs.foldl (fun r a => r.add a n.val held) r))
        let s := s.log { type_ := 0x0021, point := n.val, sub := held, q := some conf.q,
                         payload := natLE 2 (s.get F.VOT_STATUS_CH_STATE) }
        s.raise { src := 39, point := n.val, q := some conf.q }
    | some r =>
      if held ≠ 0 then
        let r := recs.foldl (fun r a => r.add a n.val held) { r with mask := r.mask ||| BitVec.ofNat 4 held }
        s.setHold n (some r)
      else
        let s := (setBits r.mask.toNat 4).foldl (fun (s : State) k =>
          s.log { type_ := 0x0022, point := n.val, sub := k, q := some conf.q,
                  payload := ((nth r.sums k [0, 0, 0]).map (fun v => natLE 8 (ofSigned 64 v))).flatten }) s
        (s.setHold n none).raise { src := 40, point := n.val, q := some conf.q }

/-! ### Judging a channel's record (R124, R125, R128) -/

/-- A record's deviations from the confirmed slots in 0.01 of the tolerance, and whether one fails to agree. -/
def State.deviation (s : State) (r conf : QRec) : Nat × Bool :=
  conf.blocks.foldl (fun acc nb =>
    match r.blocks.lookup nb.1 with
    | none => acc
    | some b => (List.range (usedSlots nb.2.type_)).foldl (fun (acc : Nat × Bool) k =>
        if nb.2.marks.toNat.testBit (4 + k) then acc
        else
          let x := nth b.slots k 0
          let y := nth nb.2.slots k 0
          let tol := s.tolerance (tolKind nb.2.type_ + k) x y
          (max acc.1 (100 * (x - y).natAbs / tol), acc.2 || decide (tol < (x - y).natAbs))) acc) (0, false)

/-- A re-verifying channel's run after a compared quantum (R128). -/
def State.revStep (s : State) (c : Fin 3) (q : Nat) (bad : Bool) : State :=
  let v := s.vot
  if v.rejoin[c] = false ∧ q < v.revNext[c] then s
  else if bad = true ∨ (v.rejoin[c] = false ∧ q ≠ v.revNext[c]) then s.revFail c q
  else if v.rejoin[c] then s
  else
    let n := s.get (runFld c) + 1
    let s := (s.set (runFld c) n).modVot (fun v => { v with revNext := v.revNext.set c (q + 1), runLast := v.runLast.set c q })
    if n = 100 then s.modVot (fun v => { v with rejoin := v.rejoin.set c true }) else s

/-- A channel's record checked against the confirmed one (R124, R128). -/
def State.judgeRec (s : State) (a : Arr) (conf : QRec) : State :=
  let c : Fin 3 := Fin.ofNat 3 a.qrec.chan
  let qual := s.qualified a
  let d := if qual then s.deviation a.qrec conf else (0, false)
  let ovr := a.qrec.blocks.any (fun nb => nb.2.marks.toNat.testBit 0)
  let dis := !qual || ovr || d.2
  let s := s.modVot (fun v => { v with devs := v.devs.set c ((s.time.now, d.1) :: v.devs[c]) })
  let s := if dis then (s.count (F.VOT_CH_DEV_DISAG c.val) 1).raise { src := 41, unit_ := c.val, q := some conf.q, every := 1000000 } else s
  match s.chState c with
  | 0 =>
    let n := if dis then min 3 (s.consec c + 1) else 0
    let s := s.setConsec c n
    if 3 ≤ n then s.markFaulty c conf.q else s
  | 2 => s.revStep c conf.q (dis || conf.blocks.any (fun nb => nb.2.marks.toNat / 16 != 0))
  | _ => s

/-- A record that arrives after its quantum was resolved (R124, R127). -/
def State.lateRecord (s : State) (a : Arr) : State :=
  match s.vot.confirmed.find? (fun r => r.q == a.qrec.q) with
  | none => s
  | some conf =>
    let s := points.foldl (fun s n =>
      match s.vot.holds[n], conf.blocks.lookup n.val with
      | some r, some b => if r.first ≤ conf.q then s.setHold n (some (r.add a n.val (b.marks.toNat / 16))) else s
      | _, _ => s) s
    s.judgeRec a conf

/-- Lagging channels (R125). -/
def State.lagCheck (s : State) : State :=
  chans.foldl (fun s c =>
    let behind := s.resolved - s.vot.newest[c]
    let lag := decide (8 ≤ behind)
    let s := if lag && !(s.bit F.VOT_STATUS_LAG c.val) then s.raise { src := 43, unit_ := c.val } else s
    let s := s.setBit F.VOT_STATUS_LAG c.val lag
    if 64 ≤ behind then s.failChan c s.resolved else s) s

/-! ### Confirmed conditions and fluid events (R51, R71, R100, R112, R138) -/

/-- The billed inputs of a point. -/
def State.billedInputs (s : State) (n : Fin 8) (ty : Nat) : List Nat :=
  let m := elecMap s.get n.val
  (if isElec ty then m.take 3 ++ (m.drop 4).take 3 else fluidMap s.get n.val).filter (fun i => i != 31)

/-- Whether an input has reached a full-scale code in some bank (MET_CH_OVR). -/
def State.inputOver (s : State) (i : Nat) : Bool := chans.any (fun c => s.bit (F.MET_CH_OVR_OVR c.val) i)

/-- MET_TPCOND and MET_FLSTAT of a point from a confirmed block, with the events that confirmed values raise. -/
def State.confirmPoint (s : State) (q : Nat) (n : Fin 8) (b : PBlock) : State :=
  let old := s.reg (R.MET_TPCOND n.val)
  let new := b.conds.toNat % 32 - (b.conds.toNat % 32 &&& old)
  let ovr := b.marks.toNat % 2
  let s := s.setReg (R.MET_TPCOND n.val) (putBits old 5 0 (b.conds.toNat % 32 + 32 * ovr))
  let s := s.condEvents n.val new false q
  let s := if ovr = 0 then s else
    ((s.billedInputs n b.type_).filter s.inputOver).foldl (fun (s : State) i =>
      s.raise { src := 16, point := n.val, unit_ := i, q := some q, every := 1000000 }) s
  let f0 := s.reg (R.MET_FLSTAT n.val)
  let f := b.fluid.toNat
  let s := s.set (F.MET_FLSTAT_STATUS n.val) f
  let ev := fun (s : State) (on : Bool) (src : Nat) =>
    if on then s.raise { src := src, point := n.val, q := some q, every := 1000000 } else s
  let s := ev s (f &&& 0x11CF != 0 && f0 &&& 0x11CF == 0) 25
  let s := ev s (f &&& 0x00C0 != 0) 26
  let s := ev s (f.testBit 8) 27
  let s := ev s (f.testBit 10) 33
  let run := if s.sess n = 5 ∧ f &&& 0x1040 ≠ 0 then s.met.subRun[n] + 1 else 0
  { s with met := { s.met with subRun := s.met.subRun.set n run } }

/-! ### Resolution (R121, R126, R140) -/

/-- The next quantum to resolve; those never metered end before `firstQ` (R126, R158). -/
def State.nextQ (s : State) : Nat := max (s.resolved + 1) s.vot.firstQ

/-- A quantum resolved: its record confirmed or held, the retraction before the confirmation, the window
withdrawn, hold runs, channel checks, billing, the sessions, and the legal snapshot where a second ends. -/
def State.resolve (s : State) (q : Nat) : State :=
  let p := s.poll q
  let prov := s.vot.published.find? (fun r => r.q == q)
  let conf := s.confRecord q p prov.isNone
  let held := (conf.blocks.map (fun nb => ones (nb.2.marks.toNat / 16) 4)).sum
  let s := s.set64 R.VOT_CONFQ_LO q
  let s := match prov.bind (fun r => s.retraction r conf) with
    | some (n, k) => (s.count F.VOT_CNT_RETRACT_COUNT 1).raise { src := 38, point := n, q := some q, detail := k }
    | none => s
  let s := (s.count F.VOT_CNT_HOLD_COUNT held).raise { src := 37, q := some q, detail := (held != 0).toNat }
  let s := match s.vot.prov with
    | some r => if r.q ≤ q then s.setWindow none else s
    | none => s
  let s := s.modVot (fun v => { v with confirmed := (conf :: v.confirmed).take 65, confSeq := v.confSeq + 2 })
  let s := s.modVot (fun v => { v with arrived := v.arrived.filter (fun a => decide (q < a.qrec.q)) })
  let s := s.modVot (fun v => { v with published := v.published.filter (fun r => decide (q < r.q)) })
  let s := conf.blocks.foldl (fun s nb => s.confirmPoint q (Fin.ofNat 8 nb.1) nb.2) s
  let s := points.foldl (fun s n => s.holdStep conf p.recs n) s
  let s := p.recs.foldl (fun s a => s.judgeRec a conf) s
  let s := s.bill conf
  let s := s.sessQuantum conf
  let t : Nat := s.stamp q
  if t / 1000000 < (t + 10000) / 1000000 then s.legalSnapshot else s

/-- Whether a quantum counts as at its deadline during catch-up (R139); with no channel voting, three quanta
after it. -/
def State.caughtDue (s : State) (q : Nat) : Bool :=
  let v := chans.filter (fun c => s.takesPart q c.val)
  if v = [] then decide (q + 3 ≤ s.time.quantum) else v.all (fun c => decide (q < s.vot.newest[c]))

/-- Whether a quantum has ended: at a boundary, or cut short at a supply-loss warning (R76). From the save on
nothing is resolved any more (R76, R77). -/
def State.ended (s : State) (q : Nat) : Bool :=
  match s.isl.supply with
  | .normal => decide (q < s.time.quantum)
  | .warned => decide (q ≤ s.isl.qw)
  | .saving => false
  | .saved => false

/-- Quanta resolved in increasing order as far as R121, or R139 during catch-up, lets them be. -/
def State.advance (s : State) : Nat → State
  | 0 => s
  | n + 1 =>
    let q := s.nextQ
    if s.ended q = false then s
    else if s.complete? (s.poll q) || (s.vot.catchUp && s.caughtDue q) then (s.resolve q).advance n
    else s

/-- All quanta that can be resolved now are; catching up ends two quanta behind the current one (R139). -/
def State.advanceAll (s : State) : State :=
  let s := s.advance (s.time.quantum - s.resolved)
  if s.vot.catchUp = true ∧ s.time.quantum ≤ s.resolved + 2 then s.modVot (fun v => { v with catchUp := false }) else s

/-- Quanta up to a number resolved whatever has arrived (R126). -/
def State.resolveTo (s : State) (last : Nat) : Nat → State
  | 0 => s
  | n + 1 => if last < s.nextQ then s else (s.resolve s.nextQ).resolveTo last n

/-! ### Arrival (R27, R113, R121, R129) -/

/-- A channel's oldest kept record taken over its crossing (R25, R37): it counts as offered again after a
reopening (R32). -/
def State.takeRecord (s : State) (c : Fin 3) : Option (QRec × State) :=
  let x := s.met.chans[c]
  match x.kept with
  | [] => none
  | r :: t =>
    if s.open_ (chanIsl c) .vl then
      let r := if 0 < x.offered then { r with flags := r.flags ||| 0x10 } else r
      let s := s.setChan c { x with kept := t, offered := x.offered - 1 }
      some (r, s.set64 (R.MET_CH_LASTQ_LO c.val) r.q)
    else none

/-- EV047, at most once per second per channel. -/
def State.discarded (s : State) (c : Fin 3) (q : Nat) : State :=
  s.raise { src := 47, unit_ := c.val, q := some q, every := 1000000 }

/-- A record received in a tick (R117, R124, R125, R139). -/
def State.receive (s : State) (corrupt : List (Fin 3)) (c : Fin 3) : State :=
  match s.takeRecord c with
  | none => s
  | some (r, s) =>
    let ok := !(corrupt.contains c)
    let s := s.modVot (fun v => { v with newest := v.newest.set c (max v.newest[c] r.q) })
    let s := if ok then s else s.discarded c r.q
    let a : Arr := ⟨s.vot.tick, r, ok⟩
    if r.q < s.nextQ then
      if s.vot.catchUp then s
      else if r.q + 64 < s.resolved then s.discarded c r.q
      else s.lateRecord a
    else s.modVot (fun v => { v with arrived := v.arrived ++ [a] })

/-- The provisional records of a tick: for each quantum whose first qualified record from a voting channel came
in it, that of the lowest letter (R129). -/
def State.firstRecords (s : State) : List QRec :=
  let ok := fun (a : Arr) => s.takesPart a.qrec.q a.qrec.chan && s.qualified a
  let mine := s.vot.arrived.filter (fun a => a.tick == s.vot.tick && ok a)
  (mine.filter (fun a =>
    !(s.vot.arrived.any (fun b => b.qrec.q == a.qrec.q && ok b && (decide (b.tick < a.tick) ||
      (b.tick == a.tick && decide (b.qrec.chan < a.qrec.chan))))))).map Arr.qrec

/-- The provisional records that R134 and R139 let be published, in quantum order. -/
def State.publishAll (s : State) (l : List QRec) : State :=
  l.foldl (fun s r =>
    if s.vot.catchUp = false ∧ s.resolved < r.q ∧ r.q < s.nextQ + 3 then s.publish r else s) s

/-- VL receives records in one tick: those of the channels named, of which some arrive with a bad CRC. The
voter evaluates all that are present (R121). Under a reference fault billing is held (R39). -/
def execQuantumRecordArrival (arrived corrupt : List (Fin 3)) (s : State) : Host.Outcome State Fault Refusal :=
  if s.running .vl = false then .next s
  else
    let s := s.modVot (fun v => { v with tick := v.tick + 1 })
    let s := (chans.filter (fun c => arrived.contains c)).foldl (fun s c => s.receive corrupt c) s
    if s.refFault then .next s
    else
      let l := s.firstRecords
      .next (((s.advanceAll).publishAll l).lagCheck)

/-- The resolution deadline, VL's boundary of quantum q + 3 (R126). During catch-up it is suspended (R139). -/
def execResolutionDeadline (s : State) : Host.Outcome State Fault Refusal :=
  if s.running .vl = false ∨ s.refFault = true ∨ s.isl.supply ≠ .normal then .next s
  else if s.vot.catchUp then .next s.advanceAll.lagCheck
  else
    let last := s.time.quantum - 3
    .next ((if 3 ≤ s.time.quantum then s.resolveTo last (s.time.quantum - s.resolved) else s).lagCheck)

/-! ### Re-verification, forcing out and rejoin (R128) -/

/-- Automatic re-verification with quantum q_f + 100 (R128). -/
def execReverificationBegin (c : Fin 3) (s : State) : Host.Outcome State Fault Refusal :=
  if s.running .vl = false ∨ s.chState c ≠ 1 ∨ s.flag F.VOT_CTRL_AUTO_REVER = false ∨
      s.time.quantum < s.vot.qf[c] + 100 ∨ s.testOwed c = true ∨ 4 ≤ (s.rejoins c).length ∨ s.logRefusing = true then
    .next s
  else .next (s.startRev c)

/-- A channel is forced out (R118); a run of re-verification ends with it. -/
def State.forceChan (s : State) (c : Fin 3) : State :=
  let old := s.chState c
  if old = 4 then s
  else
    let s := s.setChState c 3
    if old = 2 then s.raise { src := 46, unit_ := c.val } else s

/-- At the quantum after FORCE_OUT is released the channel re-verifies; where it may not, it is faulty (R128). -/
def State.releaseForced (s : State) (c : Fin 3) : State :=
  if s.chState c ≠ 3 ∨ s.bit F.VOT_CTRL_FORCE_OUT c.val = true then s
  else if s.testOwed c || decide (4 ≤ (s.rejoins c).length) || s.logRefusing then s.markFaulty c s.resolved
  else s.startRev c

/-- A write of VOT_CTRL: AUTO_REVER and FORCE_OUT under the seal, REVERIFY at once. A write that would force out
so that fewer than two channels vote, or that forces out or releases while the log refuses changes, is
discarded with EV000. -/
def State.writeVotCtrl (s : State) (v : Nat) : State :=
  let old := s.get F.VOT_CTRL_FORCE_OUT
  let new := bitsOf v 10 8
  let left := (chans.filter (fun c => s.chState c == 0 && !(new.testBit c.val))).length
  let added := chans.filter (fun c => new.testBit c.val && !(old.testBit c.val))
  if s.sealOpen && new != old && (s.logRefusing || (added != [] && decide (left < 2))) then s.discard
  else
    let act := bitsOf v 6 4
    let s := s.plainWrite R.VOT_CTRL (putBits v 6 4 0)
    let s := if s.sealOpen then added.foldl (fun s c => s.forceChan c) s else s
    chans.foldl (fun s c =>
      if act.testBit c.val && s.chState c == 1 && !(s.testOwed c) && !s.logRefusing then s.startRev c else s) s

/-- A write of 1 to a channel's REVERIFY bit (R128). -/
def execReverify (v : Word) (s : State) : Host.Outcome State Fault Refusal :=
  .next (s.guard R.VOT_CTRL 4 (fun s => s.writeVotCtrl v.toNat))

/-- A write of VOT_CTRL.FORCE_OUT (R118, R128). -/
def execForceOut (v : Word) (s : State) : Host.Outcome State Fault Refusal :=
  .next (s.guard R.VOT_CTRL 4 (fun s => s.writeVotCtrl v.toNat))

/-- A channel whose run is complete rejoins at the quantum boundary and takes part from the quantum that begins
there; while the log refuses changes it returns to faulty (R128). -/
def execChannelRejoin (c : Fin 3) (s : State) : Host.Outcome State Fault Refusal :=
  if s.running .vl = false ∨ s.chState c ≠ 2 ∨ s.vot.rejoin[c] = false ∨ s.time.usInQ ≠ 0 then .next s
  else if s.logRefusing then .next (s.revFail c s.vot.runLast[c])
  else
    let q := s.time.quantum
    let s := (s.setChState c 0).setConsec c 0
    let s := s.modVot (fun v => { v with join := v.join.set c q, rejoins := v.rejoins.set c (s.time.now :: s.rejoins c) })
    .next (s.showVoterCounts.raise { src := 45, unit_ := c.val, q := some q })

/-- A channel's island is fenced: the channel is fenced, and a run of re-verification ends (R118, R128). -/
def State.fenceChan (s : State) (c : Fin 3) : State :=
  let old := s.chState c
  if old = 4 then s
  else
    let s := s.setChState c 4
    if old = 2 then s.raise { src := 46, unit_ := c.val } else s

/-- The fence is lifted: the channel leaves it as faulty, and is forced out again where FORCE_OUT says so. -/
def State.unfenceChan (s : State) (c : Fin 3) : State :=
  if s.chState c ≠ 4 then s
  else
    let s := s.markFaulty c s.resolved
    if s.bit F.VOT_CTRL_FORCE_OUT c.val = true ∧ s.logRefusing = false then s.setChState c 3 else s

/-- What VL does at its local quantum boundary: released channels, and counts over the last second and day. -/
def State.voterBoundary (s : State) : State :=
  if s.running .vl then (chans.foldl (fun s c => s.releaseForced c) s).showVoterCounts else s

/-! ### Tolerances (R119) -/

/-- A write of VOT_TOL_k: ranges, the seal, the legal log, and effect from the next quantum boundary. -/
def State.writeVotTol (s : State) (k : Fin 8) (v : Nat) : State :=
  let old := s.reg (R.VOT_TOL k.val)
  let rel := bitsOf v 31 24
  let abs := bitsOf v 16 0
  let new := putBits (putBits old 31 24 rel) 16 0 abs
  if 20 < rel ∨ abs = 0 ∨ 65536 < abs then s.discard
  else if new = old then s
  else if s.sealOpen = false then s.raise { src := 1 }
  else if s.logRefusing then s.discard
  else
    let s := s.setWaiting (R.VOT_TOL k.val) new
    s.log { type_ := 0x0023, sub := k.val, q := some (s.time.quantum + 1), payload := natLE 4 old ++ natLE 4 new }

/-- A write of VOT_TOL_k (R119). -/
def execVotTolWrite (k : Fin 8) (v : Word) (s : State) : Host.Outcome State Fault Refusal :=
  .next (s.guard (R.VOT_TOL k.val) 4 (fun s => s.writeVotTol k v.toNat))

/-! ### Start tests and substitution (R68, R69, R102) -/

/-- A bank that failed a start test marks its channel faulty; one that passed counts towards re-verification. -/
def State.testResult (s : State) (n : Fin 8) (c : Fin 3) (pass : Bool) : State :=
  let s := s.setBit F.MET_STEST_RESULT_PASS (3 * n.val + c.val) pass
  if pass then s.modVot (fun v => { v with owed := v.owed.set c (v.owed[c].map (fun l => n.val :: l)) })
  else
    let s := s.raise { src := 18, point := n.val, unit_ := c.val }
    let s := s.modVot (fun v => { v with owed := v.owed.set c (some []) })
    s.failChan c s.resolved

/-- P_st × 1 s of a point, in joules (R67, R68). -/
def State.testEnergy (s : State) (n : Fin 8) : Rat :=
  (phases (s.type_ n) : Rat) * ((s.get (F.MET_TPNOM_VNOM n.val) : Rat) / 10) *
    ((s.get (F.MET_TPLIM_START n.val) : Rat) / 100000 * ((s.get (F.MET_TPNOM_IREF n.val) : Rat) / 100))

/-- A start test ends after 100 quanta (R68, R69). -/
def execStartTestEnd (p : Fin 8) (s : State) : Host.Outcome State Fault Refusal :=
  match s.met.testQ[p] with
  | none => .next s
  | some q0 =>
    if s.running .vl = false ∨ s.time.quantum < q0 + 100 then .next s
    else
      let e := s.testEnergy p
      let s := { s with met := { s.met with testQ := s.met.testQ.set p none } }
      let s := s.setBit F.MET_STEST_CTRL_BUSY p.val false
      let s := s.setBit F.MET_STEST_CTRL_REQ p.val false
      let s := s.set (F.MET_TPCOND_TEST_ACTIVE p.val) 0
      let s := chans.foldl (fun s c =>
        let a := s.met.chans[c].testAcc[p]
        s.testResult p c (decide (9 / 10 * e ≤ a) && decide (a ≤ 11 / 10 * e))) s
      let n := ones (s.get F.MET_STEST_RESULT_PASS >>> (3 * p.val)) 3
      let s := s.set (F.MET_TPCOND_TEST_OK p.val) (decide (2 ≤ n)).toNat
      let s := s.raise { src := 17, point := p.val }
      .next (s.ap (fun s => s.beginChecks p))

/-- FLOW_SUB or RANGE in every confirmed quantum for SUB_STOP seconds ends the session (R102). -/
def execSubstitutionStop (p : Fin 8) (s : State) : Host.Outcome State Fault Refusal :=
  let t := s.get (F.MET_FL_LIM_SUB_STOP p.val)
  if s.running .ap = false ∨ s.sess p ≠ 5 ∨ t = 0 ∨ s.met.subRun[p] < 100 * t then .next s
  else .next ((s.sessStop p 0x04 false).raise { src := 34, point := p.val })

end Sys2Proof.Machine
end

