-- ==== Sys2Proof/Machine/Pairs.lean ====
section
/-! DEFINITION. Duplex pairs: roles, the mirror and switch-over (R305 to R308). -/

namespace Sys2Proof.Machine

/-- The state with the pair's part changed. -/
def State.modPair (s : State) (f : PairS → PairS) : State := { s with fab := { s.fab with pair := f s.fab.pair } }

/-- A role taken: a change between active and standby raises EV112 and is counted (R308). A module alone works
as bow. -/
def State.setRole (s : State) (role : Nat) : State :=
  let old := s.get F.FAB_STATUS_ROLE
  let s := s.set F.FAB_STATUS_ROLE role
  if (old = 2) = (role = 2) then s else (s.count F.FAB_PAIR_STATUS_SWITCHES 1).raise { src := 112 }

/-- MIRROR_OK as of now. -/
def State.showMirror (s : State) : State :=
  let ok := match s.fab.pair.mirrorAt with
    | some t => decide (s.time.now ≤ t + 5000)
    | none => false
  s.set F.FAB_PAIR_STATUS_MIRROR_OK ok.toNat

/-- The DUPLEX channels, leaders only (R219). -/
def State.duplexChans (s : State) : List (Fin 16) :=
  lsChans.filter (fun n => s.leader n == n && s.flag (F.LSW_CH_CFG_DUPLEX n.val))

/-- The module becomes standby: its DUPLEX channels go off, a live session goes over to the partner without end
record or end reading, with its point in the safe state, and stays mirrored (R306, R308). -/
def State.becomeStroke (s : State) : State :=
  let live := points.filter (fun p => 1 ≤ s.sess p ∧ s.sess p ≤ 6)
  let kept := live.map (fun p => (⟨p, BitVec.ofNat 4 (s.sess p), BitVec.ofNat 32 (s.get (F.TPT_SESSION_NUMBER p.val)),
    BitVec.ofNat 8 (s.get (F.TPT_STATE_PROTO p.val)), BitVec.ofNat 2 (s.get (F.TPT_STATE_AUTH_SRC p.val)),
    s.get (F.PTN_CP_DUTY p.val)⟩ : MirSess))
  let s := (s.setRole 2).modPair (fun x => { x with sessions := kept, released := false })
  let s := s.duplexChans.foldl (fun (s : State) n => s.commandChan n false) s
  live.foldl (fun (s : State) p => (s.openPoint p).enter p 0 0) s

/-- A mirrored session adopted under its number and state; its partner link is set up again but for basic PWM
and coupling generation 1 (R308). -/
def State.adopt (s : State) (m : MirSess) : State :=
  let p := m.point
  let proto := m.proto.toNat
  let s := (s.set (F.TPT_SESSION_NUMBER p.val) m.number.toNat).set (F.TPT_STATE_PROTO p.val) proto
  let s := (s.set (F.TPT_STATE_AUTH_SRC p.val) m.auth.toNat).set (F.PTN_COUP_GEN p.val) (if 0x11 ≤ proto then proto - 0x10 else 0)
  let s := s.modSx p (fun x => { x with partner := true, adopted := proto != 1 && proto != 0x11 })
  let s := { s with tpt := { s.tpt with counter := BitVec.ofNat 32 (max s.tpt.counter.toNat m.number.toNat) } }
  let s := s.enter p m.state.toNat 0
  let s := if holdsIm m.state.toNat then s.claimIm p else s
  s.set (F.PTN_CP_DUTY p.val) m.duty

/-- Switch-over: the module becomes bow, with the mirrored channels, pilots, sessions and reports (R308). -/
def State.takeOver (s : State) : State :=
  let s := s.setRole 1
  let s := s.duplexChans.foldl (fun (s : State) n => s.commandChan n (s.lsw.mirror.toNat.testBit n.val)) s
  let s := s.fab.pair.sessions.foldl (fun (s : State) m => s.adopt m) s
  let old := s.fab.pair.reports.reverse
  let s := { s with fab := { s.fab with reports := old ++ s.fab.reports } }
  let s := match s.fab.pair.reports with
    | r :: _ => s.setReg R.FAB_REP_SEQ (max (s.reg R.FAB_REP_SEQ) ((r.seq.getD 0).toNat))
    | [] => s
  s.modPair (fun x => { x with reports := [], sessions := [], released := false, switchAt := some s.time.now })

/-- The stroke considers switch-over: it takes over only with its own VL, AP, PT, PW and CM running, its voter in
a mode, and its mirror no older than 5 ms; else EV112 with the refusal (R307). -/
def State.considerSwitch (s : State) : State :=
  if s.stroke = false then s
  else
    let s := s.showMirror
    let up := [Isl.vl, .ap, .pt, .pw, .cm].all s.running
    if up && s.get F.VOT_STATUS_MODE != 2 && s.flag F.FAB_PAIR_STATUS_MIRROR_OK then s.takeOver
    else s.raise { src := 112 }

/-- The bow sends a release on both lanes, if it still can (R307, R386). -/
def State.pairRelease (s : State) : State :=
  if s.bow = true ∧ s.running .cm = true then (s.emit (.pair 1)).modPair (fun x => { x with released := true }) else s

/-- Both modules of a pair meet: pair address and roles (R305). -/
def execPairUp (partnerIdent : BitVec 48) (partnerAddr : Half) (partnerPref : Bool) (s : State) :
    Host.Outcome State Fault Refusal :=
  .next (s.cm (fun s =>
    if s.flag F.FAB_PAIR_CFG_EN = false then s
    else
      let lower := decide (s.identity < partnerIdent.toNat)
      let pref := s.flag F.FAB_PAIR_CFG_PREF_BOW
      let bow := if pref = partnerPref then lower else pref
      let addr := if lower then s.ownAddr else partnerAddr.toNat
      let s := s.modPair (fun x => { x with ident := partnerIdent, addr := partnerAddr, pref := partnerPref })
      let s := (s.set F.FAB_PAIR_STATUS_PARTNER 1).set F.FAB_PAIR_STATUS_PAIR_ADDR addr
      let s := (s.set F.FAB_PAIR_STATUS_LANE_A 1).set F.FAB_PAIR_STATUS_LANE_B 1
      if bow then s.setRole 1 else s.becomeStroke))

/-- The bow sends a heartbeat on each lane, and mirrors its channels (R306, R219). -/
def execPairHeartbeatSend (s : State) : Host.Outcome State Fault Refusal :=
  .next (s.cm (fun s => if s.bow = true ∧ s.flag F.FAB_PAIR_STATUS_PARTNER = true then (s.emit (.pair 0)).emit (.pair 2) else s))

/-- The newest 16 mirrored reports, newest first. -/
def putMirrored (l : List Report) (r : Report) : List Report := (r :: l).take 16

/-- What the stroke does with what the bow mirrors (R306). -/
def State.mirrorRx (s : State) (m : MirrorItem) : State :=
  let s := s.modPair (fun x => { x with mirrorAt := some s.time.now })
  let s := s.showMirror
  match m with
  | .channels on => { s with lsw := { s.lsw with mirror := on } }
  | .session p state number proto auth duty =>
    let was := (s.fab.pair.sessions.find? (fun x => x.point == p)).map MirSess.state
    let l := s.fab.pair.sessions.filter (fun x => x.point != p)
    let new : MirSess := ⟨p, state, number, proto, auth, duty⟩
    let live := decide (1 ≤ state.toNat) && decide (state.toNat ≤ 6)
    let s := s.modPair (fun x => { x with sessions := if live then new :: l else l })
    if state = 5 ∧ was ≠ some 5 then
      let q := s.time.quantum
      let s := (s.set (F.TPT_SESSION_NUMBER p.val) number.toNat).modSx p (fun x => { x with qs := some q })
      s.requestReading 1 p (q - 1) none
    else s
  | .report seq type_ body =>
    let r : Report := ⟨type_, body, s.time.now, some seq⟩
    (s.modPair (fun x => { x with reports := putMirrored x.reports r })).emit (.pair 3)
  | .heartbeat laneB => s.set (if laneB then F.FAB_PAIR_STATUS_LANE_B else F.FAB_PAIR_STATUS_LANE_A) 1

/-- The stroke receives mirrored state. A bow that has released and hears its partner's heartbeat has handed over
and becomes stroke, its DUPLEX channels off within 4 ms (R219, R308). -/
def execDuplexMirror (m : MirrorItem) (s : State) : Host.Outcome State Fault Refusal :=
  .next (s.cm (fun s =>
    if s.flag F.FAB_PAIR_STATUS_PARTNER = false then s
    else if s.stroke then s.mirrorRx m
    else match m with
      | .heartbeat _ => if s.fab.pair.released then s.becomeStroke.mirrorRx m else s
      | _ => s))

/-- The stroke receives a release (R307). -/
def execPairReleaseReceive (s : State) : Host.Outcome State Fault Refusal := .next (s.cm State.considerSwitch)

/-- No heartbeat on either lane for 5 ms (R307). -/
def execPairHeartbeatLoss (s : State) : Host.Outcome State Fault Refusal :=
  .next (s.cm (fun s =>
    if s.stroke = false then s
    else ((s.set F.FAB_PAIR_STATUS_LANE_A 0).set F.FAB_PAIR_STATUS_LANE_B 0).considerSwitch))

/-- One lane is lost: EV113, and no switch-over (R307). -/
def execPairLaneLoss (laneB : Bool) (s : State) : Host.Outcome State Fault Refusal :=
  .next (s.cm (fun s =>
    let f := if laneB then F.FAB_PAIR_STATUS_LANE_B else F.FAB_PAIR_STATUS_LANE_A
    if s.flag f then (s.set f 0).raise { src := 113, unit_ := laneB.toNat } else s))

/-- A lane returns: where both members act as bow, the larger identity becomes stroke (R307). -/
def execPairLaneReturn (laneB : Bool) (partnerIdent : BitVec 48) (partnerBow : Bool) (s : State) :
    Host.Outcome State Fault Refusal :=
  .next (s.cm (fun s =>
    if s.flag F.FAB_PAIR_STATUS_PARTNER = false then s
    else
      let s := s.set (if laneB then F.FAB_PAIR_STATUS_LANE_B else F.FAB_PAIR_STATUS_LANE_A) 1
      if s.bow = true ∧ partnerBow = true ∧ partnerIdent.toNat < s.identity then s.becomeStroke else s))

/-- Command 0x0903: switch role (R307, R309). Only a bow with a partner can release. -/
def execSwitchRole (d : Desc) (s : State) : Host.Outcome State Fault Refusal :=
  .next (s.command d { opcode := 0x0903, priv := some 1, isl := .cm } [] (fun s =>
    if s.bow = true ∧ s.flag F.FAB_PAIR_STATUS_PARTNER = true then s.pairRelease.ok d [] else s.complete d 0x0007 0 []))

end Sys2Proof.Machine
end

