-- ==== Sys2Proof/Machine/Partners.lean ====
section
/-! DEFINITION. The partner interfaces and the session commands: control pilot and proximity (R182 to R186),
vehicle protocols (R187 to R189), the coupling link (R190 to R192), power stacks (R193), checks (R194 to R197)
and the commands 0x0101 to 0x010A of the host. -/

namespace Sys2Proof.Machine

/-- Runs an event that reaches AP through the partner ports of PT. -/
def State.ptap (s : State) (body : State → State) : State :=
  if s.running .pt = true ∧ s.running .ap = true then body s else s

/-! ### Control pilot and proximity (R182 to R185) -/

/-- Pilot state code of a high level in 0.1 V (R182). -/
def pilotCode (high : Int) : Nat :=
  if 110 ≤ high ∧ high ≤ 130 then 0
  else if 80 ≤ high ∧ high ≤ 100 then 1
  else if 50 ≤ high ∧ high ≤ 70 then 2
  else if 20 ≤ high ∧ high ≤ 40 then 3
  else if -10 ≤ high ∧ high ≤ 10 then 4
  else 15

/-- Rating code of a proximity resistance in Ω (R184). -/
def proxCode (ohms : Nat) : Nat :=
  if 4500 < ohms then 0
  else if 1100 ≤ ohms ∧ ohms ≤ 2500 then 1
  else if 400 ≤ ohms ∧ ohms ≤ 936 then 2
  else if 164 ≤ ohms ∧ ohms ≤ 308 then 3
  else if 75 ≤ ohms ∧ ohms ≤ 140 then 4
  else 15

/-- What a newly recognised pilot and proximity state does to the session (R175, R185). `old` and `cp` are the
pilot states, `diode` DIODE_FAIL. -/
def State.pilotEvent (s : State) (p : Fin 8) (old cp : Nat) (diode : Bool) : State :=
  let tethered := s.flag (F.TPT_CFG_PP_MODE p.val)
  let rated := tethered || s.cable p != 0
  let vent := s.flag (F.TPT_CFG_VENT_OK p.val)
  let fault := cp != 5 && (cp == 4 || cp == 15 || diode || ((cp == 2 || cp == 3) && !rated) ||
    decide (10 < (s.sx p).bcChanges.length) || (cp == 3 && !vent))
  let absent := cp == 0 || (!tethered && s.get (F.PTN_PP_RATING p.val) == 0)
  let s := if fault then (s.raise { src := 65, point := p.val }).sessFaultLive p 0x27 else s
  if absent then s.sessAbsent p
  else if fault ∨ cp = 5 ∨ rated = false then s
  else
    let s := if (s.sx p).partner then s else s.sessDetect p
    if cp = 1 ∧ (old = 2 ∨ old = 3) ∧ s.sess p = 5 then s.sessPartnerStop p else s.tryStart p

/-- A pilot or proximity state is recognised after 3 periods (R182, R184, R185); levels in 0.1 V. -/
def execPilotStateChange (p : Fin 8) (high low : Int) (ohms : Nat) (s : State) : Host.Outcome State Fault Refusal :=
  if s.running .pt = false then .next s
  else
    let n := p.val
    let old := s.get (F.PTN_CP_CP_STATE n)
    let cp := if s.pilotF p then 5 else pilotCode high
    let diode := decide (0 < s.get (F.PTN_CP_DUTY n)) && decide (-110 < low)
    let s := (s.set (F.PTN_CP_CP_STATE n) cp).set (F.PTN_CP_DIODE_FAIL n) diode.toNat
    let s := (s.set (F.PTN_CP_HIGH n) (ofSigned 8 (max (-128) (min 127 high)))).set (F.PTN_CP_LOW n)
      (ofSigned 8 (max (-128) (min 127 low)))
    let s := if s.flag (F.TPT_CFG_PP_MODE n) then s
      else (s.set (F.PTN_PP_RATING n) (proxCode ohms)).setSat (F.PTN_PP_OHMS n) ohms
    let bc := (s.sx p).bcChanges.filter (fun t => decide (s.time.now < t + 60000000))
    let bc := if (old = 1 ∧ cp = 2) ∨ (old = 2 ∧ cp = 1) then s.time.now :: bc else bc
    let s := (s.modSx p (fun x => { x with bcChanges := bc })).showPilot p
    .next (if isElec (s.type_ p) then s.ap (fun s => s.pilotEvent p old cp diode) else s)

/-- T_HS expires in Connected (R175). -/
def execHandshakeTimeout (p : Fin 8) (s : State) : Host.Outcome State Fault Refusal :=
  .next (s.ap (fun s =>
    if s.sess p = 1 then s.sessFault p 0x09 false
    else if (s.sx p).adopted then (s.modSx p (fun x => { x with adopted := false })).sessFaultLive p 0x23
    else s))

/-- T_AUTH expires in Identified (R175). -/
def execAuthorisationTimeout (p : Fin 8) (s : State) : Host.Outcome State Fault Refusal :=
  .next (s.ap (fun s => if s.sess p = 2 then s.sessClose p 0x07 else s))

/-- T_READY expires in Checked (R175). -/
def execReadyTimeout (p : Fin 8) (s : State) : Host.Outcome State Fault Refusal :=
  .next (s.ap (fun s => if s.sess p = 4 then s.sessClose p 0x08 else s))

/-- A protocol violation counted and reported (R189, R200). -/
def State.violation (s : State) (p : Fin 8) : State :=
  (s.count (F.PTN_ERR_VIOL p.val) 1).raise { src := 66, point := p.val, every := 1000000 }

/-- The confirmed current has exceeded 1.1 × I_off + 1 A for 10 s (R185). -/
def execOvercurrentViolation (p : Fin 8) (s : State) : Host.Outcome State Fault Refusal :=
  .next (s.ap (fun s => if s.sess p = 5 ∧ isElec (s.type_ p) = true then (s.violation p).sessFault p 0x22 false else s))

/-! ### Vehicle protocols (R187 to R189) -/

/-- Fallback to basic PWM charging: pilot state F for 3 s; where basic charging is not possible, reason 0x22. -/
def State.fallback (s : State) (p : Fin 8) : State :=
  if s.sess p ≠ 1 then s
  else if isAc (s.type_ p) = true ∧ (s.get (F.TPT_CFG_PROTO_EN p.val)).testBit 0 = true then
    ((s.set (F.TPT_STATE_PROTO p.val) 1).modSx p (fun x => { x with fallbackF := true })).showPilot p
  else s.sessFault p 0x22 false

/-- The protocol chosen among those enabled and offered: ISO 15118-20, ISO 15118-2, DIN SPEC 70121; 0 none. -/
def State.chooseProto (s : State) (p : Fin 8) (offered : BitVec 3) : Nat :=
  let en := s.get (F.TPT_CFG_PROTO_EN p.val)
  let both := fun k => en.testBit (k + 1) && offered.toNat.testBit k
  if both 2 then 4 else if both 1 then 3 else if both 0 then 2 else 0

/-- What a vehicle message does (R187 to R189). -/
def State.vehicle (s : State) (p : Fin 8) (m : VehMsg) : State :=
  let proto := s.get (F.TPT_STATE_PROTO p.val)
  match m with
  | .slacMatched => s.modSx p (fun x => { x with slacFails := 0 })
  | .slacFailed =>
    let s := s.modSx p (fun x => { x with slacFails := x.slacFails + 1 })
    if 3 ≤ (s.sx p).slacFails ∧ proto = 0 then s.fallback p else s
  | .discovered => s
  | .appProtocol offered =>
    if s.sess p ≠ 1 ∨ proto = 1 then s
    else if s.chooseProto p offered = 0 then s.fallback p
    else s.set (F.TPT_STATE_PROTO p.val) (s.chooseProto p offered)
  | .identity name cert =>
    if s.sess p = 1 ∧ 2 ≤ proto ∧ name ≠ [] then s.sessIdentify p name cert else s
  | .ready => if proto = 1 then s else (s.modSx p (fun x => { x with ready := true })).tryStart p
  | .stop => s.sessPartnerStop p
  | .progress => s
  | .violation =>
    let s := s.violation p
    if s.sess p = 5 then s.sessFault p 0x22 false else s

/-- An adopted vehicle that speaks again has resumed (R308, R386). -/
def State.resumed (s : State) (p : Fin 8) (m : VehMsg) : State :=
  match m with
  | .identity _ _ => s.modSx p (fun x => { x with adopted := false })
  | .ready => s.modSx p (fun x => { x with adopted := false })
  | .progress => s.modSx p (fun x => { x with adopted := false })
  | _ => s

/-- A vehicle protocol message is received (R187 to R189). -/
def execVehicleMessage (p : Fin 8) (m : VehMsg) (s : State) : Host.Outcome State Fault Refusal :=
  .next (s.ptap (fun s =>
    if isElec (s.type_ p) = true ∧ s.digitalOn p = true ∧ 1 ≤ s.sess p ∧ s.sess p ≤ 6 then
      (s.resumed p m).vehicle p m
    else s))

/-- SECC discovery draws no answer within 20 s (R187). -/
def execSeccDiscoveryTimeout (p : Fin 8) (s : State) : Host.Outcome State Fault Refusal :=
  .next (s.ptap (fun s =>
    if isElec (s.type_ p) = true ∧ s.digitalOn p = true ∧ s.get (F.TPT_STATE_PROTO p.val) = 0 then s.fallback p else s))

/-- The 3 s of pilot state F end and the duty for I_off is offered (R187). -/
def execFallbackPilotFEnd (p : Fin 8) (s : State) : Host.Outcome State Fault Refusal :=
  if s.running .pt = false ∨ (s.sx p).fallbackF = false then .next s
  else .next ((s.modSx p (fun x => { x with fallbackF := false })).showPilot p)

/-- A partner's heartbeat is lost: reason 0x23 (R189, R191). -/
def State.heartbeatLost (s : State) (p : Fin 8) : State :=
  ((s.count (F.PTN_ERR_HB_LOST p.val) 1).raise { src := 67, point := p.val }).sessFaultLive p 0x23

/-- A vehicle is silent past a message timer of its standard (R189). -/
def execVehicleMessageTimeout (p : Fin 8) (s : State) : Host.Outcome State Fault Refusal :=
  .next (s.ptap (fun s =>
    if isElec (s.type_ p) = true ∧ 2 ≤ s.get (F.TPT_STATE_PROTO p.val) ∧ 1 ≤ s.sess p ∧ s.sess p ≤ 6 then s.heartbeatLost p
    else s))

/-! ### The coupling link (R190 to R192) -/

/-- Whether a loop current, in 0.1 mA, lies in the band of a coupled skid. -/
def inBand (loop : Nat) : Bool := decide (80 ≤ loop) && decide (loop ≤ 120)

/-- The loop current has stayed in its band for 200 ms: a partner, and the first generation's attempt, which
opens with the module's nonce (R190, R191). -/
def execCouplingDetect (p : Fin 8) (loop : Nat) (s : State) : Host.Outcome State Fault Refusal :=
  .next (s.ptap (fun s =>
    let s := s.setSat (F.PTN_COUP_LOOP p.val) loop
    if isFluid (s.type_ p) = false ∨ inBand loop = false then s
    else
      let idle := s.sess p == 0
      let s := s.sessDetect p
      if idle = true ∧ s.sess p = 1 then
        let f := s.fresh
        f.2.emit (.partner p.val 1 (padTo 32 (Config.drbg f.1)))
      else s))

/-- The loop current has left its band for 100 ms: the partner is absent (R190). -/
def execCouplingAbsent (p : Fin 8) (loop : Nat) (s : State) : Host.Outcome State Fault Refusal :=
  .next (s.ptap (fun s =>
    let s := s.setSat (F.PTN_COUP_LOOP p.val) loop
    if isFluid (s.type_ p) = false ∨ inBand loop = true then s
    else (s.sessAbsent p).set (F.PTN_COUP_GEN p.val) 0))

/-- A generation's attempt expires: the next lower one down to MIN_GEN, or reason 0x09 (R190). -/
def execCouplingAttemptTimeout (p : Fin 8) (s : State) : Host.Outcome State Fault Refusal :=
  .next (s.ptap (fun s =>
    let t := (s.sx p).trying
    if (s.sx p).adopted = true ∧ isFluid (s.type_ p) = true then
      (s.modSx p (fun x => { x with adopted := false })).sessFaultLive p 0x23
    else if s.sess p ≠ 1 ∨ isFluid (s.type_ p) = false ∨ t = 0 then s
    else if t ≤ s.minGen p ∨ t = 1 then s.sessFault p 0x09 false
    else s.modSx p (fun x => { x with trying := t - 1, gen1 := none })))

/-- The link settles in a generation; below 3 with EV068 and its flag in the record (R180, R190). -/
def State.settle (s : State) (p : Fin 8) (gen : Nat) : State :=
  let s := (s.set (F.TPT_STATE_PROTO p.val) (0x10 + gen)).set (F.PTN_COUP_GEN p.val) gen
  let s := s.modSx p (fun x => { x with trying := 0, coupSeq := 0, replays := [] })
  if gen < 3 then (s.sessFlag p 5).raise { src := 68, point := p.val } else s

/-- An identity frame of generation 2 (its CRC over length and identity, log 24), or an identity of generation 1,
which counts when it comes twice (R190). -/
def execCouplingIdentityFrame (p : Fin 8) (frame : List Byte) (s : State) : Host.Outcome State Fault Refusal :=
  .next (s.ptap (fun s =>
    if s.sess p ≠ 1 ∨ isFluid (s.type_ p) = false then s
    else if (s.sx p).trying = 2 then
      let n := fld frame 1 1
      if fld frame 0 1 = 0x7E ∧ 1 ≤ n ∧ n ≤ 32 ∧ frame.length = n + 4 ∧ crc16 (slice frame 1 (n + 1)) = fld frame (n + 2) 2 then
        (s.settle p 2).sessIdentify p (slice frame 2 n) false
      else s
    else if (s.sx p).trying = 1 then
      let ident := frame.take 4
      if frame.length ≠ 5 ∨ Config.crc8 ident ≠ nth frame 4 0 then s
      else if (s.sx p).gen1 = some ident then (s.settle p 1).sessIdentify p ident false
      else s.modSx p (fun x => { x with gen1 := some ident })
    else s))

/-- A coupling authentication failure: EV069, reason 0x28 (R191). -/
def State.couplingBad (s : State) (p : Fin 8) : State := (s.raise { src := 69, point := p.val }).sessFaultLive p 0x28

/-- The skid's ready flag and its wish to stop. -/
def State.skidState (s : State) (p : Fin 8) (ready stop : Bool) : State :=
  let s := s.modSx p (fun x => { x with ready := ready })
  if stop then s.sessPartnerStop p else s.tryStart p

/-- A coupling message: the exchange of generation 3, or a later message, under the session keys in generation 3
(R191). A sequence number is out of order when it is not above the newest accepted one (log 24). -/
def State.coupling (s : State) (p : Fin 8) (m : CoupMsg) : State :=
  match m with
  | .exchange name verified =>
    if (s.sx p).adopted = true ∧ s.get (F.PTN_COUP_GEN p.val) = 3 then
      if verified then s.modSx p (fun x => { x with adopted := false, coupSeq := 0, replays := [] }) else s.couplingBad p
    else if s.sess p ≠ 1 ∨ (s.sx p).trying ≠ 3 then s
    else if verified = true ∧ name ≠ [] then
      ((s.settle p 3).emit (.partner p.val 3 [])).sessIdentify p name false
    else s.couplingBad p
  | .data seq authentic ready stop =>
    if s.get (F.PTN_COUP_GEN p.val) = 2 then (s.modSx p (fun x => { x with adopted := false })).skidState p ready stop
    else if s.get (F.PTN_COUP_GEN p.val) ≠ 3 then s
    else if authentic = false then s.couplingBad p
    else if seq.toNat < (s.sx p).coupSeq.toNat then
      let l := s.time.now :: (s.sx p).replays.filter (fun t => decide (s.time.now < t + 10000000))
      let s := (s.count (F.PTN_COUP_REPLAY p.val) 1).modSx p (fun x => { x with replays := l })
      if 3 ≤ l.length then s.couplingBad p else s
    else (s.modSx p (fun x => { x with coupSeq := seq + 1 })).skidState p ready stop

/-- A coupling message arrives (R191). -/
def execCouplingMessage (p : Fin 8) (m : CoupMsg) (s : State) : Host.Outcome State Fault Refusal :=
  .next (s.ptap (fun s => if isFluid (s.type_ p) then s.coupling p m else s))

/-- No skid heartbeat for 1 s in generation 2 or 3 (R191). -/
def execCouplingHeartbeatLost (p : Fin 8) (s : State) : Host.Outcome State Fault Refusal :=
  .next (s.ptap (fun s =>
    if isFluid (s.type_ p) = true ∧ 2 ≤ s.get (F.PTN_COUP_GEN p.val) ∧ 1 ≤ s.sess p ∧ s.sess p ≤ 6 then s.heartbeatLost p
    else s))

/-! ### Power stacks (R193) -/

/-- A command frame every 50 ms to the stack of a DC point. -/
def execStackCommandSend (p : Fin 8) (s : State) : Host.Outcome State Fault Refusal :=
  let port := s.get (F.TPT_LINK_CAN p.val)
  let node := s.get (F.TPT_LINK_NODE p.val)
  .next (s.ptap (fun s =>
    if s.type_ p ≠ 3 ∨ node = 0 ∨ s.flag (F.PTN_CAN_CFG_EN port) = false then s
    else
      let seq := (s.sx p).stackSeq + 1
      let cmd := (s.sx p).stackCmd
      let f := s.fresh
      let s := f.2.modSx p (fun x => { x with stackSeq := seq })
      s.emit (.can port (0x200 + node) ([seq, cmd] ++ padTo 6 (Config.stackSetpoints cmd.toNat f.1)))))

/-- A stack fault: EV070, reason 0x24 (R193). -/
def State.stackFault (s : State) (p : Fin 8) : State := (s.raise { src := 70, point := p.val }).sessFaultLive p 0x24

/-- A status frame of a stack: its current, its fault flags; a contactor that waits for the ramp-down opens
below 5 A (R186, R193). A frame that does not echo the newest sequence does not match. -/
def State.stackStatus (s : State) (p : Fin 8) (frame : List Byte) : State :=
  if frame.length ≠ 8 ∨ nth frame 0 0 ≠ (s.sx p).stackSeq then s
  else
    let amps := sfld frame 4 2
    let s := s.modSx p (fun x => { x with stackAmps := amps })
    let s := if fld frame 6 2 ≠ 0 then s.stackFault p else s
    if (s.sx p).waitSafe = true ∧ amps.natAbs < 50 then s.openPoint p else s

/-- A status frame arrives on a CAN FD port (R193). -/
def execStackStatusFrame (port : Fin 2) (ident : BitVec 11) (frame : List Byte) (s : State) :
    Host.Outcome State Fault Refusal :=
  .next (s.ptap (fun s =>
    if s.flag (F.PTN_CAN_CFG_EN port.val) = false then s
    else (points.filter (fun p => s.type_ p == 3 && s.get (F.TPT_LINK_CAN p.val) == port.val &&
        s.get (F.TPT_LINK_NODE p.val) != 0 && 0x280 + s.get (F.TPT_LINK_NODE p.val) == ident.toNat)).foldl
      (fun s p => s.stackStatus p frame) s))

/-- No matching status frame for 150 ms (R193). -/
def execStackStatusTimeout (p : Fin 8) (s : State) : Host.Outcome State Fault Refusal :=
  .next (s.ptap (fun s => if s.type_ p = 3 ∧ 3 ≤ s.sess p ∧ s.sess p ≤ 5 then s.stackFault p else s))

/-- The stack current has differed from the confirmed mean for 100 quanta (R193). -/
def execStackCurrentMismatch (p : Fin 8) (s : State) : Host.Outcome State Fault Refusal :=
  .next (s.ptap (fun s =>
    if s.type_ p = 3 ∧ s.sess p = 5 ∧ 100 ≤ (s.sx p).stackMis then s.stackFault p else s))

/-! ### Checks (R194 to R197) -/

/-- Whether a row of R194 is met. -/
def State.rowMet (s : State) (p : Fin 8) (k : CheckKind) : Bool :=
  let c := s.reg (R.MET_TPCOND p.val)
  let x := s.sx p
  let ty := s.type_ p
  match k with
  | .residual => !(isElec ty) || bitsOf c 4 3 == 0
  | .rcmTest => !(isElec ty) || !(s.flag (F.TPT_LINK_RCM_TEST_EN p.val)) || x.rcmDone
  | .phaseNeutral => !(isAc ty) || bitsOf c 2 0 == 0
  | .weld => !(isElec ty) || decide (5 ≤ x.weldQ)
  | .startTest => !(isElec ty) || c.testBit 7
  | .insulation => ty != 3 || decide (2 ≤ x.isoGood)
  | .leak => !(isFluid ty) || !(s.flag (F.TPT_CFG_LEAK_EN p.val)) || x.leak == .passed
  | .fluidStatus => !(isFluid ty) || s.reg (R.MET_FLSTAT p.val) &&& flMask == 0

/-- The rows. -/
def checkRows : List CheckKind :=
  [.residual, .rcmTest, .phaseNeutral, .weld, .startTest, .insulation, .leak, .fluidStatus]

/-- Reason of a row (R181). The fluid status takes that of R102 (log 23). -/
def checkReason : CheckKind → Nat
  | .residual => 0x10 | .rcmTest => 0x10 | .phaseNeutral => 0x14 | .weld => 0x12 | .startTest => 0x15
  | .insulation => 0x11 | .leak => 0x13 | .fluidStatus => 0x04

/-- Whether the checks of a point in Authorised run: no start test on it, and its insulation channel its own. -/
def State.checking (s : State) (p : Fin 8) : Bool :=
  s.sess p == 3 && !(s.bit F.MET_STEST_CTRL_BUSY p.val) && (s.type_ p != 3 || s.hasIm p)

/-- All rows are met on unheld values: the point enters Checked (R127, R194). -/
def execChecksPassed (p : Fin 8) (s : State) : Host.Outcome State Fault Refusal :=
  .next (s.ap (fun s =>
    if s.checking p = true ∧ (s.vot.holds[p]).isNone = true ∧ checkRows.all (s.rowMet p) = true then
      ((s.modSx p (fun x => { x with stackCmd := 2 })).enter p 4 0).tryStart p
    else s))

/-- A check's 60 s limit expires with its row unmet (R194). -/
def execCheckTimeout (p : Fin 8) (k : CheckKind) (s : State) : Host.Outcome State Fault Refusal :=
  .next (s.ap (fun s =>
    if s.checking p = true ∧ (s.rowMet p k = false ∨ (s.vot.holds[p]).isSome = true) then s.checkFailed p (checkReason k)
    else s))

/-- The 300 ms drive of the residual-current test ends: its trip is cleared, or the check fails (R195). -/
def execRcmTestTimeout (p : Fin 8) (s : State) : Host.Outcome State Fault Refusal :=
  .next (s.ap (fun s =>
    if (s.sx p).rcmTesting = false then s
    else
      let n : Fin 16 := Fin.ofNat 16 (s.get (F.TPT_LINK_RCM_LS p.val))
      let s := if s.pointOwned n = true ∧ s.ownerPoint n = p then s.commandChan n false else s
      let seen := (s.sx p).rcmSeen
      let s := s.modSx p (fun x => { x with rcmTesting := false, rcmDone := seen })
      if seen then s.clearRcm p else s.checkFailed p 0x10))

/-- R_ISO of an insulation channel, derived every 1 s for the point that uses it (R196); in kΩ. -/
def execInsulationMeasurement (c : Fin 2) (kohm : Nat) (s : State) : Host.Outcome State Fault Refusal :=
  if s.flag (F.TPT_IM_BUSY c.val) = false then .next s
  else
    let p : Fin 8 := Fin.ofNat 8 (s.get (F.TPT_IM_OWNER c.val))
    let s := s.set (F.TPT_IM_R_ISO c.val) (if 10000 < kohm then 0xFFFF else kohm)
    .next (s.ap (fun s =>
      let bad := decide (kohm < s.get (F.TPT_LIMIT_R_FAULT p.val))
      if s.sess p = 3 then s.modSx p (fun x => { x with isoGood := (if bad then 0 else x.isoGood + 1) })
      else if s.sess p = 5 then
        let s := if kohm < s.get (F.TPT_LEAK_R_WARN p.val) then
          s.raise { src := 71, point := p.val, every := 60000000 } else s
        let s := s.modSx p (fun x => { x with isoBad := (if bad then x.isoBad + 1 else 0) })
        if 2 ≤ (s.sx p).isoBad then s.sessFault p 0x11 false else s
      else s))

/-- The newest confirmed line pressure of a fluid point, in 0.1 kPa. -/
def State.linePressure (s : State) (p : Fin 8) : Int :=
  match s.vot.confirmed with
  | r :: _ => match r.blocks.lookup p.val with
    | some b => nth b.meas 0 0
    | none => 0
  | [] => 0

/-- The filling of the leak test ends: AP closes the supply valve (R197 step 2). -/
def execLeakTestFillEnd (p : Fin 8) (s : State) : Host.Outcome State Fault Refusal :=
  .next (s.ap (fun s =>
    if s.checking p = true ∧ (s.sx p).leak = .filling then
      (s.openPoint p).modSx p (fun x => { x with leak := .settling })
    else s))

/-- SETTLE seconds have passed: p₀ is taken (R197 step 3). -/
def execLeakTestSettleEnd (p : Fin 8) (s : State) : Host.Outcome State Fault Refusal :=
  .next (s.ap (fun s =>
    if s.checking p = true ∧ (s.sx p).leak = .settling then
      let p0 := s.linePressure p
      s.modSx p (fun x => { x with leak := .testing, leakP0 := p0 })
    else s))

/-- DUR seconds have passed: p₁ is taken and the decay judged (R197 step 4). -/
def execLeakTestEnd (p : Fin 8) (s : State) : Host.Outcome State Fault Refusal :=
  .next (s.ap (fun s =>
    if s.checking p = true ∧ (s.sx p).leak = .testing then
      if (s.sx p).leakP0 - s.linePressure p ≤ (s.get (F.TPT_LEAK_DECAY_MAX p.val) : Int) then
        s.modSx p (fun x => { x with leak := .passed })
      else s.checkFailed p 0x13
    else s))

/-! ### The end of a session (R178, R186) -/

/-- PW reports a point's switches in their safe state: q_e, the end reading, and Closed once both are there. -/
def execSafeStateReport (p : Fin 8) (s : State) : Host.Outcome State Fault Refusal :=
  .next (s.ap (fun s =>
    if s.running .pw = false ∨ (s.sx p).waitSafe = false ∨ s.pointSafe p = false then s
    else
      let s := s.modSx p (fun x => { x with waitSafe := false, stackCmd := 0 })
      let x := s.sx p
      let s := if x.qs.isSome ∧ x.qe.isNone ∧ x.waitEnd = true then s.sessEndReading p s.time.quantum else s
      s.sessTryEnd p))

/-- PW's confirmation deadline passes: q_e, EV072 and reason 0x12, which latches (R178, R181, R186). -/
def execSwitchConfirmTimeout (p : Fin 8) (s : State) : Host.Outcome State Fault Refusal :=
  .next (s.ap (fun s =>
    if (s.sx p).waitSafe = false then s
    else
      let s := s.modSx p (fun x => { x with waitSafe := false, stackCmd := 0 })
      let x := s.sx p
      let s := if x.qs.isSome ∧ x.qe.isNone ∧ x.waitEnd = true then s.sessEndReading p s.time.quantum else s
      let s := (s.raise { src := 72, point := p.val }).latchWeld p 0x12
      if s.sess p = 6 then
        (s.sessFault p 0x12 false).modSx p (fun x => { x with waitSafe := false })
      else s))

/-- 500 ms after the open command a DC point's contactor opens whatever the stack's current (R186). -/
def execDcContactorOpenTimeout (p : Fin 8) (s : State) : Host.Outcome State Fault Refusal :=
  .next (s.ap (fun s => if s.type_ p = 3 ∧ (s.sx p).waitSafe = true then s.openPoint p else s))

/-! ### Commands of the host (R257, R266) -/

/-- A command's session number names the point's session. -/
def State.numberOk (s : State) (d : Desc) : Bool := d.n 28 4 == s.get (F.TPT_SESSION_NUMBER d.pt.val)

/-- A session command refused for its point's state or session number (R257). -/
def State.wrongState (s : State) (d : Desc) : State := s.complete d 0x0007 (s.sess d.pt) []

/-- Command 0x0101: an identity from the host (R175). -/
def execIdentify (d : Desc) (s : State) : Host.Outcome State Fault Refusal :=
  let n := d.n 24 1
  let st : Staged := if n = 0 then .len 1 256 false else .none
  let c : CmdSpec := { opcode := 0x0101, priv := some 0, isl := .ap, point := true, params := [(24, 1), (26, 30)] }
  .next (s.command d { c with staged := st } [(24, decide (30 < n))] (fun s =>
    if s.sess d.pt ≠ 1 then s.wrongState d
    else
      let s := s.sessIdentify d.pt (if n = 0 then s.staged d else slice d.bytes 26 n) false
      s.ok d (natLE 4 (s.get (F.TPT_SESSION_NUMBER d.pt.val)))))

/-- Command 0x0102: the host's decision, which EV062 asked for (R198). -/
def execAuthorise (d : Desc) (s : State) : Host.Outcome State Fault Refusal :=
  let c : CmdSpec := { opcode := 0x0102, priv := some 0, isl := .ap, point := true }
  .next (s.command d { c with params := [(24, 1), (28, 4), (32, 4), (40, 8)] } [(24, decide (1 < d.n 24 1))] (fun s =>
    if s.sess d.pt ≠ 2 ∨ s.numberOk d = false ∨ (s.sx d.pt).hostAsked = false then s.wrongState d
    else if d.n 24 1 = 1 then (s.sessGrant d.pt 3 (d.n 40 8)).ok d []
    else (s.sessClose d.pt 0x06).ok d []))

/-- Command 0x0103: the revocation status that EV063 asked for; unknown counts as revoked (R198). -/
def execRevocationStatus (d : Desc) (s : State) : Host.Outcome State Fault Refusal :=
  .next (s.command d { opcode := 0x0103, priv := some 0, isl := .ap, point := true, params := [(24, 1), (28, 4)] }
    [(24, decide (2 < d.n 24 1))] (fun s =>
    if s.sess d.pt ≠ 2 ∨ s.numberOk d = false ∨ (s.sx d.pt).certWait = false then s.wrongState d
    else if d.n 24 1 = 0 then (s.sessGrant d.pt 1 0).ok d []
    else ((s.modSx d.pt (fun x => { x with certWait := false, certValid := false })).authTable d.pt).ok d []))

/-- Command 0x0104: stop a session (R175); in the tick of another stop only its flag is recorded (R176). -/
def execStopSession (d : Desc) (s : State) : Host.Outcome State Fault Refusal :=
  .next (s.command d { opcode := 0x0104, priv := some 0, isl := .ap, point := true, params := [(28, 4)] } [] (fun s =>
    if s.numberOk d = false then s.wrongState d
    else if 2 ≤ s.sess d.pt ∧ s.sess d.pt ≤ 5 then (s.sessStopBy d.pt 0x02).ok d []
    else (s.sameTick d.pt 2).wrongState d))

/-- A fault cleared: the latch ends and the point returns to Idle (R181). -/
def State.faultCleared (s : State) (p : Fin 8) : State :=
  let s := { s.set (F.TPT_STATE_WELD p.val) 0 with tpt := { s.tpt with latched := s.tpt.latched.set p 0 } }
  s.enter p 0 0

/-- Command 0x0105: clear a fault; a latched weld first runs the weld row (R175, R181). -/
def execClearFault (d : Desc) (s : State) : Host.Outcome State Fault Refusal :=
  .next (s.command d { opcode := 0x0105, priv := some 0, isl := .ap, point := true } [] (fun s =>
    let x := s.sx d.pt
    if s.sess d.pt ≠ 15 ∨ x.partner = true ∨ x.recDue = true ∨ x.weldCmd.isSome = true then s.wrongState d
    else if s.tpt.latched[d.pt] = 0x12 then
      (s.openPoint d.pt).modSx d.pt (fun x => { x with weldQ := 0, weldCmd := some d })
    else (s.faultCleared d.pt).ok d []))

/-- The weld row that clear-fault runs passes, or its 60 s expire (R181). -/
def execWeldCheckEnd (p : Fin 8) (passed : Bool) (s : State) : Host.Outcome State Fault Refusal :=
  .next (s.ap (fun s =>
    match (s.sx p).weldCmd with
    | none => s
    | some d =>
      if passed = true ∧ (s.sx p).weldQ < 5 then s
      else
        let s := s.modSx p (fun x => { x with weldCmd := none })
        if passed then (s.faultCleared p).ok d [] else s.complete d 0x0007 15 []))

/-- Command 0x0106: out of service, or in service again (R266). -/
def execServiceState (d : Desc) (s : State) : Host.Outcome State Fault Refusal :=
  .next (s.command d { opcode := 0x0106, priv := some 0, isl := .ap, point := true, params := [(24, 1)] }
    [(24, decide (1 < d.n 24 1))] (fun s =>
    if restState (s.sess d.pt) = false then s.wrongState d
    else ((s.set (F.TPT_STATE_OOS d.pt.val) (d.n 24 1)).showPilot d.pt).ok d []))

/-- Command 0x0107: the host's current limit (R183). -/
def execHostCurrentLimit (d : Desc) (s : State) : Host.Outcome State Fault Refusal :=
  let v := d.n 24 2
  .next (s.command d { opcode := 0x0107, priv := some 0, isl := .ap, point := true, params := [(24, 2)] }
    [(24, v != 0xFFFF && (decide (v < 60) || decide (630 < v)))] (fun s =>
    let h : Option Nat := if v = 0xFFFF then none else some v
    ((s.modSx d.pt (fun x => { x with hostLimit := h })).showPilot d.pt).ok d []))

/-- Command 0x0109: assign a point's type, which applies from the next boundary (R174, R359). -/
def execAssignPointType (d : Desc) (s : State) : Host.Outcome State Fault Refusal :=
  let new := d.n 24 1
  .next (s.command d { opcode := 0x0109, priv := some 2, isl := .ap, point := true, params := [(24, 1)] }
    [(24, decide (6 < new))] (fun s =>
    let left := s.get F.KEY_CHG_LEFT_TYPE
    let old := (s.met.typePend[d.pt]).getD (s.type_ d.pt)
    match firstFail [(s.sealOpen, 0x0004, 0), (s.sess d.pt == 0, 0x0007, s.sess d.pt), (decide (0 < left), 0x0005, 0),
        (!s.logRefusing, 0x0006, 0)] with
    | some (st, det) => s.complete d st det []
    | none =>
      if new = old then s.ok d (natLE 1 left)
      else s.limited d F.KEY_CHG_LEFT_TYPE (fun s =>
        let left := s.get F.KEY_CHG_LEFT_TYPE
        let s := { s with met := { s.met with typePend := s.met.typePend.set d.pt (some new) } }
        let pay := natLE 1 old ++ natLE 1 new ++ zeros 14 ++ natLE 1 left
        let s := s.log { type_ := 0x0032, src := d.logSrc, point := d.point, sub := 4, payload := pay }
        (s.raise { src := 123 }).ok d (natLE 1 left))))

/-- Command 0x010A: the contract table (R199). -/
def execLoadContractTable (d : Desc) (s : State) : Host.Outcome State Fault Refusal :=
  let c : CmdSpec := { opcode := 0x010A, priv := some 1, isl := .ap, params := [(24, 2)], load := true }
  .next (s.command d { c with staged := .len 65536 65536 false } [] (fun s =>
    let b := s.staged d
    let n := ((List.range 2048).filter (fun k => (nth b (32 * k + 17) 0).toNat.testBit 0)).length
    let s := { s with tpt := { s.tpt with table := b } }
    ((s.set F.TPT_CTAB_STATUS_COUNT n).set F.TPT_CTAB_STATUS_VERSION (d.n 24 2)).ok d (natLE 2 n)))

end Sys2Proof.Machine
end

