-- ==== Sys2Proof/Machine/SafetyFns.lean ====
section
/-! DEFINITION. The safety functions in channel A (island SF) and channel B (the Rigger logic): pairs, the state
machine of R230, two-hand control (R231, R232), resets (R234), outputs (R222), discrepancies and the safe-fault
mode (R223, R224), start tests (R235) and the configuration (R238). -/

namespace Sys2Proof.Machine

/-- The functions. -/
def fns : List (Fin 6) := List.finRange 6

/-- Type code of a function (R229). -/
def State.fnType (s : State) (f : Fin 6) : Nat := s.get (F.SAF_FUNC_TYPE f.val)

/-- Whether a function drives outputs: types 1 to 4. -/
def State.fnActive (s : State) (f : Fin 6) : Bool := decide (1 ≤ s.fnType f) && decide (s.fnType f ≤ 4)

/-- A channel's view: false channel A, true channel B. -/
def State.ch (s : State) (b : Bool) : SafCh := if b then s.saf.chB else s.saf.chA

/-- The state with a channel's view replaced. -/
def State.setCh (s : State) (b : Bool) (c : SafCh) : State :=
  if b then { s with saf := { s.saf with chB := c } } else { s with saf := { s.saf with chA := c } }

/-- The filtered levels of a channel, bit i for SFIi. -/
def State.levels (s : State) (b : Bool) : Nat := if b then s.get F.SAF_IN_CH_B else s.get F.SAF_IN_CH_A

/-- State of a pair: 0 demand, 1 run, 2 discrepant (R227). -/
def pairState (levels wiring j : Nat) : Nat :=
  let e := levels.testBit (2 * j)
  let o := levels.testBit (2 * j + 1) != (wiring == 1)
  if e && o then 1 else if !e && !o then 0 else 2

/-- The pairs of a function. -/
def State.fnPairs (s : State) (f : Fin 6) : List Nat :=
  let j := s.get (F.SAF_FUNC_PAIR f.val)
  if s.fnType f = 3 then [j, j + 1] else [j]

/-- States of a function's pairs in a channel. -/
def State.pairs (s : State) (b : Bool) (f : Fin 6) : List Nat :=
  (s.fnPairs f).map (pairState (s.levels b) (s.get (F.SAF_FUNC_WIRING f.val)))

/-- SAF_STATUS as channel A sees the functions. -/
def State.showSaf (s : State) : State :=
  let bits := fun (x : FnState) => (fns.map (fun f => (s.fnActive f && s.saf.chA.fns[f] == x).toNat <<< f.val)).sum
  let mode := match s.saf.chA.mode with
    | .startTests => 0 | .run => 1 | .safeFault => 2 | .unconfigured => 3
  let s := (s.set F.SAF_STATUS_AWAIT (bits .awaiting)).set F.SAF_STATUS_DISC (bits .discrepancy)
  let s := (s.set F.SAF_STATUS_DEMAND (bits .demanded)).set F.SAF_STATUS_MODE mode
  s.set F.SAF_STATUS_ACTIVE ((fns.map (fun f => (s.fnType f != 0).toNat <<< f.val)).sum)

/-! ### Outputs (R222, R236) -/

/-- Whether a channel demands an output on: it runs, some active function names the output, and every such
function is Released in its view. -/
def State.demandsOn (s : State) (b : Bool) (n : Nat) : Bool :=
  let mine := fns.filter (fun f => s.fnActive f && (s.get (F.SAF_FUNC_SFO f.val)).testBit n)
  (s.ch b).mode == .run && mine != [] && mine.all (fun f => (s.ch b).fns[f] == .released)

/-- A channel drives its four switches as it demands; the readbacks follow. -/
def State.drive (s : State) (b : Bool) : State :=
  let d := ((List.range 4).map (fun n => (s.demandsOn b n).toNat <<< n)).sum
  let s := if b then { s with saf := { s.saf with swB := BitVec.ofNat 4 d } }
    else { s with saf := { s.saf with swA := BitVec.ofNat 4 d } }
  (List.range 4).foldl (fun s n =>
    (s.setBit F.SAF_OUT_OUT (4 * n + b.toNat) (d.testBit n)).setBit F.SAF_OUT_OUT (4 * n + 2 + b.toNat) (d.testBit n)) s

/-- The load-switch channels that the channels hold off: those of every active function that is not Released
in either view, of every active function in the safe-fault mode (R223, R236). -/
def State.forcedMask (s : State) : Nat :=
  let named := fns.filter (fun f => s.fnActive f &&
    (s.saf.chA.mode == .safeFault || s.saf.chB.mode == .safeFault ||
     s.saf.chA.fns[f] != .released || s.saf.chB.fns[f] != .released))
  named.foldl (fun m f => m ||| s.get (F.SAF_FUNC_MASK_LS f.val)) 0

/-- The held-off channels brought up to date: newly named ones go off at once whatever they do; freed ones
turn on again where nothing else keeps them off (R203, log 27). -/
def State.force (s : State) : State :=
  let m := s.forcedMask
  let new := lsChans.filter (fun n => (s.members n).any (fun k => m.testBit k.val))
  let old := lsChans.filter (fun n => s.lsw.forced.toNat.testBit n.val)
  let mask := (new.map (fun n => 1 <<< n.val)).sum
  let s := { s with lsw := { s.lsw with forced := BitVec.ofNat 16 mask } }
  let s := new.foldl (fun s n => if s.lsOn n then s.turnOff n else s) s
  (old.filter (fun n => !(new.contains n))).foldl (fun s n => s.tryOn n) s

/-- Channel B acts at once, channel A's switches follow at its scan; SAF_STATUS shows the views. -/
def State.safSettle (s : State) : State := ((s.drive true).force).showSaf

/-! ### Function states (R228 to R231) -/

/-- A function's state set in a channel, its reset presses ended where it no longer awaits (R234). -/
def State.setFn (s : State) (b : Bool) (f : Fin 6) (x : FnState) : State :=
  let c := s.ch b
  let press := if x = .awaiting then c.press else
    c.press.map (fun p => p.map (fun k => (k.1, k.2 &&& ~~~(BitVec.ofNat 6 (1 <<< f.val)))))
  s.setCh b { c with fns := c.fns.set f x, press := press }

/-- What channel A reports of a new state: EV083 on entry to Demanded or Discrepancy, and AP stops the points
of the function's mask (R230, R237). -/
def State.fnEntered (s : State) (b : Bool) (f : Fin 6) (x : FnState) : State :=
  if b = false ∧ (x = .demanded ∨ x = .discrepancy) then
    (s.raise { src := 83, unit_ := f.val }).safetyStop (s.get (F.SAF_FUNC_MASK_POINTS f.val))
  else s

/-- A function moves to a new state in a channel. -/
def State.moveFn (s : State) (b : Bool) (f : Fin 6) (x : FnState) : State :=
  if (s.ch b).fns[f] = x then s else (s.setFn b f x).fnEntered b f x

/-- The state machine of R230 on the present pair (types 1, 2 and 4). -/
def State.stepFn (s : State) (b : Bool) (f : Fin 6) : State :=
  let run := s.pairs b f == [1]
  match (s.ch b).fns[f] with
  | .released => if run then s else s.moveFn b f .demanded
  | .demanded =>
    if run then s.moveFn b f (if s.get (F.SAF_FUNC_RESTART f.val) = 1 then .awaiting else .released) else s
  | .awaiting => if run then s else s.moveFn b f .demanded
  | .discrepancy => s

/-- The state with a two-hand attempt of a channel. -/
def State.setHand (s : State) (b : Bool) (f : Fin 6) (h : TwoHand) : State :=
  let c := s.ch b
  s.setCh b { c with hands := c.hands.set f h }

/-- A two-hand function at a sample of a channel (R231 steps 1 to 4 and 6): its attempt's interval is measured,
and judged with the other channel's. -/
def State.stepHand (s : State) (b : Bool) (f : Fin 6) (t : Nat) : State :=
  let ps := s.pairs b f
  let h := (s.ch b).hands[f]
  match (s.ch b).fns[f] with
  | .discrepancy => s
  | .awaiting => s
  | .released => if ps = [1, 1] then s else (s.moveFn b f .demanded).setHand b f ⟨false, none, none⟩
  | .demanded =>
    if ps = [0, 0] then s.setHand b f ⟨true, none, none⟩
    else if h.armed = false then s
    else match h.first with
      | none => if ps.contains 1 then s.setHand b f ⟨true, some (if nth ps 0 0 = 1 then 0 else 1, t), none⟩ else s
      | some x => if ps = [1, 1] then s.setHand b f ⟨false, none, some (t - x.2)⟩ else s

/-- The longest accepted interval, in 0.1 ms (R231). -/
def handLimit : Nat := 5000

/-- SAF_TWOHAND's code of an attempt refused by timeout. -/
def handTimeout : Nat := 0xFFFF

/-! ### Discrepancies (R223, R224) -/

/-- A safety channel discrepancy: both channels in the safe-fault mode with every switch off (R223), its cause in
SAF_FAULT. `out` and `func` are 0xF for none. -/
def State.safFault (s : State) (cause out func : Nat) : State :=
  if s.saf.chB.mode = .safeFault then s
  else
    let s := s.setCh false { s.saf.chA with mode := .safeFault }
    let s := s.setCh true { s.saf.chB with mode := .safeFault }
    let s := ((s.set F.SAF_FAULT_CAUSE cause).set F.SAF_FAULT_OUT out).set F.SAF_FAULT_FUNC func
    let s := (s.count F.SAF_FAULT_COUNT 1).fault 0x8 .sf
    let s := s.raise { src := 85, unit_ := if func = 0xF then 0xFF else func }
    let s := if cause = 2 ∨ cause = 3 then s.raise { src := 87, unit_ := out, every := 1000000 } else s
    (s.drive false).safSettle

/-- Both channels' intervals of an attempt judged together; a channel is Released while it sees both hands actuated
(R231, R232). -/
def State.judgeHands (s : State) (f : Fin 6) : State :=
  match s.saf.chA.hands[f].result, s.saf.chB.hands[f].result with
  | some a, some b =>
    let s := (s.set F.SAF_TWOHAND_CH_A (min a 0xFFFF)).set F.SAF_TWOHAND_CH_B (min b 0xFFFF)
    let s := (s.setHand false f ⟨false, none, none⟩).setHand true f ⟨false, none, none⟩
    let okA := decide (a ≤ handLimit)
    let okB := decide (b ≤ handLimit)
    let a' : Int := if a = handTimeout then 5002 else a
    let b' : Int := if b = handTimeout then 5002 else b
    if okA ∧ okB then
      let s := if s.pairs false f = [1, 1] then s.moveFn false f .released else s
      if s.pairs true f = [1, 1] then s.moveFn true f .released else s
    else if okA ≠ okB ∧ 2 < (a' - b').natAbs then s.safFault 0x08 0xF f.val
    else s.raise { src := 86, unit_ := f.val }
  | _, _ => s

/-! ### Resets (R234) -/

/-- A reset of a function, accepted or refused: Rigger follows only where its own view awaits. -/
def State.resetFn (s : State) (f : Fin 6) (ok : Bool) : State :=
  if ok = true ∧ s.saf.chA.mode = .run ∧ s.saf.chA.fns[f] = .awaiting then
    let s := s.moveFn false f .released
    let s := if s.saf.chB.fns[f] = .awaiting then s.moveFn true f .released else s
    s.raise { src := 88, unit_ := f.val }
  else s.raise { src := 89, unit_ := f.val }

/-- The functions that await a reset in channel A. -/
def State.awaitMask (s : State) : BitVec 6 :=
  BitVec.ofNat 6 ((fns.map (fun f => (s.fnActive f && s.saf.chA.fns[f] == .awaiting).toNat <<< f.val)).sum)

/-- A reset button at a sample of channel A: its press is noted, and at its release every function that names it
is reset, if it awaited for the whole press of 100 ms to 5.0 s (R234). -/
def State.stepButton (s : State) (f : Fin 6) (t : Nat) : State :=
  let c := s.saf.chA
  match s.pairs false f, c.press[f] with
  | [1], none => s.setCh false { c with press := c.press.set f (some (t, s.awaitMask)) }
  | [0], some (t0, m) =>
    let s := s.setCh false { c with press := c.press.set f none }
    let inTime := decide (t0 + 1000 ≤ t) && decide (t ≤ t0 + 50000)
    (fns.filter (fun g => [1, 2, 4].contains (s.fnType g) && s.get (F.SAF_FUNC_RESET_SRC g.val) == f.val)).foldl
      (fun s g => s.resetFn g (inTime && m.toNat.testBit g.val)) s
  | _, _ => s

/-- One channel judges its functions at a sample. -/
def State.judge (s : State) (b : Bool) (t : Nat) : State :=
  if (s.ch b).mode ≠ .run then s
  else
    let s := fns.foldl (fun s f =>
      if s.fnType f = 3 then s.stepHand b f t else if s.fnActive f then s.stepFn b f else s) s
    let s := if b then s else fns.foldl (fun s f => if s.fnType f = 5 then s.stepButton f t else s) s
    fns.foldl (fun s f => if s.fnType f = 3 then s.judgeHands f else s) s

/-- A new level accepted by a channel's filter (R226). -/
def State.setLevel (s : State) (b : Bool) (i : Nat) (level : Bool) : State :=
  s.setBit (if b then F.SAF_IN_CH_B else F.SAF_IN_CH_A) i level

/-- A land has held a new level for 3.0 ms in the channels named; each updates its functions (R226, R230). -/
def execSafetyInputFiltered (i : Fin 12) (level : Bool) (inA inB : Bool) (tA tB : Nat) (s : State) :
    Host.Outcome State Fault Refusal :=
  let inA := inA && s.running .sf
  let s := if inA then s.setLevel false i.val level else s
  let s := if inB then s.setLevel true i.val level else s
  let s := if inB then s.judge true tB else s
  let s := if inA then s.judge false tA else s
  .next s.safSettle

/-- A scan of E16 every 4.0 ms: the functions are judged and channel A's switches driven (R221, R222). -/
def execSfScan (s : State) : Host.Outcome State Fault Refusal :=
  if s.running .sf = false then .next s
  else
    let each := fun (s : State) (b : Bool) =>
      if (s.ch b).mode = .run then
        fns.foldl (fun s f => if [1, 2, 4].contains (s.fnType f) then s.stepFn b f else s) s
      else s
    .next ((each (each s true) false).drive false).safSettle

/-- The channels' outputs, input readings or configuration CRCs have differed for more than 8.0 ms (R223). -/
def execSafetyDiscrepancy (k : DiscCause) (out : Option (Fin 4)) (s : State) : Host.Outcome State Fault Refusal :=
  let o := match out with
    | some n => n.val
    | none => 0xF
  match k with
  | .demand =>
    let bits := s.get F.SAF_OUT_OUT
    let differs := fun n => bits.testBit (4 * n) != bits.testBit (4 * n + 1)
    if (match out with
      | some n => differs n.val
      | none => (List.range 4).any differs) then .next (s.safFault 0x01 o 0xF) else .next s
  | .inputReading => if s.levels false = s.levels true then .next s else .next (s.safFault 0x04 0xF 0xF)
  | .configCrc => .next (s.safFault 0x05 0xF 0xF)

/-- A switch's commanded state. -/
def State.swOn (s : State) (out : Fin 4) (swB : Bool) : Bool :=
  if swB then s.saf.swB.toNat.testBit out.val else s.saf.swA.toNat.testBit out.val

/-- A test of one switch of an output that is on: a land that does not fall is stuck on (R224). The switches of an
output take turns, channel A's first (log 25). -/
def execOutputTest (out : Fin 4) (swB fell : Bool) (s : State) : Host.Outcome State Fault Refusal :=
  if s.saf.chB.mode ≠ .run ∨ s.swOn out swB = false ∨ s.saf.testB.toNat.testBit out.val ≠ swB then .next s
  else
    let m := putBit s.saf.testB.toNat out.val (!swB)
    let s := { s with saf := { s.saf with testB := BitVec.ofNat 4 m } }
    .next (if fell then s else (s.safFault 0x02 out.val 0xF).setBit F.SAF_OUT_OUT (4 * out.val + 2 + swB.toNat) true)

/-- A switch reads on for more than 1.0 ms while commanded off, or off for more than 8.0 ms while commanded on
(R224). -/
def execSwitchStuck (out : Fin 4) (swB on : Bool) (s : State) : Host.Outcome State Fault Refusal :=
  if s.swOn out swB = on then .next s
  else
    let s := s.safFault (if on then 0x02 else 0x03) out.val 0xF
    .next (s.setBit F.SAF_OUT_OUT (4 * out.val + 2 + swB.toNat) on)

/-- A pair discrepant for longer than DISC: Discrepancy in every channel that sees it (R228). -/
def execInputDiscrepancy (f : Fin 6) (s : State) : Host.Outcome State Fault Refusal :=
  let bad := fun (b : Bool) => s.fnActive f && (s.ch b).mode == .run && (s.pairs b f).contains 2 &&
    (s.ch b).fns[f] != .discrepancy
  let a := bad false && s.running .sf
  let b := bad true
  if a = false ∧ b = false then .next s
  else
    let s := if b then (s.moveFn true f .discrepancy).setHand true f ⟨false, none, none⟩ else s
    let s := if a then
        ((s.moveFn false f .discrepancy).setHand false f ⟨false, none, none⟩).raise { src := 84, unit_ := f.val }
      else s
    .next s.safSettle

/-- The pair has been in its demand state for 100 ms: Discrepancy ends in Demanded (R230). -/
def execDiscrepancyClear (f : Fin 6) (s : State) : Host.Outcome State Fault Refusal :=
  let clear := fun (s : State) (b : Bool) =>
    if (s.ch b).fns[f] = .discrepancy ∧ s.fnActive f = true ∧ (s.pairs b f).all (· == 0) = true then
      (s.moveFn b f .demanded).setHand b f ⟨s.fnType f == 3, none, none⟩
    else s
  let s := clear s true
  .next (if s.running .sf then clear s false else s).safSettle

/-- The second hand has not arrived by t₁ + 500.1 ms in the channels named (R231 step 5). -/
def execTwoHandTimeout (f : Fin 6) (inA inB : Bool) (s : State) : Host.Outcome State Fault Refusal :=
  let out := fun (s : State) (b : Bool) =>
    if s.fnType f = 3 ∧ (s.ch b).mode = .run ∧ (s.ch b).hands[f].first.isSome = true then
      s.setHand b f ⟨false, none, some handTimeout⟩
    else s
  let s := if inB then out s true else s
  let s := if inA && s.running .sf then out s false else s
  .next ((s.judgeHands f).safSettle)

/-! ### Restarts (R233, R235) -/

/-- Every active function back in Demanded in both channels, with no attempt and no press. -/
def State.allDemanded (s : State) : State :=
  fns.foldl (fun s f =>
    if s.fnActive f then
      let s := (s.moveFn true f .demanded).moveFn false f .demanded
      (s.setHand false f ⟨false, none, none⟩).setHand true f ⟨false, none, none⟩
    else s) s

/-- A safety restart: every switch off, every function Demanded, start tests (R230, R235). After a reference
fault only the restart of a power-on reset leaves the safe-fault mode (R39). -/
def State.safRestart (s : State) : State :=
  let s := s.allDemanded
  let none6 := Vector.replicate 6 none
  let s := s.setCh false { s.saf.chA with mode := .startTests, press := none6 }
  let s := s.setCh true { s.saf.chB with mode := .startTests, press := none6 }
  (s.drive false).safSettle

/-- A write of SAF_RESET_REQ: key and reserved bits, then a safety restart and resets of functions by host
software (R234, R235). -/
def State.writeSafReset (s : State) (v : Nat) : State :=
  if bitsOf v 31 16 ≠ 0xA5C3 ∨ bitsOf v 15 9 ≠ 0 then s.discard
  else
    let s := if v.testBit 8 = true ∧ s.refFault = false then s.safRestart else s
    (fns.filter (fun f => v.testBit f.val)).foldl (fun s f =>
      s.resetFn f ([1, 2, 4].contains (s.fnType f) && s.get (F.SAF_FUNC_RESET_SRC f.val) == 0xF)) s |>.safSettle

/-- A write of SAF_RESET_REQ.FUNC (R234). -/
def execSafetyResetRequest (v : Word) (s : State) : Host.Outcome State Fault Refusal :=
  .next (s.guard R.SAF_RESET_REQ 4 (fun s => s.writeSafReset v.toNat))

/-- A write of SAF_RESET_REQ.FAULT_CLR (R235). -/
def execSafetyRestart (v : Word) (s : State) : Host.Outcome State Fault Refusal :=
  .next (s.guard R.SAF_RESET_REQ 4 (fun s => s.writeSafReset v.toNat))

/-- Whether a safety configuration is loaded: its OTEST is at least 1. -/
def State.safConfigured (s : State) : Bool := s.saf.otest != 0

/-- The start tests end: run mode when both channels pass, else the safe-fault mode (R235). -/
def execStartTestsComplete (pass : Bool) (s : State) : Host.Outcome State Fault Refusal :=
  if s.running .sf = false ∨ s.saf.chA.mode ≠ .startTests then .next s
  else
    let m : SafMode := if pass then (if s.safConfigured then .run else .unconfigured) else .safeFault
    let s := s.setCh false { s.saf.chA with mode := m }
    let s := s.setCh true { s.saf.chB with mode := m }
    let s := s.raise { src := 91, detail := pass.toNat }
    let s := if pass then (s.judge true 0).judge false 0
      else ((s.set F.SAF_FAULT_CAUSE 0x07).set F.SAF_FAULT_OUT 0xF).set F.SAF_FAULT_FUNC 0xF
    .next s.safSettle

/-- VFIELD undervoltage off: every function starts again in Demanded (R233). -/
def State.safUv (s : State) : State := (s.allDemanded.drive false).safSettle

/-- A reset or fence of SF switches off every SFOnA until SF has passed its start tests (R225). -/
def State.sfDown (s : State) : State :=
  let s := s.setCh false { s.saf.chA with mode := if s.saf.chA.mode = .safeFault then .safeFault else .startTests }
  (s.drive false).showSaf

/-- After an SF reset the start tests run in both channels (R235). -/
def State.sfUp (s : State) : State := if s.saf.chA.mode = .safeFault then s else s.safRestart

/-! ### Configuration (R238) -/

/-- A function entry of a configuration. -/
def safEntry (b : List Byte) (f : Nat) : List Byte := slice b (8 + 16 * f) 16

/-- Check 3 of R238 on an entry: field ranges and the constraints of R226 and R229. -/
def entryGood (e : List Byte) : Bool :=
  let g := fun o => fld e o 1
  let ty := g 0
  let disc := fld e 6 2
  let src := g 4
  decide (ty ≤ 5) && decide (g 1 ≤ 5) && decide (g 2 ≤ 1) && decide (g 3 ≤ 1) && (src == 15 || decide (src ≤ 5)) &&
  decide (g 5 ≤ 15) && (slice e 11 5).all (· == 0) &&
  (match ty with
   | 1 => g 3 == 1 && decide (10 ≤ disc) && decide (disc ≤ 500)
   | 2 => decide (10 ≤ disc) && decide (disc ≤ 500)
   | 3 => g 3 == 0 && decide (g 1 ≤ 4) && decide (10 ≤ disc) && decide (disc ≤ 500)
   | 4 => decide (4 ≤ g 1) && decide (10 ≤ disc) && decide (disc ≤ 100)
   | 5 => g 2 == 0 && g 5 == 0
   | _ => true)

/-- The pairs that an entry uses. -/
def entryPairs (e : List Byte) : List Nat :=
  match fld e 0 1 with
  | 0 => []
  | 3 => [fld e 1 1, fld e 1 1 + 1]
  | _ => [fld e 1 1]

/-- The number of the first check of R238 that a configuration fails. -/
def State.safBad (s : State) (b : List Byte) : Option Nat :=
  let es := (List.range 6).map (safEntry b)
  let pts := es.foldl (fun m e => if fld e 0 1 = 0 then m else m ||| fld e 10 1) 0
  let old := fns.foldl (fun m f => if s.fnType f = 0 then m else m ||| s.get (F.SAF_FUNC_MASK_POINTS f.val)) 0
  let off := s.get F.SAF_OUT_OUT &&& 0xCCCC == 0 && s.saf.swA == 0 && s.saf.swB == 0
  let idle := points.all (fun p => !((pts ||| old).testBit p.val) || decide (s.sess p < 4) || decide (6 < s.sess p))
  let head := fld b 0 4 == 0x43464153 && fld b 4 2 == 1 && fld b 6 2 == 0 && decide (1 ≤ fld b 104 2) &&
    decide (fld b 104 2 ≤ 600) && (slice b 106 6).all (· == 0) && fld b 112 4 == crc32 (b.take 112)
  let used := es.flatMap entryPairs
  let srcs := es.all (fun e => !([1, 2, 4].contains (fld e 0 1)) || fld e 3 1 == 0 || fld e 4 1 == 15 ||
    fld (safEntry b (fld e 4 1)) 0 1 == 5)
  (firstFail [(off, 0, 1), (idle, 0, 2), (head && es.all entryGood, 0, 3), (decide used.Nodup, 0, 4), (srcs, 0, 5)]).map Prod.snd

/-- Command 0x0401: check a staged safety configuration (R238 step 1). -/
def execLoadSafetyConfiguration (d : Desc) (s : State) : Host.Outcome State Fault Refusal :=
  .next (s.command d { opcode := 0x0401, priv := some 1, isl := .sf, staged := .len 116 116 false, load := true } []
    (fun s =>
      let b := s.staged d
      match s.safBad b with
      | some k => s.complete d 0x0008 k []
      | none => { s with saf := { s.saf with staged := some b } }.ok d (slice b 112 4)))

/-- A configuration taken over by both channels. -/
def State.storeSaf (s : State) (b : List Byte) : State :=
  let s := { s with saf := { s.saf with staged := none, otest := BitVec.ofNat 16 (fld b 104 2) } }
  let s := s.set F.SAF_CFG_CRC_CRC (fld b 112 4)
  fns.foldl (fun s f =>
    let e := safEntry b f.val
    let g := fun o => fld e o 1
    let v := (g 0 % 8) <<< 29 + (g 1 % 8) <<< 26 + (g 2 % 2) <<< 25 + (g 3 % 2) <<< 24 + (g 4 % 16) <<< 20 +
      (g 5 % 16) <<< 16 + fld e 6 2
    (s.setReg (R.SAF_FUNC f.val) v).setReg (R.SAF_FUNC_MASK f.val) (g 10 <<< 16 + fld e 8 2)) s

/-- Command 0x0402: confirm it; both channels store it and a safety restart follows (R238 step 2). A confirmation
with a different CRC discards what was staged; its status is the invalid field (log 26). -/
def execConfirmSafetyConfiguration (d : Desc) (s : State) : Host.Outcome State Fault Refusal :=
  .next (s.command d { opcode := 0x0402, priv := some 1, isl := .sf, params := [(24, 4)] } [] (fun s =>
    match s.saf.staged with
    | none => s.complete d 0x0007 0 []
    | some b =>
      if fld b 112 4 ≠ d.n 24 4 then
        { s with saf := { s.saf with staged := none } }.complete d 0x0002 24 []
      else
        let s := (s.allDemanded.storeSaf b).raise { src := 90 }
        let s := if s.refFault then s.safSettle else s.safRestart
        s.ok d []))

/-- No matching confirmation within 60 s (R238). -/
def execSafetyConfigTimeout (s : State) : Host.Outcome State Fault Refusal :=
  if s.running .sf = false then .next s else .next { s with saf := { s.saf with staged := none } }

end Sys2Proof.Machine
end

