-- ==== Sys2Proof/Machine/SwitchRows.lean ====
section
/-! DEFINITION. What happens to the load-switch channels (chapter 7): faults and retries, open loads, shedding,
generators, supply dips, holds, and the host's writes and commands. Currents come in 10 mA, VFIELD in 10 mV. -/

namespace Sys2Proof.Machine

/-- The point of a point-owned channel stops, if it is in Checked or later (R212). -/
def State.channelStop (s : State) (n : Fin 16) (reason : Nat) : State :=
  if s.pointOwned n then s.switchStop (s.ownerPoint n) reason else s

/-- A fault of a channel, and the stop of its point when it latches (R206 to R208, R212). -/
def State.faultChan (s : State) (n : Fin 16) (src : Nat) : State :=
  let r := s.channelFault n src
  if r.1 then r.2.channelStop n 0x25 else r.2

/-- A short: at its limit with the output below 50 % of VFIELD for 20 µs (R206), fault class 0x9 (R43). -/
def execShortDetected (n : Fin 16) (s : State) : Host.Outcome State Fault Refusal :=
  if s.lsOn n = false then .next s
  else .next (((s.count (F.LSW_CH_CNT_SHORTS n.val) 1).fault 0x9 .pw).faultChan n 75)

/-- An over-current counted as a fault of a channel that is on (R207). -/
def State.overCurrent (s : State) (n : Fin 16) : State :=
  if s.lsOn n then (s.count (F.LSW_CH_CNT_OVERCUR n.val) 1).faultChan n 76 else s

/-- A channel at its active limit for OC_TIME (R207). -/
def execOvercurrent (n : Fin 16) (s : State) : Host.Outcome State Fault Refusal := .next (s.overCurrent n)

/-- A switch cell at 175 °C counts as an over-current of its channel (R207). -/
def execSwitchCellOvertemperature (n : Fin 16) (s : State) : Host.Outcome State Fault Refusal :=
  .next (s.overCurrent n)

/-- A retry pause ends: the channel, with its pair, turns on again (R208). -/
def execRetryPauseEnd (n : Fin 16) (s : State) : Host.Outcome State Fault Refusal :=
  if s.flag (F.LSW_CH_STAT_PAUSE n.val) = false then .next s
  else .next (((s.members n).foldl (fun s m => s.set (F.LSW_CH_STAT_PAUSE m.val) 0) s).tryOn n)

/-- A channel has been on for 10 s without a fault: its sequence returns to zero (R208). -/
def execRetrySequenceReset (n : Fin 16) (s : State) : Host.Outcome State Fault Refusal :=
  if s.lsOn n = false then .next s
  else .next ((s.members n).foldl (fun s m => s.set (F.LSW_CH_STAT_TRY m.val) 0) s)

/-- The inrush window ends (R205). -/
def execInrushEnd (n : Fin 16) (s : State) : Host.Outcome State Fault Refusal :=
  .next (s.set (F.LSW_CH_STAT_INRUSH n.val) 0)

/-- Whether the open-load test of a leader's channel is suspended: it is DUPLEX and the newest switch-over is less
than 20 ms old (R219). -/
def State.overlap (s : State) (l : Nat) : Bool :=
  s.flag (F.LSW_CH_CFG_DUPLEX l) && (s.fab.pair.switchAt.any (fun t => decide (s.time.now < t + 20000)))

/-- Whether the open-load test watches a channel: on, not limiting, not in its inrush window, a threshold set,
a duty of 5 % or more under PWM (R209), and no switch-over just now (R219). -/
def State.openWatched (s : State) (n : Fin 16) : Bool :=
  let l := (s.leader n).val
  let g := s.lsw.pwm[Fin.ofNat 8 (s.get (F.LSW_CH_CFG_GEN l))]
  s.lsOn n && !(s.flag (F.LSW_CH_STAT_LIMITING n.val)) && !(s.flag (F.LSW_CH_STAT_INRUSH n.val)) &&
  s.get (F.LSW_CH_LIM_OPEN l) != 0 && (!(s.flag (F.LSW_CH_CFG_PWM_EN l)) || decide (50 ≤ g.2.1)) &&
  !(s.overlap l)

/-- A channel's current below its threshold for 100 ms (R209). -/
def execOpenLoad (n : Fin 16) (s : State) : Host.Outcome State Fault Refusal :=
  if s.openWatched n = false then .next s
  else .next ((s.set (F.LSW_CH_STAT_OPEN n.val) 1).raise { src := 78, unit_ := n.val, every := 60000000 })

/-- A channel's current above its threshold for 100 ms (R209). -/
def execOpenLoadClear (n : Fin 16) (s : State) : Host.Outcome State Fault Refusal :=
  if s.openWatched n = false then .next s else .next (s.set (F.LSW_CH_STAT_OPEN n.val) 0)

/-! ### Aggregate and temperature (R210, R211) -/

/-- The aggregate's mean and peak shown. -/
def State.showAgg (s : State) (mean inst : Nat) : State :=
  (s.setSat F.LSW_AGG_MEAN mean).set F.LSW_AGG_PEAK (max (s.get F.LSW_AGG_PEAK) (min inst 0xFFFF))

/-- The aggregate exceeds its limit in the mean or at an instant: shedding begins (R210, R409). -/
def execAggregateOverload (mean1s inst : Nat) (s : State) : Host.Outcome State Fault Refusal :=
  let s := s.showAgg mean1s inst
  if s.meanLimit < mean1s ∨ s.instLimit < inst then .next { s with lsw := { s.lsw with shedCur := true, returning := false } }
  else .next s

/-- One channel or pair shed in shed order, with EV080 once per run and the stop of its point (R210 to R212). -/
def State.shedOne (s : State) (thermal : Bool) : State :=
  match s.nextShed with
  | none => s
  | some n => ((s.shed n thermal).shedEvent).channelStop n 0x25

/-- A millisecond of shedding: it ends below the threshold in the 10 ms mean, or below 145 °C (R210, R211). -/
def execShedStep (mean10ms : Nat) (s : State) : Host.Outcome State Fault Refusal :=
  let cur := s.lsw.shedCur && decide (s.meanLimit ≤ mean10ms)
  let temp := s.lsw.shedTemp && decide (145 ≤ s.arrayTemp)
  let s := { s with lsw := { s.lsw with shedCur := cur, shedTemp := temp } }
  .next (if cur || temp then s.shedOne (!cur) else s)

/-- The 1 s mean has stayed below the return threshold for 1 s: shed channels may return (R210). -/
def execShedReturn (mean1s : Nat) (s : State) : Host.Outcome State Fault Refusal :=
  let s := s.setSat F.LSW_AGG_MEAN mean1s
  let s : State := if mean1s < s.returnLimit ∧ s.lsw.shedCur = false then
    { s with lsw := { s.lsw with returning := true } } else s
  .next s

/-- Every 100 ms one shed channel that may return turns on again, in reverse shed order (R210, R211). -/
def execShedRestoreStep (s : State) : Host.Outcome State Fault Refusal :=
  if s.lsw.shedCur = true ∨ s.lsw.shedTemp = true then .next s
  else match s.nextReturn with
    | none => .next s
    | some n => .next (s.unshed n)

/-- The array temperature: EV079 at 140 °C, shedding at 150 °C, every channel off at 165 °C (R211). -/
def execArrayTemperature (degC : Int) (s : State) : Host.Outcome State Fault Refusal :=
  let old := s.arrayTemp
  let s := s.set F.LSW_THERM_TEMP (ofSigned 9 (max (-256) (min 255 degC)))
  let s := if old < 140 ∧ 140 ≤ degC then s.raise { src := 79 } else s
  let on := decide (150 ≤ degC) || (s.lsw.shedTemp && decide (145 ≤ degC))
  let s := { s with lsw := { s.lsw with shedTemp := on } }
  .next (if 165 ≤ degC then (List.range 16).foldl (fun s _ => s.shedOne true) s else s)

/-! ### Generators (R214) -/

/-- A generator starts a period: new period, duty and phases apply, and its channels follow its gate. -/
def execPwmPeriodStart (g : Fin 8) (s : State) : Host.Outcome State Fault Refusal :=
  let v := (s.get (F.LSW_PWM_PER_PERIOD g.val), s.get (F.LSW_PWM_DUTY_DUTY g.val), s.flag (F.LSW_PWM_DUTY_EN g.val))
  let s := { s with lsw := { s.lsw with pwm := s.lsw.pwm.set g v } }
  let mine := lsChans.filter (fun n => s.flag (F.LSW_CH_CFG_PWM_EN (s.leader n).val) &&
    s.get (F.LSW_CH_CFG_GEN (s.leader n).val) == g.val)
  let each := fun (s : State) (n : Fin 16) =>
    let ph := BitVec.ofNat 8 (s.get (F.LSW_CH_CFG_PHASE (s.leader n).val))
    let s : State := { s with lsw := { s.lsw with phase := s.lsw.phase.set n ph } }
    if s.pwmGate n = false ∧ s.lsOn n = true then s.turnOff n
    else if s.pwmGate n = true ∧ s.lsOn n = false ∧ s.mayTurnOn n = true then s.turnOn n
    else s
  .next (mine.foldl each s)

/-! ### Supply dips (R215) -/

/-- VFIELD enters or leaves the dip band of 4.5 V to 5.5 V; at 6.0 V the channels that waited turn on. -/
def execVfieldDip (v10mV : Nat) (s : State) : Host.Outcome State Fault Refusal :=
  let s := s.setSat F.LSW_STATUS_VFIELD v10mV
  if s.flag F.LSW_STATUS_UV_OFF then .next s
  else if 600 ≤ v10mV then .next (s.uvReturn v10mV)
  else .next (s.set F.LSW_STATUS_DIP (decide (450 ≤ v10mV) && decide (v10mV < 550)).toNat)

/-! ### Holds (R216, R217) -/

/-- PW writes a channel's commanded state to Rigger, which ends its hold: a point-owned channel only as off,
unless AP has recovered its point's session. -/
def execChannelReclaim (n : Fin 16) (s : State) : Host.Outcome State Fault Refusal :=
  if s.running .pw = false ∨ s.flag (F.LSW_CH_STAT_HELD n.val) = false then .next s
  else
    let on := s.commanded (s.leader n) && (!(s.pointOwned n) || s.sess (s.ownerPoint n) == 5)
    .next (s.commandChan n on)

/-- 2,000 ms after the reset, every hold that was not reclaimed ends: reset states, EV082 once. -/
def execHoldExpiry (s : State) : Host.Outcome State Fault Refusal :=
  let held := lsChans.filter (fun n => s.leader n == n && (s.members n).any (fun m => s.flag (F.LSW_CH_STAT_HELD m.val)))
  if held = [] then .next s
  else
    let s := held.foldl (fun s n =>
      s.commandChan n (!(s.pointOwned n) && s.flag (F.LSW_CH_CFG_RST_ON n.val))) s
    .next (s.raise { src := 82 })

/-! ### Writes and commands of the host -/

/-- Whether the host may command a channel: host-owned, and not the odd one of a pair (R202, R203). -/
def State.hostMay (s : State) (n : Fin 16) : Bool := !(s.pointOwned n) && s.leader n == n

/-- A write of LSW_CMD: a change of a channel that the host may not command discards it. A write also reclaims
the held channels that it may command. -/
def State.writeLswCmd (s : State) (v : Nat) : State :=
  let changed := fun (n : Fin 16) => v.testBit n.val != s.commanded n
  if lsChans.any (fun n => changed n && !(s.hostMay n)) then s.discard
  else (lsChans.filter (fun n => s.hostMay n && (changed n || s.flag (F.LSW_CH_STAT_HELD n.val)))).foldl
    (fun s n => s.commandChan n (v.testBit n.val)) s

/-- A write of LSW_CMD (R203). -/
def execLswCmdWrite (v : Word) (s : State) : Host.Outcome State Fault Refusal :=
  .next (s.guard R.LSW_CMD 4 (fun s => s.writeLswCmd v.toNat))

/-- A write of LSW_LATCH: a 1 for a channel commanded on discards it (R208). -/
def State.writeLatch (s : State) (v : Nat) : State :=
  if lsChans.any (fun n => v.testBit n.val && s.commanded n) then s.discard else s.clearLatches v

/-- A write of LSW_LATCH (R208). -/
def execLatchClear (v : Word) (s : State) : Host.Outcome State Fault Refusal :=
  .next (s.guard R.LSW_LATCH 4 (fun s => s.writeLatch v.toNat))

/-- A read of LSW_AGG returns and clears the peak. -/
def execLswAggRead (s : State) : Host.Outcome State Fault Refusal :=
  .next (s.readRow R.LSW_AGG (fun s => s.set F.LSW_AGG_PEAK 0))

/-- Command 0x0301: switch host-owned channels (R203). -/
def execSwitchHostChannels (d : Desc) (s : State) : Host.Outcome State Fault Refusal :=
  let mask := d.n 24 2
  let on := d.n 26 2
  .next (s.command d { opcode := 0x0301, priv := some 0, isl := .pw, params := [(24, 2), (26, 2)] } [] (fun s =>
    let named := lsChans.filter (fun n => mask.testBit n.val)
    if named.all s.hostMay = false then s.complete d 0x0002 24 []
    else (named.foldl (fun s n => s.commandChan n (on.testBit n.val)) s).ok d []))

/-- Command 0x0302: clear latches (R208). -/
def execClearLatches (d : Desc) (s : State) : Host.Outcome State Fault Refusal :=
  let mask := d.n 24 2
  .next (s.command d { opcode := 0x0302, priv := some 0, isl := .pw, params := [(24, 2)] } [] (fun s =>
    if lsChans.any (fun n => mask.testBit n.val && s.commanded n) then s.complete d 0x0002 24 []
    else (s.clearLatches mask).ok d []))

end Sys2Proof.Machine
end

