-- ==== Sys2Proof/Machine/Tone.lean ====
section
/-! DEFINITION. The mains tone link of engine E13: frames and their decoding, access to the medium,
acknowledgement and retransmission, the neighbour table, beacons, refresh lists and the line driver (R311 to
R332). -/

namespace Sys2Proof

open Sys2Proof.Machine

/-- Bytes of a frame corrected as erasures. -/
def MtlRx.erased (r : MtlRx) : Nat := r.headErr.2 + (r.bodyErr.map Prod.snd).sum

/-- Whether a received frame decodes: header, codewords, lengths and CRC (R316, R317, R319). -/
def MtlRx.decodes (r : MtlRx) : Bool :=
  let n := fld r.header 0 1 % 16 + 1
  r.header.length == 4 && r.body.length == 28 * n && r.bodyErr.length == n &&
    decide (2 * r.headErr.1 + r.headErr.2 ≤ 8) && r.bodyErr.all (fun x => decide (2 * x.1 + x.2 ≤ 12)) &&
    fld r.body (28 * n - 4) 4 == crc32 (r.header ++ r.body.take (28 * n - 4))

/-- Kind of a frame. -/
def MtlRx.kind (r : MtlRx) : Nat := fld r.header 0 1 / 16
/-- Sender address of a frame. -/
def MtlRx.sender (r : MtlRx) : Nat := fld r.header 1 2

end Sys2Proof

namespace Sys2Proof.Machine

/-- The state with the mains tone link's part changed. -/
def State.modTone (s : State) (f : MtlS → MtlS) : State := { s with mtl := f s.mtl }

/-- The state with a neighbour entry changed. -/
def State.modEntry (s : State) (j : Fin 32) (f : MtlNb → MtlNb) : State :=
  { s with mtl := { s.mtl with nbs := s.mtl.nbs.set j (f s.mtl.nbs[j]) } }

/-- Runs an event of the mains tone link while CM runs and the link is enabled. -/
def State.tone (s : State) (body : State → State) : State :=
  s.cm (fun s => if s.flag F.MTL_CFG_EN then body s else s)

/-! ### Transmitting (R312, R315, R317, R320) -/

/-- Codewords of a frame whose body, without its CRC, is given. -/
def toneWords (body : List Byte) : Nat := (body.length + 4) / 28

/-- Duration in µs of a frame of N codewords (R315). -/
def toneTime (n : Nat) : Nat := (72 + 160 * n) * 1000000 / 1200

/-- Header bytes of a frame (R316). -/
def State.toneHeader (s : State) (kind : Nat) (number : Byte) (body : List Byte) : List Byte :=
  natLE 1 (16 * kind + (toneWords body - 1)) ++ natLE 2 s.ownAddr ++ [number]

/-- A body filled up to whole codewords, less the 4 bytes of its CRC (R317). -/
def toneBody (l : List Byte) : List Byte := padTo (28 * ((l.length + 4 + 27) / 28) - 4) l

/-- Own airtime in µs over the last 60 s, acknowledgements excepted (R320). -/
def State.airUsed (s : State) : Nat :=
  ((s.mtl.air.filter (fun a => decide (s.time.now < a.1 + 60000000))).map Prod.snd).sum

/-- MTL_STATUS.AIR: the share of it in %. -/
def State.showAir (s : State) : State := s.setSat F.MTL_STATUS_AIR (s.airUsed / 600000)

/-- Whether the driver may transmit: the link enabled, no driver fault, no supply-loss warning (R312). -/
def State.driverOn (s : State) : Bool :=
  s.flag F.MTL_CFG_EN && !(s.flag F.MTL_STATUS_DRV_FAULT) && s.isl.supply == .normal

/-- Service order of R320: retransmissions, beacons and refresh lists, adverts, routed frames. -/
def MtlTx.order (t : MtlTx) : Nat := if t.tries = 0 then t.prio else 2

/-- The transmission that is served next. -/
def State.nextTone (s : State) : Option MtlTx :=
  s.mtl.queue.foldl (fun acc t => match acc with
    | some a => if t.order < a.order then some t else some a
    | none => some t) none

/-- CW of a transmission (R320). -/
def MtlTx.window (t : MtlTx) : Nat := min (8 * 2 ^ t.tries) 128

/-- A transmission begins: the frame leaves with its CRC-32 over header and body. -/
def State.startTone (s : State) (t : MtlTx) : State :=
  let head := s.toneHeader t.kind t.number t.body
  let s := s.emit (.mtl s.mtl.plan s.mtl.level (head ++ t.body ++ natLE 4 (crc32 (head ++ t.body))))
  let s := (s.set F.MTL_STATUS_TX 1).count F.MTL_CNT_TX_FRAMES 1
  let s := if t.tries = 0 then s else s.count F.MTL_CNT_TX_RETRIES 1
  let air := if t.kind = 2 then s.mtl.air else (s.time.now, toneTime (toneWords t.body)) :: s.mtl.air
  (s.modTone (fun m => { m with sending := some t, slots := none, counting := false, air := air })).showAir

/-- Whether nothing stands in the way of another transmission than an acknowledgement. -/
def State.toneIdle (s : State) : Bool :=
  s.driverOn && s.mtl.sending.isNone && s.mtl.awaiting.isNone && s.mtl.ack.isNone && !(s.flag F.MTL_STATUS_AIR_LIMIT)

/-- The countdown has ended: the next transmission begins, unless its airtime would exceed AIR_MAX (R320). -/
def State.accessTone (s : State) : State :=
  match s.nextTone with
  | none => s.modTone (fun m => { m with slots := none })
  | some t =>
    let limit := s.get F.MTL_TX_AIR_MAX * 600000
    if limit < s.airUsed + toneTime (toneWords t.body) then
      let s := (s.set F.MTL_STATUS_AIR_LIMIT 1).modTone (fun m => { m with slots := none, counting := false })
      s.raise { src := 117, every := 60000000 }
    else (s.modTone (fun m => { m with queue := m.queue.erase t })).startTone t

/-- PLAN and LEVEL take effect once no exchange is under way; a new plan takes every link down (R324, R330). -/
def State.toneSettle (s : State) : State :=
  if s.mtl.sending.isSome || s.mtl.awaiting.isSome || s.mtl.ack.isSome then s
  else
    let plan := s.get F.MTL_CFG_PLAN
    let old := s.mtl.plan
    let s := s.modTone (fun m => { m with plan := plan, level := s.get F.MTL_TX_LEVEL })
    if plan = old then s else (List.finRange 32).foldl (fun (s : State) j => s.linkDown (.tl j)) s

/-- The entry of a neighbour address. -/
def State.toneEntry (s : State) (addr : Nat) : Option (Fin 32) :=
  (List.finRange 32).find? (fun j => s.flag (F.MTL_NB_ID_VALID j.val) && s.get (F.MTL_NB_ID_ADDR j.val) == addr)

/-- SNR, FAIL and cost of a neighbour after a frame or an attempt (R326). -/
def State.toneQuality (s : State) (j : Fin 32) : State :=
  let s := s.setSat (F.MTL_NB_LINK_FAIL j.val) s.mtl.nbs[j].fails
  let s := match s.toneSnr j with
    | some x => s.set (F.MTL_NB_LINK_SNR j.val) (ofSigned 16 x.floor)
    | none => s
  s.newCost (.tl j) (s.toneCost j) 60000000

/-- An attempt of a data frame counted for its neighbour (R326). -/
def State.toneTried (s : State) (t : MtlTx) (failed : Bool) : State :=
  match s.toneEntry t.dest.toNat with
  | none => s
  | some j => (s.modEntry j (fun n => { n with tries := (failed :: n.tries).take 100 })).toneQuality j

/-- A data frame's attempt has failed: it is sent again, or after MAX_TRY attempts discarded with its whole
Derquan frame (R321). -/
def State.toneFail (s : State) (t : MtlTx) : State :=
  let t : MtlTx := { t with tries := t.tries + 1 }
  let s := s.toneTried t true
  if t.tries < s.get F.MTL_CFG_MAX_TRY then s.modTone (fun m => { m with queue := m.queue ++ [t] })
  else
    let s := s.count F.MTL_CNT_ARQ_EXHAUSTED 1
    match s.toneEntry t.dest.toNat with
    | some j => (s.count (F.MTL_NB_CNT_EXHAUSTED j.val) 1).raise { src := 114, every := 1000000, lim := j.val }
    | none => s.raise { src := 114, every := 1000000, lim := 32 }

/-- The driver turns off during a transmission: a data frame that is cut off has had an attempt (R312). -/
def State.toneCut (s : State) : State :=
  match s.mtl.sending with
  | none => s
  | some t =>
    let s := (s.set F.MTL_STATUS_TX 0).modTone (fun m => { m with sending := none })
    (if t.kind = 1 then s.toneFail t else s).toneSettle

/-- The driver is off and the exchange abandoned (R312, R330). -/
def State.toneAbandon (s : State) : State :=
  (s.set F.MTL_STATUS_TX 0).modTone (fun m => { m with sending := none, awaiting := none, ack := none, slots := none, counting := false })

/-- The supply-loss warning cuts a transmission off: the data frame has had its attempt, and the exchange is
abandoned (R312, R330). -/
def State.toneLoss (s : State) : State :=
  match s.mtl.sending with
  | none => s.toneAbandon
  | some t => if t.kind = 1 then (s.toneTried t true).toneAbandon else s.toneAbandon

/-- CM is fenced or reset: the driver turns off (R312). -/
def State.toneFence (s : State) : State :=
  (s.toneCut.set F.MTL_STATUS_RUN 0).modTone (fun m => { m with slots := none, counting := false })

/-- CM starts: the start count advances and is stored, and the link runs if it is enabled (R325). -/
def State.toneStart (s : State) : State :=
  (s.set F.MTL_STATUS_RUN (s.get F.MTL_CFG_EN)).modTone (fun m => { m with startCnt := m.startCnt + 1, lowCnt := 0 })

/-- A write of MTL_CFG has been taken: a change of EN takes every link down; without it nothing is sent (R324). -/
def State.toneCfg (s : State) (wasEn : Bool) : State :=
  let en := s.flag F.MTL_CFG_EN
  if en = wasEn then s.toneSettle
  else
    let s := s.set F.MTL_STATUS_RUN en.toNat
    let s := (List.finRange 32).foldl (fun (s : State) j => s.linkDown (.tl j)) s
    if en then s.toneSettle
    else (s.toneAbandon.modTone (fun m => { m with queue := [], asked := [] })).toneSettle

/-- The medium is busy: the countdown freezes (R320). -/
def execMediumBusy (s : State) : Host.Outcome State Fault Refusal :=
  .next (s.tone (fun s => (s.set F.MTL_STATUS_BUSY 1).modTone (fun m => { m with counting := false })))

/-- The medium has been idle for 30 ms: the countdown starts from a draw modulo CW, or resumes (R320). -/
def execMediumIdle (draw : Nat) (s : State) : Host.Outcome State Fault Refusal :=
  .next (s.tone (fun s =>
    let s := s.set F.MTL_STATUS_BUSY 0
    if s.toneIdle = false then s
    else match s.nextTone with
      | none => s
      | some t =>
        let r := s.mtl.slots.getD (draw % t.window)
        let s := s.modTone (fun m => { m with slots := some r, counting := true })
        if r = 0 then s.accessTone else s))

/-- A 20 ms slot has passed on an idle medium (R320). -/
def execMtlBackoffSlot (s : State) : Host.Outcome State Fault Refusal :=
  .next (s.tone (fun s =>
    match s.mtl.counting, s.mtl.slots with
    | true, some r =>
      let s := s.modTone (fun m => { m with slots := some (r - 1) })
      if r - 1 = 0 ∧ s.toneIdle = true then s.accessTone else s
    | _, _ => s))

/-- The module's airtime share has fallen below AIR_MAX (R320). -/
def execAirtimeLimitEnd (s : State) : Host.Outcome State Fault Refusal :=
  .next (s.tone (fun s =>
    if s.airUsed < s.get F.MTL_TX_AIR_MAX * 600000 then (s.set F.MTL_STATUS_AIR_LIMIT 0).showAir else s.showAir))

/-- A transmission has ended: a data frame awaits its acknowledgement (R315, R321). -/
def execMtlTransmissionEnd (s : State) : Host.Outcome State Fault Refusal :=
  .next (s.tone (fun s =>
    match s.mtl.sending with
    | none => s
    | some t =>
      let s := (s.set F.MTL_STATUS_TX 0).modTone (fun m => { m with sending := none, awaiting := if t.kind = 1 then some t else m.awaiting })
      s.toneSettle))

/-- A transmission has lasted 2.3 s: the driver turns off (R312). -/
def execMtlTransmissionCutoff (s : State) : Host.Outcome State Fault Refusal := .next (s.tone State.toneCut)

/-- A driver current limit has lasted 2 ms: the driver turns off (R312). -/
def execLineDriverFault (s : State) : Host.Outcome State Fault Refusal :=
  .next (s.tone (fun s =>
    let s := (s.set F.MTL_STATUS_DRV_FAULT 1).modTone (fun m => { m with driverOffAt := some s.time.now, slots := none, counting := false })
    (s.raise { src := 115 }).toneCut))

/-- Ten seconds after a driver fault transmission may resume (R312). -/
def execLineDriverResume (s : State) : Host.Outcome State Fault Refusal :=
  .next (s.cm (fun s => (s.set F.MTL_STATUS_DRV_FAULT 0).modTone (fun m => { m with driverOffAt := none })))

/-! ### Receiving (R319, R322, R323, R326) -/

/-- A frame received: dropped and counted unless it decodes, discarded unless it is of the kind and passes the
test; then `body` takes it (R319). -/
def State.toneRx (s : State) (r : MtlRx) (kind : Nat) (mine : Bool) (body : State → State) : State :=
  s.tone (fun s =>
    if r.decodes = false then s.count F.MTL_CNT_RX_FAILED 1
    else
      let s := s.count F.MTL_CNT_ERAS_ERASED r.erased
      if r.kind ≠ kind ∨ r.sender = 0 ∨ r.sender = 0xFFFF then s
      else if mine then body (s.count F.MTL_CNT_RX_DECODED 1) else body s)

/-- A valid frame of a neighbour: its time and its SNR (R324, R326). -/
def State.toneHeard (s : State) (j : Fin 32) (snr : Int) : State :=
  let f := match s.mtl.nbs[j].snrF with
    | some x => x + ((snr : Rat) - x) / 8
    | none => (snr : Rat)
  (s.modEntry j (fun n => { n with snrF := some f, lastAt := s.time.now })).toneQuality j

/-- A segment taken into the neighbour's set; the whole Derquan frame goes to queue 0x1B (R323). -/
def State.toneSegment (s : State) (j : Fin 32) (index count set_ : Nat) (seg : List Byte) : State :=
  let open_ : SegSet := match s.mtl.nbs[j].segs with
    | some x => if x.set_ = set_ then x else ⟨set_, count, [], s.time.now⟩
    | none => ⟨set_, count, [], s.time.now⟩
  let held := (index, seg) :: open_.held.filter (fun x => x.1 != index)
  let parts := (List.range count).filterMap (fun i => held.lookup i)
  if parts.length = count then
    let f := parts.flatten
    let s := s.modEntry j (fun n => { n with segs := none })
    s.queOffer 0x1B 4 (BitVec.ofNat 8 (fld f 1 1)) (wordsOf ((f.length + 7) / 8) f) false
  else s.modEntry j (fun n => { n with segs := some { open_ with held := held } })

/-- A data frame taken from a neighbour whose link is usable: a frame number among the last 8 accepted is
acknowledged as a duplicate and not delivered again (R321, R322). -/
def State.toneData (s : State) (r : MtlRx) (j : Fin 32) : State :=
  let number := BitVec.ofNat 8 (fld r.header 3 1)
  let idx := fld r.body 2 1 % 4
  let count := fld r.body 2 1 / 4 % 4 + 1
  let n := fld r.body 4 2
  let dup := s.mtl.nbs[j].frames.contains number
  let ack := some (BitVec.ofNat 16 r.sender, number, (if dup then 1 else 0), r.snr, r.erased)
  let s := s.modTone (fun m => { m with ack := ack })
  if dup then s.count F.MTL_CNT_ARQ_DUPLICATES 1
  else
    let s := s.modEntry j (fun x => { x with frames := (number :: x.frames).take 8 })
    if count ≤ idx ∨ r.body.length < n + 10 then s
    else s.toneSegment j idx count (fld r.body 3 1) (slice r.body 6 n)

/-- A data frame is received (R319, R321). -/
def execMtlDataFrame (rx : MtlRx) (s : State) : Host.Outcome State Fault Refusal :=
  .next (s.toneRx rx 1 (fld rx.body 0 2 == s.ownAddr) (fun s =>
    match s.toneEntry rx.sender with
    | none => s
    | some j =>
      let s := s.toneHeard j rx.snr
      if fld rx.body 0 2 ≠ s.ownAddr ∨ s.usable (.tl j) = false then s else s.toneData rx j))

/-- 20 ms after the data frame its acknowledgement is sent, without carrier sense (R321). -/
def execMtlAckSend (s : State) : Host.Outcome State Fault Refusal :=
  .next (s.tone (fun s =>
    match s.mtl.ack with
    | none => s
    | some (dest, number, result, snr, erased) =>
      if s.driverOn = false ∨ s.mtl.sending.isSome = true then s
      else
        let body := toneBody (natLE 2 dest.toNat ++ [number, result] ++ natLE 2 (ofSigned 16 snr) ++ natLE 2 (sat 16 erased))
        let n := s.mtl.number + 1
        let s := s.modTone (fun m => { m with ack := none, number := n })
        s.startTone ⟨2, 1, dest, n, body, 0, []⟩))

/-- An acknowledgement of the frame that awaits one: the next segment of its Derquan frame follows (R321, R323). -/
def State.toneAcked (s : State) (t : MtlTx) (j : Fin 32) (reported : Int) : State :=
  let s := s.modEntry j (fun n => { n with snrRep := some (reported : Rat) })
  let s := s.modTone (fun m => { m with awaiting := none })
  let s := s.toneTried t false
  match t.rest with
  | [] => s.toneSettle
  | b :: rest =>
    let n := s.mtl.number + 1
    let next : MtlTx := ⟨1, t.prio, t.dest, n, b, 0, rest⟩
    (s.modTone (fun m => { m with number := n, queue := next :: m.queue })).toneSettle

/-- An acknowledgement is received. -/
def execMtlAcknowledgement (rx : MtlRx) (s : State) : Host.Outcome State Fault Refusal :=
  .next (s.toneRx rx 2 (fld rx.body 0 2 == s.ownAddr) (fun s =>
    match s.toneEntry rx.sender with
    | none => s
    | some j =>
      let s := s.toneHeard j rx.snr
      match s.mtl.awaiting with
      | none => s
      | some t =>
        if fld rx.body 0 2 ≠ s.ownAddr ∨ t.dest.toNat ≠ rx.sender ∨ t.number.toNat ≠ fld rx.body 2 1 then s
        else s.toneAcked t j (sfld rx.body 4 2)))

/-- No acknowledgement within 250 ms of the data frame's end (R321). -/
def execMtlAckTimeout (s : State) : Host.Outcome State Fault Refusal :=
  .next (s.tone (fun s =>
    match s.mtl.awaiting with
    | none => s
    | some t => ((s.modTone (fun m => { m with awaiting := none })).toneFail t).toneSettle))

/-! ### Beacons and refresh lists (R324, R325, R329) -/

/-- The counter of the next beacon or refresh list; its high half is the stored start count (R325). -/
def State.toneCounter (s : State) : State :=
  if s.mtl.lowCnt = 0xFFFF then s.modTone (fun m => { m with lowCnt := 0, startCnt := m.startCnt + 1 })
  else s.modTone (fun m => { m with lowCnt := m.lowCnt + 1 })

/-- A beacon or a refresh list put in the queue under its tag (R325). -/
def State.toneTagged (s : State) (kind : Nat) (fields : List Byte) : State :=
  match s.segmentKey (s.get F.FAB_KEY_EPOCH_EPOCH) with
  | none => s.noKey
  | some (key, s) =>
    let n := s.mtl.number + 1
    let room := toneBody (fields ++ zeros 16)
    let tag := (hmac256 key (s.toneHeader kind n room ++ fields)).take 16
    let tx : MtlTx := ⟨kind, 3, 0xFFFF, n, toneBody (fields ++ tag), 0, []⟩
    s.modTone (fun m => { m with number := n, queue := m.queue ++ [tx] })

/-- The counter as the frames carry it. -/
def MtlS.counter32 (m : MtlS) : Nat := m.startCnt.toNat * 65536 + m.lowCnt.toNat

/-- Whether a neighbour has been heard within the time that takes a link down (R324). -/
def State.toneFresh (s : State) (j : Fin 32) : Bool :=
  s.flag (F.MTL_NB_ID_VALID j.val) &&
    decide (2 * (s.time.now - s.mtl.nbs[j].lastAt) < 7 * s.get F.MTL_TIMING_BEACON_INT * 1000000)

/-- A heard neighbour in a beacon: its address and the module's own SNR of it in 0.5 dB. -/
def State.heardEntry (s : State) (j : Fin 32) : List Byte :=
  let x := match s.mtl.nbs[j].snrF with
    | some r => (r / 2).floor
    | none => 0
  natLE 2 (s.get (F.MTL_NB_ID_ADDR j.val)) ++ natLE 1 (max 0 (min 255 x)).toNat

/-- A beacon's fields before the tag (R317). A gateway is a module with a usable fabric port. -/
def State.beaconFields (s : State) : List Byte :=
  let heard := (List.finRange 32).filter s.toneFresh
  let wants := s.mtl.wants.take 128
  let gateway := ((List.finRange 4).map Lnk.fp).any s.usable
  natLE 2 0xFFFF ++ natLE 6 s.identity ++ natLE 4 s.mtl.counter32 ++ natLE 1 (s.joined.toNat + 2 * gateway.toNat) ++
    natLE 1 heard.length ++ (heard.map s.heardEntry).flatten ++ natLE 1 wants.length ++
    (wants.map (fun h => natLE 2 h.toNat)).flatten

/-- Every BEACON_INT seconds a beacon is sent; it names the adverts that the module wants (R324, R329). -/
def execMtlBeaconSend (s : State) : Host.Outcome State Fault Refusal :=
  .next (s.tone (fun s =>
    let s := s.toneCounter
    let s := s.toneTagged 3 s.beaconFields
    s.modTone (fun m => { m with wants := m.wants.drop 128 })))

/-- Whether a beacon's or refresh list's tag holds under the segment key of the current or previous epoch. -/
def State.toneTagOk (s : State) (rx : MtlRx) (len : Nat) : Option Bool :=
  let try_ := fun e => (s.segmentKey e).map (fun k => (hmac256 k.1 (rx.header ++ rx.body.take len)).take 16 == slice rx.body len 16)
  match s.epochs.filterMap try_ with
  | [] => none
  | l => some (l.any id)

/-- An authentication failure of the sender of a beacon or refresh list (R325). -/
def State.toneAuthFail (s : State) (rx : MtlRx) : State :=
  match s.toneEntry rx.sender with
  | some j => s.authFail (.tl j)
  | none => s.raise { src := 102, unit_ := 4, every := 1000000 }

/-- The checks of a beacon or refresh list: tag, then a counter above the newest accepted from the sender. -/
def State.toneAdmit (s : State) (rx : MtlRx) (len ctr : Nat) (body : State → State) : State :=
  match s.toneTagOk rx len with
  | none => s.noKey
  | some ok =>
    let newer := match (s.toneEntry rx.sender).bind (fun j => s.mtl.nbs[j].counter) with
      | some c => decide (c.toNat < ctr)
      | none => true
    if ok && newer then body s else s.toneAuthFail rx

/-- The entry of a sender: its own, else a free one, which it takes (R324). -/
def State.toneTake (s : State) (rx : MtlRx) : Option (Fin 32 × State) :=
  match s.toneEntry rx.sender with
  | some j => some (j, s)
  | none =>
    match (List.finRange 32).find? (fun j => s.flag (F.MTL_NB_ID_VALID j.val) == false) with
    | none => none
    | some j =>
      let s := (s.modEntry j (fun _ => MtlNb.reset)).set (F.MTL_NB_ID_ADDR j.val) rx.sender
      some (j, s.set (F.MTL_NB_ID_VALID j.val) 1)

/-- What a valid beacon says: the sender's identity, whom it hears, and what it wants (R324, R326, R329). -/
def State.takeBeacon (s : State) (rx : MtlRx) : State :=
  match s.toneTake rx with
  | none => s.raise { src := 116, every := 60000000 }
  | some (j, s) =>
    let b := rx.body
    let k := fld b 13 1
    let heard := (List.range k).find? (fun i => fld b (14 + 3 * i) 2 == s.ownAddr && s.ownAddr != 0)
    let w := fld b (14 + 3 * k) 1
    let wants := (List.range w).map (fun i => (BitVec.ofNat 16 (fld b (15 + 3 * k + 2 * i) 2), j))
    let s := s.modNb (.tl j) (fun x => { x with ident := BitVec.ofNat 48 (fld b 2 6), joined := (fld b 12 1).testBit 0, heardUs := x.heardUs || heard.isSome })
    let s := s.modEntry j (fun n => { n with counter := some (BitVec.ofNat 32 (fld b 8 4)) })
    let s := match heard with
      | some i => s.modEntry j (fun n => { n with snrRep := some ((2 * fld b (16 + 3 * i) 1 : Nat) : Rat) })
      | none => s
    let s := s.modTone (fun m => { m with asked := (m.asked ++ wants).eraseDups })
    (s.toneHeard j rx.snr).tryUp (.tl j)

/-- A beacon is received. -/
def execMtlBeacon (rx : MtlRx) (s : State) : Host.Outcome State Fault Refusal :=
  .next (s.toneRx rx 3 true (fun s =>
    let k := fld rx.body 13 1
    let len := 15 + 3 * k + 2 * fld rx.body (14 + 3 * k) 1
    if rx.body.length < len + 20 then s
    else s.toneAdmit rx len (fld rx.body 8 4) (fun s => s.takeBeacon rx)))

/-- An advert of an originator identity: the module's own, or a stored one. -/
def State.advertOf (s : State) (i : BitVec 48) : Option Advert :=
  if i.toNat = s.identity then some s.ownAdvert else s.fab.db.find? (fun a => a.ident == i)

/-- Content check of an advert: CRC-16/Modbus over bytes 0 to 7 and 14 onward (R329). -/
def Advert.check (a : Advert) : Nat :=
  let b := a.bytes 0
  crc16 (b.take 8 ++ b.drop 14)

/-- An entry of a refresh list (R317). -/
def State.refreshEntry (s : State) (a : Advert) : List Byte :=
  natLE 2 a.addr.toNat ++ natLE 4 a.seq.toNat ++ natLE 1 (min 255 (s.ageOf a)) ++ natLE 2 a.check

/-- Refresh lists of at most 46 entries each, at least one. -/
def State.refreshLists (s : State) : Nat → List Advert → State
  | 0, _ => s
  | n + 1, l =>
    let part := l.take 46
    let s := s.toneCounter
    let s := s.toneTagged 4 (natLE 2 0xFFFF ++ natLE 4 s.mtl.counter32 ++ natLE 1 part.length ++
      (part.map s.refreshEntry).flatten)
    if l.length ≤ 46 then s else s.refreshLists n (l.drop 46)

/-- Every 30 s the adverts refreshed without a change are sent in a refresh list (R329). -/
def execMtlRefreshSend (s : State) : Host.Outcome State Fault Refusal :=
  .next (s.tone (fun s =>
    let l := s.mtl.refresh.filterMap s.advertOf
    (s.refreshLists 3 l).modTone (fun m => { m with refresh := [], whole := [] })))

/-- An entry of a received refresh list: a refresh of the stored advert whose check it carries, else wanted in
the next beacon (R329). -/
def State.takeRefresh (s : State) (l : Lnk) (e : List Byte) : State :=
  let orig := BitVec.ofNat 16 (fld e 0 2)
  if orig.toNat = s.ownAddr then s
  else match s.fab.db.find? (fun a => a.addr == orig && a.check == fld e 7 2) with
    | some a => s.takeAdvert { a with seq := BitVec.ofNat 32 (fld e 2 4), age := fld e 6 1, at_ := s.time.now } (some l)
    | none => s.modTone (fun m => { m with wants := if m.wants.contains orig then m.wants else m.wants ++ [orig] })

/-- A refresh list is received. -/
def execMtlRefreshList (rx : MtlRx) (s : State) : Host.Outcome State Fault Refusal :=
  .next (s.toneRx rx 4 true (fun s =>
    let m := fld rx.body 6 1
    let len := 7 + 9 * m
    if rx.body.length < len + 20 then s
    else s.toneAdmit rx len (fld rx.body 2 4) (fun s =>
      match s.toneEntry rx.sender with
      | none => s
      | some j =>
        let s := s.modEntry j (fun n => { n with counter := some (BitVec.ofNat 32 (fld rx.body 2 4)) })
        let s := s.toneHeard j rx.snr
        if s.usable (.tl j) = false then s
        else (List.range m).foldl (fun (s : State) i => s.takeRefresh (.tl j) (slice rx.body (7 + 9 * i) 9)) s)))

/-- An advert that a neighbour's want list named is sent to it whole (R329). -/
def execMtlWantedAdvertSend (orig : Half) (s : State) : Host.Outcome State Fault Refusal :=
  .next (s.tone (fun s =>
    let ask := s.mtl.asked.filter (fun x => x.1 == orig)
    let s := s.modTone (fun m => { m with asked := m.asked.filter (fun x => x.1 != orig) })
    match (s.ownAdvert :: s.fab.db).find? (fun a => a.addr == orig) with
    | none => s
    | some a =>
      ask.foldl (fun (s : State) x =>
        if s.usable (.tl x.2) then s.sendFrame (.tl x.2) 2 0 0xFFFF 0 [] (a.bytes (s.ageOf a)) else s) s))

/-! ### Timers of the neighbour table (R323, R324) -/

/-- No valid frame of a neighbour for 3.5 × BEACON_INT: its link goes down. -/
def execMtlLinkTimeout (j : Fin 32) (s : State) : Host.Outcome State Fault Refusal :=
  .next (s.cm (fun s => s.linkDown (.tl j)))

/-- An entry whose link has been down for 600 s is freed, with its counter. -/
def execMtlNeighbourFree (j : Fin 32) (s : State) : Host.Outcome State Fault Refusal :=
  .next (s.cm (fun s =>
    if s.flag (F.MTL_NB_ID_VALID j.val) = false ∨ s.flag (F.MTL_NB_ID_UP j.val) = true then s
    else
      let s := (s.toneDrop (.tl j)).modEntry j (fun _ => MtlNb.reset)
      let s := s.modTone (fun m => { m with asked := m.asked.filter (fun x => x.2 != j) })
      ((s.setReg (R.MTL_NB_ID j.val) 0).setReg (R.MTL_NB_LINK j.val) 0).setReg (R.MTL_NB_CNT j.val) 0))

/-- A partial segment set is 30 s old: it is discarded. -/
def execMtlSegmentSetTimeout (j : Fin 32) (s : State) : Host.Outcome State Fault Refusal :=
  .next (s.cm (fun s => s.modEntry j (fun n => { n with segs := none })))

/-- MTL_NB_AGE of a neighbour, computed when it is read: seconds since its last valid frame. -/
def State.toneAge (s : State) (j : Fin 32) : Nat :=
  if s.flag (F.MTL_NB_ID_VALID j.val) then sat 16 ((s.time.now - s.mtl.nbs[j].lastAt) / 1000000) else 0

/-! ### Commands (R331) -/

/-- Command 0x0A01: line noise measurement; `noise` is what the four tones measure in 1 s. -/
def execLineNoiseMeasurement (d : Desc) (noise : List Byte) (s : State) : Host.Outcome State Fault Refusal :=
  .next (s.command d { opcode := 0x0A01, priv := some 1, isl := .cm } [] (fun s => s.ok d (padTo 4 noise)))

/-- Command 0x0A02: clear quarantine of a port-4 neighbour (R287). -/
def execClearToneQuarantine (d : Desc) (s : State) : Host.Outcome State Fault Refusal :=
  .next (s.command d { opcode := 0x0A02, priv := some 1, isl := .cm, params := [(24, 2)] } [] (fun s =>
    match s.toneEntry (d.n 24 2) with
    | some j => (s.endQuarantine (.tl j)).ok d []
    | none => s.ok d []))

end Sys2Proof.Machine
end

