-- ==== Sys2Proof/Machine/Update.lean ====
section
/-! DEFINITION. Engine images and firmware update: slots, containers, loading, settings formats, activation,
steps, the catch window, commit, fallback and revert (chapter 15, R383 to R400). -/

namespace Sys2Proof.Machine

/-! ### Engines, groups and slots (R17, R389) -/

/-- The island of an engine (R17). -/
def engineIsl (e : Nat) : Isl :=
  if e < 2 then .ma else if e < 4 then .mb else if e < 6 then .mc else if e < 8 then .vl else if e < 12 then .ap
  else if e < 14 then .cm else if e < 16 then .pt else if e = 16 then .sf else if e = 17 then .ks
  else if e = 18 then .pw else .mg

/-- The group of an open-part engine (R389). -/
def groupOf (e : Nat) : Nat := if e < 12 then 1 else if e < 14 then 2 else if e < 16 then 3 else e - 12

/-- The groups. -/
def groupList : List Nat := [1, 2, 3, 4, 5, 6, 7]

/-- The open-part engines. -/
def openEngines : List (Fin 20) := (List.finRange 20).filter (fun e => decide (8 ≤ e.val))

/-- The engines of a group. -/
def groupEngines (g : Nat) : List (Fin 20) := openEngines.filter (fun e => groupOf e.val == g)

/-- The island of a group's engines. -/
def groupIsl (g : Nat) : Isl :=
  match groupEngines g with
  | e :: _ => engineIsl e.val
  | [] => .mg

/-- Index of a slot, A being 0 and B 1: the model's key of what the slot holds. -/
def slotIdx (g slot : Nat) : Nat := 2 * (g - 1) + slot

/-- The state field of a slot. -/
def slotFld (g slot : Nat) : Fld := if slot = 0 then F.UPD_SLOT_STATE_A g else F.UPD_SLOT_STATE_B g

/-- The active slot of a group. -/
def State.activeSlot (s : State) (g : Nat) : Nat := if s.get (slotFld g 0) = 3 then 0 else 1

/-- The state with the update engine's part changed. -/
def State.modUpd (s : State) (f : UpdS → UpdS) : State := { s with upd := f s.upd }

/-! ### Manifests (R391) -/

/-- Length of a manifest. -/
def manifestLen (m : List Byte) : Nat := 24 + 64 * fld m 6 2 + 12 * fld m 16 2

/-- Image entries of a manifest, each with its engine. -/
def manifestEntries (m : List Byte) : List (Fin 20 × List Byte) :=
  (List.range (fld m 6 2)).map (fun i => let e := slice m (24 + 64 * i) 64; (Fin.ofNat 20 (fld e 0 1), e))

/-- Matrix entries of a manifest. -/
def matrixRows (m : List Byte) : List (List Byte) :=
  (List.range (fld m 16 2)).map (fun i => slice m (24 + 64 * fld m 6 2 + 12 * i) 12)

/-- The image entries that a group's slot holds; a slot never written holds the factory images (log 32). -/
def State.slotEntries (s : State) (g slot : Nat) : List (Fin 20 × List Byte) :=
  match s.upd.manifests.lookup (slotIdx g slot) with
  | some m => (manifestEntries m).filter (fun e => groupOf e.1.val == g)
  | none => (groupEngines g).map (fun e => (e, Config.factoryEntry e.val))

/-- The constraints that a group's slot puts on its own new images. -/
def State.slotRows (s : State) (g slot : Nat) : List (List Byte) :=
  match s.upd.manifests.lookup (slotIdx g slot) with
  | some m => (matrixRows m).filter (fun r => groupOf (fld r 0 1) == g)
  | none => []

/-- Whether the countersignature that an enrolled integrator key asks for is there (R392). -/
def State.countersigned (s : State) (g slot : Nat) : Bool :=
  s.get F.KEY_INTEG_INDEX == 0 ||
  (match s.upd.manifests.lookup (slotIdx g slot) with
   | none => true
   | some m => m.length == manifestLen m + 296 && Config.sha384 (slice m (manifestLen m + 96) 97) == nth s.key.hashes 0 [])

/-- Whether a stored image may be loaded: it has an entry, its security version is at least the floor, and a
countersignature is there where one is required (R383). -/
def State.loadable (s : State) (e : Fin 20) (slot : Nat) : Bool :=
  let g := groupOf e.val
  match (s.slotEntries g slot).lookup e with
  | some x => decide (s.get (F.UPD_ENG_STAT_SEC_FLOOR e.val) ≤ fld x 8 2) && s.countersigned g slot
  | none => false

/-! ### Settings and their formats (R397, R422) -/

/-- The bits of a register that are settings (R422). -/
def settingMask (off : Nat) : Nat :=
  if blockOf off = 1 ∨ off = R.LSW_CMD ∨ off = R.KEY_SLOT_SEL ∨ (0xC0000 ≤ off ∧ off < 0xD0000) then 0
  else match regAt off with
    | none => 0
    | some d =>
      let m := ((d.fields.filter (fun f => f.ty == .rw || f.ty == .rws)).map (fun f => 2 ^ (f.hi + 1) - 2 ^ f.lo)).sum
      if off = R.LDP_CTRL then m % 2 ^ 31 else m

/-- A register value with the bits of a mask taken from another value. -/
def mixBits (w new : Word) (mask : Nat) : Word := (w &&& ~~~(BitVec.ofNat 32 mask)) ||| (new &&& BitVec.ofNat 32 mask)

/-- The settings that an island serves, as they stand. -/
def State.settingsOf (s : State) (i : Isl) : List (Nat × Word) :=
  s.regs.filter (fun r => islAt r.1 == i && settingMask r.1 != 0)

/-- An island's settings replaced: by a copy, or where the copy has none by the values at first start. -/
def State.putSettings (s : State) (i : Isl) (copy : List (Nat × Word)) : State :=
  { s with regs := s.regs.map (fun r =>
      if islAt r.1 = i then (r.1, mixBits r.2 ((copy.lookup r.1).getD (resetAt r.1)) (settingMask r.1)) else r) }

/-- The format of a group's settings copy; the factory images' until an image converts it. -/
def State.format (s : State) (g : Nat) : Nat :=
  match s.upd.fmts.lookup g with
  | some f => f
  | none => match groupEngines g with
    | e :: _ => fld (Config.factoryEntry e.val) 2 2
    | [] => 0

/-- The state with the format of a group's copy. -/
def State.setFormat (s : State) (g f : Nat) : State :=
  s.modUpd (fun u => { u with fmts := (g, f) :: u.fmts.filter (fun x => x.1 != g) })

/-- An entry of the non-legal event log: group, image's format, copy's format and cause (R397, log 34). -/
def State.eventEntry (s : State) (bytes : List Byte) : State :=
  let p : StorePkt := ⟨3, 0xFF, bytes⟩
  { s with bil := { s.bil with store := s.bil.store ++ [p] } }

/-- A starting image reads its group's settings: its own format; an older one, which it converts beside the old
copy; an old copy that a fallback image reads; else its defaults. Answers UPD_ENG_STAT's SETTINGS (R397). -/
def State.readSettings (s : State) (g fmt : Nat) : Nat × State :=
  let own := s.format g
  let i := groupIsl g
  if fmt = own then (0, s)
  else if own < fmt then
    let s := if (s.upd.oldFmts.lookup g).isSome then s else
      s.modUpd (fun u => { u with oldFmts := (g, own) :: u.oldFmts, oldRegs := (g, s.settingsOf i) :: u.oldRegs })
    (1, s.setFormat g fmt)
  else
    let old := s.upd.oldFmts.lookup g
    let copy := (s.upd.oldRegs.lookup g).getD []
    let s := s.modUpd (fun u => { u with oldFmts := u.oldFmts.filter (fun x => x.1 != g), oldRegs := u.oldRegs.filter (fun x => x.1 != g) })
    match old with
    | some o =>
      if o ≤ fmt then ((if o = fmt then 0 else 1), (s.putSettings i copy).setFormat g fmt)
      else (2, ((((s.putSettings i []).setFormat g fmt).raise { src := 134, unit_ := g })).eventEntry
        (natLE 1 g ++ natLE 2 fmt ++ natLE 2 o ++ natLE 1 1))
    | none => (2, ((((s.putSettings i []).setFormat g fmt).raise { src := 134, unit_ := g })).eventEntry
        (natLE 1 g ++ natLE 2 fmt ++ natLE 2 own ++ natLE 1 1))

/-! ### Loading (R383, R384) -/

/-- An engine loaded from a slot: its registers, and its settings read (R383, R397). -/
def State.loadEngine (s : State) (e : Fin 20) (slot : Nat) (trial : Bool) (boot : Nat) : State :=
  let g := groupOf e.val
  let x := ((s.slotEntries g slot).lookup e).getD []
  let (code, s) := s.readSettings g (fld x 2 2)
  let s := (s.set (F.UPD_ENG_VER_VERSION e.val) (fld x 4 4)).set (F.UPD_ENG_STAT_SETTINGS e.val) code
  let s := (s.set (F.UPD_ENG_STAT_HEALTHY e.val) 0).set (F.UPD_ENG_STAT_TRIAL e.val) trial.toNat
  let s := (s.set (F.UPD_ENG_STAT_SLOT e.val) slot).set (F.UPD_ENG_STAT_BOOT e.val) boot
  s.setBit F.MG_BOOT_STATUS_HELD (e.val - 8) false

/-- An engine held for want of a valid image: its memory cleared, HELD set, its island in state 0b11 (R384, R419). -/
def State.holdEngine (s : State) (e : Fin 20) : State :=
  let s := (s.set (F.UPD_ENG_VER_VERSION e.val) 0).set (F.UPD_ENG_STAT_BOOT e.val) 2
  let s := (s.set (F.UPD_ENG_STAT_HEALTHY e.val) 0).set (F.UPD_ENG_STAT_TRIAL e.val) 0
  (s.setBit F.MG_BOOT_STATUS_HELD (e.val - 8) true).setIsl (engineIsl e.val) 3

/-- An engine loaded at a start, a reset or a fallback: from the active slot, else from the other one if that is
active or previous, with EV133; else held, with EV133 (R384). -/
def State.startEngine (s : State) (e : Fin 20) : State :=
  let g := groupOf e.val
  let a := s.activeSlot g
  let b := 1 - a
  let other := s.get (slotFld g b)
  if s.loadable e a then (s.loadEngine e a false 1).set (F.UPD_SLOT_RUN g) a
  else if (other = 3 ∨ other = 4) ∧ s.loadable e b = true then
    ((s.loadEngine e b false 3).set (F.UPD_SLOT_RUN g) b).raise { src := 133, unit_ := e.val }
  else (s.holdEngine e).raise { src := 133, unit_ := e.val }

/-- The partner links of PT end: a session in Transferring over a digital protocol, or a coupling generation above
1, must resume (R308, R386, R396). -/
def State.relink (s : State) : State :=
  points.foldl (fun (s : State) p =>
    let proto := s.get (F.TPT_STATE_PROTO p.val)
    if s.sess p = 5 ∧ proto ≠ 1 ∧ proto ≠ 0x11 then s.modSx p (fun x => { x with adopted := true }) else s) s

/-! ### Receipt and staging (R393) -/

/-- Whether MG serves the update: it runs, or it is in recovery mode (R384). -/
def State.mgUp (s : State) : Bool :=
  s.running .mg || (s.islState .mg == 3 && s.flag F.MG_BOOT_STATUS_RECOVERY)

/-- Whether a set of groups may be updated now: in recovery mode only group 0x7 (R384). -/
def State.groupsServed (s : State) (gs : List Nat) : Bool := s.running .mg || gs.all (· == 7)

/-- The idle state that UPD_STATUS shows: 1 while some slot is staged. -/
def State.updRest (s : State) : Nat :=
  if groupList.any (fun g => s.get (slotFld g 0) == 1 || s.get (slotFld g 1) == 1) then 1 else 0

/-- Whether an update is in progress. -/
def State.updating (s : State) : Bool := decide (2 ≤ s.get F.UPD_STATUS_STATE)

/-- Internal address of the incoming area, 8 MiB (R389). -/
def incomingBase : Nat := boathouseBase + 0x01C00000

/-- Command 0x0801: receive a container part (R393). -/
def execReceiveContainerPart (d : Desc) (s : State) : Host.Outcome State Fault Refusal :=
  .next (s.command d { opcode := 0x0801, priv := some 4, isl := .mg, params := [(24, 4), (28, 4)], staged := .len 4 524288 false, load := true }
    [(28, decide (0x800000 < d.n 28 4))] (fun s =>
      let off := d.n 24 4
      let n := d.n 16 4
      let total := if off = 0 then d.n 28 4 else s.upd.total
      if off ≠ 0 ∧ off ≠ s.reg R.UPD_INCOMING then s.complete d 0x0002 24 []
      else if total < off + n then s.complete d 0x0002 16 []
      else
        let s := (s.modUpd (fun u => { u with total := total })).store (incomingBase + off) (s.staged d)
        (s.setReg R.UPD_INCOMING (off + n)).ok d (natLE 4 (off + n))))

/-- Room that an encrypted image takes in a container (R390). -/
def imageRoom (e : List Byte) : Nat := (12 + fld e 12 4 + 16 + 15) / 16 * 16

/-- Check 2 of R393: magics, formats and lengths of the container `c` of `total` bytes (R390, R391). -/
def containerOk (c : List Byte) (total : Nat) : Bool :=
  let m := c.drop 96
  let g := fld m 6 2
  fld c 0 4 == 0x43524144 && fld c 4 2 == 1 && decide (fld c 6 2 < 2) && fld c 8 4 == total && decide (total ≤ 0x800000) &&
  fld m 0 4 == 0x464E414D && fld m 4 2 == 1 && decide (1 ≤ g) && decide (g ≤ 12) && decide (fld m 16 2 ≤ 128) &&
  fld c 12 4 == manifestLen m &&
  (manifestEntries m).all (fun e => decide (4 ≤ fld e.2 12 4) && decide (fld e.2 12 4 ≤ 262144)) &&
  total == 192 + manifestLen m + 200 * (fld c 6 1 % 2) + ((manifestEntries m).map (fun e => imageRoom e.2)).sum

/-- Check 3 of R393: engines from 8 to 19, each under its group. -/
def enginesOk (m : List Byte) : Bool :=
  (List.range (fld m 6 2)).all (fun i =>
    let e := fld m (24 + 64 * i) 1
    decide (8 ≤ e) && decide (e ≤ 19) && fld m (25 + 64 * i) 1 == groupOf e)

/-- Command 0x0802: stage the received container (R393). `unwrapOk` is KS's unwrap of the content key. An update in
progress for a group it names refuses it with status 0x0007 (R399, log 35). -/
def execStageContainer (d : Desc) (unwrapOk : Bool) (s : State) : Host.Outcome State Fault Refusal :=
  .next (s.command d { opcode := 0x0802, priv := some 4, isl := .mg, load := true } [] (fun s =>
    let n := s.reg R.UPD_INCOMING
    let head := memRead s.mem (incomingBase + 96) 24
    let m := memRead s.mem (incomingBase + 96) (min (manifestLen head + 296) 0x800000)
    let c := memRead s.mem incomingBase 96 ++ m
    let gs := groupList.filter (fun g => (manifestEntries m).any (fun e => groupOf e.1.val == g))
    let busy := s.updating && gs.any (fun g => s.upd.groups.toNat.testBit g)
    let slot := s.get F.UPD_CFG_FLEET_SLOT
    let fleet := (s.mayUse 19 slot 2).filter (fun k => k.type_ == 2)
    match firstFail [(n != 0 && n == s.upd.total, 0x0008, 1), (containerOk c n, 0x0008, 2), (enginesOk m, 0x0008, 3),
        (!busy && s.groupsServed gs, 0x0007, 0), (fleet.isSome, 0x0008, 5), (unwrapOk, 0x0008, 6)] with
    | some (st, det) => s.complete d st det []
    | none =>
      let keep := m.take (manifestLen m + 96 + 200 * (fld c 6 1 % 2))
      let s := s.countUse slot
      let s := gs.foldl (fun (s : State) g =>
        let b := 1 - s.activeSlot g
        let k := slotIdx g b
        (s.set (slotFld g b) 1).modUpd (fun u => { u with manifests := (k, keep) :: u.manifests.filter (fun x => x.1 != k) })) s
      let s := if s.updating then s else s.set F.UPD_STATUS_STATE 1
      (s.raise { src := 129 }).ok d (natLE 1 ((gs.map (fun g => 1 <<< g)).sum))))

/-! ### Steps and fallback (R394, R396) -/

/-- The steps of an update of groups, from their inactive slots: each container's entries in their order, the
containers in the order of their lowest group, group 0x7 last (R394). -/
def State.plan (s : State) (gs : List Nat) : List (Fin 20 × List Byte) :=
  let man := fun g => s.upd.manifests.lookup (slotIdx g (1 - s.activeSlot g))
  let all := (gs.foldl (fun (acc : List (List Byte) × List (Fin 20 × List Byte)) g =>
    match man g with
    | none => (acc.1, acc.2 ++ s.slotEntries g (1 - s.activeSlot g))
    | some m =>
      if acc.1.contains m then acc
      else (m :: acc.1, acc.2 ++ (manifestEntries m).filter (fun e =>
        gs.contains (groupOf e.1.val) && man (groupOf e.1.val) == some m))) ([], [])).2
  all.filter (fun e => e.1.val != 19) ++ all.filter (fun e => e.1.val == 19)

/-- Version of an engine once the steps of a list are done. -/
def State.versionAfter (s : State) (l : List (Fin 20 × List Byte)) (e : Nat) : Nat :=
  match l.find? (fun x => x.1.val == e) with
  | some x => fld x.2 4 4
  | none => s.get (F.UPD_ENG_VER_VERSION e)

/-- Whether, once the steps of a list are done, every constraint of their new images holds (R394). -/
def State.prefixOk (s : State) (rows : List (List Byte)) (l : List (Fin 20 × List Byte)) : Bool :=
  rows.all (fun r =>
    !(l.any (fun x => x.1.val == fld r 0 1)) ||
    (let v := s.versionAfter l (fld r 1 1); decide (fld r 4 4 ≤ v) && decide (v ≤ fld r 8 4)))

/-- The constraints of the groups' new images. -/
def State.planRows (s : State) (gs : List Nat) : List (List Byte) :=
  gs.flatMap (fun g => s.slotRows g (1 - s.activeSlot g))

/-- Whether the matrix is satisfied before and after every step. -/
def State.matrixOk (s : State) (gs : List Nat) : Bool :=
  let p := s.plan gs
  (List.range p.length).all (fun k => s.prefixOk (s.planRows gs) (p.take (k + 1)))

/-- The groups of an update's mask. -/
def maskGroups (m : Nat) : List Nat := groupList.filter m.testBit

/-- The update ends as fallen back: trial slots failed, the former active slots run, the cause recorded, EV132
(R396). -/
def State.updAbandon (s : State) (cause : Nat) : State :=
  let gs := maskGroups s.upd.groups.toNat
  let s := gs.foldl (fun (s : State) g => (s.set (slotFld g (1 - s.activeSlot g)) 5).set (F.UPD_SLOT_RUN g) (s.activeSlot g)) s
  let s := s.modUpd (fun u => { u with steps := [], at_ := 0, groups := 0, done := [], hostOk := false })
  let s := ((s.set F.UPD_STATUS_STATE s.updRest).set F.UPD_STATUS_STEP 0).set F.UPD_STATUS_LAST_RESULT cause
  s.raise { src := 132, detail := cause }

/-- The update falls back: updated engines loaded again in reverse step order under code 0x0C (R396). -/
def State.fallBack (s : State) (cause : Nat) : State :=
  if s.updating = false then s
  else
    let s := s.set F.UPD_STATUS_STATE 4
    let s := s.upd.done.foldl (fun (s : State) e => (s.noteReset 0x0C (engineIsl e.val)).startEngine e) s
    let s := if s.upd.done.any (fun e => groupOf e.val == 3) then s.relink else s
    s.updAbandon cause

/-- An island is fenced or reset: an update of one of its engines falls back (R395, R396). -/
def State.updSpoil (s : State) (i : Isl) : State :=
  if s.updating && s.upd.steps.any (fun e => engineIsl e.val == i) then s.fallBack 4 else s

/-- The checks of activation and revert: slots, points, matrix, safety outputs (R394, R398). -/
def State.activateFail (s : State) (gs : List Nat) (want : Nat) : Option (Nat × Nat) :=
  let busy := points.find? (fun p => !(restState (s.sess p)))
  firstFail [(!s.updating && s.groupsServed gs, 0x0007, 0),
    (gs.all (fun g => s.get (slotFld g (1 - s.activeSlot g)) == want), 0x0007, 0),
    (busy.isNone, 0x0007, match busy with | some p => s.sess p | none => 0),
    (s.matrixOk gs, 0x0008, 1),
    (!(gs.contains 4) || s.get F.SAF_OUT_OUT == 0, 0x0007, 0)]

/-- An update begins: the slots become trial, the steps are planned (R394). -/
def State.beginUpdate (s : State) (d : Desc) (gs : List Nat) : State :=
  let p := (s.plan gs).map Prod.fst
  let s := gs.foldl (fun (s : State) g => s.set (slotFld g (1 - s.activeSlot g)) 2) s
  let s := s.modUpd (fun u => { u with steps := p, at_ := 0, groups := BitVec.ofNat 8 ((gs.map (fun g => 1 <<< g)).sum), done := [], hostOk := false, window := s.get F.UPD_CFG_CATCH })
  ((s.set F.UPD_STATUS_STATE 2).set F.UPD_STATUS_STEP 1).ok d (natLE 1 p.length)

/-- Command 0x0803: activate (R394). -/
def execActivate (d : Desc) (s : State) : Host.Outcome State Fault Refusal :=
  let m := d.n 24 1
  .next (s.command d { opcode := 0x0803, priv := some 4, isl := .mg, params := [(24, 1)] }
    [(24, m == 0 || m.testBit 0)] (fun s =>
      match s.activateFail (maskGroups m) 1 with
      | some (st, det) => s.complete d st det []
      | none => s.beginUpdate d (maskGroups m)))

/-- Command 0x0805: revert to the previous slots (R398). -/
def execRevert (d : Desc) (s : State) : Host.Outcome State Fault Refusal :=
  let m := d.n 24 1
  let gs := maskGroups m
  .next (s.command d { opcode := 0x0805, priv := some 4, isl := .mg, params := [(24, 1)] }
    [(24, m == 0 || m.testBit 0)] (fun s =>
      let floorsOk := (s.plan gs).all (fun e => decide (s.get (F.UPD_ENG_STAT_SEC_FLOOR e.1.val) ≤ fld e.2 8 2))
      match (s.activateFail gs 4).or (if floorsOk then none else some (0x0008, 2)) with
      | some (st, det) => s.complete d st det []
      | none => s.beginUpdate d gs))

/-- A step: the engine is stopped and loaded from its trial slot (R394). `verified` says whether signature, key,
decryption and hash hold (R383); the floor, the countersignature and the matrix are checked here. -/
def execUpdateStep (verified : Bool) (s : State) : Host.Outcome State Fault Refusal :=
  if s.mgUp = false ∨ s.get F.UPD_STATUS_STATE ≠ 2 ∨ s.upd.done.length ≠ s.upd.at_ then .next s
  else match s.upd.steps[s.upd.at_]? with
    | none => .next s
    | some e =>
      let g := groupOf e.val
      let b := 1 - s.activeSlot g
      let gs := maskGroups s.upd.groups.toNat
      let p := s.plan gs
      let s := s.noteReset 0x0C (engineIsl e.val)
      if s.prefixOk (s.planRows gs) (p.take (s.upd.at_ + 1)) = false then .next (s.fallBack 2)
      else if verified = true ∧ s.loadable e b = true then
        let s := (s.loadEngine e b true 0).set (F.UPD_SLOT_RUN g) b
        .next (s.modUpd (fun u => { u with done := e :: u.done }))
      else
        let s := (s.raise { src := 133, unit_ := e.val }).modUpd (fun u => { u with done := e :: u.done })
        .next (s.fallBack 2)

/-- The update commits: trial slots active, former active ones previous, floors raised, old copies discarded,
EV131 (R395). -/
def State.commitUpdate (s : State) : State :=
  let gs := maskGroups s.upd.groups.toNat
  let s := s.upd.steps.foldl (fun (s : State) e =>
    let g := groupOf e.val
    let x := ((s.slotEntries g (1 - s.activeSlot g)).lookup e).getD []
    let floor := max (s.get (F.UPD_ENG_STAT_SEC_FLOOR e.val)) (fld x 8 2)
    (s.set (F.UPD_ENG_STAT_SEC_FLOOR e.val) floor).set (F.UPD_ENG_STAT_TRIAL e.val) 0) s
  let s := gs.foldl (fun (s : State) g =>
    let a := s.activeSlot g
    (s.set (slotFld g a) 4).set (slotFld g (1 - a)) 3) s
  let s := s.modUpd (fun u => { u with steps := [], at_ := 0, groups := 0, done := [], hostOk := false, oldFmts := [], oldRegs := [] })
  let s := (s.set F.UPD_STATUS_STATE s.updRest).set F.UPD_STATUS_LAST_RESULT 1
  s.raise { src := 131 }

/-- The commit, at the first tick at which every condition of R395 holds. -/
def State.tryCommit (s : State) : State :=
  if s.get F.UPD_STATUS_STATE = 3 ∧ s.upd.steps.all (fun e => s.flag (F.UPD_ENG_STAT_HEALTHY e.val)) = true ∧
      (s.flag F.UPD_CFG_HOST_CONF = false ∨ s.upd.hostOk = true) then s.commitUpdate
  else s

/-- The engine of the step reports running: EV130, and the next step or the catch window (R394, R395). -/
def execEngineRunningReport (e : Fin 20) (s : State) : Host.Outcome State Fault Refusal :=
  if s.mgUp = false ∨ s.get F.UPD_STATUS_STATE ≠ 2 ∨ s.upd.done.head? ≠ some e ∨ s.upd.done.length ≠ s.upd.at_ + 1 then .next s
  else
    let s := (s.set (F.UPD_ENG_STAT_BOOT e.val) 1).raise { src := 130, unit_ := e.val }
    let k := s.upd.at_ + 1
    let s := s.modUpd (fun u => { u with at_ := k })
    if k < s.upd.steps.length then .next (s.set F.UPD_STATUS_STEP (k + 1))
    else
      let s := s.modUpd (fun u => { u with openedAt := s.time.now })
      .next (((s.set F.UPD_STATUS_STATE 3).set F.UPD_STATUS_STEP 0).tryCommit)

/-- A step's engine does not report running within 10 s (R396). -/
def execUpdateStepTimeout (s : State) : Host.Outcome State Fault Refusal :=
  if s.mgUp = false ∨ s.get F.UPD_STATUS_STATE ≠ 2 ∨ s.upd.done.length ≠ s.upd.at_ + 1 then .next s
  else .next (s.fallBack 6)

/-- A running engine reports its own health (R395). -/
def execHealthReport (e : Fin 20) (s : State) : Host.Outcome State Fault Refusal :=
  let boot := s.get (F.UPD_ENG_STAT_BOOT e.val)
  if s.mgUp = false ∨ e.val < 8 ∨ (boot ≠ 1 ∧ boot ≠ 3) then .next s
  else .next ((s.set (F.UPD_ENG_STAT_HEALTHY e.val) 1).tryCommit)

/-- Command 0x0804: confirm health (R395); before the window opens it is refused (R399). -/
def execConfirmHealth (d : Desc) (s : State) : Host.Outcome State Fault Refusal :=
  .next (s.command d { opcode := 0x0804, priv := some 4, isl := .mg } [] (fun s =>
    if s.get F.UPD_STATUS_STATE ≠ 3 then s.complete d 0x0007 0 []
    else ((s.modUpd (fun u => { u with hostOk := true })).ok d []).tryCommit))

/-- The catch window ends without commit (R395, R396). -/
def execCatchWindowEnd (s : State) : Host.Outcome State Fault Refusal :=
  if s.mgUp = false ∨ s.get F.UPD_STATUS_STATE ≠ 3 then .next s else .next (s.fallBack 3)

/-- UPD_STATUS.CATCH_LEFT: whole seconds left in the catch window. -/
def State.catchLeft (s : State) : Nat :=
  if s.get F.UPD_STATUS_STATE = 3 then (s.upd.openedAt + s.upd.window * 1000000 - s.time.now + 999999) / 1000000 else 0

end Sys2Proof.Machine
end

