-- ==== Sys2Proof/Machine/Resets.lean ====
section
/-! DEFINITION. Fences, resets and starts: which registers outlive a reset, what each island loses and what it
does when it starts again, the fence of R31, module starts and the start of VL (R25 to R44, R157, R158, R169,
R385 to R388, R419 to R423). -/

namespace Sys2Proof.Machine

/-! ### Registers that outlive a reset (R388, R421, R422; log 36) -/

/-- Registers kept through every reset, a power-on reset included: those held in eMRAM or OTP. -/
def keepsAlways (off : Nat) : Bool :=
  [R.MG_RESET_CAUSE, R.MG_RESET_CNT, R.MG_PART, R.KEY_LIFE, R.KEY_CHG_LEFT, R.KEY_IDENT_LO, R.KEY_IDENT_HI, R.KEY_INTEG,
    R.KEY_RDG_KID, R.TPT_CTAB_STATUS, R.FAB_KEY_EPOCH, R.FAB_REP_SEQ, R.SAF_CFG_CRC, R.MET_CAL_ID, R.MET_CAL_CRC,
    R.MET_PFAIL_STATUS, R.VOT_CTRL, R.VOT_STATUS, R.VOT_CONFQ_LO, R.VOT_CONFQ_HI].contains off ||
  (decide (R.VOT_TOL 0 ≤ off) && decide (off ≤ R.VOT_TOL 7)) ||
  (decide (R.SAF_FUNC 0 ≤ off) && decide (off ≤ R.SAF_FUNC_MASK 5)) ||
  (decide (R.BIL_PERIOD_CFG ≤ off) && decide (off ≤ R.BIL_DEM_STAT 7)) ||
  (decide (R.TPT_STATE 0 ≤ off) && decide (off ≤ R.TPT_SESSION 7) && (off % 32 == 0 || off % 32 == 4)) ||
  (decide (R.LDP_STRESS 0 ≤ off) && decide (off ≤ R.LDP_STRESS 14)) ||
  (blockOf off == 13 && off != R.UPD_INCOMING)

/-- Bits kept through a reset that leaves the power on, by the serving island: PT, PW, SF and MG keep their
registers, VL all but LDP_CTRL.EN, the others their counters. -/
def keepsReset (off : Nat) : Nat :=
  match islAt off with
  | .pt => 2 ^ 32 - 1
  | .pw => 2 ^ 32 - 1
  | .sf => 2 ^ 32 - 1
  | .mg => 2 ^ 32 - 1
  | .vl => if off = R.LDP_CTRL then 2 ^ 31 - 1 else 2 ^ 32 - 1
  | .cm =>
    if (decide (R.FAB_PORT_ERR 0 ≤ off) && decide (off ≤ R.FAB_PORT_AUTH 3) && (off % 16 == 8 || off % 16 == 12)) ||
        off == R.FAB_DROPS || (decide (R.MTL_CNT_TX ≤ off) && decide (off ≤ R.MTL_CNT_ERAS)) ||
        (decide (R.MTL_NB_CNT 0 ≤ off) && decide (off ≤ R.MTL_NB_CNT 31) && off % 16 == 12) then 2 ^ 32 - 1
    else if off = R.FAB_DUP_STATUS ∨ off = R.MTL_ADVSET then 2 ^ 32 - 2 ^ 16
    else if off = R.FAB_PAIR_STATUS then 2 ^ 16 - 2 ^ 8
    else 0
  | .ks => if off = R.KEY_STATUS then 2 ^ 30 + 2 ^ 29 else 0
  | .hi => 0
  | .ap => 0
  | .tb => 0
  | _ => if [R.MET_CH_LINKERR 0, R.MET_CH_LINKERR 1, R.MET_CH_LINKERR 2].contains off then 2 ^ 32 - 1 else 0

/-- The bits of a register that outlive a reset of its island; `por` for a power-on reset. -/
def keptMask (por : Bool) (off : Nat) : Nat :=
  if blockOf off = 1 then 0
  else if keepsAlways off then 2 ^ 32 - 1
  else
    let land_ := if off = R.KEY_STATUS then 2 ^ 28 else if off = R.KEY_TMP_STAT then 0xF0 else 0
    settingMask off ||| land_ ||| (if por then 0 else keepsReset off)

/-- The registers of a set of islands at their reset values, but for the bits that are kept. -/
def State.resetRegs (s : State) (por : Bool) (l : List Isl) : State :=
  { s with regs := s.regs.map (fun r => if l.contains (islAt r.1) then (r.1, mixBits (resetAt r.1) r.2 (keptMask por r.1)) else r) }

/-! ### What an island loses at a reset -/

/-- A metering channel goes down: its samples, records and condition state are gone, running start tests are
aborted and every start test falls due (R68, R423). -/
def State.chanDown (s : State) (c : Fin 3) : State :=
  let s := s.setChan c { ChanS.reset with tick0 := 200 * s.time.now }
  let s := { s with met := { s.met with fieldOut := s.met.fieldOut.set c none } }
  let s := (s.setBit F.MET_STATUS_LINK_UP c.val false).setBit F.MET_STATUS_CH_RUN c.val false
  s.abortTests.dueTests

/-- VL goes down: records not resolved and captures are gone, the provisional window is withdrawn, and the voter
will catch up (R139). -/
def State.vlDown (s : State) : State :=
  let s := s.setWindow none
  let s := s.modVot (fun v => { v with arrived := [], published := [], catchUp := true })
  { s with met := { s.met with captures := [] } }

/-- AP goes down: its field buses and the packets that waited for Boathouse are gone (log 37). -/
def State.apDown (s : State) : State :=
  { s with
    met := { s.met with entries := MetS.reset.entries, busy := MetS.reset.busy, fieldOut := MetS.reset.fieldOut },
    bil := { s.bil with store := [] } }

/-- CM goes down: the driver turns off, links, routes, database and waiting frames are gone; the draw, the
command counters and the start count are kept in eMRAM. -/
def State.cmDown (s : State) : State :=
  let s := s.toneFence
  let ports := s.fab.ports.map (fun x => { FabPort.reset with phy := x.phy })
  let f : FabS := { FabS.reset with k := s.fab.k, stored := s.fab.stored, counters := s.fab.counters, ownCounter := s.fab.ownCounter, ports := ports }
  { s with
    fab := f, mtl := { MtlS.reset with startCnt := s.mtl.startCnt },
    time := { s.time with servoPpm := 0 } }

/-- What an island loses at a reset, besides its registers. -/
def State.islandDown (s : State) (i : Isl) : State :=
  match i with
  | .ma => (s.chanDown 0).resetRegs false [.ma]
  | .mb => (s.chanDown 1).resetRegs false [.mb]
  | .mc => (s.chanDown 2).resetRegs false [.mc]
  | .vl => s.vlDown.resetRegs false [.vl]
  | .ap => (s.apDown.resetRegs false [.ap]).queFenced .ap true
  | .hi => s.hiReset.queFenced .hi true
  | .cm => (s.cmDown.resetRegs false [.cm]).queFenced .cm true
  | .pt => (s.resetRegs false [.pt]).queFenced .pt true
  | .sf => (s.resetRegs false [.sf]).sfDown
  | .ks => ({ s with key := { s.key with cache := [] } }).resetRegs false [.ks]
  | .pw => s.holdAll
  | .mg => s
  | .tb => s

/-! ### Fences (R30, R31) -/

/-- The crossings to and from an island. -/
def crossingsOf (i : Isl) : List (Isl × Isl) :=
  islands.flatMap (fun p => (if hasCrossing i p then [(i, p)] else []) ++ (if hasCrossing p i then [(p, i)] else []))

/-- The other island of a crossing. -/
def partnerOf (i : Isl) (c : Isl × Isl) : Isl := if c.1 = i then c.2 else c.1

/-- An island reset (R385, R387, R420): noted, the island in state 0b10, the debug port closed, its content gone. -/
def State.islandReset (s : State) (i : Isl) (code : Nat) : State :=
  let s := (((s.updSpoil i).setIsl i 2).noteReset code i).setDebug false
  let s := if i = .vl then { s with isl := { s.isl with vlCause := code } } else s
  s.islandDown i

/-- While AP is fenced, PW drives the points in Checked or later to their safe state (R218). -/
def State.apFenced (s : State) : State :=
  if s.running .pw then (points.filter (fun p => decide (4 ≤ s.sess p) && decide (s.sess p ≤ 6))).foldl (fun (s : State) p => s.openPoint p) s
  else s

/-- A whole island fenced under R31, and reset (R420). A fence of an island that is not running is absorbed into
its reset or start (R33, R388). -/
def State.fenceIsland (s : State) (i : Isl) (code : Nat) : State :=
  if s.running i = false then s
  else
    let s := (s.setBit F.MG_ISLAND_FAULT_FENCED i.code true).raise { src := 4, unit_ := i.code }
    let new := (crossingsOf i).filter (fun c => !(s.isl.fenced.contains c))
    let s := (new.filter (fun c => s.running (partnerOf i c))).foldl (fun (s : State) _ => s.raise { src := 3, unit_ := i.code }) s
    let s := if [Isl.vl, .ap, .pt, .pw, .cm].contains i then s.pairRelease else s
    let s := match i with
      | .ma => s.fenceChan 0
      | .mb => s.fenceChan 1
      | .mc => s.fenceChan 2
      | .ap => s.apFenced
      | _ => s
    let s := s.lostCommands i
    let s := { s with isl := { s.isl with fenced := s.isl.fenced ++ new, due := i :: s.isl.due.erase i } }
    s.islandReset i code

/-! ### The start of VL (R41, R139, R157, R158, R169, R372) -/

/-- The first quantum that is metered whole after a start now. -/
def State.wholeQ (s : State) : Nat := if s.time.usInQ = 0 then s.time.quantum else s.time.quantum + 1

/-- The end readings that a supply loss or a reference fault left owing (R39, R179): each with q_r equal to q_w, or
to the newest quantum resolved. -/
def State.owedReadings (s : State) : State :=
  (points.filter (fun p => (s.sx p).waitEnd && !(s.bil.signing.any (fun r => r.1.point == p && r.1.reason == 2)))).foldl
    (fun (s : State) p =>
      let qr := if (s.sx p).qe = some s.isl.qw then s.isl.qw else s.resolved
      let s := { s with bil := { s.bil with wanted := s.bil.wanted.filter (fun r => !(r.point == p && r.reason == 2)) } }
      (s.modSx p (fun x => { x with qe := some qr })).buildReading ⟨2, p, qr, none⟩ qr s.bil.rateQ) s

/-- A demand interval that spans the outage closes as INCOMPLETE: at once when its end has passed (R158). -/
def State.spanDemands (s : State) (t1 : Nat) : State :=
  points.foldl (fun (s : State) n =>
    let d := s.bil.points[n].demand
    if d.start.isNone then s
    else if d.end_ ≤ t1 then s.closeDemand n true s.bil.rateQ
    else s.setBill n { s.bil.points[n] with demand := { d with status := d.status ||| BitVec.ofNat 32 stIncomplete } }) s

/-- Billing after a power return or a supply-loss restart: steps 2 to 5 of R156 at the first quantum metered. At
the first start no period has closed, and none does (R151). -/
def State.billRestart (s : State) (ts : Nat) (firstStart : Bool) : State :=
  let q := s.resolved
  let first := s.vot.firstQ
  let t1 := s.stamp first
  let s := (s.applySteps first t1).spanDemands t1
  let s := if firstStart then s else s.periodStep q ts t1
  let s := s.takeReadings q s.bil.rateQ
  (s.commitRate first t1).owedReadings

/-- VL starts: the power-on entry (R169), the display, and where metering had stopped the first quantum to be
metered (R158). `code` is the reset source. -/
def State.vlStart (s : State) (code : Nat) : State :=
  let stopped := code == 1 || code == 3
  let ts := match s.bil.saved with
    | some v => if v.resolved = s.resolved then v.qStart else s.stamp (s.resolved + 1)
    | none => s.stamp (s.resolved + 1)
  let first := s.wholeQ
  let s := if stopped then
      s.modVot (fun v => { v with firstQ := max first (s.resolved + 1), newest := Vector.replicate 3 (max first (s.resolved + 1) - 1), catchUp := false })
    else s
  let osc := code == 1 && s.time.oscStop
  let untrusted := code == 1 && (s.time.oscStop || s.get F.MG_RESET_CNT_STARTS == 1)
  let pend := stopped && (match s.bil.saved with
    | some v => v.pendSwitch
    | none => false)
  let pay := natLE 8 s.resolved ++ natLE 8 s.devTime ++ natLE 1 (if untrusted then 2 else s.quality) ++ natLE 1 pend.toNat ++ natLE 1 osc.toNat
  let s := s.log { type_ := 0x0001, sub := code, q := some s.nextQ, payload := pay }
  let s := if untrusted then s.setQuality 2 else s
  let s := if stopped then s.billRestart ts (code == 1 && s.get F.MG_RESET_CNT_STARTS == 1) else s
  let s := if stopped then { s with bil := { s.bil with saved := none }, time := { s.time with oscStop := s.time.oscStop && code == 3 } } else s
  let s := if stopped then s.restoreStress else s
  (((s.displayRestart.set F.LDP_CTRL_EN 1).set F.LDP_STATUS_DISCH 0).displayEn true)

/-! ### Starts of the other islands -/

/-- AP restarts: a session recorded in Transferring is adopted (R308, R386), an earlier one ends as if the partner
were absent, and one that ends goes on. -/
def State.apStart (s : State) : State :=
  let s := points.foldl (fun (s : State) p =>
    match s.tpt.recorded[p].toNat with
    | 1 => s.sessAbsent p
    | 2 => s.sessAbsent p
    | 3 => s.sessAbsent p
    | 4 => s.sessAbsent p
    | 5 =>
      let proto := s.get (F.TPT_STATE_PROTO p.val)
      let s := s.modSx p (fun x => { x with partner := true, adopted := proto != 1 && proto != 0x11 })
      ((s.claimIm p).closePoint p).showPilot p
    | 6 => ((s.claimIm p).sessTryEnd p).showPilot p
    | _ => (s.showPilot p).leaveIfAbsent p) s
  s.nextBound

/-- KS's hardware at a start: the root generated at the first start, or checked. A failed health test, or a fuse that
does not verify, leaves the root ungenerated (R338, R339). -/
def State.rootStart (s : State) (healthOk : Bool) : State :=
  if s.flag F.KEY_LIFE_ROOT_SET then s.keyShow
  else if healthOk = false then ((s.set F.KEY_STATUS_TRNG_FAIL 1).raise { src := 122 }).keyShow
  else if 0 < s.key.badFuses then
    let s := { s with key := { s.key with badFuses := s.key.badFuses - 1 } }
    ((s.set F.KEY_STATUS_ROOT_FAULT 1).raise { src := 122 }).keyShow
  else
    let (n, s) := s.fresh
    let s := { s with key := { s.key with root := some (padTo 32 (Config.drbg n)) } }
    let s := (s.set F.KEY_LIFE_ROOT_SET 1).set F.MG_BOOT_STATUS_FIRST_START 1
    (s.raise { src := 122 }).keyShow

/-- At a later start of KS a root that could not be generated is tried again (R338); whether the health tests pass is a
free value. -/
def State.rootRetry (s : State) : State :=
  if s.flag F.KEY_LIFE_ROOT_SET then s
  else
    let (n, s) := s.fresh
    ((s.set F.KEY_STATUS_TRNG_FAIL 0).set F.KEY_STATUS_ROOT_FAULT 0).rootStart (Config.entropyOk n)

/-- KS restarts: the wrapped store restored, expiry slots gone, the selection 0; a tamper input that stands active
is accepted (R341, R342, R347, R386). -/
def State.ksStart (s : State) : State :=
  let s := { s with key := { s.key with slots := s.key.store, cache := [] } }
  let s := (s.set F.KEY_SLOT_SEL_SLOT 0).keyShow
  (List.finRange 4).foldl (fun (s : State) n =>
    if s.bit F.KEY_TMP_STAT_LEVEL n.val = true ∧ s.bit F.KEY_TMP_CFG_EN n.val = true ∧ s.key.spent.toNat.testBit n.val = false
    then s.tamper n else s) s

/-- PW restarts: AP reclaims the channels of the sessions it carries on (R217). -/
def State.pwStart (s : State) : State :=
  if s.running .ap then (points.filter (fun p => s.sess p == 5)).foldl (fun (s : State) p => s.closePoint p) s else s

/-- What an island does when its start is complete. -/
def State.islandUp (s : State) (i : Isl) : State :=
  match i with
  | .ma => s.unfenceChan 0
  | .mb => s.unfenceChan 1
  | .mc => s.unfenceChan 2
  | .vl => s.vlStart s.isl.vlCause
  | .ap => ((s.queFenced .ap false).queOwnerReset .ap).apStart
  | .hi => (s.queFenced .hi false).queOwnerReset .hi
  | .cm => ((((s.queFenced .cm false).queOwnerReset .cm).startDraw).toneStart).toneSettle
  | .pt => ((s.queFenced .pt false).queOwnerReset .pt).relink
  | .sf => s.sfUp
  | .ks => s.ksStart
  | .pw => s.pwStart
  | .mg => s
  | .tb => s

/-- The open-part engines of an island. -/
def enginesOf (i : Isl) : List (Fin 20) := openEngines.filter (fun e => engineIsl e.val == i)

/-- Whether an engine is held (R384). -/
def State.held (s : State) (e : Fin 20) : Bool := s.bit F.MG_BOOT_STATUS_HELD (e.val - 8)

/-- READY, BOOT_TIME and EV135, once every island runs or is held (R382, R419). -/
def State.checkReady (s : State) : State :=
  let done := islands.all (fun i => s.islState i == 0 || s.islState i == 1 || (s.islState i == 3 && (enginesOf i).any s.held))
  if s.flag F.MG_BOOT_STATUS_READY = true ∨ done = false then s
  else
    let s := (s.set F.MG_BOOT_STATUS_READY 1).setSat F.MG_BOOT_STATUS_BOOT_TIME ((s.time.now - s.isl.startAt) / 10000)
    s.raise { src := 135, unit_ := s.get F.MG_RESET_CAUSE_START_SRC }

/-! ### Module starts (R385) -/

/-- The islands that a module start reaches, by its code. -/
def startReach (code : Nat) : List Isl :=
  if code = 3 then [.ma, .mb, .mc, .vl, .ap, .hi, .cm, .pt, .ks, .pw, .mg] else [.ap, .hi, .cm, .pt, .ks, .pw, .mg]

/-- The records that a module start opens: its source and count, island resets from 0, BOOT_STATUS clear. -/
def State.startRecords (s : State) (code : Nat) : State :=
  let s := (s.set F.MG_RESET_CAUSE_START_SRC code).count F.MG_RESET_CNT_STARTS 1
  let s := ((s.set F.MG_RESET_CNT_ISL_RESETS 0).set F.MG_RESET_CAUSE_ISL_SRC 0).set F.MG_RESET_CAUSE_ISLAND 0
  let s := s.setReg R.MG_BOOT_STATUS 0
  { s with isl := { s.isl with resetPend := none, resetCmd := [], startAt := s.time.now, vlCause := if code = 1 ∨ code = 3 then code else s.isl.vlCause } }

/-- A module start of code 0x02 to 0x05: a bow's release first, an update abandoned, then every island of the reach
reset (R385, R386, R396). -/
def State.moduleStart (s : State) (code : Nat) : State :=
  let reach := startReach code
  let s := s.pairRelease
  let s := if s.updating then s.updAbandon 5 else s
  let s := s.setDebug false
  let s := s.startRecords code
  let keep := fun (c : Isl × Isl) => !(reach.contains c.1) && !(reach.contains c.2)
  let s := { s with isl := { s.isl with fenced := s.isl.fenced.filter keep, due := s.isl.due.filter (fun i => !(reach.contains i)), stalls := [] } }
  reach.foldl (fun (s : State) i => (s.setIsl i 2).islandDown i) s

end Sys2Proof.Machine
end

