-- ==== Sys2Proof/Machine/Islands.lean ====
section
/-! DEFINITION. The rows of chapter 1 and the resets and starts of chapter 15: stalls, clock monitors, watchdogs,
lockstep, scrubbing, crossings reopening, islands starting, nRESET and the reset command. -/

namespace Sys2Proof.Machine

/-! ### Crossings (R29 to R33) -/

/-- A stall on an open crossing: the crossing is fenced, and the island blamed for two within 1 ms too (R29 to
R31). -/
def State.stall (s : State) (snd rcv : Isl) (blameReceiver : Bool) : State :=
  let i := if blameReceiver then rcv else snd
  let s := (s.count F.MG_XING_STALL_COUNT 1).set F.MG_XING_STALL_LAST_ID (crossingId snd rcv)
  let s := (s.raise { src := 2, unit_ := i.code }).fault 4 i
  let s := s.raise { src := 3, unit_ := i.code }
  let recent := s.isl.stalls.filter (fun x => decide (s.time.now < x.2 + 1000))
  let s := { s with isl := { s.isl with fenced := s.isl.fenced ++ [(snd, rcv)], stalls := (i, s.time.now) :: recent } }
  if recent.any (fun x => x.1 == i) then s.fenceIsland i 0x07 else s

/-- A handshake phase is still pending 48 µs after it began (R29). -/
def execCrossingStall (snd rcv : Isl) (blameReceiver : Bool) (s : State) : Host.Outcome State Fault Refusal :=
  .next (if s.open_ snd rcv then s.stall snd rcv blameReceiver else s)

/-- The islands fenced under R31 whose crossings to every running partner are open again: EV005 (R420). -/
def State.restarted (s : State) : State :=
  let back := s.isl.due.filter (fun i => s.running i && (crossingsOf i).all (fun c => !(s.running (partnerOf i c)) || !(s.isl.fenced.contains c)))
  let s := { s with isl := { s.isl with due := s.isl.due.filter (fun i => !(back.contains i)) } }
  back.foldl (fun (s : State) i => s.raise { src := 5, unit_ := i.code }) s

/-- The records that a channel still holds are offered again (R32). -/
def State.offerAgain (s : State) (i : Isl) : State :=
  match chans.find? (fun c => chanIsl c == i) with
  | some c => s.setChan c { s.met.chans[c] with offered := s.met.chans[c].kept.length }
  | none => s

/-- A fenced crossing reopens: both islands run, and both sides have rested for 16 cycles (R32). -/
def State.reopen (s : State) (snd rcv : Isl) : State :=
  if s.isl.fenced.contains (snd, rcv) && s.running snd && s.running rcv then
    let s := { s with isl := { s.isl with fenced := s.isl.fenced.filter (fun c => c != (snd, rcv)) } }
    if rcv = .vl then s.offerAgain snd else s
  else s

/-- A fenced crossing reopens (R32). -/
def execCrossingReopen (snd rcv : Isl) (s : State) : Host.Outcome State Fault Refusal :=
  .next (s.reopen snd rcv).restarted

/-! ### Clocks (R38, R39) -/

/-- The watcher of an island's clock (R38). -/
def watcher : Isl → Isl
  | .ma => .mb | .mb => .mc | .mc => .ma | .vl => .sf | .ap => .mg | .hi => .mg | .cm => .ap | .pt => .ap
  | .sf => .vl | .ks => .mg | .pw => .sf | .mg => .ap | .tb => .mg

/-- A clock monitor reports an island's clock (R38). TB has no PLL: its report is that of R39. Under a reference
fault nothing is fenced. -/
def execClockMonitorFault (i : Isl) (remote : Bool) (s : State) : Host.Outcome State Fault Refusal :=
  .next (
    if i = .tb ∨ (remote = true ∧ s.running (watcher i) = false) then s
    else
      let s := s.setBit (if remote then F.MG_CLKMON_STATUS_REMOTE else F.MG_CLKMON_STATUS_LOCAL) i.code true
      let s := (s.raise { src := 6, unit_ := i.code }).fault 3 i
      if s.refFault then s else s.fenceIsland i 0x07)

/-- A reference fault (R39): billing is held, the safety outputs and the load switches go off, and every session
ends. It lasts until a power-on reset. -/
def State.referenceFault (s : State) : State :=
  let s := (s.set F.MG_CLKMON_STATUS_REF_FAULT 1).fault 3 .tb
  let s := (s.raise { src := 11 }).setQuality 2
  let s := s.setCh false { s.saf.chA with mode := .safeFault }
  let s := s.setCh true { s.saf.chB with mode := .safeFault }
  let s := (s.drive false).safSettle
  let s := (lsChans.filter s.lsOn).foldl (fun (s : State) n => s.turnOff n) s
  s.ap (fun s => points.foldl (fun (s : State) p => s.sessSafety p) s)

/-- TB finds the 25 MHz reference wrong (R39). -/
def execReferenceFault (s : State) : Host.Outcome State Fault Refusal :=
  .next (if s.refFault = true ∨ s.running .tb = false then s else s.referenceFault)

/-! ### Watchdogs, lockstep, memory (R40 to R42) -/

/-- An island's watchdog expires, with the engine that was not serviced longest (R40). SF's expiry is a safety
channel discrepancy too (R223). -/
def execWatchdogExpiry (engine : Fin 20) (s : State) : Host.Outcome State Fault Refusal :=
  let i := engineIsl engine.val
  .next (
    if s.running i = false then s
    else
      let s := (s.setBit F.MG_WDT_STATUS_EXPIRED engine.val true).raise { src := 7, unit_ := i.code }
      let s := if i = .sf then s.safFault 6 0xF 0xF else s
      (s.fault 5 i).fenceIsland i 0x06)

/-- The cores of E06 differ: VL is fenced at once (R41). -/
def execLockstepError (s : State) : Host.Outcome State Fault Refusal :=
  .next (
    if s.running .vl = false then s
    else
      let s := (s.count F.MG_FAULT_LAST_LOCKSTEP 1).raise { src := 8, unit_ := Isl.code .vl }
      (s.fault 1 .vl).fenceIsland .vl 0x09)

/-- VL completes its restart and reopens its crossings to every running partner (R41). -/
def execVlRestart (s : State) : Host.Outcome State Fault Refusal :=
  .next (
    if s.islState .vl ≠ 2 then s
    else
      let s := (s.setIsl .vl 0).vlStart s.isl.vlCause
      let s := (crossingsOf .vl).foldl (fun (s : State) c => s.reopen c.1 c.2) s
      s.restarted.checkReady)

/-- A read of memory by the scrubber, or by the island itself, meets an error (R42). -/
def execScrubRead (i : Isl) (mem : Fin 4) (word : BitVec 24) (err : EccErr) (legalCopy : Bool) (s : State) :
    Host.Outcome State Fault Refusal :=
  let last := fun (s : State) (ue : Nat) =>
    s.setReg R.MG_ECC_LAST (ue <<< 31 + i.code <<< 27 + mem.val <<< 24 + word.toNat)
  .next (
    if s.running i = false then s
    else match err with
      | .none => s
      | .single => ((last s 0).count F.MG_ECC_COUNT_CORR 1).raise { src := 9, unit_ := i.code, every := 1000000, whole := true }
      | .double =>
        let s := (((last s 1).count F.MG_ECC_COUNT_UNCORR 1).raise { src := 10, unit_ := i.code }).fault 6 i
        if legalCopy = true ∧ i = .vl ∧ mem = 3 then s else s.fenceIsland i 0x08)

/-! ### Starts (R382 to R384, R419, R420) -/

/-- An island's start is complete: its engines loaded and verified, or the island held; an engine that an update step
has loaded runs on from its trial slot (R383, R384, R394, R419). -/
def State.startIsland (s : State) (i : Isl) : State :=
  let s := if i = .ks ∧ s.islState i = 2 then s.rootRetry else s
  let trial := fun (s : State) (e : Fin 20) => s.updating && s.flag (F.UPD_ENG_STAT_TRIAL e.val)
  let s := (enginesOf i).foldl (fun (s : State) e => if trial s e then s else s.startEngine e) s
  if (enginesOf i).any s.held then
    let s := s.setIsl i 3
    if i = .mg then s.set F.MG_BOOT_STATUS_RECOVERY 1 else s
  else
    let s := if i = .mg then s.set F.MG_BOOT_STATUS_RECOVERY 0 else s
    let s := (s.setIsl i 0).islandUp i
    let mine := s.isl.resetCmd.filter (fun x => x.1 == i)
    let s := { s with isl := { s.isl with resetCmd := s.isl.resetCmd.filter (fun x => x.1 != i) } }
    mine.foldl (fun (s : State) x => s.ok x.2 []) s

/-- An island's start is complete. Nothing starts while the power-on reset is asserted, nor once a supply-loss
warning has stopped a start (R388). -/
def execIslandStartComplete (i : Isl) (s : State) : Host.Outcome State Fault Refusal :=
  .next (
    if s.get F.MG_RESET_CAUSE_START_SRC = 0 ∨ (s.islState i ≠ 2 ∧ s.islState i ≠ 3) ∨
        (s.flag F.MG_BOOT_STATUS_READY = false ∧ s.isl.supply ≠ .normal) ∨ (s.islState i = 3 ∧ (enginesOf i).any s.held = true) then s
    else (s.startIsland i).checkReady)

/-! ### Resets (R385 to R387) -/

/-- nRESET has been low for 10 µs (R385). -/
def execNreset (s : State) : Host.Outcome State Fault Refusal :=
  .next (if s.get F.MG_RESET_CAUSE_START_SRC = 0 then s else s.moduleStart 2)

/-- Islands that the reset command may name (R387). -/
def resetNamed (code : Nat) : Option Isl :=
  match code with
  | 4 => some .ap | 6 => some .cm | 7 => some .pt | 9 => some .ks | 10 => some .pw | 11 => some .mg | _ => none

/-- Command 0x0C01: reset the module, which follows 1 ms after its completion, or one island (R387). -/
def execResetModuleOrIsland (d : Desc) (s : State) : Host.Outcome State Fault Refusal :=
  let one := d.n 24 1 == 1
  .next (s.command d { opcode := 0x0C01, priv := some 1, isl := .mg, params := [(24, 1), (25, 1)] }
    [(24, decide (1 < d.n 24 1)), (25, one && (resetNamed (d.n 25 1)).isNone)] (fun s =>
      if one then
        match resetNamed (d.n 25 1) with
        | none => s
        | some i =>
          let s := { s with isl := { s.isl with resetCmd := s.isl.resetCmd ++ [(i, d)] } }
          (s.lostCommands i).islandReset i 0x0A
      else
        let code := match d.src with
          | .sq _ => 4
          | .fabric _ => 5
        ({ s with isl := { s.isl with resetPend := some code } }).ok d []))

/-- The commanded module reset, 1 ms after the command's completion (R387). -/
def execModuleResetExecute (s : State) : Host.Outcome State Fault Refusal :=
  .next (match s.isl.resetPend with
    | none => s
    | some code => s.moduleStart code)

end Sys2Proof.Machine
end

