-- ==== Sys2Proof/Machine/Supply.lean ====
section
/-! DEFINITION. The supply: the supply-loss warning, the save and the restart (R74 to R77, R157, R179), the Shell
temperature (R408), undervoltage of VFIELD (R215), and the power-on reset with what power return restores (R158,
R381, R382). -/

namespace Sys2Proof.Machine

/-! ### The warning (R74, R76) -/

/-- The quantum in progress ends short in every running channel (R76); a quantum still being computed is finished
first. -/
def State.shortClose (s : State) : State :=
  (chans.filter (fun c => s.running (chanIsl c))).foldl
    (fun (s : State) c => (s.completeChan c).closeChan c true (200 * s.time.now)) s

/-- The points in Transferring at a warning: switches to the safe state, the session recorded as ending with reason
0x26, its end reading with q_e = q_w after the restart (R179). -/
def State.warnSessions (s : State) : State :=
  s.ap (fun s => (points.filter (fun p => s.sess p == 5)).foldl (fun (s : State) p =>
    ((s.openPoint p).modSx p (fun x => { x with waitEnd := true, qe := some s.isl.qw })).enter p 6 0x26) s)

/-- What a warning stops besides metering: the display discharges (R370), the line driver turns off (R312), and a
bow releases (R307). -/
def State.warnOutputs (s : State) : State :=
  let s := if s.rail = 0 then s else s.fastDischarge
  s.toneLoss.pairRelease

/-- The supply-loss warning is recognised: EV024, the short close, start tests aborted (R69), outputs stopped; the
sessions end, but those of a bow that has released go over to its partner (R179, R308). -/
def State.warn (s : State) : State :=
  let release : Bool := s.bow && s.running .cm
  let isl : IslS := { s.isl with supply := .warned, qw := s.time.quantum }
  let t : State := { s.raise { src := 24 } with isl := isl }
  let t := t.shortClose.abortTests.warnOutputs
  if release then t else t.warnSessions

/-- Whether a warning source is enabled (R74). -/
def State.warnOn (s : State) (src : WarnSrc) : Bool :=
  match src with
  | .nPfail => s.flag F.MET_PFAIL_CFG_PIN_EN
  | .fieldSupply => s.flag F.MET_PFAIL_CFG_VF_EN

/-- A warning source asserts; the first enabled one raises the warning (R74), a supply fault detected: class 0x2 of
PW, the supply's supervisor (R43, R44; log 49). -/
def execSupplyLossWarning (src : WarnSrc) (s : State) : Host.Outcome State Fault Refusal :=
  let s := s.set (match src with
    | .nPfail => F.MET_PFAIL_STATUS_PIN_LOW
    | .fieldSupply => F.MET_PFAIL_STATUS_VF_LOW) 1
  .next (if s.running .tb = true ∧ s.isl.supply = .normal ∧ s.warnOn src = true then (s.fault 2 .pw).warn else s)

/-! ### The save (R76, R77, R157) -/

/-- The save begins: what R157 names is written, with the quanta that stay unconfirmed counted as lost (log 38). -/
def State.save (s : State) : State :=
  let lost := s.isl.qw + 1 - s.nextQ
  let recent := match s.bil.switchedAt with
    | some t => decide (s.time.now ≤ t + 2020000)
    | none => false
  let pend := s.flag F.BIL_TIME_STATUS_BRANCH_OPEN || recent
  let saved : Saved := ⟨s.resolved, s.stamp (s.resolved + 1), s.bil.rate, pend, s.quality⟩
  let s := { s with isl := { s.isl with supply := .saving }, bil := { s.bil with saved := some saved, lost := s.bil.lost + lost } }
  if s.running .vl then
    (s.log { type_ := 0x0002, payload := natLE 8 s.isl.qw ++ natLE 4 lost ++ natLE 1 pend.toNat }).storeStress
  else s

/-- All quanta up to q_w are confirmed, or 2.0 ms have passed since the warning (R76). -/
def execSupplyLossSave (s : State) : Host.Outcome State Fault Refusal :=
  .next (if s.isl.supply = .warned then s.save else s)

/-- The save has been written (R76, R157). -/
def execSaveComplete (s : State) : Host.Outcome State Fault Refusal :=
  .next (if s.isl.supply = .saving then
      ({ s with isl := { s.isl with supply := .saved } }).count F.MET_PFAIL_STATUS_COUNT 1
    else s)

/-- The restart after a save (R77): a module start of code 0x03. -/
def State.supplyRestart (s : State) : State :=
  let s := { s with isl := { s.isl with supply := .normal, hotHold := false } }
  ((s.set F.MET_PFAIL_STATUS_VF_LOW 0).set F.MET_PFAIL_STATUS_PIN_LOW 0).moduleStart 3

/-- The supply is still present 100 ms after the save (R77); while Shell is too hot the restart is withheld (R408). -/
def execSupplyLossRestart (s : State) : Host.Outcome State Fault Refusal :=
  .next (if s.isl.supply = .saved ∧ s.isl.hotHold = false then s.supplyRestart else s)

/-! ### Shell temperature (R408) -/

/-- Shell measures its junction temperature. -/
def execShellTemperatureSample (degC : Int) (for1ms : Bool) (s : State) : Host.Outcome State Fault Refusal :=
  let peak := toSigned 9 (s.get F.MG_TEMP_PEAK)
  let s := (s.set F.MG_TEMP_SHELL (ofSigned 9 degC)).set F.MG_TEMP_PEAK (ofSigned 9 (max peak degC))
  let s := s.set F.MG_TEMP_HOT (decide (120 ≤ degC)).toNat
  let s := if 120 ≤ degC then s.raise { src := 137, every := 60000000 } else s
  .next (
    if 135 ≤ degC ∧ for1ms = true ∧ s.running .tb = true then
      let s := { s with isl := { s.isl with hotHold := true } }
      if s.isl.supply = .normal then s.warn else s
    else s)

/-- Shell reads below 115 °C again: the restart is withheld no longer (R408). -/
def execThermalRestart (degC : Int) (s : State) : Host.Outcome State Fault Refusal :=
  .next (
    if s.isl.hotHold = false ∨ 115 ≤ degC then s
    else
      let s := { s with isl := { s.isl with hotHold := false } }
      if s.isl.supply = .saved then s.supplyRestart else s)

/-- A read of MG_TEMP: PEAK starts again from the present temperature. -/
def State.readTemp (s : State) : State := s.set F.MG_TEMP_PEAK (s.get F.MG_TEMP_SHELL)

/-- A host read of MG_TEMP. -/
def execMgTempRead (s : State) : Host.Outcome State Fault Refusal := .next (s.readRow R.MG_TEMP State.readTemp)

/-! ### VFIELD (R215) -/

/-- VFIELD has been below 4.5 V for 20 µs: the channels go off, their points stop (R212), the safety functions start
again in Demanded (R233), and the display discharges (R370). -/
def execUvOff (v10mV : Nat) (s : State) : Host.Outcome State Fault Refusal :=
  .next (
    if 450 ≤ v10mV ∨ s.flag F.LSW_STATUS_UV_OFF = true then s
    else
      let (s, on) := s.uvOff v10mV
      let s := on.foldl (fun (s : State) n => s.channelStop n 0x26) s
      let s := s.safUv
      if s.rail = 0 then s else s.fastDischarge)

/-- VFIELD at or above 6.0 V for 10 ms: the channels that wait turn on in channel order (R215), and the display's rails
if EN waited for VFIELD (R381). -/
def execUvRecovery (v10mV : Nat) (s : State) : Host.Outcome State Fault Refusal :=
  .next (if v10mV < 600 then s.setSat F.LSW_STATUS_VFIELD v10mV else (s.uvReturn v10mV).displayAgain)

/-! ### The power-on reset (R158, R338, R381, R382) -/

/-- VRTC has fallen below 2.0 V, or the 32.768 kHz oscillator has stopped (R404). -/
def execRtcOscillatorStop (s : State) : Host.Outcome State Fault Refusal :=
  .next { s with time := { s.time with oscStop := true } }

/-- The metering block after power-on: calibration, settings and generation are kept. -/
def MetS.powered (m : MetS) (now : Nat) : MetS :=
  { MetS.reset with chans := Vector.replicate 3 { ChanS.reset with tick0 := 200 * now }, waiting := m.waiting, gen := m.gen, recorded := m.recorded, cal := m.cal, calPend := m.calPend, typePend := m.typePend }

/-- What VL, AP and SF lose at power-on. -/
def State.lawPowered (s : State) : State :=
  let v : VotS := { s.vot with arrived := [], confirmed := [], prov := none, published := [], devs := Vector.replicate 3 [], catchUp := false }
  let sess := s.tpt.sess.map (fun (x : Sess) => { x with partner := false, ready := false })
  let saf : SafS := { SafS.reset with otest := s.saf.otest }
  { s with
    met := s.met.powered s.time.now, vot := v, bil := { s.bil with store := [] }, tpt := { s.tpt with sess := sess }, saf := saf }

/-- What the other islands lose at power-on. -/
def State.openPowered (s : State) : State :=
  let fab : FabS := { FabS.reset with k := s.fab.k, stored := s.fab.stored, counters := s.fab.counters, ownCounter := s.fab.ownCounter }
  let mtl : MtlS := { MtlS.reset with startCnt := s.mtl.startCnt }
  let key : KeyS := { s.key with cache := [], spent := 0, zeroAt := none }
  let ldp : LdpS := { LdpS.reset with trimStored := s.ldp.trimStored, stressStored := s.ldp.stressStored }
  { s with
    host := HostS.reset, ques := Vector.replicate 35 QueS.reset, fab := fab, mtl := mtl, key := key, ldp := ldp }

/-- Rigger's generators after power-on follow their settings (R214, R422). -/
def State.pwmPowered (s : State) : State :=
  let pwm := Vector.ofFn (fun g : Fin 8 => (s.get (F.LSW_PWM_PER_PERIOD g.val), s.get (F.LSW_PWM_DUTY_DUTY g.val), s.flag (F.LSW_PWM_DUTY_EN g.val)))
  let phase := Vector.ofFn (fun n : Fin 16 => BitVec.ofNat 8 (s.get (F.LSW_CH_CFG_PHASE n.val)))
  { s with lsw := { s.lsw with pwm := pwm, phase := phase } }

/-- The power-on reset asserted: every island held, volatile content gone; what eMRAM, OTP, the fuses and Boathouse
hold stays (log 36, log 38). -/
def State.assertPor (s : State) : State :=
  let s := if s.updating then s.updAbandon 5 else s
  let s := (s.setDebug false).allOff
  let s := s.resetRegs true islands
  let isl : IslS := { s.isl with fenced := [], due := [], stalls := [], supply := .normal, resetPend := none, hotHold := false, vlCause := 1, resetCmd := [] }
  let mem := s.mem.filter (fun c => decide (boathouseBase ≤ c.1) && decide (c.1 < boathouseBase + 0x8000000))
  let s := { s with mem := mem, isl := isl }
  s.lawPowered.openPowered.pwmPowered.set F.MG_RESET_CAUSE_START_SRC 0

/-- A Shell supply leaves its limits (R381). -/
def execShellSupplyFault (s : State) : Host.Outcome State Fault Refusal := .next (s.fault 2 .pw).assertPor

/-- Device time and quantum count at power return (R158). -/
def State.timeReturn (s : State) (rtcUs : Nat) (osc first : Bool) : State :=
  let ts := match s.bil.saved with
    | some v => if v.resolved = s.resolved then v.qStart else s.stamp (s.resolved + 1)
    | none => s.stamp (s.resolved + 1)
  let dev := if first then rtcUs else if osc then ts else rtcUs
  let quantum := max ((dev - epoch) / 10000) (s.resolved + 1)
  let us := (dev - epoch) % 10000
  let back := !first && decide (dev < ts)
  let stepped := if back then s.bil.stepped ++ [(quantum, (dev : Int) - (ts : Int))] else s.bil.stepped
  { s with
    time := { s.time with quantum := quantum, qStart := dev - us, usInQ := us, slewLeft := 0, slewTotal := 0, stepPend := none, servoPpm := 0, servoFrac := 0, oscStop := osc, starts := ((quantum, dev - us) :: s.time.starts).take 130 },
    bil := { s.bil with stepped := stepped } }

/-- The supplies have settled and nRESET is high: the power-on reset is released (R243, R280, R381, R382). -/
def State.powerOn (s : State) (straps : Nat) (rtcUs : Nat) (oscStop healthOk : Bool) : State :=
  let s := s.assertPor
  let first := s.get F.MG_RESET_CNT_STARTS == 0
  let s := s.timeReturn rtcUs (oscStop || s.time.oscStop) first
  let s := (s.startRecords 1).set F.BIL_TIME_STATUS_SLEWING 0
  let s := s.set F.HI_STATUS_PORT (if straps = 3 then 0 else straps)
  let s := if straps = 2 then [0x10, 0x11, 0x12, 0x13].foldl (fun (s : State) i => s.set (F.QUE_CFG_SPILL i) 1) s else s
  ((s.rootStart healthOk).dueTests).safRestart

/-- The power-on reset is released. -/
def execPowerOnReset (straps : BitVec 2) (rtcUs : Nat) (oscStop healthOk : Bool) (s : State) : Host.Outcome State Fault Refusal :=
  .next (s.powerOn straps.toNat rtcUs oscStop healthOk)

end Sys2Proof.Machine
end

