-- ==== Sys2Proof/Machine/Auxiliary.lean ====
section
/-! DEFINITION. Signatures of readings (R163, R178, R180), waveform captures (R264) and the I2C auxiliary port
(R416, R417). -/

namespace Sys2Proof.Machine

/-! ### Signed readings (R163) -/

/-- Position in a store's ring at which the next entry of so many bytes will lie, once those that wait before it
are written. -/
def State.nextPos (s : State) (kind point len : Nat) : Nat :=
  let before := s.bil.store.filter (fun p => storeKey p.kind p.point == storeKey kind point)
  let wrap := fun (pos n : Nat) => if ringSize kind < pos + n then 0 else pos
  let pos := before.foldl (fun (pos : Nat) p => wrap pos p.bytes.length + p.bytes.length) ((s.bil.storeAt.lookup (storeKey kind point)).getD 0)
  wrap pos len

/-- A session takes note of its signed reading: the start reading's number, or the end reading's, with which the
session may close (R178). -/
def State.readingSigned (s : State) (r : ReadReq) (seq : Nat) : State :=
  if r.reason = 1 then s.modSx r.point (fun x => { x with startSeq := BitVec.ofNat 64 seq })
  else if r.reason = 2 then
    let s := s.modSx r.point (fun x => { x with endSeq := BitVec.ofNat 64 seq, waitEnd := false })
    s.ap (fun s => s.sessTryEnd r.point)
  else s

/-- KS returns the signature of the oldest unsigned reading: the signed reading goes to AP and raises EV051. -/
def State.signed (s : State) : State :=
  match s.bil.signing, s.keySlot 1 with
  | (r, body) :: rest, some k =>
    let (sig, s) := s.signWith k body
    let bytes := body ++ sig
    let s := { s with bil := { s.bil with signing := rest } }
    let seq := fld body 16 8
    let pos := ringAt 0 r.point.val + s.nextPos 0 r.point.val bytes.length
    let s := s.toStore 0 r.point.val bytes
    let s := s.raise { src := 51, point := r.point.val }
    let s := match r.cmd with
      | some d => s.ok d (natLE 8 seq ++ natLE 8 pos)
      | none => s
    s.readingSigned r seq
  | _, _ => s

/-- KS returns a reading's signature (R163). -/
def execSignatureComplete (s : State) : Host.Outcome State Fault Refusal :=
  .next (if s.running .ks = true ∧ s.running .vl = true then s.signed else s)

/-! ### Waveform capture (R264) -/

/-- Command 0x0206: capture of a channel's raw samples over a number of quanta, from the next boundary or after the
captures before it. -/
def execWaveformCapture (d : Desc) (s : State) : Host.Outcome State Fault Refusal :=
  let n := d.n 25 1
  .next (s.command d { opcode := 0x0206, priv := some 0, isl := .vl, params := [(24, 1), (25, 1), (28, 4)] }
    [(24, decide (2 < d.n 24 1)), (25, n == 0 || decide (64 < n)), (28, decide (2 ^ 24 ≤ d.n 28 4))] (fun s =>
      let first := match s.met.captures.getLast? with
        | some k => max (s.time.quantum + 1) (k.first + k.quanta)
        | none => s.time.quantum + 1
      let k : Capture := ⟨d, Fin.ofNat 3 (d.n 24 1), first, n, d.n 28 4⟩
      { s with met := { s.met with captures := s.met.captures ++ [k] } }))

/-! ### The I2C auxiliary port (R416, R417) -/

/-- A bus fault: counted, EV136 at most once per second, STUCK where SDA stays low after the recovery. -/
def State.busFault (s : State) (stuck : Bool) : State :=
  let s := (s.count F.MG_I2C_STAT_FAULTS 1).set F.MG_I2C_STAT_SDA (!stuck).toNat
  let s := if stuck then s.set F.MG_I2C_STAT_STUCK 1 else s
  s.raise { src := 136, every := 1000000 }

/-- Command 0x0D01: a transfer on the port, with what the bus answered (R417). -/
def execI2cTransfer (d : Desc) (bus : I2cBus) (s : State) : Host.Outcome State Fault Refusal :=
  let w := d.n 25 1
  let r := d.n 26 1
  .next (s.command d { opcode := 0x0D01, priv := some 0, isl := .mg, params := [(24, 1), (25, 1), (26, 1), (28, min w 28)] }
    [(24, decide (127 < d.n 24 1)), (25, decide (28 < w)), (26, decide (16 < r))] (fun s =>
      if s.flag F.MG_I2C_CFG_EN = false then s.complete d 0x0007 0 []
      else
        let sent := s.emit (.i2c (d.n 24 1) (slice d.bytes 28 w) r)
        match bus with
        | .ok read => ((sent.set F.MG_I2C_STAT_STUCK 0).set F.MG_I2C_STAT_SDA 1).ok d (padTo r read)
        | .addrNack => sent.complete d 0x000D 1 []
        | .dataNack n => sent.complete d 0x000D (2 + n) []
        | .stretch low => (sent.busFault low).complete d 0x000D 0x20 []
        | .stuck low => (s.busFault low).complete d 0x000D 0x21 []
        | .lostArb low => (sent.busFault low).complete d 0x000D 0x22 []))

end Sys2Proof.Machine
end

