-- ==== Sys2Proof/Machine/Boundary.lean ====
section
/-! DEFINITION. The quantum boundary (R15, R28): the channels close the quantum, device time advances with slews,
the servo and steps (R160), waiting settings take effect (R48, R65, R82, R119, R174), AP sends its field records
(R91) and captures complete (R264). -/

namespace Sys2Proof.Machine

/-! ### The quantum that ends -/

/-- A channel at the boundary: a quantum that it metered from its start is closed; the rest of one in which it
started, or which a warning cut, is dropped (R158; log 39). -/
def State.chanBoundary (s : State) (c : Fin 3) : State :=
  let t := 200 * s.time.now
  let x := s.met.chans[c]
  if s.running (chanIsl c) = true ∧ s.isl.supply = .normal ∧ x.tick0 + 2000000 = t then (s.completeChan c).closeChan c false t
  else s.setChan c { x with rows := [], badN := 0, tempSum := 0, tempCnt := 0, ovr := 0, tick0 := t }

/-- A capture's rows of a quantum in which its channel did not run have no sample codes. -/
def State.captureGap (s : State) : State :=
  match s.met.captures with
  | [] => s
  | k :: _ =>
    if s.running (chanIsl k.chan) then s
    else (List.range 160).foldl (fun (s : State) r => s.captureRow k.chan r none) s

/-- A capture whose last quantum has ended completes (R264). -/
def State.captureDone (s : State) : State :=
  match s.met.captures with
  | [] => s
  | k :: rest =>
    if s.time.quantum < k.first + k.quanta then s
    else ({ s with met := { s.met with captures := rest } }).ok k.desc (natLE 8 k.first ++ natLE 4 (96 * 160 * k.quanta))

/-! ### Device time (R15, R160) -/

/-- The boundary in device time: the next quantum's number and the device time of its start, with the slew (10 µs in
a quantum at most), the servo's whole microseconds, and a step that takes effect; a time set leaves time quality 2 there (R159). -/
def State.advanceTime (s : State) : State :=
  let t := s.time
  let slew := max (-10) (min 10 t.slewLeft)
  let acc := t.servoFrac + 10000 * t.servoPpm
  let servo := Int.tdiv acc 1000000
  let start := (t.qStart : Int) + 10000 + slew + servo + (t.stepPend.getD (0, false)).1
  let q := t.quantum + 1
  let sum := max (-2147483648) (min 2147483647 (toSigned 32 (s.reg R.BIL_SERVO_SUM) + servo))
  let stepped := match t.stepPend with
    | some x => s.bil.stepped ++ [(q, x.1)]
    | none => s.bil.stepped
  let t : TimeS := { t with quantum := q, qStart := start.toNat, usInQ := 0, slewLeft := t.slewLeft - slew, stepPend := none, servoFrac := acc - 1000000 * servo, starts := ((q, start.toNat) :: t.starts).take 130 }
  let set_ := s.time.stepPend.any (fun x => x.2)
  let s := ({ s with time := t, bil := { s.bil with stepped := stepped } }).setReg R.BIL_SERVO_SUM (ofSigned 32 sum)
  if set_ then s.synced true else s

/-! ### Settings that take effect -/

/-- The points whose remainders a changed register clears (R65, R82). -/
def State.clearedBy (s : State) (off : Nat) : List (Fin 8) :=
  if R.MET_INCFG 0 ≤ off ∧ off ≤ R.MET_INCFG 23 then points.filter (fun n => s.mapsInput n ((off - R.MET_INCFG 0) / 4))
  else if R.MET_INSCALE 0 ≤ off ∧ off ≤ R.MET_INSCALE 23 then points.filter (fun n => s.mapsInput n ((off - R.MET_INSCALE 0) / 4))
  else if R.MET_TPMAP_V 0 ≤ off ∧ off ≤ R.MET_TPLIM 7 then
    (if off % 16 < 8 then points.filter (fun n => n.val == (off - R.MET_TPMAP_V 0) / 16) else [])
  else if R.MET_FL_CFG 0 ≤ off ∧ off ≤ R.MET_FL_SUB_Q 7 then points.filter (fun n => n.val == (off - R.MET_FL_CFG 0) / 64)
  else if R.MET_MB_SRC 0 ≤ off ∧ off ≤ R.MET_MB_STAT 15 then points.filter (fun n => s.usesEntry n ((off - R.MET_MB_SRC 0) / 32))
  else []

/-- A tolerance: it takes effect at a boundary without a new settings generation (R113, R119). -/
def isTol (off : Nat) : Bool := decide (R.VOT_TOL 0 ≤ off) && decide (off ≤ R.VOT_TOL 7)

/-- A point's new type, from this quantum on (R142, R147, R174). -/
def State.applyType (s : State) (n : Fin 8) : State :=
  match s.met.typePend[n] with
  | none => s
  | some ty =>
    let s := s.set (F.TPT_STATE_TYPE n.val) ty
    let s := if (qtyCodes ty).length ≤ s.get (F.BIL_DEM_CFG_DQ n.val) then s.set (F.BIL_DEM_CFG_DQ n.val) 0 else s
    ({ s with met := { s.met with typePend := s.met.typePend.set n none } }).showPilot n

/-- The settings written in the quantum that ended take effect, with the calibration set and the types; VL records
the set and the generation in force (R48, R61, R65, R117). -/
def State.applySettings (s : State) : State :=
  let w := s.met.waiting.map Prod.fst
  let types := points.filter (fun n => s.met.typePend[n].isSome)
  let s := { s with met := { s.met with waiting := [] } }
  let cal := s.met.calPend.isSome
  let s := types.foldl (fun (s : State) n => s.applyType n) s
  let s := if types = [] then s else s.showRate
  let hit := if cal then points else types ++ w.flatMap s.clearedBy
  let mask := (points.map (fun n => (hit.contains n).toNat <<< n.val)).sum
  let gen := if types != [] || w.any (fun o => !(isTol o)) then s.met.gen + 1 else s.met.gen
  let met : MetS := { s.met with cal := s.met.calPend.or s.met.cal, calPend := none, gen := gen }
  let calNo := match met.cal with
    | some b => fld b 4 2
    | none => 0
  let q := s.time.quantum
  let met : MetS := { met with recorded := ((q, calNo, gen.toNat) :: met.recorded).take 200 }
  let cleared := if mask = 0 then s.bil.cleared else s.bil.cleared ++ [(q, BitVec.ofNat 8 mask)]
  { s with met := met, bil := { s.bil with cleared := cleared } }

/-! ### AP at the boundary (R91) -/

/-- AP's field-bus state as VL shows it. -/
def State.showField (s : State) : State :=
  let s := (List.finRange 16).foldl (fun (s : State) e =>
    let x := s.met.entries[e]
    let age := match x.value with
      | some (_, t) => (s.time.now - t) / 1000
      | none => 0
    let s := (s.set (F.MET_MB_STAT_VALID e.val) (!(s.entryStale e)).toNat).setSat (F.MET_MB_STAT_AGE e.val) age
    let s := (s.set (F.MET_MB_STAT_IMPL e.val) x.impl.toNat).set (F.MET_MB_STAT_ID_FAIL e.val) x.idFail.toNat
    s.set (F.MET_MB_STAT_TOT_MIS e.val) x.totMis.toNat) s
  (List.finRange 4).foldl (fun (s : State) k =>
    let e := s.met.fdErr[k]
    ((s.setSat (F.MET_FD_ERR_TOUT_CNT k.val) e.1).setSat (F.MET_FD_ERR_FRAME_CNT k.val) e.2.1).setSat (F.MET_FD_ERR_EXC_CNT k.val) e.2.2) s

/-- AP sends the field record of the quantum that ended to each channel (R91). -/
def State.sendField (s : State) (q : Nat) : State :=
  if s.running .ap then
    let r := s.fieldRecord q
    let s := chans.foldl (fun (s : State) c =>
      if s.open_ .ap (chanIsl c) then { s with met := { s.met with fieldOut := s.met.fieldOut.set c (some r) } } else s) s
    s.showField
  else s

/-! ### The boundary -/

/-- What happens at a boundary, in order: the quantum ends in the channels, device time enters the next quantum, AP
sends its records, the settings take effect, and VL's voter starts its quantum. -/
def State.boundary (s : State) : State :=
  let q := s.time.quantum
  let s := { s with time := { s.time with now := s.time.now + (10000 - s.time.usInQ), usInQ := 10000 } }
  let s := s.captureGap
  let s := chans.foldl (fun (s : State) c => s.chanBoundary c) s
  let s := s.advanceTime
  let s := (s.sendField q).applySettings
  s.captureDone.voterBoundary

/-- TB sends the boundary record of a new quantum (R28). -/
def execQuantumBoundary (s : State) : Host.Outcome State Fault Refusal :=
  .next (if s.running .tb then s.boundary else s)

end Sys2Proof.Machine
end

