-- ==== Sys2Proof/Machine/FabricTime.lean ====
section
/-! DEFINITION. Fabric time: the boundary clock of island CM (R159, R160, R304). -/

namespace Sys2Proof.Machine

/-- The state with the clock's part changed. -/
def State.modPtp (s : State) (f : PtpS → PtpS) : State := { s with fab := { s.fab with ptp := f s.fab.ptp } }

/-- Lock gained or lost (R304). -/
def State.setLock (s : State) (on : Bool) : State := (s.set F.FAB_PTP_STATUS_LOCK on.toNat).raise { src := 110 }

/-- Whether one clock's qualities are better than another's: priority1, class, priority2, identity, and for
copies of one clock the steps removed (R304). -/
def ptpBetter (a b : PtpMaster) : Bool :=
  let lt := fun (x y : Nat) (rest : Bool) => decide (x < y) || (x == y && rest)
  lt a.prio1 b.prio1 (lt a.class_ b.class_ (lt a.prio2 b.prio2 (lt a.ident b.ident (lt a.steps b.steps false))))

/-- The module's own qualities, where it may become grandmaster; its clock class follows time quality (R304). -/
def State.ownClock (s : State) : Option PtpMaster :=
  if s.flag F.FAB_PTP_CFG_GM_CAP then
    some ⟨s.get F.FAB_PTP_CFG_PRIO1, if s.quality < 2 then 248 else 255, s.get F.FAB_PTP_CFG_PRIO2, s.identity, 0,
      BitVec.ofNat 16 s.ownAddr, 4⟩
  else none

/-- The best master clock: a time receiver of the best announced one, grandmaster itself where its own clock is
better, or no time. A change of grandmaster raises EV110, and a lock ends with the role of receiver. -/
def State.bestClock (s : State) : State :=
  let old := s.get F.FAB_PTP_STATUS_GM_ADDR
  let show_ := fun (s : State) (role addr steps : Nat) =>
    ((s.set F.FAB_PTP_STATUS_ROLE role).set F.FAB_PTP_STATUS_GM_ADDR addr).setSat F.FAB_PTP_STATUS_STEPS steps
  let recv := fun (s : State) (m : PtpMaster) => show_ s 1 m.addr.toNat (m.steps + 1)
  let s := match s.fab.ptp.best, s.ownClock with
    | some m, some own => if ptpBetter own m then show_ s 2 s.ownAddr 0 else recv s m
    | some m, none => recv s m
    | none, some _ => show_ s 2 s.ownAddr 0
    | none, none => show_ s 0 0 0
  let s := if s.get F.FAB_PTP_STATUS_GM_ADDR = old then s else s.raise { src := 110 }
  if s.get F.FAB_PTP_STATUS_ROLE ≠ 1 ∧ s.flag F.FAB_PTP_STATUS_LOCK = true then
    (s.setLock false).modPtp (fun x => { x with within := none })
  else s

/-- Whether a port is the one on which the module receives time. -/
def State.timePort (s : State) (k : Fin 4) : Bool :=
  s.get F.FAB_PTP_STATUS_ROLE == 1 && (match s.fab.ptp.best with
    | some m => m.port == k.val
    | none => false)

/-- A change of currentUtcOffset reaches device time as a correction of that size (R13, R160, R304). -/
def State.leapChange (s : State) (seconds : Int) : State :=
  if s.running .vl = false then s
  else if s.time.stepPend.isSome = true ∨ s.logRefusing = true then s.raise { src := 53 }
  else
    let x := -1000000 * seconds
    let s := { s with time := { s.time with slewLeft := x, slewTotal := x } }
    let s := s.set F.BIL_TIME_STATUS_SLEWING 1
    let s := s.log { type_ := 0x0011, src := 2, payload := natLE 8 (ofSigned 64 x) ++ natLE 4 x.natAbs }
    let s := s.raise { src := 52 }
    if s.running .ap then s.nextBound else s

/-- An Announce: its master is kept if it is better than the best, or the best itself on the same port. -/
def State.announce (s : State) (k : Fin 4) (m : PtpMaster) (utc : Int) (utcValid : Bool) : State :=
  let take := match s.fab.ptp.best with
    | none => true
    | some b => ptpBetter m b || (b.port == k.val && b.ident == m.ident)
  let s := if take then s.modPtp (fun x => { x with best := some m }) else s
  let s := s.bestClock
  if s.timePort k && utcValid then
    let old := s.fab.ptp.utcOffset
    let s := s.modPtp (fun x => { x with utcOffset := some utc })
    match old with
    | some o => if o = utc then s else s.leapChange (utc - o)
    | none => s
  else s

/-- A Sync on the receiving port: FAB_PTP_OFFSET, the servo, lock, time quality, and the 2 s rule of R159. -/
def State.syncRx (s : State) (offsetNs : Int) : State :=
  let lim : Int := 2 ^ 31 - 1
  let s := s.set F.FAB_PTP_OFFSET_OFFSET (ofSigned 32 (max (-lim - 1) (min lim offsetNs)))
  let (n, s) := s.fresh
  let s := { s with time := { s.time with servoPpm := max (-100) (min 100 (Config.servo offsetNs n)) } }
  let now := s.time.now
  let since := fun (old : Option Nat) (on : Bool) => if on then some (old.getD now) else none
  let near := decide (offsetNs.natAbs ≤ 50000)
  let far := decide (2000000000 < offsetNs.natAbs)
  let s := s.modPtp (fun x => { x with syncAt := some now, within := since x.within near, apart := since x.apart far })
  if s.flag F.FAB_PTP_STATUS_LOCK = false then s
  else if 200000 < offsetNs.natAbs then s.setLock false
  else if s.open_ .cm .vl then s.synced false
  else s

/-- An IEEE 1588 message arrives in an accepted type-0x05 frame of a port (R304). A peer-delay message shows in
the offsets that later Syncs carry. -/
def execPtpMessageReceive (k : Fin 4) (m : PtpMsg) (s : State) : Host.Outcome State Fault Refusal :=
  .next (s.cm (fun s =>
    if s.usable (.fp k) = false then s
    else match m with
      | .sync o => if s.timePort k then s.syncRx o else s
      | .announce domain gm p1 cl p2 ident steps utc valid =>
        if domain.toNat ≠ s.get F.FAB_PTP_CFG_DOMAIN then s
        else s.announce k ⟨p1.toNat, cl.toNat, p2.toNat, ident.toNat, steps, gm, k.val⟩ utc valid
      | .peerDelay _ => s))

/-- Whether a port serves time: the module is grandmaster, or receives time on another port. -/
def State.masterPort (s : State) (k : Fin 4) : Bool :=
  s.usable (.fp k) && (s.get F.FAB_PTP_STATUS_ROLE == 2 || (s.get F.FAB_PTP_STATUS_ROLE == 1 && !(s.timePort k)))

/-- A master port sends Sync every 125 ms. -/
def execPtpSyncSend (k : Fin 4) (s : State) : Host.Outcome State Fault Refusal :=
  .next (s.cm (fun s => if s.masterPort k then s.emit (.ptp k.val 0) else s))

/-- A master port sends Announce every 1 s. -/
def execPtpAnnounceSend (k : Fin 4) (s : State) : Host.Outcome State Fault Refusal :=
  .next (s.cm (fun s => if s.masterPort k then s.emit (.ptp k.val 1) else s))

/-- A port sends a peer-delay request every 1 s. -/
def execPtpPeerDelaySend (k : Fin 4) (s : State) : Host.Outcome State Fault Refusal :=
  .next (s.cm (fun s => if s.usable (.fp k) then s.emit (.ptp k.val 2) else s))

/-- Three announce intervals pass on a port without Announce. -/
def execPtpAnnounceTimeout (k : Fin 4) (s : State) : Host.Outcome State Fault Refusal :=
  .next (s.cm (fun s =>
    match s.fab.ptp.best with
    | some m => if m.port = k.val then (s.modPtp (fun x => { x with best := none })).bestClock else s
    | none => s))

/-- The offset has stayed within ±50 µs for 10 s: lock holds, and counts as a synchronisation (R159). -/
def execPtpLockAcquired (s : State) : Host.Outcome State Fault Refusal :=
  .next (s.cm (fun s =>
    if s.get F.FAB_PTP_STATUS_ROLE ≠ 1 ∨ s.flag F.FAB_PTP_STATUS_LOCK = true ∨ s.fab.ptp.within = none then s
    else
      let s := s.setLock true
      if s.open_ .cm .vl then s.synced false else s))

/-- No Sync arrives for 1 s: lock ends, and the servo steers no more. -/
def execPtpSyncLoss (s : State) : Host.Outcome State Fault Refusal :=
  .next (s.cm (fun s =>
    let s := s.modPtp (fun x => { x with within := none, syncAt := none })
    let s := { s with time := { s.time with servoPpm := 0 } }
    if s.flag F.FAB_PTP_STATUS_LOCK then s.setLock false else s))

end Sys2Proof.Machine
end

