-- ==== Sys2Proof/Machine/Flags.lean ====
section
/-! DEFINITION. The flags that are computed from others and held nowhere: the interrupt output. Every other flag of
the spec is a field of a register (RegMap), written by the operation of the rule that sets it. -/

namespace Sys2Proof.Machine

/-- The output nHIRQ (R261): low while a pending bit is set whose table entry is not masked. -/
def State.nHirq (s : State) : Bool :=
  !((List.range 64).any (fun v => (s.reg (R.HI_IRQ_PEND_LO + 4 * (v / 32))).testBit (v % 32) && s.reg (0x18000 + 16 * v + 12) % 2 == 0))

end Sys2Proof.Machine
end

