-- ==== Sys2Proof/Machine/Bus.lean ====
section
/-! DEFINITION. The host's access to the module: register writes and reads with the ranges and conditions that the
register tables and their rules set (R6 to R10, R22), the octal-SPI frames and the window frames (R246, R247), the
data port (R263 to R265), and the results that islands return (R258). -/

namespace Sys2Proof.Machine

/-! ### Which values a register takes

A write that a register's table or rule does not admit is discarded with EV000, the seal open or not (log 41). A
range that a table states without saying what a write outside it does is treated alike (log 42). -/

/-- Index of a register in a row of like registers. -/
def idxOf (off base stride count : Nat) : Option Nat :=
  if base ≤ off ∧ (off - base) % stride = 0 ∧ (off - base) / stride < count then some ((off - base) / stride) else none

/-- A register row with the check of a write: from the state, the row index and the word written. -/
structure WriteRule where
  base : Nat
  stride : Nat
  count : Nat
  ok : State → Nat → Nat → Bool

/-- Whether a rule admits a write. -/
def WriteRule.admits (r : WriteRule) (s : State) (off v : Nat) : Bool :=
  match idxOf off r.base r.stride r.count with
  | some n => r.ok s n v
  | none => true

/-- Whether bits [hi:lo] of a word lie within bounds. -/
def within (v hi lo least most : Nat) : Bool := decide (least ≤ bitsOf v hi lo) && decide (bitsOf v hi lo ≤ most)

/-- Whether each 5-bit field from a place names an input or none (0x1F). -/
def inputsNamed (v : Nat) (los : List Nat) : Bool :=
  los.all (fun lo => decide (bitsOf v (lo + 4) lo ≤ 23) || bitsOf v (lo + 4) lo == 31)

/-- Whether a point's settings are locked by its session (R48, R82). -/
def State.locked (s : State) (n : Nat) : Bool := busyState (s.sess (Fin.ofNat 8 n))

/-- Whether an input is mapped to a point whose session locks its settings (R48). -/
def State.inputLocked (s : State) (i : Nat) : Bool := points.any (fun p => s.mapsInput p i && busyState (s.sess p))

/-- Whether a Modbus entry is used by a point whose session locks its settings (R82). -/
def State.entryLocked (s : State) (e : Nat) : Bool := points.any (fun p => s.usesEntry p e && busyState (s.sess p))

/-- A positive binary32 number. -/
def f32Positive (v : Nat) : Bool :=
  match f32 v with
  | some x => decide (0 < x)
  | none => false

/-- A binary32 number, negative only where that is allowed. -/
def f32Setting (mayNegative : Bool) (v : Nat) : Bool :=
  match f32 v with
  | some x => mayNegative || decide (0 ≤ x)
  | none => false

/-- Electrical settings (R47, R48, R62, R67, R74). -/
def metRules : List WriteRule :=
  [⟨R.MET_PFAIL_CFG, 4, 1, fun _ _ v => within v 11 4 45 85⟩,
   ⟨R.MET_INCFG 0, 4, 24, fun s n v => !(s.inputLocked n) && within v 3 0 0 8⟩,
   ⟨R.MET_INSCALE 0, 4, 24, fun s n v => !(s.inputLocked n) && f32Positive v⟩,
   ⟨R.MET_TPMAP_V 0, 16, 8, fun s n v => !(s.locked n) && inputsNamed v [0, 5, 10, 15]⟩,
   ⟨R.MET_TPMAP_I 0, 16, 8, fun s n v => !(s.locked n) && inputsNamed v [0, 5, 10, 15, 20]⟩,
   ⟨R.MET_TPNOM 0, 16, 8, fun s n v => !(s.locked n) && within v 31 16 1 65535 && within v 15 0 1 65535⟩,
   ⟨R.MET_TPLIM 0, 16, 8, fun s n v => !(s.locked n) && within v 15 8 10 255 && within v 7 0 16 240⟩]

/-- Fluid and field-bus settings (R82 and the tables of chapter 3). -/
def fluidRules : List WriteRule :=
  [⟨R.MET_FL_CFG 0, 64, 8, fun s n v => !(s.locked n) && within v 7 5 0 6⟩,
   ⟨R.MET_FL_MAP 0, 64, 8, fun s n v => !(s.locked n) && inputsNamed v [0, 5, 10, 15]⟩,
   ⟨R.MET_FL_PARAM 0, 64, 8, fun s n v => !(s.locked n) && within v 24 18 0 100 && within v 17 10 5 100 && within v 9 0 800 1000⟩,
   ⟨R.MET_FL_LIM 0, 64, 8, fun s n v => !(s.locked n) && within v 9 0 0 200⟩,
   ⟨R.MET_FL_EXP 0, 64, 8, fun s n _ => !(s.locked n)⟩,
   ⟨R.MET_FL_TREF 0, 64, 8, fun s n v => !(s.locked n) && f32Setting true v⟩,
   ⟨R.MET_FL_SUB_T 0, 64, 8, fun s n v => !(s.locked n) && f32Setting true v⟩] ++
  ([R.MET_FL_BORE 0, R.MET_FL_PIPE 0, R.MET_FL_KFAC 0, R.MET_FL_QREF 0, R.MET_FL_PREF 0, R.MET_FL_HRET 0, R.MET_FL_SUB_P 0,
    R.MET_FL_SUB_RH 0, R.MET_FL_SUB_Q 0].map
      (fun base => ⟨base, 64, 8, fun s n v => !(s.locked n) && f32Setting false v⟩)) ++
  [⟨R.MET_FD_CFG 0, 16, 4, fun _ _ v => within v 23 16 1 100 && within v 13 12 0 2 && within v 11 8 0 4⟩,
   ⟨R.MET_MB_SRC 0, 32, 16, fun s e v => !(s.entryLocked e) && within v 7 0 1 247⟩,
   ⟨R.MET_MB_FMT 0, 32, 16, fun s e v => !(s.entryLocked e) && within v 27 26 0 1 && within v 25 24 0 2 && within v 23 21 0 5 &&
      within v 15 0 100 60000⟩,
   ⟨R.MET_MB_SCALE 0, 32, 16, fun s e _ => !(s.entryLocked e)⟩,
   ⟨R.MET_MB_MIN 0, 32, 16, fun s e _ => !(s.entryLocked e)⟩,
   ⟨R.MET_MB_MAX 0, 32, 16, fun s e _ => !(s.entryLocked e)⟩,
   ⟨R.MET_MB_AGE 0, 32, 16, fun s e v => !(s.entryLocked e) && within v 31 16 (s.get (F.MET_MB_FMT_PERIOD e)) 65535 && within v 15 0 1 10000⟩,
   ⟨R.MET_MB_EXPECT 0, 32, 16, fun s e _ => !(s.entryLocked e)⟩]

/-- Length of a demand interval in minutes by its code (R147). -/
def demMinutes (code : Nat) : Nat := nth [1, 5, 10, 15, 30, 60] code 0

/-- Whether BIL_DEM_CFG_n takes a word: an interval length, a K that divides the interval's quanta, and a quantity
block of the point's type (R147). -/
def State.demOk (s : State) (n v : Nat) : Bool :=
  let k := bitsOf v 15 8
  let ty := s.type_ (Fin.ofNat 8 n)
  let dq := bitsOf v 26 24
  within v 2 0 0 5 && within v 15 8 1 15 && demMinutes (bitsOf v 2 0) * 6000 % k == 0 &&
  (if ty = 0 then decide (dq ≤ 6) else decide (dq < (qtyCodes ty).length))

/-- Billing settings (R147, R151, R159). -/
def bilRules : List WriteRule :=
  [⟨R.BIL_PERIOD_CFG, 4, 1, fun _ _ v => within v 17 16 0 1 && within v 12 8 1 28 && within v 4 0 0 23⟩,
   ⟨R.BIL_TIME_CFG, 4, 1, fun _ _ v => within v 7 0 1 168⟩,
   ⟨R.BIL_DEM_CFG 0, 16, 8, fun s n v => s.demOk n v⟩]

/-- Whether a point is in Idle, in which its TPT_ settings may be written. -/
def State.pointIdle (s : State) (n : Nat) : Bool := s.sess (Fin.ofNat 8 n) == 0

/-- Transfer-point and partner-port settings (chapter 6). -/
def tptRules : List WriteRule :=
  [⟨R.TPT_CFG 0, 64, 8, fun s n _ => s.pointIdle n⟩,
   ⟨R.TPT_LINK 0, 64, 8, fun s n v => s.pointIdle n && within v 27 16 0 4094⟩,
   ⟨R.TPT_TIMES 0, 64, 8, fun s n v => s.pointIdle n && within v 31 24 5 255 && within v 23 16 1 255 && within v 15 0 10 65535⟩,
   ⟨R.TPT_LIMIT 0, 64, 8, fun s n v => s.pointIdle n && within v 15 0 60 630⟩,
   ⟨R.TPT_LEAK 0, 64, 8, fun s n v => s.pointIdle n && within v 31 16 (s.get (F.TPT_LIMIT_R_FAULT n)) 65535⟩,
   ⟨R.TPT_LEAK2 0, 64, 8, fun s n v => s.pointIdle n && within v 19 14 0 60 && within v 13 5 0 300⟩,
   ⟨R.PTN_CAN_CFG 0, 4, 2, fun _ _ v => within v 6 4 0 3 && within v 3 1 0 2⟩]

/-- Whether a load-switch channel, or the other of its pair as it is or as the word makes it, is commanded on
(R204). -/
def State.chanOn (s : State) (n : Nat) (pairs : Bool) : Bool :=
  let c : Fin 16 := Fin.ofNat 16 n
  (s.members c).any s.commanded || (pairs && s.commanded (Fin.ofNat 16 (n + 1)))

/-- Highest LIMIT of a channel: unpaired or paired, on the MMD7428-E or the MMD7428-T (R202, R409). -/
def State.limitMost (s : State) (n : Nat) : Nat :=
  let paired := decide ((s.members (Fin.ofNat 16 n)).length = 2)
  if s.get F.MG_PART_ORDER = 0x54 then (if paired then 50 else 25) else (if paired then 80 else 40)

/-- Load-switch settings (R202, R204, R208, R214, R409). -/
def lswRules : List WriteRule :=
  [⟨R.LSW_PWM_PER 0, 8, 8, fun _ _ v => within v 21 0 2000 2500000⟩,
   ⟨R.LSW_PWM_DUTY 0, 8, 8, fun _ _ v => within v 9 0 0 1000⟩,
   ⟨R.LSW_CH_CFG 0, 16, 16, fun s n v => !(s.chanOn n (v.testBit 31)) && !(v.testBit 31 && n % 2 == 1) &&
      !(v.testBit 25 && v.testBit 30) && within v 21 18 1 15⟩,
   ⟨R.LSW_CH_LIM 0, 16, 16, fun s n v => !(s.chanOn n false) && within v 31 25 0 100 && within v 23 16 1 255 &&
      within v 6 0 5 (s.limitMost n)⟩]

/-- Fabric and mains-tone-link settings (chapters 11 and 12). -/
def fabRules : List WriteRule :=
  [⟨R.FAB_ID_CFG, 4, 1, fun _ _ v => within v 15 0 1 65535⟩,
   ⟨R.FAB_ADDR_CFG, 4, 1, fun _ _ v => within v 15 0 1 0xFFFD⟩,
   ⟨R.FAB_REP_CFG, 4, 1, fun _ _ v => within v 24 16 0 300⟩,
   ⟨R.FAB_QUAR_CFG, 4, 1, fun _ _ v => within v 31 16 10 3600 && within v 15 8 1 255 && within v 7 0 10 255⟩,
   ⟨R.FAB_PORT_CFG 0, 16, 4, fun _ _ v => within v 15 8 1 254⟩,
   ⟨R.MTL_CFG, 4, 1, fun _ _ v => within v 31 24 1 254 && within v 23 20 1 8 && within v 19 14 0 30 && within v 9 8 0 2⟩,
   ⟨R.MTL_TX, 4, 1, fun _ _ v => within v 23 16 5 100 && within v 6 0 10 120⟩,
   ⟨R.MTL_TIMING, 4, 1, fun _ _ v => within v 23 16 5 60 && within v 15 8 6 30 && within v 7 0 1 100⟩]

/-- Whether the display is off, so that its geometry may be written (R375). -/
def State.displayOff (s : State) : Bool := s.get F.LDP_CTRL_EN == 0 && s.get F.LDP_STATUS_RAIL == 0

/-- Whether a signed 16-bit field lies within bounds. -/
def within16 (v : Nat) (least most : Int) : Bool := decide (least ≤ toSigned 16 v) && decide (toSigned 16 v ≤ most)

/-- Whether QUE_CFG_i takes a word: only a spill-capable queue that is empty while its EQ is stopped (R280). -/
def State.spillOk (s : State) (i v : Nat) : Bool :=
  queSpillCap i &&
  (bitsOf v 0 0 == s.get (F.QUE_CFG_SPILL i) ||
   (decide (s.ques[(Fin.ofNat 35 i)].pkts = []) && s.get (RingQ.eq (Fin.ofNat 4 (i - 16))).stopped == 1))

/-- Settings of the display, the queues, the update and MG (R42, R280, R365, R373, R375, R395). -/
def otherRules : List WriteRule :=
  [⟨R.MG_SCRUB_CTRL, 4, 1, fun _ _ v => within v 4 0 1 24⟩,
   ⟨R.LDP_GEOM, 4, 1, fun s _ v => s.displayOff && bitsOf v 24 16 % 8 == 0 && within v 24 16 8 400 && within v 15 8 16 240 &&
      decide (s.get F.LDP_LEGAL_LEG_FIRST + s.get F.LDP_LEGAL_LEG_COUNT ≤ bitsOf v 15 8)⟩,
   ⟨R.LDP_LEGAL, 4, 1, fun s _ v => s.displayOff && within v 15 8 32 64 &&
      decide (bitsOf v 7 0 + bitsOf v 15 8 ≤ s.get F.LDP_GEOM_HEIGHT)⟩,
   ⟨R.LDP_VCOM, 4, 1, fun _ _ v => within16 (bitsOf v 31 16) (-50) 50 && within16 (bitsOf v 15 0) (-250) 50⟩,
   ⟨R.QUE_CFG 0, 16, 35, fun s i v => s.spillOk i v⟩,
   ⟨R.UPD_CFG, 4, 1, fun _ _ v => within v 15 4 60 3600⟩]

/-- All checks of writes. -/
def writeRules : List WriteRule := metRules ++ fluidRules ++ bilRules ++ tptRules ++ lswRules ++ fabRules ++ otherRules

/-- Whether the tables and rules admit a write of a register. -/
def State.writeOk (s : State) (off v : Nat) : Bool := writeRules.all (fun r => r.admits s off v)

/-! ### Writes with an action of their own -/

/-- The settings that wait for the next quantum boundary (R48, R82). -/
def isBoundarySetting (off : Nat) : Bool :=
  (decide (R.MET_INCFG 0 ≤ off) && decide (off ≤ R.MET_TPLIM 7)) || (decide (R.MET_FL_CFG 0 ≤ off) && decide (off ≤ R.MET_FL_SUB_Q 7)) ||
  (decide (R.MET_MB_SRC 0 ≤ off) && decide (off ≤ R.MET_MB_EXPECT 15))

/-- A setting that waits for the boundary, under the seal (R10, R48). -/
def State.boundaryWrite (s : State) (off v : Nat) : State :=
  match regAt off with
  | none => s
  | some d =>
    let r := applyFields s.sealOpen d.fields (s.reg off) v
    let s := s.setWaiting off r.1
    if r.2 then s.raise { src := 1 } else s

/-- The MSI-X table entry word at a place, as written (log 5): address bits [1:0] 0, of the vector control only
the mask. Unmasking a vector whose pending bit is set signals it. -/
def State.writeMsix (s : State) (off v : Nat) : State :=
  let s := s.setReg off (if off % 16 = 0 then v - v % 4 else if off % 16 = 12 then v % 2 else v)
  let n := (off - 0x18000) / 16
  let pba := 0x19000 + 4 * (n / 32)
  if off % 16 = 12 ∧ v % 2 = 0 ∧ (s.reg pba).testBit (n % 32) = true then
    (s.setReg pba (putBit (s.reg pba) (n % 32) false)).emit (.msix n)
  else s

/-- A write of a data-port register (R263): a write of HI_DP_ADDR sets CUR; a STRIDE that is smaller than an
element or no multiple of 4 is discarded. -/
def State.writeDp (s : State) (off v : Nat) : State :=
  let fromStart := fun (s : State) => { s with host := { s.host with elemPos := 0 } }
  if off = R.HI_DP_ADDR_LO then fromStart (s.setReg off (v - v % 4))
  else if off = R.HI_DP_ADDR_HI then fromStart (s.setReg off v)
  else if off = R.HI_DP_CTRL then
    let s' := s.plainWrite off v
    if s'.get F.HI_DP_CTRL_MODE = s.get F.HI_DP_CTRL_MODE ∧ s'.get F.HI_DP_CTRL_ELEM = s.get F.HI_DP_CTRL_ELEM then s'
    else fromStart s'
  else if v % 4 ≠ 0 ∨ v < 4 * s.get F.HI_DP_CTRL_ELEM then s.discard
  else s.setReg off v

/-- The ring queue one of whose registers lies at an offset, with the register's place in the queue's row. -/
def ringOf (off : Nat) : Option (RingQ × Nat) :=
  if 0x10100 ≤ off ∧ off < 0x10200 then some (.sq (Fin.ofNat 16 ((off - 0x10100) / 16)), off % 16)
  else if 0x10200 ≤ off ∧ off < 0x10300 then some (.cq (Fin.ofNat 16 ((off - 0x10200) / 16)), off % 16)
  else if 0x10300 ≤ off ∧ off < 0x10340 then some (.eq (Fin.ofNat 4 ((off - 0x10300) / 16)), off % 16)
  else none

/-- A write of a register of a ring queue (R248): the base only while the queue is idle. -/
def State.writeRing (s : State) (q : RingQ) (place off v : Nat) : State :=
  if place = 8 then s.writeCfg q v
  else if place = 12 then s
  else if s.ringIdle q then s.setReg off v else s.discard

/-- The entries that the walker finds in host memory when the write of a doorbell does not bring them with it
(log 40): free values; over the octal-SPI port they stand in ring SRAM. -/
def State.hostEntries (s : State) : List (List Byte) × State :=
  if s.pcie then
    let (k, s) := s.fresh
    ((List.range 4096).map (fun i => Config.hostEntry k i), s)
  else ([], s)

/-- A write of a doorbell (R249). -/
def State.writeBell (s : State) (off v : Nat) : State :=
  if 0x11080 ≤ off then s.headBell (.eq (Fin.ofNat 4 ((off - 0x11080) / 4))) v
  else if off % 8 = 4 then s.headBell (.cq (Fin.ofNat 16 ((off - 0x11000) / 8))) v
  else
    let (l, s) := s.hostEntries
    s.sqBell (Fin.ofNat 16 ((off - 0x11000) / 8)) v l false

/-- A write of a register of island HI. -/
def State.writeHi (s : State) (off v : Nat) : State :=
  if off = R.HI_CTRL then s.writeHiCtrl v
  else match ringOf off with
    | some (q, place) => s.writeRing q place off v
    | none =>
      if 0x11000 ≤ off ∧ off < 0x11090 then s.writeBell off v
      else if inMsixTable off then s.writeMsix off v
      else if R.HI_DP_ADDR_LO ≤ off ∧ off ≤ R.HI_DP_STRIDE then s.writeDp off v
      else s.plainWrite off v

/-- A port that is disabled drops its PHY link (R282). -/
def State.portWritten (s : State) (k : Fin 4) : State :=
  if s.flag (F.FAB_PORT_CFG_EN k.val) then s
  else { s with fab := { s.fab with ports := s.fab.ports.set k { s.fab.ports[k] with phy := false } } }.linkDown (.fp k)

/-- LINK_SLOT names no key: every link goes down, with EV109 (R285). -/
def State.linkKeyWritten (s : State) : State :=
  if (s.keySlot (s.get F.FAB_KEY_CFG_LINK_SLOT)).isSome then s
  else
    let s := (List.finRange 4).foldl (fun (s : State) k => s.linkDown (.fp k)) s
    ((List.finRange 32).foldl (fun (s : State) j => s.linkDown (.tl j)) s).noKey

/-- EN of the duplex pair is cleared: the module has no partner and works alone (R305). -/
def State.pairOff (s : State) : State :=
  if s.flag F.FAB_PAIR_CFG_EN then s
  else
    let s := (s.set F.FAB_PAIR_STATUS_PARTNER 0).set F.FAB_PAIR_STATUS_PAIR_ADDR 0
    ((s.set F.FAB_PAIR_STATUS_LANE_A 0).set F.FAB_PAIR_STATUS_LANE_B 0).setRole 0

/-- What follows from a setting that a plain write has changed; `old` is the word before. -/
def State.afterWrite (s : State) (off old : Nat) : State :=
  if s.reg off = old then s
  else match idxOf off (R.TPT_CFG 0) 64 8, idxOf off (R.TPT_LIMIT 0) 64 8, idxOf off (R.FAB_PORT_CFG 0) 16 4 with
    | some n, _, _ => s.showPilot (Fin.ofNat 8 n)
    | _, some n, _ => s.showPilot (Fin.ofNat 8 n)
    | _, _, some k => s.portWritten (Fin.ofNat 4 k)
    | none, none, none =>
      if off = R.FAB_COLL_CFG then s.showSingle
      else if off = R.FAB_KEY_CFG then s.linkKeyWritten
      else if off = R.FAB_PTP_CFG then s.bestClock
      else if off = R.FAB_PAIR_CFG then s.pairOff
      else if off = R.MTL_CFG then s.toneCfg (old.testBit 0)
      else if off = R.MTL_TX then s.toneSettle
      else s

/-- A write to FAB_ID_CFG, FAB_ADDR_CFG or FAB_KEY_CFG starts a new draw (the FAB_ registers, R288). -/
def State.redraw (s : State) (off : Nat) : State :=
  if off = R.FAB_ID_CFG ∨ off = R.FAB_ADDR_CFG ∨ off = R.FAB_KEY_CFG then s.startDraw else s

/-- A write of a register whose owner takes it: the action that its rule gives it, or the plain effect of R7. -/
def State.hostWrite (s : State) (off v : Nat) : State :=
  if blockOf off = 1 then s.writeHi off v
  else if off = R.MET_STEST_CTRL then s.requestTests (bitsOf v 7 0)
  else if off = R.VOT_CTRL then s.writeVotCtrl v
  else if off = R.LSW_CMD then s.writeLswCmd v
  else if off = R.LSW_LATCH then s.writeLatch v
  else if off = R.SAF_RESET_REQ then s.writeSafReset v
  else if blockOf off = 7 then s.discard
  else if off = R.LDP_CTRL then s.writeLdpCtrl v
  else match idxOf off (R.VOT_TOL 0) 4 8 with
    | some k => s.writeVotTol (Fin.ofNat 8 k) v
    | none =>
      if s.writeOk off v = false then s.discard
      else if isBoundarySetting off then s.boundaryWrite off v
      else ((s.plainWrite off v).afterWrite off (s.reg off)).redraw off

/-- A register write by the host, of any size (R6, R22). -/
def execRegisterWrite (off : Word) (size : Nat) (v : Word) (s : State) : Host.Outcome State Fault Refusal :=
  .next (s.guard off.toNat size (fun s => s.hostWrite off.toNat v.toNat))

/-! ### Reads -/

/-- The word that a read of a register returns: the register, with the fields that its island computes when it is
read. -/
def State.shown (s : State) (off : Nat) : Nat :=
  if off = R.MET_CAL_ID then putBits (s.reg off) 20 16 (s.get F.KEY_CHG_LEFT_CAL)
  else if off = R.BIL_TAR_ID then putBits (s.reg off) 30 24 (s.get F.KEY_CHG_LEFT_TARIFF)
  else if off = R.TPT_TYPE_SLOTS then s.get F.KEY_CHG_LEFT_TYPE
  else if off = R.KEY_SLOT_INFO then s.slotInfo
  else if off = R.KEY_SLOT_DEST then s.slotDest
  else if off = R.KEY_SLOT_CNT then s.slotCnt
  else if off = R.MTL_STATUS then s.showAir.reg off
  else if off = R.FAB_PAIR_STATUS then s.showMirror.reg off
  else if off = R.UPD_STATUS then putBits (s.reg off) 15 0 (sat 16 s.catchLeft)
  else match idxOf off (R.MTL_NB_AGE 0) 32 32 with
    | some j => s.toneAge (Fin.ofNat 32 j)
    | none =>
      match idxOf off (R.LSW_CH_STAT 0) 0x10 16 with
      | some n =>
        let w := putBits (s.reg off) 31 16 (Config.chanCurrent n s.time.now s.free).toNat
        if w.testBit 0 then putBit w 1 (Config.chanLimiting n s.time.now s.free) else w
      | none => s.reg off

/-- What a read changes: a peak starts again. -/
def State.readEffect (s : State) (off : Nat) : State :=
  if off = R.MG_TEMP then s.readTemp
  else if off = R.LSW_AGG then s.set F.LSW_AGG_PEAK 0
  else match idxOf off (R.QUE_STAT 0) 16 35 with
    | some i => s.readQueStat (Fin.ofNat 35 i)
    | none => s

/-- A register read by the host: the word, all ones where it is refused (R6, R22). -/
def State.hostRead (s : State) (off : Nat) : Nat × State :=
  if off % 4 = 0 ∧ assigned off = true ∧ s.serves off = true then (s.shown off, s.readEffect off)
  else (0xFFFFFFFF, s.accessError off)

/-- Registers read word by word from an offset, as bytes; the bytes of a word that is not whole are refused. -/
def State.readWords (s : State) (off : Nat) : Nat → List Byte × State
  | 0 => ([], s)
  | 1 => ([0xFF], s.accessError off)
  | 2 => ([0xFF, 0xFF], s.accessError off)
  | 3 => ([0xFF, 0xFF, 0xFF], s.accessError off)
  | n + 4 =>
    let (w, s) := s.hostRead off
    let (l, s) := s.readWords (off + 4) n
    (natLE 4 w ++ l, s)

/-- Registers written word by word from an offset; the bytes of a word that is not whole are refused. -/
def State.writeWords (s : State) (off : Nat) : List Byte → State
  | [] => s
  | a :: b :: c :: d :: t =>
    (s.guard off 4 (fun s => s.hostWrite off (leNat [a, b, c, d]))).writeWords (off + 4) t
  | l => s.guard off l.length id

/-! ### The data port (R263 to R265) -/

/-- The rows of the map of R264: the first address and the size. -/
def dpMap : List (Nat × Nat) :=
  [(stagingBase, 0x80000), (0x200000, 0x800), (0x210000, 0x70000), (captureBase, 0x100000), (boathouseBase, 0x8000000)]

/-- The row of the map in which so many bytes from an address lie. -/
def dpRegion (a n : Nat) : Option Nat :=
  dpMap.findIdx? (fun r => decide (r.1 ≤ a) && decide (a + n ≤ r.1 + r.2))

/-- Byte `k` of a number. -/
def byteAt (v k : Nat) : Byte := BitVec.ofNat 8 (v >>> (8 * k))

/-- A byte of a quantity block of the register regions (R172). -/
def blockByte (b : Block) (o : Nat) : Byte :=
  if o < 8 then byteAt b.total.toNat o
  else if o < 16 then byteAt b.marked.toNat (o - 8)
  else if o < 18 then byteAt b.residue.toNat (o - 16)
  else if 24 ≤ o ∧ o < 152 then byteAt b.rates[(Fin.ofNat 16 ((o - 24) / 8))].toNat ((o - 24) % 8)
  else 0

/-- A byte of a register region: quantity blocks and maximum demands of the points, the sequence count at the end
(R172). -/
def State.registerByte (s : State) (blocks : Fin 8 → Vector Block 12) (dem : Fin 8 → Vector MaxDem 16) (seq : Word)
    (o : Nat) : Byte :=
  if 0x7FF8 ≤ o then byteAt seq.toNat (o - 0x7FF8)
  else if 0x4000 ≤ o then 0
  else
    let n : Fin 8 := Fin.ofNat 8 (o / 0x800)
    let p := o % 0x800
    if 0x700 ≤ p then
      let m := (dem n)[(Fin.ofNat 16 ((p - 0x700) / 16))]
      let k := p % 16
      if k < 4 then byteAt m.value.toNat k else if k < 8 then byteAt m.status.toNat (k - 4) else byteAt m.start.toNat (k - 8)
    else match (qtyCodes (s.type_ n))[p / 0x100]? with
      | some c => blockByte (blocks n)[c] (p % 0x100)
      | none => 0

/-- A byte of the legal regions of R172; `occ` for the bytes to which no rule gives contents (log 40). -/
def State.legalByte (s : State) (occ a : Nat) : Byte :=
  let o := a - 0x210000
  if o < 0x8000 then s.registerByte (fun n => s.bil.points[n].blocks) (fun n => s.bil.points[n].maxDem) (nth s.bil.seqs 0 0) o
  else if o < 0x10000 then s.registerByte (fun n => s.bil.prev[n].1) (fun n => s.bil.prev[n].2) (nth s.bil.seqs 1 0) (o - 0x8000)
  else if o < 0x18000 then
    let k := o - 0x10000
    if 0x7FF8 ≤ k then byteAt (nth s.bil.seqs 2 0).toNat (k - 0x7FF8)
    else match s.bil.tariff with
      | some t => nth t k 0
      | none => 0
  else if o < 0x30000 then Config.dpGap occ a
  else
    let k := o - 0x30000
    nth (nth s.bil.log.reverse (k / 64) []) (k % 64) 0

/-- The provisional and confirmed record regions, 2 KiB (R137). -/
def State.recordRegions (s : State) : List Byte :=
  let region := fun (r : Option QRec) (seq : Nat) =>
    padTo 1024 ((match r with
      | some x => padTo 864 x.bytes
      | none => zeros 864) ++ natLE 4 seq)
  region s.vot.prov (s.reg R.MET_PROV_SEQ) ++ region s.vot.confirmed.head? s.vot.confSeq.toNat

/-- A byte of Boathouse: of an image slot a free value (R389, log 32), of any other place what was written there. -/
def State.boathouseByte (s : State) (occ o : Nat) : Byte :=
  if o < 0x1C00000 then Config.slotByte (o / 0x200000) (o % 0x200000) occ else memGet s.mem (boathouseBase + o)

/-- The bytes of a part of the map. -/
def State.dpBytes (s : State) (occ row a n : Nat) : List Byte :=
  match row with
  | 1 => slice s.recordRegions (a - 0x200000) n
  | 2 => (List.range n).map (fun k => s.legalByte occ (a + k))
  | 4 => (List.range n).map (fun k => s.boathouseByte occ (a - boathouseBase + k))
  | _ => memRead s.mem a n

/-- The parts that a stream of so many bytes reaches from CUR and the bytes consumed of its element, with CUR and
those bytes after it (R263). `fuel` bounds the number of parts. -/
def streamParts (elem stride : Nat) : Nat → Nat → Nat → Nat → List (Nat × Nat) × Nat × Nat
  | 0, cur, pos, _ => ([], cur, pos)
  | fuel + 1, cur, pos, left =>
    if left = 0 then ([], cur, pos)
    else
      let k := min left (elem - pos)
      let r := if pos + k = elem then streamParts elem stride fuel ((cur - pos + stride) % 2 ^ 64) 0 (left - k)
        else streamParts elem stride fuel ((cur + k) % 2 ^ 64) (pos + k) (left - k)
      ((cur, k) :: r.1, r.2)

/-- The parts of a data-port transaction and the state with CUR advanced; none where it is refused as such: its
alignment, its length, or the end of BAR2 (R263, R264). -/
def State.dpParts (s : State) (off n : Nat) : Option (List (Nat × Nat) × State) :=
  let most := if s.pcie then 512 else 4096
  if off % 4 ≠ 0 ∨ n % 4 ≠ 0 ∨ most < n ∨ 4096 < off + n then none
  else
    let cur := s.get64 R.HI_DP_ADDR_LO
    if s.get F.HI_DP_CTRL_MODE = 0 then some ([((cur + off) % 2 ^ 64, n)], s)
    else
      let elem := 4 * s.get F.HI_DP_CTRL_ELEM
      if elem = 0 then some ([(cur, n)], s.set64 R.HI_DP_ADDR_LO ((cur + n) % 2 ^ 64))
      else
        let r := streamParts elem (s.reg R.HI_DP_STRIDE) (n + 1) cur s.host.elemPos n
        let s := s.set64 R.HI_DP_ADDR_LO r.2.1
        some (r.1, { s with host := { s.host with elemPos := r.2.2 } })

/-- A refused transaction (R264). -/
def State.dpRefuse (s : State) : State := (s.set F.HI_DP_CTRL_ERR 1).raise { src := 96 }

/-- Whether a part reaches bytes whose value the spec leaves open. -/
def openPart (p : Nat × Nat) : Bool :=
  (decide (p.1 < 0x240000) && decide (0x228000 < p.1 + p.2) && decide (0x210000 ≤ p.1)) ||
  (decide (boathouseBase ≤ p.1) && decide (p.1 < boathouseBase + 0x1C00000))

/-- A read through the data port: its bytes, all ones where it is refused. -/
def State.dpRead (s : State) (off n : Nat) : List Byte × State :=
  match s.dpParts off n with
  | none => (List.replicate n 0xFF, s.dpRefuse)
  | some (parts, s') =>
    if parts.any (fun p => (dpRegion p.1 p.2).isNone) then (List.replicate n 0xFF, s.dpRefuse)
    else
      let occ := s.free
      let data := (parts.map (fun p => s.dpBytes occ ((dpRegion p.1 p.2).getD 0) p.1 p.2)).flatten
      (data, if parts.any openPart then s'.fresh.2 else s')

/-- Bytes stored part by part. -/
def State.storeParts (s : State) : List (Nat × Nat) → List Byte → State
  | [], _ => s
  | p :: t, l => (s.store p.1 (l.take p.2)).storeParts t (l.drop p.2)

/-- A write through the data port: only the staging buffer takes it, and not while a staged load runs (R264,
R265). -/
def State.dpWrite (s : State) (off : Nat) (l : List Byte) : State :=
  match s.dpParts off l.length with
  | none => s.dpRefuse
  | some (parts, s') =>
    if s.loading = true ∨ parts.any (fun p => dpRegion p.1 p.2 != some 0) = true then s.dpRefuse
    else s'.storeParts parts l

/-- The state with the data that a read returned to the host. -/
def State.gave (s : State) (l : List Byte) : State := { s with host := { s.host with readData := l } }

/-- A data-port transaction through BAR2 (R263). -/
def execDataPortAccess (off : Word) (op : DpOp) (s : State) : Host.Outcome State Fault Refusal :=
  .next (
    if s.running .hi = false then s
    else match op with
      | .read n => let (l, s) := s.dpRead off.toNat n; s.gave l
      | .write l => s.dpWrite off.toNat l)

/-! ### Octal-SPI frames (R246) -/

/-- EV097, at most once per second. -/
def State.frameError (s : State) : State := s.raise { src := 97, every := 1000000 }

/-- Whether so many bytes from an address lie in ring SRAM. -/
def inRing (a n : Nat) : Bool := decide (a + n ≤ 0x100000)

/-- A read frame: its data. Outside ring SRAM it reads all ones, with EV000 (log 43). -/
def State.spiRead (s : State) (op a n : Nat) : List Byte × State :=
  if op = 0x11 then s.readWords a n
  else if op = 0x21 then
    (if inRing a n then (memRead s.mem (ringBase + a) n, s) else (List.replicate n 0xFF, s.raise { src := 0 }))
  else s.dpRead a n

/-- A write frame. A frame that breaks in the middle of a byte keeps the words of registers and the bytes of ring
SRAM that it has written; its data-port transaction is not made. -/
def State.spiWrite (s : State) (op a : Nat) (l : List Byte) (broken : Bool) : State :=
  if op = 0x12 then s.writeWords a (if broken then l.take (l.length / 4 * 4) else l)
  else if op = 0x22 then (if inRing a l.length then s.store (ringBase + a) l else s.raise { src := 0 })
  else if broken then s
  else s.dpWrite a l

/-- A frame of the octal-SPI port: opcode, complement, four address bytes, and data of at most 4 KiB. A frame that
ends before its address is complete accesses nothing. -/
def State.spi (s : State) (bytes : List Byte) (readLen : Nat) (broken : Bool) : State :=
  let op := fld bytes 0 1
  if 2 ≤ bytes.length ∧ (fld bytes 1 1 + op ≠ 255 ∨ [0x11, 0x12, 0x21, 0x22, 0x31, 0x32].contains op = false) then s.frameError
  else
    let a := beNat (slice bytes 2 4)
    let s :=
      if bytes.length < 6 then s
      else if op % 16 = 1 then
        (if broken = true ∧ op = 0x31 then s else let (l, s) := s.spiRead op a (min readLen 4096); s.gave l)
      else s.spiWrite op a ((bytes.drop 6).take 4096) broken
    if broken then s.frameError else s

/-- A frame on the octal-SPI port, which answers only while the straps select it (R243, R246). -/
def execSpiFrame (bytes : List Byte) (readLen : Nat) (brokenByte : Bool) (s : State) : Host.Outcome State Fault Refusal :=
  .next (if s.running .hi = true ∧ s.get F.HI_STATUS_PORT = 1 then s.spi bytes readLen brokenByte else s)

/-! ### Window frames (R247) -/

/-- A word read through the window. -/
def State.windowRead (s : State) (addr : Nat) : Nat × State :=
  let win := s.get F.HI_SPI_WIN_WIN
  if addr = 0xFFFC then s.hostRead R.HI_SPI_WIN
  else if win = 14 ∧ addr < 0x1000 then
    let (l, s) := s.dpRead addr 4
    (leNat l, s)
  else if win < 16 then s.hostRead (win * 0x10000 + addr)
  else if addr % 4 = 0 then (leNat (memRead s.mem (ringBase + (win - 16) * 0x10000 + addr) 4), s)
  else (0xFFFFFFFF, s.raise { src := 0 })

/-- A word written through the window. -/
def State.windowWrite (s : State) (addr v : Nat) : State :=
  let win := s.get F.HI_SPI_WIN_WIN
  if addr = 0xFFFC then s.hostWrite R.HI_SPI_WIN v
  else if win = 14 ∧ addr < 0x1000 then s.dpWrite addr (natLE 4 v)
  else if win < 16 then s.guard (win * 0x10000 + addr) 4 (fun s => s.hostWrite (win * 0x10000 + addr) v)
  else if addr % 4 = 0 then s.store (ringBase + (win - 16) * 0x10000 + addr) (natLE 4 v)
  else s.raise { src := 0 }

/-- A frame of the window mode: command byte, 16-bit address, one word with its most significant byte first. A
command byte other than 0x80 and 0x00, or a write that ends early, is a frame error (log 43). -/
def State.window (s : State) (bytes : List Byte) : State :=
  let addr := beNat (slice bytes 1 2)
  if bytes.length < 3 then s.frameError
  else if fld bytes 0 1 = 0x80 then
    let (w, s) := s.windowRead addr
    s.gave (natBE 4 w)
  else if fld bytes 0 1 = 0 ∧ 7 ≤ bytes.length then s.windowWrite addr (beNat (slice bytes 3 4))
  else s.frameError

/-- A frame in MMD5206 window mode (R247). -/
def execWindowFrame (bytes : List Byte) (s : State) : Host.Outcome State Fault Refusal :=
  .next (if s.running .hi = true ∧ s.get F.HI_STATUS_PORT = 2 then s.window bytes else s)

/-! ### Results (R258) -/

/-- Whether the island that takes a result runs: HI for a command of an SQ, CM for a fabric command. -/
def State.canPost (s : State) (r : Result) : Bool :=
  match r.desc.src with
  | .sq _ => s.running .hi
  | .fabric _ => s.running .cm

/-- The oldest result that can be taken goes to its sender: the completion entry, or the completion frame (R253,
R303). -/
def execCommandResult (writeFails : Bool) (s : State) : Host.Outcome State Fault Refusal :=
  .next (match s.host.results.find? s.canPost with
    | none => s
    | some r =>
      let s := { s with host := { s.host with results := s.host.results.erase r } }
      match r.desc.src with
      | .sq n => s.postResult n r (writeFails && s.pcie)
      | .fabric node => s.fabricAnswer node r)

end Sys2Proof.Machine
end

