-- ==== Sys2Proof/Machine/Dispatch.lean ====
section
/-! DEFINITION. One arm for each command: the direct call of its meaning, or its rejection by name. -/

namespace Sys2Proof.Machine

/-- What a command does to everything but the queue of waiting commands. -/
def exec (i : Instr) (s : State) : Host.Outcome State Fault Refusal :=
  match i with
  | .registerWrite off size v => Sys2Proof.Machine.execRegisterWrite off size v s
  | .quantumBoundary => Sys2Proof.Machine.execQuantumBoundary s
  | .crossingStall snd rcv blameReceiver => Sys2Proof.Machine.execCrossingStall snd rcv blameReceiver s
  | .crossingReopen snd rcv => Sys2Proof.Machine.execCrossingReopen snd rcv s
  | .clockMonitorFault i1 remote => Sys2Proof.Machine.execClockMonitorFault i1 remote s
  | .referenceFault => Sys2Proof.Machine.execReferenceFault s
  | .watchdogExpiry engine => Sys2Proof.Machine.execWatchdogExpiry engine s
  | .lockstepError => Sys2Proof.Machine.execLockstepError s
  | .vlRestart => Sys2Proof.Machine.execVlRestart s
  | .scrubRead i1 mem word err legalCopy => Sys2Proof.Machine.execScrubRead i1 mem word err legalCopy s
  | .linkFrame c frame => Sys2Proof.Machine.execLinkFrame c frame s
  | .linkTimeout c => Sys2Proof.Machine.execLinkTimeout c s
  | .referenceComparison ab bc ca => Sys2Proof.Machine.execReferenceComparison ab bc ca s
  | .channelRecordComplete c => Sys2Proof.Machine.execChannelRecordComplete c s
  | .phaseConditionSet c p k => Sys2Proof.Machine.execPhaseConditionSet c p k s
  | .phaseConditionClear c p k => Sys2Proof.Machine.execPhaseConditionClear c p k s
  | .rcmTrip c p row => Sys2Proof.Machine.execRcmTrip c p row s
  | .startTestRequest v => Sys2Proof.Machine.execStartTestRequest v s
  | .startTest d => Sys2Proof.Machine.execStartTest d s
  | .startTestBegin p => Sys2Proof.Machine.execStartTestBegin p s
  | .startTestEnd p => Sys2Proof.Machine.execStartTestEnd p s
  | .supplyLossWarning src => Sys2Proof.Machine.execSupplyLossWarning src s
  | .supplyLossSave => Sys2Proof.Machine.execSupplyLossSave s
  | .saveComplete => Sys2Proof.Machine.execSaveComplete s
  | .supplyLossRestart => Sys2Proof.Machine.execSupplyLossRestart s
  | .pulseEdge n tickA tickB tickC => Sys2Proof.Machine.execPulseEdge n tickA tickB tickC s
  | .modbusPollDue e => Sys2Proof.Machine.execModbusPollDue e s
  | .modbusResponse port frame gap => Sys2Proof.Machine.execModbusResponse port frame gap s
  | .modbusTimeout port => Sys2Proof.Machine.execModbusTimeout port s
  | .modbusValueStale e => Sys2Proof.Machine.execModbusValueStale e s
  | .totaliserCheck e => Sys2Proof.Machine.execTotaliserCheck e s
  | .fieldRecordArrival c => Sys2Proof.Machine.execFieldRecordArrival c s
  | .fieldRecordLate c => Sys2Proof.Machine.execFieldRecordLate c s
  | .substitutionStop p => Sys2Proof.Machine.execSubstitutionStop p s
  | .quantumRecordArrival arrived corrupt => Sys2Proof.Machine.execQuantumRecordArrival arrived corrupt s
  | .resolutionDeadline => Sys2Proof.Machine.execResolutionDeadline s
  | .reverificationBegin c => Sys2Proof.Machine.execReverificationBegin c s
  | .reverify v => Sys2Proof.Machine.execReverify v s
  | .forceOut v => Sys2Proof.Machine.execForceOut v s
  | .channelRejoin c => Sys2Proof.Machine.execChannelRejoin c s
  | .votTolWrite k v => Sys2Proof.Machine.execVotTolWrite k v s
  | .signatureComplete => Sys2Proof.Machine.execSignatureComplete s
  | .storeEntryWrite => Sys2Proof.Machine.execStoreEntryWrite s
  | .slewComplete => Sys2Proof.Machine.execSlewComplete s
  | .servoMonth => Sys2Proof.Machine.execServoMonth s
  | .timeQualityExpiry => Sys2Proof.Machine.execTimeQualityExpiry s
  | .fabricTimeMismatch => Sys2Proof.Machine.execFabricTimeMismatch s
  | .loadCalibrationSet d => Sys2Proof.Machine.execLoadCalibrationSet d s
  | .loadTariffStructure d => Sys2Proof.Machine.execLoadTariffStructure d s
  | .closeBillingPeriod d => Sys2Proof.Machine.execCloseBillingPeriod d s
  | .takeReading d => Sys2Proof.Machine.execTakeReading d s
  | .timeCorrection d => Sys2Proof.Machine.execTimeCorrection d s
  | .timeSet d => Sys2Proof.Machine.execTimeSet d s
  | .waveformCapture d => Sys2Proof.Machine.execWaveformCapture d s
  | .noOperation d => Sys2Proof.Machine.execNoOperation d s
  | .locateStore d => Sys2Proof.Machine.execLocateStore d s
  | .assignPointType d => Sys2Proof.Machine.execAssignPointType d s
  | .identify d => Sys2Proof.Machine.execIdentify d s
  | .authorise d => Sys2Proof.Machine.execAuthorise d s
  | .revocationStatus d => Sys2Proof.Machine.execRevocationStatus d s
  | .stopSession d => Sys2Proof.Machine.execStopSession d s
  | .clearFault d => Sys2Proof.Machine.execClearFault d s
  | .weldCheckEnd p passed => Sys2Proof.Machine.execWeldCheckEnd p passed s
  | .serviceState d => Sys2Proof.Machine.execServiceState d s
  | .hostCurrentLimit d => Sys2Proof.Machine.execHostCurrentLimit d s
  | .clearRcmTrip d => Sys2Proof.Machine.execClearRcmTrip d s
  | .loadContractTable d => Sys2Proof.Machine.execLoadContractTable d s
  | .pilotStateChange p high low ohms => Sys2Proof.Machine.execPilotStateChange p high low ohms s
  | .handshakeTimeout p => Sys2Proof.Machine.execHandshakeTimeout p s
  | .authorisationTimeout p => Sys2Proof.Machine.execAuthorisationTimeout p s
  | .readyTimeout p => Sys2Proof.Machine.execReadyTimeout p s
  | .checksPassed p => Sys2Proof.Machine.execChecksPassed p s
  | .checkTimeout p k => Sys2Proof.Machine.execCheckTimeout p k s
  | .overcurrentViolation p => Sys2Proof.Machine.execOvercurrentViolation p s
  | .vehicleMessage p m => Sys2Proof.Machine.execVehicleMessage p m s
  | .seccDiscoveryTimeout p => Sys2Proof.Machine.execSeccDiscoveryTimeout p s
  | .fallbackPilotFEnd p => Sys2Proof.Machine.execFallbackPilotFEnd p s
  | .vehicleMessageTimeout p => Sys2Proof.Machine.execVehicleMessageTimeout p s
  | .couplingDetect p loop => Sys2Proof.Machine.execCouplingDetect p loop s
  | .couplingAbsent p loop => Sys2Proof.Machine.execCouplingAbsent p loop s
  | .couplingAttemptTimeout p => Sys2Proof.Machine.execCouplingAttemptTimeout p s
  | .couplingIdentityFrame p frame => Sys2Proof.Machine.execCouplingIdentityFrame p frame s
  | .couplingMessage p m => Sys2Proof.Machine.execCouplingMessage p m s
  | .couplingHeartbeatLost p => Sys2Proof.Machine.execCouplingHeartbeatLost p s
  | .stackCommandSend p => Sys2Proof.Machine.execStackCommandSend p s
  | .stackStatusFrame port ident frame => Sys2Proof.Machine.execStackStatusFrame port ident frame s
  | .stackStatusTimeout p => Sys2Proof.Machine.execStackStatusTimeout p s
  | .stackCurrentMismatch p => Sys2Proof.Machine.execStackCurrentMismatch p s
  | .rcmTestTimeout p => Sys2Proof.Machine.execRcmTestTimeout p s
  | .insulationMeasurement c kohm => Sys2Proof.Machine.execInsulationMeasurement c kohm s
  | .leakTestFillEnd p => Sys2Proof.Machine.execLeakTestFillEnd p s
  | .leakTestSettleEnd p => Sys2Proof.Machine.execLeakTestSettleEnd p s
  | .leakTestEnd p => Sys2Proof.Machine.execLeakTestEnd p s
  | .safeStateReport p => Sys2Proof.Machine.execSafeStateReport p s
  | .switchConfirmTimeout p => Sys2Proof.Machine.execSwitchConfirmTimeout p s
  | .dcContactorOpenTimeout p => Sys2Proof.Machine.execDcContactorOpenTimeout p s
  | .shortDetected n => Sys2Proof.Machine.execShortDetected n s
  | .overcurrent n => Sys2Proof.Machine.execOvercurrent n s
  | .retryPauseEnd n => Sys2Proof.Machine.execRetryPauseEnd n s
  | .retrySequenceReset n => Sys2Proof.Machine.execRetrySequenceReset n s
  | .inrushEnd n => Sys2Proof.Machine.execInrushEnd n s
  | .openLoad n => Sys2Proof.Machine.execOpenLoad n s
  | .openLoadClear n => Sys2Proof.Machine.execOpenLoadClear n s
  | .aggregateOverload mean1s inst => Sys2Proof.Machine.execAggregateOverload mean1s inst s
  | .shedStep mean10ms => Sys2Proof.Machine.execShedStep mean10ms s
  | .shedReturn mean1s => Sys2Proof.Machine.execShedReturn mean1s s
  | .shedRestoreStep => Sys2Proof.Machine.execShedRestoreStep s
  | .arrayTemperature degC => Sys2Proof.Machine.execArrayTemperature degC s
  | .pwmPeriodStart g => Sys2Proof.Machine.execPwmPeriodStart g s
  | .vfieldDip v10mV => Sys2Proof.Machine.execVfieldDip v10mV s
  | .uvOff v10mV => Sys2Proof.Machine.execUvOff v10mV s
  | .uvRecovery v10mV => Sys2Proof.Machine.execUvRecovery v10mV s
  | .channelReclaim n => Sys2Proof.Machine.execChannelReclaim n s
  | .holdExpiry => Sys2Proof.Machine.execHoldExpiry s
  | .lswCmdWrite v => Sys2Proof.Machine.execLswCmdWrite v s
  | .latchClear v => Sys2Proof.Machine.execLatchClear v s
  | .lswAggRead => Sys2Proof.Machine.execLswAggRead s
  | .switchHostChannels d => Sys2Proof.Machine.execSwitchHostChannels d s
  | .clearLatches d => Sys2Proof.Machine.execClearLatches d s
  | .safetyInputFiltered i1 level inA inB tA tB => Sys2Proof.Machine.execSafetyInputFiltered i1 level inA inB tA tB s
  | .sfScan => Sys2Proof.Machine.execSfScan s
  | .safetyDiscrepancy k out => Sys2Proof.Machine.execSafetyDiscrepancy k out s
  | .outputTest out swB fell => Sys2Proof.Machine.execOutputTest out swB fell s
  | .switchStuck out swB on => Sys2Proof.Machine.execSwitchStuck out swB on s
  | .inputDiscrepancy f => Sys2Proof.Machine.execInputDiscrepancy f s
  | .discrepancyClear f => Sys2Proof.Machine.execDiscrepancyClear f s
  | .twoHandTimeout f inA inB => Sys2Proof.Machine.execTwoHandTimeout f inA inB s
  | .safetyResetRequest v => Sys2Proof.Machine.execSafetyResetRequest v s
  | .safetyRestart v => Sys2Proof.Machine.execSafetyRestart v s
  | .startTestsComplete pass => Sys2Proof.Machine.execStartTestsComplete pass s
  | .loadSafetyConfiguration d => Sys2Proof.Machine.execLoadSafetyConfiguration d s
  | .confirmSafetyConfiguration d => Sys2Proof.Machine.execConfirmSafetyConfiguration d s
  | .safetyConfigTimeout => Sys2Proof.Machine.execSafetyConfigTimeout s
  | .hostLinkReset => Sys2Proof.Machine.execHostLinkReset s
  | .hostLinkUp gen width => Sys2Proof.Machine.execHostLinkUp gen width s
  | .linkRetrain v => Sys2Proof.Machine.execLinkRetrain v s
  | .privLock v => Sys2Proof.Machine.execPrivLock v s
  | .spiFrame bytes readLen brokenByte => Sys2Proof.Machine.execSpiFrame bytes readLen brokenByte s
  | .windowFrame bytes => Sys2Proof.Machine.execWindowFrame bytes s
  | .queueEnable q v => Sys2Proof.Machine.execQueueEnable q v s
  | .queueDisable q v => Sys2Proof.Machine.execQueueDisable q v s
  | .sqDoorbell n v fetched failed => Sys2Proof.Machine.execSqDoorbell n v fetched failed s
  | .cqDoorbell n v => Sys2Proof.Machine.execCqDoorbell n v s
  | .eqDoorbell e v => Sys2Proof.Machine.execEqDoorbell e v s
  | .commandDispatch n => Sys2Proof.Machine.execCommandDispatch n s
  | .commandResult writeFails => Sys2Proof.Machine.execCommandResult writeFails s
  | .hostCompletionTimeout q => Sys2Proof.Machine.execHostCompletionTimeout q s
  | .coalescingTimeout q => Sys2Proof.Machine.execCoalescingTimeout q s
  | .dataPortAccess off op => Sys2Proof.Machine.execDataPortAccess off op s
  | .queueOffer i1 unit_ type_ body mismatch => Sys2Proof.Machine.execQueueOffer i1 unit_ type_ body mismatch s
  | .queueRelease i1 mismatch => Sys2Proof.Machine.execQueueRelease i1 mismatch s
  | .queStatRead i1 => Sys2Proof.Machine.execQueStatRead i1 s
  | .phyLinkUp k => Sys2Proof.Machine.execPhyLinkUp k s
  | .phyLinkDown k => Sys2Proof.Machine.execPhyLinkDown k s
  | .helloSend k => Sys2Proof.Machine.execHelloSend k s
  | .helloReceive k frame => Sys2Proof.Machine.execHelloReceive k frame s
  | .helloTimeout k => Sys2Proof.Machine.execHelloTimeout k s
  | .linkStateAdvertReceive port frame => Sys2Proof.Machine.execLinkStateAdvertReceive port frame s
  | .advertRepeat => Sys2Proof.Machine.execAdvertRepeat s
  | .advertRefresh => Sys2Proof.Machine.execAdvertRefresh s
  | .advertAgeOut ident => Sys2Proof.Machine.execAdvertAgeOut ident s
  | .addressClaimFinal => Sys2Proof.Machine.execAddressClaimFinal s
  | .linkCostUpdate k badPerMille meanFill => Sys2Proof.Machine.execLinkCostUpdate k badPerMille meanFill s
  | .linkSuppressionEnd port j => Sys2Proof.Machine.execLinkSuppressionEnd port j s
  | .routeRecompute => Sys2Proof.Machine.execRouteRecompute s
  | .routedFrameForward port frame => Sys2Proof.Machine.execRoutedFrameForward port frame s
  | .quarantineEnd port j => Sys2Proof.Machine.execQuarantineEnd port j s
  | .reportSpreadDue => Sys2Proof.Machine.execReportSpreadDue s
  | .reportSend => Sys2Proof.Machine.execReportSend s
  | .reportReceive port payload type_ => Sys2Proof.Machine.execReportReceive port payload type_ s
  | .collectorStoreWrite => Sys2Proof.Machine.execCollectorStoreWrite s
  | .mmd5206Frame k frame => Sys2Proof.Machine.execMmd5206Frame k frame s
  | .fabricCommandReceive payload => Sys2Proof.Machine.execFabricCommandReceive payload s
  | .fabricCommandCompletion payload => Sys2Proof.Machine.execFabricCommandCompletion payload s
  | .ptpMessageReceive k m => Sys2Proof.Machine.execPtpMessageReceive k m s
  | .ptpSyncSend k => Sys2Proof.Machine.execPtpSyncSend k s
  | .ptpAnnounceSend k => Sys2Proof.Machine.execPtpAnnounceSend k s
  | .ptpPeerDelaySend k => Sys2Proof.Machine.execPtpPeerDelaySend k s
  | .ptpAnnounceTimeout k => Sys2Proof.Machine.execPtpAnnounceTimeout k s
  | .ptpLockAcquired => Sys2Proof.Machine.execPtpLockAcquired s
  | .ptpSyncLoss => Sys2Proof.Machine.execPtpSyncLoss s
  | .pairHeartbeatSend => Sys2Proof.Machine.execPairHeartbeatSend s
  | .duplexMirror m => Sys2Proof.Machine.execDuplexMirror m s
  | .pairReleaseReceive => Sys2Proof.Machine.execPairReleaseReceive s
  | .pairHeartbeatLoss => Sys2Proof.Machine.execPairHeartbeatLoss s
  | .pairLaneLoss laneB => Sys2Proof.Machine.execPairLaneLoss laneB s
  | .pairLaneReturn laneB partnerIdent partnerBow => Sys2Proof.Machine.execPairLaneReturn laneB partnerIdent partnerBow s
  | .routeLookup d => Sys2Proof.Machine.execRouteLookup d s
  | .sendFabricCommand d => Sys2Proof.Machine.execSendFabricCommand d s
  | .fabricCommandTimeout => Sys2Proof.Machine.execFabricCommandTimeout s
  | .switchRole d => Sys2Proof.Machine.execSwitchRole d s
  | .clearQuarantine d => Sys2Proof.Machine.execClearQuarantine d s
  | .locateCollectorStore d => Sys2Proof.Machine.execLocateCollectorStore d s
  | .advanceKeyEpoch d => Sys2Proof.Machine.execAdvanceKeyEpoch d s
  | .mtlDataFrame rx => Sys2Proof.Machine.execMtlDataFrame rx s
  | .mtlAckSend => Sys2Proof.Machine.execMtlAckSend s
  | .mtlAcknowledgement rx => Sys2Proof.Machine.execMtlAcknowledgement rx s
  | .mtlAckTimeout => Sys2Proof.Machine.execMtlAckTimeout s
  | .mtlBackoffSlot => Sys2Proof.Machine.execMtlBackoffSlot s
  | .mtlTransmissionEnd => Sys2Proof.Machine.execMtlTransmissionEnd s
  | .mtlTransmissionCutoff => Sys2Proof.Machine.execMtlTransmissionCutoff s
  | .mtlBeaconSend => Sys2Proof.Machine.execMtlBeaconSend s
  | .mtlBeacon rx => Sys2Proof.Machine.execMtlBeacon rx s
  | .mtlRefreshSend => Sys2Proof.Machine.execMtlRefreshSend s
  | .mtlRefreshList rx => Sys2Proof.Machine.execMtlRefreshList rx s
  | .mtlWantedAdvertSend orig => Sys2Proof.Machine.execMtlWantedAdvertSend orig s
  | .mtlLinkTimeout j => Sys2Proof.Machine.execMtlLinkTimeout j s
  | .mtlNeighbourFree j => Sys2Proof.Machine.execMtlNeighbourFree j s
  | .mtlSegmentSetTimeout j => Sys2Proof.Machine.execMtlSegmentSetTimeout j s
  | .lineDriverFault => Sys2Proof.Machine.execLineDriverFault s
  | .lineDriverResume => Sys2Proof.Machine.execLineDriverResume s
  | .lineNoiseMeasurement d noise => Sys2Proof.Machine.execLineNoiseMeasurement d noise s
  | .clearToneQuarantine d => Sys2Proof.Machine.execClearToneQuarantine d s
  | .keyUseRequest requester slot use checkOk rebuildOk => Sys2Proof.Machine.execKeyUseRequest requester slot use checkOk rebuildOk s
  | .writeKey d => Sys2Proof.Machine.execWriteKey d s
  | .deriveKey d => Sys2Proof.Machine.execDeriveKey d s
  | .destroyKey d => Sys2Proof.Machine.execDestroyKey d s
  | .keyStatement d => Sys2Proof.Machine.execKeyStatement d s
  | .attest d => Sys2Proof.Machine.execAttest d s
  | .setMeterIdentity d => Sys2Proof.Machine.execSetMeterIdentity d s
  | .enrolIntegratorKey d => Sys2Proof.Machine.execEnrolIntegratorKey d s
  | .selectDestructionModes d => Sys2Proof.Machine.execSelectDestructionModes d s
  | .debugPort d => Sys2Proof.Machine.execDebugPort d s
  | .debugKill d => Sys2Proof.Machine.execDebugKill d s
  | .tamperInput n => Sys2Proof.Machine.execTamperInput n s
  | .sealChange open_ => Sys2Proof.Machine.execSealChange open_ s
  | .displayPowerOn v => Sys2Proof.Machine.execDisplayPowerOn v s
  | .displayPowerOff v => Sys2Proof.Machine.execDisplayPowerOff v s
  | .displaySequenceStep => Sys2Proof.Machine.execDisplaySequenceStep s
  | .panelFault => Sys2Proof.Machine.execPanelFault s
  | .railFault => Sys2Proof.Machine.execRailFault s
  | .fastDischargeComplete => Sys2Proof.Machine.execFastDischargeComplete s
  | .commonToggle => Sys2Proof.Machine.execCommonToggle s
  | .stressCount => Sys2Proof.Machine.execStressCount s
  | .vcomTrimUpdate => Sys2Proof.Machine.execVcomTrimUpdate s
  | .displayPassStart => Sys2Proof.Machine.execDisplayPassStart s
  | .lineTransferComplete => Sys2Proof.Machine.execLineTransferComplete s
  | .displayPassEnd => Sys2Proof.Machine.execDisplayPassEnd s
  | .legalPageAdvance => Sys2Proof.Machine.execLegalPageAdvance s
  | .writeOpenLines d => Sys2Proof.Machine.execWriteOpenLines d s
  | .storeFrame d => Sys2Proof.Machine.execStoreFrame d s
  | .showStoredFrame d => Sys2Proof.Machine.execShowStoredFrame d s
  | .powerOnReset straps rtcUs oscStop healthOk => Sys2Proof.Machine.execPowerOnReset straps rtcUs oscStop healthOk s
  | .islandStartComplete i1 => Sys2Proof.Machine.execIslandStartComplete i1 s
  | .nreset => Sys2Proof.Machine.execNreset s
  | .resetModuleOrIsland d => Sys2Proof.Machine.execResetModuleOrIsland d s
  | .moduleResetExecute => Sys2Proof.Machine.execModuleResetExecute s
  | .receiveContainerPart d => Sys2Proof.Machine.execReceiveContainerPart d s
  | .stageContainer d unwrapOk => Sys2Proof.Machine.execStageContainer d unwrapOk s
  | .activate d => Sys2Proof.Machine.execActivate d s
  | .updateStep verified => Sys2Proof.Machine.execUpdateStep verified s
  | .engineRunningReport e => Sys2Proof.Machine.execEngineRunningReport e s
  | .updateStepTimeout => Sys2Proof.Machine.execUpdateStepTimeout s
  | .healthReport e => Sys2Proof.Machine.execHealthReport e s
  | .confirmHealth d => Sys2Proof.Machine.execConfirmHealth d s
  | .catchWindowEnd => Sys2Proof.Machine.execCatchWindowEnd s
  | .revert d => Sys2Proof.Machine.execRevert d s
  | .shellTemperatureSample degC for1ms => Sys2Proof.Machine.execShellTemperatureSample degC for1ms s
  | .thermalRestart degC => Sys2Proof.Machine.execThermalRestart degC s
  | .mgTempRead => Sys2Proof.Machine.execMgTempRead s
  | .i2cTransfer d bus => Sys2Proof.Machine.execI2cTransfer d bus s
  | .shellSupplyFault => Sys2Proof.Machine.execShellSupplyFault s
  | .rtcOscillatorStop => Sys2Proof.Machine.execRtcOscillatorStop s
  | .pairUp partnerIdent partnerAddr partnerPref => Sys2Proof.Machine.execPairUp partnerIdent partnerAddr partnerPref s
  | .mediumBusy => Sys2Proof.Machine.execMediumBusy s
  | .mediumIdle draw => Sys2Proof.Machine.execMediumIdle draw s
  | .airtimeLimitEnd => Sys2Proof.Machine.execAirtimeLimitEnd s
  | .lbusyRelease => Sys2Proof.Machine.execLbusyRelease s
  | .tamperInputReturn n => Sys2Proof.Machine.execTamperInputReturn n s
  | .switchCellOvertemperature n => Sys2Proof.Machine.execSwitchCellOvertemperature n s

end Sys2Proof.Machine
end

