-- ==== Sys2Proof/Machine/Time.lean ====
section
/-! DEFINITION. The clock of the model: what passes when no command waits. -/

namespace Sys2Proof.Machine

/-- One microsecond passes inside the quantum (log 11). The quantum's last microsecond does not pass: the
next thing to happen at it is the boundary, which is a command. -/
def State.idle (s : State) : State :=
  if s.time.usInQ < 9999 then
    { s with time := { s.time with usInQ := s.time.usInQ + 1, now := s.time.now + 1 } }
  else s

end Sys2Proof.Machine
end

