-- ==== Sys2Proof/Safety.lean ====
section
/-! DEFINITION. What the claims about every step say of a state: its memory is in canonical form, its legal log is
a chain (R167), and in every quantity block the total is the sum of the rate registers (R166, step 4). -/

namespace Sys2Proof.Machine

/-- The chain value that the entry after a log has to carry (R167). -/
def chainValue : List (List Byte) → List Byte
  | [] => zeros 16
  | h :: _ => (sha256 h).take 16

/-- Whether a legal log, newest entry first, is made of 64-byte entries of which each carries in bytes 48 to 63 the
chain value of the entries before it (R167). -/
def chainedLog : List (List Byte) → Bool
  | [] => true
  | e :: rest => e.length == 64 && slice e 48 16 == chainValue rest && chainedLog rest

/-- The sum of a block's sixteen rate registers modulo 2^64. -/
def Block.rateSum (b : Block) : Dword := b.rates.toList.foldl (fun a r => a + r) 0

/-- Whether in every block of every point the total is the sum of the rate registers (R166, step 4). -/
def BilS.sums (b : BilS) : Prop := ∀ (n : Fin 8) (c : Fin 12), b.points[n].blocks[c].total = b.points[n].blocks[c].rateSum

/-! ### What a command leaves alone -/

/-- The rows of the register table before a block's own (R21). -/
def rowBase : Nat → Nat
  | 0 => 0
  | n + 1 => rowBase n + (blockRegs n).length

/-- The number of rows: of registers, and one for the MSI-X table and its pending-bit array (R244). -/
def rowCount : Nat := rowBase 14 + 1

/-- The row of the register table that an offset lies in: a register, or an array of like registers; then the MSI-X
words; then one for every offset without a register. -/
def rowOf (off : Nat) : Nat :=
  match (blockRegs (off / 0x10000)).findIdx? (fun d => d.covers off) with
  | some i => rowBase (off / 0x10000) + i
  | none => if inMsixTable off || inMsixPba off then rowBase 14 else rowBase 14 + 1

/-- The parts of the state besides its registers and the queue. Memory stands twice: `mem`, every byte; `memPcie`,
every byte while the host port is the PCIe endpoint (over the octal-SPI port the ring entries that the module writes
for the host lie in ring memory, R246). -/
inductive Part where
  | time | isl | met | vot | bil | tpt | lsw | saf | host | ques | fab | mtl | key | ldp | upd | mem | out | free | memPcie
  deriving DecidableEq, Repr

/-- Whether a part is the same in two states. -/
def Part.same (p : Part) (s t : State) : Prop :=
  match p with
  | .time => t.time = s.time | .isl => t.isl = s.isl | .met => t.met = s.met | .vot => t.vot = s.vot
  | .bil => t.bil = s.bil | .tpt => t.tpt = s.tpt | .lsw => t.lsw = s.lsw | .saf => t.saf = s.saf
  | .host => t.host = s.host | .ques => t.ques = s.ques | .fab => t.fab = s.fab | .mtl => t.mtl = s.mtl
  | .key => t.key = s.key | .ldp => t.ldp = s.ldp | .upd => t.upd = s.upd
  | .mem => ∀ a, memGet t.mem a = memGet s.mem a
  | .out => t.out = s.out | .free => t.free = s.free
  | .memPcie => s.pcie = true → ∀ a, memGet t.mem a = memGet s.mem a

/-- The frame of a command: in `t`, which follows on `s`, only the parts named and only registers of the rows in
which the named offsets lie may differ from `s`; the queue is the same. Memory that is not named keeps every byte. -/
structure Frame (parts : List Part) (regs : List Nat) (s t : State) : Prop where
  pending : t.pending = s.pending
  part : ∀ p, p ∉ parts → p.same s t
  reg : ∀ off, rowOf off ≤ rowBase 14 → rowOf off ∉ regs.map rowOf → t.reg off = s.reg off

/-- The frame of a command that writes single registers: besides the parts named only the registers at the named
offsets may differ. -/
structure FrameAt (parts : List Part) (offs : List Nat) (s t : State) : Prop where
  pending : t.pending = s.pending
  part : ∀ p, p ∉ parts → p.same s t
  reg : ∀ off, off ∉ offs → t.reg off = s.reg off

/-- The registers that an event can change besides its own cause: the ring indices and errors, the pending interrupts
and the MSI-X words (R249 to R251, R254, R261). -/
def eventRegs : List Nat :=
  [R.HI_SQ_STATUS 0, R.HI_CQ_STATUS 0, R.HI_EQ_STATUS 0, R.HI_IRQ_PEND_LO, R.HI_IRQ_PEND_HI, 0x18000]

/-- The registers that a load-switch channel's change shows in (R201 to R218). -/
def switchRegs : List Nat := [R.LSW_STATUS, R.LSW_THERM, R.LSW_CMD, R.LSW_CH_STAT 0]

/-- What a command may change: the parts of the state besides its registers, and one register of each row of the
register table that it may write; none where that may be any register: a reset or a start, an access to a register
that its operands name, and an update step, which may restart an island. -/
def mayChange (c : Instr) : List Part × Option (List Nat) :=
  match c with
  | .registerWrite _ _ _ => ([.met, .vot, .bil, .tpt, .lsw, .saf, .host, .fab, .mtl, .key, .ldp, .mem, .out, .free, .memPcie],
      none)
  | .quantumBoundary => ([.time, .met, .vot, .bil, .host, .mem, .out, .free, .memPcie],
      some (eventRegs ++ [R.MG_FAULT_LAST, R.MET_STATUS, R.MET_FD_ERR 0, R.MET_MB_STAT 0, R.MET_CH_TEMP 0,
       R.MET_CH_LINKERR 0, R.VOT_STATUS, R.VOT_DISAG, R.VOT_REVER, R.VOT_REJOIN, R.VOT_CH_DEV 0, R.BIL_RATE_NOW,
       R.BIL_TIME_STATUS, R.BIL_LOG_STATUS, R.BIL_SERVO_SUM, R.BIL_DEM_CFG 0, R.TPT_STATE 0, R.PTN_CP 0]))
  | .crossingStall _ _ _ => ([.time, .isl, .met, .vot, .bil, .tpt, .lsw, .saf, .host, .fab, .mtl, .key, .upd, .mem, .out, .memPcie],
      none)
  | .crossingReopen _ _ => ([.isl, .met, .host, .mem, .out], some (eventRegs))
  | .clockMonitorFault _ _ => ([.time, .isl, .met, .vot, .bil, .tpt, .lsw, .saf, .host, .fab, .mtl, .key, .upd, .mem, .out, .memPcie],
      none)
  | .referenceFault => ([.bil, .tpt, .lsw, .saf, .host, .fab, .mem, .out],
      some (eventRegs ++ switchRegs ++ [R.MG_CLKMON_STATUS, R.MG_FAULT_LAST, R.BIL_TIME_STATUS, R.BIL_LOG_STATUS,
       R.TPT_IM 0, R.TPT_STATE 0, R.PTN_CP 0, R.SAF_STATUS, R.SAF_OUT, R.FAB_REP_SEQ]))
  | .watchdogExpiry _ => ([.time, .isl, .met, .vot, .bil, .tpt, .lsw, .saf, .host, .fab, .mtl, .key, .upd, .mem, .out, .memPcie],
      none)
  | .lockstepError => ([.time, .isl, .met, .vot, .bil, .tpt, .lsw, .saf, .host, .fab, .mtl, .key, .upd, .mem, .out, .memPcie],
      none)
  | .vlRestart => ([.time, .isl, .met, .vot, .bil, .tpt, .host, .fab, .ldp, .mem, .out],
      some (eventRegs ++ [R.MG_BOOT_STATUS, R.MG_ISLAND_STATE, R.BIL_RATE_NOW, R.BIL_NEXT_BOUND_LO,
       R.BIL_NEXT_BOUND_HI, R.BIL_TIME_STATUS, R.BIL_LASTCLOSE_LO, R.BIL_LASTCLOSE_HI, R.BIL_PERIOD_NO,
       R.BIL_LOG_STATUS, R.BIL_RDG_SEQ_LO, R.BIL_RDG_SEQ_HI, R.BIL_DEM_LAST 0, R.BIL_DEM_STAT 0, R.FAB_REP_SEQ,
       R.LDP_CTRL, R.LDP_STATUS, R.LDP_STRESS 0, R.LDP_DIRTY 0]))
  | .scrubRead _ _ _ _ _ => ([.time, .isl, .met, .vot, .bil, .tpt, .lsw, .saf, .host, .fab, .mtl, .key, .upd, .mem, .out, .memPcie],
      none)
  | .linkFrame _ _ => ([.met, .host, .mem, .out, .free, .memPcie],
      some (eventRegs ++ [R.MET_STATUS, R.MET_CH_LINKERR 0, R.MET_CH_OVR 0, R.MET_CH_REFDEV 0]))
  | .linkTimeout _ => ([.host, .mem, .out], some (eventRegs ++ [R.MET_STATUS]))
  | .referenceComparison _ _ _ => ([.met, .host, .mem, .out],
      some (eventRegs ++ [R.MET_STATUS, R.MET_REFCHK, R.MET_STEST_CTRL]))
  | .channelRecordComplete _ => ([.met, .free], some [R.MET_STATUS])
  | .phaseConditionSet _ _ _ => ([.met], some [])
  | .phaseConditionClear _ _ _ => ([.met], some [])
  | .rcmTrip _ _ _ => ([.met], some [])
  | .startTestRequest _ => ([.host, .mem, .out], some (eventRegs ++ [R.MET_STEST_CTRL]))
  | .startTest _ => ([.host], some [R.MET_STEST_CTRL])
  | .startTestBegin _ => ([.met], some [R.MET_STEST_CTRL, R.MET_TPCOND 0])
  | .startTestEnd _ => ([.met, .vot, .bil, .tpt, .lsw, .host, .mem, .out],
      some (eventRegs ++ switchRegs ++ [R.MG_FAULT_LAST, R.MET_STEST_CTRL, R.MET_STEST_RESULT, R.MET_TPCOND 0,
       R.VOT_STATUS, R.VOT_REVER, R.BIL_LOG_STATUS]))
  | .supplyLossWarning _ => ([.isl, .met, .tpt, .lsw, .host, .fab, .mtl, .key, .ldp, .mem, .out, .free, .memPcie],
      some (eventRegs ++ switchRegs ++ [R.MG_FAULT_LAST, R.MET_STATUS, R.MET_PFAIL_STATUS, R.MET_STEST_CTRL, R.MET_TPCOND 0,
       R.MET_CH_TEMP 0, R.MET_CH_LINKERR 0, R.TPT_IM 0, R.TPT_STATE 0, R.PTN_CP 0, R.MTL_STATUS, R.MTL_NB_LINK 0,
       R.FAB_PORT_STATUS 0, R.KEY_STATUS, R.KEY_RDG_KID, R.LDP_STATUS]))
  | .supplyLossSave => ([.isl, .bil, .host, .ldp, .mem, .out], some (eventRegs ++ [R.BIL_LOG_STATUS]))
  | .saveComplete => ([.isl], some [R.MET_PFAIL_STATUS])
  | .supplyLossRestart => ([.time, .isl, .met, .vot, .bil, .saf, .host, .fab, .mtl, .key, .upd, .mem, .out, .memPcie],
      none)
  | .pulseEdge _ _ _ _ => ([.met], some [])
  | .modbusPollDue _ => ([.met, .out], some [])
  | .modbusResponse _ _ _ => ([.met, .host, .mem, .out], some (eventRegs))
  | .modbusTimeout _ => ([.met, .host, .mem, .out], some (eventRegs))
  | .modbusValueStale _ => ([.met, .host, .mem, .out], some (eventRegs))
  | .totaliserCheck _ => ([.met, .host, .mem, .out], some (eventRegs))
  | .fieldRecordArrival _ => ([.met], some [])
  | .fieldRecordLate _ => ([.met, .host, .mem, .out], some (eventRegs))
  | .substitutionStop _ => ([.tpt, .lsw, .host, .mem, .out],
      some (eventRegs ++ switchRegs ++ [R.TPT_IM 0, R.TPT_STATE 0, R.PTN_CP 0]))
  | .quantumRecordArrival _ _ => ([.met, .vot, .bil, .tpt, .lsw, .host, .fab, .ldp, .mem, .out],
      some (eventRegs ++ switchRegs ++ [R.MG_FAULT_LAST, R.MET_TPCOND 0, R.MET_FLSTAT 0, R.MET_PROV_SEQ,
       R.MET_PROV_Q_LO, R.MET_PROV_Q_HI, R.MET_PROV_STATUS, R.MET_PROV_PT_FLAGS 0, R.MET_PROV_PT_FLSTAT 0,
       R.MET_PROV_PT_SLOT_LO 0 0, R.MET_PROV_PT_SLOT_LO 0 1, R.MET_PROV_PT_SLOT_LO 0 2, R.MET_PROV_PT_SLOT_LO 0 3,
       R.MET_PROV_PT_SLOT_HI 0 0, R.MET_PROV_PT_SLOT_HI 0 1, R.MET_PROV_PT_SLOT_HI 0 2, R.MET_PROV_PT_SLOT_HI 0 3,
       R.MET_CH_LASTQ_LO 0, R.MET_CH_LASTQ_HI 0, R.VOT_STATUS, R.VOT_DISAG, R.VOT_REVER, R.VOT_CONFQ_LO,
       R.VOT_CONFQ_HI, R.VOT_CNT_RETRACT, R.VOT_CNT_HOLD, R.VOT_CH_DEV 0, R.BIL_RATE_NOW, R.BIL_NEXT_BOUND_LO,
       R.BIL_NEXT_BOUND_HI, R.BIL_TIME_STATUS, R.BIL_LASTCLOSE_LO, R.BIL_LASTCLOSE_HI, R.BIL_PERIOD_NO,
       R.BIL_LOG_STATUS, R.BIL_RDG_SEQ_LO, R.BIL_RDG_SEQ_HI, R.BIL_DEM_LAST 0, R.BIL_DEM_STAT 0, R.TPT_IM 0,
       R.TPT_STATE 0, R.PTN_CP 0, R.PTN_COUP 0, R.FAB_REP_SEQ, R.LDP_DIRTY 0]))
  | .resolutionDeadline => ([.met, .vot, .bil, .tpt, .lsw, .host, .fab, .ldp, .mem, .out],
      some (eventRegs ++ switchRegs ++ [R.MG_FAULT_LAST, R.MET_TPCOND 0, R.MET_FLSTAT 0, R.MET_PROV_SEQ,
       R.MET_PROV_Q_LO, R.MET_PROV_Q_HI, R.MET_PROV_STATUS, R.MET_PROV_PT_FLAGS 0, R.MET_PROV_PT_FLSTAT 0,
       R.MET_PROV_PT_SLOT_LO 0 0, R.MET_PROV_PT_SLOT_LO 0 1, R.MET_PROV_PT_SLOT_LO 0 2, R.MET_PROV_PT_SLOT_LO 0 3,
       R.MET_PROV_PT_SLOT_HI 0 0, R.MET_PROV_PT_SLOT_HI 0 1, R.MET_PROV_PT_SLOT_HI 0 2, R.MET_PROV_PT_SLOT_HI 0 3,
       R.VOT_STATUS, R.VOT_DISAG, R.VOT_REVER, R.VOT_CONFQ_LO, R.VOT_CONFQ_HI, R.VOT_CNT_RETRACT, R.VOT_CNT_HOLD,
       R.VOT_CH_DEV 0, R.BIL_RATE_NOW, R.BIL_NEXT_BOUND_LO, R.BIL_NEXT_BOUND_HI, R.BIL_TIME_STATUS,
       R.BIL_LASTCLOSE_LO, R.BIL_LASTCLOSE_HI, R.BIL_PERIOD_NO, R.BIL_LOG_STATUS, R.BIL_RDG_SEQ_LO, R.BIL_RDG_SEQ_HI,
       R.BIL_DEM_LAST 0, R.BIL_DEM_STAT 0, R.TPT_IM 0, R.TPT_STATE 0, R.PTN_CP 0, R.PTN_COUP 0, R.FAB_REP_SEQ,
       R.LDP_DIRTY 0]))
  | .reverificationBegin _ => ([.vot, .bil, .host, .mem, .out],
      some (eventRegs ++ [R.VOT_STATUS, R.VOT_DISAG, R.VOT_REVER, R.BIL_LOG_STATUS]))
  | .reverify _ => ([.vot, .bil, .host, .mem, .out],
      some (eventRegs ++ [R.VOT_CTRL, R.VOT_STATUS, R.VOT_DISAG, R.VOT_REVER, R.BIL_LOG_STATUS]))
  | .forceOut _ => ([.vot, .bil, .host, .mem, .out],
      some (eventRegs ++ [R.VOT_CTRL, R.VOT_STATUS, R.VOT_DISAG, R.VOT_REVER, R.BIL_LOG_STATUS]))
  | .channelRejoin _ => ([.vot, .bil, .host, .mem, .out],
      some (eventRegs ++ [R.MG_FAULT_LAST, R.VOT_STATUS, R.VOT_DISAG, R.VOT_REVER, R.VOT_REJOIN, R.VOT_CH_DEV 0,
       R.BIL_LOG_STATUS]))
  | .votTolWrite _ _ => ([.met, .bil, .host, .mem, .out], some (eventRegs ++ [R.VOT_TOL 0, R.BIL_LOG_STATUS]))
  | .signatureComplete => ([.bil, .tpt, .lsw, .host, .fab, .mem, .out, .free],
      some (eventRegs ++ switchRegs ++ [R.TPT_IM 0, R.TPT_STATE 0, R.PTN_CP 0, R.FAB_REP_SEQ]))
  | .storeEntryWrite => ([.bil, .mem, .memPcie], some [])
  | .slewComplete => ([.time], some [R.BIL_TIME_STATUS])
  | .servoMonth => ([.bil, .host, .mem, .out], some (eventRegs ++ [R.BIL_LOG_STATUS, R.BIL_SERVO_SUM]))
  | .timeQualityExpiry => ([.bil, .host, .mem, .out], some (eventRegs ++ [R.BIL_TIME_STATUS, R.BIL_LOG_STATUS]))
  | .fabricTimeMismatch => ([.bil, .host, .mem, .out], some (eventRegs ++ [R.BIL_TIME_STATUS, R.BIL_LOG_STATUS]))
  | .loadCalibrationSet _ => ([.met, .bil, .host, .key, .mem, .out],
      some (eventRegs ++ [R.MET_CAL_ID, R.MET_CAL_CRC, R.BIL_LOG_STATUS, R.KEY_CHG_LEFT]))
  | .loadTariffStructure _ => ([.bil, .host, .key, .mem, .out],
      some (eventRegs ++ [R.BIL_TAR_ID, R.BIL_NEXT_BOUND_LO, R.BIL_NEXT_BOUND_HI, R.BIL_LOG_STATUS, R.KEY_CHG_LEFT]))
  | .closeBillingPeriod _ => ([.bil, .host], some [])
  | .takeReading _ => ([.bil, .host], some [])
  | .timeCorrection _ => ([.time, .bil, .host, .key, .mem, .out],
      some (eventRegs ++ [R.BIL_NEXT_BOUND_LO, R.BIL_NEXT_BOUND_HI, R.BIL_TIME_STATUS, R.BIL_LOG_STATUS,
       R.KEY_STATUS, R.KEY_RDG_KID]))
  | .timeSet _ => ([.time, .bil, .host, .key, .mem, .out],
      some (eventRegs ++ [R.BIL_NEXT_BOUND_LO, R.BIL_NEXT_BOUND_HI, R.BIL_TIME_STATUS, R.BIL_LOG_STATUS,
       R.KEY_STATUS, R.KEY_RDG_KID]))
  | .waveformCapture _ => ([.met, .host], some [])
  | .noOperation _ => ([.host], some [])
  | .locateStore _ => ([.host], some [])
  | .assignPointType _ => ([.met, .bil, .host, .key, .mem, .out],
      some (eventRegs ++ [R.BIL_LOG_STATUS, R.KEY_CHG_LEFT]))
  | .identify _ => ([.tpt, .lsw, .host, .mem, .out],
      some (eventRegs ++ switchRegs ++ [R.TPT_IM 0, R.TPT_STATE 0, R.TPT_SESSION 0, R.PTN_CP 0]))
  | .authorise _ => ([.bil, .tpt, .lsw, .host, .fab, .mem, .out],
      some (eventRegs ++ switchRegs ++ [R.TPT_IM 0, R.TPT_STATE 0, R.PTN_CP 0, R.FAB_REP_SEQ]))
  | .revocationStatus _ => ([.tpt, .lsw, .host, .mem, .out],
      some (eventRegs ++ switchRegs ++ [R.TPT_IM 0, R.TPT_STATE 0, R.PTN_CP 0]))
  | .stopSession _ => ([.bil, .tpt, .lsw, .host, .fab, .mem, .out],
      some (eventRegs ++ switchRegs ++ [R.TPT_IM 0, R.TPT_STATE 0, R.PTN_CP 0, R.FAB_REP_SEQ]))
  | .clearFault _ => ([.tpt, .lsw, .host, .mem, .out],
      some (eventRegs ++ switchRegs ++ [R.TPT_IM 0, R.TPT_STATE 0, R.PTN_CP 0]))
  | .weldCheckEnd _ _ => ([.tpt, .lsw, .host, .mem, .out],
      some (eventRegs ++ switchRegs ++ [R.TPT_IM 0, R.TPT_STATE 0, R.PTN_CP 0]))
  | .serviceState _ => ([.host], some [R.TPT_STATE 0, R.PTN_CP 0])
  | .hostCurrentLimit _ => ([.tpt, .host], some [R.PTN_CP 0])
  | .clearRcmTrip _ => ([.met, .host], some [R.MET_TPCOND 0])
  | .loadContractTable _ => ([.tpt, .host], some [R.TPT_CTAB_STATUS])
  | .pilotStateChange _ _ _ _ => ([.bil, .tpt, .lsw, .host, .fab, .mem, .out],
      some (eventRegs ++ switchRegs ++ [R.BIL_RDG_SEQ_LO, R.BIL_RDG_SEQ_HI, R.TPT_IM 0, R.TPT_STATE 0, R.PTN_CP 0,
       R.PTN_PP 0, R.PTN_COUP 0, R.FAB_REP_SEQ]))
  | .handshakeTimeout _ => ([.bil, .tpt, .lsw, .host, .fab, .mem, .out],
      some (eventRegs ++ switchRegs ++ [R.TPT_IM 0, R.TPT_STATE 0, R.PTN_CP 0, R.FAB_REP_SEQ]))
  | .authorisationTimeout _ => ([.bil, .tpt, .lsw, .host, .fab, .mem, .out],
      some (eventRegs ++ switchRegs ++ [R.TPT_IM 0, R.TPT_STATE 0, R.PTN_CP 0, R.FAB_REP_SEQ]))
  | .readyTimeout _ => ([.bil, .tpt, .lsw, .host, .fab, .mem, .out],
      some (eventRegs ++ switchRegs ++ [R.TPT_IM 0, R.TPT_STATE 0, R.PTN_CP 0, R.FAB_REP_SEQ]))
  | .checksPassed _ => ([.bil, .tpt, .lsw, .host, .mem, .out],
      some (eventRegs ++ switchRegs ++ [R.BIL_RDG_SEQ_LO, R.BIL_RDG_SEQ_HI, R.TPT_IM 0, R.TPT_STATE 0, R.PTN_CP 0]))
  | .checkTimeout _ _ => ([.bil, .tpt, .lsw, .host, .fab, .mem, .out],
      some (eventRegs ++ switchRegs ++ [R.TPT_IM 0, R.TPT_STATE 0, R.PTN_CP 0, R.FAB_REP_SEQ]))
  | .overcurrentViolation _ => ([.bil, .tpt, .lsw, .host, .fab, .mem, .out],
      some (eventRegs ++ switchRegs ++ [R.TPT_IM 0, R.TPT_STATE 0, R.PTN_CP 0, R.PTN_ERR 0, R.FAB_REP_SEQ]))
  | .vehicleMessage _ _ => ([.bil, .tpt, .lsw, .host, .fab, .mem, .out],
      some (eventRegs ++ switchRegs ++ [R.BIL_RDG_SEQ_LO, R.BIL_RDG_SEQ_HI, R.TPT_IM 0, R.TPT_STATE 0,
       R.TPT_SESSION 0, R.PTN_CP 0, R.PTN_ERR 0, R.FAB_REP_SEQ]))
  | .seccDiscoveryTimeout _ => ([.bil, .tpt, .lsw, .host, .fab, .mem, .out],
      some (eventRegs ++ switchRegs ++ [R.TPT_IM 0, R.TPT_STATE 0, R.PTN_CP 0, R.FAB_REP_SEQ]))
  | .fallbackPilotFEnd _ => ([.tpt], some [R.PTN_CP 0])
  | .vehicleMessageTimeout _ => ([.bil, .tpt, .lsw, .host, .fab, .mem, .out],
      some (eventRegs ++ switchRegs ++ [R.TPT_IM 0, R.TPT_STATE 0, R.PTN_CP 0, R.PTN_ERR 0, R.FAB_REP_SEQ]))
  | .couplingDetect _ _ => ([.tpt, .lsw, .host, .mem, .out, .free],
      some (eventRegs ++ switchRegs ++ [R.TPT_IM 0, R.TPT_STATE 0, R.PTN_CP 0, R.PTN_COUP 0]))
  | .couplingAbsent _ _ => ([.bil, .tpt, .lsw, .host, .fab, .mem, .out],
      some (eventRegs ++ switchRegs ++ [R.TPT_IM 0, R.TPT_STATE 0, R.PTN_CP 0, R.PTN_COUP 0, R.FAB_REP_SEQ]))
  | .couplingAttemptTimeout _ => ([.bil, .tpt, .lsw, .host, .fab, .mem, .out],
      some (eventRegs ++ switchRegs ++ [R.TPT_IM 0, R.TPT_STATE 0, R.PTN_CP 0, R.FAB_REP_SEQ]))
  | .couplingIdentityFrame _ _ => ([.tpt, .lsw, .host, .mem, .out],
      some (eventRegs ++ switchRegs ++ [R.TPT_IM 0, R.TPT_STATE 0, R.TPT_SESSION 0, R.PTN_CP 0, R.PTN_COUP 0]))
  | .couplingMessage _ _ => ([.bil, .tpt, .lsw, .host, .fab, .mem, .out],
      some (eventRegs ++ switchRegs ++ [R.BIL_RDG_SEQ_LO, R.BIL_RDG_SEQ_HI, R.TPT_IM 0, R.TPT_STATE 0,
       R.TPT_SESSION 0, R.PTN_CP 0, R.PTN_COUP 0, R.FAB_REP_SEQ]))
  | .couplingHeartbeatLost _ => ([.bil, .tpt, .lsw, .host, .fab, .mem, .out],
      some (eventRegs ++ switchRegs ++ [R.TPT_IM 0, R.TPT_STATE 0, R.PTN_CP 0, R.PTN_ERR 0, R.FAB_REP_SEQ]))
  | .stackCommandSend _ => ([.tpt, .out, .free], some [])
  | .stackStatusFrame _ _ _ => ([.bil, .tpt, .lsw, .host, .fab, .mem, .out],
      some (eventRegs ++ switchRegs ++ [R.TPT_IM 0, R.TPT_STATE 0, R.PTN_CP 0, R.FAB_REP_SEQ]))
  | .stackStatusTimeout _ => ([.bil, .tpt, .lsw, .host, .fab, .mem, .out],
      some (eventRegs ++ switchRegs ++ [R.TPT_IM 0, R.TPT_STATE 0, R.PTN_CP 0, R.FAB_REP_SEQ]))
  | .stackCurrentMismatch _ => ([.bil, .tpt, .lsw, .host, .fab, .mem, .out],
      some (eventRegs ++ switchRegs ++ [R.TPT_IM 0, R.TPT_STATE 0, R.PTN_CP 0, R.FAB_REP_SEQ]))
  | .rcmTestTimeout _ => ([.met, .bil, .tpt, .lsw, .host, .fab, .mem, .out],
      some (eventRegs ++ switchRegs ++ [R.MET_TPCOND 0, R.TPT_IM 0, R.TPT_STATE 0, R.PTN_CP 0, R.FAB_REP_SEQ]))
  | .insulationMeasurement _ _ => ([.bil, .tpt, .lsw, .host, .fab, .mem, .out],
      some (eventRegs ++ switchRegs ++ [R.TPT_IM 0, R.TPT_STATE 0, R.PTN_CP 0, R.FAB_REP_SEQ]))
  | .leakTestFillEnd _ => ([.tpt, .lsw], some (switchRegs))
  | .leakTestSettleEnd _ => ([.tpt], some [])
  | .leakTestEnd _ => ([.bil, .tpt, .lsw, .host, .fab, .mem, .out],
      some (eventRegs ++ switchRegs ++ [R.TPT_IM 0, R.TPT_STATE 0, R.PTN_CP 0, R.FAB_REP_SEQ]))
  | .safeStateReport _ => ([.bil, .tpt, .lsw, .host, .fab, .mem, .out],
      some (eventRegs ++ switchRegs ++ [R.BIL_RDG_SEQ_LO, R.BIL_RDG_SEQ_HI, R.TPT_IM 0, R.TPT_STATE 0, R.PTN_CP 0,
       R.FAB_REP_SEQ]))
  | .switchConfirmTimeout _ => ([.bil, .tpt, .lsw, .host, .fab, .mem, .out],
      some (eventRegs ++ switchRegs ++ [R.BIL_RDG_SEQ_LO, R.BIL_RDG_SEQ_HI, R.TPT_IM 0, R.TPT_STATE 0, R.PTN_CP 0,
       R.FAB_REP_SEQ]))
  | .dcContactorOpenTimeout _ => ([.lsw], some (switchRegs))
  | .shortDetected _ => ([.bil, .tpt, .lsw, .host, .fab, .mem, .out],
      some (eventRegs ++ switchRegs ++ [R.MG_FAULT_LAST, R.TPT_IM 0, R.TPT_STATE 0, R.PTN_CP 0, R.LSW_LATCH,
       R.LSW_CH_CNT 0, R.FAB_REP_SEQ]))
  | .overcurrent _ => ([.bil, .tpt, .lsw, .host, .fab, .mem, .out],
      some (eventRegs ++ switchRegs ++ [R.TPT_IM 0, R.TPT_STATE 0, R.PTN_CP 0, R.LSW_LATCH, R.LSW_CH_CNT 0,
       R.FAB_REP_SEQ]))
  | .retryPauseEnd _ => ([.lsw], some [R.LSW_CH_STAT 0])
  | .retrySequenceReset _ => ([], some [R.LSW_CH_STAT 0])
  | .inrushEnd _ => ([], some [R.LSW_CH_STAT 0])
  | .openLoad _ => ([.host, .mem, .out], some (eventRegs ++ [R.LSW_CH_STAT 0]))
  | .openLoadClear _ => ([], some [R.LSW_CH_STAT 0])
  | .aggregateOverload _ _ => ([.lsw], some [R.LSW_AGG])
  | .shedStep _ => ([.bil, .tpt, .lsw, .host, .fab, .mem, .out],
      some (eventRegs ++ switchRegs ++ [R.TPT_IM 0, R.TPT_STATE 0, R.PTN_CP 0, R.FAB_REP_SEQ]))
  | .shedReturn _ => ([.lsw], some [R.LSW_AGG])
  | .shedRestoreStep => ([.lsw], some [R.LSW_THERM, R.LSW_CH_STAT 0])
  | .arrayTemperature _ => ([.bil, .tpt, .lsw, .host, .fab, .mem, .out],
      some (eventRegs ++ switchRegs ++ [R.TPT_IM 0, R.TPT_STATE 0, R.PTN_CP 0, R.FAB_REP_SEQ]))
  | .pwmPeriodStart _ => ([.lsw], some [R.LSW_CH_STAT 0])
  | .vfieldDip _ => ([.lsw], some [R.LSW_STATUS, R.LSW_CH_STAT 0])
  | .uvOff _ => ([.bil, .tpt, .lsw, .saf, .host, .fab, .ldp, .mem, .out],
      some (eventRegs ++ switchRegs ++ [R.TPT_IM 0, R.TPT_STATE 0, R.PTN_CP 0, R.SAF_STATUS, R.SAF_OUT,
       R.FAB_REP_SEQ, R.LDP_STATUS]))
  | .uvRecovery _ => ([.lsw, .ldp], some [R.LSW_STATUS, R.LSW_CH_STAT 0, R.LDP_STATUS])
  | .channelReclaim _ => ([.lsw], some (switchRegs))
  | .holdExpiry => ([.lsw, .host, .mem, .out], some (eventRegs ++ switchRegs))
  | .lswCmdWrite _ => ([.lsw, .host, .mem, .out], some (eventRegs ++ switchRegs))
  | .latchClear _ => ([.host, .mem, .out], some (eventRegs ++ [R.LSW_LATCH, R.LSW_CH_STAT 0]))
  | .lswAggRead => ([.host, .mem, .out], some (eventRegs ++ [R.LSW_AGG]))
  | .switchHostChannels _ => ([.lsw, .host], some (switchRegs))
  | .clearLatches _ => ([.host], some [R.LSW_LATCH, R.LSW_CH_STAT 0])
  | .safetyInputFiltered _ _ _ _ _ _ => ([.bil, .tpt, .lsw, .saf, .host, .fab, .mem, .out],
      some (eventRegs ++ switchRegs ++ [R.MG_FAULT_LAST, R.TPT_IM 0, R.TPT_STATE 0, R.PTN_CP 0, R.SAF_STATUS,
       R.SAF_IN, R.SAF_OUT, R.SAF_FAULT, R.SAF_TWOHAND, R.FAB_REP_SEQ]))
  | .sfScan => ([.bil, .tpt, .lsw, .saf, .host, .fab, .mem, .out],
      some (eventRegs ++ switchRegs ++ [R.TPT_IM 0, R.TPT_STATE 0, R.PTN_CP 0, R.SAF_STATUS, R.SAF_OUT,
       R.FAB_REP_SEQ]))
  | .safetyDiscrepancy _ _ => ([.lsw, .saf, .host, .mem, .out],
      some (eventRegs ++ [R.MG_FAULT_LAST, R.LSW_CH_STAT 0, R.SAF_STATUS, R.SAF_OUT, R.SAF_FAULT]))
  | .outputTest _ _ _ => ([.lsw, .saf, .host, .mem, .out],
      some (eventRegs ++ [R.MG_FAULT_LAST, R.LSW_CH_STAT 0, R.SAF_STATUS, R.SAF_OUT, R.SAF_FAULT]))
  | .switchStuck _ _ _ => ([.lsw, .saf, .host, .mem, .out],
      some (eventRegs ++ [R.MG_FAULT_LAST, R.LSW_CH_STAT 0, R.SAF_STATUS, R.SAF_OUT, R.SAF_FAULT]))
  | .inputDiscrepancy _ => ([.bil, .tpt, .lsw, .saf, .host, .fab, .mem, .out],
      some (eventRegs ++ switchRegs ++ [R.TPT_IM 0, R.TPT_STATE 0, R.PTN_CP 0, R.SAF_STATUS, R.SAF_OUT,
       R.FAB_REP_SEQ]))
  | .discrepancyClear _ => ([.bil, .tpt, .lsw, .saf, .host, .fab, .mem, .out],
      some (eventRegs ++ switchRegs ++ [R.TPT_IM 0, R.TPT_STATE 0, R.PTN_CP 0, R.SAF_STATUS, R.SAF_OUT,
       R.FAB_REP_SEQ]))
  | .twoHandTimeout _ _ _ => ([.bil, .tpt, .lsw, .saf, .host, .fab, .mem, .out],
      some (eventRegs ++ switchRegs ++ [R.MG_FAULT_LAST, R.TPT_IM 0, R.TPT_STATE 0, R.PTN_CP 0, R.SAF_STATUS,
       R.SAF_OUT, R.SAF_FAULT, R.SAF_TWOHAND, R.FAB_REP_SEQ]))
  | .safetyResetRequest _ => ([.bil, .tpt, .lsw, .saf, .host, .fab, .mem, .out],
      some (eventRegs ++ switchRegs ++ [R.TPT_IM 0, R.TPT_STATE 0, R.PTN_CP 0, R.SAF_STATUS, R.SAF_OUT,
       R.FAB_REP_SEQ]))
  | .safetyRestart _ => ([.bil, .tpt, .lsw, .saf, .host, .fab, .mem, .out],
      some (eventRegs ++ switchRegs ++ [R.TPT_IM 0, R.TPT_STATE 0, R.PTN_CP 0, R.SAF_STATUS, R.SAF_OUT,
       R.FAB_REP_SEQ]))
  | .startTestsComplete _ => ([.bil, .tpt, .lsw, .saf, .host, .fab, .mem, .out],
      some (eventRegs ++ switchRegs ++ [R.MG_FAULT_LAST, R.TPT_IM 0, R.TPT_STATE 0, R.PTN_CP 0, R.SAF_STATUS,
       R.SAF_OUT, R.SAF_FAULT, R.SAF_TWOHAND, R.FAB_REP_SEQ]))
  | .loadSafetyConfiguration _ => ([.saf, .host], some [])
  | .confirmSafetyConfiguration _ => ([.bil, .tpt, .lsw, .saf, .host, .fab, .mem, .out],
      some (eventRegs ++ switchRegs ++ [R.TPT_IM 0, R.TPT_STATE 0, R.PTN_CP 0, R.SAF_STATUS, R.SAF_CFG_CRC,
       R.SAF_OUT, R.SAF_FUNC 0, R.SAF_FUNC_MASK 0, R.FAB_REP_SEQ]))
  | .safetyConfigTimeout => ([.saf], some [])
  | .hostLinkReset => ([.host, .memPcie], none)
  | .hostLinkUp _ _ => ([.host, .mem, .out], some (eventRegs ++ [R.HI_STATUS]))
  | .linkRetrain _ => ([.host, .mem, .out], some (eventRegs ++ [R.HI_STATUS, R.HI_CTRL]))
  | .privLock _ => ([.host, .mem, .out], some (eventRegs ++ [R.HI_STATUS, R.HI_CTRL]))
  | .spiFrame _ _ _ => ([.met, .vot, .bil, .tpt, .lsw, .saf, .host, .fab, .mtl, .key, .ldp, .mem, .out, .free, .memPcie],
      none)
  | .windowFrame _ => ([.met, .vot, .bil, .tpt, .lsw, .saf, .host, .fab, .mtl, .key, .ldp, .mem, .out, .free, .memPcie],
      none)
  | .queueEnable _ _ => ([.host, .mem, .out],
      some (eventRegs ++ [R.HI_STATUS, R.HI_RING_ERR, R.HI_SQ_CFG 0, R.HI_CQ_CFG 0, R.HI_EQ_CFG 0]))
  | .queueDisable _ _ => ([.host, .mem, .out], some (eventRegs ++ [R.HI_SQ_CFG 0, R.HI_CQ_CFG 0, R.HI_EQ_CFG 0]))
  | .sqDoorbell _ _ _ _ => ([.host, .mem, .out], some (eventRegs ++ [R.HI_STATUS, R.HI_RING_ERR]))
  | .cqDoorbell _ _ => ([.host, .mem, .out], some (eventRegs ++ [R.HI_STATUS, R.HI_RING_ERR]))
  | .eqDoorbell _ _ => ([.host, .mem, .out], some (eventRegs ++ [R.HI_STATUS, R.HI_RING_ERR]))
  | .commandDispatch _ => ([.host], some [])
  | .commandResult _ => ([.host, .fab, .mtl, .key, .mem, .out],
      some (eventRegs ++ [R.HI_STATUS, R.HI_RING_ERR, R.FAB_PORT_ERR 0, R.KEY_STATUS, R.KEY_RDG_KID]))
  | .hostCompletionTimeout _ => ([.host, .mem, .out], some (eventRegs ++ [R.HI_STATUS, R.HI_RING_ERR]))
  | .coalescingTimeout _ => ([.host, .out], some [R.HI_IRQ_PEND_LO, R.HI_IRQ_PEND_HI, 0x18000])
  | .dataPortAccess _ _ => ([.host, .mem, .out, .free, .memPcie],
      some (eventRegs ++ [R.HI_DP_ADDR_LO, R.HI_DP_ADDR_HI, R.HI_DP_CTRL]))
  | .queueOffer _ _ _ _ _ => ([.host, .ques, .mem, .out],
      some (eventRegs ++ [R.MG_FAULT_LAST, R.QUE_STATUS, R.QUE_FILL 0, R.QUE_STAT 0, R.QUE_DROP 0]))
  | .queueRelease _ _ => ([.host, .ques, .mem, .out],
      some (eventRegs ++ [R.MG_FAULT_LAST, R.QUE_STATUS, R.QUE_FILL 0, R.QUE_STAT 0]))
  | .queStatRead _ => ([.host, .mem, .out], some (eventRegs ++ [R.QUE_STAT 0]))
  | .phyLinkUp _ => ([.fab], some [])
  | .phyLinkDown _ => ([.host, .fab, .mtl, .key, .mem, .out],
      some (eventRegs ++ [R.MG_FAULT_LAST, R.MTL_STATUS, R.MTL_NB_ID 0, R.MTL_NB_LINK 0, R.MTL_NB_CNT 0,
       R.FAB_STATUS, R.FAB_PORT_STATUS 0, R.FAB_PORT_ERR 0, R.KEY_STATUS, R.KEY_RDG_KID]))
  | .helloSend _ => ([.host, .fab, .mtl, .key, .mem, .out], some (eventRegs ++ [R.KEY_STATUS, R.KEY_RDG_KID]))
  | .helloReceive _ _ => ([.host, .fab, .mtl, .key, .mem, .out],
      some (eventRegs ++ [R.MTL_STATUS, R.MTL_NB_ID 0, R.MTL_NB_LINK 0, R.FAB_STATUS, R.FAB_PORT_STATUS 0,
       R.FAB_PORT_ERR 0, R.FAB_PORT_AUTH 0, R.KEY_STATUS, R.KEY_RDG_KID]))
  | .helloTimeout _ => ([.host, .fab, .mtl, .key, .mem, .out],
      some (eventRegs ++ [R.MG_FAULT_LAST, R.MTL_STATUS, R.MTL_NB_ID 0, R.MTL_NB_LINK 0, R.MTL_NB_CNT 0,
       R.FAB_STATUS, R.FAB_PORT_STATUS 0, R.FAB_PORT_ERR 0, R.KEY_STATUS, R.KEY_RDG_KID]))
  | .linkStateAdvertReceive _ _ => ([.host, .ques, .fab, .mtl, .key, .mem, .out],
      some (eventRegs ++ [R.MG_FAULT_LAST, R.MTL_STATUS, R.MTL_NB_ID 0, R.FAB_STATUS, R.FAB_NODES,
       R.FAB_PORT_STATUS 0, R.FAB_PORT_ERR 0, R.FAB_PORT_AUTH 0, R.KEY_STATUS, R.KEY_RDG_KID, R.QUE_STATUS,
       R.QUE_FILL 0, R.QUE_STAT 0]))
  | .advertRepeat => ([.host, .fab, .mtl, .key, .mem, .out], some (eventRegs ++ [R.KEY_STATUS, R.KEY_RDG_KID]))
  | .advertRefresh => ([.host, .fab, .mtl, .key, .mem, .out], some (eventRegs ++ [R.KEY_STATUS, R.KEY_RDG_KID]))
  | .advertAgeOut _ => ([.fab], some [R.FAB_NODES])
  | .addressClaimFinal => ([.host, .fab, .mtl, .key, .mem, .out],
      some (eventRegs ++ [R.FAB_STATUS, R.KEY_STATUS, R.KEY_RDG_KID]))
  | .linkCostUpdate _ _ _ => ([.host, .fab, .mtl, .key, .mem, .out],
      some (eventRegs ++ [R.MTL_NB_LINK 0, R.FAB_PORT_STATUS 0, R.KEY_STATUS, R.KEY_RDG_KID]))
  | .linkSuppressionEnd _ _ => ([.host, .fab, .mtl, .key, .mem, .out],
      some (eventRegs ++ [R.MTL_NB_ID 0, R.MTL_NB_LINK 0, R.FAB_PORT_STATUS 0, R.KEY_STATUS, R.KEY_RDG_KID]))
  | .routeRecompute => ([.host, .fab, .mtl, .mem, .out], some (eventRegs ++ [R.MTL_ADVSET, R.FAB_STATUS, R.FAB_NODES]))
  | .routedFrameForward _ _ => ([.host, .ques, .fab, .mtl, .key, .mem, .out],
      some (eventRegs ++ [R.MG_FAULT_LAST, R.MTL_STATUS, R.MTL_NB_ID 0, R.FAB_STATUS, R.FAB_DUP_STATUS, R.FAB_DROPS,
       R.FAB_PORT_STATUS 0, R.FAB_PORT_ERR 0, R.FAB_PORT_AUTH 0, R.KEY_STATUS, R.KEY_RDG_KID, R.QUE_STATUS,
       R.QUE_FILL 0, R.QUE_STAT 0, R.QUE_DROP 0]))
  | .quarantineEnd _ _ => ([.fab, .mtl], some [R.MTL_NB_ID 0, R.FAB_STATUS, R.FAB_PORT_STATUS 0])
  | .reportSpreadDue => ([.fab, .out], some [R.FAB_REP_SEQ])
  | .reportSend => ([.host, .fab, .mtl, .key, .mem, .out],
      some (eventRegs ++ [R.FAB_STATUS, R.FAB_PORT_ERR 0, R.KEY_STATUS, R.KEY_RDG_KID]))
  | .reportReceive _ _ _ => ([.host, .ques, .fab, .mem, .out],
      some (eventRegs ++ [R.MG_FAULT_LAST, R.FAB_DUP_STATUS, R.FAB_DROPS, R.QUE_STATUS, R.QUE_FILL 0, R.QUE_STAT 0,
       R.QUE_DROP 0]))
  | .collectorStoreWrite => ([.bil, .host, .ques, .mem, .out, .memPcie],
      some (eventRegs ++ [R.MG_FAULT_LAST, R.QUE_STATUS, R.QUE_FILL 0, R.QUE_STAT 0]))
  | .mmd5206Frame _ _ => ([.fab, .out], some [R.FAB_REP_SEQ, R.FAB_PORT_ERR 0])
  | .fabricCommandReceive _ => ([.host, .fab, .mtl, .key, .mem, .out],
      some (eventRegs ++ [R.FAB_PORT_ERR 0, R.KEY_STATUS, R.KEY_RDG_KID]))
  | .fabricCommandCompletion _ => ([.host, .fab, .key, .mem, .out], some (eventRegs ++ [R.KEY_STATUS, R.KEY_RDG_KID]))
  | .ptpMessageReceive _ _ => ([.time, .bil, .host, .fab, .mem, .out, .free],
      some (eventRegs ++ [R.BIL_NEXT_BOUND_LO, R.BIL_NEXT_BOUND_HI, R.BIL_TIME_STATUS, R.BIL_LOG_STATUS,
       R.FAB_PTP_STATUS, R.FAB_PTP_OFFSET]))
  | .ptpSyncSend _ => ([.out], some [])
  | .ptpAnnounceSend _ => ([.out], some [])
  | .ptpPeerDelaySend _ => ([.out], some [])
  | .ptpAnnounceTimeout _ => ([.host, .fab, .mem, .out], some (eventRegs ++ [R.FAB_PTP_STATUS]))
  | .ptpLockAcquired => ([.time, .bil, .host, .mem, .out],
      some (eventRegs ++ [R.BIL_TIME_STATUS, R.BIL_LOG_STATUS, R.FAB_PTP_STATUS]))
  | .ptpSyncLoss => ([.time, .host, .fab, .mem, .out], some (eventRegs ++ [R.FAB_PTP_STATUS]))
  | .pairHeartbeatSend => ([.out], some [])
  | .duplexMirror _ => ([.bil, .tpt, .lsw, .host, .fab, .mem, .out],
      some (eventRegs ++ switchRegs ++ [R.BIL_RDG_SEQ_LO, R.BIL_RDG_SEQ_HI, R.TPT_IM 0, R.TPT_STATE 0,
       R.TPT_SESSION 0, R.PTN_CP 0, R.FAB_STATUS, R.FAB_PAIR_STATUS]))
  | .pairReleaseReceive => ([.tpt, .lsw, .host, .fab, .mem, .out],
      some (eventRegs ++ switchRegs ++ [R.TPT_IM 0, R.TPT_STATE 0, R.TPT_SESSION 0, R.PTN_CP 0, R.PTN_COUP 0,
       R.FAB_STATUS, R.FAB_PAIR_STATUS, R.FAB_REP_SEQ]))
  | .pairHeartbeatLoss => ([.tpt, .lsw, .host, .fab, .mem, .out],
      some (eventRegs ++ switchRegs ++ [R.TPT_IM 0, R.TPT_STATE 0, R.TPT_SESSION 0, R.PTN_CP 0, R.PTN_COUP 0,
       R.FAB_STATUS, R.FAB_PAIR_STATUS, R.FAB_REP_SEQ]))
  | .pairLaneLoss _ => ([.host, .mem, .out], some (eventRegs ++ [R.FAB_PAIR_STATUS]))
  | .pairLaneReturn _ _ _ => ([.tpt, .lsw, .host, .fab, .mem, .out],
      some (eventRegs ++ switchRegs ++ [R.TPT_IM 0, R.TPT_STATE 0, R.PTN_CP 0, R.FAB_STATUS, R.FAB_PAIR_STATUS]))
  | .routeLookup _ => ([.host], some [])
  | .sendFabricCommand _ => ([.host, .fab, .mtl, .key, .mem, .out],
      some (eventRegs ++ [R.FAB_PORT_ERR 0, R.KEY_STATUS, R.KEY_RDG_KID]))
  | .fabricCommandTimeout => ([.host, .fab], some [])
  | .switchRole _ => ([.host, .fab, .out], some [])
  | .clearQuarantine _ => ([.host, .fab, .mtl], some [R.MTL_NB_ID 0, R.FAB_STATUS, R.FAB_PORT_STATUS 0])
  | .locateCollectorStore _ => ([.host], some [])
  | .advanceKeyEpoch _ => ([.host, .key], some [R.FAB_KEY_EPOCH])
  | .mtlDataFrame _ => ([.host, .ques, .fab, .mtl, .key, .mem, .out],
      some (eventRegs ++ [R.MG_FAULT_LAST, R.MTL_CNT_RX, R.MTL_CNT_ARQ, R.MTL_CNT_ERAS, R.MTL_NB_LINK 0,
       R.FAB_PORT_STATUS 0, R.KEY_STATUS, R.KEY_RDG_KID, R.QUE_STATUS, R.QUE_FILL 0, R.QUE_STAT 0, R.QUE_DROP 0]))
  | .mtlAckSend => ([.mtl, .out], some [R.MTL_STATUS, R.MTL_CNT_TX])
  | .mtlAcknowledgement _ => ([.host, .fab, .mtl, .key, .mem, .out],
      some (eventRegs ++ [R.MG_FAULT_LAST, R.MTL_STATUS, R.MTL_CNT_RX, R.MTL_CNT_ERAS, R.MTL_NB_ID 0,
       R.MTL_NB_LINK 0, R.MTL_NB_CNT 0, R.FAB_STATUS, R.FAB_PORT_STATUS 0, R.FAB_PORT_ERR 0, R.KEY_STATUS,
       R.KEY_RDG_KID]))
  | .mtlAckTimeout => ([.host, .fab, .mtl, .key, .mem, .out],
      some (eventRegs ++ [R.MG_FAULT_LAST, R.MTL_STATUS, R.MTL_CNT_ARQ, R.MTL_NB_ID 0, R.MTL_NB_LINK 0,
       R.MTL_NB_CNT 0, R.FAB_STATUS, R.FAB_PORT_STATUS 0, R.FAB_PORT_ERR 0, R.KEY_STATUS, R.KEY_RDG_KID]))
  | .mtlBackoffSlot => ([.host, .mtl, .mem, .out], some (eventRegs ++ [R.MTL_STATUS, R.MTL_CNT_TX]))
  | .mtlTransmissionEnd => ([.host, .fab, .mtl, .key, .mem, .out],
      some (eventRegs ++ [R.MG_FAULT_LAST, R.MTL_STATUS, R.MTL_NB_ID 0, R.MTL_NB_LINK 0, R.MTL_NB_CNT 0,
       R.FAB_STATUS, R.FAB_PORT_STATUS 0, R.FAB_PORT_ERR 0, R.KEY_STATUS, R.KEY_RDG_KID]))
  | .mtlTransmissionCutoff => ([.host, .fab, .mtl, .key, .mem, .out],
      some (eventRegs ++ [R.MG_FAULT_LAST, R.MTL_STATUS, R.MTL_CNT_ARQ, R.MTL_NB_ID 0, R.MTL_NB_LINK 0,
       R.MTL_NB_CNT 0, R.FAB_STATUS, R.FAB_PORT_STATUS 0, R.FAB_PORT_ERR 0, R.KEY_STATUS, R.KEY_RDG_KID]))
  | .mtlBeaconSend => ([.host, .mtl, .key, .mem, .out], some (eventRegs ++ [R.KEY_STATUS, R.KEY_RDG_KID]))
  | .mtlBeacon _ => ([.host, .fab, .mtl, .key, .mem, .out],
      some (eventRegs ++ [R.MTL_STATUS, R.MTL_CNT_RX, R.MTL_CNT_ERAS, R.MTL_NB_ID 0, R.MTL_NB_LINK 0, R.FAB_STATUS,
       R.FAB_PORT_STATUS 0, R.FAB_PORT_AUTH 0, R.KEY_STATUS, R.KEY_RDG_KID]))
  | .mtlRefreshSend => ([.host, .mtl, .key, .mem, .out], some (eventRegs ++ [R.KEY_STATUS, R.KEY_RDG_KID]))
  | .mtlRefreshList _ => ([.host, .fab, .mtl, .key, .mem, .out],
      some (eventRegs ++ [R.MTL_STATUS, R.MTL_CNT_RX, R.MTL_CNT_ERAS, R.MTL_NB_ID 0, R.MTL_NB_LINK 0, R.FAB_STATUS,
       R.FAB_NODES, R.FAB_PORT_STATUS 0, R.FAB_PORT_AUTH 0, R.KEY_STATUS, R.KEY_RDG_KID]))
  | .mtlWantedAdvertSend _ => ([.host, .fab, .mtl, .key, .mem, .out], some (eventRegs ++ [R.KEY_STATUS, R.KEY_RDG_KID]))
  | .mtlLinkTimeout _ => ([.host, .fab, .mtl, .key, .mem, .out],
      some (eventRegs ++ [R.MG_FAULT_LAST, R.MTL_STATUS, R.MTL_NB_ID 0, R.MTL_NB_LINK 0, R.MTL_NB_CNT 0,
       R.FAB_STATUS, R.FAB_PORT_STATUS 0, R.FAB_PORT_ERR 0, R.KEY_STATUS, R.KEY_RDG_KID]))
  | .mtlNeighbourFree _ => ([.mtl], some [R.MTL_NB_ID 0, R.MTL_NB_LINK 0, R.MTL_NB_CNT 0])
  | .mtlSegmentSetTimeout _ => ([.mtl], some [])
  | .lineDriverFault => ([.host, .fab, .mtl, .key, .mem, .out],
      some (eventRegs ++ [R.MG_FAULT_LAST, R.MTL_STATUS, R.MTL_CNT_ARQ, R.MTL_NB_ID 0, R.MTL_NB_LINK 0,
       R.MTL_NB_CNT 0, R.FAB_STATUS, R.FAB_PORT_STATUS 0, R.FAB_PORT_ERR 0, R.KEY_STATUS, R.KEY_RDG_KID]))
  | .lineDriverResume => ([.mtl], some [R.MTL_STATUS])
  | .lineNoiseMeasurement _ _ => ([.host], some [])
  | .clearToneQuarantine _ => ([.host, .fab, .mtl], some [R.MTL_NB_ID 0, R.FAB_STATUS, R.FAB_PORT_STATUS 0])
  | .keyUseRequest _ _ _ _ _ => ([.host, .key, .mem, .out],
      some (eventRegs ++ [R.MG_FAULT_LAST, R.KEY_STATUS, R.KEY_RDG_KID]))
  | .writeKey _ => ([.host, .key, .mem, .memPcie], some [R.KEY_STATUS, R.KEY_RDG_KID])
  | .deriveKey _ => ([.host, .key, .mem, .out], some (eventRegs ++ [R.KEY_STATUS, R.KEY_RDG_KID]))
  | .destroyKey _ => ([.host, .key, .mem, .out], some (eventRegs ++ [R.KEY_STATUS, R.KEY_RDG_KID]))
  | .keyStatement _ => ([.host, .mem, .free, .memPcie], some [])
  | .attest _ => ([.host, .key, .mem, .out, .memPcie], some (eventRegs ++ [R.KEY_STATUS, R.KEY_RDG_KID]))
  | .setMeterIdentity _ => ([.bil, .host, .key, .mem, .out],
      some (eventRegs ++ [R.BIL_LOG_STATUS, R.KEY_STATUS, R.KEY_CHG_LEFT, R.KEY_IDENT_LO, R.KEY_IDENT_HI,
       R.KEY_RDG_KID]))
  | .enrolIntegratorKey _ => ([.bil, .host, .key, .mem, .out],
      some (eventRegs ++ [R.BIL_LOG_STATUS, R.KEY_CHG_LEFT, R.KEY_INTEG]))
  | .selectDestructionModes _ => ([.bil, .host, .mem, .out], some (eventRegs ++ [R.BIL_LOG_STATUS, R.KEY_LIFE]))
  | .debugPort _ => ([.host, .mem, .out], some (eventRegs ++ [R.KEY_STATUS]))
  | .debugKill _ => ([.bil, .host, .key, .mem, .out],
      some (eventRegs ++ [R.BIL_LOG_STATUS, R.KEY_STATUS, R.KEY_LIFE, R.KEY_CHG_LEFT]))
  | .tamperInput _ => ([.host, .key, .mem, .out],
      some (eventRegs ++ [R.KEY_STATUS, R.KEY_LIFE, R.KEY_RDG_KID, R.KEY_TMP_STAT]))
  | .sealChange _ => ([.bil, .host, .mem, .out], some (eventRegs ++ [R.BIL_LOG_STATUS, R.KEY_STATUS]))
  | .displayPowerOn _ => ([.host, .ldp, .mem, .out], some (eventRegs ++ [R.LDP_CTRL, R.LDP_STATUS]))
  | .displayPowerOff _ => ([.host, .ldp, .mem, .out], some (eventRegs ++ [R.LDP_CTRL, R.LDP_STATUS]))
  | .displaySequenceStep => ([.ldp, .mem, .out, .memPcie], some [R.LDP_STATUS, R.LDP_VCOM_NOW, R.LDP_DIRTY 0])
  | .panelFault => ([.host, .ldp, .mem, .out], some (eventRegs ++ [R.LDP_STATUS]))
  | .railFault => ([.host, .ldp, .mem, .out], some (eventRegs ++ [R.LDP_STATUS]))
  | .fastDischargeComplete => ([.host, .ldp, .mem, .out, .memPcie], some (eventRegs ++ [R.LDP_STATUS]))
  | .commonToggle => ([.ldp, .mem, .out, .memPcie], some [R.LDP_STATUS, R.LDP_CNT])
  | .stressCount => ([], some [R.LDP_STRESS 0])
  | .vcomTrimUpdate => ([.host, .ldp, .mem, .out], some (eventRegs ++ [R.LDP_VCOM_NOW]))
  | .displayPassStart => ([.ldp, .mem, .out, .memPcie], some [R.LDP_STATUS, R.LDP_CNT, R.LDP_DIRTY 0])
  | .lineTransferComplete => ([.ldp, .mem, .out, .memPcie], some [R.LDP_STATUS, R.LDP_CNT])
  | .displayPassEnd => ([.ldp, .mem, .out, .memPcie], some [R.LDP_STATUS, R.LDP_CNT, R.LDP_DIRTY 0])
  | .legalPageAdvance => ([], some [R.LDP_STATUS])
  | .writeOpenLines _ => ([.host, .ldp, .mem, .memPcie], some [R.LDP_DIRTY 0])
  | .storeFrame _ => ([.host, .mem, .memPcie], some [])
  | .showStoredFrame _ => ([.host, .ldp, .mem, .memPcie], some [R.LDP_DIRTY 0])
  | .powerOnReset _ _ _ _ => ([.time, .isl, .met, .vot, .bil, .tpt, .lsw, .saf, .host, .ques, .fab, .mtl, .key, .ldp, .upd, .mem, .out, .free, .memPcie],
      none)
  | .islandStartComplete _ => ([.time, .isl, .vot, .bil, .tpt, .lsw, .saf, .host, .ques, .fab, .mtl, .key, .ldp, .upd, .mem, .out, .free, .memPcie],
      none)
  | .nreset => ([.time, .isl, .met, .vot, .bil, .saf, .host, .fab, .mtl, .key, .upd, .mem, .out, .memPcie], none)
  | .resetModuleOrIsland _ => ([.time, .isl, .met, .vot, .bil, .tpt, .saf, .host, .fab, .mtl, .key, .upd, .mem, .out, .memPcie],
      none)
  | .moduleResetExecute => ([.time, .isl, .met, .vot, .bil, .saf, .host, .fab, .mtl, .key, .upd, .mem, .out, .memPcie],
      none)
  | .receiveContainerPart _ => ([.host, .upd, .mem, .memPcie], some [R.UPD_INCOMING])
  | .stageContainer _ _ => ([.host, .key, .upd, .mem, .out],
      some (eventRegs ++ [R.KEY_STATUS, R.KEY_RDG_KID, R.UPD_STATUS, R.UPD_SLOT 1, R.UPD_ENG_STAT 0]))
  | .activate _ => ([.host, .upd], some [R.UPD_STATUS, R.UPD_SLOT 1, R.UPD_ENG_STAT 0])
  | .updateStep _ => ([.bil, .tpt, .host, .upd, .mem, .out, .memPcie], none)
  | .engineRunningReport _ => ([.host, .upd, .mem, .out],
      some (eventRegs ++ [R.UPD_STATUS, R.UPD_SLOT 1, R.UPD_ENG_STAT 8, R.UPD_ENG_STAT 0]))
  | .updateStepTimeout => ([.bil, .tpt, .host, .upd, .mem, .out, .memPcie], none)
  | .healthReport _ => ([.host, .upd, .mem, .out],
      some (eventRegs ++ [R.UPD_STATUS, R.UPD_SLOT 1, R.UPD_ENG_STAT 8, R.UPD_ENG_STAT 0]))
  | .confirmHealth _ => ([.host, .upd, .mem, .out],
      some (eventRegs ++ [R.UPD_STATUS, R.UPD_SLOT 1, R.UPD_ENG_STAT 8, R.UPD_ENG_STAT 0]))
  | .catchWindowEnd => ([.bil, .tpt, .host, .upd, .mem, .out, .memPcie], none)
  | .revert _ => ([.host, .upd], some [R.UPD_STATUS, R.UPD_SLOT 1, R.UPD_ENG_STAT 0])
  | .shellTemperatureSample _ _ => ([.isl, .met, .tpt, .lsw, .host, .fab, .mtl, .key, .ldp, .mem, .out, .free, .memPcie],
      some (eventRegs ++ switchRegs ++ [R.MG_TEMP, R.MET_STATUS, R.MET_STEST_CTRL, R.MET_TPCOND 0, R.MET_CH_TEMP 0,
       R.MET_CH_LINKERR 0, R.TPT_IM 0, R.TPT_STATE 0, R.PTN_CP 0, R.MTL_STATUS, R.MTL_NB_LINK 0, R.FAB_PORT_STATUS 0,
       R.KEY_STATUS, R.KEY_RDG_KID, R.LDP_STATUS]))
  | .thermalRestart _ => ([.time, .isl, .met, .vot, .bil, .saf, .host, .fab, .mtl, .key, .upd, .mem, .out, .memPcie],
      none)
  | .mgTempRead => ([.host, .mem, .out], some (eventRegs ++ [R.MG_TEMP]))
  | .i2cTransfer _ _ => ([.host, .mem, .out], some (eventRegs ++ [R.MG_I2C_STAT]))
  | .shellSupplyFault => ([.isl, .met, .vot, .bil, .tpt, .lsw, .saf, .host, .ques, .fab, .mtl, .key, .ldp, .upd, .mem, .out, .memPcie],
      none)
  | .rtcOscillatorStop => ([.time], some [])
  | .pairUp _ _ _ => ([.tpt, .lsw, .host, .fab, .mem, .out],
      some (eventRegs ++ switchRegs ++ [R.TPT_IM 0, R.TPT_STATE 0, R.PTN_CP 0, R.FAB_STATUS, R.FAB_PAIR_STATUS]))
  | .mediumBusy => ([.mtl], some [R.MTL_STATUS])
  | .mediumIdle _ => ([.host, .mtl, .mem, .out], some (eventRegs ++ [R.MTL_STATUS, R.MTL_CNT_TX]))
  | .airtimeLimitEnd => ([], some [R.MTL_STATUS])
  | .lbusyRelease => ([.ldp, .mem, .out, .memPcie], some [R.LDP_STATUS, R.LDP_CNT])
  | .tamperInputReturn _ => ([.key], some [R.KEY_TMP_STAT])
  | .switchCellOvertemperature _ => ([.bil, .tpt, .lsw, .host, .fab, .mem, .out],
      some (eventRegs ++ switchRegs ++ [R.TPT_IM 0, R.TPT_STATE 0, R.PTN_CP 0, R.LSW_LATCH, R.LSW_CH_CNT 0,
       R.FAB_REP_SEQ]))

/-- A command passes the checks 1 to 4 of R260 for its row of the catalogue. -/
abbrev State.admits (s : State) (d : Desc) (c : CmdSpec) (ranges : List (Nat × Bool) := []) : Prop :=
  s.cmdFail d c c.priv.toList ranges = none

/-- What every step keeps. -/
structure State.Sound (s : State) : Prop where
  mem : Mem.wf s.mem = true
  log : chainedLog s.bil.log = true
  sums : s.bil.sums

end Sys2Proof.Machine
end

