-- ==== Sys2Proof/WellFormed.lean ====
section
/-! DEFINITION. Which commands can reach the module: the operands that the type of a command still allows and its
bus, frame or entry format does not. `exec` is total: it gives an ill-formed command a meaning too. -/

namespace Sys2Proof

/-- A descriptor holds 64 bytes (R252). -/
def Desc.wellFormed (d : Desc) : Bool := d.bytes.length == 64

/-- A data-port transaction lies within the 4 KiB of BAR2 (R22, R263). -/
def DpOp.wellFormed : DpOp → Bool
  | .read n => decide (0 < n) && decide (n ≤ 0x1000)
  | .write l => decide (0 < l.length) && decide (l.length ≤ 0x1000)

/-- The line coder hands over 4 header bytes, 28 N body bytes and the sorting of the N body codewords (R316, R317). -/
def MtlRx.wellFormed (r : MtlRx) : Bool :=
  r.header.length == 4 && r.body.length == 28 * r.bodyErr.length && decide (1 ≤ r.bodyErr.length) && decide (r.bodyErr.length ≤ 16)

/-- No channel named twice. -/
def distinct : List (Fin 3) → Bool
  | [] => true
  | c :: t => !t.contains c && distinct t

/-- The descriptor that a command carries. -/
def Instr.desc : Instr → Option Desc
  | .startTest d | .loadCalibrationSet d | .loadTariffStructure d | .closeBillingPeriod d | .takeReading d
  | .timeCorrection d | .timeSet d | .waveformCapture d | .noOperation d | .locateStore d | .assignPointType d
  | .identify d | .authorise d | .revocationStatus d | .stopSession d | .clearFault d | .serviceState d
  | .hostCurrentLimit d | .clearRcmTrip d | .loadContractTable d | .switchHostChannels d | .clearLatches d
  | .loadSafetyConfiguration d | .confirmSafetyConfiguration d | .routeLookup d | .sendFabricCommand d | .switchRole d
  | .clearQuarantine d | .locateCollectorStore d | .advanceKeyEpoch d | .lineNoiseMeasurement d _
  | .clearToneQuarantine d | .writeKey d | .deriveKey d | .destroyKey d | .keyStatement d | .attest d
  | .setMeterIdentity d | .enrolIntegratorKey d | .selectDestructionModes d | .debugPort d | .debugKill d
  | .writeOpenLines d | .storeFrame d | .showStoredFrame d | .resetModuleOrIsland d | .receiveContainerPart d
  | .stageContainer d _ | .activate d | .confirmHealth d | .revert d | .i2cTransfer d _ => some d
  | _ => none

/-- The operands of a command besides its descriptor. -/
def Instr.operandsOk : Instr → Bool
  | .registerWrite _ size v => (size == 1 || size == 2 || size == 4) && decide (v.toNat < 2 ^ (8 * size))
  | .crossingStall snd rcv _ | .crossingReopen snd rcv => decide (snd ≠ rcv)
  | .quantumRecordArrival arrived corrupt =>
    distinct arrived && distinct corrupt && arrived.all (fun c => !corrupt.contains c)
  | .pilotStateChange _ high low _ => decide (low ≤ high)
  | .stackStatusFrame _ _ frame => decide (frame.length ≤ 64)
  | .hostLinkUp gen width => decide (gen ≠ 0) && (width == 1 || width == 2)
  | .spiFrame _ n _ => decide (n ≤ 0x1000)
  | .sqDoorbell _ _ fetched _ => fetched.all (fun e => e.length == 64)
  | .dataPortAccess _ op => op.wellFormed
  | .linkCostUpdate _ bad _ => decide (bad ≤ 1000)
  | .mtlDataFrame rx | .mtlAcknowledgement rx | .mtlBeacon rx | .mtlRefreshList rx => rx.wellFormed
  | .lineNoiseMeasurement _ noise => noise.length == 4
  | _ => true

/-- Whether a command can reach the module. -/
def Instr.wellFormed (i : Instr) : Bool := i.operandsOk && i.desc.all Desc.wellFormed

end Sys2Proof
end

