-- ==== Sys2Proof/Certificates/Slice0/Obligations.lean ====
section
/-! DEFINITION. The statements for the provers. Each says of the model what its docstring says of the specification;
log <n> is the assumption log's row. A clause `exec c s = .next t` is a completion: the command answers that state. -/

section
open Sys2Proof Sys2Proof.Machine

/-- A step of a state with a command at the front of its queue is exec of that command on the state with the queue's rest. -/
def Obligations.StepRunsFront : Prop :=
  ∀ (c : Instr) (s : State), step { s with pending := c :: s.pending } = exec c s

/-- On an empty queue one microsecond of the quantum passes, but not its last, and nothing else changes: the model's choice (log 11). -/
def Obligations.IdleStep : Prop :=
  ∀ s : State, s.pending = [] →
    step s = .next { s with time :=
      { s.time with usInQ := if s.time.usInQ < 9999 then s.time.usInQ + 1 else s.time.usInQ,
                    now := if s.time.usInQ < 9999 then s.time.now + 1 else s.time.now } }

/-- The non-zero reset values that the register lines of the specification state, with every island held in start-up (R419) and every load switch off (R218). -/
def Obligations.ResetValues : Prop :=
  State.reset.reg R.MG_ISLAND_STATE = 0x3FFFFFF ∧ State.reset.reg R.MG_SCRUB_CTRL = 0x18 ∧ State.reset.reg R.HI_ID =
    0x7428B000 ∧ State.reset.reg R.HI_CTRL = 0x30 ∧ (∀ n < 16, State.reset.reg (R.HI_SQ_STATUS n) = 0x80000000) ∧ (∀ n
    < 16, State.reset.reg (R.HI_CQ_STATUS n) = 0x80000000) ∧ (∀ n < 4, State.reset.reg (R.HI_EQ_STATUS n) =
    0x80000000) ∧ (∀ n < 8, State.reset.reg (R.HI_EV_MASK n) = 0xFFFFFFFF) ∧ State.reset.reg R.MET_PFAIL_CFG = 0x323 ∧
    (∀ n < 24, State.reset.reg (R.MET_INSCALE n) = 0x3F800000) ∧ (∀ n < 8, State.reset.reg (R.MET_TPMAP_V n) =
    0xFFFFF) ∧ (∀ n < 8, State.reset.reg (R.MET_TPMAP_I n) = 0x1FFFFFF) ∧ (∀ n < 8, State.reset.reg (R.MET_TPNOM n) =
    0xC8008FC) ∧ (∀ n < 8, State.reset.reg (R.MET_TPLIM n) = 0x3228A0) ∧ (∀ n < 8, State.reset.reg (R.MET_FL_MAP n) =
    0xFFFFF) ∧ (∀ n < 8, State.reset.reg (R.MET_FL_PARAM n) = 0x53E8) ∧ (∀ n < 8, State.reset.reg (R.MET_FL_LIM n) =
    0x3C280A) ∧ (∀ n < 8, State.reset.reg (R.MET_FL_EXP n) = 0x3E803E80) ∧ (∀ n < 8, State.reset.reg (R.MET_FL_PREF n)
    = 0x42C80000) ∧ (∀ n < 8, State.reset.reg (R.MET_FL_TREF n) = 0x41A00000) ∧ (∀ n < 4, State.reset.reg
    (R.MET_FD_CFG n) = 0xA5100) ∧ (∀ n < 16, State.reset.reg (R.MET_MB_SRC n) = 0x1) ∧ (∀ n < 16, State.reset.reg
    (R.MET_MB_FMT n) = 0x4003E8) ∧ (∀ n < 16, State.reset.reg (R.MET_MB_SCALE n) = 0x3F800000) ∧ (∀ n < 16,
    State.reset.reg (R.MET_MB_MAX n) = 0x7F7FFFFF) ∧ (∀ n < 16, State.reset.reg (R.MET_MB_AGE n) = 0xBB80032) ∧
    State.reset.reg R.VOT_CTRL = 0x1 ∧ (∀ n < 8, State.reset.reg (R.VOT_TOL n) = 0x14010000) ∧ State.reset.reg
    R.BIL_PERIOD_CFG = 0x10100 ∧ State.reset.reg R.BIL_TIME_STATUS = 0x2 ∧ State.reset.reg R.BIL_TIME_CFG = 0x18 ∧ (∀
    n < 8, State.reset.reg (R.BIL_DEM_CFG n) = 0x113) ∧ (∀ n < 8, State.reset.reg (R.TPT_CFG n) = 0x10E2) ∧ (∀ n < 8,
    State.reset.reg (R.TPT_TIMES n) = 0x3C1E012C) ∧ (∀ n < 8, State.reset.reg (R.TPT_LIMIT n) = 0x640140) ∧ (∀ n < 8,
    State.reset.reg (R.TPT_LEAK n) = 0x1F40000) ∧ (∀ n < 2, State.reset.reg (R.PTN_CAN_CFG n) = 0x13) ∧ (∀ n < 8,
    State.reset.reg (R.PTN_PP n) = 0xFFFF) ∧ (∀ n < 8, State.reset.reg (R.LSW_PWM_PER n) = 0xC350) ∧ (∀ n < 16,
    State.reset.reg (R.LSW_CH_CFG n) = 0xC0000) ∧ (∀ n < 16, State.reset.reg (R.LSW_CH_LIM n) = 0x140A0519) ∧
    State.reset.reg R.MTL_CFG = 0x78418000 ∧ State.reset.reg R.MTL_TX = 0x19003C ∧ State.reset.reg R.MTL_TIMING =
    0xA0C05 ∧ State.reset.reg R.FAB_ID_CFG = 0x1 ∧ State.reset.reg R.FAB_REP_CFG = 0x1E0007 ∧ State.reset.reg
    R.FAB_KEY_CFG = 0x3FFFF00 ∧ State.reset.reg R.FAB_QUAR_CFG = 0x12C08C8 ∧ State.reset.reg R.FAB_PTP_CFG = 0x808000
    ∧ (∀ n < 4, State.reset.reg (R.FAB_PORT_CFG n) = 0xA00) ∧ State.reset.reg R.LDP_CTRL = 0x4001440 ∧ State.reset.reg
    R.LDP_GEOM = 0x8190F000 ∧ State.reset.reg R.LDP_LEGAL = 0x30C0 ∧ State.reset.reg R.LDP_VCOM = 0xFF9C ∧
    State.reset.reg R.UPD_CFG = 0x1FF2580 ∧
  (∀ i : Isl, State.reset.islState i = 3) ∧ State.reset.pending = [] ∧ State.reset.mem = [] ∧
  (∀ n : Fin 16, State.reset.lsOn n = false)

/-- The invariant of EveryStepSound holds at reset. -/
def Obligations.ResetSound : Prop :=
  State.reset.Sound

/-- Every step from a sound state leads to a sound state: canonical memory, the legal log a chain (R167), every total the sum of its rate registers modulo 2^64 (R166, step 4). -/
def Obligations.EveryStepSound : Prop :=
  ∀ s t : State, s.Sound → step s = .next t → t.Sound

/-- No command overwrites or erases an entry of the legal log (R167; the log is kept newest entry first), and a chain stays a chain. -/
def Obligations.LegalLogGrows : Prop :=
  ∀ (c : Instr) (s t : State), exec c s = .next t →
    s.bil.log <:+ t.bil.log ∧ (chainedLog s.bil.log = true → chainedLog t.bil.log = true)

/-- Every command answers a next state, leaves the queue alone and changes only what mayChange names for it: the parts of the state, and the rows of the register table. -/
def Obligations.EveryCommandFrame : Prop :=
  ∀ (c : Instr) (s : State), ∃ t, exec c s = .next t ∧ t.pending = s.pending ∧
    (∀ p, p ∉ (mayChange c).1 → p.same s t) ∧
    ∀ rows, (mayChange c).2 = some rows →
      ∀ off, rowOf off ≤ rowBase 14 → rowOf off ∉ rows.map rowOf → t.reg off = s.reg off

/-- Commands that store bytes leave every other byte of memory as it was (R150, R264, R340, R351, R353, R379, R393). Addresses of the frame buffer, the panel and the stores are the model's (log 7, log 18). -/
def Obligations.StoredBytes : Prop :=
  (∀ (s t : State) (d : Desc), Mem.wf s.mem = true → exec (.storeFrame d) s = .next t →
    ∀ a, a < frameSlot (d.n 24 2) ∨ frameSlot (d.n 24 2) + (s.staged d).length ≤ a → memGet t.mem a = memGet s.mem a) ∧
  (∀ (s t : State) (d : Desc), Mem.wf s.mem = true → exec (.writeOpenLines d) s = .next t →
    ∀ a, a < frameLine (d.n 24 2) ∨ frameLine (d.n 24 2 + d.n 26 2) + s.lineBytes ≤ a → memGet t.mem a = memGet s.mem a) ∧
  (∀ (s t : State) (d : Desc), Mem.wf s.mem = true → exec (.showStoredFrame d) s = .next t →
    ∀ a, a < frameLine 0 ∨ frameLine (s.get F.LDP_GEOM_HEIGHT) + s.lineBytes ≤ a → memGet t.mem a = memGet s.mem a) ∧
  (∀ (s t : State) (d : Desc), Mem.wf s.mem = true → exec (.writeKey d) s = .next t →
    ∀ a, a < d.n 8 8 ∨ d.n 8 8 + materialLen (d.n 26 1) ≤ a → memGet t.mem a = memGet s.mem a) ∧
  (∀ (s t : State) (d : Desc), Mem.wf s.mem = true → exec (.keyStatement d) s = .next t →
    ∀ a, a < d.n 8 8 ∨ d.n 8 8 + 236 ≤ a → memGet t.mem a = memGet s.mem a) ∧
  (∀ (s t : State) (d : Desc), Mem.wf s.mem = true → s.pcie = true → exec (.attest d) s = .next t →
    ∀ a, a < d.n 8 8 ∨ d.n 8 8 + 96 ≤ a → memGet t.mem a = memGet s.mem a) ∧
  (∀ (s t : State) (d : Desc), Mem.wf s.mem = true → exec (.receiveContainerPart d) s = .next t →
    ∀ a, a < incomingBase + d.n 24 4 ∨ incomingBase + d.n 24 4 + d.n 16 4 ≤ a → memGet t.mem a = memGet s.mem a) ∧
  (∀ (s t : State) (p : StorePkt) (rest : List StorePkt), Mem.wf s.mem = true → s.bil.store = p :: rest →
    exec .storeEntryWrite s = .next t →
    ∀ a, a < boathouseBase + ringAt p.kind p.point + s.storePos p.kind p.point p.bytes.length ∨
      boathouseBase + ringAt p.kind p.point + s.storePos p.kind p.point p.bytes.length + p.bytes.length ≤ a →
      memGet t.mem a = memGet s.mem a) ∧
  (∀ (s t : State) (off : Word) (op : DpOp), Mem.wf s.mem = true → s.pcie = true → exec (.dataPortAccess off op) s = .next t →
    ∀ a, a < stagingBase ∨ stagingBase + 0x80000 ≤ a → memGet t.mem a = memGet s.mem a) ∧
  (∀ (s t : State) (c : Instr), c ∈ [Instr.commonToggle, .displayPassStart, .displayPassEnd, .displaySequenceStep,
      .lbusyRelease, .lineTransferComplete] → Mem.wf s.mem = true → exec c s = .next t →
    ∀ a, a < panelBase → memGet t.mem a = memGet s.mem a)

/-- The checks 1 to 4 of R260 in their order, then the target island (R258) and the staged load (R265), whose place in the order is the model's reading (log 9); a sender without privileges changes nothing. -/
def Obligations.CommandChecks : Prop :=
  (∀ (s : State) (d : Desc) (c : CmdSpec) (ranges : List (Nat × Bool)) (body : State → State),
    (∀ b, c.priv.toList.find? (fun b => !((s.privs d.src).testBit b)) = some b →
      s.command d c ranges body = s.complete d 0x0003 b []) ∧
    (c.priv.toList.all (fun b => (s.privs d.src).testBit b) = true →
      (d.opcode ≠ c.opcode → s.command d c ranges body = s.complete d 0x0001 0 []) ∧
      (d.opcode = c.opcode →
        (∀ k, badField d c ranges = some k → s.command d c ranges body = s.complete d 0x0002 k []) ∧
        (badField d c ranges = none →
          (∀ k, stagedBad d c.staged = some k → s.command d c ranges body = s.complete d 0x0002 k []) ∧
          (stagedBad d c.staged = none →
            (s.takes c = false → s.command d c ranges body = s.complete d 0x000A c.isl.code []) ∧
            (s.takes c = true → (c.load && s.loading) = true → s.command d c ranges body = s.complete d 0x000B 0 []) ∧
            (s.takes c = true → (c.load && s.loading) = false → s.command d c ranges body = body s)))))) ∧
  ∀ (c : Instr) (s : State) (d : Desc), c.desc = some d → c ≠ .noOperation d → s.privs d.src = 0 →
    ∃ b, exec c s = .next (s.complete d 0x0003 b [])

/-- An admitted and enabled event writes one entry in the layout of R254 at the tail of its queue (R250, R255); a masked one writes nothing. That the sequence number counts only unmasked events to an enabled queue is the model's reading (log 8). -/
def Obligations.EventEntry : Prop :=
  (∀ (s : State) (e : Ev) (n : Fin 4), s.evLimited e = false →
    bitsOf (s.reg (R.HI_EV_MASK (e.src / 32))) (e.src % 32) (e.src % 32) ≠ 0 →
    bitsOf (s.reg (R.HI_EV_ROUTE (e.src / 16))) (2 * (e.src % 16) + 1) (2 * (e.src % 16)) = n.val →
    s.get (RingQ.eq n).en ≠ 0 → s.get (RingQ.eq n).err ≠ 1 → s.pcie = true → s.ringFull (.eq n) = false →
    (s.ring (.eq n)).gap = 0 →
    ∃ (rest : List Out) (entry : List Byte),
      (s.raise e).out = rest ++ .hostWrite (s.get64 (RingQ.eq n).off + 32 * s.get (RingQ.eq n).index) entry :: s.out ∧
      entry.length = 32 ∧ fld entry 0 1 = e.src % 2 ^ 8 ∧
      fld entry 1 1 = (s.ring (.eq n)).phase.toNat + 2 * e.p.toNat ∧ fld entry 2 1 = e.point % 2 ^ 8 ∧
      fld entry 3 1 = e.unit_ % 2 ^ 8 ∧ fld entry 4 4 = (s.ring (.eq n)).seq.toNat ∧
      fld entry 8 8 = (e.q.getD s.resolved) % 2 ^ 64 ∧ fld entry 16 8 = s.devTime % 2 ^ 64 ∧
      fld entry 24 8 = e.detail % 2 ^ 64 ∧ ((s.raise e).ring (.eq n)).seq = (s.ring (.eq n)).seq + 1) ∧
  ∀ (s : State) (e : Ev), bitsOf (s.reg (R.HI_EV_MASK (e.src / 32))) (e.src % 32) (e.src % 32) = 0 →
    (s.raise e).out = s.out ∧ (s.raise e).regs = s.regs ∧ (s.raise e).host.eq = s.host.eq

/-- The value of a confirmed slot (R122): the median of its agreeing set; of two values ⌊(a + b) / 2⌋; VOTED2, bit 5 of the record's flags, when any slot was confirmed from two values. -/
def Obligations.VotedValue : Prop :=
  (∀ (s : State) (p : Poll) (n ty k : Nat), k < usedSlots ty → (s.heldMask p n ty).testBit k = false →
    nth (s.confBlock p n ty).1.slots k 0 = setValue ((s.slotSet p n ty k).map Vote.value)) ∧
  (∀ a b c : Int, setValue [a, b, c] ∈ [a, b, c] ∧ 2 ≤ ([a, b, c].filter (fun x => decide (x ≤ setValue [a, b, c]))).length ∧
    2 ≤ ([a, b, c].filter (fun x => decide (setValue [a, b, c] ≤ x))).length) ∧
  (∀ a b : Int, setValue [a, b] = ⌊((a : Rat) + b) / 2⌋) ∧
  ∀ (s : State) (q : Nat) (p : Poll) (noProv : Bool),
    ((s.confRecord q p noProv).flags.toNat.testBit 5 = true ↔
      ∃ nt ∈ s.pollTypes p, ∃ k < usedSlots nt.2, (s.heldMask p nt.1 nt.2).testBit k = false ∧ (s.slotSet p nt.1 nt.2 k).length = 2)

/-- The agreeing set of a slot (R119, R120), over the values that are present, in the order of their channels. -/
def Obligations.AgreeingSet : Prop :=
  (∀ (s : State) (kind : Nat) (x y : Int), s.agree kind x y = true ↔
    (x - y).natAbs ≤ max (⌈(s.now (F.VOT_TOL_REL kind) : Rat) / 100000 * (max x.natAbs y.natAbs : Nat)⌉.toNat) (s.now (F.VOT_TOL_ABS kind))) ∧
  (∀ (s : State) (kind : Nat) (votes : List Vote),
    (∀ p ∈ pairs votes, s.agree kind p.1.value p.2.value = true) → s.agreeingSet kind votes = votes) ∧
  (∀ (s : State) (kind : Nat) (votes : List Vote), pairs votes ≠ [] →
    (∀ p ∈ pairs votes, s.agree kind p.1.value p.2.value = false) → s.agreeingSet kind votes = []) ∧
  ∀ (s : State) (kind : Nat) (votes : List Vote), (∀ v ∈ votes, v.chan < 3) →
    (∃ p ∈ pairs votes, s.agree kind p.1.value p.2.value = false) →
    (∃ p ∈ pairs votes, s.agree kind p.1.value p.2.value = true) →
    ∃ p ∈ pairs votes, s.agree kind p.1.value p.2.value = true ∧ s.agreeingSet kind votes = [p.1, p.2] ∧
      ∀ r ∈ pairs votes, s.agree kind r.1.value r.2.value = true →
        let d := fun (x : Vote × Vote) => (x.1.value - x.2.value).natAbs
        let late := fun (x : Vote × Vote) => max x.1.tick x.2.tick
        d p < d r ∨ (d p = d r ∧ (late p < late r ∨ (late p = late r ∧
          (p.1.chan < r.1.chan ∨ (p.1.chan = r.1.chan ∧ p.2.chan ≤ r.2.chan)))))

/-- The depth and the expiry flag of key slots (R337). -/
def Obligations.KeyDepth : Prop :=
  (∀ (s : State) (k : KeySlot), s.keySlot 0 = some k → k.depth = 0) ∧
  (∀ (s : State) (no : Nat) (k : KeySlot), 1 ≤ no → no ≤ 4 → s.keySlot no = some k → k.depth = 1) ∧
  (∀ (s : State) (d : Desc), s.admits d
    { opcode := 0x0701, priv := some 3, isl := .ks, params := [(24, 2), (26, 1), (27, 1), (28, 4), (32, 4), (36, 1)], staged := .len (materialLen (d.n 26 1)) (materialLen (d.n 26 1)) false }
    (attrRanges d) → s.fillable (d.n 24 2) = true → (d.n 26 1 < 3 ∨ (0 < beNat (s.staged d) ∧ beNat (s.staged d) <
    curveOrder (d.n 26 1))) → ∃ t k, exec (.writeKey d) s = .next t ∧ t.keySlot (d.n 24 2) = some k ∧ k.depth = 1) ∧
  (∀ (s : State) (d : Desc) (p : KeySlot), s.admits d
    { opcode := 0x0702, priv := some 3, isl := .ks, params := [(24, 2), (26, 1), (27, 1), (28, 4), (32, 4), (36, 1), (38, 2), (40, 1), (41, 1)], staged := .len (d.n 40 1 + d.n 41 1) (d.n 40 1 + d.n 41 1) false }
    (attrRanges d ++ [(38, decide (510 < d.n 38 2)), (40, d.n 40 1 == 0 || decide (64 < d.n 40 1)), (41, decide (64 <
    d.n 41 1))]) → s.fillable (d.n 24 2) = true → s.keySlot (d.n 38 2) = some p → p.valid = true → p.type_ = 1 →
    p.use.toNat.testBit 0 = true → p.no ≠ d.n 24 2 → p.depth < 8 → ((s.staged d).take (d.n 40 1)).take 4 ≠ ascii
    "MMD-" → ∃ t k, exec (.deriveKey d) s = .next t ∧ t.keySlot (d.n 24 2) = some k ∧ k.depth = p.depth + 1 ∧
    (p.expiry = true → k.expiry = true)) ∧
  ∀ (s : State) (d : Desc) (p : KeySlot), s.admits d
    { opcode := 0x0702, priv := some 3, isl := .ks, params := [(24, 2), (26, 1), (27, 1), (28, 4), (32, 4), (36, 1), (38, 2), (40, 1), (41, 1)], staged := .len (d.n 40 1 + d.n 41 1) (d.n 40 1 + d.n 41 1) false }
    (attrRanges d ++ [(38, decide (510 < d.n 38 2)), (40, d.n 40 1 == 0 || decide (64 < d.n 40 1)), (41, decide (64 <
    d.n 41 1))]) → s.fillable (d.n 24 2) = true → s.keySlot (d.n 38 2) = some p → p.valid = true → p.type_ = 1 →
    p.use.toNat.testBit 0 = true → p.no ≠ d.n 24 2 → 8 < p.depth + 1 → exec (.deriveKey d) s = .next (s.complete d
    0x0002 38 [])

/-- Island faults and fencing (R29 to R43). -/
def Obligations.IslandFaults : Prop :=
  (∀ (s : State) (snd rcv : Isl), s.open_ snd rcv = true → s.isl.stalls = [] → exec (.crossingStall snd rcv true) s =
    .next
    ({ ((((s.count F.MG_XING_STALL_COUNT 1).set F.MG_XING_STALL_LAST_ID (crossingId snd rcv)).raise { src := 2, unit_ := rcv.code }).fault 4 rcv).raise { src := 3, unit_ := rcv.code } with isl := { s.isl with fenced := s.isl.fenced ++ [(snd, rcv)], stalls := [(rcv, s.time.now)] } })) ∧
  (∀ (s : State) (snd rcv : Isl) (b : Bool), s.open_ snd rcv = false → exec (.crossingStall snd rcv b) s = .next (s)) ∧
  (∀ (s : State) (snd rcv : Isl), s.isl.fenced.contains (snd, rcv) = true → s.running snd = true → s.running rcv =
    true → rcv ≠ .vl → exec (.crossingReopen snd rcv) s = .next (State.restarted
    { s with isl := { s.isl with fenced := s.isl.fenced.filter (fun c => c != (snd, rcv)) } })) ∧
  (∀ (s : State) (i : Isl), i ≠ .tb → s.refFault = false → exec (.clockMonitorFault i false) s = .next ((((s.setBit
    F.MG_CLKMON_STATUS_LOCAL i.code true).raise { src := 6, unit_ := i.code }).fault 3 i).fenceIsland i 7)) ∧
  (∀ (s : State) (i : Isl), i ≠ .tb → s.refFault = true → exec (.clockMonitorFault i false) s = .next (((s.setBit
    F.MG_CLKMON_STATUS_LOCAL i.code true).raise { src := 6, unit_ := i.code }).fault 3 i)) ∧
  (∀ (s : State), s.running .tb = true → s.refFault = false → ∃ t, exec .referenceFault s = .next t ∧ t.get
    F.MG_CLKMON_STATUS_REF_FAULT = 1 ∧ t.get F.MG_FAULT_LAST_CLASS = 3 ∧ t.get F.MG_FAULT_LAST_ISLAND = Isl.code .tb ∧
    t.quality = 2) ∧
  (∀ (s : State) (e : Fin 20), s.running (engineIsl e.val) = true → engineIsl e.val ≠ .sf → exec (.watchdogExpiry e) s
    = .next ((((s.setBit F.MG_WDT_STATUS_EXPIRED e.val true).raise
    { src := 7, unit_ := (engineIsl e.val).code }).fault 5 (engineIsl e.val)).fenceIsland (engineIsl e.val) 6)) ∧
  (∀ (s : State) (e : Fin 20), s.running .sf = true → engineIsl e.val = .sf → exec (.watchdogExpiry e) s = .next
    (((((s.setBit F.MG_WDT_STATUS_EXPIRED e.val true).raise { src := 7, unit_ := Isl.code .sf }).safFault 6 15
    15).fault 5 .sf).fenceIsland .sf 6)) ∧
  (∀ (s : State), s.running .vl = true → exec .lockstepError s = .next ((((s.count F.MG_FAULT_LAST_LOCKSTEP 1).raise
    { src := 8, unit_ := Isl.code .vl }).fault 1 .vl).fenceIsland .vl 9)) ∧
  (∀ (s : State) (i : Isl) (m : Fin 4) (word : BitVec 24) (legalCopy : Bool), s.running i = true → exec (.scrubRead i
    m word .single legalCopy) s = .next (((s.setReg R.MG_ECC_LAST (i.code <<< 27 + m.val <<< 24 + word.toNat)).count
    F.MG_ECC_COUNT_CORR 1).raise { src := 9, unit_ := i.code, every := 1000000, whole := true })) ∧
  (∀ (s : State) (i : Isl) (m : Fin 4) (word : BitVec 24), s.running i = true → exec (.scrubRead i m word .double
    false) s = .next (((((s.setReg R.MG_ECC_LAST (1 <<< 31 + i.code <<< 27 + m.val <<< 24 + word.toNat)).count
    F.MG_ECC_COUNT_UNCORR 1).raise { src := 10, unit_ := i.code }).fault 6 i).fenceIsland i 8)) ∧
  (∀ (s : State) (word : BitVec 24), s.running .vl = true → exec (.scrubRead .vl 3 word .double true) s = .next
    ((((s.setReg R.MG_ECC_LAST (1 <<< 31 + Isl.code .vl <<< 27 + 3 <<< 24 + word.toNat)).count F.MG_ECC_COUNT_UNCORR
    1).raise { src := 10, unit_ := Isl.code .vl }).fault 6 .vl))

/-- Starts of islands and of the module (R41, R385 to R388). -/
def Obligations.IslandStarts : Prop :=
  (∀ (s : State) (i : Isl), s.get F.MG_RESET_CAUSE_START_SRC ≠ 0 → s.islState i = 2 → s.get F.MG_BOOT_STATUS_READY = 1
    → exec (.islandStartComplete i) s = .next ((s.startIsland i).checkReady)) ∧
  (∀ (s : State), s.islState .vl = 2 → exec .vlRestart s = .next ((((crossingsOf .vl).foldl (fun (s : State) c =>
    s.reopen c.1 c.2) ((s.setIsl .vl 0).vlStart s.isl.vlCause)).restarted).checkReady)) ∧
  (∀ (s : State), s.get F.MG_RESET_CAUSE_START_SRC ≠ 0 → exec .nreset s = .next (s.moduleStart 2)) ∧
  (∀ (s : State) (code : Nat), s.isl.resetPend = some code → exec .moduleResetExecute s = .next (s.moduleStart code)) ∧
  (∀ (s : State) (d : Desc) (n : Fin 16), s.admits d
    { opcode := 0x0C01, priv := some 1, isl := .mg, params := [(24, 1), (25, 1)] } [(24, decide (1 < d.n 24 1)), (25,
    (d.n 24 1 == 1) && (resetNamed (d.n 25 1)).isNone)] → d.n 24 1 = 0 → d.src = .sq n → exec (.resetModuleOrIsland d)
    s = .next (({ s with isl := { s.isl with resetPend := some 4 } } : State).ok d [])) ∧
  (∀ (s : State) (d : Desc) (i : Isl), s.admits d
    { opcode := 0x0C01, priv := some 1, isl := .mg, params := [(24, 1), (25, 1)] } [(24, decide (1 < d.n 24 1)), (25,
    (d.n 24 1 == 1) && (resetNamed (d.n 25 1)).isNone)] → d.n 24 1 = 1 → resetNamed (d.n 25 1) = some i → exec
    (.resetModuleOrIsland d) s = .next ((State.lostCommands
    { s with isl := { s.isl with resetCmd := s.isl.resetCmd ++ [(i, d)] } } i).islandReset i 0x0A))

/-- Supply loss, Shell temperature and power-on (R74 to R77, R381, R404, R408). That a warning source is recorded as a supply fault of PW is the model's reading (log 49). -/
def Obligations.SupplyEvents : Prop :=
  (∀ (s : State), s.running .tb = true → s.isl.supply = .normal → s.get F.MET_PFAIL_CFG_PIN_EN = 1 → exec
    (.supplyLossWarning .nPfail) s = .next (((s.set F.MET_PFAIL_STATUS_PIN_LOW 1).fault 2 .pw).warn)) ∧
  (∀ (s : State), s.running .tb = true → s.isl.supply = .normal → s.get F.MET_PFAIL_CFG_VF_EN = 1 → exec
    (.supplyLossWarning .fieldSupply) s = .next (((s.set F.MET_PFAIL_STATUS_VF_LOW 1).fault 2 .pw).warn)) ∧
  (∀ (s : State), s.get F.MET_PFAIL_CFG_PIN_EN = 0 → exec (.supplyLossWarning .nPfail) s = .next (s.set
    F.MET_PFAIL_STATUS_PIN_LOW 1)) ∧
  (∀ (s : State), s.isl.supply = .warned → exec .supplyLossSave s = .next (s.save)) ∧
  (∀ (s : State), s.isl.supply = .saving → exec .saveComplete s = .next
    (({ s with isl := { s.isl with supply := .saved } } : State).count F.MET_PFAIL_STATUS_COUNT 1)) ∧
  (∀ (s : State), s.isl.supply = .saved → s.isl.hotHold = false → exec .supplyLossRestart s = .next
    (((({ s with isl := { s.isl with supply := .normal, hotHold := false } } : State).set F.MET_PFAIL_STATUS_VF_LOW
    0).set F.MET_PFAIL_STATUS_PIN_LOW 0).moduleStart 3)) ∧
  (∀ (s : State), s.isl.hotHold = true → exec .supplyLossRestart s = .next (s)) ∧
  (∀ (s : State) (degC : Int) (b : Bool), degC < 120 → exec (.shellTemperatureSample degC b) s = .next (((s.set
    F.MG_TEMP_SHELL (ofSigned 9 degC)).set F.MG_TEMP_PEAK (ofSigned 9 (max (toSigned 9 (s.get F.MG_TEMP_PEAK))
    degC))).set F.MG_TEMP_HOT 0)) ∧
  (∀ (s : State) (degC : Int) (b : Bool), 120 ≤ degC → degC < 135 → exec (.shellTemperatureSample degC b) s = .next
    ((((s.set F.MG_TEMP_SHELL (ofSigned 9 degC)).set F.MG_TEMP_PEAK (ofSigned 9 (max (toSigned 9 (s.get
    F.MG_TEMP_PEAK)) degC))).set F.MG_TEMP_HOT 1).raise { src := 137, every := 60000000 })) ∧
  (∀ (s : State) (degC : Int), s.isl.hotHold = true → degC < 115 → s.isl.supply ≠ .saved → exec (.thermalRestart degC)
    s = .next ({ s with isl := { s.isl with hotHold := false } })) ∧
  (∀ (s : State) (degC : Int), s.isl.hotHold = true → degC < 115 → s.isl.supply = .saved → exec (.thermalRestart degC)
    s = .next (State.supplyRestart { s with isl := { s.isl with hotHold := false } })) ∧
  (∀ (s : State), s.running .hi = true → s.running .mg = true → exec .mgTempRead s = .next
    ({ s.set F.MG_TEMP_PEAK (s.get F.MG_TEMP_SHELL) with host := { s.host with readData := natLE 4 (s.reg R.MG_TEMP) } })) ∧
  (∀ (s : State), exec .rtcOscillatorStop s = .next ({ s with time := { s.time with oscStop := true } })) ∧
  (∀ (s : State), exec .shellSupplyFault s = .next ((s.fault 2 .pw).assertPor)) ∧
  (∀ (s : State) (straps : BitVec 2) (rtcUs : Nat) (osc health : Bool), exec (.powerOnReset straps rtcUs osc health) s
    = .next (s.powerOn straps.toNat rtcUs osc health))

/-- The host link (R244, R245, R259). -/
def Obligations.HostLink : Prop :=
  (∀ (s : State), ∃ t, exec .hostLinkReset s = .next t ∧ t.get F.HI_STATUS_PORT = s.get F.HI_STATUS_PORT ∧
    (t.host.results = s.host.results.filter (fun r => r.desc.remote)) ∧ t.host.fetched = HostS.reset.fetched ∧ t.get
    F.MG_RESET_CAUSE_ISL_SRC = 0x0B ∧ t.get F.MG_RESET_CAUSE_ISLAND = Isl.code .hi ∧ t.met = s.met ∧ t.bil = s.bil ∧
    t.tpt = s.tpt) ∧
  (∀ (s : State) (gen width : BitVec 2), exec (.hostLinkUp gen width) s = .next
    (((({ s with host := { s.host with linkGen := gen.toNat, linkChanged := false } } : State).set F.HI_STATUS_GEN
    (min gen.toNat (s.get F.HI_CTRL_GEN_CAP))).set F.HI_STATUS_WIDTH width.toNat).raise { src := 95 })) ∧
  (∀ (s : State) (v : Word), s.running .hi = true → bitsOf v.toNat 5 4 ≠ 0 → v.toNat.testBit 0 = false →
    v.toNat.testBit 6 = true → s.get F.HI_STATUS_GEN ≠ 0 → exec (.linkRetrain v) s = .next ((s.set F.HI_CTRL_GEN_CAP
    (bitsOf v.toNat 5 4)).set F.HI_STATUS_GEN (min s.host.linkGen (bitsOf v.toNat 5 4)))) ∧
  (∀ (s : State) (v : Word), s.running .hi = true → bitsOf v.toNat 5 4 ≠ 0 → v.toNat.testBit 0 = true →
    v.toNat.testBit 6 = false → exec (.privLock v) s = .next (((s.set F.HI_CTRL_GEN_CAP (bitsOf v.toNat 5 4)).set
    F.HI_CTRL_PRIV_LOCK 1).set F.HI_STATUS_PRIV_LOCKED 1)) ∧
  (∀ (s : State) (v : Word), s.running .hi = true → bitsOf v.toNat 5 4 = 0 → exec (.privLock v) s = .next (s.raise
    { src := 0 }))

/-- Ring queues (R248 to R262). That every entry up to the tail is fetched at the doorbell is the model's choice (log 12). -/
def Obligations.HostQueues : Prop :=
  (∀ (s : State) (q : RingQ) (v : Word), s.running .hi = true → s.ringIdle q = true → s.secondKeyadm q (s.newCfg q
    (putBit v.toNat 31 true)) = false → s.mayEnable q (s.newCfg q (putBit v.toNat 31 true)) = true → exec
    (.queueEnable q v) s = .next ((((s.setReg (q.off + 8) (s.newCfg q (putBit v.toNat 31 true))).set q.err 0).setReg
    (q.off + 12) 0).setRing q { RingS.reset with seq := (s.ring q).seq })) ∧
  (∀ (s : State) (q : RingQ) (v : Word), s.running .hi = true → s.ringIdle q = true → s.mayEnable q (s.newCfg q
    (putBit v.toNat 31 true)) = false → exec (.queueEnable q v) s = .next (s.raise { src := 0 })) ∧
  (∀ (s : State) (e : Fin 4) (v : Word), s.running .hi = true → s.get (F.HI_EQ_CFG_EN e.val) = 1 → s.sameCfg (.eq e)
    (putBit v.toNat 31 false) = true → exec (.queueDisable (.eq e) v) s = .next ((s.set (F.HI_EQ_CFG_EN e.val) 0).set
    (F.HI_EQ_STATUS_STOPPED e.val) 1)) ∧
  (∀ (s : State) (n : Fin 16) (v : Word), s.running .hi = true → s.get (F.HI_SQ_CFG_EN n.val) = 1 → s.sameCfg (.sq n)
    (putBit v.toNat 31 false) = true → exec (.queueDisable (.sq n) v) s = .next ((s.set (F.HI_SQ_CFG_EN n.val)
    0).sqStop n)) ∧
  (∀ (s : State) (n : Fin 16) (v : Word) (fetched : List (List Byte)), s.running .hi = true → s.pcie = true → s.get
    (F.HI_SQ_CFG_EN n.val) = 1 → s.get (F.HI_SQ_STATUS_ERR n.val) = 0 → s.get (RingQ.sq n).err = 0 → s.get (RingQ.sq
    n).index = 0 → s.host.sq[n].host = 0 → v.toNat = fetched.length → (∀ e ∈ fetched, e.length = 64) → fetched.length
    < s.get (RingQ.sq n).size → s.get (RingQ.sq n).size ≤ 4096 → exec (.sqDoorbell n v fetched false) s = .next
    ({ (s.setRing (.sq n) { s.host.sq[n] with host := v.toNat }).set (RingQ.sq n).index v.toNat with host := { (s.setRing (.sq n) { s.host.sq[n] with host := v.toNat }).host with fetched := s.host.fetched.set n (s.host.fetched[n] ++ fetched.map (fun e => ⟨.sq n, e⟩)) } })) ∧
  (∀ (s : State) (n : Fin 16) (v : Word) (fetched : List (List Byte)) (failed : Bool), s.running .hi = true → s.get
    (F.HI_SQ_CFG_EN n.val) = 1 → s.get (RingQ.sq n).err = 0 → s.get (RingQ.sq n).size ≤ bitsOf v.toNat 12 0 → exec
    (.sqDoorbell n v fetched failed) s = .next (s.ringError (.sq n))) ∧
  (∀ (s : State) (n : Fin 16) (v : Word), s.running .hi = true → s.get (RingQ.cq n).en = 1 → s.get (RingQ.cq n).err =
    0 → bitsOf v.toNat 12 0 < s.get (RingQ.cq n).size → (bitsOf v.toNat 12 0 + s.get (RingQ.cq n).size -
    s.host.cq[n].host) % s.get (RingQ.cq n).size ≤ (s.get (RingQ.cq n).index + s.get (RingQ.cq n).size -
    s.host.cq[n].host) % s.get (RingQ.cq n).size → exec (.cqDoorbell n v) s = .next ((s.setRing (.cq n)
    { s.host.cq[n] with host := bitsOf v.toNat 12 0 }).gapEntry (.cq n))) ∧
  (∀ (s : State) (e : Fin 4) (v : Word), s.running .hi = true → s.get (RingQ.eq e).en = 1 → s.get (RingQ.eq e).err = 0
    → bitsOf v.toNat 12 0 < s.get (RingQ.eq e).size → (bitsOf v.toNat 12 0 + s.get (RingQ.eq e).size -
    s.host.eq[e].host) % s.get (RingQ.eq e).size ≤ (s.get (RingQ.eq e).index + s.get (RingQ.eq e).size -
    s.host.eq[e].host) % s.get (RingQ.eq e).size → exec (.eqDoorbell e v) s = .next ((s.setRing (.eq e)
    { s.host.eq[e] with host := bitsOf v.toNat 12 0 }).gapEntry (.eq e))) ∧
  (∀ (s : State) (n : Fin 16) (d : Desc) (rest : List Desc), s.host.fetched[n] = d :: rest → s.host.inFlight = [] →
    (opcodeIsl d.opcode).isSome = true → exec (.commandDispatch n) s = .next
    ({ s with host := { s.host with fetched := s.host.fetched.set n rest, inFlight := [d] } })) ∧
  (∀ (s : State) (n : Fin 16) (d : Desc) (rest : List Desc), s.host.fetched[n] = d :: rest → s.host.inFlight = [] →
    opcodeIsl d.opcode = none → exec (.commandDispatch n) s = .next (State.complete
    { s with host := { s.host with fetched := s.host.fetched.set n rest, inFlight := [d] } } d 0x0001 0 [])) ∧
  (∀ (s : State) (q : RingQ), s.get q.en = 1 → s.get q.err = 0 → exec (.hostCompletionTimeout q) s = .next
    ((s.ringError q).raise { src := 93, unit_ := q.unit })) ∧
  (∀ (s : State) (e : Fin 4), s.get (RingQ.eq e).en = 1 → bitsOf (s.reg ((RingQ.eq e).off + 8)) 30 30 = 1 →
    s.host.eq[e].unsig ≠ 0 → exec (.coalescingTimeout (.eq e)) s = .next ((s.setRing (.eq e)
    { s.host.eq[e] with unsig := 0 }).signal (bitsOf (s.reg ((RingQ.eq e).off + 8)) 29 24))) ∧
  (∀ (s : State) (d : Desc), s.admits d { opcode := 0x0001, priv := none, isl := .hi } → exec (.noOperation d) s =
    .next (s.ok d []))

/-- Register writes (R6, R7, R10, R22, R48). That a value outside its range is discarded, whether the seal is open or not, is the model's reading (log 41, log 42). -/
def Obligations.RegisterAccess : Prop :=
  (∀ (s : State) (off : Word) (size : Nat) (v : Word), s.running .hi = true → ¬ (off.toNat % 4 = 0 ∧ size = 4 ∧
    assigned off.toNat = true ∧ s.serves off.toNat = true) → exec (.registerWrite off size v) s = .next (s.accessError
    off.toNat)) ∧
  (∀ (s : State) (off : Word) (size : Nat) (v : Word), s.running .hi = false → exec (.registerWrite off size v) s =
    .next (s)) ∧
  (∀ (s : State) (k : Fin 8) (v : Word), s.running .hi = true → exec (.registerWrite (BitVec.ofNat 32 (R.HI_EV_MASK
    k.val)) 4 v) s = .next (s.setReg (R.HI_EV_MASK k.val) v.toNat)) ∧
  (∀ (s : State) (v : Word), s.running .hi = true → exec (.registerWrite (BitVec.ofNat 32 R.HI_IRQ_PEND_LO) 4 v) s =
    .next (s.setReg R.HI_IRQ_PEND_LO (s.reg R.HI_IRQ_PEND_LO - (s.reg R.HI_IRQ_PEND_LO &&& v.toNat)))) ∧
  (∀ (s : State) (v : Word), s.running .hi = true → s.running .mg = true → ∃ t, exec (.registerWrite (BitVec.ofNat 32
    R.MG_PART) 4 v) s = .next t ∧ (∀ off, t.reg off = s.reg off) ∧ t.out = s.out ∧ t.host = s.host) ∧
  (∀ (s : State) (v : Word), s.running .hi = true → s.running .vl = true → s.sealOpen = false → 1 ≤ bitsOf v.toNat 7 0
    → bitsOf v.toNat 7 0 ≤ 168 → bitsOf v.toNat 7 0 ≠ s.get F.BIL_TIME_CFG_SYNC_MAX → exec (.registerWrite
    (BitVec.ofNat 32 R.BIL_TIME_CFG) 4 v) s = .next ((s.setReg R.BIL_TIME_CFG (s.reg R.BIL_TIME_CFG)).raise
    { src := 1 })) ∧
  (∀ (s : State) (v : Word), s.running .hi = true → s.running .vl = true → s.sealOpen = true → 1 ≤ bitsOf v.toNat 7 0
    → bitsOf v.toNat 7 0 ≤ 168 → exec (.registerWrite (BitVec.ofNat 32 R.BIL_TIME_CFG) 4 v) s = .next (s.set
    F.BIL_TIME_CFG_SYNC_MAX (bitsOf v.toNat 7 0))) ∧
  (∀ (s : State) (v : Word), s.running .hi = true → s.running .vl = true → (bitsOf v.toNat 7 0 = 0 ∨ 168 < bitsOf
    v.toNat 7 0) → exec (.registerWrite (BitVec.ofNat 32 R.BIL_TIME_CFG) 4 v) s = .next (s.discard)) ∧
  (∀ (s : State) (n : Fin 8) (v : Word), s.running .hi = true → s.running .vl = true → s.sealOpen = true → busyState
    (s.sess n) = false → exec (.registerWrite (BitVec.ofNat 32 (R.MET_FL_EXP n.val)) 4 v) s = .next (s.setWaiting
    (R.MET_FL_EXP n.val) v.toNat))

/-- The data port (R263 to R265). -/
def Obligations.DataPort : Prop :=
  (∀ (s : State) (off : Word) (l : List Byte), s.running .hi = true → off.toNat % 4 = 0 → l.length % 4 = 0 → l.length
    ≤ 512 → off.toNat + l.length ≤ 4096 → s.get F.HI_DP_CTRL_MODE = 0 → s.loading = false → stagingBase ≤ s.get64
    R.HI_DP_ADDR_LO + off.toNat → s.get64 R.HI_DP_ADDR_LO + off.toNat + l.length ≤ stagingBase + 0x80000 → exec
    (.dataPortAccess off (.write l)) s = .next (s.store (s.get64 R.HI_DP_ADDR_LO + off.toNat) l)) ∧
  (∀ (s : State) (off : Word) (n : Nat), s.running .hi = true → off.toNat % 4 = 0 → n % 4 = 0 → n ≤ 512 → off.toNat +
    n ≤ 4096 → s.get F.HI_DP_CTRL_MODE = 0 → stagingBase ≤ s.get64 R.HI_DP_ADDR_LO + off.toNat → s.get64
    R.HI_DP_ADDR_LO + off.toNat + n ≤ stagingBase + 0x80000 → exec (.dataPortAccess off (.read n)) s = .next (s.gave
    (memRead s.mem (s.get64 R.HI_DP_ADDR_LO + off.toNat) n))) ∧
  (∀ (s : State) (off : Word) (n : Nat), s.running .hi = true → (off.toNat % 4 ≠ 0 ∨ n % 4 ≠ 0 ∨ 4096 < n ∨ 4096 <
    off.toNat + n) → exec (.dataPortAccess off (.read n)) s = .next (((s.set F.HI_DP_CTRL_ERR 1).raise
    { src := 96 }).gave (List.replicate n 0xFF))) ∧
  (∀ (s : State) (off : Word) (l : List Byte), s.running .hi = true → s.get F.HI_DP_CTRL_MODE = 0 → (s.get64
    R.HI_DP_ADDR_LO + off.toNat < stagingBase ∨ (stagingBase + 0x80000 < s.get64 R.HI_DP_ADDR_LO + off.toNat +
    l.length ∧ s.get64 R.HI_DP_ADDR_LO + off.toNat < 2 ^ 64)) → exec (.dataPortAccess off (.write l)) s = .next
    ((s.set F.HI_DP_CTRL_ERR 1).raise { src := 96 })) ∧
  (∀ (s : State) (off : Word) (l : List Byte), s.running .hi = true → s.loading = true → exec (.dataPortAccess off
    (.write l)) s = .next ((s.set F.HI_DP_CTRL_ERR 1).raise { src := 96 })) ∧
  (∀ (s : State) (off : Word) (op : DpOp), s.running .hi = false → exec (.dataPortAccess off op) s = .next (s))

/-- The octal-SPI port and the window mode (R246, R247). -/
def Obligations.SpiFrames : Prop :=
  (∀ (s : State) (a : Nat) (l : List Byte), s.running .hi = true → s.get F.HI_STATUS_PORT = 1 → a + l.length ≤
    0x100000 → l.length ≤ 4096 → exec (.spiFrame ([0x22, 0xDD] ++ natBE 4 a ++ l) 0 false) s = .next (s.store
    (ringBase + a) l)) ∧
  (∀ (s : State) (a n : Nat), s.running .hi = true → s.get F.HI_STATUS_PORT = 1 → a + n ≤ 0x100000 → n ≤ 4096 → exec
    (.spiFrame ([0x21, 0xDE] ++ natBE 4 a) n false) s = .next (s.gave (memRead s.mem (ringBase + a) n))) ∧
  (∀ (s : State) (a v : Nat), s.running .hi = true → s.get F.HI_STATUS_PORT = 1 → a < 2 ^ 32 → v < 2 ^ 32 → exec
    (.spiFrame ([0x12, 0xED] ++ natBE 4 a ++ natLE 4 v) 0 false) s = .next (s.guard a 4 (fun s => s.hostWrite a v))) ∧
  (∀ (s : State) (a : Nat), s.running .hi = true → s.get F.HI_STATUS_PORT = 1 → a < 2 ^ 32 → exec (.spiFrame ([0x11,
    0xEE] ++ natBE 4 a) 4 false) s = .next ((s.hostRead a).2.gave (natLE 4 (s.hostRead a).1))) ∧
  (∀ (s : State) (op x : Byte) (rest : List Byte) (n : Nat) (b : Bool), s.running .hi = true → s.get F.HI_STATUS_PORT
    = 1 → x.toNat + op.toNat ≠ 255 → b = false → exec (.spiFrame (op :: x :: rest) n b) s = .next (s.raise
    { src := 97, every := 1000000 })) ∧
  (∀ (s : State) (bytes : List Byte) (n : Nat) (b : Bool), s.get F.HI_STATUS_PORT ≠ 1 → exec (.spiFrame bytes n b) s =
    .next (s)) ∧
  (∀ (s : State) (a v : Nat), s.running .hi = true → s.get F.HI_STATUS_PORT = 2 → a < 0xFFFC → v < 2 ^ 32 → s.get
    F.HI_SPI_WIN_WIN < 14 → exec (.windowFrame ([0x00] ++ natBE 2 a ++ natBE 4 v)) s = .next (s.guard (s.get
    F.HI_SPI_WIN_WIN * 0x10000 + a) 4 (fun s => s.hostWrite (s.get F.HI_SPI_WIN_WIN * 0x10000 + a) v))) ∧
  (∀ (s : State) (a : Nat), s.running .hi = true → s.get F.HI_STATUS_PORT = 2 → a < 0xFFFC → s.get F.HI_SPI_WIN_WIN <
    14 → exec (.windowFrame ([0x80] ++ natBE 2 a)) s = .next ((s.hostRead (s.get F.HI_SPI_WIN_WIN * 0x10000 +
    a)).2.gave (natBE 4 (s.hostRead (s.get F.HI_SPI_WIN_WIN * 0x10000 + a)).1))) ∧
  (∀ (s : State) (v : Nat), s.running .hi = true → s.get F.HI_STATUS_PORT = 2 → v < 32 → exec (.windowFrame ([0x00,
    0xFF, 0xFC] ++ natBE 4 v)) s = .next (s.set F.HI_SPI_WIN_WIN v)) ∧
  (∀ (s : State) (bytes : List Byte), s.running .hi = true → s.get F.HI_STATUS_PORT = 2 → bytes.length < 3 → exec
    (.windowFrame bytes) s = .next (s.raise { src := 97, every := 1000000 }))

/-- Results of commands (R253, R258, R303). -/
def Obligations.CommandResults : Prop :=
  (∀ (s : State) (w : Bool) (r : Result) (rest : List Result) (n : Fin 16), s.host.results = r :: rest → r.desc.src =
    .sq n → s.running .hi = true → exec (.commandResult w) s = .next (State.postResult
    { s with host := { s.host with results := rest } } n r (w && s.pcie))) ∧
  (∀ (s : State) (w : Bool) (r : Result) (rest : List Result) (node : Half), s.host.results = r :: rest → r.desc.src =
    .fabric node → s.running .cm = true → exec (.commandResult w) s = .next (State.fabricAnswer
    { s with host := { s.host with results := rest } } node r)) ∧
  (∀ (s : State) (w : Bool), (∀ r ∈ s.host.results, s.canPost r = false) → exec (.commandResult w) s = .next (s))

/-- Internal queues (R270 to R277). -/
def Obligations.InternalQueues : Prop :=
  (∀ (s : State) (i : Fin 35) (unit_ type_ : Byte) (body : List Dword), s.running (queIsl i) = true → s.spill i.val =
    false → s.ques[i].gap = none → body.length + 1 ≤ min 512 (queDepth i.val / 4) → s.ques[i].fill + (body.length + 1)
    + 3 ≤ queDepth i.val → exec (.queueOffer i unit_ type_ body false) s = .next (s.setQue i
    { s.ques[i] with seq := s.ques[i].seq + 1, pkts := s.ques[i].pkts ++ [queHeader s.ques[i].seq type_ unit_ (body.length + 1) :: body], w := (s.ques[i].w + (body.length + 1)) % (2 * queDepth i.val) })) ∧
  (∀ (s : State) (i : Fin 35) (unit_ type_ : Byte) (body : List Dword), s.running (queIsl i) = true → s.spill i.val =
    false → s.ques[i].gap = none → body.length + 1 ≤ min 512 (queDepth i.val / 4) → queDepth i.val < s.ques[i].fill +
    (body.length + 1) + 3 → 0x14 ≤ i.val → exec (.queueOffer i unit_ type_ body false) s = .next (((s.setQue i
    { s.ques[i] with gap := some ⟨s.ques[i].seq, 1, 0, s.devTime⟩, seq := s.ques[i].seq + 1 }).count
    (F.QUE_DROP_DROPPED i.val) 1).raise { src := 99, unit_ := i.val, every := 1000000 })) ∧
  (∀ (s : State) (i : Fin 35) (unit_ type_ : Byte) (body : List Dword), s.running (queIsl i) = false → exec
    (.queueOffer i unit_ type_ body false) s = .next (s)) ∧
  (∀ (s : State) (i : Fin 35) (unit_ type_ : Byte) (body : List Dword), s.running (queIsl i) = true → body.length + 1
    ≤ min 512 (queDepth i.val / 4) → exec (.queueOffer i unit_ type_ body true) s = .next (s.queMismatch i 1)) ∧
  (∀ (s : State) (i : Fin 35) (p : List Dword) (rest : List (List Dword)), s.running (queIsl i) = true → s.spill i.val
    = false → s.ques[i].gap = none → s.ques[i].pkts = p :: rest → exec (.queueRelease i false) s = .next (s.setQue i
    { s.ques[i] with pkts := rest, r := (s.ques[i].r + p.length) % (2 * queDepth i.val) })) ∧
  (∀ (s : State) (i : Fin 35) (p : List Dword) (rest : List (List Dword)) (g : Gap), s.running (queIsl i) = true →
    s.spill i.val = false → s.ques[i].gap = some g → s.ques[i].pkts = p :: rest → (rest.map List.length).sum + 6 ≤
    queDepth i.val → ∃ t, exec (.queueRelease i false) s = .next t ∧ t.ques[i].pkts = rest ++ [gapMarker g.seq g.lost
    (g.cause != 0) g.cause g.time] ∧ t.ques[i].gap = none ∧ t.ques[i].r = (s.ques[i].r + p.length) % (2 * queDepth
    i.val) ∧ t.ques[i].w = (s.ques[i].w + 3) % (2 * queDepth i.val) ∧ t.ques[i].seq = s.ques[i].seq) ∧
  (∀ (s : State) (i : Fin 35), s.running (queIsl i) = true → exec (.queueRelease i true) s = .next (s.queMismatch i
    0)) ∧
  (∀ (s : State) (i : Fin 35), s.running .hi = true → s.running .mg = true → exec (.queStatRead i) s = .next
    ({ s.set (F.QUE_STAT_PEAK i.val) 0 with host := { s.host with readData := natLE 4 (s.reg (R.QUE_STAT i.val)) } }))

/-- Signatures of readings, waveform captures and the I2C port (R163, R264, R416, R417). -/
def Obligations.AuxiliaryCommands : Prop :=
  (∀ (s : State) (r : ReadReq) (body : List Byte) (rest : List (ReadReq × List Byte)) (k : KeySlot), s.running .ks =
    true → s.running .vl = true → s.bil.signing = (r, body) :: rest → s.keySlot 1 = some k → r.cmd = none → r.reason =
    0 → exec .signatureComplete s = .next (State.raise (State.toStore
    { (s.signWith k body).2 with bil := { s.bil with signing := rest } } 0 r.point.val (body ++ (s.signWith k
    body).1)) { src := 51, point := r.point.val })) ∧
  (∀ (s : State) (r : ReadReq) (body : List Byte) (rest : List (ReadReq × List Byte)) (k : KeySlot) (d : Desc),
    s.running .ks = true → s.running .vl = true → s.bil.signing = (r, body) :: rest → s.keySlot 1 = some k → r.cmd =
    some d → r.reason = 0 → ∃ t, exec .signatureComplete s = .next t ∧ t.host.results = s.host.results ++ [⟨d, 0, 0,
    natLE 8 (fld body 16 8) ++ natLE 8 (ringAt 0 r.point.val + State.nextPos
    { s with bil := { s.bil with signing := rest } } 0 r.point.val (body ++ (s.signWith k body).1).length)⟩] ∧
    t.bil.signing = rest) ∧
  (∀ (s : State) (d : Desc), s.admits d
    { opcode := 0x0206, priv := some 0, isl := .vl, params := [(24, 1), (25, 1), (28, 4)] } [(24, decide (2 < d.n 24
    1)), (25, d.n 25 1 == 0 || decide (64 < d.n 25 1)), (28, decide (2 ^ 24 ≤ d.n 28 4))] → s.met.captures = [] → exec
    (.waveformCapture d) s = .next
    ({ s with met := { s.met with captures := [⟨d, Fin.ofNat 3 (d.n 24 1), s.time.quantum + 1, d.n 25 1, d.n 28 4⟩] } })) ∧
  (∀ (s : State) (d : Desc) (bus : I2cBus), s.admits d
    { opcode := 0x0D01, priv := some 0, isl := .mg, params := [(24, 1), (25, 1), (26, 1), (28, min (d.n 25 1) 28)] }
    [(24, decide (127 < d.n 24 1)), (25, decide (28 < d.n 25 1)), (26, decide (16 < d.n 26 1))] → s.flag
    F.MG_I2C_CFG_EN = false → exec (.i2cTransfer d bus) s = .next (s.complete d 0x0007 0 [])) ∧
  (∀ (s : State) (d : Desc) (read : List Byte), s.admits d
    { opcode := 0x0D01, priv := some 0, isl := .mg, params := [(24, 1), (25, 1), (26, 1), (28, min (d.n 25 1) 28)] }
    [(24, decide (127 < d.n 24 1)), (25, decide (28 < d.n 25 1)), (26, decide (16 < d.n 26 1))] → s.flag
    F.MG_I2C_CFG_EN = true → read.length = d.n 26 1 → exec (.i2cTransfer d (.ok read)) s = .next ((((s.emit (.i2c (d.n
    24 1) (slice d.bytes 28 (d.n 25 1)) (d.n 26 1))).set F.MG_I2C_STAT_STUCK 0).set F.MG_I2C_STAT_SDA 1).ok d read)) ∧
  (∀ (s : State) (d : Desc), s.admits d
    { opcode := 0x0D01, priv := some 0, isl := .mg, params := [(24, 1), (25, 1), (26, 1), (28, min (d.n 25 1) 28)] }
    [(24, decide (127 < d.n 24 1)), (25, decide (28 < d.n 25 1)), (26, decide (16 < d.n 26 1))] → s.flag
    F.MG_I2C_CFG_EN = true → exec (.i2cTransfer d .addrNack) s = .next ((s.emit (.i2c (d.n 24 1) (slice d.bytes 28
    (d.n 25 1)) (d.n 26 1))).complete d 0x000D 1 []))

/-- The quantum boundary (R15, R48, R61, R160). That the servo moves the boundary in whole microseconds, with the rest carried, is the model's choice (log 29). -/
def Obligations.QuantumBoundary : Prop :=
  (∀ (s : State), s.running .tb = true → ∃ t, exec .quantumBoundary s = .next t ∧ t.time.quantum = s.time.quantum + 1
    ∧ t.time.usInQ = 0 ∧ t.time.now = s.time.now + (10000 - s.time.usInQ) ∧ t.time.qStart = ((s.time.qStart : Int) +
    10000 + max (-10) (min 10 s.time.slewLeft) + Int.tdiv (s.time.servoFrac + 10000 * s.time.servoPpm) 1000000 +
    (s.time.stepPend.getD (0, false)).1).toNat ∧ t.time.slewLeft = s.time.slewLeft - max (-10) (min 10
    s.time.slewLeft) ∧ t.time.stepPend = none ∧ t.met.waiting = [] ∧ t.met.calPend = none) ∧
  (∀ (s : State), s.running .tb = false → exec .quantumBoundary s = .next (s))

/-- Link frames and channel records (R37, R54, R55, R65, R91). That frames belong to the quantum in progress is the model's reading (log 58). -/
def Obligations.LinkFrames : Prop :=
  (∀ (s : State) (c : Fin 3) (frame : List Byte), s.running (chanIsl c) = true → s.isl.supply = .normal →
    s.met.captures = [] → frame.length = 82 → fld frame 0 1 = 0xA5 → fld frame 1 1 / 64 = c.val → fld frame 78 4 =
    crc32 (frame.take 78) → (s.met.chans[c].ctr = none ∨ s.met.chans[c].ctr = some (BitVec.ofNat 16 (fld frame 2 2)))
    → ∃ t, exec (.linkFrame c frame) s = .next t ∧ t.met.chans[c].rows = frameCodes frame :: s.met.chans[c].rows ∧
    t.met.chans[c].ctr = some (BitVec.ofNat 16 (fld frame 2 2 + 1)) ∧ t.met.chans[c].badN = s.met.chans[c].badN ∧
    t.bit F.MET_STATUS_LINK_UP c.val = true) ∧
  (∀ (s : State) (c : Fin 3) (frame : List Byte), s.running (chanIsl c) = true → s.isl.supply = .normal →
    s.met.captures = [] → (frame.length ≠ 82 ∨ fld frame 0 1 ≠ 0xA5 ∨ fld frame 1 1 / 64 ≠ c.val ∨ fld frame 78 4 ≠
    crc32 (frame.take 78)) → exec (.linkFrame c frame) s = .next (((s.setChan c
    { s.met.chans[c] with badN := s.met.chans[c].badN + 1 }).count (F.MET_CH_LINKERR_BADF c.val) 1).raise
    { src := 13, unit_ := c.val, every := 1000000 })) ∧
  (∀ (s : State) (c : Fin 3) (frame : List Byte), s.running (chanIsl c) = false → exec (.linkFrame c frame) s = .next
    (s)) ∧
  (∀ (s : State) (c : Fin 3), s.running (chanIsl c) = true → exec (.linkTimeout c) s = .next (((s.setBit
    F.MET_STATUS_LINK_UP c.val false).setBit F.MET_STATUS_CH_RUN c.val false).raise
    { src := 13, unit_ := c.val, every := 1000000 })) ∧
  (∀ (s : State) (c : Fin 3) (cl : ClosedQ), s.running (chanIsl c) = true → s.bit F.MET_STATUS_LINK_UP c.val = true →
    s.met.chans[c].fieldWait = false → s.met.chans[c].closed = some cl → ∃ t, exec (.channelRecordComplete c) s =
    .next t ∧ t.met.chans[c].closed = none ∧ (∃ r : QRec, t.met.chans[c].kept = (s.met.chans[c].kept ++ [r]).drop
    (s.met.chans[c].kept.length + 1 - 64) ∧ r.q = cl.q ∧ r.chan = c.val ∧ r.band = cl.band ∧ r.gen = cl.gen.toNat) ∧
    t.bit F.MET_STATUS_CH_RUN c.val = true) ∧
  (∀ (s : State) (c : Fin 3), s.met.chans[c].fieldWait = true → exec (.channelRecordComplete c) s = .next (s))

/-- The reference comparison and the conditions of a point (R56, R70, R72, R73). -/
def Obligations.MeteringConditions : Prop :=
  (∀ (s : State) (ab bc ca : Nat), ∃ t, exec (.referenceComparison ab bc ca) s = .next t ∧ (t.met.allRun = if 500 < ab
    ∧ 500 < bc ∧ 500 < ca then s.met.allRun + 1 else 0) ∧ (t.met.suspRun[(0 : Fin 3)] = if 500 < ab ∧ 500 < ca ∧ bc ≤
    500 then s.met.suspRun[(0 : Fin 3)] + 1 else 0) ∧ (t.met.suspRun[(1 : Fin 3)] = if 500 < ab ∧ 500 < bc ∧ ca ≤ 500
    then s.met.suspRun[(1 : Fin 3)] + 1 else 0) ∧ (t.met.suspRun[(2 : Fin 3)] = if 500 < bc ∧ 500 < ca ∧ ab ≤ 500 then
    s.met.suspRun[(2 : Fin 3)] + 1 else 0)) ∧
  (∀ (s : State) (ab bc ca : Nat), 500 < ab → 500 < ca → bc ≤ 500 → 2 ≤ s.met.suspRun[(0 : Fin 3)] → s.bit
    F.MET_REFCHK_SUSPECT 0 = false → ∃ t, exec (.referenceComparison ab bc ca) s = .next t ∧ t.bit
    F.MET_REFCHK_SUSPECT 0 = true ∧ t.bit F.MET_STATUS_REF_SUSPECT 0 = true) ∧
  (∀ (s : State) (c : Fin 3) (p : Fin 8) (k : Fin 3), s.running (chanIsl c) = true → 5 ≤ (nth
    s.met.chans[c].condCnt[p] k.val (0, 0)).1 → exec (.phaseConditionSet c p k) s = .next (s.setChan c
    { s.met.chans[c] with conds := s.met.chans[c].conds.set p (BitVec.ofNat 16 (putBit s.met.chans[c].conds[p].toNat k.val true)) })) ∧
  (∀ (s : State) (c : Fin 3) (p : Fin 8) (k : Fin 3), (nth s.met.chans[c].condCnt[p] k.val (0, 0)).1 < 5 → exec
    (.phaseConditionSet c p k) s = .next (s)) ∧
  (∀ (s : State) (c : Fin 3) (p : Fin 8) (k : Fin 3), s.running (chanIsl c) = true → 50 ≤ (nth
    s.met.chans[c].condCnt[p] k.val (0, 0)).2 → exec (.phaseConditionClear c p k) s = .next (s.setChan c
    { s.met.chans[c] with conds := s.met.chans[c].conds.set p (BitVec.ofNat 16 (putBit s.met.chans[c].conds[p].toNat k.val false)) })) ∧
  (∀ (s : State) (c : Fin 3) (p : Fin 8) (row : Fin 5), s.running (chanIsl c) = true → nth rcmNeed row.val 0 ≤ nth
    s.met.chans[c].rcmCnt[p] row.val 0 → exec (.rcmTrip c p row) s = .next (s.setChan c
    { s.met.chans[c] with conds := s.met.chans[c].conds.set p (s.met.chans[c].conds[p] ||| 8) })) ∧
  (∀ (s : State) (d : Desc), s.admits d { opcode := 0x0108, priv := some 0, isl := .vl, point := true } → s.sess d.pt
    ≠ 5 → exec (.clearRcmTrip d) s = .next ((s.clearRcm d.pt).ok d [])) ∧
  (∀ (s : State) (d : Desc), s.admits d { opcode := 0x0108, priv := some 0, isl := .vl, point := true } → s.sess d.pt
    = 5 → exec (.clearRcmTrip d) s = .next (s.complete d 0x0007 5 []))

/-- Start tests (R68, R69). That REQ is cleared when its test ends is the model's reading (log 59). -/
def Obligations.StartTests : Prop :=
  (∀ (s : State) (v : Word), s.running .hi = true → s.running .vl = true → exec (.startTestRequest v) s = .next
    ((s.set F.MET_STEST_CTRL_REQ (s.get F.MET_STEST_CTRL_REQ ||| (bitsOf v.toNat 7 0 &&& s.elecMask))).set
    F.MET_STEST_CTRL_PENDING (s.get F.MET_STEST_CTRL_PENDING ||| ((bitsOf v.toNat 7 0 &&& s.elecMask) - ((bitsOf
    v.toNat 7 0 &&& s.elecMask) &&& s.get F.MET_STEST_CTRL_BUSY))))) ∧
  (∀ (s : State) (d : Desc), s.admits d { opcode := 0x0201, priv := some 0, isl := .vl, params := [(24, 1)] } → exec
    (.startTest d) s = .next ((s.requestTests (d.n 24 1)).ok d [])) ∧
  (∀ (s : State) (p : Fin 8), s.bit F.MET_STEST_CTRL_PENDING p.val = true → s.met.testQ[p] = none → s.testMayRun p =
    true → s.time.usInQ = 0 → s.isl.supply = .normal → ∃ t, exec (.startTestBegin p) s = .next t ∧ t.met.testQ =
    s.met.testQ.set p (some s.time.quantum) ∧ t.bit F.MET_STEST_CTRL_PENDING p.val = false ∧ t.bit
    F.MET_STEST_CTRL_BUSY p.val = true ∧ t.get (F.MET_TPCOND_TEST_ACTIVE p.val) = 1 ∧ (∀ c : Fin 3, t.met.chans[c] =
    { s.met.chans[c] with testAcc := s.met.chans[c].testAcc.set p 0 })) ∧
  (∀ (s : State) (p : Fin 8), s.testMayRun p = false → exec (.startTestBegin p) s = .next (s)) ∧
  (∀ (s : State) (p : Fin 8) (q0 : Nat), s.running .vl = true → s.met.testQ[p] = some q0 → q0 + 100 ≤ s.time.quantum →
    ∃ t, exec (.startTestEnd p) s = .next t ∧ t.met.testQ = s.met.testQ.set p none ∧ t.bit F.MET_STEST_CTRL_BUSY p.val
    = false ∧ t.bit F.MET_STEST_CTRL_REQ p.val = false ∧ t.get (F.MET_TPCOND_TEST_ACTIVE p.val) = 0 ∧ (∀ c : Fin 3,
    t.bit F.MET_STEST_RESULT_PASS (3 * p.val + c.val) = (decide (9 / 10 * s.testEnergy p ≤ s.met.chans[c].testAcc[p])
    && decide (s.met.chans[c].testAcc[p] ≤ 11 / 10 * s.testEnergy p)))) ∧
  (∀ (s : State) (p : Fin 8), s.met.testQ[p] = none → exec (.startTestEnd p) s = .next (s))

/-- Pulses, field polls and field records (R83 to R91). -/
def Obligations.FieldBus : Prop :=
  (∀ (s : State) (n : Fin 16) (tickA tickB tickC : Nat), ∃ t, exec (.pulseEdge n tickA tickB tickC) s = .next t ∧ (∀ c
    : Fin 3, t.met.chans[c].edges = if s.running (chanIsl c) = true then s.met.chans[c].edges.set n (nth [tickA,
    tickB, tickC] c.val 0 :: s.met.chans[c].edges[n]) else s.met.chans[c].edges)) ∧
  (∀ (s : State) (e : Fin 16) (k : Fin 4), s.running .ap = true → s.entryPort e = k → s.entryDue e = true →
    s.met.busy[k] = none → (∀ j : Fin 16, j.val < e.val → s.entryPort j = k → s.entryDue j = false) → exec
    (.modbusPollDue e) s = .next (((s.setEntry e
    { s.met.entries[e] with polled := some s.time.now, readNow := false }).setBusy k (some (e, s.now
    (F.MET_FD_CFG_RETRY k.val)))).emit (.modbus k.val (s.request e)))) ∧
  (∀ (s : State) (port : Fin 4) (e : Fin 16) (r : Nat), s.running .ap = true → s.met.busy[port] = some (e, r) → 0 < r
    → ∃ t, exec (.modbusTimeout port) s = .next t ∧ t.met.busy = s.met.busy.set port (some (e, r - 1)) ∧ t.out =
    .modbus port.val (s.request e) :: s.out ∧ t.met.fdErr[port].1 = min 0xFFF (s.met.fdErr[port].1 + 1)) ∧
  (∀ (s : State) (port : Fin 4) (e : Fin 16), s.running .ap = true → s.met.busy[port] = some (e, 0) → exec
    (.modbusTimeout port) s = .next (((s.fdCount port 0).setBusy port none).raise
    { src := 28, unit_ := e.val, every := 1000000 })) ∧
  (∀ (s : State) (port : Fin 4), s.met.busy[port] = none → exec (.modbusTimeout port) s = .next (s)) ∧
  (∀ (s : State) (port : Fin 4) (e : Fin 16) (r : Nat) (data b : List Byte) (v k lo hi : Rat), s.running .ap = true →
    s.met.busy[port] = some (e, r) → b = natLE 1 (s.now (F.MET_MB_SRC_SLAVE e.val)) ++ natLE 1 (s.entryFunc e) ++
    natLE 1 (2 * fmtRegs (s.now (F.MET_MB_FMT_FMT e.val))) ++ data → data.length = 2 * fmtRegs (s.now
    (F.MET_MB_FMT_FMT e.val)) → s.now (F.MET_MB_FMT_ROLE e.val) ≠ 1 → fmtValue (s.now (F.MET_MB_FMT_FMT e.val))
    (rawValue data (s.now (F.MET_MB_FMT_WSWAP e.val) == 1)) = some v → f32 (s.inForce (R.MET_MB_SCALE e.val)) = some k
    → f32 (s.inForce (R.MET_MB_MIN e.val)) = some lo → f32 (s.inForce (R.MET_MB_MAX e.val)) = some hi → lo ≤ v * k → v
    * k ≤ hi → ∃ t, exec (.modbusResponse port (b ++ natLE 2 (crc16 b)) false) s = .next t ∧ t.met.entries[e].value =
    some (v * k, s.time.now) ∧ t.met.entries[e].impl = false ∧ t.met.busy = s.met.busy.set port none) ∧
  (∀ (s : State) (port : Fin 4) (frame : List Byte) (gap : Bool), s.running .ap = true → s.met.busy[port] = none →
    exec (.modbusResponse port frame gap) s = .next (s.fdCount port 1)) ∧
  (∀ (s : State) (e : Fin 16), s.running .ap = true → s.entryOn e = true → s.entryStale e = true → exec
    (.modbusValueStale e) s = .next ((s.setEntry e { s.met.entries[e] with skip := true }).raise
    { src := 29, unit_ := e.val, every := 1000000 })) ∧
  (∀ (s : State) (e g : Fin 16) (v p : Rat × Nat), s.running .ap = true → s.now (F.MET_MB_FMT_ROLE e.val) = 2 →
    Fin.ofNat 16 (s.now (F.MET_MB_FMT_LINK e.val)) = g → g ≠ e → s.met.entries[e].value = some v →
    s.met.entries[e].totPrev = some p → s.met.entries[e].skip = false → s.met.entries[g].skip = false → ∃ t, exec
    (.totaliserCheck e) s = .next t ∧ t.met.entries[e].totPrev = some v ∧ t.met.entries[g].integral = 0 ∧
    t.met.entries[g].totMis = decide ((s.now (F.MET_MB_AGE_TOTTOL e.val) : Rat) / 10000 * max (ratAbs
    ((s.met.entries[g].held s.time.now).integral / 3600000000)) (s.entryQref g / 400) < ratAbs (v.1 - p.1 -
    (s.met.entries[g].held s.time.now).integral / 3600000000))) ∧
  (∀ (s : State) (c : Fin 3) (r : FieldRec), s.running (chanIsl c) = true → s.met.fieldOut[c] = some r →
    s.met.chans[c].fieldLate = false → exec (.fieldRecordArrival c) s = .next (State.setChan
    { s with met := { s.met with fieldOut := s.met.fieldOut.set c none } } c
    { s.met.chans[c] with field := some r, fieldWait := false })) ∧
  (∀ (s : State) (c : Fin 3), s.running (chanIsl c) = true → s.met.chans[c].fieldWait = true → exec (.fieldRecordLate
    c) s = .next ((s.setChan c { s.met.chans[c] with fieldWait := false, fieldLate := true }).raise
    { src := 35, unit_ := c.val, every := 1000000 })) ∧
  (∀ (s : State) (c : Fin 3), s.met.chans[c].fieldWait = false → exec (.fieldRecordLate c) s = .next (s))

/-- The voter (R25, R39, R113, R118, R119, R126, R128). The source and quantum of the tolerance's log entry are the model's reading (log 45). -/
def Obligations.VoterCommands : Prop :=
  (∀ (s : State) (c : Fin 3) (r : QRec) (rest : List QRec), s.running .vl = true → s.refFault = true → s.open_
    (chanIsl c) .vl = true → s.met.chans[c].kept = r :: rest → s.met.chans[c].offered = 0 → s.nextQ ≤ r.q → ∃ t, exec
    (.quantumRecordArrival [c] []) s = .next t ∧ t.vot.arrived = s.vot.arrived ++ [⟨s.vot.tick + 1, r, true⟩] ∧
    t.met.chans[c].kept = rest ∧ t.vot.newest[c] = max s.vot.newest[c] r.q ∧ t.resolved = s.resolved ∧ t.vot.confirmed
    = s.vot.confirmed) ∧
  (∀ (s : State) (arrived corrupt : List (Fin 3)) (u : State), s.running .vl = true → (u = (chans.filter (fun c =>
    arrived.contains c)).foldl (fun s c => s.receive corrupt c) (s.modVot (fun v => { v with tick := v.tick + 1 }))) →
    u.refFault = false → exec (.quantumRecordArrival arrived corrupt) s = .next ((u.advanceAll.publishAll
    u.firstRecords).lagCheck)) ∧
  (∀ (s : State) (arrived corrupt : List (Fin 3)), s.running .vl = false → exec (.quantumRecordArrival arrived
    corrupt) s = .next (s)) ∧
  (∀ (s : State), s.running .vl = true → s.refFault = false → s.isl.supply = .normal → s.vot.catchUp = false → 3 ≤
    s.time.quantum → exec .resolutionDeadline s = .next ((s.resolveTo (s.time.quantum - 3) (s.time.quantum -
    s.resolved)).lagCheck)) ∧
  (∀ (s : State), s.refFault = true → exec .resolutionDeadline s = .next (s)) ∧
  (∀ (s : State) (c : Fin 3), s.running .vl = true → s.chState c = 1 → s.flag F.VOT_CTRL_AUTO_REVER = true →
    s.vot.qf[c] + 100 ≤ s.time.quantum → s.testOwed c = false → (s.rejoins c).length < 4 → s.logRefusing = false →
    exec (.reverificationBegin c) s = .next (s.startRev c)) ∧
  (∀ (s : State) (c : Fin 3), s.chState c ≠ 1 → exec (.reverificationBegin c) s = .next (s)) ∧
  (∀ (s : State) (v : Word) (c : Fin 3), s.running .hi = true → s.running .vl = true → s.sealOpen = false → bitsOf
    v.toNat 6 4 = 1 <<< c.val → bitsOf v.toNat 10 8 = s.get F.VOT_CTRL_FORCE_OUT → bitsOf v.toNat 0 0 = s.get
    F.VOT_CTRL_AUTO_REVER → s.chState c = 1 → s.testOwed c = false → s.logRefusing = false → ∃ t, exec (.reverify v) s
    = .next t ∧ t.chState c = 2 ∧ t.vot.revNext[c] = s.time.quantum ∧ t.vot.owed[c] = none) ∧
  (∀ (s : State) (v : Word) (c : Fin 3), s.running .hi = true → s.running .vl = true → s.sealOpen = true →
    s.logRefusing = false → s.get F.VOT_CTRL_FORCE_OUT = 0 → bitsOf v.toNat 10 8 = 1 <<< c.val → bitsOf v.toNat 6 4 =
    0 → (∀ k : Fin 3, s.chState k = 0) → ∃ t, exec (.forceOut v) s = .next t ∧ t.chState c = 3 ∧ t.get
    F.VOT_CTRL_FORCE_OUT = 1 <<< c.val ∧ t.get F.VOT_STATUS_MODE = 1) ∧
  (∀ (s : State) (v : Word), s.running .hi = true → s.running .vl = true → s.sealOpen = true → s.get
    F.VOT_CTRL_FORCE_OUT = 0 → bitsOf v.toNat 10 8 = 3 → exec (.forceOut v) s = .next (s.discard)) ∧
  (∀ (s : State) (c : Fin 3), s.running .vl = true → s.chState c = 2 → s.vot.rejoin[c] = true → s.time.usInQ = 0 →
    s.logRefusing = false → ∃ t, exec (.channelRejoin c) s = .next t ∧ t.chState c = 0 ∧ t.vot.join[c] =
    s.time.quantum ∧ t.consec c = 0) ∧
  (∀ (s : State) (c : Fin 3), s.vot.rejoin[c] = false → exec (.channelRejoin c) s = .next (s)) ∧
  (∀ (s : State) (k : Fin 8) (v : Word), s.running .hi = true → s.running .vl = true → (20 < bitsOf v.toNat 31 24 ∨
    bitsOf v.toNat 16 0 = 0 ∨ 65536 < bitsOf v.toNat 16 0) → exec (.votTolWrite k v) s = .next (s.discard)) ∧
  (∀ (s : State) (k : Fin 8) (v : Word) (new : Nat), s.running .hi = true → s.running .vl = true → bitsOf v.toNat 31
    24 ≤ 20 → 1 ≤ bitsOf v.toNat 16 0 → bitsOf v.toNat 16 0 ≤ 65536 → s.sealOpen = true → s.logRefusing = false → new
    = putBits (putBits (s.reg (R.VOT_TOL k.val)) 31 24 (bitsOf v.toNat 31 24)) 16 0 (bitsOf v.toNat 16 0) → new ≠
    s.reg (R.VOT_TOL k.val) → exec (.votTolWrite k v) s = .next ((s.setWaiting (R.VOT_TOL k.val) new).log
    { type_ := 0x0023, sub := k.val, q := some (s.time.quantum + 1), payload := natLE 4 (s.reg (R.VOT_TOL k.val)) ++ natLE 4 new })) ∧
  (∀ (s : State) (k : Fin 8) (v : Word), s.running .hi = true → s.running .vl = true → bitsOf v.toNat 31 24 ≤ 20 → 1 ≤
    bitsOf v.toNat 16 0 → bitsOf v.toNat 16 0 ≤ 65536 → s.sealOpen = false → putBits (putBits (s.reg (R.VOT_TOL
    k.val)) 31 24 (bitsOf v.toNat 31 24)) 16 0 (bitsOf v.toNat 16 0) ≠ s.reg (R.VOT_TOL k.val) → exec (.votTolWrite k
    v) s = .next (s.raise { src := 1 })) ∧
  (∀ (s : State) (p : Fin 8), s.running .ap = true → s.sess p = 5 → s.get (F.MET_FL_LIM_SUB_STOP p.val) ≠ 0 → 100 *
    s.get (F.MET_FL_LIM_SUB_STOP p.val) ≤ s.met.subRun[p] → exec (.substitutionStop p) s = .next ((s.sessStop p 0x04
    false).raise { src := 34, point := p.val })) ∧
  (∀ (s : State) (p : Fin 8), s.get (F.MET_FL_LIM_SUB_STOP p.val) = 0 → exec (.substitutionStop p) s = .next (s))

/-- Loading a calibration set and a tariff structure (R60, R61, R152, R358). -/
def Obligations.CalibrationAndTariff : Prop :=
  (∀ (s : State) (d : Desc), s.admits d
    { opcode := 0x0204, priv := some 2, isl := .vl, staged := .len 6932 6932 false, load := true } → s.sealOpen = true
    → s.logRefusing = false → s.isl.supply = .normal → s.key.badFuses = 0 → s.noTransfer = true → 0 < s.get
    F.KEY_CHG_LEFT_CAL → s.calBad (s.staged d) = none → ∃ t, exec (.loadCalibrationSet d) s = .next t ∧ t.met.calPend
    = some (s.staged d) ∧ t.get F.MET_CAL_ID_SET_NO = fld (s.staged d) 4 2 ∧ t.get F.MET_CAL_CRC_CRC = fld (s.staged
    d) 6928 4 ∧ t.get F.KEY_CHG_LEFT_CAL = s.get F.KEY_CHG_LEFT_CAL - 1 ∧ t.host.results = s.host.results ++ [⟨d, 0,
    0, natLE 1 (s.get F.KEY_CHG_LEFT_CAL - 1)⟩]) ∧
  (∀ (s : State) (d : Desc) (k : Nat), s.admits d
    { opcode := 0x0204, priv := some 2, isl := .vl, staged := .len 6932 6932 false, load := true } → s.sealOpen = true
    → s.logRefusing = false → s.noTransfer = true → 0 < s.get F.KEY_CHG_LEFT_CAL → s.calBad (s.staged d) = some k →
    exec (.loadCalibrationSet d) s = .next (s.complete d 0x0008 k [])) ∧
  (∀ (s : State) (d : Desc), s.admits d
    { opcode := 0x0204, priv := some 2, isl := .vl, staged := .len 6932 6932 false, load := true } → s.sealOpen = true
    → s.logRefusing = false → s.noTransfer = false → 0 < s.get F.KEY_CHG_LEFT_CAL → exec (.loadCalibrationSet d) s =
    .next (s.complete d 0x0007 5 [])) ∧
  (∀ (s : State) (d : Desc), s.admits d
    { opcode := 0x0205, priv := some 2, isl := .vl, staged := .len 0 0x80000 false, load := true } → s.sealOpen = true
    → s.logRefusing = false → s.isl.supply = .normal → s.key.badFuses = 0 → s.noTransfer = true → 0 < s.get
    F.KEY_CHG_LEFT_TARIFF → s.tariffBad (s.staged d) = none → ∃ t, exec (.loadTariffStructure d) s = .next t ∧
    t.bil.tariffPend = some (s.time.quantum + 1, s.staged d) ∧ t.get F.BIL_TAR_ID_STRUCT_NO = fld (s.staged d) 4 2 ∧
    t.get F.BIL_TAR_ID_DEFAULT_RATE = fld (s.staged d) 10 1 ∧ t.get F.KEY_CHG_LEFT_TARIFF = s.get
    F.KEY_CHG_LEFT_TARIFF - 1 ∧ t.host.results = s.host.results ++ [⟨d, 0, 0, natLE 1 (s.get F.KEY_CHG_LEFT_TARIFF -
    1)⟩]) ∧
  (∀ (s : State) (d : Desc) (k : Nat), s.admits d
    { opcode := 0x0205, priv := some 2, isl := .vl, staged := .len 0 0x80000 false, load := true } → s.sealOpen = true
    → s.logRefusing = false → s.noTransfer = true → 0 < s.get F.KEY_CHG_LEFT_TARIFF → s.tariffBad (s.staged d) = some
    k → exec (.loadTariffStructure d) s = .next (s.complete d 0x0008 k [])) ∧
  (∀ (s : State) (d : Desc), s.admits d
    { opcode := 0x0205, priv := some 2, isl := .vl, staged := .len 0 0x80000 false, load := true } → s.sealOpen =
    false → exec (.loadTariffStructure d) s = .next (s.complete d 0x0004 0 []))

/-- Billing commands and readings (R150, R151, R163). Places and sizes that the specification leaves open are constants of Config (log 18). -/
def Obligations.BillingCommands : Prop :=
  (∀ (s : State) (d : Desc), s.admits d { opcode := 0x0203, priv := some 1, isl := .vl } → exec (.closeBillingPeriod
    d) s = .next ({ s with bil := { s.bil with closePend := s.bil.closePend ++ [(d, s.time.quantum + 1)] } })) ∧
  (∀ (s : State) (d : Desc), s.admits d
    { opcode := 0x0202, priv := some 0, isl := .vl, point := true, params := [(24, 1)] } [(24, d.n 24 1 != 4 && d.n 24
    1 != 5)] → d.n 24 1 = 4 → exec (.takeReading d) s = .next
    ({ s with bil := { s.bil with wanted := s.bil.wanted ++ [⟨4, d.pt, s.resolved + 1, some d⟩] } })) ∧
  (∀ (s : State) (d : Desc), s.cmdFail d
    { opcode := 0x0202, priv := some 0, isl := .vl, point := true, params := [(24, 1)] } [0, 2] [(24, d.n 24 1 != 4 &&
    d.n 24 1 != 5)] = none → d.n 24 1 = 5 → s.sealOpen = false → exec (.takeReading d) s = .next (s.complete d 0x0004
    0 [])) ∧
  (∀ (s : State) (d : Desc), s.cmdFail d
    { opcode := 0x0202, priv := some 0, isl := .vl, point := true, params := [(24, 1)] } [0, 2] [(24, d.n 24 1 != 4 &&
    d.n 24 1 != 5)] = none → d.n 24 1 = 5 → s.sealOpen = true → exec (.takeReading d) s = .next
    ({ s with bil := { s.bil with wanted := s.bil.wanted ++ [⟨5, d.pt, s.resolved + 1, some d⟩] } })) ∧
  (∀ (s : State) (p : StorePkt) (rest : List StorePkt), s.bil.store = p :: rest → s.running .ap = true → exec
    .storeEntryWrite s = .next (State.writeStore { s with bil := { s.bil with store := rest } } p)) ∧
  (∀ (s : State), s.bil.store = [] → exec .storeEntryWrite s = .next (s)) ∧
  (∀ (s : State) (d : Desc), s.admits d
    { opcode := 0x0601, priv := some 0, isl := .ap, point := decide (d.n 24 1 = 2), params := [(24, 1)] } [(24, decide
    (3 < d.n 24 1))] → exec (.locateStore d) s = .next (s.ok d (natLE 8 (boathouseBase + ringAt (d.n 24 1) d.pt.val)
    ++ natLE 4 (ringSize (d.n 24 1)) ++ natLE 4 (s.storeNewest (d.n 24 1) d.pt.val))))

/-- Time corrections, time sets and time quality (R159, R160). The order of the checks is the model's reading (log 46). -/
def Obligations.TimeCommands : Prop :=
  (∀ (s : State) (d : Desc), s.admits d
    { opcode := 0x0501, priv := some 1, isl := .vl, params := [(24, 8), (32, 2), (40, 16)] } → s.time.stepPend = none
    → (sfld d.bytes 24 8).natAbs ≤ 2000000 → d.n 32 2 = 0xFFFF → s.logRefusing = false → exec (.timeCorrection d) s =
    .next ((State.ap (((State.set
    { s with time := { s.time with slewLeft := sfld d.bytes 24 8, slewTotal := sfld d.bytes 24 8 } }
    F.BIL_TIME_STATUS_SLEWING (sfld d.bytes 24 8 != 0).toNat).log
    { type_ := 0x0011, src := d.logSrc, payload := natLE 8 (ofSigned 64 (sfld d.bytes 24 8)) ++ natLE 4 (sfld d.bytes 24 8).natAbs }).raise
    { src := 52 }) State.nextBound).ok d (natLE 1 0))) ∧
  (∀ (s : State) (d : Desc), s.admits d
    { opcode := 0x0501, priv := some 1, isl := .vl, params := [(24, 8), (32, 2), (40, 16)] } → s.time.stepPend = none
    → 2000000 < (sfld d.bytes 24 8).natAbs → (s.checkTag (d.n 32 2) (d.bytes.take 40) (slice d.bytes 40 16)).isSome =
    true → s.logRefusing = false → ∃ t, exec (.timeCorrection d) s = .next t ∧ t.time.stepPend = some (sfld d.bytes 24
    8, false) ∧ t.time.slewLeft = 0 ∧ t.get F.BIL_TIME_STATUS_SLEWING = 0 ∧ t.host.results = s.host.results ++ [⟨d, 0,
    0, natLE 1 1⟩]) ∧
  (∀ (s : State) (d : Desc), s.admits d
    { opcode := 0x0501, priv := some 1, isl := .vl, params := [(24, 8), (32, 2), (40, 16)] } → s.time.stepPend = none
    → 2000000 < (sfld d.bytes 24 8).natAbs → s.checkTag (d.n 32 2) (d.bytes.take 40) (slice d.bytes 40 16) = none →
    exec (.timeCorrection d) s = .next ((s.raise { src := 53 }).complete d 0x0009 0 [])) ∧
  (∀ (s : State) (d : Desc), s.admits d
    { opcode := 0x0501, priv := some 1, isl := .vl, params := [(24, 8), (32, 2), (40, 16)] } → s.time.stepPend.isSome
    = true → exec (.timeCorrection d) s = .next ((s.raise { src := 53 }).complete d 0x0007 0 [])) ∧
  (∀ (s : State) (d : Desc), s.admits d
    { opcode := 0x0502, priv := some 1, isl := .vl, params := [(24, 8), (32, 2), (40, 16)] } → s.time.stepPend = none
    → (s.checkTag (d.n 32 2) (d.bytes.take 40) (slice d.bytes 40 16)).isSome = true → s.logRefusing = false → ∃ t,
    exec (.timeSet d) s = .next t ∧ t.time.stepPend = some ((d.n 24 8 : Int) - (s.devTime : Int), true) ∧
    t.time.slewLeft = 0 ∧ t.host.results = s.host.results ++ [⟨d, 0, 0, []⟩]) ∧
  (∀ (s : State) (d : Desc), s.admits d
    { opcode := 0x0502, priv := some 1, isl := .vl, params := [(24, 8), (32, 2), (40, 16)] } → s.time.stepPend = none
    → s.checkTag (d.n 32 2) (d.bytes.take 40) (slice d.bytes 40 16) = none → exec (.timeSet d) s = .next ((s.raise
    { src := 53 }).complete d 0x0009 0 [])) ∧
  (∀ (s : State), s.time.slewLeft = 0 → exec .slewComplete s = .next (State.set
    { s with time := { s.time with slewTotal := 0 } } F.BIL_TIME_STATUS_SLEWING 0)) ∧
  (∀ (s : State), s.time.slewLeft ≠ 0 → exec .slewComplete s = .next (s)) ∧
  (∀ (s : State), s.running .vl = true → monthOf s.devTime ≠ s.bil.servoMonth → exec .servoMonth s = .next
    ((let u := s.log { type_ := 0x0012, payload := natLE 8 (ofSigned 64 (toSigned 32 (s.reg R.BIL_SERVO_SUM))) }; State.setReg { u with bil := { u.bil with servoMonth := monthOf s.devTime } } R.BIL_SERVO_SUM 0))) ∧
  (∀ (s : State), monthOf s.devTime = s.bil.servoMonth → exec .servoMonth s = .next (s)) ∧
  (∀ (s : State), s.running .vl = true → s.quality = 0 → exec .timeQualityExpiry s = .next (((s.set
    F.BIL_TIME_STATUS_QUALITY 1).log { type_ := 0x0013, sub := 1, payload := natLE 1 0 }).raise { src := 54 })) ∧
  (∀ (s : State), s.quality ≠ 0 → exec .timeQualityExpiry s = .next (s)) ∧
  (∀ (s : State), s.running .vl = true → s.fab.ptp.apart ≠ none → s.quality ≠ 2 → exec .fabricTimeMismatch s = .next
    (((s.set F.BIL_TIME_STATUS_QUALITY 2).log { type_ := 0x0013, sub := 2, payload := natLE 1 s.quality }).raise
    { src := 54 })) ∧
  (∀ (s : State), s.fab.ptp.apart = none → exec .fabricTimeMismatch s = .next (s))

/-- The time limits and the end of a session (R175, R178, R181, R185, R186). A partner that is present keeps the session in its final state. -/
def Obligations.SessionLimits : Prop :=
  (∀ (s : State) (p : Fin 8), s.running .ap = true → s.sess p = 1 → (s.sx p).partner = true → ∃ t, exec
    (.handshakeTimeout p) s = .next t ∧ t.sess p = 15 ∧ t.get (F.TPT_STATE_LAST_REASON p.val) = 9) ∧
  (∀ (s : State) (p : Fin 8), s.sess p ≠ 1 → (s.sx p).adopted = false → exec (.handshakeTimeout p) s = .next (s)) ∧
  (∀ (s : State) (p : Fin 8), s.running .ap = true → s.sess p = 2 → (s.sx p).partner = true → ∃ t, exec
    (.authorisationTimeout p) s = .next t ∧ t.sess p = 7 ∧ t.get (F.TPT_STATE_LAST_REASON p.val) = 7) ∧
  (∀ (s : State) (p : Fin 8), s.sess p ≠ 2 → exec (.authorisationTimeout p) s = .next (s)) ∧
  (∀ (s : State) (p : Fin 8), s.running .ap = true → s.sess p = 4 → (s.sx p).partner = true → ∃ t, exec (.readyTimeout
    p) s = .next t ∧ t.sess p = 7 ∧ t.get (F.TPT_STATE_LAST_REASON p.val) = 8) ∧
  (∀ (s : State) (p : Fin 8), s.sess p ≠ 4 → exec (.readyTimeout p) s = .next (s)) ∧
  (∀ (s : State) (p : Fin 8), s.running .ap = true → s.sess p = 5 → isElec (s.type_ p) = true → (s.sx p).partner =
    true → ∃ t, exec (.overcurrentViolation p) s = .next t ∧ t.sess p = 15 ∧ t.get (F.TPT_STATE_LAST_REASON p.val) =
    0x22 ∧ (t.sx p).recDue = true) ∧
  (∀ (s : State) (p : Fin 8), s.sess p ≠ 5 → exec (.overcurrentViolation p) s = .next (s)) ∧
  (∀ (s : State) (p : Fin 8), s.running .ap = true → s.running .pw = true → (s.sx p).waitSafe = true → s.pointSafe p =
    true → (s.sx p).waitEnd = false → s.sess p = 6 → (s.sx p).partner = true → ∃ t, exec (.safeStateReport p) s =
    .next t ∧ t.sess p = 7 ∧ (t.sx p).waitSafe = false ∧ t.get (F.TPT_STATE_LAST_REASON p.val) = s.get
    (F.TPT_STATE_LAST_REASON p.val)) ∧
  (∀ (s : State) (p : Fin 8), (s.sx p).waitSafe = false → exec (.safeStateReport p) s = .next (s)) ∧
  (∀ (s : State) (p : Fin 8), s.running .ap = true → (s.sx p).waitSafe = true → (s.sx p).qs = none → s.sess p = 6 →
    (s.sx p).partner = true → ∃ t, exec (.switchConfirmTimeout p) s = .next t ∧ t.sess p = 15 ∧ t.get
    (F.TPT_STATE_LAST_REASON p.val) = 0x12 ∧ t.get (F.TPT_STATE_WELD p.val) = 1 ∧ t.tpt.latched[p] = 0x12) ∧
  (∀ (s : State) (p : Fin 8), (s.sx p).waitSafe = false → exec (.switchConfirmTimeout p) s = .next (s)) ∧
  (∀ (s : State) (p : Fin 8), s.running .ap = true → s.type_ p = 3 → (s.sx p).waitSafe = true → exec
    (.dcContactorOpenTimeout p) s = .next (s.openPoint p)) ∧
  (∀ (s : State) (p : Fin 8), (s.sx p).waitSafe = false → exec (.dcContactorOpenTimeout p) s = .next (s))

/-- The commands of the host for sessions and points (R174, R175, R177, R181, R183, R198, R199, R257, R266, R359). -/
def Obligations.SessionCommands : Prop :=
  (∀ (s : State) (d : Desc), s.admits d
    { opcode := 0x0101, priv := some 0, isl := .ap, point := true, params := [(24, 1), (26, 30)] } [(24, decide (30 <
    d.n 24 1))] → d.n 24 1 ≠ 0 → s.sess d.pt = 1 → s.get (F.TPT_CFG_AUTH_EN d.pt.val) = 4 → s.tpt.counter.toNat + 1 <
    4294967296 → ∃ t, exec (.identify d) s = .next t ∧ t.sess d.pt = 2 ∧ t.get (F.TPT_SESSION_NUMBER d.pt.val) =
    s.tpt.counter.toNat + 1 ∧ (t.sx d.pt).ident = slice d.bytes 26 (d.n 24 1) ∧ (t.sx d.pt).hostAsked = true ∧
    t.host.results = s.host.results ++ [⟨d, 0, 0, natLE 4 (s.tpt.counter.toNat + 1)⟩]) ∧
  (∀ (s : State) (d : Desc), s.admits d
    { opcode := 0x0101, priv := some 0, isl := .ap, point := true, params := [(24, 1), (26, 30)] } [(24, decide (30 <
    d.n 24 1))] → d.n 24 1 ≠ 0 → s.sess d.pt ≠ 1 → exec (.identify d) s = .next (s.complete d 0x0007 (s.sess d.pt)
    [])) ∧
  (∀ (s : State) (d : Desc), s.admits d
    { opcode := 0x0102, priv := some 0, isl := .ap, point := true, params := [(24, 1), (28, 4), (32, 4), (40, 8)] }
    [(24, decide (1 < d.n 24 1))] → s.sess d.pt = 2 → s.numberOk d = true → (s.sx d.pt).hostAsked = true → d.n 24 1 =
    1 → ∃ t, exec (.authorise d) s = .next t ∧ t.sess d.pt = 3 ∧ t.get (F.TPT_STATE_AUTH_SRC d.pt.val) = 3 ∧ (t.sx
    d.pt).prepaid = BitVec.ofNat 64 (d.n 40 8)) ∧
  (∀ (s : State) (d : Desc), s.admits d
    { opcode := 0x0102, priv := some 0, isl := .ap, point := true, params := [(24, 1), (28, 4), (32, 4), (40, 8)] }
    [(24, decide (1 < d.n 24 1))] → s.sess d.pt = 2 → s.numberOk d = true → (s.sx d.pt).hostAsked = true → (s.sx
    d.pt).partner = true → d.n 24 1 = 0 → ∃ t, exec (.authorise d) s = .next t ∧ t.sess d.pt = 7 ∧ t.get
    (F.TPT_STATE_LAST_REASON d.pt.val) = 6) ∧
  (∀ (s : State) (d : Desc), s.admits d
    { opcode := 0x0102, priv := some 0, isl := .ap, point := true, params := [(24, 1), (28, 4), (32, 4), (40, 8)] }
    [(24, decide (1 < d.n 24 1))] → (s.sess d.pt ≠ 2 ∨ s.numberOk d = false) → exec (.authorise d) s = .next
    (s.complete d 0x0007 (s.sess d.pt) [])) ∧
  (∀ (s : State) (d : Desc), s.admits d
    { opcode := 0x0103, priv := some 0, isl := .ap, point := true, params := [(24, 1), (28, 4)] } [(24, decide (2 <
    d.n 24 1))] → s.sess d.pt = 2 → s.numberOk d = true → (s.sx d.pt).certWait = true → d.n 24 1 = 0 → ∃ t, exec
    (.revocationStatus d) s = .next t ∧ t.sess d.pt = 3 ∧ t.get (F.TPT_STATE_AUTH_SRC d.pt.val) = 1 ∧ (t.sx
    d.pt).certWait = false) ∧
  (∀ (s : State) (d : Desc), s.admits d
    { opcode := 0x0103, priv := some 0, isl := .ap, point := true, params := [(24, 1), (28, 4)] } [(24, decide (2 <
    d.n 24 1))] → s.sess d.pt = 2 → s.numberOk d = true → (s.sx d.pt).certWait = false → exec (.revocationStatus d) s
    = .next (s.complete d 0x0007 2 [])) ∧
  (∀ (s : State) (d : Desc), s.admits d
    { opcode := 0x0104, priv := some 0, isl := .ap, point := true, params := [(28, 4)] } → s.numberOk d = true → 2 ≤
    s.sess d.pt → s.sess d.pt ≤ 4 → (s.sx d.pt).partner = true → ∃ t, exec (.stopSession d) s = .next t ∧ t.sess d.pt
    = 7 ∧ t.get (F.TPT_STATE_LAST_REASON d.pt.val) = 2) ∧
  (∀ (s : State) (d : Desc), s.admits d
    { opcode := 0x0104, priv := some 0, isl := .ap, point := true, params := [(28, 4)] } → s.numberOk d = true →
    s.sess d.pt = 5 → ∃ t, exec (.stopSession d) s = .next t ∧ t.sess d.pt = 6 ∧ t.get (F.TPT_STATE_LAST_REASON
    d.pt.val) = 2 ∧ (t.sx d.pt).waitEnd = true ∧ (t.sx d.pt).waitSafe = true) ∧
  (∀ (s : State) (d : Desc), s.admits d
    { opcode := 0x0104, priv := some 0, isl := .ap, point := true, params := [(28, 4)] } → s.numberOk d = false → exec
    (.stopSession d) s = .next (s.complete d 0x0007 (s.sess d.pt) [])) ∧
  (∀ (s : State) (d : Desc), s.admits d { opcode := 0x0105, priv := some 0, isl := .ap, point := true } → s.sess d.pt
    = 15 → (s.sx d.pt).partner = false → (s.sx d.pt).recDue = false → (s.sx d.pt).weldCmd = none → s.tpt.latched[d.pt]
    ≠ 0x12 → ∃ t, exec (.clearFault d) s = .next t ∧ t.sess d.pt = 0 ∧ t.get (F.TPT_STATE_WELD d.pt.val) = 0 ∧
    t.tpt.latched[d.pt] = 0) ∧
  (∀ (s : State) (d : Desc), s.admits d { opcode := 0x0105, priv := some 0, isl := .ap, point := true } → s.sess d.pt
    = 15 → (s.sx d.pt).partner = false → (s.sx d.pt).recDue = false → (s.sx d.pt).weldCmd = none → s.tpt.latched[d.pt]
    = 0x12 → ∃ t, exec (.clearFault d) s = .next t ∧ t.sess d.pt = 15 ∧ (t.sx d.pt).weldCmd = some d ∧ (t.sx
    d.pt).weldQ = 0 ∧ t.host.results = s.host.results) ∧
  (∀ (s : State) (d : Desc), s.admits d { opcode := 0x0105, priv := some 0, isl := .ap, point := true } → (s.sess d.pt
    ≠ 15 ∨ (s.sx d.pt).partner = true) → exec (.clearFault d) s = .next (s.complete d 0x0007 (s.sess d.pt) [])) ∧
  (∀ (s : State) (p : Fin 8) (passed : Bool) (d : Desc), s.running .ap = true → (s.sx p).weldCmd = some d → passed =
    true → 5 ≤ (s.sx p).weldQ → ∃ t, exec (.weldCheckEnd p passed) s = .next t ∧ t.sess p = 0 ∧ t.get
    (F.TPT_STATE_WELD p.val) = 0 ∧ (t.sx p).weldCmd = none ∧ t.host.results = s.host.results ++ [⟨d, 0, 0, []⟩]) ∧
  (∀ (s : State) (p : Fin 8) (passed : Bool) (d : Desc), s.running .ap = true → (s.sx p).weldCmd = some d → passed =
    false → ∃ t, exec (.weldCheckEnd p passed) s = .next t ∧ t.sess p = s.sess p ∧ (t.sx p).weldCmd = none ∧
    t.host.results = s.host.results ++ [⟨d, 0x0007, 15, []⟩]) ∧
  (∀ (s : State) (p : Fin 8) (passed : Bool), (s.sx p).weldCmd = none → exec (.weldCheckEnd p passed) s = .next (s)) ∧
  (∀ (s : State) (d : Desc), s.admits d
    { opcode := 0x0106, priv := some 0, isl := .ap, point := true, params := [(24, 1)] } [(24, decide (1 < d.n 24 1))]
    → restState (s.sess d.pt) = true → exec (.serviceState d) s = .next (((s.set (F.TPT_STATE_OOS d.pt.val) (d.n 24
    1)).showPilot d.pt).ok d [])) ∧
  (∀ (s : State) (d : Desc), s.admits d
    { opcode := 0x0106, priv := some 0, isl := .ap, point := true, params := [(24, 1)] } [(24, decide (1 < d.n 24 1))]
    → restState (s.sess d.pt) = false → exec (.serviceState d) s = .next (s.complete d 0x0007 (s.sess d.pt) [])) ∧
  (∀ (s : State) (d : Desc), s.admits d
    { opcode := 0x0107, priv := some 0, isl := .ap, point := true, params := [(24, 2)] } [(24, d.n 24 2 != 0xFFFF &&
    (decide (d.n 24 2 < 60) || decide (630 < d.n 24 2)))] → ∃ t, exec (.hostCurrentLimit d) s = .next t ∧ ((t.sx
    d.pt).hostLimit = if d.n 24 2 = 0xFFFF then none else some (d.n 24 2)) ∧ t.host.results = s.host.results ++ [⟨d,
    0, 0, []⟩]) ∧
  (∀ (s : State) (d : Desc), s.cmdFail d
    { opcode := 0x0107, priv := some 0, isl := .ap, point := true, params := [(24, 2)] } [0] [(24, d.n 24 2 != 0xFFFF
    && (decide (d.n 24 2 < 60) || decide (630 < d.n 24 2)))] = some (0x0002, 24) → exec (.hostCurrentLimit d) s =
    .next (s.complete d 0x0002 24 [])) ∧
  (∀ (s : State) (d : Desc), s.admits d
    { opcode := 0x0109, priv := some 2, isl := .ap, point := true, params := [(24, 1)] } [(24, decide (6 < d.n 24 1))]
    → s.sealOpen = true → s.sess d.pt = 0 → 0 < s.get F.KEY_CHG_LEFT_TYPE → s.logRefusing = false → s.isl.supply =
    .normal → s.key.badFuses = 0 → s.met.typePend[d.pt] = none → d.n 24 1 ≠ s.type_ d.pt → ∃ t, exec (.assignPointType
    d) s = .next t ∧ t.met.typePend = s.met.typePend.set d.pt (some (d.n 24 1)) ∧ t.get F.KEY_CHG_LEFT_TYPE = s.get
    F.KEY_CHG_LEFT_TYPE - 1 ∧ t.host.results = s.host.results ++ [⟨d, 0, 0, natLE 1 (s.get F.KEY_CHG_LEFT_TYPE - 1)⟩]) ∧
  (∀ (s : State) (d : Desc), s.admits d
    { opcode := 0x0109, priv := some 2, isl := .ap, point := true, params := [(24, 1)] } [(24, decide (6 < d.n 24 1))]
    → s.sealOpen = true → s.sess d.pt = 0 → 0 < s.get F.KEY_CHG_LEFT_TYPE → s.logRefusing = false →
    s.met.typePend[d.pt] = none → d.n 24 1 = s.type_ d.pt → exec (.assignPointType d) s = .next (s.ok d (natLE 1
    (s.get F.KEY_CHG_LEFT_TYPE)))) ∧
  (∀ (s : State) (d : Desc), s.admits d
    { opcode := 0x0109, priv := some 2, isl := .ap, point := true, params := [(24, 1)] } [(24, decide (6 < d.n 24 1))]
    → s.sealOpen = false → exec (.assignPointType d) s = .next (s.complete d 0x0004 0 [])) ∧
  (∀ (s : State) (d : Desc), s.admits d
    { opcode := 0x010A, priv := some 1, isl := .ap, params := [(24, 2)], staged := .len 65536 65536 false, load := true }
    → ∃ t, exec (.loadContractTable d) s = .next t ∧ t.tpt.table = s.staged d ∧ (t.get F.TPT_CTAB_STATUS_COUNT =
    ((List.range 2048).filter (fun k => (nth (s.staged d) (32 * k + 17) 0).toNat.testBit 0)).length % 2 ^ 12) ∧ t.get
    F.TPT_CTAB_STATUS_VERSION = d.n 24 2)

/-- The control pilot and the vehicle protocols (R175, R182, R187 to R189). -/
def Obligations.PilotEvents : Prop :=
  (∀ (s : State) (p : Fin 8) (high low : Int) (ohms : Nat), s.running .pt = true → s.running .ap = true → isElec
    (s.type_ p) = true → s.flag (F.TPT_CFG_PP_MODE p.val) = true → s.pilotF p = false → s.get (F.PTN_CP_DUTY p.val) =
    0 → 80 ≤ high → high ≤ 100 → (s.sx p).bcChanges = [] → (s.sx p).partner = false → s.mayConnect p = true → ∃ t,
    exec (.pilotStateChange p high low ohms) s = .next t ∧ t.sess p = 1 ∧ t.get (F.PTN_CP_CP_STATE p.val) = 1 ∧ t.get
    (F.PTN_CP_DIODE_FAIL p.val) = 0 ∧ (t.sx p).partner = true) ∧
  (∀ (s : State) (p : Fin 8) (high low : Int) (ohms : Nat), s.running .pt = false → exec (.pilotStateChange p high low
    ohms) s = .next (s)) ∧
  (∀ (s : State) (p : Fin 8) (offered : BitVec 3), s.running .pt = true → s.running .ap = true → isElec (s.type_ p) =
    true → s.digitalOn p = true → s.sess p = 1 → s.get (F.TPT_STATE_PROTO p.val) ≠ 1 → s.chooseProto p offered ≠ 0 →
    exec (.vehicleMessage p (.appProtocol offered)) s = .next (s.set (F.TPT_STATE_PROTO p.val) (s.chooseProto p
    offered))) ∧
  (∀ (s : State) (p : Fin 8) (name : List Byte) (cert : Bool), s.running .pt = true → s.running .ap = true → isElec
    (s.type_ p) = true → s.digitalOn p = true → s.sess p = 1 → 2 ≤ s.get (F.TPT_STATE_PROTO p.val) → name ≠ [] → s.get
    (F.TPT_CFG_AUTH_EN p.val) = 4 → ∃ t, exec (.vehicleMessage p (.identity name cert)) s = .next t ∧ t.sess p = 2 ∧
    (t.sx p).ident = name ∧ (t.sx p).certValid = cert ∧ (t.sx p).adopted = false) ∧
  (∀ (s : State) (p : Fin 8), s.running .pt = true → s.running .ap = true → isElec (s.type_ p) = true → s.digitalOn p
    = true → s.sess p = 5 → ∃ t, exec (.vehicleMessage p .stop) s = .next t ∧ t.sess p = 6 ∧ t.get
    (F.TPT_STATE_LAST_REASON p.val) = 1) ∧
  (∀ (s : State) (p : Fin 8), s.running .pt = true → s.running .ap = true → isElec (s.type_ p) = true → s.digitalOn p
    = true → s.sess p = 5 → (s.sx p).partner = true → ∃ t, exec (.vehicleMessage p .violation) s = .next t ∧ t.sess p
    = 15 ∧ t.get (F.TPT_STATE_LAST_REASON p.val) = 0x22) ∧
  (∀ (s : State) (p : Fin 8) (m : VehMsg), s.sess p = 0 → exec (.vehicleMessage p m) s = .next (s)) ∧
  (∀ (s : State) (p : Fin 8), s.running .pt = true → s.running .ap = true → isElec (s.type_ p) = true → s.digitalOn p
    = true → s.get (F.TPT_STATE_PROTO p.val) = 0 → s.sess p = 1 → isAc (s.type_ p) = true → (s.get (F.TPT_CFG_PROTO_EN
    p.val)).testBit 0 = true → ∃ t, exec (.seccDiscoveryTimeout p) s = .next t ∧ t.get (F.TPT_STATE_PROTO p.val) = 1 ∧
    (t.sx p).fallbackF = true ∧ t.get (F.PTN_CP_CP_STATE p.val) = 5 ∧ t.sess p = 1) ∧
  (∀ (s : State) (p : Fin 8), s.running .pt = true → (s.sx p).fallbackF = true → ∃ t, exec (.fallbackPilotFEnd p) s =
    .next t ∧ (t.sx p).fallbackF = false ∧ t.sess p = s.sess p) ∧
  (∀ (s : State) (p : Fin 8), (s.sx p).fallbackF = false → exec (.fallbackPilotFEnd p) s = .next (s)) ∧
  (∀ (s : State) (p : Fin 8), s.running .pt = true → s.running .ap = true → isElec (s.type_ p) = true → 2 ≤ s.get
    (F.TPT_STATE_PROTO p.val) → 1 ≤ s.sess p → s.sess p ≤ 5 → (s.sx p).partner = true → ∃ t, exec
    (.vehicleMessageTimeout p) s = .next t ∧ t.sess p = 15 ∧ t.get (F.TPT_STATE_LAST_REASON p.val) = 0x23) ∧
  (∀ (s : State) (p : Fin 8), s.get (F.TPT_STATE_PROTO p.val) < 2 → exec (.vehicleMessageTimeout p) s = .next (s))

/-- The coupling link of a fluid skid (R180, R181, R190, R191). The coverage of the generation 2 frame's CRC is the model's reading (log 24). -/
def Obligations.CouplingEvents : Prop :=
  (∀ (s : State) (p : Fin 8) (loop : Nat), s.running .pt = true → s.running .ap = true → isFluid (s.type_ p) = true →
    80 ≤ loop → loop ≤ 120 → 1 ≤ s.sess p → ∃ t, exec (.couplingDetect p loop) s = .next t ∧ t.get (F.PTN_COUP_LOOP
    p.val) = loop ∧ (t.sx p).partner = true ∧ t.sess p = s.sess p) ∧
  (∀ (s : State) (p : Fin 8) (loop : Nat), s.running .pt = true → s.running .ap = true → isFluid (s.type_ p) = true →
    (loop < 80 ∨ 120 < loop) → s.sess p = 1 → ∃ t, exec (.couplingAbsent p loop) s = .next t ∧ t.sess p = 0 ∧ t.get
    (F.PTN_COUP_GEN p.val) = 0 ∧ (t.sx p).partner = false) ∧
  (∀ (s : State) (p : Fin 8), s.running .pt = true → s.running .ap = true → isFluid (s.type_ p) = true → (s.sx
    p).adopted = false → s.sess p = 1 → s.minGen p < (s.sx p).trying → 1 < (s.sx p).trying → exec
    (.couplingAttemptTimeout p) s = .next (s.modSx p (fun x =>
    { x with trying := (s.sx p).trying - 1, gen1 := none }))) ∧
  (∀ (s : State) (p : Fin 8), s.running .pt = true → s.running .ap = true → isFluid (s.type_ p) = true → (s.sx
    p).adopted = false → s.sess p = 1 → (s.sx p).trying ≠ 0 → (s.sx p).trying ≤ s.minGen p → (s.sx p).partner = true →
    ∃ t, exec (.couplingAttemptTimeout p) s = .next t ∧ t.sess p = 15 ∧ t.get (F.TPT_STATE_LAST_REASON p.val) = 9) ∧
  (∀ (s : State) (p : Fin 8) (name : List Byte), s.running .pt = true → s.running .ap = true → isFluid (s.type_ p) =
    true → s.sess p = 1 → (s.sx p).trying = 2 → 1 ≤ name.length → name.length ≤ 32 → s.get (F.TPT_CFG_AUTH_EN p.val) =
    4 → ∃ t, exec (.couplingIdentityFrame p ([0x7E, BitVec.ofNat 8 name.length] ++ name ++ natLE 2 (crc16
    ([BitVec.ofNat 8 name.length] ++ name)))) s = .next t ∧ t.sess p = 2 ∧ (t.sx p).ident = name ∧ t.get
    (F.PTN_COUP_GEN p.val) = 2 ∧ t.get (F.TPT_STATE_PROTO p.val) = 0x12 ∧ (t.sx p).flags = s.tpt.sess[p].flags ||| 32) ∧
  (∀ (s : State) (p : Fin 8) (frame : List Byte), s.sess p ≠ 1 → exec (.couplingIdentityFrame p frame) s = .next (s)) ∧
  (∀ (s : State) (p : Fin 8) (seq : Dword) (ready stop : Bool), s.running .pt = true → s.running .ap = true → isFluid
    (s.type_ p) = true → s.get (F.PTN_COUP_GEN p.val) = 3 → 1 ≤ s.sess p → s.sess p ≤ 5 → (s.sx p).partner = true → ∃
    t, exec (.couplingMessage p (.data seq false ready stop)) s = .next t ∧ t.sess p = 15 ∧ t.get
    (F.TPT_STATE_LAST_REASON p.val) = 0x28 ∧ t.get (F.TPT_STATE_WELD p.val) = 1) ∧
  (∀ (s : State) (p : Fin 8) (seq : Dword), s.running .pt = true → s.running .ap = true → isFluid (s.type_ p) = true →
    s.get (F.PTN_COUP_GEN p.val) = 3 → s.sess p = 5 → (s.sx p).coupSeq.toNat ≤ seq.toNat → ∃ t, exec (.couplingMessage
    p (.data seq true false true)) s = .next t ∧ t.sess p = 6 ∧ t.get (F.TPT_STATE_LAST_REASON p.val) = 1 ∧ (t.sx
    p).coupSeq = seq + 1) ∧
  (∀ (s : State) (p : Fin 8), s.running .pt = true → s.running .ap = true → isFluid (s.type_ p) = true → 2 ≤ s.get
    (F.PTN_COUP_GEN p.val) → 1 ≤ s.sess p → s.sess p ≤ 5 → (s.sx p).partner = true → ∃ t, exec (.couplingHeartbeatLost
    p) s = .next t ∧ t.sess p = 15 ∧ t.get (F.TPT_STATE_LAST_REASON p.val) = 0x23) ∧
  (∀ (s : State) (p : Fin 8), s.get (F.PTN_COUP_GEN p.val) < 2 → exec (.couplingHeartbeatLost p) s = .next (s))

/-- Power stacks (R181, R193). How setpoints are laid out is a constant of Config (log 20). -/
def Obligations.StackEvents : Prop :=
  (∀ (s : State) (p : Fin 8), s.running .pt = true → s.running .ap = true → s.type_ p = 3 → s.get (F.TPT_LINK_NODE
    p.val) ≠ 0 → s.flag (F.PTN_CAN_CFG_EN (s.get (F.TPT_LINK_CAN p.val))) = true → ∃ t, exec (.stackCommandSend p) s =
    .next t ∧ (t.sx p).stackSeq = (s.sx p).stackSeq + 1 ∧ (∃ rest : List Byte, t.out = .can (s.get (F.TPT_LINK_CAN
    p.val)) (0x200 + s.get (F.TPT_LINK_NODE p.val)) ([(s.sx p).stackSeq + 1, (s.sx p).stackCmd] ++ rest) :: s.out)) ∧
  (∀ (s : State) (p : Fin 8), s.type_ p ≠ 3 → exec (.stackCommandSend p) s = .next (s)) ∧
  (∀ (s : State) (port : Fin 2) (ident : BitVec 11) (frame : List Byte) (p : Fin 8), s.running .pt = true → s.running
    .ap = true → s.flag (F.PTN_CAN_CFG_EN port.val) = true → (points.filter (fun p => s.type_ p == 3 && s.get
    (F.TPT_LINK_CAN p.val) == port.val && s.get (F.TPT_LINK_NODE p.val) != 0 && 0x280 + s.get (F.TPT_LINK_NODE p.val)
    == ident.toNat) = [p]) → frame.length = 8 → nth frame 0 0 = (s.sx p).stackSeq → fld frame 6 2 = 0 → (s.sx
    p).waitSafe = false → exec (.stackStatusFrame port ident frame) s = .next (s.modSx p (fun x =>
    { x with stackAmps := sfld frame 4 2 }))) ∧
  (∀ (s : State) (port : Fin 2) (ident : BitVec 11) (frame : List Byte) (p : Fin 8), s.running .pt = true → s.running
    .ap = true → s.flag (F.PTN_CAN_CFG_EN port.val) = true → (points.filter (fun p => s.type_ p == 3 && s.get
    (F.TPT_LINK_CAN p.val) == port.val && s.get (F.TPT_LINK_NODE p.val) != 0 && 0x280 + s.get (F.TPT_LINK_NODE p.val)
    == ident.toNat) = [p]) → frame.length = 8 → nth frame 0 0 = (s.sx p).stackSeq → fld frame 6 2 ≠ 0 → s.sess p = 5 →
    (s.sx p).partner = true → ∃ t, exec (.stackStatusFrame port ident frame) s = .next t ∧ t.sess p = 15 ∧ t.get
    (F.TPT_STATE_LAST_REASON p.val) = 0x24) ∧
  (∀ (s : State) (port : Fin 2) (ident : BitVec 11) (frame : List Byte), s.flag (F.PTN_CAN_CFG_EN port.val) = false →
    exec (.stackStatusFrame port ident frame) s = .next (s)) ∧
  (∀ (s : State) (p : Fin 8), s.running .pt = true → s.running .ap = true → s.type_ p = 3 → 3 ≤ s.sess p → s.sess p ≤
    5 → (s.sx p).partner = true → ∃ t, exec (.stackStatusTimeout p) s = .next t ∧ t.sess p = 15 ∧ t.get
    (F.TPT_STATE_LAST_REASON p.val) = 0x24) ∧
  (∀ (s : State) (p : Fin 8), s.type_ p ≠ 3 → exec (.stackStatusTimeout p) s = .next (s)) ∧
  (∀ (s : State) (p : Fin 8), s.running .pt = true → s.running .ap = true → s.type_ p = 3 → s.sess p = 5 → 100 ≤ (s.sx
    p).stackMis → (s.sx p).partner = true → ∃ t, exec (.stackCurrentMismatch p) s = .next t ∧ t.sess p = 15 ∧ t.get
    (F.TPT_STATE_LAST_REASON p.val) = 0x24) ∧
  (∀ (s : State) (p : Fin 8), (s.sx p).stackMis < 100 → exec (.stackCurrentMismatch p) s = .next (s))

/-- The checks before a transfer (R127, R181, R194 to R197). -/
def Obligations.CheckEvents : Prop :=
  (∀ (s : State) (p : Fin 8), s.running .ap = true → s.checking p = true → s.vot.holds[p] = none → checkRows.all
    (s.rowMet p) = true → s.partnerReady p = false → ∃ t, exec (.checksPassed p) s = .next t ∧ t.sess p = 4 ∧ (t.sx
    p).stackCmd = 2) ∧
  (∀ (s : State) (p : Fin 8), checkRows.all (s.rowMet p) = false → exec (.checksPassed p) s = .next (s)) ∧
  (∀ (s : State) (p : Fin 8) (k : CheckKind), s.running .ap = true → s.checking p = true → s.rowMet p k = false →
    (s.sx p).partner = true → ∃ t, exec (.checkTimeout p k) s = .next t ∧ t.sess p = 15 ∧ t.get
    (F.TPT_STATE_LAST_REASON p.val) = checkReason k) ∧
  (∀ (s : State) (p : Fin 8) (k : CheckKind), s.rowMet p k = true → s.vot.holds[p] = none → exec (.checkTimeout p k) s
    = .next (s)) ∧
  (∀ (s : State) (p : Fin 8), s.running .ap = true → (s.sx p).rcmTesting = true → (s.sx p).rcmSeen = false → s.sess p
    = 3 → (s.sx p).partner = true → ∃ t, exec (.rcmTestTimeout p) s = .next t ∧ t.sess p = 15 ∧ t.get
    (F.TPT_STATE_LAST_REASON p.val) = 0x10 ∧ (t.sx p).rcmTesting = false) ∧
  (∀ (s : State) (p : Fin 8), s.running .ap = true → (s.sx p).rcmTesting = true → (s.sx p).rcmSeen = true → ∃ t, exec
    (.rcmTestTimeout p) s = .next t ∧ (t.sx p).rcmTesting = false ∧ (t.sx p).rcmDone = true ∧ t.sess p = s.sess p ∧
    t.get (F.MET_TPCOND_RCM_TRIP p.val) = 0) ∧
  (∀ (s : State) (p : Fin 8), (s.sx p).rcmTesting = false → exec (.rcmTestTimeout p) s = .next (s)) ∧
  (∀ (s : State) (c : Fin 2) (kohm : Nat) (p : Fin 8), s.running .ap = true → s.flag (F.TPT_IM_BUSY c.val) = true →
    s.get (F.TPT_IM_OWNER c.val) = p.val → s.sess p = 5 → kohm < s.get (F.TPT_LIMIT_R_FAULT p.val) → 1 ≤ (s.sx
    p).isoBad → (s.sx p).partner = true → ∃ t, exec (.insulationMeasurement c kohm) s = .next t ∧ t.sess p = 15 ∧
    t.get (F.TPT_STATE_LAST_REASON p.val) = 0x11 ∧ (t.get (F.TPT_IM_R_ISO c.val) = if 10000 < kohm then 0xFFFF else
    kohm)) ∧
  (∀ (s : State) (c : Fin 2) (kohm : Nat), s.flag (F.TPT_IM_BUSY c.val) = false → exec (.insulationMeasurement c kohm)
    s = .next (s)) ∧
  (∀ (s : State) (p : Fin 8), s.running .ap = true → s.checking p = true → (s.sx p).leak = .filling → exec
    (.leakTestFillEnd p) s = .next ((s.openPoint p).modSx p (fun x => { x with leak := .settling }))) ∧
  (∀ (s : State) (p : Fin 8), (s.sx p).leak ≠ .filling → exec (.leakTestFillEnd p) s = .next (s)) ∧
  (∀ (s : State) (p : Fin 8), s.running .ap = true → s.checking p = true → (s.sx p).leak = .settling → exec
    (.leakTestSettleEnd p) s = .next (s.modSx p (fun x => { x with leak := .testing, leakP0 := s.linePressure p }))) ∧
  (∀ (s : State) (p : Fin 8), (s.sx p).leak ≠ .settling → exec (.leakTestSettleEnd p) s = .next (s)) ∧
  (∀ (s : State) (p : Fin 8), s.running .ap = true → s.checking p = true → (s.sx p).leak = .testing → (s.sx p).leakP0
    - s.linePressure p ≤ (s.get (F.TPT_LEAK_DECAY_MAX p.val) : Int) → exec (.leakTestEnd p) s = .next (s.modSx p (fun
    x => { x with leak := .passed }))) ∧
  (∀ (s : State) (p : Fin 8), s.running .ap = true → s.checking p = true → (s.sx p).leak = .testing → (s.get
    (F.TPT_LEAK_DECAY_MAX p.val) : Int) < (s.sx p).leakP0 - s.linePressure p → (s.sx p).partner = true → ∃ t, exec
    (.leakTestEnd p) s = .next t ∧ t.sess p = 15 ∧ t.get (F.TPT_STATE_LAST_REASON p.val) = 0x13) ∧
  (∀ (s : State) (p : Fin 8), (s.sx p).leak ≠ .testing → exec (.leakTestEnd p) s = .next (s))

/-- Channel faults and their ends (R205 to R209). A pair acts together (`State.members`, R202). -/
def Obligations.LoadSwitchFaults : Prop :=
  (∀ (s : State) (n : Fin 16), s.lsOn n = true → exec (.shortDetected n) s = .next (((s.count (F.LSW_CH_CNT_SHORTS
    n.val) 1).fault 9 .pw).faultChan n 75)) ∧
  (∀ (s : State) (n : Fin 16), s.lsOn n = true → exec (.overcurrent n) s = .next ((s.count (F.LSW_CH_CNT_OVERCUR
    n.val) 1).faultChan n 76)) ∧
  (∀ (s : State) (n : Fin 16), s.lsOn n = true → exec (.switchCellOvertemperature n) s = .next ((s.count
    (F.LSW_CH_CNT_OVERCUR n.val) 1).faultChan n 76)) ∧
  (∀ (s : State) (n : Fin 16), s.get (F.LSW_CH_STAT_PAUSE n.val) = 1 → exec (.retryPauseEnd n) s = .next (((s.members
    n).foldl (fun (s : State) m => s.set (F.LSW_CH_STAT_PAUSE m.val) 0) s).tryOn n)) ∧
  (∀ (s : State) (n : Fin 16), s.lsOn n = true → exec (.retrySequenceReset n) s = .next ((s.members n).foldl (fun (s :
    State) m => s.set (F.LSW_CH_STAT_TRY m.val) 0) s)) ∧
  (∀ (s : State) (n : Fin 16), exec (.inrushEnd n) s = .next (s.set (F.LSW_CH_STAT_INRUSH n.val) 0)) ∧
  (∀ (s : State) (n : Fin 16), s.openWatched n = true → exec (.openLoad n) s = .next ((s.set (F.LSW_CH_STAT_OPEN
    n.val) 1).raise { src := 78, unit_ := n.val, every := 60000000 })) ∧
  (∀ (s : State) (n : Fin 16), s.openWatched n = true → exec (.openLoadClear n) s = .next (s.set (F.LSW_CH_STAT_OPEN
    n.val) 0))

/-- Shedding, generators, dips and holds (R210 to R217). -/
def Obligations.LoadSwitchSupply : Prop :=
  (∀ (s : State) (mean inst : Nat), (((if s.get F.MG_PART_ORDER = 0x54 then 1200 else 2400) < mean ∨ (if s.get
    F.MG_PART_ORDER = 0x54 then 4000 else 6000) < inst)) → exec (.aggregateOverload mean inst) s = .next
    ({ s.showAgg mean inst with lsw := { s.lsw with shedCur := true, returning := false } })) ∧
  (∀ (s : State) (mean : Nat), s.lsw.shedCur = true → s.lsw.shedTemp = false → (if s.get F.MG_PART_ORDER = 0x54 then
    1200 else 2400) ≤ mean → exec (.shedStep mean) s = .next (State.shedOne
    { s with lsw := { s.lsw with shedCur := true, shedTemp := false } } false)) ∧
  (∀ (s : State) (mean : Nat), mean < s.returnLimit → s.lsw.shedCur = false → exec (.shedReturn mean) s = .next
    ({ s.setSat F.LSW_AGG_MEAN mean with lsw := { s.lsw with returning := true } })) ∧
  (∀ (s : State) (n : Fin 16), s.lsw.shedCur = false → s.lsw.shedTemp = false → s.nextReturn = some n → exec
    .shedRestoreStep s = .next (s.unshed n)) ∧
  (∀ (s : State) (degC : Int), 140 ≤ degC → degC < 150 → s.arrayTemp < 140 → s.lsw.shedTemp = false → exec
    (.arrayTemperature degC) s = .next ((s.set F.LSW_THERM_TEMP degC.toNat).raise { src := 79 })) ∧
  (∀ (s : State) (g : Fin 8), (∀ n : Fin 16, s.get (F.LSW_CH_CFG_PWM_EN n.val) = 0) → exec (.pwmPeriodStart g) s =
    .next
    ({ s with lsw := { s.lsw with pwm := s.lsw.pwm.set g (s.get (F.LSW_PWM_PER_PERIOD g.val), s.get (F.LSW_PWM_DUTY_DUTY g.val), s.flag (F.LSW_PWM_DUTY_EN g.val)) } })) ∧
  (∀ (s : State) (v : Nat), s.get F.LSW_STATUS_UV_OFF = 0 → 450 ≤ v → v < 550 → exec (.vfieldDip v) s = .next
    ((s.setSat F.LSW_STATUS_VFIELD v).set F.LSW_STATUS_DIP 1)) ∧
  (∀ (s : State) (v : Nat), v < 450 → s.get F.LSW_STATUS_UV_OFF = 0 → s.rail = 0 → exec (.uvOff v) s = .next
    (((s.uvOff v).2.foldl (fun (s : State) n => s.channelStop n 0x26) (s.uvOff v).1).safUv)) ∧
  (∀ (s : State) (v : Nat), 600 ≤ v → exec (.uvRecovery v) s = .next ((s.uvReturn v).displayAgain)) ∧
  (∀ (s : State) (n : Fin 16), s.running .pw = true → s.get (F.LSW_CH_STAT_HELD n.val) = 1 → s.pointOwned n = false →
    exec (.channelReclaim n) s = .next (s.commandChan n (s.commanded (s.leader n)))) ∧
  (∀ (s : State) (l : List (Fin 16)), (lsChans.filter (fun n => s.leader n == n && (s.members n).any (fun m => s.flag
    (F.LSW_CH_STAT_HELD m.val))) = l) → l ≠ [] → exec .holdExpiry s = .next ((l.foldl (fun (s : State) n =>
    s.commandChan n (!(s.pointOwned n) && s.flag (F.LSW_CH_CFG_RST_ON n.val))) s).raise { src := 82 }))

/-- LSW_CMD, LSW_LATCH, LSW_AGG and the commands 0x0301 and 0x0302 (R203, R208, R210). -/
def Obligations.LoadSwitchCommands : Prop :=
  (∀ (s : State) (v : Word) (n : Fin 16), s.running .hi = true → s.running .pw = true → v.toNat.testBit n.val ≠
    s.commanded n → s.pointOwned n = true → exec (.lswCmdWrite v) s = .next (s.raise { src := 0 })) ∧
  (∀ (s : State) (v : Word), s.running .hi = true → s.running .pw = true → (∀ n : Fin 16, v.toNat.testBit n.val ≠
    s.commanded n → s.hostMay n = true) → exec (.lswCmdWrite v) s = .next ((lsChans.filter (fun n => s.hostMay n &&
    (v.toNat.testBit n.val != s.commanded n || s.flag (F.LSW_CH_STAT_HELD n.val)))).foldl (fun (s : State) n =>
    s.commandChan n (v.toNat.testBit n.val)) s)) ∧
  (∀ (s : State) (v : Word), s.running .hi = true → s.running .pw = true → (∀ n : Fin 16, v.toNat.testBit n.val = true
    → s.commanded n = false) → exec (.latchClear v) s = .next (s.clearLatches v.toNat)) ∧
  (∀ (s : State) (v : Word) (n : Fin 16), s.running .hi = true → s.running .pw = true → v.toNat.testBit n.val = true →
    s.commanded n = true → exec (.latchClear v) s = .next (s.raise { src := 0 })) ∧
  (∀ (s : State), s.running .hi = true → s.running .pw = true → exec .lswAggRead s = .next
    ({ s.set F.LSW_AGG_PEAK 0 with host := { s.host with readData := natLE 4 (s.reg R.LSW_AGG) } })) ∧
  (∀ (s : State) (d : Desc), s.admits d { opcode := 0x0301, priv := some 0, isl := .pw, params := [(24, 2), (26, 2)] }
    → (∀ n : Fin 16, (d.n 24 2).testBit n.val = true → s.hostMay n = true) → exec (.switchHostChannels d) s = .next
    (((lsChans.filter (fun n => (d.n 24 2).testBit n.val)).foldl (fun (s : State) n => s.commandChan n ((d.n 26
    2).testBit n.val)) s).ok d [])) ∧
  (∀ (s : State) (d : Desc), s.admits d { opcode := 0x0302, priv := some 0, isl := .pw, params := [(24, 2)] } → (∀ n :
    Fin 16, (d.n 24 2).testBit n.val = true → s.commanded n = false) → exec (.clearLatches d) s = .next
    ((s.clearLatches (d.n 24 2)).ok d []))

/-- Events of SF (R221 to R238). A channel is named by whether it is channel B. -/
def Obligations.SafetyChannels : Prop :=
  (∀ (s : State) (i : Fin 12) (level : Bool) (tA tB : Nat), s.running .sf = true → exec (.safetyInputFiltered i level
    true true tA tB) s = .next (((((s.setLevel false i.val level).setLevel true i.val level).judge true tB).judge
    false tA).safSettle)) ∧
  (∀ (s : State), s.running .sf = true → s.saf.chA.mode = .run → s.saf.chB.mode = .safeFault → exec .sfScan s = .next
    (((fns.foldl (fun (s : State) f => if [1, 2, 4].contains (s.fnType f) then s.stepFn false f else s) s).drive
    false).safSettle)) ∧
  (∀ (s : State) (n : Fin 4), (s.get F.SAF_OUT_OUT).testBit (4 * n.val) ≠ (s.get F.SAF_OUT_OUT).testBit (4 * n.val +
    1) → exec (.safetyDiscrepancy .demand (some n)) s = .next (s.safFault 0x01 n.val 0xF)) ∧
  (∀ (s : State) (out : Option (Fin 4)), s.levels false ≠ s.levels true → exec (.safetyDiscrepancy .inputReading out)
    s = .next (s.safFault 0x04 0xF 0xF)) ∧
  (∀ (s : State) (out : Option (Fin 4)), exec (.safetyDiscrepancy .configCrc out) s = .next (s.safFault 0x05 0xF 0xF)) ∧
  (∀ (s : State) (out : Fin 4) (swB : Bool), s.saf.chB.mode = .run → s.swOn out swB = true → s.saf.testB.toNat.testBit
    out.val = swB → ∃ t, exec (.outputTest out swB false) s = .next t ∧ t.saf.chA.mode = .safeFault ∧ t.saf.chB.mode =
    .safeFault ∧ t.get F.SAF_FAULT_CAUSE = 2 ∧ t.get F.SAF_FAULT_OUT = out.val) ∧
  (∀ (s : State) (out : Fin 4) (swB on : Bool), s.swOn out swB ≠ on → exec (.switchStuck out swB on) s = .next
    ((s.safFault (if on then 0x02 else 0x03) out.val 0xF).setBit F.SAF_OUT_OUT (4 * out.val + 2 + swB.toNat) on)) ∧
  (∀ (s : State) (f : Fin 6), s.running .sf = true → s.fnActive f = true → s.saf.chA.mode = .run → s.saf.chB.mode =
    .safeFault → (s.pairs false f).contains 2 = true → s.saf.chA.fns[f] ≠ .discrepancy → exec (.inputDiscrepancy f) s
    = .next ((((s.moveFn false f .discrepancy).setHand false f ⟨false, none, none⟩).raise
    { src := 84, unit_ := f.val }).safSettle)) ∧
  (∀ (s : State) (f : Fin 6), s.running .sf = true → s.fnActive f = true → s.saf.chA.fns[f] = .discrepancy → (s.pairs
    false f).all (· == 0) = true → s.saf.chB.fns[f] ≠ .discrepancy → exec (.discrepancyClear f) s = .next (((s.moveFn
    false f .demanded).setHand false f ⟨s.fnType f == 3, none, none⟩).safSettle)) ∧
  (∀ (s : State) (f : Fin 6), s.running .sf = true → s.fnType f = 3 → s.saf.chA.mode = .run →
    s.saf.chA.hands[f].first.isSome = true → exec (.twoHandTimeout f true false) s = .next (((s.setHand false f
    ⟨false, none, some handTimeout⟩).judgeHands f).safSettle)) ∧
  (∀ (s : State), s.running .sf = true → s.saf.chA.mode = .startTests → ∃ t, exec (.startTestsComplete false) s =
    .next t ∧ t.get F.SAF_FAULT_CAUSE = 7 ∧ t.get F.SAF_FAULT_OUT = 15 ∧ t.get F.SAF_FAULT_FUNC = 15) ∧
  (∀ (s : State), s.running .sf = true → s.saf.chA.mode = .startTests → s.safConfigured = false → exec
    (.startTestsComplete true) s = .next
    (((((({ s with saf := { s.saf with chA := { s.saf.chA with mode := .unconfigured }, chB := { s.saf.chB with mode := .unconfigured } } }
    : State).raise { src := 91, detail := 1 }).judge true 0).judge false 0)).safSettle)) ∧
  (∀ (s : State), s.running .sf = true → exec .safetyConfigTimeout s = .next
    ({ s with saf := { s.saf with staged := none } }))

/-- SAF_RESET_REQ and the commands 0x0401 and 0x0402 (R234, R235, R238). The status of a confirmation with another CRC is the model's choice (log 26). -/
def Obligations.SafetyCommands : Prop :=
  (∀ (s : State) (v : Word), s.running .hi = true → s.running .sf = true → bitsOf v.toNat 31 8 = 0xA5C300 → exec
    (.safetyResetRequest v) s = .next (((fns.filter (fun f => v.toNat.testBit f.val)).foldl (fun (s : State) f =>
    s.resetFn f ([1, 2, 4].contains (s.fnType f) && s.get (F.SAF_FUNC_RESET_SRC f.val) == 0xF)) s).safSettle)) ∧
  (∀ (s : State) (v : Word), s.running .hi = true → s.running .sf = true → (bitsOf v.toNat 31 16 ≠ 0xA5C3 ∨ bitsOf
    v.toNat 15 9 ≠ 0) → exec (.safetyResetRequest v) s = .next (s.raise { src := 0 })) ∧
  (∀ (s : State) (v : Word), s.running .hi = true → s.running .sf = true → v = 0xA5C30100 → s.refFault = false → exec
    (.safetyRestart v) s = .next (s.safRestart.safSettle)) ∧
  (∀ (s : State) (d : Desc), s.admits d
    { opcode := 0x0401, priv := some 1, isl := .sf, staged := .len 116 116 false, load := true } → s.safBad (s.staged
    d) = none → exec (.loadSafetyConfiguration d) s = .next
    (({ s with saf := { s.saf with staged := some (s.staged d) } } : State).ok d (slice (s.staged d) 112 4))) ∧
  (∀ (s : State) (d : Desc) (b : List Byte), s.admits d
    { opcode := 0x0402, priv := some 1, isl := .sf, params := [(24, 4)] } → s.saf.staged = some b → fld b 112 4 = d.n
    24 4 → s.refFault = false → exec (.confirmSafetyConfiguration d) s = .next ((((s.allDemanded.storeSaf b).raise
    { src := 90 }).safRestart).ok d [])) ∧
  (∀ (s : State) (d : Desc) (b : List Byte), s.admits d
    { opcode := 0x0402, priv := some 1, isl := .sf, params := [(24, 4)] } → s.saf.staged = some b → fld b 112 4 ≠ d.n
    24 4 → exec (.confirmSafetyConfiguration d) s = .next (({ s with saf := { s.saf with staged := none } } :
    State).complete d 0x0002 24 []))

/-- Fabric ports, hellos and link state (R282, R287, R291, R292). -/
def Obligations.FabricLinks : Prop :=
  (∀ (s : State) (k : Fin 4), s.running .cm = true → s.flag (F.FAB_PORT_CFG_EN k.val) = true → exec (.phyLinkUp k) s =
    .next ({ s with fab := { s.fab with ports := s.fab.ports.set k { s.fab.ports[k] with phy := true } } })) ∧
  (∀ (s : State) (k : Fin 4), s.flag (F.FAB_PORT_CFG_EN k.val) = false → exec (.phyLinkUp k) s = .next (s)) ∧
  (∀ (s : State) (k : Fin 4), s.running .cm = true → s.get (F.FAB_PORT_STATUS_UP k.val) = 1 → ∃ t, exec (.phyLinkDown
    k) s = .next t ∧ t.get (F.FAB_PORT_STATUS_UP k.val) = 0 ∧ t.get (F.FAB_PORT_ERR_DOWNS k.val) = sat 16 (s.get
    (F.FAB_PORT_ERR_DOWNS k.val) + 1) ∧ t.fab.ports[k].phy = false) ∧
  (∀ (s : State) (k : Fin 4), s.running .cm = true → s.get (F.FAB_PORT_STATUS_UP k.val) = 0 → exec (.phyLinkDown k) s
    = .next ({ s with fab := { s.fab with ports := s.fab.ports.set k { s.fab.ports[k] with phy := false } } })) ∧
  (∀ (s : State) (k : Fin 4), s.running .cm = true → s.flag (F.FAB_PORT_CFG_EN k.val) = true → s.fab.ports[k].phy =
    true → exec (.helloSend k) s = .next (s.sendFrame (.fp k) 1 0 0xFFFF 0 [] (natLE 6 s.identity ++ natLE 2 s.ownAddr
    ++ natLE 2 (if s.get (F.FAB_PORT_STATUS_NEIGH k.val) = 0 then 0xFFFF else s.get (F.FAB_PORT_STATUS_NEIGH k.val))
    ++ natLE 1 (s.get (F.FAB_PORT_STATUS_COST k.val)) ++ natLE 1 (s.nodeFlags % 8) ++ zeros 4))) ∧
  (∀ (s : State) (k : Fin 4), s.fab.ports[k].phy = false → exec (.helloSend k) s = .next (s)) ∧
  (∀ (s : State) (k : Fin 4) (frame : List Byte) (f : RxFrame) (u : State), s.running .cm = true → ((State.modNb
    (s.set (F.FAB_PORT_STATUS_NEIGH k.val) (fld frame 20 2)) (.fp k) (fun x =>
    { x with joined := (fld (frame.drop 34) 11 1).testBit 0 })).rxFrame (Fin.ofNat 5 k.val) frame [0x01] = (some f,
    u)) → ∃ t, exec (.helloReceive k frame) s = .next t ∧ t.fab.ports[k].nb.ident = BitVec.ofNat 48 (fld f.payload 0
    6) ∧ t.fab.ports[k].nb.heardUs = (u.fab.ports[k].nb.heardUs || (fld f.payload 8 2 == u.ownAddr && u.ownAddr != 0))
    ∧ t.get (F.FAB_PORT_STATUS_NEIGH k.val) = fld frame 20 2) ∧
  (∀ (s : State) (k : Fin 4), s.running .cm = true → s.get (F.FAB_PORT_STATUS_UP k.val) = 1 → ∃ t, exec (.helloTimeout
    k) s = .next t ∧ t.get (F.FAB_PORT_STATUS_UP k.val) = 0 ∧ t.get (F.FAB_PORT_ERR_DOWNS k.val) = sat 16 (s.get
    (F.FAB_PORT_ERR_DOWNS k.val) + 1)) ∧
  (∀ (s : State) (k : Fin 4), s.get (F.FAB_PORT_STATUS_UP k.val) = 0 → exec (.helloTimeout k) s = .next (s)) ∧
  (∀ (s : State) (k : Fin 4) (bad fill c : Nat), s.running .cm = true → c = min 255 (s.get (F.FAB_PORT_CFG_BASE k.val)
    + min 100 bad + 100 * fill / 8192) → s.get (F.FAB_PORT_STATUS_UP k.val) = 1 → s.get (F.FAB_PORT_STATUS_SUPPR
    k.val) = 0 → s.fab.ports[k].nb.costAt = none → 8 ≤ ((c : Int) - (s.get (F.FAB_PORT_STATUS_COST k.val) :
    Int)).natAbs → exec (.linkCostUpdate k bad fill) s = .next (((s.set (F.FAB_PORT_STATUS_COST k.val) c).modNb (.fp
    k) (fun x => { x with costAt := some s.time.now })).advertise)) ∧
  (∀ (s : State) (k : Fin 4) (bad fill : Nat), s.get (F.FAB_PORT_STATUS_UP k.val) = 0 → exec (.linkCostUpdate k bad
    fill) s = .next (s)) ∧
  (∀ (s : State) (port : Fin 5) (j : Fin 32), s.running .cm = true → s.flag (linkSupprF (linkNamed port j)) = true →
    s.flag (linkUpF (linkNamed port j)) = false → exec (.linkSuppressionEnd port j) s = .next
    ((let u := s.set (linkSupprF (linkNamed port j)) 0; u.set (linkCostF (linkNamed port j)) (u.baseCost (linkNamed port j))))) ∧
  (∀ (s : State) (port : Fin 5) (j : Fin 32), s.flag (linkSupprF (linkNamed port j)) = false → exec
    (.linkSuppressionEnd port j) s = .next (s)) ∧
  (∀ (s : State) (port : Fin 5) (j : Fin 32), s.running .cm = true → s.flag (linkQuarF (linkNamed port j)) = true →
    exec (.quarantineEnd port j) s = .next ((s.setQuar (linkNamed port j) false).modNb (linkNamed port j) (fun x =>
    { x with heardUs := false }))) ∧
  (∀ (s : State) (port : Fin 5) (j : Fin 32), s.flag (linkQuarF (linkNamed port j)) = false → exec (.quarantineEnd
    port j) s = .next (s)) ∧
  (∀ (s : State) (d : Desc), s.admits d { opcode := 0x0904, priv := some 1, isl := .cm, params := [(24, 1)] } [(24,
    decide (3 < d.n 24 1))] → exec (.clearQuarantine d) s = .next ((s.endQuarantine (.fp (Fin.ofNat 4 (d.n 24 1)))).ok
    d [])) ∧
  (∀ (s : State) (d : Desc), s.admits d { opcode := 0x0906, priv := some 1, isl := .cm } → ∃ t, exec (.advanceKeyEpoch
    d) s = .next t ∧ t.get F.FAB_KEY_EPOCH_EPOCH = (s.get F.FAB_KEY_EPOCH_EPOCH + 1) % 65536 ∧ t.host.results =
    s.host.results ++ [⟨d, 0, 0, natLE 2 ((s.get F.FAB_KEY_EPOCH_EPOCH + 1) % 65536)⟩] ∧ (∀ x ∈ t.key.cache, x.2.1 =
    t.get F.FAB_KEY_EPOCH_EPOCH ∨ x.2.1 = s.get F.FAB_KEY_EPOCH_EPOCH))

/-- Adverts, addresses and routes (R288 to R294, R309). -/
def Obligations.FabricAdverts : Prop :=
  (∀ (s : State) (port : Fin 5) (frame : List Byte) (f : RxFrame) (a : Advert) (u : State), s.running .cm = true →
    port.val < 4 → s.rxFrame port frame [0x02] = (some f, u) → u.readAdvert f.payload = some a → (u.nb f.link).advRate
    = [] → a.ident.toNat ≠ s.identity → s.fab.db = [] → ∃ t, exec (.linkStateAdvertReceive port frame) s = .next t ∧
    t.fab.db = [a] ∧ t.get F.FAB_NODES_NODES = 1) ∧
  (∀ (s : State) (port : Fin 5) (frame : List Byte), s.running .cm = true → port.val < 4 → s.flag (F.FAB_PORT_CFG_EN
    port.val) = true → s.fab.ports[Fin.ofNat 4 port.val].phy = true → derquan port frame = none → exec
    (.linkStateAdvertReceive port frame) s = .next (s.count (F.FAB_PORT_ERR_BAD port.val) 1)) ∧
  (∀ (s : State), s.running .cm = true → s.fab.repeats ≠ 0 → ∃ t, exec .advertRepeat s = .next t ∧ t.fab.repeats =
    s.fab.repeats - 1 ∧ t.fab.ownSeq = s.fab.ownSeq) ∧
  (∀ (s : State), s.fab.repeats = 0 → exec .advertRepeat s = .next (s)) ∧
  (∀ (s : State), s.running .cm = true → ∃ t, exec .advertRefresh s = .next t ∧ t.fab.ownSeq = s.fab.ownSeq + 1) ∧
  (∀ (s : State) (ident : BitVec 48), s.running .cm = true → exec (.advertAgeOut ident) s = .next
    (({ s with fab := { s.fab with db := s.fab.db.filter (fun a => a.ident != ident) } } : State).set
    F.FAB_NODES_NODES (s.fab.db.filter (fun a => a.ident != ident)).length)) ∧
  (∀ (s : State), s.running .cm = true → s.get F.FAB_STATUS_STATE = 1 → ∃ t, exec .addressClaimFinal s = .next t ∧
    t.get F.FAB_STATUS_STATE = 2 ∧ t.get F.FAB_STATUS_ADDR = s.get F.FAB_STATUS_ADDR ∧ (t.fab.stored = if s.flag
    F.FAB_ADDR_CFG_FIXED = true then s.fab.stored else some (BitVec.ofNat 16 s.ownAddr, s.fab.k))) ∧
  (∀ (s : State), s.get F.FAB_STATUS_STATE ≠ 1 → exec .addressClaimFinal s = .next (s)) ∧
  (∀ (s : State), s.running .cm = true → ∃ t, exec .routeRecompute s = .next t ∧ (t.fab.routes = (((s.fab.db.map
    Advert.addr).eraseDups).filter (fun a => a != BitVec.ofNat 16 s.ownAddr && a != 0)).filterMap (routeEntry
    (BitVec.ofNat 16 s.ownAddr) s.edges (walksFrom (BitVec.ofNat 16 s.ownAddr) s.edges)))) ∧
  (∀ (s : State) (d : Desc), s.admits d { opcode := 0x0901, priv := some 1, isl := .cm, params := [(24, 2)] } → exec
    (.routeLookup d) s = .next (s.ok d (routeBytes ((s.routeTo (BitVec.ofNat 16 (d.n 24 2))).map RouteEntry.prim) ++
    routeBytes ((s.routeTo (BitVec.ofNat 16 (d.n 24 2))).bind RouteEntry.sec))))

/-- Reports, collectors and routed frames (R295 to R302). -/
def Obligations.FabricReports : Prop :=
  (∀ (s : State) (r : Report), s.running .cm = true → s.fab.reports = [r] → r.seq = none → r.due ≤ s.time.now →
    s.joined = true → s.stroke = false → exec .reportSpreadDue s = .next (State.issueReport
    { s with fab := { s.fab with reports := [] } } r.type_ r.body)) ∧
  (∀ (s : State), s.fab.reports = [] → exec .reportSpreadDue s = .next (s)) ∧
  (∀ (s : State) (r : Report) (rest : List Report), s.running .cm = true → s.fab.reports = r :: rest → r.seq.isSome =
    true → s.joined = true → s.stroke = false → exec .reportSend s = .next (s.collectors.foldl (fun (u : State) c =>
    u.sendReport r c) { s with fab := { s.fab with reports := rest } })) ∧
  (∀ (s : State), s.joined = false → exec .reportSend s = .next (s)) ∧
  (∀ (s : State) (port : Fin 5) (p : List Byte) (type_ : Byte), s.running .cm = true → (type_ = 0x10 ∨ type_ = 0x11 ∨
    type_ = 0x12) → s.flag F.FAB_REP_CFG_IS_COLL = true → 24 ≤ p.length → s.fab.dups = [] → exec (.reportReceive port
    p type_) s = .next
    ((({ s with fab := { s.fab with dups := [⟨BitVec.ofNat 16 (fld p 10 2), BitVec.ofNat 32 (fld p 0 4), 1, s.time.now⟩] } }
    : State).set F.FAB_DUP_STATUS_SOURCES 1).collect port.val 0 p)) ∧
  (∀ (s : State) (port : Fin 5) (p : List Byte) (type_ : Byte) (e : DupEntry), s.running .cm = true → (type_ = 0x10 ∨
    type_ = 0x11 ∨ type_ = 0x12) → s.flag F.FAB_REP_CFG_IS_COLL = true → 24 ≤ p.length → s.fab.dups = [e] → e.src =
    BitVec.ofNat 16 (fld p 10 2) → e.newest = BitVec.ofNat 32 (fld p 0 4) → e.bits.toNat.testBit 0 = true → exec
    (.reportReceive port p type_) s = .next
    ((({ s with fab := { s.fab with dups := [{ e with used := s.time.now }] } } : State).set F.FAB_DUP_STATUS_SOURCES
    1).count F.FAB_DUP_STATUS_DISCARDED 1)) ∧
  (∀ (s : State) (port : Fin 5) (p : List Byte) (type_ : Byte), s.flag F.FAB_REP_CFG_IS_COLL = false → exec
    (.reportReceive port p type_) s = .next (s)) ∧
  (∀ (s : State) (pkt : List Dword) (rest : List (List Dword)), s.running .cm = true → s.ques[(0x19 : Fin 35)].pkts =
    pkt :: rest → exec .collectorStoreWrite s = .next (((s.queRelease 0x19 false).writeStore ⟨4, 0, packetEntry
    pkt⟩).raise { src := 108, every := 1000000 })) ∧
  (∀ (s : State), s.ques[(0x19 : Fin 35)].pkts = [] → exec .collectorStoreWrite s = .next (s)) ∧
  (∀ (s : State) (d : Desc), s.admits d { opcode := 0x0905, priv := some 0, isl := .cm } → exec (.locateCollectorStore
    d) s = .next (s.ok d (natLE 8 (boathouseBase + ringAt 4 0) ++ natLE 4 0x1000000 ++ natLE 4 (s.storeNewest 4 0)))) ∧
  (∀ (s : State) (k : Fin 4) (frame f : List Byte), s.running .cm = true → s.flag (F.FAB_PORT_CFG_EN k.val) = true →
    s.fab.ports[k].phy = true → derquan (Fin.ofNat 5 k.val) frame = some f → s.flag (F.FAB_PORT_CFG_M5206_EN k.val) =
    true → fld f 0 1 = 1 → s.fab.ports[k].rate5206 = [] → s.joined = true → s.stroke = false → s.collectors ≠ [] →
    exec (.mmd5206Frame k frame) s = .next (State.issueReport
    { s with fab := { s.fab with ports := s.fab.ports.set k { s.fab.ports[k] with rate5206 := [s.time.now] } } } 0x30
    f)) ∧
  (∀ (s : State) (k : Fin 4) (frame : List Byte), s.running .cm = true → s.flag (F.FAB_PORT_CFG_EN k.val) = true →
    s.fab.ports[k].phy = true → s.flag (F.FAB_PORT_CFG_M5206_EN k.val) = false → exec (.mmd5206Frame k frame) s =
    .next (s.count (F.FAB_PORT_ERR_BAD k.val) 1)) ∧
  (∀ (s : State) (port : Fin 5) (frame : List Byte) (f : RxFrame) (u : State) (h : Half) (l : Lnk), s.running .cm =
    true → port.val < 4 → s.rxFrame port frame [0x10, 0x11, 0x12, 0x20, 0x21, 0x30] = (some f, u) → f.route[f.index]?
    = some (BitVec.ofNat 16 u.ownAddr) → f.route[f.index + 1]? = some h → u.linkTo h none = some l → exec
    (.routedFrameForward port frame) s = .next (u.sendFrame l (fld (frame.drop 14) 1 1) f.flags f.dest (f.index + 1)
    f.route f.payload)) ∧
  (∀ (s : State) (port : Fin 5) (frame : List Byte), s.running .cm = true → port.val < 4 → s.flag (F.FAB_PORT_CFG_EN
    port.val) = true → s.fab.ports[Fin.ofNat 4 port.val].phy = true → derquan port frame = none → exec
    (.routedFrameForward port frame) s = .next (s.count (F.FAB_PORT_ERR_BAD port.val) 1))

/-- Fabric commands (R303, R309). -/
def Obligations.FabricCommands : Prop :=
  (∀ (s : State) (p key : List Byte) (u : State), s.running .cm = true → p.length = 92 → fld p 2 2 = s.ownAddr →
    s.commandKey = some (key, u) → (hmac256 key (p.take 76)).take 16 = p.drop 76 → s.fab.counters = [] → ((opcodePrivs
    ⟨.fabric (BitVec.ofNat 16 (fld p 0 2)), slice p 12 64⟩).all (fun b => (u.privs (.fabric (BitVec.ofNat 16 (fld p 0
    2)))).testBit b) = true) → u.host.inFlight.length < 256 → ∃ t, exec (.fabricCommandReceive p) s = .next t ∧
    t.host.inFlight = u.host.inFlight ++ [⟨.fabric (BitVec.ofNat 16 (fld p 0 2)), slice p 12 64⟩] ∧ t.fab.counters =
    [(BitVec.ofNat 16 (fld p 0 2), BitVec.ofNat 64 (fld p 4 8))] ∧ t.fab.waiting = u.fab.waiting ++ [(⟨.fabric
    (BitVec.ofNat 16 (fld p 0 2)), slice p 12 64⟩, BitVec.ofNat 64 (fld p 4 8))]) ∧
  (∀ (s : State) (p : List Byte), s.running .cm = true → p.length = 92 → fld p 2 2 = s.ownAddr → s.commandKey = none →
    exec (.fabricCommandReceive p) s = .next (s.raise { src := 111 })) ∧
  (∀ (s : State) (p key : List Byte) (u : State) (r : RemoteCmd), s.running .cm = true → p.length = 48 → s.commandKey
    = some (key, u) → u.fab.remote = [r] → (hmac256 key (p.take 32 ++ natLE 8 r.counter.toNat)).take 16 = p.drop 32 →
    exec (.fabricCommandCompletion p) s = .next (State.ok { u with fab := { u.fab with remote := [] } } r.desc (p.take
    16))) ∧
  (∀ (s : State) (p : List Byte), s.commandKey = none → exec (.fabricCommandCompletion p) s = .next (s)) ∧
  (∀ (s : State) (d : Desc), s.admits d
    { opcode := 0x0902, priv := some 1, isl := .cm, params := [(24, 2)], staged := .len 64 64 false } → ∃ t, exec
    (.sendFabricCommand d) s = .next t ∧ t.fab.ownCounter = s.fab.ownCounter + 1 ∧ t.fab.remote = s.fab.remote ++ [⟨d,
    BitVec.ofNat 16 (d.n 24 2), s.fab.ownCounter + 1⟩]) ∧
  (∀ (s : State) (r : RemoteCmd) (rest : List RemoteCmd), s.running .cm = true → s.fab.remote = r :: rest → exec
    .fabricCommandTimeout s = .next (State.complete { s with fab := { s.fab with remote := rest } } r.desc 0x000A
    (Isl.code .cm) [])) ∧
  (∀ (s : State), s.fab.remote = [] → exec .fabricCommandTimeout s = .next (s))

/-- Fabric time (R304). The servo's law is left open by the specification: a free value (log 29). -/
def Obligations.FabricClock : Prop :=
  (∀ (s : State) (k : Fin 4) (o : Int), s.running .cm = true → s.usable (.fp k) = true → s.timePort k = true →
    o.natAbs < 2 ^ 31 → s.flag F.FAB_PTP_STATUS_LOCK = false → ∃ t, exec (.ptpMessageReceive k (.sync o)) s = .next t
    ∧ t.get F.FAB_PTP_OFFSET_OFFSET = ofSigned 32 o ∧ t.time.servoPpm = max (-100) (min 100 (Config.servo o s.free)) ∧
    t.fab.ptp.syncAt = some s.time.now) ∧
  (∀ (s : State) (k : Fin 4) (domain : Byte) (gm : Half) (p1 cl p2 : Byte) (ident : BitVec 48) (steps : Nat) (utc :
    Int) (valid : Bool), s.running .cm = true → domain.toNat ≠ s.get F.FAB_PTP_CFG_DOMAIN → exec (.ptpMessageReceive k
    (.announce domain gm p1 cl p2 ident steps utc valid)) s = .next (s)) ∧
  (∀ (s : State) (k : Fin 4) (domain : Byte) (gm : Half) (p1 cl p2 : Byte) (ident : BitVec 48) (steps : Nat) (utc :
    Int), s.running .cm = true → s.usable (.fp k) = true → domain.toNat = s.get F.FAB_PTP_CFG_DOMAIN → s.fab.ptp.best
    = none → exec (.ptpMessageReceive k (.announce domain gm p1 cl p2 ident steps utc false)) s = .next ((s.modPtp
    (fun x => { x with best := some ⟨p1.toNat, cl.toNat, p2.toNat, ident.toNat, steps, gm, k.val⟩ })).bestClock)) ∧
  (∀ (s : State) (k : Fin 4), s.running .cm = true → s.masterPort k = true → exec (.ptpSyncSend k) s = .next (s.emit
    (.ptp k.val 0))) ∧
  (∀ (s : State) (k : Fin 4), s.masterPort k = false → exec (.ptpSyncSend k) s = .next (s)) ∧
  (∀ (s : State) (k : Fin 4), s.running .cm = true → s.masterPort k = true → exec (.ptpAnnounceSend k) s = .next
    (s.emit (.ptp k.val 1))) ∧
  (∀ (s : State) (k : Fin 4), s.running .cm = true → s.usable (.fp k) = true → exec (.ptpPeerDelaySend k) s = .next
    (s.emit (.ptp k.val 2))) ∧
  (∀ (s : State) (k : Fin 4) (m : PtpMaster), s.running .cm = true → s.fab.ptp.best = some m → m.port = k.val → exec
    (.ptpAnnounceTimeout k) s = .next ((s.modPtp (fun x => { x with best := none })).bestClock)) ∧
  (∀ (s : State) (k : Fin 4), s.fab.ptp.best = none → exec (.ptpAnnounceTimeout k) s = .next (s)) ∧
  (∀ (s : State), s.running .cm = true → s.get F.FAB_PTP_STATUS_ROLE = 1 → s.flag F.FAB_PTP_STATUS_LOCK = false →
    s.fab.ptp.within ≠ none → s.open_ .cm .vl = false → exec .ptpLockAcquired s = .next ((s.set F.FAB_PTP_STATUS_LOCK
    1).raise { src := 110 })) ∧
  (∀ (s : State), s.running .cm = true → s.get F.FAB_PTP_STATUS_ROLE = 1 → s.flag F.FAB_PTP_STATUS_LOCK = false →
    s.fab.ptp.within ≠ none → s.open_ .cm .vl = true → s.quality ≠ 2 → ∃ t, exec .ptpLockAcquired s = .next t ∧ t.get
    F.FAB_PTP_STATUS_LOCK = 1 ∧ t.quality = 0 ∧ t.time.lastSync = some s.time.now) ∧
  (∀ (s : State), s.running .cm = true → ∃ t, exec .ptpSyncLoss s = .next t ∧ t.time.servoPpm = 0 ∧ t.fab.ptp.syncAt =
    none ∧ t.fab.ptp.within = none ∧ t.get F.FAB_PTP_STATUS_LOCK = 0)

/-- Duplex pairs (R305 to R309). -/
def Obligations.DuplexPairs : Prop :=
  (∀ (s : State) (pid : BitVec 48) (paddr : Half) (ppref : Bool), s.running .cm = true → s.flag F.FAB_PAIR_CFG_EN =
    true → s.flag F.FAB_PAIR_CFG_PREF_BOW = ppref → s.identity < pid.toNat → ∃ t, exec (.pairUp pid paddr ppref) s =
    .next t ∧ t.get F.FAB_STATUS_ROLE = 1 ∧ t.get F.FAB_PAIR_STATUS_PARTNER = 1 ∧ t.get F.FAB_PAIR_STATUS_PAIR_ADDR =
    s.ownAddr ∧ t.get F.FAB_PAIR_STATUS_LANE_A = 1 ∧ t.get F.FAB_PAIR_STATUS_LANE_B = 1 ∧ t.fab.pair.ident = pid) ∧
  (∀ (s : State) (pid : BitVec 48) (paddr : Half) (ppref : Bool), s.flag F.FAB_PAIR_CFG_EN = false → exec (.pairUp pid
    paddr ppref) s = .next (s)) ∧
  (∀ (s : State), s.running .cm = true → s.bow = true → s.flag F.FAB_PAIR_STATUS_PARTNER = true → exec
    .pairHeartbeatSend s = .next ((s.emit (.pair 0)).emit (.pair 2))) ∧
  (∀ (s : State), s.bow = false → exec .pairHeartbeatSend s = .next (s)) ∧
  (∀ (s : State) (on : Half), s.running .cm = true → s.flag F.FAB_PAIR_STATUS_PARTNER = true → s.stroke = true → ∃ t,
    exec (.duplexMirror (.channels on)) s = .next t ∧ t.lsw.mirror = on ∧ t.fab.pair.mirrorAt = some s.time.now ∧
    t.get F.FAB_PAIR_STATUS_MIRROR_OK = 1) ∧
  (∀ (s : State) (seq : Word) (type_ : Byte) (body : List Byte), s.running .cm = true → s.flag
    F.FAB_PAIR_STATUS_PARTNER = true → s.stroke = true → ∃ t, exec (.duplexMirror (.report seq type_ body)) s = .next
    t ∧ t.fab.pair.reports = (⟨type_, body, s.time.now, some seq⟩ :: s.fab.pair.reports).take 16 ∧ t.out = .pair 3 ::
    s.out) ∧
  (∀ (s : State) (m : MirrorItem), s.flag F.FAB_PAIR_STATUS_PARTNER = false → exec (.duplexMirror m) s = .next (s)) ∧
  (∀ (s : State), s.running .cm = true → s.stroke = true → s.running .vl = true → s.running .ap = true → s.running .pt
    = true → s.running .pw = true → s.get F.VOT_STATUS_MODE ≠ 2 → s.fab.pair.mirrorAt = some s.time.now → exec
    .pairReleaseReceive s = .next (s.showMirror.takeOver)) ∧
  (∀ (s : State), s.running .cm = true → s.stroke = true → s.fab.pair.mirrorAt = none → exec .pairReleaseReceive s =
    .next ((s.set F.FAB_PAIR_STATUS_MIRROR_OK 0).raise { src := 112 })) ∧
  (∀ (s : State), s.stroke = false → exec .pairReleaseReceive s = .next (s)) ∧
  (∀ (s : State), s.running .cm = true → s.stroke = true → exec .pairHeartbeatLoss s = .next (((s.set
    F.FAB_PAIR_STATUS_LANE_A 0).set F.FAB_PAIR_STATUS_LANE_B 0).considerSwitch)) ∧
  (∀ (s : State), s.running .cm = true → s.flag F.FAB_PAIR_STATUS_LANE_A = true → exec (.pairLaneLoss false) s = .next
    ((s.set F.FAB_PAIR_STATUS_LANE_A 0).raise { src := 113, unit_ := 0 })) ∧
  (∀ (s : State), s.running .cm = true → s.flag F.FAB_PAIR_STATUS_LANE_B = true → exec (.pairLaneLoss true) s = .next
    ((s.set F.FAB_PAIR_STATUS_LANE_B 0).raise { src := 113, unit_ := 1 })) ∧
  (∀ (s : State) (pid : BitVec 48) (pbow : Bool), s.running .cm = true → s.flag F.FAB_PAIR_STATUS_PARTNER = true →
    (s.bow = false ∨ pbow = false ∨ s.identity ≤ pid.toNat) → exec (.pairLaneReturn true pid pbow) s = .next (s.set
    F.FAB_PAIR_STATUS_LANE_B 1)) ∧
  (∀ (s : State) (pid : BitVec 48), s.running .cm = true → s.flag F.FAB_PAIR_STATUS_PARTNER = true → s.bow = true →
    pid.toNat < s.identity → exec (.pairLaneReturn false pid true) s = .next ((s.set F.FAB_PAIR_STATUS_LANE_A
    1).becomeStroke)) ∧
  (∀ (s : State) (d : Desc), s.admits d { opcode := 0x0903, priv := some 1, isl := .cm } → s.bow = true → s.flag
    F.FAB_PAIR_STATUS_PARTNER = true → exec (.switchRole d) s = .next (State.ok
    { (s.emit (.pair 1)) with fab := { s.fab with pair := { s.fab.pair with released := true } } } d [])) ∧
  (∀ (s : State) (d : Desc), s.admits d { opcode := 0x0903, priv := some 1, isl := .cm } → s.bow = false → exec
    (.switchRole d) s = .next (s.complete d 0x0007 0 []))

/-- Access to the mains (R312 to R321). That acknowledgements do not count towards AIR is the model's reading (log 47). -/
def Obligations.ToneMedium : Prop :=
  (∀ (s : State), s.running .cm = true → s.flag F.MTL_CFG_EN = true → exec .mediumBusy s = .next ((s.set
    F.MTL_STATUS_BUSY 1).modTone (fun m => { m with counting := false }))) ∧
  (∀ (s : State), s.flag F.MTL_CFG_EN = false → exec .mediumBusy s = .next (s)) ∧
  (∀ (s : State) (draw : Nat) (x : MtlTx), s.running .cm = true → s.flag F.MTL_CFG_EN = true → s.toneIdle = true →
    s.nextTone = some x → s.mtl.slots = none → draw % x.window ≠ 0 → exec (.mediumIdle draw) s = .next ((s.set
    F.MTL_STATUS_BUSY 0).modTone (fun m => { m with slots := some (draw % x.window), counting := true }))) ∧
  (∀ (s : State) (draw : Nat), s.running .cm = true → s.flag F.MTL_CFG_EN = true → s.nextTone = none → exec
    (.mediumIdle draw) s = .next (s.set F.MTL_STATUS_BUSY 0)) ∧
  (∀ (s : State) (r : Nat), s.running .cm = true → s.flag F.MTL_CFG_EN = true → s.mtl.counting = true → s.mtl.slots =
    some r → 2 ≤ r → exec .mtlBackoffSlot s = .next (s.modTone (fun m => { m with slots := some (r - 1) }))) ∧
  (∀ (s : State) (x : MtlTx), s.running .cm = true → s.flag F.MTL_CFG_EN = true → s.mtl.counting = true → s.mtl.slots
    = some 1 → s.toneIdle = true → s.nextTone = some x → s.airUsed + toneTime (toneWords x.body) ≤ s.get
    F.MTL_TX_AIR_MAX * 600000 → ∃ t, exec .mtlBackoffSlot s = .next t ∧ t.mtl.sending = some x ∧ t.mtl.queue =
    s.mtl.queue.erase x ∧ t.get F.MTL_STATUS_TX = 1 ∧ t.get F.MTL_CNT_TX_FRAMES = sat 16 (s.get F.MTL_CNT_TX_FRAMES +
    1)) ∧
  (∀ (s : State), s.mtl.counting = false → exec .mtlBackoffSlot s = .next (s)) ∧
  (∀ (s : State), s.running .cm = true → s.flag F.MTL_CFG_EN = true → s.airUsed < s.get F.MTL_TX_AIR_MAX * 600000 →
    exec .airtimeLimitEnd s = .next ((s.set F.MTL_STATUS_AIR_LIMIT 0).showAir)) ∧
  (∀ (s : State) (dest : Half) (number result : Byte) (snr : Int) (erased : Nat), s.running .cm = true → s.flag
    F.MTL_CFG_EN = true → s.mtl.ack = some (dest, number, result, snr, erased) → s.driverOn = true → s.mtl.sending =
    none → ∃ t, exec .mtlAckSend s = .next t ∧ t.mtl.ack = none ∧ (∃ b, t.mtl.sending = some ⟨2, 1, dest, s.mtl.number
    + 1, b, 0, []⟩ ∧ b.take 6 = natLE 2 dest.toNat ++ [number, result] ++ natLE 2 (ofSigned 16 snr)) ∧ t.mtl.air =
    s.mtl.air) ∧
  (∀ (s : State), s.mtl.ack = none → exec .mtlAckSend s = .next (s)) ∧
  (∀ (s : State) (x : MtlTx), s.running .cm = true → s.flag F.MTL_CFG_EN = true → s.mtl.sending = some x → x.kind = 1
    → exec .mtlTransmissionEnd s = .next ((s.set F.MTL_STATUS_TX 0).modTone (fun m =>
    { m with sending := none, awaiting := some x }))) ∧
  (∀ (s : State), s.mtl.sending = none → exec .mtlTransmissionEnd s = .next (s)) ∧
  (∀ (s : State) (x : MtlTx), s.running .cm = true → s.flag F.MTL_CFG_EN = true → s.mtl.sending = some x → x.kind ≠ 1
    → exec .mtlTransmissionCutoff s = .next (((s.set F.MTL_STATUS_TX 0).modTone (fun m =>
    { m with sending := none })).toneSettle)) ∧
  (∀ (s : State), s.mtl.sending = none → exec .mtlTransmissionCutoff s = .next (s)) ∧
  (∀ (s : State) (x : MtlTx), s.running .cm = true → s.flag F.MTL_CFG_EN = true → s.mtl.awaiting = some x → x.tries +
    1 < s.get F.MTL_CFG_MAX_TRY → s.mtl.plan = s.get F.MTL_CFG_PLAN → ∃ t, exec .mtlAckTimeout s = .next t ∧
    t.mtl.awaiting = none ∧ (∃ l, t.mtl.queue = l ++ [{ x with tries := x.tries + 1 }])) ∧
  (∀ (s : State) (x : MtlTx), s.running .cm = true → s.flag F.MTL_CFG_EN = true → s.mtl.awaiting = some x → s.get
    F.MTL_CFG_MAX_TRY ≤ x.tries + 1 → ∃ t, exec .mtlAckTimeout s = .next t ∧ t.mtl.awaiting = none ∧ t.get
    F.MTL_CNT_ARQ_EXHAUSTED = sat 16 (s.get F.MTL_CNT_ARQ_EXHAUSTED + 1)) ∧
  (∀ (s : State), s.running .cm = true → s.flag F.MTL_CFG_EN = true → s.mtl.sending = none → exec .lineDriverFault s =
    .next (((s.set F.MTL_STATUS_DRV_FAULT 1).modTone (fun m =>
    { m with driverOffAt := some s.time.now, slots := none, counting := false })).raise { src := 115 })) ∧
  (∀ (s : State), s.running .cm = true → exec .lineDriverResume s = .next ((s.set F.MTL_STATUS_DRV_FAULT 0).modTone
    (fun m => { m with driverOffAt := none })))

/-- Frames of the mains tone link (R319 to R329). -/
def Obligations.ToneFrames : Prop :=
  (∀ (s : State) (rx : MtlRx), s.running .cm = true → s.flag F.MTL_CFG_EN = true → rx.decodes = false → exec
    (.mtlDataFrame rx) s = .next (s.count F.MTL_CNT_RX_FAILED 1)) ∧
  (∀ (s : State) (rx : MtlRx) (j : Fin 32), s.running .cm = true → s.flag F.MTL_CFG_EN = true → rx.decodes = true →
    rx.sender ≠ 0 → rx.sender ≠ 0xFFFF → s.toneEntry rx.sender = some j → rx.kind = 1 → fld rx.body 0 2 = s.ownAddr →
    s.usable (.tl j) = true → s.mtl.nbs[j].frames.contains (BitVec.ofNat 8 (fld rx.header 3 1)) = false → ∃ t, exec
    (.mtlDataFrame rx) s = .next t ∧ t.mtl.ack = some (BitVec.ofNat 16 rx.sender, BitVec.ofNat 8 (fld rx.header 3 1),
    0, rx.snr, rx.erased) ∧ t.mtl.nbs[j].frames = (BitVec.ofNat 8 (fld rx.header 3 1) :: s.mtl.nbs[j].frames).take 8 ∧
    t.mtl.nbs[j].lastAt = s.time.now) ∧
  (∀ (s : State) (rx : MtlRx) (j : Fin 32), s.running .cm = true → s.flag F.MTL_CFG_EN = true → rx.decodes = true →
    rx.sender ≠ 0 → rx.sender ≠ 0xFFFF → s.toneEntry rx.sender = some j → rx.kind = 1 → fld rx.body 0 2 = s.ownAddr →
    s.usable (.tl j) = true → s.mtl.nbs[j].frames.contains (BitVec.ofNat 8 (fld rx.header 3 1)) = true → ∃ t, exec
    (.mtlDataFrame rx) s = .next t ∧ t.mtl.ack = some (BitVec.ofNat 16 rx.sender, BitVec.ofNat 8 (fld rx.header 3 1),
    1, rx.snr, rx.erased) ∧ t.mtl.nbs[j].frames = s.mtl.nbs[j].frames ∧ t.get F.MTL_CNT_ARQ_DUPLICATES = sat 16 (s.get
    F.MTL_CNT_ARQ_DUPLICATES + 1)) ∧
  (∀ (s : State) (rx : MtlRx), s.running .cm = true → s.flag F.MTL_CFG_EN = true → rx.decodes = false → exec
    (.mtlAcknowledgement rx) s = .next (s.count F.MTL_CNT_RX_FAILED 1)) ∧
  (∀ (s : State) (rx : MtlRx) (j : Fin 32) (x : MtlTx), s.running .cm = true → s.flag F.MTL_CFG_EN = true → rx.decodes
    = true → rx.sender ≠ 0 → rx.sender ≠ 0xFFFF → s.toneEntry rx.sender = some j → rx.kind = 2 → fld rx.body 0 2 =
    s.ownAddr → s.mtl.awaiting = some x → x.dest.toNat = rx.sender → x.number.toNat = fld rx.body 2 1 → ∃ t, exec
    (.mtlAcknowledgement rx) s = .next t ∧ t.mtl.awaiting = none ∧ t.mtl.nbs[j].snrRep = some ((sfld rx.body 4 2 :
    Int) : Rat)) ∧
  (∀ (s : State) (rx : MtlRx), s.running .cm = true → s.flag F.MTL_CFG_EN = true → rx.decodes = false → exec
    (.mtlBeacon rx) s = .next (s.count F.MTL_CNT_RX_FAILED 1)) ∧
  (∀ (s : State) (rx : MtlRx) (j : Fin 32) (len : Nat), s.running .cm = true → s.flag F.MTL_CFG_EN = true → rx.decodes
    = true → rx.sender ≠ 0 → rx.sender ≠ 0xFFFF → s.toneEntry rx.sender = some j → rx.kind = 3 → len = 15 + 3 * fld
    rx.body 13 1 + 2 * fld rx.body (14 + 3 * fld rx.body 13 1) 1 → len + 20 ≤ rx.body.length → s.toneTagOk rx len =
    some true → s.mtl.nbs[j].counter = none → ∃ t, exec (.mtlBeacon rx) s = .next t ∧ t.mtl.nbs[j].counter = some
    (BitVec.ofNat 32 (fld rx.body 8 4)) ∧ t.mtl.nbs[j].nb.ident = BitVec.ofNat 48 (beNat (slice rx.body 2 6)) ∧
    t.mtl.nbs[j].lastAt = s.time.now) ∧
  (∀ (s : State) (rx : MtlRx), s.running .cm = true → s.flag F.MTL_CFG_EN = true → rx.decodes = false → exec
    (.mtlRefreshList rx) s = .next (s.count F.MTL_CNT_RX_FAILED 1)) ∧
  (∀ (s : State) (rx : MtlRx) (j : Fin 32), s.running .cm = true → s.flag F.MTL_CFG_EN = true → rx.decodes = true →
    rx.sender ≠ 0 → rx.sender ≠ 0xFFFF → s.toneEntry rx.sender = some j → rx.kind = 4 → 7 + 9 * fld rx.body 6 1 + 20 ≤
    rx.body.length → s.toneTagOk rx (7 + 9 * fld rx.body 6 1) = some true → s.mtl.nbs[j].counter = none → ∃ t, exec
    (.mtlRefreshList rx) s = .next t ∧ t.mtl.nbs[j].counter = some (BitVec.ofNat 32 (fld rx.body 2 4)) ∧
    t.mtl.nbs[j].lastAt = s.time.now) ∧
  (∀ (s : State) (x : List Byte × State), s.running .cm = true → s.flag F.MTL_CFG_EN = true → s.segmentKey (s.get
    F.FAB_KEY_EPOCH_EPOCH) = some x → s.mtl.lowCnt ≠ 0xFFFF → ∃ t, exec .mtlBeaconSend s = .next t ∧ t.mtl.lowCnt =
    s.mtl.lowCnt + 1 ∧ t.mtl.number = s.mtl.number + 1 ∧ t.mtl.wants = s.mtl.wants.drop 128 ∧ (∃ b, t.mtl.queue =
    s.mtl.queue ++ [⟨3, 3, 0xFFFF, s.mtl.number + 1, b, 0, []⟩])) ∧
  (∀ (s : State), s.running .cm = true → s.flag F.MTL_CFG_EN = true → ∃ t, exec .mtlRefreshSend s = .next t ∧
    t.mtl.refresh = [] ∧ t.mtl.whole = []) ∧
  (∀ (s : State) (orig : Half), s.running .cm = true → s.flag F.MTL_CFG_EN = true → ∃ t, exec (.mtlWantedAdvertSend
    orig) s = .next t ∧ (t.mtl.asked = s.mtl.asked.filter (fun x => x.1 != orig)))

/-- The neighbour table of the mains tone link (R287, R323, R324, R331). -/
def Obligations.ToneTable : Prop :=
  (∀ (s : State) (j : Fin 32), s.running .cm = true → s.get (F.MTL_NB_ID_UP j.val) = 1 → ∃ t, exec (.mtlLinkTimeout j)
    s = .next t ∧ t.get (F.MTL_NB_ID_UP j.val) = 0 ∧ t.get (F.MTL_NB_CNT_DOWNS j.val) = sat 16 (s.get
    (F.MTL_NB_CNT_DOWNS j.val) + 1) ∧ t.mtl.nbs[j].segs = none) ∧
  (∀ (s : State) (j : Fin 32), s.get (F.MTL_NB_ID_UP j.val) = 0 → exec (.mtlLinkTimeout j) s = .next (s)) ∧
  (∀ (s : State) (j : Fin 32), s.running .cm = true → s.flag (F.MTL_NB_ID_VALID j.val) = true → s.flag (F.MTL_NB_ID_UP
    j.val) = false → ∃ t, exec (.mtlNeighbourFree j) s = .next t ∧ t.reg (R.MTL_NB_ID j.val) = 0 ∧ t.reg
    (R.MTL_NB_LINK j.val) = 0 ∧ t.reg (R.MTL_NB_CNT j.val) = 0 ∧ t.mtl.nbs = s.mtl.nbs.set j MtlNb.reset) ∧
  (∀ (s : State) (j : Fin 32), s.flag (F.MTL_NB_ID_UP j.val) = true → exec (.mtlNeighbourFree j) s = .next (s)) ∧
  (∀ (s : State) (j : Fin 32), s.running .cm = true → exec (.mtlSegmentSetTimeout j) s = .next (s.modEntry j (fun n =>
    { n with segs := none }))) ∧
  (∀ (s : State) (d : Desc) (noise : List Byte), s.admits d { opcode := 0x0A01, priv := some 1, isl := .cm } →
    noise.length = 4 → exec (.lineNoiseMeasurement d noise) s = .next (s.ok d noise)) ∧
  (∀ (s : State) (d : Desc) (j : Fin 32), s.admits d
    { opcode := 0x0A02, priv := some 1, isl := .cm, params := [(24, 2)] } → s.toneEntry (d.n 24 2) = some j → exec
    (.clearToneQuarantine d) s = .next ((s.endQuarantine (.tl j)).ok d [])) ∧
  (∀ (s : State) (d : Desc), s.admits d { opcode := 0x0A02, priv := some 1, isl := .cm, params := [(24, 2)] } →
    s.toneEntry (d.n 24 2) = none → exec (.clearToneQuarantine d) s = .next (s.ok d []))

/-- Key slots (R335 to R346). -/
def Obligations.KeySlots : Prop :=
  (∀ (s : State) (d : Desc), s.admits d
    { opcode := 0x0701, priv := some 3, isl := .ks, params := [(24, 2), (26, 1), (27, 1), (28, 4), (32, 4), (36, 1)], staged := .len (materialLen (d.n 26 1)) (materialLen (d.n 26 1)) false }
    (attrRanges d) → s.fillable (d.n 24 2) = true → d.n 26 1 < 3 → s.zeroising = false → exec (.writeKey d) s = .next
    (((s.setSlots (putSlot s.key.slots (newSlot d ((d.n 36 1).testBit 0) 0x1FF 1 (s.staged d)))).store (d.n 8 8)
    (zeros (materialLen (d.n 26 1)))).ok d [])) ∧
  (∀ (s : State) (d : Desc), s.admits d
    { opcode := 0x0701, priv := some 3, isl := .ks, params := [(24, 2), (26, 1), (27, 1), (28, 4), (32, 4), (36, 1)], staged := .len (materialLen (d.n 26 1)) (materialLen (d.n 26 1)) false }
    (attrRanges d) → s.fillable (d.n 24 2) = true → d.n 26 1 < 3 → s.zeroising = true → exec (.writeKey d) s = .next
    (s.complete d 0x000E 0 [])) ∧
  (∀ (s : State) (d : Desc), s.admits d
    { opcode := 0x0701, priv := some 3, isl := .ks, params := [(24, 2), (26, 1), (27, 1), (28, 4), (32, 4), (36, 1)], staged := .len (materialLen (d.n 26 1)) (materialLen (d.n 26 1)) false }
    (attrRanges d) → s.fillable (d.n 24 2) = true → 3 ≤ d.n 26 1 → beNat (s.staged d) = 0 → exec (.writeKey d) s =
    .next (s.complete d 0x0008 1 [])) ∧
  (∀ (s : State) (d : Desc) (p : KeySlot), s.admits d
    { opcode := 0x0702, priv := some 3, isl := .ks, params := [(24, 2), (26, 1), (27, 1), (28, 4), (32, 4), (36, 1), (38, 2), (40, 1), (41, 1)], staged := .len (d.n 40 1 + d.n 41 1) (d.n 40 1 + d.n 41 1) false }
    (attrRanges d ++ [(38, decide (510 < d.n 38 2)), (40, d.n 40 1 == 0 || decide (64 < d.n 40 1)), (41, decide (64 <
    d.n 41 1))]) → s.fillable (d.n 24 2) = true → s.keySlot (d.n 38 2) = some p → p.valid = true → p.type_ = 1 →
    p.use.toNat.testBit 0 = true → p.depth < 8 → p.no ≠ d.n 24 2 → ((s.staged d).take (d.n 40 1)).take 4 ≠ ascii
    "MMD-" → s.zeroising = false → exec (.deriveKey d) s = .next (((s.setSlots (putSlot s.key.slots (newSlot d ((d.n
    36 1).testBit 0 || p.expiry) p.no (p.depth + 1) (derived p.material ((s.staged d).take (d.n 40 1)) ((s.staged
    d).drop (d.n 40 1)) (d.n 26 1))))).countUse p.no).ok d (natLE 1 (p.depth + 1)))) ∧
  (∀ (s : State) (d : Desc) (k : KeySlot), s.admits d
    { opcode := 0x0703, priv := some 3, isl := .ks, params := [(24, 2)] } [(24, decide (d.n 24 2 < 5) || decide (510 <
    d.n 24 2))] → s.keySlot (d.n 24 2) = some k → k.valid = true → (s.get F.KEY_LIFE_DESTROY_PARENT = 1 ∨ descendants
    s.key.slots (d.n 24 2) = []) → exec (.destroyKey d) s = .next (((s.destroySlot (d.n 24 2)).1).ok d (natLE 2
    (s.destroySlot (d.n 24 2)).2))) ∧
  (∀ (s : State) (r : Fin 21) (slot : BitVec 9) (use : Fin 7) (rebuildOk : Bool) (k : KeySlot), s.mayUse r.val
    slot.toNat use.val = some k → exec (.keyUseRequest r slot use true rebuildOk) s = .next (s.countUse k.no)) ∧
  (∀ (s : State) (r : Fin 21) (slot : BitVec 9) (use : Fin 7) (rebuildOk : Bool) (k : KeySlot), s.mayUse r.val
    slot.toNat use.val = some k → 5 ≤ k.no → exec (.keyUseRequest r slot use false rebuildOk) s = .next (((s.setSlots
    (putSlot s.key.slots { k with state := .fault, material := [], tags := [] })).raise
    { src := 119, unit_ := k.no % 256 }).fault 7 .ks))

/-- Evidence of KS, tamper inputs, seal and debug port (R347 to R362). -/
def Obligations.KeyEvidence : Prop :=
  (∀ (s : State) (d : Desc) (k : KeySlot) (body : List Byte), s.admits d
    { opcode := 0x0704, priv := some 0, isl := .ks, params := [(24, 2)], staged := .len 236 0x80000 false } [(24,
    decide (510 < d.n 24 2))] → s.keySlot (d.n 24 2) = some k → k.valid = true → 3 ≤ k.type_ → body = natLE 4
    0x54534B4D ++ natLE 2 1 ++ natLE 2 k.no ++ natLE 6 s.identity ++ natLE 1 k.type_ ++ [k.use] ++ natLE 4
    k.dest.toNat ++ keyId (Config.ecPublic k.type_ k.material) ++ natLE 8 s.devTime ++ natLE 4 (s.reg R.KEY_LIFE) ++
    natLE 4 (s.reg R.KEY_CHG_LEFT) ++ padTo 97 (Config.ecPublic k.type_ k.material) ++ zeros 3 → exec (.keyStatement
    d) s = .next ((((s.signWith k body).2).store (d.n 8 8) (body ++ padTo 96 (s.signWith k body).1)).ok d (natLE 4
    236))) ∧
  (∀ (s : State) (d : Desc) (k : KeySlot) (body : List Byte), s.admits d
    { opcode := 0x0705, priv := some 0, isl := .ks, params := [(24, 2), (26, 1)], staged := .len 96 0x80000 false }
    [(24, decide (510 < d.n 24 2)), (26, decide (d.n 26 1 < 16) || decide (64 < d.n 26 1) || d.n 26 1 % 4 != 0)] →
    s.mayUse 20 (d.n 24 2) 6 = some k → k.type_ = 1 → body = natLE 4 0x54414B4D ++ natLE 2 1 ++ natLE 2 k.no ++ natLE
    6 s.identity ++ natLE 1 s.sealOpen.toNat ++ natLE 1 (d.n 26 1) ++ natLE 4 (s.reg R.KEY_LIFE) ++ natLE 4 (s.reg
    R.KEY_CHG_LEFT) ++ s.readingKid ++ natLE 2 (s.get F.MET_CAL_ID_SET_NO) ++ natLE 2 (s.get F.BIL_TAR_ID_STRUCT_NO)
    ++ natLE 8 s.resolved ++ natLE 8 s.devTime ++ zeros 16 → exec (.attest d) s = .next (((s.store (d.n 8 8) (body ++
    hmac256 k.material ((s.staged d).take (d.n 26 1) ++ body))).countUse k.no).ok d (natLE 4 96))) ∧
  (∀ (s : State) (n : Fin 4), s.running .ks = true → s.bit F.KEY_TMP_CFG_EN n.val = true → s.key.spent.toNat.testBit
    n.val = false → exec (.tamperInput n) s = .next ((s.setBit F.KEY_TMP_STAT_LEVEL n.val true).tamper n)) ∧
  (∀ (s : State) (n : Fin 4), s.bit F.KEY_TMP_CFG_EN n.val = false → exec (.tamperInput n) s = .next (s.setBit
    F.KEY_TMP_STAT_LEVEL n.val true)) ∧
  (∀ (s : State) (n : Fin 4), exec (.tamperInputReturn n) s = .next
    ({ s.setBit F.KEY_TMP_STAT_LEVEL n.val false with key := { s.key with spent := BitVec.ofNat 4 (putBit s.key.spent.toNat n.val false) } })) ∧
  (∀ (s : State), s.sealOpen = false → exec (.sealChange true) s = .next (((s.set F.KEY_STATUS_SEAL_OPEN 1).log
    { type_ := 0x0033, sub := 1 }).raise { src := 120 })) ∧
  (∀ (s : State), s.sealOpen = true → exec (.sealChange false) s = .next ((((s.set F.KEY_STATUS_SEAL_OPEN 0).log
    { type_ := 0x0033, sub := 0 }).raise { src := 120 }).setDebug false)) ∧
  (∀ (s : State) (d : Desc), s.admits d { opcode := 0x0709, priv := some 3, isl := .ks, params := [(24, 1)] } [(24,
    decide (1 < d.n 24 1))] → s.get F.KEY_LIFE_DEBUG_KILL = 0 → (s.sealOpen = true ∨ d.n 24 1 = 0) → exec (.debugPort
    d) s = .next ((s.setDebug (d.n 24 1 == 1)).ok d [])) ∧
  (∀ (s : State) (d : Desc), s.admits d { opcode := 0x0709, priv := some 3, isl := .ks, params := [(24, 1)] } [(24,
    decide (1 < d.n 24 1))] → s.get F.KEY_LIFE_DEBUG_KILL = 0 → s.sealOpen = false → d.n 24 1 = 1 → exec (.debugPort
    d) s = .next (s.complete d 0x0004 0 []))

/-- Limited changes 0x0706 to 0x070A (R345, R358 to R362). `badFuses` counts the fuses that do not verify; a sound chip has none. -/
def Obligations.LimitedChanges : Prop :=
  (∀ (s : State) (d : Desc), s.admits d { opcode := 0x0706, priv := some 3, isl := .ks, params := [(24, 6)] } [(24,
    d.n 24 6 == 0 || d.n 24 6 == 2 ^ 48 - 1 || d.n 24 6 == s.identity)] → s.sealOpen = true → s.logRefusing = false →
    s.isl.supply = .normal → s.key.badFuses = 0 → 0 < s.get F.KEY_CHG_LEFT_IDENT → s.noTransfer = true → exec
    (.setMeterIdentity d) s = .next (((((((s.set F.KEY_CHG_LEFT_IDENT (s.get F.KEY_CHG_LEFT_IDENT - 1)).set64
    R.KEY_IDENT_LO (d.n 24 6)).keyShow).log
    { type_ := 0x0032, src := d.logSrc, sub := 2, payload := natLE 8 s.identity ++ natLE 8 (d.n 24 6) ++ natLE 1 (s.get F.KEY_CHG_LEFT_IDENT - 1) }).raise
    { src := 123 }).ok d (natLE 1 (s.get F.KEY_CHG_LEFT_IDENT - 1))))) ∧
  (∀ (s : State) (d : Desc), s.admits d { opcode := 0x0706, priv := some 3, isl := .ks, params := [(24, 6)] } [(24,
    d.n 24 6 == 0 || d.n 24 6 == 2 ^ 48 - 1 || d.n 24 6 == s.identity)] → s.sealOpen = false → exec (.setMeterIdentity
    d) s = .next (s.complete d 0x0004 0 [])) ∧
  (∀ (s : State) (d : Desc), s.admits d { opcode := 0x0707, priv := some 3, isl := .mg, staged := .len 97 97 false } →
    s.sealOpen = true → s.logRefusing = false → s.isl.supply = .normal → s.key.badFuses = 0 → 0 < s.get
    F.KEY_CHG_LEFT_INTEG → ∃ t, exec (.enrolIntegratorKey d) s = .next t ∧ t.key.hashes = padTo 48 (Config.sha384
    (s.staged d)) :: s.key.hashes ∧ t.get F.KEY_CHG_LEFT_INTEG = s.get F.KEY_CHG_LEFT_INTEG - 1 ∧ t.get
    F.KEY_INTEG_INDEX = 4 - (s.get F.KEY_CHG_LEFT_INTEG - 1) ∧ t.host.results = s.host.results ++ [⟨d, 0, 0, natLE 1
    (4 - (s.get F.KEY_CHG_LEFT_INTEG - 1)) ++ natLE 1 (s.get F.KEY_CHG_LEFT_INTEG - 1)⟩]) ∧
  (∀ (s : State) (d : Desc), s.admits d { opcode := 0x070A, priv := some 3, isl := .ks, params := [(24, 1)] } [(24,
    d.n 24 1 != 0x5A)] → s.sealOpen = true → s.logRefusing = false → s.isl.supply = .normal → s.key.badFuses = 0 → 0 <
    s.get F.KEY_CHG_LEFT_DBG → exec (.debugKill d) s = .next ((((((s.set F.KEY_CHG_LEFT_DBG (s.get F.KEY_CHG_LEFT_DBG
    - 1)).set F.KEY_LIFE_DEBUG_KILL 1).setDebug false).log
    { type_ := 0x0032, src := d.logSrc, sub := 6, payload := zeros 17 }).raise { src := 123 }).ok d [])) ∧
  (∀ (s : State) (d : Desc), s.admits d { opcode := 0x070A, priv := some 3, isl := .ks, params := [(24, 1)] } [(24,
    d.n 24 1 != 0x5A)] → s.sealOpen = true → s.get F.KEY_CHG_LEFT_DBG = 0 → exec (.debugKill d) s = .next (s.complete
    d 0x0005 0 [])) ∧
  (∀ (s : State) (d : Desc), s.admits d { opcode := 0x0708, priv := some 3, isl := .ks, params := [(24, 1)] } [(24,
    decide (3 < d.n 24 1))] → s.get F.KEY_LIFE_DESTROY_PARENT = 0 → s.get F.KEY_LIFE_DESTROY_TAMPER = 0 → d.n 24 1 ≠ 0
    → s.sealOpen = true → s.logRefusing = false → s.isl.supply = .normal → exec (.selectDestructionModes d) s = .next
    (((((s.set F.KEY_LIFE_DESTROY_PARENT (d.n 24 1 % 2)).set F.KEY_LIFE_DESTROY_TAMPER (d.n 24 1 / 2)).log
    { type_ := 0x0032, src := d.logSrc, sub := 7, payload := natLE 1 0 ++ natLE 1 (d.n 24 1) }).raise
    { src := 123 }).ok d (natLE 1 (d.n 24 1)))) ∧
  (∀ (s : State) (d : Desc), s.admits d { opcode := 0x0708, priv := some 3, isl := .ks, params := [(24, 1)] } [(24,
    decide (3 < d.n 24 1))] → s.get F.KEY_LIFE_DESTROY_PARENT = 1 → (d.n 24 1).testBit 0 = false → exec
    (.selectDestructionModes d) s = .next (s.complete d 0x0002 24 []))

/-- Display power, its faults and its timers (R367 to R375). -/
def Obligations.DisplayPower : Prop :=
  (∀ (s : State) (v : Word), s.running .hi = true → s.running .vl = true → 4 ≤ bitsOf v.toNat 30 24 → bitsOf v.toNat
    30 24 ≤ 99 → 1 ≤ bitsOf v.toNat 14 8 → bitsOf v.toNat 14 8 ≤ 100 → 2 ≤ bitsOf v.toNat 7 4 → bitsOf v.toNat 7 4 ≤
    10 → s.ldp.seq = none → s.ldp.discharging = false → s.flag F.LSW_STATUS_UV_OFF = false → exec (.displayPowerOn v)
    s = .next ((((((s.set F.LDP_CTRL_EN 1).set F.LDP_CTRL_DIV (bitsOf v.toNat 30 24)).set F.LDP_CTRL_COM_PER (bitsOf
    v.toNat 14 8)).set F.LDP_CTRL_LEG_DWELL (bitsOf v.toNat 7 4)).set F.LDP_STATUS_DISCH 0).railsOn)) ∧
  (∀ (s : State) (v : Word), s.running .hi = true → s.running .vl = true → 4 ≤ bitsOf v.toNat 30 24 → bitsOf v.toNat
    30 24 ≤ 99 → 1 ≤ bitsOf v.toNat 14 8 → bitsOf v.toNat 14 8 ≤ 100 → 2 ≤ bitsOf v.toNat 7 4 → bitsOf v.toNat 7 4 ≤
    10 → s.flag F.LSW_STATUS_UV_OFF = true → exec (.displayPowerOn v) s = .next ((((((s.set F.LDP_CTRL_EN 1).set
    F.LDP_CTRL_DIV (bitsOf v.toNat 30 24)).set F.LDP_CTRL_COM_PER (bitsOf v.toNat 14 8)).set F.LDP_CTRL_LEG_DWELL
    (bitsOf v.toNat 7 4)).set F.LDP_STATUS_DISCH 0).modLdp (fun x => { x with enNext := some true }))) ∧
  (∀ (s : State) (v : Word), s.running .hi = true → s.running .vl = true → 4 ≤ bitsOf v.toNat 30 24 → bitsOf v.toNat
    30 24 ≤ 99 → 1 ≤ bitsOf v.toNat 14 8 → bitsOf v.toNat 14 8 ≤ 100 → 2 ≤ bitsOf v.toNat 7 4 → bitsOf v.toNat 7 4 ≤
    10 → s.ldp.seq = none → s.ldp.discharging = false → exec (.displayPowerOff v) s = .next (((((((s.set F.LDP_CTRL_EN
    0).set F.LDP_CTRL_DIV (bitsOf v.toNat 30 24)).set F.LDP_CTRL_COM_PER (bitsOf v.toNat 14 8)).set
    F.LDP_CTRL_LEG_DWELL (bitsOf v.toNat 7 4)).set F.LDP_STATUS_DISCH 0).modLdp (fun x =>
    { x with enNext := none })).railsOff)) ∧
  (∀ (s : State) (v : Word), s.running .hi = true → s.running .vl = true → (bitsOf v.toNat 30 24 < 4 ∨ 99 < bitsOf
    v.toNat 30 24) → exec (.displayPowerOn v) s = .next (s.raise { src := 0 })) ∧
  (∀ (s : State) (n : Nat), s.running .vl = true → s.ldp.seq = some (true, n) → exec .displaySequenceStep s = .next
    (s.onStep n)) ∧
  (∀ (s : State) (n : Nat), s.running .vl = true → s.ldp.seq = some (false, n) → exec .displaySequenceStep s = .next
    (s.offStep n)) ∧
  (∀ (s : State), s.running .vl = true → s.rail ≠ 0 → exec .panelFault s = .next (((s.set F.LDP_STATUS_PANEL_FAULT
    1).raise { src := 127 }).faultOff)) ∧
  (∀ (s : State), s.running .vl = true → s.rail ≠ 0 → exec .railFault s = .next (((s.set F.LDP_STATUS_RAIL_FAULT
    1).raise { src := 125 }).faultOff)) ∧
  (∀ (s : State), s.running .vl = true → exec .fastDischargeComplete s = .next ((((((s.dropPass.panelWhite.set
    F.LDP_STATUS_RAIL 0).set F.LDP_STATUS_DISCH 1).raise { src := 126 }).modLdp (fun x =>
    { x with discharging := false })).seqDone))) ∧
  (∀ (s : State), s.running .vl = true → s.rail = 2 → exec .stressCount s = .next (((List.finRange 15).filter (fun b
    => decide (b.val < s.bands) && s.bandDark b.val)).foldl (fun (s : State) b => s.count (F.LDP_STRESS_SECONDS b.val)
    1) s)) ∧
  (∀ (s : State), s.running .vl = true → s.rail = 2 → toSigned 16 (s.get F.LDP_VCOM_NOW_TRIM) < s.targetTrim → exec
    .vcomTrimUpdate s = .next (((s.set F.LDP_VCOM_NOW_TRIM (ofSigned 16 (toSigned 16 (s.get F.LDP_VCOM_NOW_TRIM) +
    1))).raise { src := 128 }).storeStress)) ∧
  (∀ (s : State), s.running .vl = true → s.rail = 2 → s.targetTrim < toSigned 16 (s.get F.LDP_VCOM_NOW_TRIM) → exec
    .vcomTrimUpdate s = .next (((s.set F.LDP_VCOM_NOW_TRIM (ofSigned 16 (toSigned 16 (s.get F.LDP_VCOM_NOW_TRIM) -
    1))).raise { src := 128 }).storeStress)) ∧
  (∀ (s : State), s.running .vl = true → exec .legalPageAdvance s = .next (s.set F.LDP_STATUS_PAGE (s.nextPage (s.get
    F.LDP_STATUS_PAGE))))

/-- Display passes and the commands 0x0B01 to 0x0B03 (R366 to R378). -/
def Obligations.DisplayPasses : Prop :=
  (∀ (s : State), s.panelReady = true → s.ldp.pass_ = none → s.dirtyLines ≠ [] → exec .displayPassStart s = .next
    ((((((s.dirtyLines.foldl (fun (s : State) x => s.setDirty x false) s).set F.LDP_STATUS_PASS 1).count
    F.LDP_CNT_PASSES 1)).modLdp (fun x =>
    { x with pass_ := some ⟨s.dirtyLines.filter s.legalLine, s.dirtyLines.filter (fun l => !(s.legalLine l)), 4, []⟩ })).panelNext)) ∧
  (∀ (s : State) (p : Pass), s.panelReady = true → s.ldp.pass_ = some p → p.at_ ≠ 4 → p.at_ ≠ 2 → exec
    .lineTransferComplete s = .next ((s.modLdp (fun x => { x with pass_ := some { p with at_ := 4 } })).panelNext)) ∧
  (∀ (s : State) (p : Pass), s.ldp.pass_ = some p → p.at_ = 4 → p.legal = [] → p.open_ = [] → s.get F.LDP_STATUS_GROUP
    = 0 → exec .displayPassEnd s = .next (((s.set F.LDP_STATUS_PASS 0).modLdp (fun x =>
    { x with pass_ := none })).startPass)) ∧
  (∀ (s : State), exec .lbusyRelease s = .next ((s.modLdp (fun x => { x with lbusy := false })).panelNext)) ∧
  (∀ (s : State), s.running .vl = true → s.rail = 2 → s.ldp.discharging = false → exec .commonToggle s = .next
    ((s.modLdp (fun x => { x with toggleDue := true })).panelNext)) ∧
  (∀ (s : State) (d : Desc), (s.admits d
    { opcode := 0x0B01, priv := some 0, isl := .vl, params := [(24, 2), (26, 2)], staged := .len (d.n 26 2 * s.lineBytes) (d.n 26 2 * s.lineBytes) false, load := true }
    [(24, decide (s.get F.LDP_GEOM_HEIGHT < d.n 24 2 + d.n 26 2) || (List.range (min (d.n 26 2) 256)).any (fun i =>
    s.legalLine (d.n 24 2 + i)))]) → exec (.writeOpenLines d) s = .next ((s.putOpen (cutLines s.lineBytes (d.n 24 2)
    (s.staged d) (d.n 26 2))).ok d [])) ∧
  (∀ (s : State) (d : Desc), s.admits d
    { opcode := 0x0B02, priv := some 0, isl := .vl, params := [(24, 2)], staged := .len (s.get F.LDP_GEOM_HEIGHT * s.lineBytes) (s.get F.LDP_GEOM_HEIGHT * s.lineBytes) false, load := true }
    [(24, decide (511 < d.n 24 2))] → exec (.storeFrame d) s = .next ((s.store (frameSlot (d.n 24 2)) (s.staged d)).ok
    d [])) ∧
  (∀ (s : State) (d : Desc), s.admits d { opcode := 0x0B03, priv := some 0, isl := .vl, params := [(24, 2)] } [(24,
    decide (511 < d.n 24 2))] → exec (.showStoredFrame d) s = .next ((s.putOpen ((cutLines s.lineBytes 0 (memRead
    s.mem (frameSlot (d.n 24 2)) (s.lineBytes * s.get F.LDP_GEOM_HEIGHT)) (s.get F.LDP_GEOM_HEIGHT)).filter (fun x =>
    !(s.legalLine x.1)))).ok d []))

/-- Commands 0x0801 to 0x0805 (R393 to R399). -/
def Obligations.UpdateCommands : Prop :=
  (∀ (s : State) (d : Desc), s.admits d
    { opcode := 0x0801, priv := some 4, isl := .mg, params := [(24, 4), (28, 4)], staged := .len 4 524288 false, load := true }
    [(28, decide (0x800000 < d.n 28 4))] → d.n 24 4 = 0 → d.n 16 4 ≤ d.n 28 4 → exec (.receiveContainerPart d) s =
    .next (((({ s with upd := { s.upd with total := d.n 28 4 } } : State).store incomingBase (s.staged d)).setReg
    R.UPD_INCOMING (d.n 16 4)).ok d (natLE 4 (d.n 16 4)))) ∧
  (∀ (s : State) (d : Desc), s.admits d
    { opcode := 0x0801, priv := some 4, isl := .mg, params := [(24, 4), (28, 4)], staged := .len 4 524288 false, load := true }
    [(28, decide (0x800000 < d.n 28 4))] → d.n 24 4 ≠ 0 → d.n 24 4 = s.reg R.UPD_INCOMING → d.n 24 4 + d.n 16 4 ≤
    s.upd.total → exec (.receiveContainerPart d) s = .next (((s.store (incomingBase + d.n 24 4) (s.staged d)).setReg
    R.UPD_INCOMING (d.n 24 4 + d.n 16 4)).ok d (natLE 4 (d.n 24 4 + d.n 16 4)))) ∧
  (∀ (s : State) (d : Desc), s.admits d
    { opcode := 0x0801, priv := some 4, isl := .mg, params := [(24, 4), (28, 4)], staged := .len 4 524288 false, load := true }
    [(28, decide (0x800000 < d.n 28 4))] → d.n 24 4 ≠ 0 → d.n 24 4 ≠ s.reg R.UPD_INCOMING → exec
    (.receiveContainerPart d) s = .next (s.complete d 0x0002 24 [])) ∧
  (∀ (s : State) (d : Desc) (m : List Byte) (gs : List Nat), s.admits d
    { opcode := 0x0802, priv := some 4, isl := .mg, load := true } → m = memRead s.mem (incomingBase + 96) (min
    (manifestLen (memRead s.mem (incomingBase + 96) 24) + 296) 0x800000) → (gs = groupList.filter (fun g =>
    (manifestEntries m).any (fun e => groupOf e.1.val == g))) → s.reg R.UPD_INCOMING ≠ 0 → s.reg R.UPD_INCOMING =
    s.upd.total → containerOk (memRead s.mem incomingBase 96 ++ m) s.upd.total = true → enginesOk m = true →
    s.updating = false → s.groupsServed gs = true → (((s.mayUse 19 (s.get F.UPD_CFG_FLEET_SLOT) 2).filter (fun k =>
    k.type_ == 2)).isSome = true) → ∃ t, exec (.stageContainer d true) s = .next t ∧ (t.host.results = s.host.results
    ++ [⟨d, 0, 0, natLE 1 ((gs.map (fun g => 1 <<< g)).sum)⟩]) ∧ t.get F.UPD_STATUS_STATE = 1) ∧
  (∀ (s : State) (d : Desc), s.admits d { opcode := 0x0803, priv := some 4, isl := .mg, params := [(24, 1)] } [(24,
    d.n 24 1 == 0 || (d.n 24 1).testBit 0)] → s.activateFail (maskGroups (d.n 24 1)) 1 = none → exec (.activate d) s =
    .next (s.beginUpdate d (maskGroups (d.n 24 1)))) ∧
  (∀ (s : State) (d : Desc), s.admits d { opcode := 0x0803, priv := some 4, isl := .mg, params := [(24, 1)] } [(24,
    d.n 24 1 == 0 || (d.n 24 1).testBit 0)] → s.updating = true → exec (.activate d) s = .next (s.complete d 0x0007 0
    [])) ∧
  (∀ (s : State) (d : Desc), s.admits d { opcode := 0x0805, priv := some 4, isl := .mg, params := [(24, 1)] } [(24,
    d.n 24 1 == 0 || (d.n 24 1).testBit 0)] → s.activateFail (maskGroups (d.n 24 1)) 4 = none → (∀ e ∈ s.plan
    (maskGroups (d.n 24 1)), s.get (F.UPD_ENG_STAT_SEC_FLOOR e.1.val) ≤ fld e.2 8 2) → exec (.revert d) s = .next
    (s.beginUpdate d (maskGroups (d.n 24 1)))) ∧
  (∀ (s : State) (d : Desc), s.admits d { opcode := 0x0804, priv := some 4, isl := .mg } → s.get F.UPD_STATUS_STATE =
    3 → exec (.confirmHealth d) s = .next (((s.modUpd (fun u => { u with hostOk := true })).ok d []).tryCommit)) ∧
  (∀ (s : State) (d : Desc), s.admits d { opcode := 0x0804, priv := some 4, isl := .mg } → s.get F.UPD_STATUS_STATE ≠
    3 → exec (.confirmHealth d) s = .next (s.complete d 0x0007 0 []))

/-- The steps of an update while MG serves (R394 to R396). -/
def Obligations.UpdateSteps : Prop :=
  (∀ (s : State) (e : Fin 20), s.mgUp = true → s.get F.UPD_STATUS_STATE = 2 → s.upd.done.length = s.upd.at_ →
    s.upd.steps[s.upd.at_]? = some e → (s.noteReset 0x0C (engineIsl e.val)).prefixOk ((s.noteReset 0x0C (engineIsl
    e.val)).planRows (maskGroups s.upd.groups.toNat)) ((s.plan (maskGroups s.upd.groups.toNat)).take (s.upd.at_ + 1))
    = true → (s.noteReset 0x0C (engineIsl e.val)).loadable e (1 - s.activeSlot (groupOf e.val)) = true → exec
    (.updateStep true) s = .next ((((s.noteReset 0x0C (engineIsl e.val)).loadEngine e (1 - s.activeSlot (groupOf
    e.val)) true 0).set (F.UPD_SLOT_RUN (groupOf e.val)) (1 - s.activeSlot (groupOf e.val))).modUpd (fun u =>
    { u with done := e :: u.done }))) ∧
  (∀ (s : State) (e : Fin 20), s.mgUp = true → s.get F.UPD_STATUS_STATE = 2 → s.upd.done.length = s.upd.at_ →
    s.upd.steps[s.upd.at_]? = some e → (s.noteReset 0x0C (engineIsl e.val)).prefixOk ((s.noteReset 0x0C (engineIsl
    e.val)).planRows (maskGroups s.upd.groups.toNat)) ((s.plan (maskGroups s.upd.groups.toNat)).take (s.upd.at_ + 1))
    = true → exec (.updateStep false) s = .next ((((s.noteReset 0x0C (engineIsl e.val)).raise
    { src := 133, unit_ := e.val }).modUpd (fun u => { u with done := e :: u.done })).fallBack 2)) ∧
  (∀ (s : State) (e : Fin 20), s.mgUp = true → s.get F.UPD_STATUS_STATE = 2 → s.upd.done.head? = some e →
    s.upd.done.length = s.upd.at_ + 1 → s.upd.at_ + 1 < s.upd.steps.length → exec (.engineRunningReport e) s = .next
    ((((s.set (F.UPD_ENG_STAT_BOOT e.val) 1).raise { src := 130, unit_ := e.val }).modUpd (fun u =>
    { u with at_ := s.upd.at_ + 1 })).set F.UPD_STATUS_STEP (s.upd.at_ + 2))) ∧
  (∀ (s : State), s.mgUp = true → s.get F.UPD_STATUS_STATE = 2 → s.upd.done.length = s.upd.at_ + 1 → exec
    .updateStepTimeout s = .next (s.fallBack 6)) ∧
  (∀ (s : State) (e : Fin 20), s.mgUp = true → 8 ≤ e.val → (s.get (F.UPD_ENG_STAT_BOOT e.val) = 1 ∨ s.get
    (F.UPD_ENG_STAT_BOOT e.val) = 3) → exec (.healthReport e) s = .next ((s.set (F.UPD_ENG_STAT_HEALTHY e.val)
    1).tryCommit)) ∧
  (∀ (s : State), s.mgUp = true → s.get F.UPD_STATUS_STATE = 3 → exec .catchWindowEnd s = .next (s.fallBack 3))

end
end

