-- ==== Sys2Proof/Laws/Bits.lean ====
section
/-! SUPPORT. Bit fields and byte strings: a field written reads back, fields apart do not touch each other, and the
lengths of byte strings. -/

namespace Sys2Proof.Machine

theorem bitsOf_lt (x hi lo : Nat) : bitsOf x hi lo < 2 ^ (hi + 1 - lo) := Nat.mod_lt _ (by positivity)

theorem bitsOf_eq_zero_of_lt {x lo : Nat} (hi : Nat) (h : x < 2 ^ lo) : bitsOf x hi lo = 0 := by
  simp [bitsOf, Nat.shiftRight_eq_div_pow, Nat.div_eq_of_lt h]

/-- What a number is above and below a field, with the field between them. -/
theorem split_field (x lo n : Nat) :
    x = (x / 2 ^ lo / 2 ^ n) * 2 ^ (lo + n) + (x / 2 ^ lo % 2 ^ n) * 2 ^ lo + x % 2 ^ lo := by
  have h1 := Nat.div_add_mod x (2 ^ lo)
  have h2 := Nat.div_add_mod (x / 2 ^ lo) (2 ^ n)
  have h3 : x = 2 ^ lo * (2 ^ n * (x / 2 ^ lo / 2 ^ n) + x / 2 ^ lo % 2 ^ n) + x % 2 ^ lo := by rw [h2, h1]
  rw [pow_add]
  linarith [h3, mul_add (2 ^ lo) (2 ^ n * (x / 2 ^ lo / 2 ^ n)) (x / 2 ^ lo % 2 ^ n),
    mul_comm (2 ^ lo) (2 ^ n * (x / 2 ^ lo / 2 ^ n)), mul_comm (2 ^ n) (x / 2 ^ lo / 2 ^ n),
    mul_comm (2 ^ lo) (x / 2 ^ lo % 2 ^ n), mul_assoc (x / 2 ^ lo / 2 ^ n) (2 ^ n) (2 ^ lo),
    mul_comm (2 ^ n) (2 ^ lo)]

/-- A number with a field replaced, written out. -/
theorem putBits_eq (x hi lo v : Nat) :
    putBits x hi lo v = (x / 2 ^ lo / 2 ^ (hi + 1 - lo)) * 2 ^ (lo + (hi + 1 - lo)) +
      (v % 2 ^ (hi + 1 - lo)) * 2 ^ lo + x % 2 ^ lo := by
  have h := split_field x lo (hi + 1 - lo)
  simp only [putBits, bitsOf, Nat.shiftLeft_eq, Nat.shiftRight_eq_div_pow]
  generalize (x / 2 ^ lo / 2 ^ (hi + 1 - lo)) * 2 ^ (lo + (hi + 1 - lo)) = a at *
  generalize (v % 2 ^ (hi + 1 - lo)) * 2 ^ lo = b at *
  generalize (x / 2 ^ lo % 2 ^ (hi + 1 - lo)) * 2 ^ lo = c at *
  omega

/-- A field written reads back. -/
theorem bitsOf_putBits (x hi lo v : Nat) : bitsOf (putBits x hi lo v) hi lo = v % 2 ^ (hi + 1 - lo) := by
  rw [putBits_eq, bitsOf, Nat.shiftRight_eq_div_pow]
  have hlo : 0 < 2 ^ lo := by positivity
  have e : (x / 2 ^ lo / 2 ^ (hi + 1 - lo)) * 2 ^ (lo + (hi + 1 - lo)) + (v % 2 ^ (hi + 1 - lo)) * 2 ^ lo + x % 2 ^ lo =
      2 ^ lo * (2 ^ (hi + 1 - lo) * (x / 2 ^ lo / 2 ^ (hi + 1 - lo)) + v % 2 ^ (hi + 1 - lo)) + x % 2 ^ lo := by
    rw [pow_add]; ring
  rw [e, Nat.mul_add_div hlo, Nat.div_eq_of_lt (Nat.mod_lt _ hlo), Nat.add_zero, Nat.mul_add_mod,
    Nat.mod_mod]

theorem bitsOf_putBits_of_lt {x hi lo v : Nat} (h : v < 2 ^ (hi + 1 - lo)) :
    bitsOf (putBits x hi lo v) hi lo = v := by rw [bitsOf_putBits, Nat.mod_eq_of_lt h]

theorem testBit_bitsOf (x hi lo i : Nat) : (bitsOf x hi lo).testBit i = (decide (i < hi + 1 - lo) && x.testBit (lo + i)) := by
  rw [bitsOf, Nat.testBit_mod_two_pow, Nat.testBit_shiftRight]

/-- Every bit of a number with a field replaced. -/
theorem testBit_putBits (x hi lo v i : Nat) :
    (putBits x hi lo v).testBit i =
      if lo ≤ i ∧ i < lo + (hi + 1 - lo) then v.testBit (i - lo) else x.testBit i := by
  have hput : putBits x hi lo v = 2 ^ lo * (2 ^ (hi + 1 - lo) * (x / 2 ^ lo / 2 ^ (hi + 1 - lo)) + v % 2 ^ (hi + 1 - lo)) + x % 2 ^ lo := by
    rw [putBits_eq, pow_add]; ring
  rw [hput, Nat.testBit_two_pow_mul_add _ (Nat.mod_lt _ (by positivity)),
    Nat.testBit_two_pow_mul_add _ (Nat.mod_lt _ (by positivity))]
  by_cases h1 : i < lo
  · rw [if_pos h1, if_neg (by omega), Nat.testBit_mod_two_pow]; simp [h1]
  · by_cases h2 : i - lo < hi + 1 - lo
    · rw [if_neg h1, if_pos h2, if_pos (by omega), Nat.testBit_mod_two_pow]; simp [h2]
    · rw [if_neg h1, if_neg h2, if_neg (by omega), Nat.testBit_div_two_pow, Nat.testBit_div_two_pow]
      congr 1; omega

/-- A field apart from the one written keeps its value. -/
theorem bitsOf_putBits_apart {x hi lo v hi' lo' : Nat} (h : hi' < lo ∨ hi < lo') :
    bitsOf (putBits x hi lo v) hi' lo' = bitsOf x hi' lo' := by
  apply Nat.eq_of_testBit_eq
  intro i
  rw [testBit_bitsOf, testBit_bitsOf]
  by_cases hi2 : i < hi' + 1 - lo'
  · rw [testBit_putBits, if_neg (by omega)]
  · simp [hi2]

/-- A number with a field inside 32 bits replaced stays within 32 bits. -/
theorem putBits_lt {x hi lo v : Nat} (hx : x < 2 ^ 32) (h : hi < 32) : putBits x hi lo v < 2 ^ 32 := by
  apply Nat.lt_pow_two_of_testBit
  intro i hi2
  rw [testBit_putBits, if_neg (by omega)]
  exact Nat.testBit_lt_two_pow (lt_of_lt_of_le hx (Nat.pow_le_pow_right (by norm_num) hi2))

@[simp] theorem length_natLE (n v : Nat) : (natLE n v).length = n := by
  induction n generalizing v with
  | zero => rfl
  | succ n ih => simp [natLE, ih]

@[simp] theorem length_natBE (n v : Nat) : (natBE n v).length = n := by simp [natBE]

@[simp] theorem length_zeros (n : Nat) : (zeros n).length = n := by simp [zeros]

@[simp] theorem length_padTo (n : Nat) (l : List Byte) : (padTo n l).length = n := by
  simp [padTo]; omega

end Sys2Proof.Machine
end

