-- ==== Sys2Proof/Laws/Registers.lean ====
section
/-! SUPPORT. The register file: what a register and a field read after a write. -/

namespace Sys2Proof.Machine

theorem regGet_regPut (l : List (Nat × Word)) (o off : Nat) (w : Word) :
    regGet (regPut l o w) off = if off = o then w else regGet l off := by
  induction l with
  | nil =>
    by_cases h : off = o
    · subst h; simp [regPut, regGet]
    · have h' : ¬ o = off := fun e => h e.symm
      simp [regPut, regGet, h, h']
  | cons x t ih =>
    obtain ⟨a, y⟩ := x
    unfold regPut
    by_cases h1 : a = o
    · subst h1
      by_cases h : off = a
      · subst h; simp [regGet]
      · have h' : ¬ a = off := fun e => h e.symm
        simp [regGet, h, h']
    · rw [if_neg h1]
      by_cases h2 : o < a
      · rw [if_pos h2]
        by_cases h : off = o
        · subst h; simp [regGet]
        · have h' : ¬ o = off := fun e => h e.symm
          simp [regGet, h, h']
      · rw [if_neg h2]
        by_cases h : a = off
        · have h' : ¬ off = o := fun e => h1 (h.trans e)
          simp [regGet, h, h']
        · simp [regGet, h, ih]

/-- A register read after a register write. -/
theorem State.reg_setReg (s : State) (o v off : Nat) :
    (s.setReg o v).reg off = if off = o then v % 2 ^ 32 else s.reg off := by
  by_cases h : off = o <;> simp [State.reg, State.setReg, regGet_regPut, h]

@[simp] theorem State.reg_setReg_self (s : State) (o v : Nat) : (s.setReg o v).reg o = v % 2 ^ 32 := by
  simp [State.reg_setReg]

theorem State.reg_setReg_ne (s : State) {o off : Nat} (v : Nat) (h : off ≠ o) : (s.setReg o v).reg off = s.reg off := by
  simp [State.reg_setReg, h]

theorem State.reg_lt (s : State) (off : Nat) : s.reg off < 2 ^ 32 := (regGet s.regs off).isLt

theorem State.reg_set (s : State) (f : Fld) (v off : Nat) (h : f.hi < 32) :
    (s.set f v).reg off = if off = f.off then putBits (s.reg f.off) f.hi f.lo v else s.reg off := by
  rw [State.set, State.reg_setReg, Nat.mod_eq_of_lt (putBits_lt (s.reg_lt _) h)]

/-- A field read after it is written. -/
theorem State.get_set_self (s : State) (f : Fld) (v : Nat) (h : f.hi < 32) :
    (s.set f v).get f = v % 2 ^ (f.hi + 1 - f.lo) := by
  rw [State.get, State.reg_set _ _ _ _ h, if_pos rfl, bitsOf_putBits]

theorem State.get_set_of_lt (s : State) {f : Fld} {v : Nat} (h : f.hi < 32) (hv : v < 2 ^ (f.hi + 1 - f.lo)) :
    (s.set f v).get f = v := by rw [State.get_set_self _ _ _ h, Nat.mod_eq_of_lt hv]

/-- A field of another register, or one apart in the same register, keeps its value. -/
theorem State.get_set_ne (s : State) {f g : Fld} (v : Nat) (h : f.hi < 32)
    (hg : g.off ≠ f.off ∨ g.hi < f.lo ∨ f.hi < g.lo) : (s.set f v).get g = s.get g := by
  rw [State.get, State.reg_set _ _ _ _ h, State.get]
  split
  · next e => rw [bitsOf_putBits_apart (by omega), e]
  · rfl

theorem State.get_setReg_ne (s : State) {o v : Nat} {g : Fld} (h : g.off ≠ o) : (s.setReg o v).get g = s.get g := by
  rw [State.get, State.reg_setReg_ne _ _ h, State.get]

/-- A field's value is within its width. -/
theorem State.get_lt (s : State) (f : Fld) : s.get f < 2 ^ (f.hi + 1 - f.lo) := bitsOf_lt _ _ _

theorem State.get_count_self (s : State) (f : Fld) (n : Nat) (h : f.hi < 32) :
    (s.count f n).get f = min (s.get f + n) (2 ^ (f.hi + 1 - f.lo) - 1) := by
  have hp : 0 < 2 ^ (f.hi + 1 - f.lo) := by positivity
  rw [State.count, State.get_set_of_lt _ h]
  · rfl
  · unfold sat; omega

theorem State.get_setSat_self (s : State) (f : Fld) (v : Nat) (h : f.hi < 32) :
    (s.setSat f v).get f = min v (2 ^ (f.hi + 1 - f.lo) - 1) := by
  have hp : 0 < 2 ^ (f.hi + 1 - f.lo) := by positivity
  rw [State.setSat, State.get_set_of_lt _ h]
  · rfl
  · unfold sat; omega

theorem testBit_putBit (x i j : Nat) (b : Bool) : (putBit x i b).testBit j = if j = i then b else x.testBit j := by
  rw [putBit, testBit_putBits]
  by_cases h : j = i
  · subst h; cases b <;> simp
  · rw [if_neg (by omega), if_neg h]

/-- A bit of a field read after it is written. -/
theorem State.bit_setBit_self (s : State) (f : Fld) (i : Nat) (b : Bool) (h : f.hi < 32) (hi : i < f.hi + 1 - f.lo) :
    (s.setBit f i b).bit f i = b := by
  rw [State.bit, State.setBit, State.get_set_self _ _ _ h, Nat.testBit_mod_two_pow, testBit_putBit]
  simp [hi]

/-- A 64-bit value read after it is written. -/
theorem State.get64_set64_self (s : State) (lo v : Nat) (h : v < 2 ^ 64) : (s.set64 lo v).get64 lo = v := by
  have hne : lo ≠ lo + 4 := Nat.ne_of_lt (Nat.lt_add_of_pos_right (by decide))
  have h1 : v >>> 32 < 2 ^ 32 := by
    rw [Nat.shiftRight_eq_div_pow]
    exact Nat.div_lt_of_lt_mul h
  have e1 : (s.set64 lo v).reg (lo + 4) = v >>> 32 := by
    unfold State.set64
    rw [State.reg_setReg_self, Nat.mod_eq_of_lt h1]
  have e2 : (s.set64 lo v).reg lo = v % 2 ^ 32 := by
    unfold State.set64
    rw [State.reg_setReg_ne _ _ hne, State.reg_setReg_self, Nat.mod_mod]
  unfold State.get64
  rw [e1, e2, Nat.shiftLeft_eq, Nat.shiftRight_eq_div_pow, Nat.add_comm, Nat.mul_comm]
  exact Nat.div_add_mod v (2 ^ 32)

end Sys2Proof.Machine
end

