-- ==== Sys2Proof/Laws/State.lean ====
section
/-! SUPPORT. Each part of the state after each plain update of the state: the part written, and every other part as it
was. What a register reads after a register write stands in Laws/Registers.lean. -/

namespace Sys2Proof.Machine

/-! ### setReg -/

@[simp] theorem State.setReg_pending (s : State) (off v : Nat) : (s.setReg off v).pending = s.pending := rfl
@[simp] theorem State.setReg_regs (s : State) (off v : Nat) : (s.setReg off v).regs = regPut s.regs off (BitVec.ofNat 32 v) := rfl
@[simp] theorem State.setReg_mem (s : State) (off v : Nat) : (s.setReg off v).mem = s.mem := rfl
@[simp] theorem State.setReg_time (s : State) (off v : Nat) : (s.setReg off v).time = s.time := rfl
@[simp] theorem State.setReg_isl (s : State) (off v : Nat) : (s.setReg off v).isl = s.isl := rfl
@[simp] theorem State.setReg_met (s : State) (off v : Nat) : (s.setReg off v).met = s.met := rfl
@[simp] theorem State.setReg_vot (s : State) (off v : Nat) : (s.setReg off v).vot = s.vot := rfl
@[simp] theorem State.setReg_bil (s : State) (off v : Nat) : (s.setReg off v).bil = s.bil := rfl
@[simp] theorem State.setReg_tpt (s : State) (off v : Nat) : (s.setReg off v).tpt = s.tpt := rfl
@[simp] theorem State.setReg_lsw (s : State) (off v : Nat) : (s.setReg off v).lsw = s.lsw := rfl
@[simp] theorem State.setReg_saf (s : State) (off v : Nat) : (s.setReg off v).saf = s.saf := rfl
@[simp] theorem State.setReg_host (s : State) (off v : Nat) : (s.setReg off v).host = s.host := rfl
@[simp] theorem State.setReg_ques (s : State) (off v : Nat) : (s.setReg off v).ques = s.ques := rfl
@[simp] theorem State.setReg_fab (s : State) (off v : Nat) : (s.setReg off v).fab = s.fab := rfl
@[simp] theorem State.setReg_mtl (s : State) (off v : Nat) : (s.setReg off v).mtl = s.mtl := rfl
@[simp] theorem State.setReg_key (s : State) (off v : Nat) : (s.setReg off v).key = s.key := rfl
@[simp] theorem State.setReg_ldp (s : State) (off v : Nat) : (s.setReg off v).ldp = s.ldp := rfl
@[simp] theorem State.setReg_upd (s : State) (off v : Nat) : (s.setReg off v).upd = s.upd := rfl
@[simp] theorem State.setReg_out (s : State) (off v : Nat) : (s.setReg off v).out = s.out := rfl
@[simp] theorem State.setReg_free (s : State) (off v : Nat) : (s.setReg off v).free = s.free := rfl

/-! ### set -/

@[simp] theorem State.set_pending (s : State) (f : Fld) (v : Nat) : (s.set f v).pending = s.pending := rfl
@[simp] theorem State.set_mem (s : State) (f : Fld) (v : Nat) : (s.set f v).mem = s.mem := rfl
@[simp] theorem State.set_time (s : State) (f : Fld) (v : Nat) : (s.set f v).time = s.time := rfl
@[simp] theorem State.set_isl (s : State) (f : Fld) (v : Nat) : (s.set f v).isl = s.isl := rfl
@[simp] theorem State.set_met (s : State) (f : Fld) (v : Nat) : (s.set f v).met = s.met := rfl
@[simp] theorem State.set_vot (s : State) (f : Fld) (v : Nat) : (s.set f v).vot = s.vot := rfl
@[simp] theorem State.set_bil (s : State) (f : Fld) (v : Nat) : (s.set f v).bil = s.bil := rfl
@[simp] theorem State.set_tpt (s : State) (f : Fld) (v : Nat) : (s.set f v).tpt = s.tpt := rfl
@[simp] theorem State.set_lsw (s : State) (f : Fld) (v : Nat) : (s.set f v).lsw = s.lsw := rfl
@[simp] theorem State.set_saf (s : State) (f : Fld) (v : Nat) : (s.set f v).saf = s.saf := rfl
@[simp] theorem State.set_host (s : State) (f : Fld) (v : Nat) : (s.set f v).host = s.host := rfl
@[simp] theorem State.set_ques (s : State) (f : Fld) (v : Nat) : (s.set f v).ques = s.ques := rfl
@[simp] theorem State.set_fab (s : State) (f : Fld) (v : Nat) : (s.set f v).fab = s.fab := rfl
@[simp] theorem State.set_mtl (s : State) (f : Fld) (v : Nat) : (s.set f v).mtl = s.mtl := rfl
@[simp] theorem State.set_key (s : State) (f : Fld) (v : Nat) : (s.set f v).key = s.key := rfl
@[simp] theorem State.set_ldp (s : State) (f : Fld) (v : Nat) : (s.set f v).ldp = s.ldp := rfl
@[simp] theorem State.set_upd (s : State) (f : Fld) (v : Nat) : (s.set f v).upd = s.upd := rfl
@[simp] theorem State.set_out (s : State) (f : Fld) (v : Nat) : (s.set f v).out = s.out := rfl
@[simp] theorem State.set_free (s : State) (f : Fld) (v : Nat) : (s.set f v).free = s.free := rfl

/-! ### setBit -/

@[simp] theorem State.setBit_pending (s : State) (f : Fld) (i : Nat) (b : Bool) : (s.setBit f i b).pending = s.pending := rfl
@[simp] theorem State.setBit_mem (s : State) (f : Fld) (i : Nat) (b : Bool) : (s.setBit f i b).mem = s.mem := rfl
@[simp] theorem State.setBit_time (s : State) (f : Fld) (i : Nat) (b : Bool) : (s.setBit f i b).time = s.time := rfl
@[simp] theorem State.setBit_isl (s : State) (f : Fld) (i : Nat) (b : Bool) : (s.setBit f i b).isl = s.isl := rfl
@[simp] theorem State.setBit_met (s : State) (f : Fld) (i : Nat) (b : Bool) : (s.setBit f i b).met = s.met := rfl
@[simp] theorem State.setBit_vot (s : State) (f : Fld) (i : Nat) (b : Bool) : (s.setBit f i b).vot = s.vot := rfl
@[simp] theorem State.setBit_bil (s : State) (f : Fld) (i : Nat) (b : Bool) : (s.setBit f i b).bil = s.bil := rfl
@[simp] theorem State.setBit_tpt (s : State) (f : Fld) (i : Nat) (b : Bool) : (s.setBit f i b).tpt = s.tpt := rfl
@[simp] theorem State.setBit_lsw (s : State) (f : Fld) (i : Nat) (b : Bool) : (s.setBit f i b).lsw = s.lsw := rfl
@[simp] theorem State.setBit_saf (s : State) (f : Fld) (i : Nat) (b : Bool) : (s.setBit f i b).saf = s.saf := rfl
@[simp] theorem State.setBit_host (s : State) (f : Fld) (i : Nat) (b : Bool) : (s.setBit f i b).host = s.host := rfl
@[simp] theorem State.setBit_ques (s : State) (f : Fld) (i : Nat) (b : Bool) : (s.setBit f i b).ques = s.ques := rfl
@[simp] theorem State.setBit_fab (s : State) (f : Fld) (i : Nat) (b : Bool) : (s.setBit f i b).fab = s.fab := rfl
@[simp] theorem State.setBit_mtl (s : State) (f : Fld) (i : Nat) (b : Bool) : (s.setBit f i b).mtl = s.mtl := rfl
@[simp] theorem State.setBit_key (s : State) (f : Fld) (i : Nat) (b : Bool) : (s.setBit f i b).key = s.key := rfl
@[simp] theorem State.setBit_ldp (s : State) (f : Fld) (i : Nat) (b : Bool) : (s.setBit f i b).ldp = s.ldp := rfl
@[simp] theorem State.setBit_upd (s : State) (f : Fld) (i : Nat) (b : Bool) : (s.setBit f i b).upd = s.upd := rfl
@[simp] theorem State.setBit_out (s : State) (f : Fld) (i : Nat) (b : Bool) : (s.setBit f i b).out = s.out := rfl
@[simp] theorem State.setBit_free (s : State) (f : Fld) (i : Nat) (b : Bool) : (s.setBit f i b).free = s.free := rfl

/-! ### count -/

@[simp] theorem State.count_pending (s : State) (f : Fld) (n : Nat) : (s.count f n).pending = s.pending := rfl
@[simp] theorem State.count_mem (s : State) (f : Fld) (n : Nat) : (s.count f n).mem = s.mem := rfl
@[simp] theorem State.count_time (s : State) (f : Fld) (n : Nat) : (s.count f n).time = s.time := rfl
@[simp] theorem State.count_isl (s : State) (f : Fld) (n : Nat) : (s.count f n).isl = s.isl := rfl
@[simp] theorem State.count_met (s : State) (f : Fld) (n : Nat) : (s.count f n).met = s.met := rfl
@[simp] theorem State.count_vot (s : State) (f : Fld) (n : Nat) : (s.count f n).vot = s.vot := rfl
@[simp] theorem State.count_bil (s : State) (f : Fld) (n : Nat) : (s.count f n).bil = s.bil := rfl
@[simp] theorem State.count_tpt (s : State) (f : Fld) (n : Nat) : (s.count f n).tpt = s.tpt := rfl
@[simp] theorem State.count_lsw (s : State) (f : Fld) (n : Nat) : (s.count f n).lsw = s.lsw := rfl
@[simp] theorem State.count_saf (s : State) (f : Fld) (n : Nat) : (s.count f n).saf = s.saf := rfl
@[simp] theorem State.count_host (s : State) (f : Fld) (n : Nat) : (s.count f n).host = s.host := rfl
@[simp] theorem State.count_ques (s : State) (f : Fld) (n : Nat) : (s.count f n).ques = s.ques := rfl
@[simp] theorem State.count_fab (s : State) (f : Fld) (n : Nat) : (s.count f n).fab = s.fab := rfl
@[simp] theorem State.count_mtl (s : State) (f : Fld) (n : Nat) : (s.count f n).mtl = s.mtl := rfl
@[simp] theorem State.count_key (s : State) (f : Fld) (n : Nat) : (s.count f n).key = s.key := rfl
@[simp] theorem State.count_ldp (s : State) (f : Fld) (n : Nat) : (s.count f n).ldp = s.ldp := rfl
@[simp] theorem State.count_upd (s : State) (f : Fld) (n : Nat) : (s.count f n).upd = s.upd := rfl
@[simp] theorem State.count_out (s : State) (f : Fld) (n : Nat) : (s.count f n).out = s.out := rfl
@[simp] theorem State.count_free (s : State) (f : Fld) (n : Nat) : (s.count f n).free = s.free := rfl

/-! ### wrap -/

@[simp] theorem State.wrap_pending (s : State) (f : Fld) : (s.wrap f).pending = s.pending := rfl
@[simp] theorem State.wrap_mem (s : State) (f : Fld) : (s.wrap f).mem = s.mem := rfl
@[simp] theorem State.wrap_time (s : State) (f : Fld) : (s.wrap f).time = s.time := rfl
@[simp] theorem State.wrap_isl (s : State) (f : Fld) : (s.wrap f).isl = s.isl := rfl
@[simp] theorem State.wrap_met (s : State) (f : Fld) : (s.wrap f).met = s.met := rfl
@[simp] theorem State.wrap_vot (s : State) (f : Fld) : (s.wrap f).vot = s.vot := rfl
@[simp] theorem State.wrap_bil (s : State) (f : Fld) : (s.wrap f).bil = s.bil := rfl
@[simp] theorem State.wrap_tpt (s : State) (f : Fld) : (s.wrap f).tpt = s.tpt := rfl
@[simp] theorem State.wrap_lsw (s : State) (f : Fld) : (s.wrap f).lsw = s.lsw := rfl
@[simp] theorem State.wrap_saf (s : State) (f : Fld) : (s.wrap f).saf = s.saf := rfl
@[simp] theorem State.wrap_host (s : State) (f : Fld) : (s.wrap f).host = s.host := rfl
@[simp] theorem State.wrap_ques (s : State) (f : Fld) : (s.wrap f).ques = s.ques := rfl
@[simp] theorem State.wrap_fab (s : State) (f : Fld) : (s.wrap f).fab = s.fab := rfl
@[simp] theorem State.wrap_mtl (s : State) (f : Fld) : (s.wrap f).mtl = s.mtl := rfl
@[simp] theorem State.wrap_key (s : State) (f : Fld) : (s.wrap f).key = s.key := rfl
@[simp] theorem State.wrap_ldp (s : State) (f : Fld) : (s.wrap f).ldp = s.ldp := rfl
@[simp] theorem State.wrap_upd (s : State) (f : Fld) : (s.wrap f).upd = s.upd := rfl
@[simp] theorem State.wrap_out (s : State) (f : Fld) : (s.wrap f).out = s.out := rfl
@[simp] theorem State.wrap_free (s : State) (f : Fld) : (s.wrap f).free = s.free := rfl

/-! ### setSat -/

@[simp] theorem State.setSat_pending (s : State) (f : Fld) (v : Nat) : (s.setSat f v).pending = s.pending := rfl
@[simp] theorem State.setSat_mem (s : State) (f : Fld) (v : Nat) : (s.setSat f v).mem = s.mem := rfl
@[simp] theorem State.setSat_time (s : State) (f : Fld) (v : Nat) : (s.setSat f v).time = s.time := rfl
@[simp] theorem State.setSat_isl (s : State) (f : Fld) (v : Nat) : (s.setSat f v).isl = s.isl := rfl
@[simp] theorem State.setSat_met (s : State) (f : Fld) (v : Nat) : (s.setSat f v).met = s.met := rfl
@[simp] theorem State.setSat_vot (s : State) (f : Fld) (v : Nat) : (s.setSat f v).vot = s.vot := rfl
@[simp] theorem State.setSat_bil (s : State) (f : Fld) (v : Nat) : (s.setSat f v).bil = s.bil := rfl
@[simp] theorem State.setSat_tpt (s : State) (f : Fld) (v : Nat) : (s.setSat f v).tpt = s.tpt := rfl
@[simp] theorem State.setSat_lsw (s : State) (f : Fld) (v : Nat) : (s.setSat f v).lsw = s.lsw := rfl
@[simp] theorem State.setSat_saf (s : State) (f : Fld) (v : Nat) : (s.setSat f v).saf = s.saf := rfl
@[simp] theorem State.setSat_host (s : State) (f : Fld) (v : Nat) : (s.setSat f v).host = s.host := rfl
@[simp] theorem State.setSat_ques (s : State) (f : Fld) (v : Nat) : (s.setSat f v).ques = s.ques := rfl
@[simp] theorem State.setSat_fab (s : State) (f : Fld) (v : Nat) : (s.setSat f v).fab = s.fab := rfl
@[simp] theorem State.setSat_mtl (s : State) (f : Fld) (v : Nat) : (s.setSat f v).mtl = s.mtl := rfl
@[simp] theorem State.setSat_key (s : State) (f : Fld) (v : Nat) : (s.setSat f v).key = s.key := rfl
@[simp] theorem State.setSat_ldp (s : State) (f : Fld) (v : Nat) : (s.setSat f v).ldp = s.ldp := rfl
@[simp] theorem State.setSat_upd (s : State) (f : Fld) (v : Nat) : (s.setSat f v).upd = s.upd := rfl
@[simp] theorem State.setSat_out (s : State) (f : Fld) (v : Nat) : (s.setSat f v).out = s.out := rfl
@[simp] theorem State.setSat_free (s : State) (f : Fld) (v : Nat) : (s.setSat f v).free = s.free := rfl

/-! ### set64 -/

@[simp] theorem State.set64_pending (s : State) (lo v : Nat) : (s.set64 lo v).pending = s.pending := rfl
@[simp] theorem State.set64_mem (s : State) (lo v : Nat) : (s.set64 lo v).mem = s.mem := rfl
@[simp] theorem State.set64_time (s : State) (lo v : Nat) : (s.set64 lo v).time = s.time := rfl
@[simp] theorem State.set64_isl (s : State) (lo v : Nat) : (s.set64 lo v).isl = s.isl := rfl
@[simp] theorem State.set64_met (s : State) (lo v : Nat) : (s.set64 lo v).met = s.met := rfl
@[simp] theorem State.set64_vot (s : State) (lo v : Nat) : (s.set64 lo v).vot = s.vot := rfl
@[simp] theorem State.set64_bil (s : State) (lo v : Nat) : (s.set64 lo v).bil = s.bil := rfl
@[simp] theorem State.set64_tpt (s : State) (lo v : Nat) : (s.set64 lo v).tpt = s.tpt := rfl
@[simp] theorem State.set64_lsw (s : State) (lo v : Nat) : (s.set64 lo v).lsw = s.lsw := rfl
@[simp] theorem State.set64_saf (s : State) (lo v : Nat) : (s.set64 lo v).saf = s.saf := rfl
@[simp] theorem State.set64_host (s : State) (lo v : Nat) : (s.set64 lo v).host = s.host := rfl
@[simp] theorem State.set64_ques (s : State) (lo v : Nat) : (s.set64 lo v).ques = s.ques := rfl
@[simp] theorem State.set64_fab (s : State) (lo v : Nat) : (s.set64 lo v).fab = s.fab := rfl
@[simp] theorem State.set64_mtl (s : State) (lo v : Nat) : (s.set64 lo v).mtl = s.mtl := rfl
@[simp] theorem State.set64_key (s : State) (lo v : Nat) : (s.set64 lo v).key = s.key := rfl
@[simp] theorem State.set64_ldp (s : State) (lo v : Nat) : (s.set64 lo v).ldp = s.ldp := rfl
@[simp] theorem State.set64_upd (s : State) (lo v : Nat) : (s.set64 lo v).upd = s.upd := rfl
@[simp] theorem State.set64_out (s : State) (lo v : Nat) : (s.set64 lo v).out = s.out := rfl
@[simp] theorem State.set64_free (s : State) (lo v : Nat) : (s.set64 lo v).free = s.free := rfl

/-! ### store -/

@[simp] theorem State.store_pending (s : State) (a : Nat) (l : List Byte) : (s.store a l).pending = s.pending := rfl
@[simp] theorem State.store_regs (s : State) (a : Nat) (l : List Byte) : (s.store a l).regs = s.regs := rfl
@[simp] theorem State.store_mem (s : State) (a : Nat) (l : List Byte) : (s.store a l).mem = memWrite s.mem a l := rfl
@[simp] theorem State.store_time (s : State) (a : Nat) (l : List Byte) : (s.store a l).time = s.time := rfl
@[simp] theorem State.store_isl (s : State) (a : Nat) (l : List Byte) : (s.store a l).isl = s.isl := rfl
@[simp] theorem State.store_met (s : State) (a : Nat) (l : List Byte) : (s.store a l).met = s.met := rfl
@[simp] theorem State.store_vot (s : State) (a : Nat) (l : List Byte) : (s.store a l).vot = s.vot := rfl
@[simp] theorem State.store_bil (s : State) (a : Nat) (l : List Byte) : (s.store a l).bil = s.bil := rfl
@[simp] theorem State.store_tpt (s : State) (a : Nat) (l : List Byte) : (s.store a l).tpt = s.tpt := rfl
@[simp] theorem State.store_lsw (s : State) (a : Nat) (l : List Byte) : (s.store a l).lsw = s.lsw := rfl
@[simp] theorem State.store_saf (s : State) (a : Nat) (l : List Byte) : (s.store a l).saf = s.saf := rfl
@[simp] theorem State.store_host (s : State) (a : Nat) (l : List Byte) : (s.store a l).host = s.host := rfl
@[simp] theorem State.store_ques (s : State) (a : Nat) (l : List Byte) : (s.store a l).ques = s.ques := rfl
@[simp] theorem State.store_fab (s : State) (a : Nat) (l : List Byte) : (s.store a l).fab = s.fab := rfl
@[simp] theorem State.store_mtl (s : State) (a : Nat) (l : List Byte) : (s.store a l).mtl = s.mtl := rfl
@[simp] theorem State.store_key (s : State) (a : Nat) (l : List Byte) : (s.store a l).key = s.key := rfl
@[simp] theorem State.store_ldp (s : State) (a : Nat) (l : List Byte) : (s.store a l).ldp = s.ldp := rfl
@[simp] theorem State.store_upd (s : State) (a : Nat) (l : List Byte) : (s.store a l).upd = s.upd := rfl
@[simp] theorem State.store_out (s : State) (a : Nat) (l : List Byte) : (s.store a l).out = s.out := rfl
@[simp] theorem State.store_free (s : State) (a : Nat) (l : List Byte) : (s.store a l).free = s.free := rfl
@[simp] theorem State.store_reg (s : State) (a : Nat) (l : List Byte) (o : Nat) : (s.store a l).reg o = s.reg o := rfl
@[simp] theorem State.store_get (s : State) (a : Nat) (l : List Byte) (g : Fld) : (s.store a l).get g = s.get g := rfl
@[simp] theorem State.store_running (s : State) (a : Nat) (l : List Byte) (i : Isl) : (s.store a l).running i = s.running i := rfl

/-! ### emit -/

@[simp] theorem State.emit_pending (s : State) (o : Out) : (s.emit o).pending = s.pending := rfl
@[simp] theorem State.emit_regs (s : State) (o : Out) : (s.emit o).regs = s.regs := rfl
@[simp] theorem State.emit_mem (s : State) (o : Out) : (s.emit o).mem = s.mem := rfl
@[simp] theorem State.emit_time (s : State) (o : Out) : (s.emit o).time = s.time := rfl
@[simp] theorem State.emit_isl (s : State) (o : Out) : (s.emit o).isl = s.isl := rfl
@[simp] theorem State.emit_met (s : State) (o : Out) : (s.emit o).met = s.met := rfl
@[simp] theorem State.emit_vot (s : State) (o : Out) : (s.emit o).vot = s.vot := rfl
@[simp] theorem State.emit_bil (s : State) (o : Out) : (s.emit o).bil = s.bil := rfl
@[simp] theorem State.emit_tpt (s : State) (o : Out) : (s.emit o).tpt = s.tpt := rfl
@[simp] theorem State.emit_lsw (s : State) (o : Out) : (s.emit o).lsw = s.lsw := rfl
@[simp] theorem State.emit_saf (s : State) (o : Out) : (s.emit o).saf = s.saf := rfl
@[simp] theorem State.emit_host (s : State) (o : Out) : (s.emit o).host = s.host := rfl
@[simp] theorem State.emit_ques (s : State) (o : Out) : (s.emit o).ques = s.ques := rfl
@[simp] theorem State.emit_fab (s : State) (o : Out) : (s.emit o).fab = s.fab := rfl
@[simp] theorem State.emit_mtl (s : State) (o : Out) : (s.emit o).mtl = s.mtl := rfl
@[simp] theorem State.emit_key (s : State) (o : Out) : (s.emit o).key = s.key := rfl
@[simp] theorem State.emit_ldp (s : State) (o : Out) : (s.emit o).ldp = s.ldp := rfl
@[simp] theorem State.emit_upd (s : State) (o : Out) : (s.emit o).upd = s.upd := rfl
@[simp] theorem State.emit_out (s : State) (o : Out) : (s.emit o).out = o :: s.out := rfl
@[simp] theorem State.emit_free (s : State) (o : Out) : (s.emit o).free = s.free := rfl
@[simp] theorem State.emit_reg (s : State) (o : Out) (a : Nat) : (s.emit o).reg a = s.reg a := rfl
@[simp] theorem State.emit_get (s : State) (o : Out) (g : Fld) : (s.emit o).get g = s.get g := rfl
@[simp] theorem State.emit_running (s : State) (o : Out) (i : Isl) : (s.emit o).running i = s.running i := rfl

/-! ### complete -/

@[simp] theorem State.complete_pending (s : State) (d : Desc) (status detail : Nat) (bytes : List Byte) : (s.complete d status detail bytes).pending = s.pending := rfl
@[simp] theorem State.complete_regs (s : State) (d : Desc) (status detail : Nat) (bytes : List Byte) : (s.complete d status detail bytes).regs = s.regs := rfl
@[simp] theorem State.complete_mem (s : State) (d : Desc) (status detail : Nat) (bytes : List Byte) : (s.complete d status detail bytes).mem = s.mem := rfl
@[simp] theorem State.complete_time (s : State) (d : Desc) (status detail : Nat) (bytes : List Byte) : (s.complete d status detail bytes).time = s.time := rfl
@[simp] theorem State.complete_isl (s : State) (d : Desc) (status detail : Nat) (bytes : List Byte) : (s.complete d status detail bytes).isl = s.isl := rfl
@[simp] theorem State.complete_met (s : State) (d : Desc) (status detail : Nat) (bytes : List Byte) : (s.complete d status detail bytes).met = s.met := rfl
@[simp] theorem State.complete_vot (s : State) (d : Desc) (status detail : Nat) (bytes : List Byte) : (s.complete d status detail bytes).vot = s.vot := rfl
@[simp] theorem State.complete_bil (s : State) (d : Desc) (status detail : Nat) (bytes : List Byte) : (s.complete d status detail bytes).bil = s.bil := rfl
@[simp] theorem State.complete_tpt (s : State) (d : Desc) (status detail : Nat) (bytes : List Byte) : (s.complete d status detail bytes).tpt = s.tpt := rfl
@[simp] theorem State.complete_lsw (s : State) (d : Desc) (status detail : Nat) (bytes : List Byte) : (s.complete d status detail bytes).lsw = s.lsw := rfl
@[simp] theorem State.complete_saf (s : State) (d : Desc) (status detail : Nat) (bytes : List Byte) : (s.complete d status detail bytes).saf = s.saf := rfl
@[simp] theorem State.complete_host (s : State) (d : Desc) (status detail : Nat) (bytes : List Byte) : (s.complete d status detail bytes).host = { s.host with results := s.host.results ++ [⟨d, status, detail, bytes⟩] } := rfl
@[simp] theorem State.complete_ques (s : State) (d : Desc) (status detail : Nat) (bytes : List Byte) : (s.complete d status detail bytes).ques = s.ques := rfl
@[simp] theorem State.complete_fab (s : State) (d : Desc) (status detail : Nat) (bytes : List Byte) : (s.complete d status detail bytes).fab = s.fab := rfl
@[simp] theorem State.complete_mtl (s : State) (d : Desc) (status detail : Nat) (bytes : List Byte) : (s.complete d status detail bytes).mtl = s.mtl := rfl
@[simp] theorem State.complete_key (s : State) (d : Desc) (status detail : Nat) (bytes : List Byte) : (s.complete d status detail bytes).key = s.key := rfl
@[simp] theorem State.complete_ldp (s : State) (d : Desc) (status detail : Nat) (bytes : List Byte) : (s.complete d status detail bytes).ldp = s.ldp := rfl
@[simp] theorem State.complete_upd (s : State) (d : Desc) (status detail : Nat) (bytes : List Byte) : (s.complete d status detail bytes).upd = s.upd := rfl
@[simp] theorem State.complete_out (s : State) (d : Desc) (status detail : Nat) (bytes : List Byte) : (s.complete d status detail bytes).out = s.out := rfl
@[simp] theorem State.complete_free (s : State) (d : Desc) (status detail : Nat) (bytes : List Byte) : (s.complete d status detail bytes).free = s.free := rfl
@[simp] theorem State.complete_reg (s : State) (d : Desc) (status detail : Nat) (bytes : List Byte) (o : Nat) : (s.complete d status detail bytes).reg o = s.reg o := rfl
@[simp] theorem State.complete_get (s : State) (d : Desc) (status detail : Nat) (bytes : List Byte) (g : Fld) : (s.complete d status detail bytes).get g = s.get g := rfl
@[simp] theorem State.complete_running (s : State) (d : Desc) (status detail : Nat) (bytes : List Byte) (i : Isl) : (s.complete d status detail bytes).running i = s.running i := rfl

/-! ### ok -/

@[simp] theorem State.ok_pending (s : State) (d : Desc) (bytes : List Byte) : (s.ok d bytes).pending = s.pending := rfl
@[simp] theorem State.ok_regs (s : State) (d : Desc) (bytes : List Byte) : (s.ok d bytes).regs = s.regs := rfl
@[simp] theorem State.ok_mem (s : State) (d : Desc) (bytes : List Byte) : (s.ok d bytes).mem = s.mem := rfl
@[simp] theorem State.ok_time (s : State) (d : Desc) (bytes : List Byte) : (s.ok d bytes).time = s.time := rfl
@[simp] theorem State.ok_isl (s : State) (d : Desc) (bytes : List Byte) : (s.ok d bytes).isl = s.isl := rfl
@[simp] theorem State.ok_met (s : State) (d : Desc) (bytes : List Byte) : (s.ok d bytes).met = s.met := rfl
@[simp] theorem State.ok_vot (s : State) (d : Desc) (bytes : List Byte) : (s.ok d bytes).vot = s.vot := rfl
@[simp] theorem State.ok_bil (s : State) (d : Desc) (bytes : List Byte) : (s.ok d bytes).bil = s.bil := rfl
@[simp] theorem State.ok_tpt (s : State) (d : Desc) (bytes : List Byte) : (s.ok d bytes).tpt = s.tpt := rfl
@[simp] theorem State.ok_lsw (s : State) (d : Desc) (bytes : List Byte) : (s.ok d bytes).lsw = s.lsw := rfl
@[simp] theorem State.ok_saf (s : State) (d : Desc) (bytes : List Byte) : (s.ok d bytes).saf = s.saf := rfl
@[simp] theorem State.ok_host (s : State) (d : Desc) (bytes : List Byte) : (s.ok d bytes).host = { s.host with results := s.host.results ++ [⟨d, 0, 0, bytes⟩] } := rfl
@[simp] theorem State.ok_ques (s : State) (d : Desc) (bytes : List Byte) : (s.ok d bytes).ques = s.ques := rfl
@[simp] theorem State.ok_fab (s : State) (d : Desc) (bytes : List Byte) : (s.ok d bytes).fab = s.fab := rfl
@[simp] theorem State.ok_mtl (s : State) (d : Desc) (bytes : List Byte) : (s.ok d bytes).mtl = s.mtl := rfl
@[simp] theorem State.ok_key (s : State) (d : Desc) (bytes : List Byte) : (s.ok d bytes).key = s.key := rfl
@[simp] theorem State.ok_ldp (s : State) (d : Desc) (bytes : List Byte) : (s.ok d bytes).ldp = s.ldp := rfl
@[simp] theorem State.ok_upd (s : State) (d : Desc) (bytes : List Byte) : (s.ok d bytes).upd = s.upd := rfl
@[simp] theorem State.ok_out (s : State) (d : Desc) (bytes : List Byte) : (s.ok d bytes).out = s.out := rfl
@[simp] theorem State.ok_free (s : State) (d : Desc) (bytes : List Byte) : (s.ok d bytes).free = s.free := rfl
@[simp] theorem State.ok_reg (s : State) (d : Desc) (bytes : List Byte) (o : Nat) : (s.ok d bytes).reg o = s.reg o := rfl
@[simp] theorem State.ok_get (s : State) (d : Desc) (bytes : List Byte) (g : Fld) : (s.ok d bytes).get g = s.get g := rfl
@[simp] theorem State.ok_running (s : State) (d : Desc) (bytes : List Byte) (i : Isl) : (s.ok d bytes).running i = s.running i := rfl

/-! ### modSx -/

@[simp] theorem State.modSx_pending (s : State) (p : Fin 8) (f : Sess → Sess) : (s.modSx p f).pending = s.pending := rfl
@[simp] theorem State.modSx_regs (s : State) (p : Fin 8) (f : Sess → Sess) : (s.modSx p f).regs = s.regs := rfl
@[simp] theorem State.modSx_mem (s : State) (p : Fin 8) (f : Sess → Sess) : (s.modSx p f).mem = s.mem := rfl
@[simp] theorem State.modSx_time (s : State) (p : Fin 8) (f : Sess → Sess) : (s.modSx p f).time = s.time := rfl
@[simp] theorem State.modSx_isl (s : State) (p : Fin 8) (f : Sess → Sess) : (s.modSx p f).isl = s.isl := rfl
@[simp] theorem State.modSx_met (s : State) (p : Fin 8) (f : Sess → Sess) : (s.modSx p f).met = s.met := rfl
@[simp] theorem State.modSx_vot (s : State) (p : Fin 8) (f : Sess → Sess) : (s.modSx p f).vot = s.vot := rfl
@[simp] theorem State.modSx_bil (s : State) (p : Fin 8) (f : Sess → Sess) : (s.modSx p f).bil = s.bil := rfl
@[simp] theorem State.modSx_tpt (s : State) (p : Fin 8) (f : Sess → Sess) : (s.modSx p f).tpt = { s.tpt with sess := s.tpt.sess.set p (f s.tpt.sess[p]) } := rfl
@[simp] theorem State.modSx_lsw (s : State) (p : Fin 8) (f : Sess → Sess) : (s.modSx p f).lsw = s.lsw := rfl
@[simp] theorem State.modSx_saf (s : State) (p : Fin 8) (f : Sess → Sess) : (s.modSx p f).saf = s.saf := rfl
@[simp] theorem State.modSx_host (s : State) (p : Fin 8) (f : Sess → Sess) : (s.modSx p f).host = s.host := rfl
@[simp] theorem State.modSx_ques (s : State) (p : Fin 8) (f : Sess → Sess) : (s.modSx p f).ques = s.ques := rfl
@[simp] theorem State.modSx_fab (s : State) (p : Fin 8) (f : Sess → Sess) : (s.modSx p f).fab = s.fab := rfl
@[simp] theorem State.modSx_mtl (s : State) (p : Fin 8) (f : Sess → Sess) : (s.modSx p f).mtl = s.mtl := rfl
@[simp] theorem State.modSx_key (s : State) (p : Fin 8) (f : Sess → Sess) : (s.modSx p f).key = s.key := rfl
@[simp] theorem State.modSx_ldp (s : State) (p : Fin 8) (f : Sess → Sess) : (s.modSx p f).ldp = s.ldp := rfl
@[simp] theorem State.modSx_upd (s : State) (p : Fin 8) (f : Sess → Sess) : (s.modSx p f).upd = s.upd := rfl
@[simp] theorem State.modSx_out (s : State) (p : Fin 8) (f : Sess → Sess) : (s.modSx p f).out = s.out := rfl
@[simp] theorem State.modSx_free (s : State) (p : Fin 8) (f : Sess → Sess) : (s.modSx p f).free = s.free := rfl
@[simp] theorem State.modSx_reg (s : State) (p : Fin 8) (f : Sess → Sess) (o : Nat) : (s.modSx p f).reg o = s.reg o := rfl
@[simp] theorem State.modSx_get (s : State) (p : Fin 8) (f : Sess → Sess) (g : Fld) : (s.modSx p f).get g = s.get g := rfl
@[simp] theorem State.modSx_running (s : State) (p : Fin 8) (f : Sess → Sess) (i : Isl) : (s.modSx p f).running i = s.running i := rfl

/-! ### modLdp -/

@[simp] theorem State.modLdp_pending (s : State) (f : LdpS → LdpS) : (s.modLdp f).pending = s.pending := rfl
@[simp] theorem State.modLdp_regs (s : State) (f : LdpS → LdpS) : (s.modLdp f).regs = s.regs := rfl
@[simp] theorem State.modLdp_mem (s : State) (f : LdpS → LdpS) : (s.modLdp f).mem = s.mem := rfl
@[simp] theorem State.modLdp_time (s : State) (f : LdpS → LdpS) : (s.modLdp f).time = s.time := rfl
@[simp] theorem State.modLdp_isl (s : State) (f : LdpS → LdpS) : (s.modLdp f).isl = s.isl := rfl
@[simp] theorem State.modLdp_met (s : State) (f : LdpS → LdpS) : (s.modLdp f).met = s.met := rfl
@[simp] theorem State.modLdp_vot (s : State) (f : LdpS → LdpS) : (s.modLdp f).vot = s.vot := rfl
@[simp] theorem State.modLdp_bil (s : State) (f : LdpS → LdpS) : (s.modLdp f).bil = s.bil := rfl
@[simp] theorem State.modLdp_tpt (s : State) (f : LdpS → LdpS) : (s.modLdp f).tpt = s.tpt := rfl
@[simp] theorem State.modLdp_lsw (s : State) (f : LdpS → LdpS) : (s.modLdp f).lsw = s.lsw := rfl
@[simp] theorem State.modLdp_saf (s : State) (f : LdpS → LdpS) : (s.modLdp f).saf = s.saf := rfl
@[simp] theorem State.modLdp_host (s : State) (f : LdpS → LdpS) : (s.modLdp f).host = s.host := rfl
@[simp] theorem State.modLdp_ques (s : State) (f : LdpS → LdpS) : (s.modLdp f).ques = s.ques := rfl
@[simp] theorem State.modLdp_fab (s : State) (f : LdpS → LdpS) : (s.modLdp f).fab = s.fab := rfl
@[simp] theorem State.modLdp_mtl (s : State) (f : LdpS → LdpS) : (s.modLdp f).mtl = s.mtl := rfl
@[simp] theorem State.modLdp_key (s : State) (f : LdpS → LdpS) : (s.modLdp f).key = s.key := rfl
@[simp] theorem State.modLdp_ldp (s : State) (f : LdpS → LdpS) : (s.modLdp f).ldp = f s.ldp := rfl
@[simp] theorem State.modLdp_upd (s : State) (f : LdpS → LdpS) : (s.modLdp f).upd = s.upd := rfl
@[simp] theorem State.modLdp_out (s : State) (f : LdpS → LdpS) : (s.modLdp f).out = s.out := rfl
@[simp] theorem State.modLdp_free (s : State) (f : LdpS → LdpS) : (s.modLdp f).free = s.free := rfl
@[simp] theorem State.modLdp_reg (s : State) (f : LdpS → LdpS) (o : Nat) : (s.modLdp f).reg o = s.reg o := rfl
@[simp] theorem State.modLdp_get (s : State) (f : LdpS → LdpS) (g : Fld) : (s.modLdp f).get g = s.get g := rfl
@[simp] theorem State.modLdp_running (s : State) (f : LdpS → LdpS) (i : Isl) : (s.modLdp f).running i = s.running i := rfl

/-! ### modVot -/

@[simp] theorem State.modVot_pending (s : State) (f : VotS → VotS) : (s.modVot f).pending = s.pending := rfl
@[simp] theorem State.modVot_regs (s : State) (f : VotS → VotS) : (s.modVot f).regs = s.regs := rfl
@[simp] theorem State.modVot_mem (s : State) (f : VotS → VotS) : (s.modVot f).mem = s.mem := rfl
@[simp] theorem State.modVot_time (s : State) (f : VotS → VotS) : (s.modVot f).time = s.time := rfl
@[simp] theorem State.modVot_isl (s : State) (f : VotS → VotS) : (s.modVot f).isl = s.isl := rfl
@[simp] theorem State.modVot_met (s : State) (f : VotS → VotS) : (s.modVot f).met = s.met := rfl
@[simp] theorem State.modVot_vot (s : State) (f : VotS → VotS) : (s.modVot f).vot = f s.vot := rfl
@[simp] theorem State.modVot_bil (s : State) (f : VotS → VotS) : (s.modVot f).bil = s.bil := rfl
@[simp] theorem State.modVot_tpt (s : State) (f : VotS → VotS) : (s.modVot f).tpt = s.tpt := rfl
@[simp] theorem State.modVot_lsw (s : State) (f : VotS → VotS) : (s.modVot f).lsw = s.lsw := rfl
@[simp] theorem State.modVot_saf (s : State) (f : VotS → VotS) : (s.modVot f).saf = s.saf := rfl
@[simp] theorem State.modVot_host (s : State) (f : VotS → VotS) : (s.modVot f).host = s.host := rfl
@[simp] theorem State.modVot_ques (s : State) (f : VotS → VotS) : (s.modVot f).ques = s.ques := rfl
@[simp] theorem State.modVot_fab (s : State) (f : VotS → VotS) : (s.modVot f).fab = s.fab := rfl
@[simp] theorem State.modVot_mtl (s : State) (f : VotS → VotS) : (s.modVot f).mtl = s.mtl := rfl
@[simp] theorem State.modVot_key (s : State) (f : VotS → VotS) : (s.modVot f).key = s.key := rfl
@[simp] theorem State.modVot_ldp (s : State) (f : VotS → VotS) : (s.modVot f).ldp = s.ldp := rfl
@[simp] theorem State.modVot_upd (s : State) (f : VotS → VotS) : (s.modVot f).upd = s.upd := rfl
@[simp] theorem State.modVot_out (s : State) (f : VotS → VotS) : (s.modVot f).out = s.out := rfl
@[simp] theorem State.modVot_free (s : State) (f : VotS → VotS) : (s.modVot f).free = s.free := rfl
@[simp] theorem State.modVot_reg (s : State) (f : VotS → VotS) (o : Nat) : (s.modVot f).reg o = s.reg o := rfl
@[simp] theorem State.modVot_get (s : State) (f : VotS → VotS) (g : Fld) : (s.modVot f).get g = s.get g := rfl
@[simp] theorem State.modVot_running (s : State) (f : VotS → VotS) (i : Isl) : (s.modVot f).running i = s.running i := rfl

/-! ### modPair -/

@[simp] theorem State.modPair_pending (s : State) (f : PairS → PairS) : (s.modPair f).pending = s.pending := rfl
@[simp] theorem State.modPair_regs (s : State) (f : PairS → PairS) : (s.modPair f).regs = s.regs := rfl
@[simp] theorem State.modPair_mem (s : State) (f : PairS → PairS) : (s.modPair f).mem = s.mem := rfl
@[simp] theorem State.modPair_time (s : State) (f : PairS → PairS) : (s.modPair f).time = s.time := rfl
@[simp] theorem State.modPair_isl (s : State) (f : PairS → PairS) : (s.modPair f).isl = s.isl := rfl
@[simp] theorem State.modPair_met (s : State) (f : PairS → PairS) : (s.modPair f).met = s.met := rfl
@[simp] theorem State.modPair_vot (s : State) (f : PairS → PairS) : (s.modPair f).vot = s.vot := rfl
@[simp] theorem State.modPair_bil (s : State) (f : PairS → PairS) : (s.modPair f).bil = s.bil := rfl
@[simp] theorem State.modPair_tpt (s : State) (f : PairS → PairS) : (s.modPair f).tpt = s.tpt := rfl
@[simp] theorem State.modPair_lsw (s : State) (f : PairS → PairS) : (s.modPair f).lsw = s.lsw := rfl
@[simp] theorem State.modPair_saf (s : State) (f : PairS → PairS) : (s.modPair f).saf = s.saf := rfl
@[simp] theorem State.modPair_host (s : State) (f : PairS → PairS) : (s.modPair f).host = s.host := rfl
@[simp] theorem State.modPair_ques (s : State) (f : PairS → PairS) : (s.modPair f).ques = s.ques := rfl
@[simp] theorem State.modPair_fab (s : State) (f : PairS → PairS) : (s.modPair f).fab = { s.fab with pair := f s.fab.pair } := rfl
@[simp] theorem State.modPair_mtl (s : State) (f : PairS → PairS) : (s.modPair f).mtl = s.mtl := rfl
@[simp] theorem State.modPair_key (s : State) (f : PairS → PairS) : (s.modPair f).key = s.key := rfl
@[simp] theorem State.modPair_ldp (s : State) (f : PairS → PairS) : (s.modPair f).ldp = s.ldp := rfl
@[simp] theorem State.modPair_upd (s : State) (f : PairS → PairS) : (s.modPair f).upd = s.upd := rfl
@[simp] theorem State.modPair_out (s : State) (f : PairS → PairS) : (s.modPair f).out = s.out := rfl
@[simp] theorem State.modPair_free (s : State) (f : PairS → PairS) : (s.modPair f).free = s.free := rfl
@[simp] theorem State.modPair_reg (s : State) (f : PairS → PairS) (o : Nat) : (s.modPair f).reg o = s.reg o := rfl
@[simp] theorem State.modPair_get (s : State) (f : PairS → PairS) (g : Fld) : (s.modPair f).get g = s.get g := rfl
@[simp] theorem State.modPair_running (s : State) (f : PairS → PairS) (i : Isl) : (s.modPair f).running i = s.running i := rfl

/-! ### modPtp -/

@[simp] theorem State.modPtp_pending (s : State) (f : PtpS → PtpS) : (s.modPtp f).pending = s.pending := rfl
@[simp] theorem State.modPtp_regs (s : State) (f : PtpS → PtpS) : (s.modPtp f).regs = s.regs := rfl
@[simp] theorem State.modPtp_mem (s : State) (f : PtpS → PtpS) : (s.modPtp f).mem = s.mem := rfl
@[simp] theorem State.modPtp_time (s : State) (f : PtpS → PtpS) : (s.modPtp f).time = s.time := rfl
@[simp] theorem State.modPtp_isl (s : State) (f : PtpS → PtpS) : (s.modPtp f).isl = s.isl := rfl
@[simp] theorem State.modPtp_met (s : State) (f : PtpS → PtpS) : (s.modPtp f).met = s.met := rfl
@[simp] theorem State.modPtp_vot (s : State) (f : PtpS → PtpS) : (s.modPtp f).vot = s.vot := rfl
@[simp] theorem State.modPtp_bil (s : State) (f : PtpS → PtpS) : (s.modPtp f).bil = s.bil := rfl
@[simp] theorem State.modPtp_tpt (s : State) (f : PtpS → PtpS) : (s.modPtp f).tpt = s.tpt := rfl
@[simp] theorem State.modPtp_lsw (s : State) (f : PtpS → PtpS) : (s.modPtp f).lsw = s.lsw := rfl
@[simp] theorem State.modPtp_saf (s : State) (f : PtpS → PtpS) : (s.modPtp f).saf = s.saf := rfl
@[simp] theorem State.modPtp_host (s : State) (f : PtpS → PtpS) : (s.modPtp f).host = s.host := rfl
@[simp] theorem State.modPtp_ques (s : State) (f : PtpS → PtpS) : (s.modPtp f).ques = s.ques := rfl
@[simp] theorem State.modPtp_fab (s : State) (f : PtpS → PtpS) : (s.modPtp f).fab = { s.fab with ptp := f s.fab.ptp } := rfl
@[simp] theorem State.modPtp_mtl (s : State) (f : PtpS → PtpS) : (s.modPtp f).mtl = s.mtl := rfl
@[simp] theorem State.modPtp_key (s : State) (f : PtpS → PtpS) : (s.modPtp f).key = s.key := rfl
@[simp] theorem State.modPtp_ldp (s : State) (f : PtpS → PtpS) : (s.modPtp f).ldp = s.ldp := rfl
@[simp] theorem State.modPtp_upd (s : State) (f : PtpS → PtpS) : (s.modPtp f).upd = s.upd := rfl
@[simp] theorem State.modPtp_out (s : State) (f : PtpS → PtpS) : (s.modPtp f).out = s.out := rfl
@[simp] theorem State.modPtp_free (s : State) (f : PtpS → PtpS) : (s.modPtp f).free = s.free := rfl
@[simp] theorem State.modPtp_reg (s : State) (f : PtpS → PtpS) (o : Nat) : (s.modPtp f).reg o = s.reg o := rfl
@[simp] theorem State.modPtp_get (s : State) (f : PtpS → PtpS) (g : Fld) : (s.modPtp f).get g = s.get g := rfl
@[simp] theorem State.modPtp_running (s : State) (f : PtpS → PtpS) (i : Isl) : (s.modPtp f).running i = s.running i := rfl

/-! ### modTone -/

@[simp] theorem State.modTone_pending (s : State) (f : MtlS → MtlS) : (s.modTone f).pending = s.pending := rfl
@[simp] theorem State.modTone_regs (s : State) (f : MtlS → MtlS) : (s.modTone f).regs = s.regs := rfl
@[simp] theorem State.modTone_mem (s : State) (f : MtlS → MtlS) : (s.modTone f).mem = s.mem := rfl
@[simp] theorem State.modTone_time (s : State) (f : MtlS → MtlS) : (s.modTone f).time = s.time := rfl
@[simp] theorem State.modTone_isl (s : State) (f : MtlS → MtlS) : (s.modTone f).isl = s.isl := rfl
@[simp] theorem State.modTone_met (s : State) (f : MtlS → MtlS) : (s.modTone f).met = s.met := rfl
@[simp] theorem State.modTone_vot (s : State) (f : MtlS → MtlS) : (s.modTone f).vot = s.vot := rfl
@[simp] theorem State.modTone_bil (s : State) (f : MtlS → MtlS) : (s.modTone f).bil = s.bil := rfl
@[simp] theorem State.modTone_tpt (s : State) (f : MtlS → MtlS) : (s.modTone f).tpt = s.tpt := rfl
@[simp] theorem State.modTone_lsw (s : State) (f : MtlS → MtlS) : (s.modTone f).lsw = s.lsw := rfl
@[simp] theorem State.modTone_saf (s : State) (f : MtlS → MtlS) : (s.modTone f).saf = s.saf := rfl
@[simp] theorem State.modTone_host (s : State) (f : MtlS → MtlS) : (s.modTone f).host = s.host := rfl
@[simp] theorem State.modTone_ques (s : State) (f : MtlS → MtlS) : (s.modTone f).ques = s.ques := rfl
@[simp] theorem State.modTone_fab (s : State) (f : MtlS → MtlS) : (s.modTone f).fab = s.fab := rfl
@[simp] theorem State.modTone_mtl (s : State) (f : MtlS → MtlS) : (s.modTone f).mtl = f s.mtl := rfl
@[simp] theorem State.modTone_key (s : State) (f : MtlS → MtlS) : (s.modTone f).key = s.key := rfl
@[simp] theorem State.modTone_ldp (s : State) (f : MtlS → MtlS) : (s.modTone f).ldp = s.ldp := rfl
@[simp] theorem State.modTone_upd (s : State) (f : MtlS → MtlS) : (s.modTone f).upd = s.upd := rfl
@[simp] theorem State.modTone_out (s : State) (f : MtlS → MtlS) : (s.modTone f).out = s.out := rfl
@[simp] theorem State.modTone_free (s : State) (f : MtlS → MtlS) : (s.modTone f).free = s.free := rfl
@[simp] theorem State.modTone_reg (s : State) (f : MtlS → MtlS) (o : Nat) : (s.modTone f).reg o = s.reg o := rfl
@[simp] theorem State.modTone_get (s : State) (f : MtlS → MtlS) (g : Fld) : (s.modTone f).get g = s.get g := rfl
@[simp] theorem State.modTone_running (s : State) (f : MtlS → MtlS) (i : Isl) : (s.modTone f).running i = s.running i := rfl

/-! ### modEntry -/

@[simp] theorem State.modEntry_pending (s : State) (j : Fin 32) (f : MtlNb → MtlNb) : (s.modEntry j f).pending = s.pending := rfl
@[simp] theorem State.modEntry_regs (s : State) (j : Fin 32) (f : MtlNb → MtlNb) : (s.modEntry j f).regs = s.regs := rfl
@[simp] theorem State.modEntry_mem (s : State) (j : Fin 32) (f : MtlNb → MtlNb) : (s.modEntry j f).mem = s.mem := rfl
@[simp] theorem State.modEntry_time (s : State) (j : Fin 32) (f : MtlNb → MtlNb) : (s.modEntry j f).time = s.time := rfl
@[simp] theorem State.modEntry_isl (s : State) (j : Fin 32) (f : MtlNb → MtlNb) : (s.modEntry j f).isl = s.isl := rfl
@[simp] theorem State.modEntry_met (s : State) (j : Fin 32) (f : MtlNb → MtlNb) : (s.modEntry j f).met = s.met := rfl
@[simp] theorem State.modEntry_vot (s : State) (j : Fin 32) (f : MtlNb → MtlNb) : (s.modEntry j f).vot = s.vot := rfl
@[simp] theorem State.modEntry_bil (s : State) (j : Fin 32) (f : MtlNb → MtlNb) : (s.modEntry j f).bil = s.bil := rfl
@[simp] theorem State.modEntry_tpt (s : State) (j : Fin 32) (f : MtlNb → MtlNb) : (s.modEntry j f).tpt = s.tpt := rfl
@[simp] theorem State.modEntry_lsw (s : State) (j : Fin 32) (f : MtlNb → MtlNb) : (s.modEntry j f).lsw = s.lsw := rfl
@[simp] theorem State.modEntry_saf (s : State) (j : Fin 32) (f : MtlNb → MtlNb) : (s.modEntry j f).saf = s.saf := rfl
@[simp] theorem State.modEntry_host (s : State) (j : Fin 32) (f : MtlNb → MtlNb) : (s.modEntry j f).host = s.host := rfl
@[simp] theorem State.modEntry_ques (s : State) (j : Fin 32) (f : MtlNb → MtlNb) : (s.modEntry j f).ques = s.ques := rfl
@[simp] theorem State.modEntry_fab (s : State) (j : Fin 32) (f : MtlNb → MtlNb) : (s.modEntry j f).fab = s.fab := rfl
@[simp] theorem State.modEntry_mtl (s : State) (j : Fin 32) (f : MtlNb → MtlNb) : (s.modEntry j f).mtl = { s.mtl with nbs := s.mtl.nbs.set j (f s.mtl.nbs[j]) } := rfl
@[simp] theorem State.modEntry_key (s : State) (j : Fin 32) (f : MtlNb → MtlNb) : (s.modEntry j f).key = s.key := rfl
@[simp] theorem State.modEntry_ldp (s : State) (j : Fin 32) (f : MtlNb → MtlNb) : (s.modEntry j f).ldp = s.ldp := rfl
@[simp] theorem State.modEntry_upd (s : State) (j : Fin 32) (f : MtlNb → MtlNb) : (s.modEntry j f).upd = s.upd := rfl
@[simp] theorem State.modEntry_out (s : State) (j : Fin 32) (f : MtlNb → MtlNb) : (s.modEntry j f).out = s.out := rfl
@[simp] theorem State.modEntry_free (s : State) (j : Fin 32) (f : MtlNb → MtlNb) : (s.modEntry j f).free = s.free := rfl
@[simp] theorem State.modEntry_reg (s : State) (j : Fin 32) (f : MtlNb → MtlNb) (o : Nat) : (s.modEntry j f).reg o = s.reg o := rfl
@[simp] theorem State.modEntry_get (s : State) (j : Fin 32) (f : MtlNb → MtlNb) (g : Fld) : (s.modEntry j f).get g = s.get g := rfl
@[simp] theorem State.modEntry_running (s : State) (j : Fin 32) (f : MtlNb → MtlNb) (i : Isl) : (s.modEntry j f).running i = s.running i := rfl

/-! ### modUpd -/

@[simp] theorem State.modUpd_pending (s : State) (f : UpdS → UpdS) : (s.modUpd f).pending = s.pending := rfl
@[simp] theorem State.modUpd_regs (s : State) (f : UpdS → UpdS) : (s.modUpd f).regs = s.regs := rfl
@[simp] theorem State.modUpd_mem (s : State) (f : UpdS → UpdS) : (s.modUpd f).mem = s.mem := rfl
@[simp] theorem State.modUpd_time (s : State) (f : UpdS → UpdS) : (s.modUpd f).time = s.time := rfl
@[simp] theorem State.modUpd_isl (s : State) (f : UpdS → UpdS) : (s.modUpd f).isl = s.isl := rfl
@[simp] theorem State.modUpd_met (s : State) (f : UpdS → UpdS) : (s.modUpd f).met = s.met := rfl
@[simp] theorem State.modUpd_vot (s : State) (f : UpdS → UpdS) : (s.modUpd f).vot = s.vot := rfl
@[simp] theorem State.modUpd_bil (s : State) (f : UpdS → UpdS) : (s.modUpd f).bil = s.bil := rfl
@[simp] theorem State.modUpd_tpt (s : State) (f : UpdS → UpdS) : (s.modUpd f).tpt = s.tpt := rfl
@[simp] theorem State.modUpd_lsw (s : State) (f : UpdS → UpdS) : (s.modUpd f).lsw = s.lsw := rfl
@[simp] theorem State.modUpd_saf (s : State) (f : UpdS → UpdS) : (s.modUpd f).saf = s.saf := rfl
@[simp] theorem State.modUpd_host (s : State) (f : UpdS → UpdS) : (s.modUpd f).host = s.host := rfl
@[simp] theorem State.modUpd_ques (s : State) (f : UpdS → UpdS) : (s.modUpd f).ques = s.ques := rfl
@[simp] theorem State.modUpd_fab (s : State) (f : UpdS → UpdS) : (s.modUpd f).fab = s.fab := rfl
@[simp] theorem State.modUpd_mtl (s : State) (f : UpdS → UpdS) : (s.modUpd f).mtl = s.mtl := rfl
@[simp] theorem State.modUpd_key (s : State) (f : UpdS → UpdS) : (s.modUpd f).key = s.key := rfl
@[simp] theorem State.modUpd_ldp (s : State) (f : UpdS → UpdS) : (s.modUpd f).ldp = s.ldp := rfl
@[simp] theorem State.modUpd_upd (s : State) (f : UpdS → UpdS) : (s.modUpd f).upd = f s.upd := rfl
@[simp] theorem State.modUpd_out (s : State) (f : UpdS → UpdS) : (s.modUpd f).out = s.out := rfl
@[simp] theorem State.modUpd_free (s : State) (f : UpdS → UpdS) : (s.modUpd f).free = s.free := rfl
@[simp] theorem State.modUpd_reg (s : State) (f : UpdS → UpdS) (o : Nat) : (s.modUpd f).reg o = s.reg o := rfl
@[simp] theorem State.modUpd_get (s : State) (f : UpdS → UpdS) (g : Fld) : (s.modUpd f).get g = s.get g := rfl
@[simp] theorem State.modUpd_running (s : State) (f : UpdS → UpdS) (i : Isl) : (s.modUpd f).running i = s.running i := rfl

/-! ### fresh -/

@[simp] theorem State.fresh_pending (s : State) : s.fresh.2.pending = s.pending := rfl
@[simp] theorem State.fresh_regs (s : State) : s.fresh.2.regs = s.regs := rfl
@[simp] theorem State.fresh_mem (s : State) : s.fresh.2.mem = s.mem := rfl
@[simp] theorem State.fresh_time (s : State) : s.fresh.2.time = s.time := rfl
@[simp] theorem State.fresh_isl (s : State) : s.fresh.2.isl = s.isl := rfl
@[simp] theorem State.fresh_met (s : State) : s.fresh.2.met = s.met := rfl
@[simp] theorem State.fresh_vot (s : State) : s.fresh.2.vot = s.vot := rfl
@[simp] theorem State.fresh_bil (s : State) : s.fresh.2.bil = s.bil := rfl
@[simp] theorem State.fresh_tpt (s : State) : s.fresh.2.tpt = s.tpt := rfl
@[simp] theorem State.fresh_lsw (s : State) : s.fresh.2.lsw = s.lsw := rfl
@[simp] theorem State.fresh_saf (s : State) : s.fresh.2.saf = s.saf := rfl
@[simp] theorem State.fresh_host (s : State) : s.fresh.2.host = s.host := rfl
@[simp] theorem State.fresh_ques (s : State) : s.fresh.2.ques = s.ques := rfl
@[simp] theorem State.fresh_fab (s : State) : s.fresh.2.fab = s.fab := rfl
@[simp] theorem State.fresh_mtl (s : State) : s.fresh.2.mtl = s.mtl := rfl
@[simp] theorem State.fresh_key (s : State) : s.fresh.2.key = s.key := rfl
@[simp] theorem State.fresh_ldp (s : State) : s.fresh.2.ldp = s.ldp := rfl
@[simp] theorem State.fresh_upd (s : State) : s.fresh.2.upd = s.upd := rfl
@[simp] theorem State.fresh_out (s : State) : s.fresh.2.out = s.out := rfl
@[simp] theorem State.fresh_free (s : State) : s.fresh.2.free = s.free + 1 := rfl
@[simp] theorem State.fresh_value (s : State) : s.fresh.1 = s.free := rfl

/-! ### The queue replaced -/

@[simp] theorem State.reg_pending (s : State) (q : List Instr) (o : Nat) : ({ s with pending := q } : State).reg o = s.reg o := rfl
@[simp] theorem State.get_pending (s : State) (q : List Instr) (g : Fld) : ({ s with pending := q } : State).get g = s.get g := rfl

end Sys2Proof.Machine
end

