-- ==== Sys2Proof/Laws/Access.lean ====
section
/-! SUPPORT. What the shared gates of the commands do: a register access that R6 and R22 admit or refuse, a read row,
and a command of the host with its checks (R260). -/

namespace Sys2Proof.Machine

/-- A register of an island other than MG is served while its island runs. -/
theorem State.serves_of {s : State} {off : Nat} {i : Isl} (h : islAt off = i) (hm : i ≠ .mg) (hr : s.running i = true) :
    s.serves off = true := by
  unfold State.serves
  simp only [h]
  rw [if_neg hm]
  exact hr

/-- A register of the MG block is served while MG runs. -/
theorem State.serves_mg {s : State} {off : Nat} (h : islAt off = .mg) (hr : s.running .mg = true) : s.serves off = true := by
  unfold State.serves
  simp only [h, if_true]
  split
  · rw [show (s.islState .mg == 0) = true from hr, Bool.true_or]
  · rw [hr, Bool.true_or]

/-- An access that is admitted runs. -/
theorem State.guard_ok {s : State} {off : Nat} {body : State → State} (hi : s.running .hi = true) (h4 : off % 4 = 0)
    (ha : assigned off = true) (hs : s.serves off = true) : s.guard off 4 body = body s := by
  unfold State.guard
  rw [if_neg (by rw [hi]; decide), if_pos ⟨h4, rfl, ha, hs⟩]

/-- An access of another size than a word, off a word boundary, outside the register map, or to an island that does
not answer, is refused. -/
theorem State.guard_refused {s : State} {off size : Nat} {body : State → State} (hi : s.running .hi = true)
    (h : ¬ (off % 4 = 0 ∧ size = 4 ∧ assigned off = true ∧ s.serves off = true)) :
    s.guard off size body = s.accessError off := by
  unfold State.guard
  rw [if_neg (by rw [hi]; decide), if_neg h]

/-- While HI does not run nothing answers an access. -/
theorem State.guard_hiDown {s : State} {off size : Nat} {body : State → State} (hi : s.running .hi = false) :
    s.guard off size body = s := by
  unfold State.guard
  rw [if_pos hi]

/-- A read that is admitted gives the register's value and has its side effect. -/
theorem State.readRow_ok {s : State} {off : Nat} {side : State → State} (hi : s.running .hi = true) (h4 : off % 4 = 0)
    (ha : assigned off = true) (hs : s.serves off = true) :
    s.readRow off side = { side s with host := { (side s).host with readData := natLE 4 (s.reg off) } } := by
  unfold State.readRow
  rw [if_neg (by rw [hi]; decide), if_pos ⟨h4, ha, hs⟩]

/-- A command that passes its checks takes its own effect. -/
theorem State.command_ok {s : State} {d : Desc} {c : CmdSpec} {ranges : List (Nat × Bool)} {body : State → State}
    (h : s.admits d c ranges) : s.command d c ranges body = body s := by
  unfold State.command
  rw [show s.cmdFail d c c.priv.toList ranges = none from h]

/-- A command that fails a check answers with its status and does nothing else. -/
theorem State.command_fails {s : State} {d : Desc} {c : CmdSpec} {ranges : List (Nat × Bool)} {body : State → State}
    {st det : Nat} (h : s.cmdFail d c c.priv.toList ranges = some (st, det)) :
    s.command d c ranges body = s.complete d st det [] := by
  unfold State.command
  rw [h]

/-- The first failing check of a list whose checks all hold. -/
theorem firstFail_none {l : List (Bool × Nat × Nat)} (h : ∀ c ∈ l, c.1 = true) : firstFail l = none := by
  unfold firstFail
  rw [List.find?_eq_none.2 (fun c hc => by rw [h c hc]; decide)]

end Sys2Proof.Machine
end

