-- ==== Sys2Proof/Laws/Custody.lean ====
section
/-! SUPPORT. Custody: an entry of the legal log extends the chain (R167), and a credit keeps a block's total equal to
the sum of its rate registers (R143, R145, R166). -/

namespace Sys2Proof.Machine

/-! ### The chain -/

theorem length_shaRound (v : List Word) (k : Nat) (w : Word) : (shaRound v k w).length = 8 := rfl

theorem length_foldl_shaRound : ∀ (l : List (Nat × Word)) (v : List Word), v.length = 8 →
    (l.foldl (fun v kw => shaRound v kw.1 kw.2) v).length = 8
  | [], _, h => h
  | x :: t, v, _ => length_foldl_shaRound t _ (length_shaRound v x.1 x.2)

theorem length_shaBlock (h : List Word) (b : List Byte) (hh : h.length = 8) : (shaBlock h b).length = 8 := by
  unfold shaBlock
  simp only [List.length_map, List.length_zip, hh, length_foldl_shaRound _ h hh, min_self]

theorem length_shaBlocks : ∀ (n : Nat) (h : List Word) (l : List Byte), h.length = 8 → (shaBlocks n h l).length = 8
  | 0, _, _, hh => hh
  | n + 1, h, _, hh => length_shaBlocks n _ _ (length_shaBlock h _ hh)

@[simp] theorem length_sha256 (m : List Byte) : (sha256 m).length = 32 := by
  have e : ∀ (l : List Word), (l.flatMap (fun w => natBE 4 w.toNat)).length = 4 * l.length := by
    intro l
    induction l with
    | nil => rfl
    | cons x t ih => simp [List.flatMap_cons, ih]; omega
  unfold sha256
  rw [e, length_shaBlocks _ _ _ rfl]

@[simp] theorem length_chainValue (l : List (List Byte)) : (chainValue l).length = 16 := by
  cases l <;> simp [chainValue]

theorem State.logBytes_eq (s : State) (e : LogE) : ∃ a : List Byte, a.length = 48 ∧ s.logBytes e = a ++ chainValue s.bil.log := by
  refine ⟨natLE 2 e.type_ ++ natLE 1 e.src ++ natLE 1 e.point ++ natLE 1 e.sub ++ zeros 3 ++
    natLE 8 (e.q.getD s.resolved) ++ natLE 8 s.devTime ++ padTo 24 e.payload, by simp, ?_⟩
  unfold State.logBytes chainValue
  cases s.bil.log <;> rfl

/-- An entry written extends the chain. -/
theorem State.chained_logBytes (s : State) (e : LogE) (h : chainedLog s.bil.log = true) :
    chainedLog (s.logBytes e :: s.bil.log) = true := by
  obtain ⟨a, ha, he⟩ := s.logBytes_eq e
  have h1 : (s.logBytes e).length = 64 := by rw [he]; simp [ha]
  have h2 : slice (s.logBytes e) 48 16 = chainValue s.bil.log := by
    rw [he, slice, List.drop_append_of_le_length (by omega), List.drop_of_length_le (by omega), List.nil_append,
      List.take_of_length_le (by simp)]
  simp [chainedLog, h1, h2, h]

/-! ### Totals and rates -/

theorem foldl_add (l : List Dword) : ∀ (a : Dword), l.foldl (fun a r => a + r) a = a + l.foldl (fun a r => a + r) 0 := by
  induction l with
  | nil => intro a; simp
  | cons x t ih =>
    intro a
    rw [List.foldl_cons, List.foldl_cons, ih (a + x), ih (0 + x)]
    simp only [BitVec.ofNat_eq_ofNat, BitVec.zero_add]
    rw [BitVec.add_assoc]

theorem sum_set (l : List Dword) (i : Nat) (x : Dword) (h : i < l.length) :
    (l.set i (l[i] + x)).foldl (fun a r => a + r) 0 = l.foldl (fun a r => a + r) 0 + x := by
  induction l generalizing i with
  | nil => simp at h
  | cons y t ih =>
    cases i with
    | zero =>
      simp only [List.set_cons_zero, List.getElem_cons_zero, List.foldl_cons]
      rw [foldl_add t (0 + (y + x)), foldl_add t (0 + y)]
      simp only [BitVec.ofNat_eq_ofNat, BitVec.zero_add]
      rw [BitVec.add_assoc, BitVec.add_comm x, ← BitVec.add_assoc]
    | succ i =>
      simp only [List.set_cons_succ, List.getElem_cons_succ, List.foldl_cons]
      rw [foldl_add _ (0 + y), ih i (by simpa using h), foldl_add t (0 + y)]
      simp only [BitVec.ofNat_eq_ofNat, BitVec.zero_add, BitVec.add_assoc]

/-- A credit adds the same whole counts to the total and to one rate register. -/
theorem Block.credit_sums (b : Block) (a rate : Nat) (marked : Bool) (h : b.total = b.rateSum) :
    (b.credit a rate marked).total = (b.credit a rate marked).rateSum := by
  have key : ∀ c : Dword, b.total + c =
      (b.rates.set (Fin.ofNat 16 rate) (b.rates[Fin.ofNat 16 rate] + c)).toList.foldl (fun a r => a + r) 0 := by
    intro c
    have e : (b.rates.set (Fin.ofNat 16 rate) (b.rates[Fin.ofNat 16 rate] + c)).toList =
        b.rates.toList.set (Fin.ofNat 16 rate).val (b.rates.toList[(Fin.ofNat 16 rate).val]'(by simp [Nat.mod_lt]) + c) := by
      simp [Vector.toList_set]
    rw [e, sum_set, h, Block.rateSum]
  unfold Block.credit
  cases marked
  · exact key _
  · exact key _

end Sys2Proof.Machine
end

