-- ==== Sys2Proof/Laws/Memory.lean ====
section
/-! SUPPORT. Memory: every operation keeps the canonical form; a byte written reads back, every other byte reads as
before. -/

namespace Sys2Proof.Machine

/-- The canonical form as a property of all neighbours: addresses above a bound rise, no byte is blank. -/
def Mem.above : Nat → Mem → Prop
  | _, [] => True
  | n, (a, x) :: t => n ≤ a ∧ x ≠ memBlank ∧ Mem.above (a + 1) t

theorem Mem.above_mono {m n : Nat} (h : n ≤ m) : ∀ {l : Mem}, Mem.above m l → Mem.above n l
  | [], _ => trivial
  | (_, _) :: _, hl => ⟨h.trans hl.1, hl.2⟩

theorem Mem.wf_cons (a : Nat) (x : Byte) (t : Mem) :
    Mem.wf ((a, x) :: t) = true ↔ x ≠ memBlank ∧ Mem.wf t = true ∧ (∀ b y u, t = (b, y) :: u → a < b) := by
  cases t with
  | nil => simp [Mem.wf]
  | cons b u =>
    obtain ⟨b, y⟩ := b
    simp only [Mem.wf, Bool.and_eq_true, decide_eq_true_eq, bne_iff_ne, ne_eq]
    constructor
    · rintro ⟨⟨h1, h2⟩, h3⟩
      exact ⟨h2, h3, fun b' y' u' e => by injection e with e1; injection e1 with e2; omega⟩
    · rintro ⟨h1, h2, h3⟩
      exact ⟨⟨h3 b y u rfl, h1⟩, h2⟩

theorem Mem.above_of_wf : ∀ (l : Mem), Mem.wf l = true → Mem.above 0 l
  | [], _ => trivial
  | (a, x) :: t, h => by
    obtain ⟨hx, ht, hlt⟩ := (Mem.wf_cons a x t).1 h
    refine ⟨Nat.zero_le _, hx, ?_⟩
    have := Mem.above_of_wf t ht
    cases t with
    | nil => trivial
    | cons b u => exact ⟨hlt _ _ _ rfl, this.2⟩

theorem Mem.wf_of_above : ∀ (l : Mem) (n : Nat), Mem.above n l → Mem.wf l = true
  | [], _, _ => rfl
  | (a, x) :: t, n, h => by
    refine (Mem.wf_cons a x t).2 ⟨h.2.1, Mem.wf_of_above t _ h.2.2, ?_⟩
    rintro b y u rfl
    exact h.2.2.1

theorem Mem.wf_iff (l : Mem) : Mem.wf l = true ↔ Mem.above 0 l := ⟨Mem.above_of_wf l, Mem.wf_of_above l 0⟩

theorem memPut_above (v : Byte) (b : Nat) : ∀ (l : Mem) (n : Nat), n ≤ b → Mem.above n l → Mem.above n (memPut l b v)
  | [], n, hb, _ => by
    unfold memPut
    split
    · trivial
    · next hv => exact ⟨hb, hv, trivial⟩
  | (a, x) :: t, n, hb, h => by
    unfold memPut
    split
    · next hlt =>
      split
      · exact h
      · next hv => exact ⟨hb, hv, hlt, h.2⟩
    · split
      · next _ e =>
        split
        · exact Mem.above_mono (by have := h.1; omega) h.2.2
        · next hv => exact ⟨hb, hv, e ▸ h.2.2⟩
      · next h1 h2 => exact ⟨h.1, h.2.1, memPut_above v b t (a + 1) (by omega) h.2.2⟩

/-- Writing a byte keeps the canonical form. -/
theorem memPut_wf {m : Mem} (b : Nat) (v : Byte) (h : Mem.wf m = true) : Mem.wf (memPut m b v) = true :=
  Mem.wf_of_above _ 0 (memPut_above v b m 0 (Nat.zero_le _) (Mem.above_of_wf m h))

/-- Writing a byte string keeps the canonical form. -/
theorem memWrite_wf : ∀ (l : List Byte) {m : Mem} (a : Nat), Mem.wf m = true → Mem.wf (memWrite m a l) = true
  | [], _, _, h => h
  | b :: t, _, a, h => memWrite_wf t (a + 1) (memPut_wf a b h)

theorem Mem.above_filter (p : Nat × Byte → Bool) : ∀ (l : Mem) (n : Nat), Mem.above n l → Mem.above n (l.filter p)
  | [], _, _ => trivial
  | (a, x) :: t, n, h => by
    have ih := Mem.above_filter p t (a + 1) h.2.2
    rw [List.filter_cons]
    split
    · exact ⟨h.1, h.2.1, ih⟩
    · exact Mem.above_mono (by have := h.1; omega) ih

/-- Forgetting bytes keeps the canonical form. -/
theorem memFilter_wf (p : Nat × Byte → Bool) {m : Mem} (h : Mem.wf m = true) : Mem.wf (m.filter p) = true :=
  Mem.wf_of_above _ 0 (Mem.above_filter p m 0 (Mem.above_of_wf m h))

theorem memGet_of_above : ∀ (l : Mem) {n b : Nat}, Mem.above n l → b < n → memGet l b = memBlank
  | [], _, _, _, _ => rfl
  | (a, x) :: t, n, b, h, hb => by
    have ha := h.1
    rw [memGet, if_neg (by omega)]
    exact memGet_of_above t h.2.2 (by omega)

/-- A byte read after a byte is written, in a memory in canonical form. -/
theorem memGet_memPut (v : Byte) (b c : Nat) : ∀ (l : Mem) (n : Nat), Mem.above n l →
    memGet (memPut l b v) c = if c = b then v else memGet l c
  | [], _, _ => by
    unfold memPut
    by_cases hv : v = memBlank
    · simp [hv, memGet]
    · by_cases hc : c = b
      · subst hc; simp [hv, memGet]
      · have : ¬ b = c := fun e => hc e.symm
        simp [hv, memGet, hc, this]
  | (a, x) :: t, n, h => by
    unfold memPut
    by_cases h1 : b < a
    · rw [if_pos h1]
      by_cases hv : v = memBlank
      · rw [if_pos hv]
        by_cases hc : c = b
        · subst hc
          rw [if_pos rfl, hv, memGet, if_neg (by omega)]
          exact memGet_of_above t h.2.2 (by omega)
        · rw [if_neg hc]
      · rw [if_neg hv]
        by_cases hc : c = b
        · subst hc; simp [memGet]
        · have : ¬ b = c := fun e => hc e.symm
          rw [memGet, if_neg this, if_neg hc]
    · rw [if_neg h1]
      by_cases h2 : a = b
      · subst h2
        rw [if_pos rfl]
        by_cases hv : v = memBlank
        · rw [if_pos hv]
          by_cases hc : c = a
          · subst hc
            rw [if_pos rfl, hv]
            exact memGet_of_above t h.2.2 (by omega)
          · rw [if_neg hc, memGet, if_neg (fun e => hc e.symm)]
        · rw [if_neg hv]
          by_cases hc : c = a
          · subst hc; simp [memGet]
          · have : ¬ a = c := fun e => hc e.symm
            simp [memGet, hc, this]
      · rw [if_neg h2]
        have ih := memGet_memPut v b c t (a + 1) h.2.2
        by_cases hc : a = c
        · subst hc
          have : ¬ a = b := h2
          simp [memGet, this]
        · simp [memGet, hc, ih]

/-- A byte read after a byte string is written, in a memory in canonical form. -/
theorem memGet_memWrite (c : Nat) : ∀ (l : List Byte) (m : Mem) (a : Nat), Mem.wf m = true →
    memGet (memWrite m a l) c = if a ≤ c ∧ c < a + l.length then l.getD (c - a) 0 else memGet m c
  | [], m, a, _ => by
    rw [memWrite, if_neg (by simp)]
  | b :: t, m, a, h => by
    rw [memWrite, memGet_memWrite c t _ (a + 1) (memPut_wf a b h), memGet_memPut b a c m 0 (Mem.above_of_wf m h)]
    by_cases h1 : c = a
    · subst h1
      rw [if_neg (by omega), if_pos rfl, if_pos (by simp)]
      simp
    · by_cases h2 : a + 1 ≤ c ∧ c < a + 1 + t.length
      · have e : c - a = c - (a + 1) + 1 := by omega
        rw [if_pos h2, if_pos (by simp only [List.length_cons]; omega), e, List.getD_cons_succ]
      · rw [if_neg h2, if_neg h1, if_neg (by simp only [List.length_cons]; omega)]

/-- Bytes stored keep the canonical form. -/
theorem State.store_wf {s : State} (a : Nat) (l : List Byte) (h : Mem.wf s.mem = true) :
    Mem.wf (s.store a l).mem = true := memWrite_wf l a h

end Sys2Proof.Machine
end

