-- ==== Sys2Proof/Laws/Rows.lean ====
section
/-! SUPPORT. Where the registers stand in the rows of the register table (`rowOf`): one lemma per register, as a bit
mask of its rows, with the fact that it is not HI_STATUS (whose PORT field says which port the host uses). -/

namespace Sys2Proof.Machine

theorem in_MG_RESET_CAUSE : (0x1 : Nat).testBit (rowOf R.MG_RESET_CAUSE) = true ∧ R.MG_RESET_CAUSE ≠ R.HI_STATUS := by decide
theorem in_MG_RESET_CNT : (0x2 : Nat).testBit (rowOf R.MG_RESET_CNT) = true ∧ R.MG_RESET_CNT ≠ R.HI_STATUS := by decide
theorem in_MG_BOOT_STATUS : (0x4 : Nat).testBit (rowOf R.MG_BOOT_STATUS) = true ∧ R.MG_BOOT_STATUS ≠ R.HI_STATUS := by decide
theorem in_MG_PART : (0x8 : Nat).testBit (rowOf R.MG_PART) = true ∧ R.MG_PART ≠ R.HI_STATUS := by decide
theorem in_MG_TEMP : (0x10 : Nat).testBit (rowOf R.MG_TEMP) = true ∧ R.MG_TEMP ≠ R.HI_STATUS := by decide
theorem in_MG_ISLAND_STATE : (0x20 : Nat).testBit (rowOf R.MG_ISLAND_STATE) = true ∧ R.MG_ISLAND_STATE ≠ R.HI_STATUS := by decide
theorem in_MG_ISLAND_FAULT : (0x40 : Nat).testBit (rowOf R.MG_ISLAND_FAULT) = true ∧ R.MG_ISLAND_FAULT ≠ R.HI_STATUS := by decide
theorem in_MG_CLKMON_STATUS : (0x80 : Nat).testBit (rowOf R.MG_CLKMON_STATUS) = true ∧ R.MG_CLKMON_STATUS ≠ R.HI_STATUS := by decide
theorem in_MG_WDT_STATUS : (0x100 : Nat).testBit (rowOf R.MG_WDT_STATUS) = true ∧ R.MG_WDT_STATUS ≠ R.HI_STATUS := by decide
theorem in_MG_XING_STALL : (0x200 : Nat).testBit (rowOf R.MG_XING_STALL) = true ∧ R.MG_XING_STALL ≠ R.HI_STATUS := by decide
theorem in_MG_ECC_COUNT : (0x400 : Nat).testBit (rowOf R.MG_ECC_COUNT) = true ∧ R.MG_ECC_COUNT ≠ R.HI_STATUS := by decide
theorem in_MG_ECC_LAST : (0x800 : Nat).testBit (rowOf R.MG_ECC_LAST) = true ∧ R.MG_ECC_LAST ≠ R.HI_STATUS := by decide
theorem in_MG_SCRUB_CTRL : (0x1000 : Nat).testBit (rowOf R.MG_SCRUB_CTRL) = true ∧ R.MG_SCRUB_CTRL ≠ R.HI_STATUS := by decide
theorem in_MG_FAULT_LAST : (0x2000 : Nat).testBit (rowOf R.MG_FAULT_LAST) = true ∧ R.MG_FAULT_LAST ≠ R.HI_STATUS := by decide
theorem in_MG_I2C_CFG : (0x4000 : Nat).testBit (rowOf R.MG_I2C_CFG) = true ∧ R.MG_I2C_CFG ≠ R.HI_STATUS := by decide
theorem in_MG_I2C_STAT : (0x8000 : Nat).testBit (rowOf R.MG_I2C_STAT) = true ∧ R.MG_I2C_STAT ≠ R.HI_STATUS := by decide
theorem in_HI_ID : (0x10000 : Nat).testBit (rowOf R.HI_ID) = true ∧ R.HI_ID ≠ R.HI_STATUS := by decide
theorem in_HI_CTRL : (0x40000 : Nat).testBit (rowOf R.HI_CTRL) = true ∧ R.HI_CTRL ≠ R.HI_STATUS := by decide
theorem in_HI_RING_ERR : (0x80000 : Nat).testBit (rowOf R.HI_RING_ERR) = true ∧ R.HI_RING_ERR ≠ R.HI_STATUS := by decide
theorem in_HI_SQ_BASE_LO : ∀ n < 16, (0x100000 : Nat).testBit (rowOf (R.HI_SQ_BASE_LO n)) = true ∧ R.HI_SQ_BASE_LO n ≠ R.HI_STATUS := by decide
theorem in_HI_SQ_BASE_HI : ∀ n < 16, (0x200000 : Nat).testBit (rowOf (R.HI_SQ_BASE_HI n)) = true ∧ R.HI_SQ_BASE_HI n ≠ R.HI_STATUS := by decide
theorem in_HI_SQ_CFG : ∀ n < 16, (0x400000 : Nat).testBit (rowOf (R.HI_SQ_CFG n)) = true ∧ R.HI_SQ_CFG n ≠ R.HI_STATUS := by decide
theorem in_HI_SQ_STATUS : ∀ n < 16, (0x800000 : Nat).testBit (rowOf (R.HI_SQ_STATUS n)) = true ∧ R.HI_SQ_STATUS n ≠ R.HI_STATUS := by decide
theorem in_HI_CQ_BASE_LO : ∀ n < 16, (0x1000000 : Nat).testBit (rowOf (R.HI_CQ_BASE_LO n)) = true ∧ R.HI_CQ_BASE_LO n ≠ R.HI_STATUS := by decide
theorem in_HI_CQ_BASE_HI : ∀ n < 16, (0x2000000 : Nat).testBit (rowOf (R.HI_CQ_BASE_HI n)) = true ∧ R.HI_CQ_BASE_HI n ≠ R.HI_STATUS := by decide
theorem in_HI_CQ_CFG : ∀ n < 16, (0x4000000 : Nat).testBit (rowOf (R.HI_CQ_CFG n)) = true ∧ R.HI_CQ_CFG n ≠ R.HI_STATUS := by decide
theorem in_HI_CQ_STATUS : ∀ n < 16, (0x8000000 : Nat).testBit (rowOf (R.HI_CQ_STATUS n)) = true ∧ R.HI_CQ_STATUS n ≠ R.HI_STATUS := by decide
theorem in_HI_EQ_BASE_LO : ∀ n < 4, (0x10000000 : Nat).testBit (rowOf (R.HI_EQ_BASE_LO n)) = true ∧ R.HI_EQ_BASE_LO n ≠ R.HI_STATUS := by decide
theorem in_HI_EQ_BASE_HI : ∀ n < 4, (0x20000000 : Nat).testBit (rowOf (R.HI_EQ_BASE_HI n)) = true ∧ R.HI_EQ_BASE_HI n ≠ R.HI_STATUS := by decide
theorem in_HI_EQ_CFG : ∀ n < 4, (0x40000000 : Nat).testBit (rowOf (R.HI_EQ_CFG n)) = true ∧ R.HI_EQ_CFG n ≠ R.HI_STATUS := by decide
theorem in_HI_EQ_STATUS : ∀ n < 4, (0x80000000 : Nat).testBit (rowOf (R.HI_EQ_STATUS n)) = true ∧ R.HI_EQ_STATUS n ≠ R.HI_STATUS := by decide
theorem in_HI_EV_MASK : ∀ n < 8, (0x100000000 : Nat).testBit (rowOf (R.HI_EV_MASK n)) = true ∧ R.HI_EV_MASK n ≠ R.HI_STATUS := by decide
theorem in_HI_EV_ROUTE : ∀ n < 16, (0x200000000 : Nat).testBit (rowOf (R.HI_EV_ROUTE n)) = true ∧ R.HI_EV_ROUTE n ≠ R.HI_STATUS := by decide
theorem in_HI_DP_ADDR_LO : (0x400000000 : Nat).testBit (rowOf R.HI_DP_ADDR_LO) = true ∧ R.HI_DP_ADDR_LO ≠ R.HI_STATUS := by decide
theorem in_HI_DP_ADDR_HI : (0x800000000 : Nat).testBit (rowOf R.HI_DP_ADDR_HI) = true ∧ R.HI_DP_ADDR_HI ≠ R.HI_STATUS := by decide
theorem in_HI_DP_CTRL : (0x1000000000 : Nat).testBit (rowOf R.HI_DP_CTRL) = true ∧ R.HI_DP_CTRL ≠ R.HI_STATUS := by decide
theorem in_HI_DP_STRIDE : (0x2000000000 : Nat).testBit (rowOf R.HI_DP_STRIDE) = true ∧ R.HI_DP_STRIDE ≠ R.HI_STATUS := by decide
theorem in_HI_SPI_WIN : (0x4000000000 : Nat).testBit (rowOf R.HI_SPI_WIN) = true ∧ R.HI_SPI_WIN ≠ R.HI_STATUS := by decide
theorem in_HI_IRQ_PEND_LO : (0x8000000000 : Nat).testBit (rowOf R.HI_IRQ_PEND_LO) = true ∧ R.HI_IRQ_PEND_LO ≠ R.HI_STATUS := by decide
theorem in_HI_IRQ_PEND_HI : (0x10000000000 : Nat).testBit (rowOf R.HI_IRQ_PEND_HI) = true ∧ R.HI_IRQ_PEND_HI ≠ R.HI_STATUS := by decide
theorem in_HI_DB_SQ : ∀ n < 16, (0x20000000000 : Nat).testBit (rowOf (R.HI_DB_SQ n)) = true ∧ R.HI_DB_SQ n ≠ R.HI_STATUS := by decide
theorem in_HI_DB_CQ : ∀ n < 16, (0x40000000000 : Nat).testBit (rowOf (R.HI_DB_CQ n)) = true ∧ R.HI_DB_CQ n ≠ R.HI_STATUS := by decide
theorem in_HI_DB_EQ : ∀ n < 4, (0x80000000000 : Nat).testBit (rowOf (R.HI_DB_EQ n)) = true ∧ R.HI_DB_EQ n ≠ R.HI_STATUS := by decide
theorem in_MET_STATUS : (0x100000000000 : Nat).testBit (rowOf R.MET_STATUS) = true ∧ R.MET_STATUS ≠ R.HI_STATUS := by decide
theorem in_MET_CAL_ID : (0x200000000000 : Nat).testBit (rowOf R.MET_CAL_ID) = true ∧ R.MET_CAL_ID ≠ R.HI_STATUS := by decide
theorem in_MET_CAL_CRC : (0x400000000000 : Nat).testBit (rowOf R.MET_CAL_CRC) = true ∧ R.MET_CAL_CRC ≠ R.HI_STATUS := by decide
theorem in_MET_PFAIL_CFG : (0x800000000000 : Nat).testBit (rowOf R.MET_PFAIL_CFG) = true ∧ R.MET_PFAIL_CFG ≠ R.HI_STATUS := by decide
theorem in_MET_PFAIL_STATUS : (0x1000000000000 : Nat).testBit (rowOf R.MET_PFAIL_STATUS) = true ∧ R.MET_PFAIL_STATUS ≠ R.HI_STATUS := by decide
theorem in_MET_REFCHK : (0x2000000000000 : Nat).testBit (rowOf R.MET_REFCHK) = true ∧ R.MET_REFCHK ≠ R.HI_STATUS := by decide
theorem in_MET_STEST_CTRL : (0x4000000000000 : Nat).testBit (rowOf R.MET_STEST_CTRL) = true ∧ R.MET_STEST_CTRL ≠ R.HI_STATUS := by decide
theorem in_MET_STEST_RESULT : (0x8000000000000 : Nat).testBit (rowOf R.MET_STEST_RESULT) = true ∧ R.MET_STEST_RESULT ≠ R.HI_STATUS := by decide
theorem in_MET_INCFG : ∀ n < 24, (0x10000000000000 : Nat).testBit (rowOf (R.MET_INCFG n)) = true ∧ R.MET_INCFG n ≠ R.HI_STATUS := by decide
theorem in_MET_INSCALE : ∀ n < 24, (0x20000000000000 : Nat).testBit (rowOf (R.MET_INSCALE n)) = true ∧ R.MET_INSCALE n ≠ R.HI_STATUS := by decide
theorem in_MET_TPMAP_V : ∀ n < 8, (0x40000000000000 : Nat).testBit (rowOf (R.MET_TPMAP_V n)) = true ∧ R.MET_TPMAP_V n ≠ R.HI_STATUS := by decide
theorem in_MET_TPMAP_I : ∀ n < 8, (0x80000000000000 : Nat).testBit (rowOf (R.MET_TPMAP_I n)) = true ∧ R.MET_TPMAP_I n ≠ R.HI_STATUS := by decide
theorem in_MET_TPNOM : ∀ n < 8, (0x100000000000000 : Nat).testBit (rowOf (R.MET_TPNOM n)) = true ∧ R.MET_TPNOM n ≠ R.HI_STATUS := by decide
theorem in_MET_TPLIM : ∀ n < 8, (0x200000000000000 : Nat).testBit (rowOf (R.MET_TPLIM n)) = true ∧ R.MET_TPLIM n ≠ R.HI_STATUS := by decide
theorem in_MET_TPCOND : ∀ n < 8, (0x400000000000000 : Nat).testBit (rowOf (R.MET_TPCOND n)) = true ∧ R.MET_TPCOND n ≠ R.HI_STATUS := by decide
theorem in_MET_FL_CFG : ∀ n < 8, (0x800000000000000 : Nat).testBit (rowOf (R.MET_FL_CFG n)) = true ∧ R.MET_FL_CFG n ≠ R.HI_STATUS := by decide
theorem in_MET_FL_MAP : ∀ n < 8, (0x1000000000000000 : Nat).testBit (rowOf (R.MET_FL_MAP n)) = true ∧ R.MET_FL_MAP n ≠ R.HI_STATUS := by decide
theorem in_MET_FL_PARAM : ∀ n < 8, (0x2000000000000000 : Nat).testBit (rowOf (R.MET_FL_PARAM n)) = true ∧ R.MET_FL_PARAM n ≠ R.HI_STATUS := by decide
theorem in_MET_FL_LIM : ∀ n < 8, (0x4000000000000000 : Nat).testBit (rowOf (R.MET_FL_LIM n)) = true ∧ R.MET_FL_LIM n ≠ R.HI_STATUS := by decide
theorem in_MET_FL_EXP : ∀ n < 8, (0x8000000000000000 : Nat).testBit (rowOf (R.MET_FL_EXP n)) = true ∧ R.MET_FL_EXP n ≠ R.HI_STATUS := by decide
theorem in_MET_FL_BORE : ∀ n < 8, (0x10000000000000000 : Nat).testBit (rowOf (R.MET_FL_BORE n)) = true ∧ R.MET_FL_BORE n ≠ R.HI_STATUS := by decide
theorem in_MET_FL_PIPE : ∀ n < 8, (0x20000000000000000 : Nat).testBit (rowOf (R.MET_FL_PIPE n)) = true ∧ R.MET_FL_PIPE n ≠ R.HI_STATUS := by decide
theorem in_MET_FL_KFAC : ∀ n < 8, (0x40000000000000000 : Nat).testBit (rowOf (R.MET_FL_KFAC n)) = true ∧ R.MET_FL_KFAC n ≠ R.HI_STATUS := by decide
theorem in_MET_FL_QREF : ∀ n < 8, (0x80000000000000000 : Nat).testBit (rowOf (R.MET_FL_QREF n)) = true ∧ R.MET_FL_QREF n ≠ R.HI_STATUS := by decide
theorem in_MET_FL_PREF : ∀ n < 8, (0x100000000000000000 : Nat).testBit (rowOf (R.MET_FL_PREF n)) = true ∧ R.MET_FL_PREF n ≠ R.HI_STATUS := by decide
theorem in_MET_FL_TREF : ∀ n < 8, (0x200000000000000000 : Nat).testBit (rowOf (R.MET_FL_TREF n)) = true ∧ R.MET_FL_TREF n ≠ R.HI_STATUS := by decide
theorem in_MET_FL_HRET : ∀ n < 8, (0x400000000000000000 : Nat).testBit (rowOf (R.MET_FL_HRET n)) = true ∧ R.MET_FL_HRET n ≠ R.HI_STATUS := by decide
theorem in_MET_FL_SUB_P : ∀ n < 8, (0x800000000000000000 : Nat).testBit (rowOf (R.MET_FL_SUB_P n)) = true ∧ R.MET_FL_SUB_P n ≠ R.HI_STATUS := by decide
theorem in_MET_FL_SUB_T : ∀ n < 8, (0x1000000000000000000 : Nat).testBit (rowOf (R.MET_FL_SUB_T n)) = true ∧ R.MET_FL_SUB_T n ≠ R.HI_STATUS := by decide
theorem in_MET_FL_SUB_RH : ∀ n < 8, (0x2000000000000000000 : Nat).testBit (rowOf (R.MET_FL_SUB_RH n)) = true ∧ R.MET_FL_SUB_RH n ≠ R.HI_STATUS := by decide
theorem in_MET_FL_SUB_Q : ∀ n < 8, (0x4000000000000000000 : Nat).testBit (rowOf (R.MET_FL_SUB_Q n)) = true ∧ R.MET_FL_SUB_Q n ≠ R.HI_STATUS := by decide
theorem in_MET_FD_CFG : ∀ n < 4, (0x8000000000000000000 : Nat).testBit (rowOf (R.MET_FD_CFG n)) = true ∧ R.MET_FD_CFG n ≠ R.HI_STATUS := by decide
theorem in_MET_FD_ERR : ∀ n < 4, (0x10000000000000000000 : Nat).testBit (rowOf (R.MET_FD_ERR n)) = true ∧ R.MET_FD_ERR n ≠ R.HI_STATUS := by decide
theorem in_MET_MB_SRC : ∀ n < 16, (0x20000000000000000000 : Nat).testBit (rowOf (R.MET_MB_SRC n)) = true ∧ R.MET_MB_SRC n ≠ R.HI_STATUS := by decide
theorem in_MET_MB_FMT : ∀ n < 16, (0x40000000000000000000 : Nat).testBit (rowOf (R.MET_MB_FMT n)) = true ∧ R.MET_MB_FMT n ≠ R.HI_STATUS := by decide
theorem in_MET_MB_SCALE : ∀ n < 16, (0x80000000000000000000 : Nat).testBit (rowOf (R.MET_MB_SCALE n)) = true ∧ R.MET_MB_SCALE n ≠ R.HI_STATUS := by decide
theorem in_MET_MB_MIN : ∀ n < 16, (0x100000000000000000000 : Nat).testBit (rowOf (R.MET_MB_MIN n)) = true ∧ R.MET_MB_MIN n ≠ R.HI_STATUS := by decide
theorem in_MET_MB_MAX : ∀ n < 16, (0x200000000000000000000 : Nat).testBit (rowOf (R.MET_MB_MAX n)) = true ∧ R.MET_MB_MAX n ≠ R.HI_STATUS := by decide
theorem in_MET_MB_AGE : ∀ n < 16, (0x400000000000000000000 : Nat).testBit (rowOf (R.MET_MB_AGE n)) = true ∧ R.MET_MB_AGE n ≠ R.HI_STATUS := by decide
theorem in_MET_MB_EXPECT : ∀ n < 16, (0x800000000000000000000 : Nat).testBit (rowOf (R.MET_MB_EXPECT n)) = true ∧ R.MET_MB_EXPECT n ≠ R.HI_STATUS := by decide
theorem in_MET_MB_STAT : ∀ n < 16, (0x1000000000000000000000 : Nat).testBit (rowOf (R.MET_MB_STAT n)) = true ∧ R.MET_MB_STAT n ≠ R.HI_STATUS := by decide
theorem in_MET_FLSTAT : ∀ n < 8, (0x2000000000000000000000 : Nat).testBit (rowOf (R.MET_FLSTAT n)) = true ∧ R.MET_FLSTAT n ≠ R.HI_STATUS := by decide
theorem in_MET_PROV_SEQ : (0x4000000000000000000000 : Nat).testBit (rowOf R.MET_PROV_SEQ) = true ∧ R.MET_PROV_SEQ ≠ R.HI_STATUS := by decide
theorem in_MET_PROV_Q_LO : (0x8000000000000000000000 : Nat).testBit (rowOf R.MET_PROV_Q_LO) = true ∧ R.MET_PROV_Q_LO ≠ R.HI_STATUS := by decide
theorem in_MET_PROV_Q_HI : (0x10000000000000000000000 : Nat).testBit (rowOf R.MET_PROV_Q_HI) = true ∧ R.MET_PROV_Q_HI ≠ R.HI_STATUS := by decide
theorem in_MET_PROV_STATUS : (0x20000000000000000000000 : Nat).testBit (rowOf R.MET_PROV_STATUS) = true ∧ R.MET_PROV_STATUS ≠ R.HI_STATUS := by decide
theorem in_MET_PROV_PT_FLAGS : ∀ n < 8, (0x40000000000000000000000 : Nat).testBit (rowOf (R.MET_PROV_PT_FLAGS n)) = true ∧ R.MET_PROV_PT_FLAGS n ≠ R.HI_STATUS := by decide
theorem in_MET_PROV_PT_FLSTAT : ∀ n < 8, (0x80000000000000000000000 : Nat).testBit (rowOf (R.MET_PROV_PT_FLSTAT n)) = true ∧ R.MET_PROV_PT_FLSTAT n ≠ R.HI_STATUS := by decide
theorem in_MET_PROV_PT_SLOT_LO : ∀ n < 8, ∀ k < 4, (0xF00000000000000000000000 : Nat).testBit (rowOf (R.MET_PROV_PT_SLOT_LO n k)) = true ∧ R.MET_PROV_PT_SLOT_LO n k ≠ R.HI_STATUS := by decide
theorem in_MET_PROV_PT_SLOT_HI : ∀ n < 8, ∀ k < 4, (0xF000000000000000000000000 : Nat).testBit (rowOf (R.MET_PROV_PT_SLOT_HI n k)) = true ∧ R.MET_PROV_PT_SLOT_HI n k ≠ R.HI_STATUS := by decide
theorem in_MET_CH_TEMP : ∀ n < 3, (0x10000000000000000000000000 : Nat).testBit (rowOf (R.MET_CH_TEMP n)) = true ∧ R.MET_CH_TEMP n ≠ R.HI_STATUS := by decide
theorem in_MET_CH_LASTQ_LO : ∀ n < 3, (0x20000000000000000000000000 : Nat).testBit (rowOf (R.MET_CH_LASTQ_LO n)) = true ∧ R.MET_CH_LASTQ_LO n ≠ R.HI_STATUS := by decide
theorem in_MET_CH_LASTQ_HI : ∀ n < 3, (0x40000000000000000000000000 : Nat).testBit (rowOf (R.MET_CH_LASTQ_HI n)) = true ∧ R.MET_CH_LASTQ_HI n ≠ R.HI_STATUS := by decide
theorem in_MET_CH_LINKERR : ∀ n < 3, (0x80000000000000000000000000 : Nat).testBit (rowOf (R.MET_CH_LINKERR n)) = true ∧ R.MET_CH_LINKERR n ≠ R.HI_STATUS := by decide
theorem in_MET_CH_OVR : ∀ n < 3, (0x100000000000000000000000000 : Nat).testBit (rowOf (R.MET_CH_OVR n)) = true ∧ R.MET_CH_OVR n ≠ R.HI_STATUS := by decide
theorem in_MET_CH_REFDEV : ∀ n < 3, (0x200000000000000000000000000 : Nat).testBit (rowOf (R.MET_CH_REFDEV n)) = true ∧ R.MET_CH_REFDEV n ≠ R.HI_STATUS := by decide
theorem in_VOT_CTRL : (0x400000000000000000000000000 : Nat).testBit (rowOf R.VOT_CTRL) = true ∧ R.VOT_CTRL ≠ R.HI_STATUS := by decide
theorem in_VOT_STATUS : (0x800000000000000000000000000 : Nat).testBit (rowOf R.VOT_STATUS) = true ∧ R.VOT_STATUS ≠ R.HI_STATUS := by decide
theorem in_VOT_DISAG : (0x1000000000000000000000000000 : Nat).testBit (rowOf R.VOT_DISAG) = true ∧ R.VOT_DISAG ≠ R.HI_STATUS := by decide
theorem in_VOT_REVER : (0x2000000000000000000000000000 : Nat).testBit (rowOf R.VOT_REVER) = true ∧ R.VOT_REVER ≠ R.HI_STATUS := by decide
theorem in_VOT_REJOIN : (0x4000000000000000000000000000 : Nat).testBit (rowOf R.VOT_REJOIN) = true ∧ R.VOT_REJOIN ≠ R.HI_STATUS := by decide
theorem in_VOT_CONFQ_LO : (0x8000000000000000000000000000 : Nat).testBit (rowOf R.VOT_CONFQ_LO) = true ∧ R.VOT_CONFQ_LO ≠ R.HI_STATUS := by decide
theorem in_VOT_CONFQ_HI : (0x10000000000000000000000000000 : Nat).testBit (rowOf R.VOT_CONFQ_HI) = true ∧ R.VOT_CONFQ_HI ≠ R.HI_STATUS := by decide
theorem in_VOT_CNT_RETRACT : (0x20000000000000000000000000000 : Nat).testBit (rowOf R.VOT_CNT_RETRACT) = true ∧ R.VOT_CNT_RETRACT ≠ R.HI_STATUS := by decide
theorem in_VOT_CNT_HOLD : (0x40000000000000000000000000000 : Nat).testBit (rowOf R.VOT_CNT_HOLD) = true ∧ R.VOT_CNT_HOLD ≠ R.HI_STATUS := by decide
theorem in_VOT_TOL : ∀ n < 8, (0x80000000000000000000000000000 : Nat).testBit (rowOf (R.VOT_TOL n)) = true ∧ R.VOT_TOL n ≠ R.HI_STATUS := by decide
theorem in_VOT_CH_DEV : ∀ n < 3, (0x100000000000000000000000000000 : Nat).testBit (rowOf (R.VOT_CH_DEV n)) = true ∧ R.VOT_CH_DEV n ≠ R.HI_STATUS := by decide
theorem in_BIL_PERIOD_CFG : (0x200000000000000000000000000000 : Nat).testBit (rowOf R.BIL_PERIOD_CFG) = true ∧ R.BIL_PERIOD_CFG ≠ R.HI_STATUS := by decide
theorem in_BIL_TAR_ID : (0x400000000000000000000000000000 : Nat).testBit (rowOf R.BIL_TAR_ID) = true ∧ R.BIL_TAR_ID ≠ R.HI_STATUS := by decide
theorem in_BIL_RATE_NOW : (0x800000000000000000000000000000 : Nat).testBit (rowOf R.BIL_RATE_NOW) = true ∧ R.BIL_RATE_NOW ≠ R.HI_STATUS := by decide
theorem in_BIL_NEXT_BOUND_LO : (0x1000000000000000000000000000000 : Nat).testBit (rowOf R.BIL_NEXT_BOUND_LO) = true ∧ R.BIL_NEXT_BOUND_LO ≠ R.HI_STATUS := by decide
theorem in_BIL_NEXT_BOUND_HI : (0x2000000000000000000000000000000 : Nat).testBit (rowOf R.BIL_NEXT_BOUND_HI) = true ∧ R.BIL_NEXT_BOUND_HI ≠ R.HI_STATUS := by decide
theorem in_BIL_TIME_STATUS : (0x4000000000000000000000000000000 : Nat).testBit (rowOf R.BIL_TIME_STATUS) = true ∧ R.BIL_TIME_STATUS ≠ R.HI_STATUS := by decide
theorem in_BIL_TIME_CFG : (0x8000000000000000000000000000000 : Nat).testBit (rowOf R.BIL_TIME_CFG) = true ∧ R.BIL_TIME_CFG ≠ R.HI_STATUS := by decide
theorem in_BIL_LASTCLOSE_LO : (0x10000000000000000000000000000000 : Nat).testBit (rowOf R.BIL_LASTCLOSE_LO) = true ∧ R.BIL_LASTCLOSE_LO ≠ R.HI_STATUS := by decide
theorem in_BIL_LASTCLOSE_HI : (0x20000000000000000000000000000000 : Nat).testBit (rowOf R.BIL_LASTCLOSE_HI) = true ∧ R.BIL_LASTCLOSE_HI ≠ R.HI_STATUS := by decide
theorem in_BIL_PERIOD_NO : (0x40000000000000000000000000000000 : Nat).testBit (rowOf R.BIL_PERIOD_NO) = true ∧ R.BIL_PERIOD_NO ≠ R.HI_STATUS := by decide
theorem in_BIL_LOG_STATUS : (0x80000000000000000000000000000000 : Nat).testBit (rowOf R.BIL_LOG_STATUS) = true ∧ R.BIL_LOG_STATUS ≠ R.HI_STATUS := by decide
theorem in_BIL_RDG_SEQ_LO : (0x100000000000000000000000000000000 : Nat).testBit (rowOf R.BIL_RDG_SEQ_LO) = true ∧ R.BIL_RDG_SEQ_LO ≠ R.HI_STATUS := by decide
theorem in_BIL_RDG_SEQ_HI : (0x200000000000000000000000000000000 : Nat).testBit (rowOf R.BIL_RDG_SEQ_HI) = true ∧ R.BIL_RDG_SEQ_HI ≠ R.HI_STATUS := by decide
theorem in_BIL_SERVO_SUM : (0x400000000000000000000000000000000 : Nat).testBit (rowOf R.BIL_SERVO_SUM) = true ∧ R.BIL_SERVO_SUM ≠ R.HI_STATUS := by decide
theorem in_BIL_DEM_CFG : ∀ n < 8, (0x800000000000000000000000000000000 : Nat).testBit (rowOf (R.BIL_DEM_CFG n)) = true ∧ R.BIL_DEM_CFG n ≠ R.HI_STATUS := by decide
theorem in_BIL_DEM_LAST : ∀ n < 8, (0x1000000000000000000000000000000000 : Nat).testBit (rowOf (R.BIL_DEM_LAST n)) = true ∧ R.BIL_DEM_LAST n ≠ R.HI_STATUS := by decide
theorem in_BIL_DEM_STAT : ∀ n < 8, (0x2000000000000000000000000000000000 : Nat).testBit (rowOf (R.BIL_DEM_STAT n)) = true ∧ R.BIL_DEM_STAT n ≠ R.HI_STATUS := by decide
theorem in_TPT_CTAB_STATUS : (0x4000000000000000000000000000000000 : Nat).testBit (rowOf R.TPT_CTAB_STATUS) = true ∧ R.TPT_CTAB_STATUS ≠ R.HI_STATUS := by decide
theorem in_TPT_TYPE_SLOTS : (0x8000000000000000000000000000000000 : Nat).testBit (rowOf R.TPT_TYPE_SLOTS) = true ∧ R.TPT_TYPE_SLOTS ≠ R.HI_STATUS := by decide
theorem in_TPT_IM : ∀ n < 2, (0x10000000000000000000000000000000000 : Nat).testBit (rowOf (R.TPT_IM n)) = true ∧ R.TPT_IM n ≠ R.HI_STATUS := by decide
theorem in_TPT_STATE : ∀ n < 8, (0x20000000000000000000000000000000000 : Nat).testBit (rowOf (R.TPT_STATE n)) = true ∧ R.TPT_STATE n ≠ R.HI_STATUS := by decide
theorem in_TPT_SESSION : ∀ n < 8, (0x40000000000000000000000000000000000 : Nat).testBit (rowOf (R.TPT_SESSION n)) = true ∧ R.TPT_SESSION n ≠ R.HI_STATUS := by decide
theorem in_TPT_CFG : ∀ n < 8, (0x80000000000000000000000000000000000 : Nat).testBit (rowOf (R.TPT_CFG n)) = true ∧ R.TPT_CFG n ≠ R.HI_STATUS := by decide
theorem in_TPT_LINK : ∀ n < 8, (0x100000000000000000000000000000000000 : Nat).testBit (rowOf (R.TPT_LINK n)) = true ∧ R.TPT_LINK n ≠ R.HI_STATUS := by decide
theorem in_TPT_TIMES : ∀ n < 8, (0x200000000000000000000000000000000000 : Nat).testBit (rowOf (R.TPT_TIMES n)) = true ∧ R.TPT_TIMES n ≠ R.HI_STATUS := by decide
theorem in_TPT_LIMIT : ∀ n < 8, (0x400000000000000000000000000000000000 : Nat).testBit (rowOf (R.TPT_LIMIT n)) = true ∧ R.TPT_LIMIT n ≠ R.HI_STATUS := by decide
theorem in_TPT_LEAK : ∀ n < 8, (0x800000000000000000000000000000000000 : Nat).testBit (rowOf (R.TPT_LEAK n)) = true ∧ R.TPT_LEAK n ≠ R.HI_STATUS := by decide
theorem in_TPT_LEAK2 : ∀ n < 8, (0x1000000000000000000000000000000000000 : Nat).testBit (rowOf (R.TPT_LEAK2 n)) = true ∧ R.TPT_LEAK2 n ≠ R.HI_STATUS := by decide
theorem in_PTN_CAN_CFG : ∀ n < 2, (0x2000000000000000000000000000000000000 : Nat).testBit (rowOf (R.PTN_CAN_CFG n)) = true ∧ R.PTN_CAN_CFG n ≠ R.HI_STATUS := by decide
theorem in_PTN_MAC_CFG : ∀ n < 2, (0x4000000000000000000000000000000000000 : Nat).testBit (rowOf (R.PTN_MAC_CFG n)) = true ∧ R.PTN_MAC_CFG n ≠ R.HI_STATUS := by decide
theorem in_PTN_CP : ∀ n < 8, (0x8000000000000000000000000000000000000 : Nat).testBit (rowOf (R.PTN_CP n)) = true ∧ R.PTN_CP n ≠ R.HI_STATUS := by decide
theorem in_PTN_PP : ∀ n < 8, (0x10000000000000000000000000000000000000 : Nat).testBit (rowOf (R.PTN_PP n)) = true ∧ R.PTN_PP n ≠ R.HI_STATUS := by decide
theorem in_PTN_COUP : ∀ n < 8, (0x20000000000000000000000000000000000000 : Nat).testBit (rowOf (R.PTN_COUP n)) = true ∧ R.PTN_COUP n ≠ R.HI_STATUS := by decide
theorem in_PTN_ERR : ∀ n < 8, (0x40000000000000000000000000000000000000 : Nat).testBit (rowOf (R.PTN_ERR n)) = true ∧ R.PTN_ERR n ≠ R.HI_STATUS := by decide
theorem in_LSW_STATUS : (0x80000000000000000000000000000000000000 : Nat).testBit (rowOf R.LSW_STATUS) = true ∧ R.LSW_STATUS ≠ R.HI_STATUS := by decide
theorem in_LSW_THERM : (0x100000000000000000000000000000000000000 : Nat).testBit (rowOf R.LSW_THERM) = true ∧ R.LSW_THERM ≠ R.HI_STATUS := by decide
theorem in_LSW_AGG : (0x200000000000000000000000000000000000000 : Nat).testBit (rowOf R.LSW_AGG) = true ∧ R.LSW_AGG ≠ R.HI_STATUS := by decide
theorem in_LSW_CMD : (0x400000000000000000000000000000000000000 : Nat).testBit (rowOf R.LSW_CMD) = true ∧ R.LSW_CMD ≠ R.HI_STATUS := by decide
theorem in_LSW_LATCH : (0x800000000000000000000000000000000000000 : Nat).testBit (rowOf R.LSW_LATCH) = true ∧ R.LSW_LATCH ≠ R.HI_STATUS := by decide
theorem in_LSW_PWM_PER : ∀ n < 8, (0x1000000000000000000000000000000000000000 : Nat).testBit (rowOf (R.LSW_PWM_PER n)) = true ∧ R.LSW_PWM_PER n ≠ R.HI_STATUS := by decide
theorem in_LSW_PWM_DUTY : ∀ n < 8, (0x2000000000000000000000000000000000000000 : Nat).testBit (rowOf (R.LSW_PWM_DUTY n)) = true ∧ R.LSW_PWM_DUTY n ≠ R.HI_STATUS := by decide
theorem in_LSW_CH_CFG : ∀ n < 16, (0x4000000000000000000000000000000000000000 : Nat).testBit (rowOf (R.LSW_CH_CFG n)) = true ∧ R.LSW_CH_CFG n ≠ R.HI_STATUS := by decide
theorem in_LSW_CH_LIM : ∀ n < 16, (0x8000000000000000000000000000000000000000 : Nat).testBit (rowOf (R.LSW_CH_LIM n)) = true ∧ R.LSW_CH_LIM n ≠ R.HI_STATUS := by decide
theorem in_LSW_CH_STAT : ∀ n < 16, (0x10000000000000000000000000000000000000000 : Nat).testBit (rowOf (R.LSW_CH_STAT n)) = true ∧ R.LSW_CH_STAT n ≠ R.HI_STATUS := by decide
theorem in_LSW_CH_CNT : ∀ n < 16, (0x20000000000000000000000000000000000000000 : Nat).testBit (rowOf (R.LSW_CH_CNT n)) = true ∧ R.LSW_CH_CNT n ≠ R.HI_STATUS := by decide
theorem in_SAF_STATUS : (0x40000000000000000000000000000000000000000 : Nat).testBit (rowOf R.SAF_STATUS) = true ∧ R.SAF_STATUS ≠ R.HI_STATUS := by decide
theorem in_SAF_CFG_CRC : (0x80000000000000000000000000000000000000000 : Nat).testBit (rowOf R.SAF_CFG_CRC) = true ∧ R.SAF_CFG_CRC ≠ R.HI_STATUS := by decide
theorem in_SAF_IN : (0x100000000000000000000000000000000000000000 : Nat).testBit (rowOf R.SAF_IN) = true ∧ R.SAF_IN ≠ R.HI_STATUS := by decide
theorem in_SAF_OUT : (0x200000000000000000000000000000000000000000 : Nat).testBit (rowOf R.SAF_OUT) = true ∧ R.SAF_OUT ≠ R.HI_STATUS := by decide
theorem in_SAF_FAULT : (0x400000000000000000000000000000000000000000 : Nat).testBit (rowOf R.SAF_FAULT) = true ∧ R.SAF_FAULT ≠ R.HI_STATUS := by decide
theorem in_SAF_TWOHAND : (0x800000000000000000000000000000000000000000 : Nat).testBit (rowOf R.SAF_TWOHAND) = true ∧ R.SAF_TWOHAND ≠ R.HI_STATUS := by decide
theorem in_SAF_RESET_REQ : (0x1000000000000000000000000000000000000000000 : Nat).testBit (rowOf R.SAF_RESET_REQ) = true ∧ R.SAF_RESET_REQ ≠ R.HI_STATUS := by decide
theorem in_SAF_FUNC : ∀ n < 6, (0x2000000000000000000000000000000000000000000 : Nat).testBit (rowOf (R.SAF_FUNC n)) = true ∧ R.SAF_FUNC n ≠ R.HI_STATUS := by decide
theorem in_SAF_FUNC_MASK : ∀ n < 6, (0x4000000000000000000000000000000000000000000 : Nat).testBit (rowOf (R.SAF_FUNC_MASK n)) = true ∧ R.SAF_FUNC_MASK n ≠ R.HI_STATUS := by decide
theorem in_MTL_CFG : (0x8000000000000000000000000000000000000000000 : Nat).testBit (rowOf R.MTL_CFG) = true ∧ R.MTL_CFG ≠ R.HI_STATUS := by decide
theorem in_MTL_TX : (0x10000000000000000000000000000000000000000000 : Nat).testBit (rowOf R.MTL_TX) = true ∧ R.MTL_TX ≠ R.HI_STATUS := by decide
theorem in_MTL_TIMING : (0x20000000000000000000000000000000000000000000 : Nat).testBit (rowOf R.MTL_TIMING) = true ∧ R.MTL_TIMING ≠ R.HI_STATUS := by decide
theorem in_MTL_STATUS : (0x40000000000000000000000000000000000000000000 : Nat).testBit (rowOf R.MTL_STATUS) = true ∧ R.MTL_STATUS ≠ R.HI_STATUS := by decide
theorem in_MTL_ADVSET : (0x80000000000000000000000000000000000000000000 : Nat).testBit (rowOf R.MTL_ADVSET) = true ∧ R.MTL_ADVSET ≠ R.HI_STATUS := by decide
theorem in_MTL_CNT_TX : (0x100000000000000000000000000000000000000000000 : Nat).testBit (rowOf R.MTL_CNT_TX) = true ∧ R.MTL_CNT_TX ≠ R.HI_STATUS := by decide
theorem in_MTL_CNT_RX : (0x200000000000000000000000000000000000000000000 : Nat).testBit (rowOf R.MTL_CNT_RX) = true ∧ R.MTL_CNT_RX ≠ R.HI_STATUS := by decide
theorem in_MTL_CNT_ARQ : (0x400000000000000000000000000000000000000000000 : Nat).testBit (rowOf R.MTL_CNT_ARQ) = true ∧ R.MTL_CNT_ARQ ≠ R.HI_STATUS := by decide
theorem in_MTL_CNT_ERAS : (0x800000000000000000000000000000000000000000000 : Nat).testBit (rowOf R.MTL_CNT_ERAS) = true ∧ R.MTL_CNT_ERAS ≠ R.HI_STATUS := by decide
theorem in_MTL_NB_ID : ∀ n < 32, (0x1000000000000000000000000000000000000000000000 : Nat).testBit (rowOf (R.MTL_NB_ID n)) = true ∧ R.MTL_NB_ID n ≠ R.HI_STATUS := by decide
theorem in_MTL_NB_LINK : ∀ n < 32, (0x2000000000000000000000000000000000000000000000 : Nat).testBit (rowOf (R.MTL_NB_LINK n)) = true ∧ R.MTL_NB_LINK n ≠ R.HI_STATUS := by decide
theorem in_MTL_NB_AGE : ∀ n < 32, (0x4000000000000000000000000000000000000000000000 : Nat).testBit (rowOf (R.MTL_NB_AGE n)) = true ∧ R.MTL_NB_AGE n ≠ R.HI_STATUS := by decide
theorem in_MTL_NB_CNT : ∀ n < 32, (0x8000000000000000000000000000000000000000000000 : Nat).testBit (rowOf (R.MTL_NB_CNT n)) = true ∧ R.MTL_NB_CNT n ≠ R.HI_STATUS := by decide
theorem in_FAB_STATUS : (0x10000000000000000000000000000000000000000000000 : Nat).testBit (rowOf R.FAB_STATUS) = true ∧ R.FAB_STATUS ≠ R.HI_STATUS := by decide
theorem in_FAB_ID_CFG : (0x20000000000000000000000000000000000000000000000 : Nat).testBit (rowOf R.FAB_ID_CFG) = true ∧ R.FAB_ID_CFG ≠ R.HI_STATUS := by decide
theorem in_FAB_ADDR_CFG : (0x40000000000000000000000000000000000000000000000 : Nat).testBit (rowOf R.FAB_ADDR_CFG) = true ∧ R.FAB_ADDR_CFG ≠ R.HI_STATUS := by decide
theorem in_FAB_COLL_CFG : (0x80000000000000000000000000000000000000000000000 : Nat).testBit (rowOf R.FAB_COLL_CFG) = true ∧ R.FAB_COLL_CFG ≠ R.HI_STATUS := by decide
theorem in_FAB_REP_CFG : (0x100000000000000000000000000000000000000000000000 : Nat).testBit (rowOf R.FAB_REP_CFG) = true ∧ R.FAB_REP_CFG ≠ R.HI_STATUS := by decide
theorem in_FAB_KEY_CFG : (0x200000000000000000000000000000000000000000000000 : Nat).testBit (rowOf R.FAB_KEY_CFG) = true ∧ R.FAB_KEY_CFG ≠ R.HI_STATUS := by decide
theorem in_FAB_QUAR_CFG : (0x400000000000000000000000000000000000000000000000 : Nat).testBit (rowOf R.FAB_QUAR_CFG) = true ∧ R.FAB_QUAR_CFG ≠ R.HI_STATUS := by decide
theorem in_FAB_CMD_PRIV : (0x800000000000000000000000000000000000000000000000 : Nat).testBit (rowOf R.FAB_CMD_PRIV) = true ∧ R.FAB_CMD_PRIV ≠ R.HI_STATUS := by decide
theorem in_FAB_PTP_CFG : (0x1000000000000000000000000000000000000000000000000 : Nat).testBit (rowOf R.FAB_PTP_CFG) = true ∧ R.FAB_PTP_CFG ≠ R.HI_STATUS := by decide
theorem in_FAB_PTP_STATUS : (0x2000000000000000000000000000000000000000000000000 : Nat).testBit (rowOf R.FAB_PTP_STATUS) = true ∧ R.FAB_PTP_STATUS ≠ R.HI_STATUS := by decide
theorem in_FAB_PTP_OFFSET : (0x4000000000000000000000000000000000000000000000000 : Nat).testBit (rowOf R.FAB_PTP_OFFSET) = true ∧ R.FAB_PTP_OFFSET ≠ R.HI_STATUS := by decide
theorem in_FAB_KEY_EPOCH : (0x8000000000000000000000000000000000000000000000000 : Nat).testBit (rowOf R.FAB_KEY_EPOCH) = true ∧ R.FAB_KEY_EPOCH ≠ R.HI_STATUS := by decide
theorem in_FAB_PAIR_CFG : (0x10000000000000000000000000000000000000000000000000 : Nat).testBit (rowOf R.FAB_PAIR_CFG) = true ∧ R.FAB_PAIR_CFG ≠ R.HI_STATUS := by decide
theorem in_FAB_PAIR_STATUS : (0x20000000000000000000000000000000000000000000000000 : Nat).testBit (rowOf R.FAB_PAIR_STATUS) = true ∧ R.FAB_PAIR_STATUS ≠ R.HI_STATUS := by decide
theorem in_FAB_NODES : (0x40000000000000000000000000000000000000000000000000 : Nat).testBit (rowOf R.FAB_NODES) = true ∧ R.FAB_NODES ≠ R.HI_STATUS := by decide
theorem in_FAB_DUP_STATUS : (0x80000000000000000000000000000000000000000000000000 : Nat).testBit (rowOf R.FAB_DUP_STATUS) = true ∧ R.FAB_DUP_STATUS ≠ R.HI_STATUS := by decide
theorem in_FAB_REP_SEQ : (0x100000000000000000000000000000000000000000000000000 : Nat).testBit (rowOf R.FAB_REP_SEQ) = true ∧ R.FAB_REP_SEQ ≠ R.HI_STATUS := by decide
theorem in_FAB_DROPS : (0x200000000000000000000000000000000000000000000000000 : Nat).testBit (rowOf R.FAB_DROPS) = true ∧ R.FAB_DROPS ≠ R.HI_STATUS := by decide
theorem in_FAB_PORT_CFG : ∀ n < 4, (0x400000000000000000000000000000000000000000000000000 : Nat).testBit (rowOf (R.FAB_PORT_CFG n)) = true ∧ R.FAB_PORT_CFG n ≠ R.HI_STATUS := by decide
theorem in_FAB_PORT_STATUS : ∀ n < 4, (0x800000000000000000000000000000000000000000000000000 : Nat).testBit (rowOf (R.FAB_PORT_STATUS n)) = true ∧ R.FAB_PORT_STATUS n ≠ R.HI_STATUS := by decide
theorem in_FAB_PORT_ERR : ∀ n < 4, (0x1000000000000000000000000000000000000000000000000000 : Nat).testBit (rowOf (R.FAB_PORT_ERR n)) = true ∧ R.FAB_PORT_ERR n ≠ R.HI_STATUS := by decide
theorem in_FAB_PORT_AUTH : ∀ n < 4, (0x2000000000000000000000000000000000000000000000000000 : Nat).testBit (rowOf (R.FAB_PORT_AUTH n)) = true ∧ R.FAB_PORT_AUTH n ≠ R.HI_STATUS := by decide
theorem in_KEY_STATUS : (0x4000000000000000000000000000000000000000000000000000 : Nat).testBit (rowOf R.KEY_STATUS) = true ∧ R.KEY_STATUS ≠ R.HI_STATUS := by decide
theorem in_KEY_LIFE : (0x8000000000000000000000000000000000000000000000000000 : Nat).testBit (rowOf R.KEY_LIFE) = true ∧ R.KEY_LIFE ≠ R.HI_STATUS := by decide
theorem in_KEY_CHG_LEFT : (0x10000000000000000000000000000000000000000000000000000 : Nat).testBit (rowOf R.KEY_CHG_LEFT) = true ∧ R.KEY_CHG_LEFT ≠ R.HI_STATUS := by decide
theorem in_KEY_IDENT_LO : (0x20000000000000000000000000000000000000000000000000000 : Nat).testBit (rowOf R.KEY_IDENT_LO) = true ∧ R.KEY_IDENT_LO ≠ R.HI_STATUS := by decide
theorem in_KEY_IDENT_HI : (0x40000000000000000000000000000000000000000000000000000 : Nat).testBit (rowOf R.KEY_IDENT_HI) = true ∧ R.KEY_IDENT_HI ≠ R.HI_STATUS := by decide
theorem in_KEY_RDG_KID : (0x80000000000000000000000000000000000000000000000000000 : Nat).testBit (rowOf R.KEY_RDG_KID) = true ∧ R.KEY_RDG_KID ≠ R.HI_STATUS := by decide
theorem in_KEY_INTEG : (0x100000000000000000000000000000000000000000000000000000 : Nat).testBit (rowOf R.KEY_INTEG) = true ∧ R.KEY_INTEG ≠ R.HI_STATUS := by decide
theorem in_KEY_TMP_CFG : (0x200000000000000000000000000000000000000000000000000000 : Nat).testBit (rowOf R.KEY_TMP_CFG) = true ∧ R.KEY_TMP_CFG ≠ R.HI_STATUS := by decide
theorem in_KEY_TMP_STAT : (0x400000000000000000000000000000000000000000000000000000 : Nat).testBit (rowOf R.KEY_TMP_STAT) = true ∧ R.KEY_TMP_STAT ≠ R.HI_STATUS := by decide
theorem in_KEY_SLOT_SEL : (0x800000000000000000000000000000000000000000000000000000 : Nat).testBit (rowOf R.KEY_SLOT_SEL) = true ∧ R.KEY_SLOT_SEL ≠ R.HI_STATUS := by decide
theorem in_KEY_SLOT_INFO : (0x1000000000000000000000000000000000000000000000000000000 : Nat).testBit (rowOf R.KEY_SLOT_INFO) = true ∧ R.KEY_SLOT_INFO ≠ R.HI_STATUS := by decide
theorem in_KEY_SLOT_DEST : (0x2000000000000000000000000000000000000000000000000000000 : Nat).testBit (rowOf R.KEY_SLOT_DEST) = true ∧ R.KEY_SLOT_DEST ≠ R.HI_STATUS := by decide
theorem in_KEY_SLOT_CNT : (0x4000000000000000000000000000000000000000000000000000000 : Nat).testBit (rowOf R.KEY_SLOT_CNT) = true ∧ R.KEY_SLOT_CNT ≠ R.HI_STATUS := by decide
theorem in_LDP_CTRL : (0x8000000000000000000000000000000000000000000000000000000 : Nat).testBit (rowOf R.LDP_CTRL) = true ∧ R.LDP_CTRL ≠ R.HI_STATUS := by decide
theorem in_LDP_GEOM : (0x10000000000000000000000000000000000000000000000000000000 : Nat).testBit (rowOf R.LDP_GEOM) = true ∧ R.LDP_GEOM ≠ R.HI_STATUS := by decide
theorem in_LDP_LEGAL : (0x20000000000000000000000000000000000000000000000000000000 : Nat).testBit (rowOf R.LDP_LEGAL) = true ∧ R.LDP_LEGAL ≠ R.HI_STATUS := by decide
theorem in_LDP_STATUS : (0x40000000000000000000000000000000000000000000000000000000 : Nat).testBit (rowOf R.LDP_STATUS) = true ∧ R.LDP_STATUS ≠ R.HI_STATUS := by decide
theorem in_LDP_VCOM : (0x80000000000000000000000000000000000000000000000000000000 : Nat).testBit (rowOf R.LDP_VCOM) = true ∧ R.LDP_VCOM ≠ R.HI_STATUS := by decide
theorem in_LDP_VCOM_NOW : (0x100000000000000000000000000000000000000000000000000000000 : Nat).testBit (rowOf R.LDP_VCOM_NOW) = true ∧ R.LDP_VCOM_NOW ≠ R.HI_STATUS := by decide
theorem in_LDP_CNT : (0x200000000000000000000000000000000000000000000000000000000 : Nat).testBit (rowOf R.LDP_CNT) = true ∧ R.LDP_CNT ≠ R.HI_STATUS := by decide
theorem in_LDP_STRESS : ∀ n < 15, (0x400000000000000000000000000000000000000000000000000000000 : Nat).testBit (rowOf (R.LDP_STRESS n)) = true ∧ R.LDP_STRESS n ≠ R.HI_STATUS := by decide
theorem in_LDP_DIRTY : ∀ n < 8, (0x800000000000000000000000000000000000000000000000000000000 : Nat).testBit (rowOf (R.LDP_DIRTY n)) = true ∧ R.LDP_DIRTY n ≠ R.HI_STATUS := by decide
theorem in_QUE_STATUS : (0x1000000000000000000000000000000000000000000000000000000000 : Nat).testBit (rowOf R.QUE_STATUS) = true ∧ R.QUE_STATUS ≠ R.HI_STATUS := by decide
theorem in_QUE_CFG : ∀ n < 35, (0x2000000000000000000000000000000000000000000000000000000000 : Nat).testBit (rowOf (R.QUE_CFG n)) = true ∧ R.QUE_CFG n ≠ R.HI_STATUS := by decide
theorem in_QUE_FILL : ∀ n < 35, (0x4000000000000000000000000000000000000000000000000000000000 : Nat).testBit (rowOf (R.QUE_FILL n)) = true ∧ R.QUE_FILL n ≠ R.HI_STATUS := by decide
theorem in_QUE_STAT : ∀ n < 35, (0x8000000000000000000000000000000000000000000000000000000000 : Nat).testBit (rowOf (R.QUE_STAT n)) = true ∧ R.QUE_STAT n ≠ R.HI_STATUS := by decide
theorem in_QUE_DROP : ∀ n < 35, (0x10000000000000000000000000000000000000000000000000000000000 : Nat).testBit (rowOf (R.QUE_DROP n)) = true ∧ R.QUE_DROP n ≠ R.HI_STATUS := by decide
theorem in_UPD_CFG : (0x20000000000000000000000000000000000000000000000000000000000 : Nat).testBit (rowOf R.UPD_CFG) = true ∧ R.UPD_CFG ≠ R.HI_STATUS := by decide
theorem in_UPD_STATUS : (0x40000000000000000000000000000000000000000000000000000000000 : Nat).testBit (rowOf R.UPD_STATUS) = true ∧ R.UPD_STATUS ≠ R.HI_STATUS := by decide
theorem in_UPD_INCOMING : (0x80000000000000000000000000000000000000000000000000000000000 : Nat).testBit (rowOf R.UPD_INCOMING) = true ∧ R.UPD_INCOMING ≠ R.HI_STATUS := by decide
theorem in_UPD_SLOT : ∀ n < 8, (0x1100000000000000000000000000000000000000000000000000000000000 : Nat).testBit (rowOf (R.UPD_SLOT n)) = true ∧ R.UPD_SLOT n ≠ R.HI_STATUS := by decide
theorem in_UPD_ENG_VER : ∀ n < 20, (0x1200000000000000000000000000000000000000000000000000000000000 : Nat).testBit (rowOf (R.UPD_ENG_VER n)) = true ∧ R.UPD_ENG_VER n ≠ R.HI_STATUS := by decide
theorem in_UPD_ENG_STAT : ∀ n < 20, (0x1400000000000000000000000000000000000000000000000000000000000 : Nat).testBit (rowOf (R.UPD_ENG_STAT n)) = true ∧ R.UPD_ENG_STAT n ≠ R.HI_STATUS := by decide

end Sys2Proof.Machine
end

