-- ==== Sys2Proof/Laws/Keeps.lean ====
section
/-! SUPPORT. What an operation can change. `Keeps P B s t` says of a state `t` that comes from `s`: the queue is the
same; each part of the state whose bit in `P` is 0 is the same (0 time, 1 isl, 2 met, 3 vot, 4 bil, 5 tpt, 6 lsw,
7 saf, 8 host, 9 ques, 10 fab, 11 mtl, 12 key, 13 ldp, 14 upd, 15 mem, 16 out, 17 free); where bit 18 is 0 and the host
port is the PCIe endpoint, memory is the same and the port still PCIe (a ring entry over the octal-SPI port is stored
in memory); each register of a row of the register table (`rowOf`) whose bit in `B` is 0 is the same; memory stays in
canonical form; the legal log only grows and stays a chain (R167); and totals stay the sums of their rate registers
(R166). Every operation of the model has one lemma that says it, and every command. -/

namespace Sys2Proof.Machine

/-- The legal log grows, and chain and sums are kept. -/
structure BilS.Ext (a b : BilS) : Prop where
  suffix : a.log <:+ b.log
  chain : chainedLog a.log = true → chainedLog b.log = true
  sums : a.sums → b.sums

theorem BilS.Ext.rfl {a : BilS} : BilS.Ext a a := ⟨List.suffix_rfl, id, id⟩

theorem BilS.Ext.trans {a b c : BilS} (h : BilS.Ext a b) (k : BilS.Ext b c) : BilS.Ext a c :=
  ⟨h.suffix.trans k.suffix, fun x => k.chain (h.chain x), fun x => k.sums (h.sums x)⟩

/-- Log and points are the same. -/
theorem BilS.Ext.same {a b : BilS} (h : b.log = a.log) (k : b.points = a.points) : BilS.Ext a b :=
  ⟨h ▸ List.suffix_rfl, fun x => h ▸ x, fun x n c => by rw [k]; exact x n c⟩

structure Keeps (P B : Nat) (s t : State) : Prop where
  pending : t.pending = s.pending
  time : P.testBit 0 = false → t.time = s.time
  isl : P.testBit 1 = false → t.isl = s.isl
  met : P.testBit 2 = false → t.met = s.met
  vot : P.testBit 3 = false → t.vot = s.vot
  bil : P.testBit 4 = false → t.bil = s.bil
  tpt : P.testBit 5 = false → t.tpt = s.tpt
  lsw : P.testBit 6 = false → t.lsw = s.lsw
  saf : P.testBit 7 = false → t.saf = s.saf
  host : P.testBit 8 = false → t.host = s.host
  ques : P.testBit 9 = false → t.ques = s.ques
  fab : P.testBit 10 = false → t.fab = s.fab
  mtl : P.testBit 11 = false → t.mtl = s.mtl
  key : P.testBit 12 = false → t.key = s.key
  ldp : P.testBit 13 = false → t.ldp = s.ldp
  upd : P.testBit 14 = false → t.upd = s.upd
  mem : P.testBit 15 = false → t.mem = s.mem
  out : P.testBit 16 = false → t.out = s.out
  free : P.testBit 17 = false → t.free = s.free
  pmem : P.testBit 18 = false → s.pcie = true → t.mem = s.mem ∧ t.pcie = true
  reg : ∀ off, B.testBit (rowOf off) = false → t.reg off = s.reg off
  wf : Mem.wf s.mem = true → Mem.wf t.mem = true
  ext : BilS.Ext s.bil t.bil

theorem Keeps.rfl {P B : Nat} {s : State} : Keeps P B s s := by
  constructor <;> intros <;> first | rfl | assumption | exact BilS.Ext.rfl | exact ⟨Eq.refl _, ‹_›⟩

theorem bit_of_sub {P p i : Nat} (h : P &&& p = p) (hP : P.testBit i = false) : p.testBit i = false := by
  rw [← h, Nat.testBit_and, hP, Bool.false_and]

/-- An operation after another, both within the bounds. -/
theorem Keeps.app {P B p b : Nat} {s0 s t : State} (k : Keeps p b s t) (hp : P &&& p = p)
    (hb : B &&& b = b) (h : Keeps P B s0 s) : Keeps P B s0 t where
  pending := k.pending.trans h.pending
  time x := (k.time (bit_of_sub hp x)).trans (h.time x)
  isl x := (k.isl (bit_of_sub hp x)).trans (h.isl x)
  met x := (k.met (bit_of_sub hp x)).trans (h.met x)
  vot x := (k.vot (bit_of_sub hp x)).trans (h.vot x)
  bil x := (k.bil (bit_of_sub hp x)).trans (h.bil x)
  tpt x := (k.tpt (bit_of_sub hp x)).trans (h.tpt x)
  lsw x := (k.lsw (bit_of_sub hp x)).trans (h.lsw x)
  saf x := (k.saf (bit_of_sub hp x)).trans (h.saf x)
  host x := (k.host (bit_of_sub hp x)).trans (h.host x)
  ques x := (k.ques (bit_of_sub hp x)).trans (h.ques x)
  fab x := (k.fab (bit_of_sub hp x)).trans (h.fab x)
  mtl x := (k.mtl (bit_of_sub hp x)).trans (h.mtl x)
  key x := (k.key (bit_of_sub hp x)).trans (h.key x)
  ldp x := (k.ldp (bit_of_sub hp x)).trans (h.ldp x)
  upd x := (k.upd (bit_of_sub hp x)).trans (h.upd x)
  mem x := (k.mem (bit_of_sub hp x)).trans (h.mem x)
  out x := (k.out (bit_of_sub hp x)).trans (h.out x)
  free x := (k.free (bit_of_sub hp x)).trans (h.free x)
  pmem x y := by
    obtain ⟨h1, h2⟩ := h.pmem x y
    obtain ⟨k1, k2⟩ := k.pmem (bit_of_sub hp x) h2
    exact ⟨k1.trans h1, k2⟩
  reg off x := (k.reg off (bit_of_sub hb x)).trans (h.reg off x)
  wf x := k.wf (h.wf x)
  ext := h.ext.trans k.ext

/-- A state in which some parts are new: each part the same or within the bound. -/
theorem Keeps.parts {P B : Nat} {s0 s t : State} (h : Keeps P B s0 s) (pending : t.pending = s.pending)
    (regs : t.regs = s.regs) (mem : t.mem = s.mem)
    (time : P.testBit 0 = true ∨ t.time = s.time) (isl : P.testBit 1 = true ∨ t.isl = s.isl)
    (met : P.testBit 2 = true ∨ t.met = s.met) (vot : P.testBit 3 = true ∨ t.vot = s.vot)
    (bil : P.testBit 4 = true ∨ t.bil = s.bil) (ext : BilS.Ext s.bil t.bil)
    (tpt : P.testBit 5 = true ∨ t.tpt = s.tpt) (lsw : P.testBit 6 = true ∨ t.lsw = s.lsw)
    (saf : P.testBit 7 = true ∨ t.saf = s.saf) (host : P.testBit 8 = true ∨ t.host = s.host)
    (ques : P.testBit 9 = true ∨ t.ques = s.ques) (fab : P.testBit 10 = true ∨ t.fab = s.fab)
    (mtl : P.testBit 11 = true ∨ t.mtl = s.mtl) (key : P.testBit 12 = true ∨ t.key = s.key)
    (ldp : P.testBit 13 = true ∨ t.ldp = s.ldp) (upd : P.testBit 14 = true ∨ t.upd = s.upd)
    (out : P.testBit 16 = true ∨ t.out = s.out) (free : P.testBit 17 = true ∨ t.free = s.free) :
    Keeps P B s0 t := by
  have key_ : ∀ {α : Type} {x : Bool} {a b c : α}, (x = true ∨ a = b) → (x = false → b = c) → x = false → a = c := by
    intro α x a b c h1 h2 h3
    rcases h1 with h1 | h1
    · rw [h3] at h1; exact absurd h1 (by simp)
    · exact h1.trans (h2 h3)
  exact {
    pending := pending.trans h.pending
    time := key_ time h.time, isl := key_ isl h.isl, met := key_ met h.met, vot := key_ vot h.vot
    bil := key_ bil h.bil, tpt := key_ tpt h.tpt, lsw := key_ lsw h.lsw, saf := key_ saf h.saf
    host := key_ host h.host, ques := key_ ques h.ques, fab := key_ fab h.fab, mtl := key_ mtl h.mtl
    key := key_ key h.key, ldp := key_ ldp h.ldp, upd := key_ upd h.upd
    mem := fun x => mem.trans (h.mem x)
    out := key_ out h.out, free := key_ free h.free
    pmem := fun x y => (by
      obtain ⟨h1, h2⟩ := h.pmem x y
      exact ⟨mem.trans h1, by rw [← h2]; simp only [State.pcie, State.get, State.reg, regs]⟩)
    reg := fun off x => (by
      have e : t.reg off = s.reg off := by simp only [State.reg, regs]
      exact e.trans (h.reg off x))
    wf := fun x => mem ▸ h.wf x
    ext := h.ext.trans ext }

/-- A register whose row is within the bound, and that is not HI_STATUS. -/
def RowIn (B off : Nat) : Prop := B.testBit (rowOf off) = true ∧ off ≠ R.HI_STATUS

theorem bit_of {P p i : Nat} (h : P &&& p = p) (hp : p.testBit i = true) : P.testBit i = true := by
  rw [← h, Nat.testBit_and, Bool.and_eq_true] at hp
  exact hp.1

theorem RowIn.of {B m off : Nat} (h : B &&& m = m) (x : m.testBit (rowOf off) = true ∧ off ≠ R.HI_STATUS) : RowIn B off :=
  ⟨bit_of h x.1, x.2⟩

theorem sub_of {P p q : Nat} (h : P &&& p = p) (hq : p &&& q = q) : P &&& q = q := by
  rw [← hq, ← Nat.and_assoc, h]

theorem rowOf_lt (off : Nat) : rowOf off < 241 := by
  have key : ∀ b < 14, rowBase b + (blockRegs b).length ≤ 239 := by decide
  have h14 : rowBase 14 = 239 := by decide
  unfold rowOf
  split
  · rename_i i hi
    have hl := (List.findIdx?_eq_some_iff_getElem.1 hi).1
    by_cases hb : off / 65536 < 14
    · have := key _ hb
      omega
    · have : blockRegs (off / 65536) = [] := by
        generalize off / 65536 = b at hb
        unfold blockRegs
        split <;> first | rfl | omega
      rw [this] at hl
      exact absurd hl (by simp)
  · split <;> omega

/-- The bound that says nothing of the registers. -/
theorem testBit_all (off : Nat) : (2 ^ 241 - 1).testBit (rowOf off) = true := by
  rw [Nat.testBit_two_pow_sub_one]
  exact decide_eq_true (rowOf_lt off)

/-- A register written within the bound. -/
theorem Keeps.setReg {P B : Nat} {s0 s : State} {off v : Nat} (hr : RowIn B off) (h : Keeps P B s0 s) :
    Keeps P B s0 (s.setReg off v) := by
  refine { h with reg := ?_, pmem := ?_ }
  · intro x y
    obtain ⟨h1, h2⟩ := h.pmem x y
    refine ⟨h1, ?_⟩
    rw [← h2]
    simp only [State.pcie]
    rw [State.get_setReg_ne (g := F.HI_STATUS_PORT) s (fun e => hr.2 e.symm)]
  · intro o x
    have hne : o ≠ off := by
      rintro rfl
      rw [hr.1] at x
      exact absurd x (by simp)
    rw [State.reg_setReg_ne _ _ hne]
    exact h.reg o x

/-- Any register written. -/
theorem Keeps.setRegAny {P : Nat} {s0 s : State} {off v : Nat} (hp : P.testBit 18 = true)
    (h : Keeps P (2 ^ 241 - 1) s0 s) : Keeps P (2 ^ 241 - 1) s0 (s.setReg off v) := by
  refine { h with reg := ?_, pmem := ?_ }
  · intro x
    rw [hp] at x
    exact absurd x (by simp)
  · intro o x
    rw [testBit_all] at x
    exact absurd x (by simp)

/-- A field of HI_STATUS below PORT written. -/
theorem Keeps.setStatus {P B : Nat} {s0 s : State} {f : Fld} {v : Nat} (hf : f.off = R.HI_STATUS) (hh : f.hi < 30)
    (hb : B.testBit 17 = true) (h : Keeps P B s0 s) : Keeps P B s0 (s.set f v) := by
  refine { h with reg := ?_, pmem := ?_ }
  · intro x y
    obtain ⟨h1, h2⟩ := h.pmem x y
    refine ⟨h1, ?_⟩
    rw [← h2]
    simp only [State.pcie]
    rw [State.get_set_ne (g := F.HI_STATUS_PORT) s v (by omega) (.inr (.inr (by show f.hi < 30; exact hh)))]
  · intro o x
    have hne : o ≠ f.off := by
      rintro rfl
      rw [hf, show rowOf R.HI_STATUS = 17 by decide, hb] at x
      exact absurd x (by simp)
    rw [State.reg_set _ _ _ _ (by omega), if_neg hne]
    exact h.reg o x

/-- The register file replaced. -/
theorem Keeps.regs {P : Nat} {s0 s : State} {r : List (Nat × Word)} (hp : P.testBit 18 = true)
    (h : Keeps P (2 ^ 241 - 1) s0 s) : Keeps P (2 ^ 241 - 1) s0 { s with regs := r } := by
  refine { h with reg := ?_, pmem := ?_ }
  · intro x
    rw [hp] at x
    exact absurd x (by simp)
  · intro o x
    rw [testBit_all] at x
    exact absurd x (by simp)

/-- Memory replaced by one that keeps the canonical form. -/
theorem Keeps.mem_ {P B : Nat} {s0 s : State} {m : Mem} (hp : P.testBit 15 = true) (hp' : P.testBit 18 = true)
    (hm : Mem.wf s.mem = true → Mem.wf m = true) (h : Keeps P B s0 s) : Keeps P B s0 { s with mem := m } := by
  refine { h with mem := ?_, pmem := ?_, wf := fun x => hm (h.wf x) }
  · intro x
    rw [hp] at x
    exact absurd x (by simp)
  · intro x
    rw [hp'] at x
    exact absurd x (by simp)

/-- Custody registers replaced. -/
theorem Keeps.bil_ {P B : Nat} {s0 s : State} {b : BilS} (hp : P.testBit 4 = true) (hm : BilS.Ext s.bil b)
    (h : Keeps P B s0 s) : Keeps P B s0 { s with bil := b } := by
  refine { h with bil := ?_, ext := h.ext.trans hm }
  intro x
  rw [hp] at x
  exact absurd x (by simp)

/-! ### One part replaced -/

theorem Keeps.time_ {P B : Nat} {s0 s : State} {x : TimeS} (hp : P.testBit 0 = true) (h : Keeps P B s0 s) :
    Keeps P B s0 { s with time := x } := { h with time := fun y => absurd (hp.symm.trans y) Bool.noConfusion }

theorem Keeps.isl_ {P B : Nat} {s0 s : State} {x : IslS} (hp : P.testBit 1 = true) (h : Keeps P B s0 s) :
    Keeps P B s0 { s with isl := x } := { h with isl := fun y => absurd (hp.symm.trans y) Bool.noConfusion }

theorem Keeps.met_ {P B : Nat} {s0 s : State} {x : MetS} (hp : P.testBit 2 = true) (h : Keeps P B s0 s) :
    Keeps P B s0 { s with met := x } := { h with met := fun y => absurd (hp.symm.trans y) Bool.noConfusion }

theorem Keeps.vot_ {P B : Nat} {s0 s : State} {x : VotS} (hp : P.testBit 3 = true) (h : Keeps P B s0 s) :
    Keeps P B s0 { s with vot := x } := { h with vot := fun y => absurd (hp.symm.trans y) Bool.noConfusion }

theorem Keeps.tpt_ {P B : Nat} {s0 s : State} {x : TptS} (hp : P.testBit 5 = true) (h : Keeps P B s0 s) :
    Keeps P B s0 { s with tpt := x } := { h with tpt := fun y => absurd (hp.symm.trans y) Bool.noConfusion }

theorem Keeps.lsw_ {P B : Nat} {s0 s : State} {x : LswS} (hp : P.testBit 6 = true) (h : Keeps P B s0 s) :
    Keeps P B s0 { s with lsw := x } := { h with lsw := fun y => absurd (hp.symm.trans y) Bool.noConfusion }

theorem Keeps.saf_ {P B : Nat} {s0 s : State} {x : SafS} (hp : P.testBit 7 = true) (h : Keeps P B s0 s) :
    Keeps P B s0 { s with saf := x } := { h with saf := fun y => absurd (hp.symm.trans y) Bool.noConfusion }

theorem Keeps.host_ {P B : Nat} {s0 s : State} {x : HostS} (hp : P.testBit 8 = true) (h : Keeps P B s0 s) :
    Keeps P B s0 { s with host := x } := { h with host := fun y => absurd (hp.symm.trans y) Bool.noConfusion }

theorem Keeps.ques_ {P B : Nat} {s0 s : State} {x : Vector QueS 35} (hp : P.testBit 9 = true) (h : Keeps P B s0 s) :
    Keeps P B s0 { s with ques := x } := { h with ques := fun y => absurd (hp.symm.trans y) Bool.noConfusion }

theorem Keeps.fab_ {P B : Nat} {s0 s : State} {x : FabS} (hp : P.testBit 10 = true) (h : Keeps P B s0 s) :
    Keeps P B s0 { s with fab := x } := { h with fab := fun y => absurd (hp.symm.trans y) Bool.noConfusion }

theorem Keeps.mtl_ {P B : Nat} {s0 s : State} {x : MtlS} (hp : P.testBit 11 = true) (h : Keeps P B s0 s) :
    Keeps P B s0 { s with mtl := x } := { h with mtl := fun y => absurd (hp.symm.trans y) Bool.noConfusion }

theorem Keeps.key_ {P B : Nat} {s0 s : State} {x : KeyS} (hp : P.testBit 12 = true) (h : Keeps P B s0 s) :
    Keeps P B s0 { s with key := x } := { h with key := fun y => absurd (hp.symm.trans y) Bool.noConfusion }

theorem Keeps.ldp_ {P B : Nat} {s0 s : State} {x : LdpS} (hp : P.testBit 13 = true) (h : Keeps P B s0 s) :
    Keeps P B s0 { s with ldp := x } := { h with ldp := fun y => absurd (hp.symm.trans y) Bool.noConfusion }

theorem Keeps.upd_ {P B : Nat} {s0 s : State} {x : UpdS} (hp : P.testBit 14 = true) (h : Keeps P B s0 s) :
    Keeps P B s0 { s with upd := x } := { h with upd := fun y => absurd (hp.symm.trans y) Bool.noConfusion }

theorem Keeps.out_ {P B : Nat} {s0 s : State} {x : List Out} (hp : P.testBit 16 = true) (h : Keeps P B s0 s) :
    Keeps P B s0 { s with out := x } := { h with out := fun y => absurd (hp.symm.trans y) Bool.noConfusion }

theorem Keeps.free_ {P B : Nat} {s0 s : State} {x : Nat} (hp : P.testBit 17 = true) (h : Keeps P B s0 s) :
    Keeps P B s0 { s with free := x } := { h with free := fun y => absurd (hp.symm.trans y) Bool.noConfusion }

/-! ### Register writes -/

theorem Keeps.set {P B : Nat} {s0 s : State} {f : Fld} {v : Nat} (hr : RowIn B f.off) (h : Keeps P B s0 s) :
    Keeps P B s0 (s.set f v) := Keeps.setReg hr h

theorem Keeps.setAny {P : Nat} {s0 s : State} {f : Fld} {v : Nat} (hp : P.testBit 18 = true) (h : Keeps P (2 ^ 241 - 1) s0 s) :
    Keeps P (2 ^ 241 - 1) s0 (s.set f v) := Keeps.setRegAny hp h

theorem Keeps.setBit {P B : Nat} {s0 s : State} {f : Fld} {i : Nat} {b : Bool} (hr : RowIn B f.off) (h : Keeps P B s0 s) :
    Keeps P B s0 (s.setBit f i b) := Keeps.setReg hr h

theorem Keeps.setBitAny {P : Nat} {s0 s : State} {f : Fld} {i : Nat} {b : Bool} (hp : P.testBit 18 = true) (h : Keeps P (2 ^ 241 - 1) s0 s) :
    Keeps P (2 ^ 241 - 1) s0 (s.setBit f i b) := Keeps.setRegAny hp h

theorem Keeps.count {P B : Nat} {s0 s : State} {f : Fld} {n : Nat} (hr : RowIn B f.off) (h : Keeps P B s0 s) :
    Keeps P B s0 (s.count f n) := Keeps.setReg hr h

theorem Keeps.countAny {P : Nat} {s0 s : State} {f : Fld} {n : Nat} (hp : P.testBit 18 = true) (h : Keeps P (2 ^ 241 - 1) s0 s) :
    Keeps P (2 ^ 241 - 1) s0 (s.count f n) := Keeps.setRegAny hp h

theorem Keeps.wrap {P B : Nat} {s0 s : State} {f : Fld} (hr : RowIn B f.off) (h : Keeps P B s0 s) :
    Keeps P B s0 (s.wrap f) := Keeps.setReg hr h

theorem Keeps.wrapAny {P : Nat} {s0 s : State} {f : Fld} (hp : P.testBit 18 = true) (h : Keeps P (2 ^ 241 - 1) s0 s) :
    Keeps P (2 ^ 241 - 1) s0 (s.wrap f) := Keeps.setRegAny hp h

theorem Keeps.setSat {P B : Nat} {s0 s : State} {f : Fld} {v : Nat} (hr : RowIn B f.off) (h : Keeps P B s0 s) :
    Keeps P B s0 (s.setSat f v) := Keeps.setReg hr h

theorem Keeps.setSatAny {P : Nat} {s0 s : State} {f : Fld} {v : Nat} (hp : P.testBit 18 = true) (h : Keeps P (2 ^ 241 - 1) s0 s) :
    Keeps P (2 ^ 241 - 1) s0 (s.setSat f v) := Keeps.setRegAny hp h

theorem Keeps.set64 {P B : Nat} {s0 s : State} {off v : Nat} (hr : RowIn B off) (hr' : RowIn B (off + 4))
    (h : Keeps P B s0 s) : Keeps P B s0 (s.set64 off v) := Keeps.setReg hr' (Keeps.setReg hr h)

theorem Keeps.set64Any {P : Nat} {s0 s : State} {off v : Nat} (hp : P.testBit 18 = true) (h : Keeps P (2 ^ 241 - 1) s0 s) :
    Keeps P (2 ^ 241 - 1) s0 (s.set64 off v) := Keeps.setRegAny hp (Keeps.setRegAny hp h)

end Sys2Proof.Machine

namespace Sys2Proof
open Machine

theorem RingQ.in_8 (q : RingQ) : (0x44400000 : Nat).testBit (rowOf (q.off + 8)) = true ∧ q.off + 8 ≠ R.HI_STATUS := by
  cases q with
  | sq n => exact (by decide : ∀ n : Fin 16, (0x44400000 : Nat).testBit (rowOf (R.HI_SQ_BASE_LO n.val + 8)) = true ∧ R.HI_SQ_BASE_LO n.val + 8 ≠ R.HI_STATUS) n
  | cq n => exact (by decide : ∀ n : Fin 16, (0x44400000 : Nat).testBit (rowOf (R.HI_CQ_BASE_LO n.val + 8)) = true ∧ R.HI_CQ_BASE_LO n.val + 8 ≠ R.HI_STATUS) n
  | eq n => exact (by decide : ∀ n : Fin 4, (0x44400000 : Nat).testBit (rowOf (R.HI_EQ_BASE_LO n.val + 8)) = true ∧ R.HI_EQ_BASE_LO n.val + 8 ≠ R.HI_STATUS) n

theorem RingQ.in_12 (q : RingQ) : (0x88800000 : Nat).testBit (rowOf (q.off + 12)) = true ∧ q.off + 12 ≠ R.HI_STATUS := by
  cases q with
  | sq n => exact (by decide : ∀ n : Fin 16, (0x88800000 : Nat).testBit (rowOf (R.HI_SQ_BASE_LO n.val + 12)) = true ∧ R.HI_SQ_BASE_LO n.val + 12 ≠ R.HI_STATUS) n
  | cq n => exact (by decide : ∀ n : Fin 16, (0x88800000 : Nat).testBit (rowOf (R.HI_CQ_BASE_LO n.val + 12)) = true ∧ R.HI_CQ_BASE_LO n.val + 12 ≠ R.HI_STATUS) n
  | eq n => exact (by decide : ∀ n : Fin 4, (0x88800000 : Nat).testBit (rowOf (R.HI_EQ_BASE_LO n.val + 12)) = true ∧ R.HI_EQ_BASE_LO n.val + 12 ≠ R.HI_STATUS) n

end Sys2Proof

namespace Sys2Proof.Machine

/-- A ring queue's error bit written. -/
theorem Keeps.setErr {P B : Nat} {s0 s : State} {q : RingQ} {v : Nat} (hb : B &&& 0xA0000 = 0xA0000) (h : Keeps P B s0 s) :
    Keeps P B s0 (s.set q.err v) := by
  cases q with
  | sq n => exact Keeps.set (RowIn.of (sub_of hb (Eq.refl _)) in_HI_RING_ERR) h
  | cq n => exact Keeps.set (RowIn.of (sub_of hb (Eq.refl _)) in_HI_RING_ERR) h
  | eq e => exact Keeps.setStatus (Eq.refl _) (by show 17 + e.val < 30; omega) (bit_of hb (by decide)) h

/-! ### Results that hold a state -/

/-- An outcome whose next state, if it is one, is within the bounds. -/
def KeepsO (P B : Nat) (s : State) (o : Host.Outcome State Fault Refusal) : Prop := ∀ t, o = .next t → Keeps P B s t

theorem KeepsO.next {P B : Nat} {s t : State} (h : Keeps P B s t) : KeepsO P B s (.next t) := by
  intro u e
  injection e with e
  exact e ▸ h

theorem KeepsO.app {P B p b : Nat} {s0 s : State} {x : Host.Outcome State Fault Refusal} (k : KeepsO p b s x)
    (hp : P &&& p = p) (hb : B &&& b = b) (h : Keeps P B s0 s) : KeepsO P B s0 x :=
  fun t e => Keeps.app (k t e) hp hb h

/-- A value with a state. -/
def KeepsE {α : Type} (P B : Nat) (s : State) (x : α × State) : Prop := Keeps P B s x.2

theorem KeepsE.mk {α : Type} {P B : Nat} {s t : State} {a : α} (h : Keeps P B s t) : KeepsE P B s (a, t) := h

theorem KeepsE.snd {α : Type} {P B : Nat} {s : State} {x : α × State} (h : KeepsE P B s x) : Keeps P B s x.2 := h

theorem KeepsE.app {α : Type} {P B p b : Nat} {s0 s : State} {x : α × State} (k : KeepsE p b s x) (hp : P &&& p = p)
    (hb : B &&& b = b) (h : Keeps P B s0 s) : KeepsE P B s0 x := Keeps.app k hp hb h

theorem KeepsE.of_eq {α : Type} {P B : Nat} {s t : State} {x : α × State} {a : α} (h : KeepsE P B s x)
    (e : x = (a, t)) : Keeps P B s t := by rw [e] at h; exact h

/-- Two values with a state. -/
def KeepsG {α β : Type} (P B : Nat) (s : State) (x : α × β × State) : Prop := Keeps P B s x.2.2

theorem KeepsG.mk {α β : Type} {P B : Nat} {s t : State} {a : α} {b : β} (h : Keeps P B s t) : KeepsG P B s (a, b, t) := h

theorem KeepsG.app {α β : Type} {P B p b : Nat} {s0 s : State} {x : α × β × State} (k : KeepsG p b s x)
    (hp : P &&& p = p) (hb : B &&& b = b) (h : Keeps P B s0 s) : KeepsG P B s0 x := Keeps.app k hp hb h

theorem KeepsG.of_eq {α β : Type} {P B : Nat} {s t : State} {x : α × β × State} {a : α} {b : β} (h : KeepsG P B s x)
    (e : x = (a, b, t)) : Keeps P B s t := by rw [e] at h; exact h

/-- A state with a value. -/
def KeepsF {α : Type} (P B : Nat) (s : State) (x : State × α) : Prop := Keeps P B s x.1

theorem KeepsF.mk {α : Type} {P B : Nat} {s t : State} {a : α} (h : Keeps P B s t) : KeepsF P B s (t, a) := h

theorem KeepsF.fst {α : Type} {P B : Nat} {s : State} {x : State × α} (h : KeepsF P B s x) : Keeps P B s x.1 := h

theorem KeepsF.app {α : Type} {P B p b : Nat} {s0 s : State} {x : State × α} (k : KeepsF p b s x) (hp : P &&& p = p)
    (hb : B &&& b = b) (h : Keeps P B s0 s) : KeepsF P B s0 x := Keeps.app k hp hb h

theorem KeepsF.of_eq {α : Type} {P B : Nat} {s t : State} {x : State × α} {a : α} (h : KeepsF P B s x)
    (e : x = (t, a)) : Keeps P B s t := by rw [e] at h; exact h

/-- Perhaps a state. -/
def KeepsM (P B : Nat) (s : State) (x : Option State) : Prop := ∀ t, x = some t → Keeps P B s t

theorem KeepsM.some {P B : Nat} {s t : State} (h : Keeps P B s t) : KeepsM P B s (some t) := by
  intro u e
  injection e with e
  exact e ▸ h

theorem KeepsM.none {P B : Nat} {s : State} : KeepsM P B s none := by
  intro u e
  exact absurd e (by simp)

theorem KeepsM.app {P B p b : Nat} {s0 s : State} {x : Option State} (k : KeepsM p b s x) (hp : P &&& p = p)
    (hb : B &&& b = b) (h : Keeps P B s0 s) : KeepsM P B s0 x := fun t e => Keeps.app (k t e) hp hb h

theorem KeepsM.of_eq {P B : Nat} {s t : State} {x : Option State} (h : KeepsM P B s x) (e : x = Option.some t) :
    Keeps P B s t := h t e

/-- Perhaps a value with a state. -/
def KeepsN {α : Type} (P B : Nat) (s : State) (x : Option (α × State)) : Prop := ∀ a t, x = some (a, t) → Keeps P B s t

theorem KeepsN.some {α : Type} {P B : Nat} {s : State} {x : α × State} (h : KeepsE P B s x) : KeepsN P B s (some x) := by
  intro a u e
  injection e with e
  exact h.of_eq e

theorem KeepsN.none {α : Type} {P B : Nat} {s : State} : KeepsN P B s (none : Option (α × State)) := by
  intro a u e
  exact absurd e (by simp)

theorem KeepsN.app {α : Type} {P B p b : Nat} {s0 s : State} {x : Option (α × State)} (k : KeepsN p b s x)
    (hp : P &&& p = p) (hb : B &&& b = b) (h : Keeps P B s0 s) : KeepsN P B s0 x :=
  fun a t e => Keeps.app (k a t e) hp hb h

theorem KeepsN.of_eq {α : Type} {P B : Nat} {s t : State} {x : Option (α × State)} {a : α} (h : KeepsN P B s x)
    (e : x = Option.some (a, t)) : Keeps P B s t := h a t e

/-! ### Through the terms of a definition -/

theorem ite_of {α : Type} {Q : α → Prop} {c : Prop} [Decidable c] {a b : α} (ha : Q a) (hb : Q b) :
    Q (if c then a else b) := by split <;> assumption

theorem foldl_of {α β : Type} {Q : α → Prop} {f : α → β → α} {l : List β} {a : α} (h : Q a)
    (k : ∀ x y, y ∈ l → Q x → Q (f x y)) : Q (l.foldl f a) := by
  induction l generalizing a with
  | nil => exact h
  | cons y t ih =>
    exact ih (k a y List.mem_cons_self h) (fun x z hz hx => k x z (List.mem_cons_of_mem _ hz) hx)

end Sys2Proof.Machine
end

