-- ==== Sys2Proof/Laws/Frames.lean ====
section
/-! SUPPORT. From what an operation keeps (Laws/Keeps.lean) to the frame that a claim states (Safety.lean). -/

namespace Sys2Proof.Machine

/-- The bit of `Keeps` that stands for a part. -/
def Part.bit : Part → Nat
  | .time => 0 | .isl => 1 | .met => 2 | .vot => 3 | .bil => 4 | .tpt => 5 | .lsw => 6 | .saf => 7 | .host => 8
  | .ques => 9 | .fab => 10 | .mtl => 11 | .key => 12 | .ldp => 13 | .upd => 14 | .mem => 15 | .out => 16 | .free => 17
  | .memPcie => 18

/-- Whether every part that `P` lets change is named. -/
def partsNamed (P : Nat) (parts : List Part) : Bool :=
  [Part.time, .isl, .met, .vot, .bil, .tpt, .lsw, .saf, .host, .ques, .fab, .mtl, .key, .ldp, .upd, .mem, .out, .free,
    .memPcie].all (fun p => decide (p ∈ parts) || !P.testBit p.bit)

/-- Whether every row of registers that `B` lets change is named. -/
def rowsNamed (B : Nat) (rows : List Nat) : Bool :=
  (List.range 240).all (fun r => decide (r ∈ rows) || !B.testBit r)

theorem Keeps.frame {P B : Nat} {s t : State} {parts : List Part} {regs : List Nat} (h : Keeps P B s t)
    (hp : partsNamed P parts = true) (hb : rowsNamed B (regs.map rowOf) = true) : Frame parts regs s t where
  pending := h.pending
  part := by
    intro p hn
    have hbit : P.testBit p.bit = false := by
      have : (decide (p ∈ parts) || !P.testBit p.bit) = true := by
        refine List.all_eq_true.1 hp p ?_
        cases p <;> decide
      simpa [hn] using this
    cases p with
    | time => exact h.time hbit
    | isl => exact h.isl hbit
    | met => exact h.met hbit
    | vot => exact h.vot hbit
    | bil => exact h.bil hbit
    | tpt => exact h.tpt hbit
    | lsw => exact h.lsw hbit
    | saf => exact h.saf hbit
    | host => exact h.host hbit
    | ques => exact h.ques hbit
    | fab => exact h.fab hbit
    | mtl => exact h.mtl hbit
    | key => exact h.key hbit
    | ldp => exact h.ldp hbit
    | upd => exact h.upd hbit
    | mem => exact fun a => congrArg (memGet · a) (h.mem hbit)
    | out => exact h.out hbit
    | free => exact h.free hbit
    | memPcie => exact fun x a => congrArg (memGet · a) (h.pmem hbit x).1
  reg := by
    intro off hr hn
    refine h.reg off ?_
    have h14 : rowBase 14 = 239 := by decide
    have : (decide (rowOf off ∈ regs.map rowOf) || !B.testBit (rowOf off)) = true :=
      List.all_eq_true.1 hb _ (List.mem_range.2 (by omega))
    simpa only [hn, decide_false, Bool.false_or, Bool.not_eq_true'] using this

/-- The frame of a command from its own lemma. -/
theorem KeepsO.frame {P B : Nat} {s t : State} {o : Host.Outcome State Fault Refusal} {parts : List Part} {regs : List Nat}
    (h : KeepsO P B s o) (e : o = .next t) (hp : partsNamed P parts = true) (hb : rowsNamed B (regs.map rowOf) = true) :
    Frame parts regs s t := Keeps.frame (h t e) hp hb

end Sys2Proof.Machine
end

