-- ==== Sys2Proof/Laws/KeepsOps.lean ====
section
/-! SUPPORT. What the operations of Machine/Ops.lean can change, one lemma each (Laws/Keeps.lean says how it is read). -/

namespace Sys2Proof.Machine

theorem State.setRing_keeps (s : State) (q : RingQ) (r : RingS) :
    Keeps 256 0 s (State.setRing s q r) := by
  have h_s : Keeps 256 0 s s := Keeps.rfl
  delta State.setRing
  split
  · extract_lets -underBinder -useContext y1
    exact Keeps.host_ rfl h_s
  · extract_lets -underBinder -useContext y3
    exact Keeps.host_ rfl h_s
  · extract_lets -underBinder -useContext y5
    exact Keeps.host_ rfl h_s

theorem State.ringDrop_keeps (s : State) (q : RingQ) (n : ℕ) :
    Keeps 256 0x88800000 s (State.ringDrop s q n) := by
  have h_s : Keeps 256 0x88800000 s s := Keeps.rfl
  delta State.ringDrop
  extract_lets -underBinder -useContext y0
  refine Keeps.set (.of rfl (RingQ.in_12 _)) ?_
  refine Keeps.count (.of rfl (RingQ.in_12 _)) ?_
  refine Keeps.app (State.setRing_keeps _ _ _) rfl rfl ?_
  exact h_s

theorem State.emit_keeps (s : State) (o : Out) :
    Keeps 65536 0 s (State.emit s o) := by
  have h_s : Keeps 65536 0 s s := Keeps.rfl
  delta State.emit
  exact Keeps.out_ rfl h_s

theorem State.store_keeps (s : State) (a : Nat) (l : List Byte) : Keeps 294912 0 s (s.store a l) :=
  Keeps.mem_ rfl rfl (fun h => memWrite_wf _ _ h) Keeps.rfl


/-- Bytes for the host: a write on the PCIe link, or a store in the ring memory of the octal-SPI port. -/
theorem State.toHost_keeps (s : State) (a : Nat) (l : List Byte) : Keeps 98304 0 s (s.toHost a l) := by
  unfold State.toHost
  split
  · exact Keeps.app (State.emit_keeps ..) rfl rfl Keeps.rfl
  · rename_i hp
    have hf : s.pcie = true → False := fun h => hp h
    exact { Keeps.app (P := 2 ^ 19 - 1) (State.store_keeps s (ringBase + a) l) rfl rfl Keeps.rfl with
      time := fun _ => rfl, isl := fun _ => rfl, met := fun _ => rfl, vot := fun _ => rfl, bil := fun _ => rfl
      tpt := fun _ => rfl, lsw := fun _ => rfl, saf := fun _ => rfl, host := fun _ => rfl, ques := fun _ => rfl
      fab := fun _ => rfl, mtl := fun _ => rfl, key := fun _ => rfl, ldp := fun _ => rfl, upd := fun _ => rfl
      mem := fun h => absurd h (by decide), out := fun _ => rfl, free := fun _ => rfl
      pmem := fun _ h => (hf h).elim }


theorem in_vectors : (∀ k < 2, (0x800000000000000000000000000000000000000000000000018000000000 : Nat).testBit (rowOf (0x19000 + 4 * k)) = true ∧ 0x19000 + 4 * k ≠ R.HI_STATUS) ∧
    ∀ k < 2, (0x800000000000000000000000000000000000000000000000018000000000 : Nat).testBit (rowOf (R.HI_IRQ_PEND_LO + 4 * k)) = true ∧ R.HI_IRQ_PEND_LO + 4 * k ≠ R.HI_STATUS := by
  decide

theorem State.signal_keeps (s : State) (v : Nat) (h : v < 64) : Keeps 65536 0x800000000000000000000000000000000000000000000000018000000000 s (s.signal v) := by
  have h_s : Keeps 65536 0x800000000000000000000000000000000000000000000000018000000000 s s := Keeps.rfl
  have hk : v / 32 < 2 := by omega
  unfold State.signal
  refine ite_of (Q := Keeps 65536 0x800000000000000000000000000000000000000000000000018000000000 s) ?_ ?_
  · refine ite_of (Q := Keeps 65536 0x800000000000000000000000000000000000000000000000018000000000 s) ?_ ?_
    · exact Keeps.app (State.emit_keeps ..) rfl rfl h_s
    · exact Keeps.setReg (in_vectors.1 _ hk) h_s
  · exact Keeps.setReg (in_vectors.2 _ hk) h_s


theorem State.coalesce_keeps (s : State) (q : RingQ) : Keeps 65792 0x800000000000000000000000000000000000000000000000018000000000 s (s.coalesce q) := by
  have h_s : Keeps 65792 0x800000000000000000000000000000000000000000000000018000000000 s s := Keeps.rfl
  have hv : bitsOf (s.reg (q.off + 8)) 29 24 < 64 := bitsOf_lt _ 29 24
  unfold State.coalesce
  refine ite_of (Q := Keeps 65792 0x800000000000000000000000000000000000000000000000018000000000 s) h_s (ite_of (Q := Keeps 65792 0x800000000000000000000000000000000000000000000000018000000000 s) ?_ ?_)
  · exact Keeps.app (State.signal_keeps _ _ hv) rfl rfl (Keeps.app (State.setRing_keeps ..) rfl rfl h_s)
  · exact Keeps.app (State.setRing_keeps ..) rfl rfl h_s


theorem State.putEntry_keeps (s : State) (q : RingQ) (entry : ℕ → List Byte) :
    Keeps 98560 0x800000000000000000000000000000000000000000000000018088800000 s (State.putEntry s q entry) := by
  have h_s : Keeps 98560 0x800000000000000000000000000000000000000000000000018088800000 s s := Keeps.rfl
  delta State.putEntry
  extract_lets -underBinder -useContext y0 y1 y2 y3 y4 y5 y6
  have hy4 : Keeps 98560 0x800000000000000000000000000000000000000000000000018088800000 s y4 := by
    refine Keeps.app (State.toHost_keeps _ _ _) rfl rfl ?_
    exact h_s
  have hy5 : Keeps 98560 0x800000000000000000000000000000000000000000000000018088800000 s y5 := by
    refine Keeps.set (.of rfl (RingQ.in_12 _)) ?_
    exact hy4
  have hy6 : Keeps 98560 0x800000000000000000000000000000000000000000000000018088800000 s y6 := by
    refine Keeps.app (State.setRing_keeps _ _ _) rfl rfl ?_
    exact hy5
  refine Keeps.app (State.coalesce_keeps _ _) rfl rfl ?_
  exact hy6

theorem State.offerEntry_keeps (s : State) (q : RingQ) (entry : ℕ → List Byte) :
    Keeps 98560 0x800000000000000000000000000000000000000000000000018088800000 s (State.offerEntry s q entry) := by
  have h_s : Keeps 98560 0x800000000000000000000000000000000000000000000000018088800000 s s := Keeps.rfl
  delta State.offerEntry
  refine ite_of (Q := Keeps 98560 0x800000000000000000000000000000000000000000000000018088800000 s) ?_ ?_
  · exact h_s
  · refine ite_of (Q := Keeps 98560 0x800000000000000000000000000000000000000000000000018088800000 s) ?_ ?_
    · refine Keeps.app (State.ringDrop_keeps _ _ _) rfl rfl ?_
      exact h_s
    · refine Keeps.app (State.putEntry_keeps _ _ _) rfl rfl ?_
      exact h_s

theorem State.raise_keeps (s : State) (e : Ev) :
    Keeps 98560 0x800000000000000000000000000000000000000000000000018088800000 s (State.raise s e) := by
  have h_s : Keeps 98560 0x800000000000000000000000000000000000000000000000018088800000 s s := Keeps.rfl
  delta State.raise
  extract_lets -underBinder -useContext y0 y1 y2 y3 y4 y5 y6 y7
  have hy1 : Keeps 98560 0x800000000000000000000000000000000000000000000000018088800000 s y1 := by
    refine ite_of (Q := Keeps 98560 0x800000000000000000000000000000000000000000000000018088800000 s) ?_ ?_
    · exact h_s
    · exact Keeps.host_ rfl h_s
  have hy7 : Keeps 98560 0x800000000000000000000000000000000000000000000000018088800000 s y7 := by
    refine Keeps.app (State.setRing_keeps _ _ _) rfl rfl ?_
    exact hy1
  refine ite_of (Q := Keeps 98560 0x800000000000000000000000000000000000000000000000018088800000 s) ?_ ?_
  · exact h_s
  · refine ite_of (Q := Keeps 98560 0x800000000000000000000000000000000000000000000000018088800000 s) ?_ ?_
    · exact hy1
    · refine ite_of (Q := Keeps 98560 0x800000000000000000000000000000000000000000000000018088800000 s) ?_ ?_
      · exact hy1
      · refine Keeps.app (State.offerEntry_keeps _ _ _) rfl rfl ?_
        exact hy7

theorem State.gapEntry_keeps (s : State) (q : RingQ) :
    Keeps 98560 0x800000000000000000000000000000000000000000000000018088800000 s (State.gapEntry s q) := by
  have h_s : Keeps 98560 0x800000000000000000000000000000000000000000000000018088800000 s s := Keeps.rfl
  delta State.gapEntry
  extract_lets -underBinder -useContext y0 y1 y2 y3
  have hy2 : Keeps 98560 0x800000000000000000000000000000000000000000000000018088800000 s y2 := by
    refine Keeps.set (.of rfl (RingQ.in_12 _)) ?_
    refine Keeps.app (State.setRing_keeps _ _ _) rfl rfl ?_
    exact h_s
  have hy3 : Keeps 98560 0x800000000000000000000000000000000000000000000000018088800000 s y3 := by
    subst y3
    split
    · refine Keeps.app (State.putEntry_keeps _ _ _) rfl rfl ?_
      exact hy2
    · refine Keeps.app (State.putEntry_keeps _ _ _) rfl rfl ?_
      exact hy2
  refine ite_of (Q := Keeps 98560 0x800000000000000000000000000000000000000000000000018088800000 s) ?_ ?_
  · exact h_s
  · refine Keeps.app (State.raise_keeps _ _) rfl rfl ?_
    exact hy3

theorem State.discard_keeps (s : State) :
    Keeps 98560 0x800000000000000000000000000000000000000000000000018088800000 s (State.discard s) := by
  have h_s : Keeps 98560 0x800000000000000000000000000000000000000000000000018088800000 s s := Keeps.rfl
  delta State.discard
  refine Keeps.app (State.raise_keeps _ _) rfl rfl ?_
  exact h_s

theorem State.complete_keeps (s : State) (d : Desc) (status : ℕ) (detail : ℕ) (bytes : List Byte) :
    Keeps 256 0 s (State.complete s d status detail bytes) := by
  have h_s : Keeps 256 0 s s := Keeps.rfl
  delta State.complete
  extract_lets -underBinder -useContext y0
  exact Keeps.host_ rfl h_s

theorem State.accessError_keeps (s : State) (off : ℕ) :
    Keeps 98560 0x800000000000000000000000000000000000000000000000018088800000 s (State.accessError s off) := by
  have h_s : Keeps 98560 0x800000000000000000000000000000000000000000000000018088800000 s s := Keeps.rfl
  delta State.accessError
  extract_lets -underBinder -useContext y0 y1
  have hy1 : Keeps 98560 0x800000000000000000000000000000000000000000000000018088800000 s y1 := by
    refine Keeps.app (State.raise_keeps _ _) rfl rfl ?_
    exact h_s
  refine ite_of (Q := Keeps 98560 0x800000000000000000000000000000000000000000000000018088800000 s) ?_ ?_
  · refine Keeps.app (State.raise_keeps _ _) rfl rfl ?_
    exact hy1
  · exact hy1

theorem State.readRow_keeps {P B : Nat} {s0 : State} {s : State} {off : ℕ} {side : State → State} (hp : P &&& 98560 = 98560) (hb : B &&& 0x800000000000000000000000000000000000000000000000018088800000 = 0x800000000000000000000000000000000000000000000000018088800000)
    (h_s : Keeps P B s0 s) (h_side : ∀ x, Keeps P B s0 x → Keeps P B s0 (side x)) :
    Keeps P B s0 (State.readRow s off side) := by
  delta State.readRow
  extract_lets -underBinder -useContext y0 y1 y2 y3 y4
  have hy1 : Keeps P B s0 y1 := by
    refine h_side _ ?_
    exact h_s
  have hy3 : Keeps P B s0 y3 := by
    refine Keeps.app (State.accessError_keeps _ _) (sub_of hp rfl) (sub_of hb rfl) ?_
    exact h_s
  refine ite_of (Q := Keeps P B s0) ?_ ?_
  · exact h_s
  · refine ite_of (Q := Keeps P B s0) ?_ ?_
    · exact Keeps.host_ (bit_of hp rfl) hy1
    · exact Keeps.host_ (bit_of hp rfl) hy3

theorem State.fresh_keeps (s : State) :
    KeepsE 131072 0 s (State.fresh s) := by
  have h_s : Keeps 131072 0 s s := Keeps.rfl
  delta State.fresh
  refine KeepsE.mk ?_
  exact Keeps.free_ rfl h_s

theorem State.guard_keeps {P B : Nat} {s0 : State} {s : State} {off : ℕ} {size : ℕ} {body : State → State} (hp : P &&& 98560 = 98560) (hb : B &&& 0x800000000000000000000000000000000000000000000000018088800000 = 0x800000000000000000000000000000000000000000000000018088800000)
    (h_s : Keeps P B s0 s) (h_body : ∀ x, Keeps P B s0 x → Keeps P B s0 (body x)) :
    Keeps P B s0 (State.guard s off size body) := by
  delta State.guard
  refine ite_of (Q := Keeps P B s0) ?_ ?_
  · exact h_s
  · refine ite_of (Q := Keeps P B s0) ?_ ?_
    · refine h_body _ ?_
      exact h_s
    · refine Keeps.app (State.accessError_keeps _ _) (sub_of hp rfl) (sub_of hb rfl) ?_
      exact h_s

theorem State.setIsl_keeps (s : State) (i : Isl) (v : ℕ) :
    Keeps 0 32 s (State.setIsl s i v) := by
  have h_s : Keeps 0 32 s s := Keeps.rfl
  delta State.setIsl
  refine Keeps.set (.of rfl in_MG_ISLAND_STATE) ?_
  exact h_s

theorem State.fault_keeps (s : State) (cls : ℕ) (i : Isl) :
    Keeps 0 0x2000 s (State.fault s cls i) := by
  have h_s : Keeps 0 0x2000 s s := Keeps.rfl
  delta State.fault
  refine Keeps.wrap (.of rfl in_MG_FAULT_LAST) ?_
  refine Keeps.set (.of rfl in_MG_FAULT_LAST) ?_
  refine Keeps.set (.of rfl in_MG_FAULT_LAST) ?_
  exact h_s

theorem State.plainWrite_keeps {P B : Nat} {s0 : State} {s : State} {off : ℕ} {v : ℕ} (hp : P &&& 98560 = 98560) (hb : B &&& 0x800000000000000000000000000000000000000000000000018088800000 = 0x800000000000000000000000000000000000000000000000018088800000) (hr : RowIn B off)
    (h_s : Keeps P B s0 s)  :
    Keeps P B s0 (State.plainWrite s off v) := by
  delta State.plainWrite
  split
  · exact h_s
  · extract_lets -underBinder -useContext y1 y2
    have hy2 : Keeps P B s0 y2 := by
      refine Keeps.setReg hr ?_
      exact h_s
    refine ite_of (Q := Keeps P B s0) ?_ ?_
    · refine Keeps.app (State.raise_keeps _ _) (sub_of hp rfl) (sub_of hb rfl) ?_
      exact hy2
    · exact hy2

theorem State.plainWrite_keepsAny (s : State) (off : ℕ) (v : ℕ) :
    Keeps 360704 (2 ^ 241 - 1) s (State.plainWrite s off v) := by
  have h_s : Keeps 360704 (2 ^ 241 - 1) s s := Keeps.rfl
  delta State.plainWrite
  split
  · exact h_s
  · extract_lets -underBinder -useContext y1 y2
    have hy2 : Keeps 360704 (2 ^ 241 - 1) s y2 := by
      refine Keeps.setRegAny rfl ?_
      exact h_s
    refine ite_of (Q := Keeps 360704 (2 ^ 241 - 1) s) ?_ ?_
    · refine Keeps.app (State.raise_keeps _ _) rfl rfl ?_
      exact hy2
    · exact hy2

theorem State.noteReset_keeps (s : State) (code : ℕ) (i : Isl) :
    Keeps 0 3 s (State.noteReset s code i) := by
  have h_s : Keeps 0 3 s s := Keeps.rfl
  delta State.noteReset
  refine Keeps.count (.of rfl in_MG_RESET_CNT) ?_
  refine Keeps.set (.of rfl in_MG_RESET_CAUSE) ?_
  refine Keeps.set (.of rfl in_MG_RESET_CAUSE) ?_
  exact h_s

theorem State.command_keeps {P B : Nat} {s0 : State} {s : State} {d : Desc} {c : CmdSpec} {ranges : List (ℕ × Bool)} {body : State → State} (hp : P &&& 256 = 256) (hb : B &&& 0x0 = 0x0)
    (h_s : Keeps P B s0 s) (h_body : ∀ x, Keeps P B s0 x → Keeps P B s0 (body x)) :
    Keeps P B s0 (State.command s d c ranges body) := by
  delta State.command
  split
  · refine Keeps.app (State.complete_keeps _ _ _ _ _) (sub_of hp rfl) (sub_of hb rfl) ?_
    exact h_s
  · refine h_body _ ?_
    exact h_s

theorem State.ringError_keeps (s : State) (q : RingQ) :
    Keeps 98560 0x8000000000000000000000000000000000000000000000000180888A0000 s (State.ringError s q) := by
  have h_s : Keeps 98560 0x8000000000000000000000000000000000000000000000000180888A0000 s s := Keeps.rfl
  delta State.ringError
  extract_lets -underBinder -useContext y0 y1
  have hy0 : Keeps 98560 0x8000000000000000000000000000000000000000000000000180888A0000 s y0 := by
    refine Keeps.setErr rfl ?_
    exact h_s
  have hy1 : Keeps 98560 0x8000000000000000000000000000000000000000000000000180888A0000 s y1 := by
    subst y1
    split
    · refine Keeps.set (.of rfl (in_HI_SQ_STATUS _ (by first | exact Fin.isLt _ | omega))) ?_
      exact hy0
    · exact hy0
  refine Keeps.app (State.raise_keeps _ _) rfl rfl ?_
  exact hy1

theorem State.ok_keeps (s : State) (d : Desc) (bytes : List Byte) :
    Keeps 256 0 s (State.ok s d bytes) := by
  have h_s : Keeps 256 0 s s := Keeps.rfl
  delta State.ok
  refine Keeps.app (State.complete_keeps _ _ _ _ _) rfl rfl ?_
  exact h_s

theorem State.log_keeps (s : State) (e : LogE) : Keeps 98576 0x800000000000000000000000000080000000000000000000018088800000 s (s.log e) := by
  have h_s : Keeps 98576 0x800000000000000000000000000080000000000000000000018088800000 s s := Keeps.rfl
  unfold State.log
  refine ite_of (Q := Keeps 98576 0x800000000000000000000000000080000000000000000000018088800000 s) ?_ ?_
  · exact Keeps.app (State.raise_keeps ..) rfl rfl (Keeps.count (.of rfl in_BIL_LOG_STATUS) h_s)
  · have h1 : Keeps 98576 0x800000000000000000000000000080000000000000000000018088800000 s (({ s with bil := { s.bil with log := s.logBytes e :: s.bil.log } } : State).set
        F.BIL_LOG_STATUS_USED (s.get F.BIL_LOG_STATUS_USED + 1)) :=
      Keeps.set (.of rfl in_BIL_LOG_STATUS)
        (Keeps.bil_ rfl ⟨List.suffix_cons _ _, fun h => s.chained_logBytes e h, fun h n c => h n c⟩ h_s)
    have h2 := ite_of (c := s.get F.BIL_LOG_STATUS_USED + 1 = 3584) (Q := Keeps 98576 0x800000000000000000000000000080000000000000000000018088800000 s)
      (Keeps.app (State.raise_keeps _ { src := 56 }) rfl rfl h1) h1
    exact ite_of (Q := Keeps 98576 0x800000000000000000000000000080000000000000000000018088800000 s)
      (Keeps.app (State.raise_keeps ..) rfl rfl (Keeps.set (.of rfl in_BIL_LOG_STATUS) h2)) h2

end Sys2Proof.Machine
end

