-- ==== Sys2Proof/Laws/KeepsKeys.lean ====
section
/-! SUPPORT. What the operations of Machine/Keys.lean can change, one lemma each (Laws/Keeps.lean says how it is read). -/

namespace Sys2Proof.Machine

theorem State.blowFuse_keeps {P B : Nat} {s0 : State} {s : State} {f : Fld} (hp : P &&& 4096 = 4096) (_hb : B &&& 0x0 = 0x0) (hr : RowIn B f.off)
    (h_s : Keeps P B s0 s)  :
    KeepsE P B s0 (State.blowFuse s f) := by
  delta State.blowFuse
  extract_lets -underBinder -useContext y0 y1 y2
  refine ite_of (Q := KeepsE P B s0) ?_ ?_
  · refine KeepsE.mk ?_
    refine Keeps.set hr ?_
    exact Keeps.key_ (bit_of hp rfl) h_s
  · refine KeepsE.mk ?_
    refine Keeps.set hr ?_
    exact Keeps.key_ (bit_of hp rfl) h_s

theorem State.keyShow_keeps (s : State) :
    Keeps 0 0x84000000000000000000000000000000000000000000000000000 s (State.keyShow s) := by
  have h_s : Keeps 0 0x84000000000000000000000000000000000000000000000000000 s s := Keeps.rfl
  delta State.keyShow
  extract_lets -underBinder -useContext y0 y1 y2
  have hy1 : Keeps 0 0x84000000000000000000000000000000000000000000000000000 s y1 := by
    refine Keeps.set (.of rfl in_KEY_STATUS) ?_
    exact h_s
  have hy2 : Keeps 0 0x84000000000000000000000000000000000000000000000000000 s y2 := by
    refine Keeps.set (.of rfl in_KEY_STATUS) ?_
    exact hy1
  refine Keeps.set (.of rfl in_KEY_RDG_KID) ?_
  exact hy2

theorem State.setSlots_keeps (s : State) (l : List KeySlot) :
    Keeps 4096 0x84000000000000000000000000000000000000000000000000000 s (State.setSlots s l) := by
  have h_s : Keeps 4096 0x84000000000000000000000000000000000000000000000000000 s s := Keeps.rfl
  delta State.setSlots
  extract_lets -underBinder -useContext y0
  refine Keeps.app (State.keyShow_keeps _) rfl rfl ?_
  exact Keeps.key_ rfl h_s

theorem State.tamper_keeps (s : State) (n : Fin 4) :
    Keeps 102656 0x80000048C000000000000000000000000000000000000000018088800000 s (State.tamper s n) := by
  have h_s : Keeps 102656 0x80000048C000000000000000000000000000000000000000018088800000 s s := Keeps.rfl
  delta State.tamper
  extract_lets -underBinder -useContext y0 y1 y2 y3 y4 y5 y6 y7
  have hy1 : Keeps 102656 0x80000048C000000000000000000000000000000000000000018088800000 s y1 := by
    exact Keeps.key_ rfl h_s
  have hy2 : Keeps 102656 0x80000048C000000000000000000000000000000000000000018088800000 s y2 := by
    refine Keeps.setBit (.of rfl in_KEY_TMP_STAT) ?_
    exact hy1
  have hy4 : Keeps 102656 0x80000048C000000000000000000000000000000000000000018088800000 s y4 := by
    refine Keeps.set (.of rfl in_KEY_LIFE) ?_
    exact hy2
  have hy6 : Keeps 102656 0x80000048C000000000000000000000000000000000000000018088800000 s y6 := by
    exact Keeps.key_ rfl hy4
  have hy7 : Keeps 102656 0x80000048C000000000000000000000000000000000000000018088800000 s y7 := by
    refine ite_of (Q := Keeps 102656 0x80000048C000000000000000000000000000000000000000018088800000 s) ?_ ?_
    · refine Keeps.set (.of rfl in_KEY_TMP_STAT) ?_
      refine Keeps.app (State.setSlots_keeps _ _) rfl rfl ?_
      exact hy6
    · exact hy4
  refine Keeps.app (State.raise_keeps _ _) rfl rfl ?_
  exact hy7

theorem execTamperInput_keeps (n : Fin 4) (s : State) :
    KeepsO 102656 0x80000048C000000000000000000000000000000000000000018088800000 s (execTamperInput n s) := by
  have h_s : Keeps 102656 0x80000048C000000000000000000000000000000000000000018088800000 s s := Keeps.rfl
  delta execTamperInput
  extract_lets -underBinder -useContext y0
  have hy0 : Keeps 102656 0x80000048C000000000000000000000000000000000000000018088800000 s y0 := by
    refine Keeps.setBit (.of rfl in_KEY_TMP_STAT) ?_
    exact h_s
  refine ite_of (Q := KeepsO 102656 0x80000048C000000000000000000000000000000000000000018088800000 s) ?_ ?_
  · refine KeepsO.next ?_
    exact hy0
  · refine KeepsO.next ?_
    refine Keeps.app (State.tamper_keeps _ _) rfl rfl ?_
    exact hy0

theorem State.destroySlot_keeps (s : State) (no : ℕ) :
    KeepsF 102656 0x800000084000000000000000000000000000000000000000018088800000 s (State.destroySlot s no) := by
  have h_s : Keeps 102656 0x800000084000000000000000000000000000000000000000018088800000 s s := Keeps.rfl
  delta State.destroySlot
  extract_lets -underBinder -useContext y0 y1 y2 y3 y4 y5
  have hy3 : Keeps 102656 0x800000084000000000000000000000000000000000000000018088800000 s y3 := by
    refine Keeps.app (State.setSlots_keeps _ _) rfl rfl ?_
    exact h_s
  have hy5 : Keeps 102656 0x800000084000000000000000000000000000000000000000018088800000 s y5 := by
    exact Keeps.key_ rfl hy3
  refine KeepsF.mk ?_
  refine Keeps.app (State.raise_keeps _ _) rfl rfl ?_
  exact hy5

theorem State.signWith_keeps (s : State) (k : KeySlot) (body : List Byte) :
    KeepsE 131072 0 s (State.signWith s k body) := by
  have h_s : Keeps 131072 0 s s := Keeps.rfl
  delta State.signWith
  split
  · rename_i _ y1 hx
    have hy1 : Keeps 131072 0 s y1 := KeepsE.of_eq (by
        refine KeepsE.app (State.fresh_keeps _) rfl rfl ?_
        exact h_s) hx
    refine KeepsE.mk ?_
    exact hy1

theorem State.countUse_keeps (s : State) (no : ℕ) :
    Keeps 102656 0x800000084000000000000000000000000000000000000000018088800000 s (State.countUse s no) := by
  have h_s : Keeps 102656 0x800000084000000000000000000000000000000000000000018088800000 s s := Keeps.rfl
  delta State.countUse
  refine ite_of (Q := Keeps 102656 0x800000084000000000000000000000000000000000000000018088800000 s) ?_ ?_
  · exact h_s
  · split
    · exact h_s
    · split
      · exact h_s
      · extract_lets -underBinder -useContext y2
        have hy2 : Keeps 102656 0x800000084000000000000000000000000000000000000000018088800000 s y2 := by
          refine Keeps.app (State.setSlots_keeps _ _) rfl rfl ?_
          exact h_s
        refine ite_of (Q := Keeps 102656 0x800000084000000000000000000000000000000000000000018088800000 s) ?_ ?_
        · refine KeepsF.fst ?_
          refine KeepsF.app (State.destroySlot_keeps _ _) rfl rfl ?_
          exact hy2
        · exact hy2

theorem execAttest_keeps (d : Desc) (s : State) :
    KeepsO 364800 0x800000084000000000000000000000000000000000000000018088800000 s (execAttest d s) := by
  have h_s : Keeps 364800 0x800000084000000000000000000000000000000000000000018088800000 s s := Keeps.rfl
  delta execAttest
  extract_lets -underBinder -useContext y0
  refine KeepsO.next ?_
  refine State.command_keeps (P := 364800) (B := 0x800000084000000000000000000000000000000000000000018088800000) rfl rfl ?_ (fun y1 hy1 => ?_)
  · exact h_s
  · split
    · refine Keeps.app (State.complete_keeps _ _ _ _ _) rfl rfl ?_
      exact hy1
    · extract_lets -underBinder -useContext y3 y4 y5
      have hy5 : Keeps 364800 0x800000084000000000000000000000000000000000000000018088800000 s y5 := by
        refine Keeps.app (State.store_keeps _ _ _) rfl rfl ?_
        exact hy1
      refine ite_of (Q := Keeps 364800 0x800000084000000000000000000000000000000000000000018088800000 s) ?_ ?_
      · refine Keeps.app (State.complete_keeps _ _ _ _ _) rfl rfl ?_
        exact hy1
      · refine Keeps.app (State.ok_keeps _ _ _) rfl rfl ?_
        refine Keeps.app (State.countUse_keeps _ _) rfl rfl ?_
        exact hy5

theorem State.checkTag_keeps (s : State) (slot : ℕ) (body : List Byte) (tag : List Byte) :
    KeepsM 102656 0x800000084000000000000000000000000000000000000000018088800000 s (State.checkTag s slot body tag) := by
  have h_s : Keeps 102656 0x800000084000000000000000000000000000000000000000018088800000 s s := Keeps.rfl
  delta State.checkTag
  split
  · exact KeepsM.none
  · refine ite_of (Q := KeepsM 102656 0x800000084000000000000000000000000000000000000000018088800000 s) ?_ ?_
    · exact KeepsM.none
    · refine KeepsM.some ?_
      refine Keeps.app (State.countUse_keeps _ _) rfl rfl ?_
      refine Keeps.app (State.setSlots_keeps _ _) rfl rfl ?_
      exact h_s

theorem execWriteKey_keeps (d : Desc) (s : State) :
    KeepsO 299264 0x84000000000000000000000000000000000000000000000000000 s (execWriteKey d s) := by
  have h_s : Keeps 299264 0x84000000000000000000000000000000000000000000000000000 s s := Keeps.rfl
  delta execWriteKey
  extract_lets -underBinder -useContext y0 y1
  refine KeepsO.next ?_
  refine State.command_keeps (P := 299264) (B := 0x84000000000000000000000000000000000000000000000000000) rfl rfl ?_ (fun y2 hy2 => ?_)
  · exact h_s
  · extract_lets -underBinder -useContext y3 y4 y5
    have hy5 : Keeps 299264 0x84000000000000000000000000000000000000000000000000000 s y5 := by
      refine Keeps.app (State.setSlots_keeps _ _) rfl rfl ?_
      exact hy2
    refine ite_of (Q := Keeps 299264 0x84000000000000000000000000000000000000000000000000000 s) ?_ ?_
    · refine Keeps.app (State.complete_keeps _ _ _ _ _) rfl rfl ?_
      exact hy2
    · refine ite_of (Q := Keeps 299264 0x84000000000000000000000000000000000000000000000000000 s) ?_ ?_
      · refine Keeps.app (State.complete_keeps _ _ _ _ _) rfl rfl ?_
        exact hy2
      · refine ite_of (Q := Keeps 299264 0x84000000000000000000000000000000000000000000000000000 s) ?_ ?_
        · refine Keeps.app (State.complete_keeps _ _ _ _ _) rfl rfl ?_
          exact hy2
        · refine Keeps.app (State.ok_keeps _ _ _) rfl rfl ?_
          refine Keeps.app (State.store_keeps _ _ _) rfl rfl ?_
          exact hy5

theorem execDeriveKey_keeps (d : Desc) (s : State) :
    KeepsO 102656 0x800000084000000000000000000000000000000000000000018088800000 s (execDeriveKey d s) := by
  have h_s : Keeps 102656 0x800000084000000000000000000000000000000000000000018088800000 s s := Keeps.rfl
  delta execDeriveKey
  extract_lets -underBinder -useContext y0 y1
  refine KeepsO.next ?_
  refine State.command_keeps (P := 102656) (B := 0x800000084000000000000000000000000000000000000000018088800000) rfl rfl ?_ (fun y2 hy2 => ?_)
  · exact h_s
  · extract_lets -underBinder -useContext y3 y4
    refine ite_of (Q := Keeps 102656 0x800000084000000000000000000000000000000000000000018088800000 s) ?_ ?_
    · refine Keeps.app (State.complete_keeps _ _ _ _ _) rfl rfl ?_
      exact hy2
    · split
      · refine Keeps.app (State.complete_keeps _ _ _ _ _) rfl rfl ?_
        exact hy2
      · extract_lets -underBinder -useContext y6 y7
        have hy7 : Keeps 102656 0x800000084000000000000000000000000000000000000000018088800000 s y7 := by
          refine Keeps.app (State.setSlots_keeps _ _) rfl rfl ?_
          exact hy2
        refine ite_of (Q := Keeps 102656 0x800000084000000000000000000000000000000000000000018088800000 s) ?_ ?_
        · refine Keeps.app (State.complete_keeps _ _ _ _ _) rfl rfl ?_
          exact hy2
        · refine ite_of (Q := Keeps 102656 0x800000084000000000000000000000000000000000000000018088800000 s) ?_ ?_
          · refine Keeps.app (State.complete_keeps _ _ _ _ _) rfl rfl ?_
            exact hy2
          · refine ite_of (Q := Keeps 102656 0x800000084000000000000000000000000000000000000000018088800000 s) ?_ ?_
            · refine Keeps.app (State.complete_keeps _ _ _ _ _) rfl rfl ?_
              exact hy2
            · refine Keeps.app (State.ok_keeps _ _ _) rfl rfl ?_
              refine Keeps.app (State.countUse_keeps _ _) rfl rfl ?_
              exact hy7

theorem State.limited_keeps {P B : Nat} {s0 : State} {s : State} {d : Desc} {f : Fld} {change : State → State} (hp : P &&& 4352 = 4352) (hb : B &&& 0x0 = 0x0) (hr : RowIn B f.off)
    (h_s : Keeps P B s0 s) (h_change : ∀ x, Keeps P B s0 x → Keeps P B s0 (change x)) :
    Keeps P B s0 (State.limited s d f change) := by
  delta State.limited
  refine ite_of (Q := Keeps P B s0) ?_ ?_
  · refine Keeps.app (State.complete_keeps _ _ _ _ _) (sub_of hp rfl) (sub_of hb rfl) ?_
    exact h_s
  · split
    · rename_i y0 hx
      have hy0 : Keeps P B s0 y0 := KeepsE.of_eq (by
          refine State.blowFuse_keeps (P := P) (B := B) (sub_of hp rfl) (sub_of hb rfl) hr ?_
          exact h_s) hx
      refine Keeps.app (State.complete_keeps _ _ _ _ _) (sub_of hp rfl) (sub_of hb rfl) ?_
      exact hy0
    · rename_i y1 hx
      have hy1 : Keeps P B s0 y1 := KeepsE.of_eq (by
          refine State.blowFuse_keeps (P := P) (B := B) (sub_of hp rfl) (sub_of hb rfl) hr ?_
          exact h_s) hx
      refine h_change _ ?_
      exact hy1

theorem State.setDebug_keeps (s : State) (on : Bool) :
    Keeps 98560 0x800000004000000000000000000000000000000000000000018088800000 s (State.setDebug s on) := by
  have h_s : Keeps 98560 0x800000004000000000000000000000000000000000000000018088800000 s s := Keeps.rfl
  delta State.setDebug
  refine ite_of (Q := Keeps 98560 0x800000004000000000000000000000000000000000000000018088800000 s) ?_ ?_
  · exact h_s
  · refine Keeps.app (State.raise_keeps _ _) rfl rfl ?_
    refine Keeps.set (.of rfl in_KEY_STATUS) ?_
    exact h_s

theorem execDebugKill_keeps (d : Desc) (s : State) :
    KeepsO 102672 0x80000001C000000000000000000080000000000000000000018088800000 s (execDebugKill d s) := by
  have h_s : Keeps 102672 0x80000001C000000000000000000080000000000000000000018088800000 s s := Keeps.rfl
  delta execDebugKill
  refine KeepsO.next ?_
  refine State.command_keeps (P := 102672) (B := 0x80000001C000000000000000000080000000000000000000018088800000) rfl rfl ?_ (fun y0 hy0 => ?_)
  · exact h_s
  · split
    · refine Keeps.app (State.complete_keeps _ _ _ _ _) rfl rfl ?_
      exact hy0
    · refine State.limited_keeps (P := 102672) (B := 0x80000001C000000000000000000080000000000000000000018088800000) rfl rfl (.of rfl in_KEY_CHG_LEFT) ?_ (fun y3 hy3 => ?_)
      · exact hy0
      · extract_lets -underBinder -useContext y4 y5
        have hy4 : Keeps 102672 0x80000001C000000000000000000080000000000000000000018088800000 s y4 := by
          refine Keeps.app (State.setDebug_keeps _ _) rfl rfl ?_
          refine Keeps.set (.of rfl in_KEY_LIFE) ?_
          exact hy3
        have hy5 : Keeps 102672 0x80000001C000000000000000000080000000000000000000018088800000 s y5 := by
          refine Keeps.app (State.log_keeps _ _) rfl rfl ?_
          exact hy4
        refine Keeps.app (State.ok_keeps _ _ _) rfl rfl ?_
        refine Keeps.app (State.raise_keeps _ _) rfl rfl ?_
        exact hy5

theorem execDestroyKey_keeps (d : Desc) (s : State) :
    KeepsO 102656 0x800000084000000000000000000000000000000000000000018088800000 s (execDestroyKey d s) := by
  have h_s : Keeps 102656 0x800000084000000000000000000000000000000000000000018088800000 s s := Keeps.rfl
  delta execDestroyKey
  refine KeepsO.next ?_
  refine State.command_keeps (P := 102656) (B := 0x800000084000000000000000000000000000000000000000018088800000) rfl rfl ?_ (fun y0 hy0 => ?_)
  · exact h_s
  · extract_lets -underBinder -useContext y1
    split
    · refine Keeps.app (State.complete_keeps _ _ _ _ _) rfl rfl ?_
      exact hy0
    · extract_lets -underBinder -useContext y3
      have hy3 : KeepsF 102656 0x800000084000000000000000000000000000000000000000018088800000 s y3 := by
        refine KeepsF.app (State.destroySlot_keeps _ _) rfl rfl ?_
        exact hy0
      refine ite_of (Q := Keeps 102656 0x800000084000000000000000000000000000000000000000018088800000 s) ?_ ?_
      · refine Keeps.app (State.complete_keeps _ _ _ _ _) rfl rfl ?_
        exact hy0
      · refine Keeps.app (State.ok_keeps _ _ _) rfl rfl ?_
        refine KeepsF.fst ?_
        exact hy3

theorem execKeyStatement_keeps (d : Desc) (s : State) :
    KeepsO 426240 0 s (execKeyStatement d s) := by
  have h_s : Keeps 426240 0 s s := Keeps.rfl
  delta execKeyStatement
  refine KeepsO.next ?_
  refine State.command_keeps (P := 426240) (B := 0) rfl rfl ?_ (fun y0 hy0 => ?_)
  · exact h_s
  · split
    · refine Keeps.app (State.complete_keeps _ _ _ _ _) rfl rfl ?_
      exact hy0
    · extract_lets -underBinder -useContext y2 y3
      refine ite_of (Q := Keeps 426240 0 s) ?_ ?_
      · refine Keeps.app (State.complete_keeps _ _ _ _ _) rfl rfl ?_
        exact hy0
      · split
        · rename_i _ y5 hx
          have hy5 : Keeps 426240 0 s y5 := KeepsE.of_eq (by
              refine KeepsE.app (State.signWith_keeps _ _ _) rfl rfl ?_
              exact hy0) hx
          refine Keeps.app (State.ok_keeps _ _ _) rfl rfl ?_
          refine Keeps.app (State.store_keeps _ _ _) rfl rfl ?_
          exact hy5

theorem execTamperInputReturn_keeps (n : Fin 4) (s : State) :
    KeepsO 4096 0x400000000000000000000000000000000000000000000000000000 s (execTamperInputReturn n s) := by
  have h_s : Keeps 4096 0x400000000000000000000000000000000000000000000000000000 s s := Keeps.rfl
  delta execTamperInputReturn
  extract_lets -underBinder -useContext y0 y1
  have hy0 : Keeps 4096 0x400000000000000000000000000000000000000000000000000000 s y0 := by
    refine Keeps.setBit (.of rfl in_KEY_TMP_STAT) ?_
    exact h_s
  refine KeepsO.next ?_
  exact Keeps.key_ rfl hy0

theorem State.rootFault_keeps (s : State) :
    Keeps 98560 0x800000084000000000000000000000000000000000000000018088802000 s (State.rootFault s) := by
  have h_s : Keeps 98560 0x800000084000000000000000000000000000000000000000018088802000 s s := Keeps.rfl
  delta State.rootFault
  extract_lets -underBinder -useContext y0
  have hy0 : Keeps 98560 0x800000084000000000000000000000000000000000000000018088802000 s y0 := by
    refine Keeps.app (State.raise_keeps _ _) rfl rfl ?_
    refine Keeps.set (.of rfl in_KEY_STATUS) ?_
    exact h_s
  refine Keeps.app (State.keyShow_keeps _) rfl rfl ?_
  refine Keeps.app (State.fault_keeps _ _ _) rfl rfl ?_
  exact hy0

theorem execKeyUseRequest_keeps (requester : Fin 21) (slot : BitVec 9) (use : Fin 7) (checkOk : Bool) (rebuildOk : Bool) (s : State) :
    KeepsO 102656 0x800000084000000000000000000000000000000000000000018088802000 s (execKeyUseRequest requester slot use checkOk rebuildOk s) := by
  have h_s : Keeps 102656 0x800000084000000000000000000000000000000000000000018088802000 s s := Keeps.rfl
  delta execKeyUseRequest
  split
  · refine KeepsO.next ?_
    exact h_s
  · extract_lets -underBinder -useContext y1
    have hy1 : Keeps 102656 0x800000084000000000000000000000000000000000000000018088802000 s y1 := by
      refine Keeps.app (State.setSlots_keeps _ _) rfl rfl ?_
      exact h_s
    refine ite_of (Q := KeepsO 102656 0x800000084000000000000000000000000000000000000000018088802000 s) ?_ ?_
    · refine KeepsO.next ?_
      refine Keeps.app (State.countUse_keeps _ _) rfl rfl ?_
      exact h_s
    · refine ite_of (Q := KeepsO 102656 0x800000084000000000000000000000000000000000000000018088802000 s) ?_ ?_
      · refine KeepsO.next ?_
        refine ite_of (Q := Keeps 102656 0x800000084000000000000000000000000000000000000000018088802000 s) ?_ ?_
        · exact h_s
        · refine Keeps.app (State.rootFault_keeps _) rfl rfl ?_
          exact h_s
      · refine KeepsO.next ?_
        refine Keeps.app (State.fault_keeps _ _ _) rfl rfl ?_
        refine Keeps.app (State.raise_keeps _ _) rfl rfl ?_
        exact hy1

theorem execSelectDestructionModes_keeps (d : Desc) (s : State) :
    KeepsO 98576 0x800000008000000000000000000080000000000000000000018088800000 s (execSelectDestructionModes d s) := by
  have h_s : Keeps 98576 0x800000008000000000000000000080000000000000000000018088800000 s s := Keeps.rfl
  delta execSelectDestructionModes
  extract_lets -underBinder -useContext y0
  refine KeepsO.next ?_
  refine State.command_keeps (P := 98576) (B := 0x800000008000000000000000000080000000000000000000018088800000) rfl rfl ?_ (fun y1 hy1 => ?_)
  · exact h_s
  · extract_lets -underBinder -useContext y2
    refine ite_of (Q := Keeps 98576 0x800000008000000000000000000080000000000000000000018088800000 s) ?_ ?_
    · refine Keeps.app (State.complete_keeps _ _ _ _ _) rfl rfl ?_
      exact hy1
    · split
      · refine Keeps.app (State.complete_keeps _ _ _ _ _) rfl rfl ?_
        exact hy1
      · extract_lets -underBinder -useContext y5 y6
        have hy5 : Keeps 98576 0x800000008000000000000000000080000000000000000000018088800000 s y5 := by
          refine Keeps.set (.of rfl in_KEY_LIFE) ?_
          refine Keeps.set (.of rfl in_KEY_LIFE) ?_
          exact hy1
        have hy6 : Keeps 98576 0x800000008000000000000000000080000000000000000000018088800000 s y6 := by
          refine Keeps.app (State.log_keeps _ _) rfl rfl ?_
          exact hy5
        refine ite_of (Q := Keeps 98576 0x800000008000000000000000000080000000000000000000018088800000 s) ?_ ?_
        · refine Keeps.app (State.ok_keeps _ _ _) rfl rfl ?_
          exact hy1
        · refine ite_of (Q := Keeps 98576 0x800000008000000000000000000080000000000000000000018088800000 s) ?_ ?_
          · refine Keeps.app (State.complete_keeps _ _ _ _ _) rfl rfl ?_
            exact hy1
          · refine Keeps.app (State.ok_keeps _ _ _) rfl rfl ?_
            refine Keeps.app (State.raise_keeps _ _) rfl rfl ?_
            exact hy6

theorem execSetMeterIdentity_keeps (d : Desc) (s : State) :
    KeepsO 102672 0x8000000F4000000000000000000080000000000000000000018088800000 s (execSetMeterIdentity d s) := by
  have h_s : Keeps 102672 0x8000000F4000000000000000000080000000000000000000018088800000 s s := Keeps.rfl
  delta execSetMeterIdentity
  extract_lets -underBinder -useContext y0
  refine KeepsO.next ?_
  refine State.command_keeps (P := 102672) (B := 0x8000000F4000000000000000000080000000000000000000018088800000) rfl rfl ?_ (fun y1 hy1 => ?_)
  · exact h_s
  · split
    · refine Keeps.app (State.complete_keeps _ _ _ _ _) rfl rfl ?_
      exact hy1
    · refine State.limited_keeps (P := 102672) (B := 0x8000000F4000000000000000000080000000000000000000018088800000) rfl rfl (.of rfl in_KEY_CHG_LEFT) ?_ (fun y4 hy4 => ?_)
      · exact hy1
      · extract_lets -underBinder -useContext y5 y6 y7 y8
        have hy7 : Keeps 102672 0x8000000F4000000000000000000080000000000000000000018088800000 s y7 := by
          refine Keeps.app (State.keyShow_keeps _) rfl rfl ?_
          refine Keeps.set64 (.of rfl in_KEY_IDENT_LO) (.of rfl in_KEY_IDENT_HI) ?_
          exact hy4
        have hy8 : Keeps 102672 0x8000000F4000000000000000000080000000000000000000018088800000 s y8 := by
          refine Keeps.app (State.log_keeps _ _) rfl rfl ?_
          exact hy7
        refine Keeps.app (State.ok_keeps _ _ _) rfl rfl ?_
        refine Keeps.app (State.raise_keeps _ _) rfl rfl ?_
        exact hy8

theorem execSealChange_keeps (open_ : Bool) (s : State) :
    KeepsO 98576 0x800000004000000000000000000080000000000000000000018088800000 s (execSealChange open_ s) := by
  have h_s : Keeps 98576 0x800000004000000000000000000080000000000000000000018088800000 s s := Keeps.rfl
  delta execSealChange
  extract_lets -underBinder -useContext y0 y1 y2
  have hy0 : Keeps 98576 0x800000004000000000000000000080000000000000000000018088800000 s y0 := by
    refine Keeps.set (.of rfl in_KEY_STATUS) ?_
    exact h_s
  have hy1 : Keeps 98576 0x800000004000000000000000000080000000000000000000018088800000 s y1 := by
    refine Keeps.app (State.log_keeps _ _) rfl rfl ?_
    exact hy0
  have hy2 : Keeps 98576 0x800000004000000000000000000080000000000000000000018088800000 s y2 := by
    refine Keeps.app (State.raise_keeps _ _) rfl rfl ?_
    exact hy1
  refine ite_of (Q := KeepsO 98576 0x800000004000000000000000000080000000000000000000018088800000 s) ?_ ?_
  · refine KeepsO.next ?_
    exact h_s
  · refine KeepsO.next ?_
    refine ite_of (Q := Keeps 98576 0x800000004000000000000000000080000000000000000000018088800000 s) ?_ ?_
    · exact hy2
    · refine Keeps.app (State.setDebug_keeps _ _) rfl rfl ?_
      exact hy2

theorem execEnrolIntegratorKey_keeps (d : Desc) (s : State) :
    KeepsO 102672 0x800000110000000000000000000080000000000000000000018088800000 s (execEnrolIntegratorKey d s) := by
  have h_s : Keeps 102672 0x800000110000000000000000000080000000000000000000018088800000 s s := Keeps.rfl
  delta execEnrolIntegratorKey
  refine KeepsO.next ?_
  refine State.command_keeps (P := 102672) (B := 0x800000110000000000000000000080000000000000000000018088800000) rfl rfl ?_ (fun y0 hy0 => ?_)
  · exact h_s
  · split
    · refine Keeps.app (State.complete_keeps _ _ _ _ _) rfl rfl ?_
      exact hy0
    · refine State.limited_keeps (P := 102672) (B := 0x800000110000000000000000000080000000000000000000018088800000) rfl rfl (.of rfl in_KEY_CHG_LEFT) ?_ (fun y3 hy3 => ?_)
      · exact hy0
      · extract_lets -underBinder -useContext y4 y5 y6 y7 y8 y9 y10
        have hy7 : Keeps 102672 0x800000110000000000000000000080000000000000000000018088800000 s y7 := by
          exact Keeps.key_ rfl hy3
        have hy9 : Keeps 102672 0x800000110000000000000000000080000000000000000000018088800000 s y9 := by
          refine Keeps.set (.of rfl in_KEY_INTEG) ?_
          exact hy7
        have hy10 : Keeps 102672 0x800000110000000000000000000080000000000000000000018088800000 s y10 := by
          refine Keeps.app (State.log_keeps _ _) rfl rfl ?_
          exact hy9
        refine Keeps.app (State.ok_keeps _ _ _) rfl rfl ?_
        refine Keeps.app (State.raise_keeps _ _) rfl rfl ?_
        exact hy10

theorem execDebugPort_keeps (d : Desc) (s : State) :
    KeepsO 98560 0x800000004000000000000000000000000000000000000000018088800000 s (execDebugPort d s) := by
  have h_s : Keeps 98560 0x800000004000000000000000000000000000000000000000018088800000 s s := Keeps.rfl
  delta execDebugPort
  refine KeepsO.next ?_
  refine State.command_keeps (P := 98560) (B := 0x800000004000000000000000000000000000000000000000018088800000) rfl rfl ?_ (fun y0 hy0 => ?_)
  · exact h_s
  · extract_lets -underBinder -useContext y1
    split
    · refine Keeps.app (State.complete_keeps _ _ _ _ _) rfl rfl ?_
      exact hy0
    · refine Keeps.app (State.ok_keeps _ _ _) rfl rfl ?_
      refine Keeps.app (State.setDebug_keeps _ _) rfl rfl ?_
      exact hy0

end Sys2Proof.Machine
end

