-- ==== Sys2Proof/Laws/KeepsReports.lean ====
section
/-! SUPPORT. What the operations of Machine/Reports.lean can change, one lemma each (Laws/Keeps.lean says how it is read). -/

namespace Sys2Proof.Machine

theorem State.mirrored_keeps (s : State) :
    Keeps 65536 0 s (State.mirrored s) := by
  have h_s : Keeps 65536 0 s s := Keeps.rfl
  delta State.mirrored
  refine ite_of (Q := Keeps 65536 0 s) ?_ ?_
  · refine Keeps.app (State.emit_keeps _ _) rfl rfl ?_
    exact h_s
  · exact h_s

theorem State.issueReport_keeps (s : State) (type_ : Byte) (body : List Byte) :
    Keeps 66560 0x100000000000000000000000000000000000000000000000000 s (State.issueReport s type_ body) := by
  have h_s : Keeps 66560 0x100000000000000000000000000000000000000000000000000 s s := Keeps.rfl
  delta State.issueReport
  extract_lets -underBinder -useContext y0 y1 y2 y3 y4
  have hy1 : Keeps 66560 0x100000000000000000000000000000000000000000000000000 s y1 := by
    refine Keeps.setReg (.of rfl in_FAB_REP_SEQ) ?_
    exact h_s
  refine Keeps.app (State.mirrored_keeps _) rfl rfl ?_
  exact Keeps.fab_ rfl hy1

theorem State.offerReport_keeps (s : State) (kind : ℕ) (point : Fin 8) (bytes : List Byte) :
    Keeps 66560 0x100000000000000000000000000000000000000000000000000 s (State.offerReport s kind point bytes) := by
  have h_s : Keeps 66560 0x100000000000000000000000000000000000000000000000000 s s := Keeps.rfl
  delta State.offerReport
  extract_lets -underBinder -useContext y0 y1 y2 y3 y4 y5
  refine ite_of (Q := Keeps 66560 0x100000000000000000000000000000000000000000000000000 s) ?_ ?_
  · exact h_s
  · refine ite_of (Q := Keeps 66560 0x100000000000000000000000000000000000000000000000000 s) ?_ ?_
    · refine ite_of (Q := Keeps 66560 0x100000000000000000000000000000000000000000000000000 s) ?_ ?_
      · refine Keeps.app (State.issueReport_keeps _ _ _) rfl rfl ?_
        exact h_s
      · exact h_s
    · exact Keeps.fab_ rfl h_s

end Sys2Proof.Machine
end

