-- ==== Sys2Proof/Laws/KeepsBilling.lean ====
section
/-! SUPPORT. What the operations of Machine/Billing.lean can change, one lemma each (Laws/Keeps.lean says how it is read). -/

namespace Sys2Proof.Machine

/-- A point's blocks with totals equal to the sums of their rates. -/
def PointBill.sums (p : PointBill) : Prop := ∀ c : Fin 12, p.blocks[c].total = p.blocks[c].rateSum

theorem BilS.sums_point {b : BilS} (h : b.sums) (n : Fin 8) : b.points[n].sums := h n

theorem BilS.sums_set {b : BilS} (h : b.sums) (n : Fin 8) {p : PointBill} (hp : p.sums) :
    BilS.sums { b with points := b.points.set n p } := by
  intro m c
  by_cases e : n = m
  · subst e
    simpa using hp c
  · have e' : n.val ≠ m.val := fun x => e (Fin.ext x)
    have : (b.points.set n p)[m] = b.points[m] := by
      simp only [Fin.getElem_fin]
      exact Vector.getElem_set_ne _ _ e'
    show ((b.points.set n p)[m]).blocks[c].total = ((b.points.set n p)[m]).blocks[c].rateSum
    rw [this]
    exact h m c

/-- Every point mapped by something that leaves its blocks alone. -/
theorem BilS.sums_map {b : BilS} (h : b.sums) (x : Vector (Vector Block 12 × Vector MaxDem 16) 8) :
    BilS.sums { b with prev := x, points := b.points.map (fun p => { p with maxDem := Vector.replicate 16 ⟨0, 0, 0⟩ }) } := by
  intro n c
  have := h n c
  simpa using this

/-- A credit keeps every block's total equal to the sum of its rates. -/
theorem creditPoint_sums {p : PointBill} (blk : PBlock) (rate : Nat) (marked setback voted2 : Bool) (h : p.sums) :
    (creditPoint p blk rate marked setback voted2).sums := by
  have key : ∀ (l : List (Fin 12 × Nat)) (bs : Vector Block 12), (∀ c : Fin 12, bs[c].total = bs[c].rateSum) →
      ∀ c : Fin 12, (l.foldl (fun (bs : Vector Block 12) ca => bs.set ca.1 (bs[ca.1].credit ca.2 rate marked)) bs)[c].total =
        (l.foldl (fun (bs : Vector Block 12) ca => bs.set ca.1 (bs[ca.1].credit ca.2 rate marked)) bs)[c].rateSum := by
    intro l
    induction l with
    | nil => exact fun _ h => h
    | cons x t ih =>
      intro bs hb
      refine ih _ (fun c => ?_)
      by_cases e : x.1 = c
      · subst e
        simpa using Block.credit_sums _ x.2 rate marked (hb x.1)
      · have e' : x.1.val ≠ c.val := fun y => e (Fin.ext y)
        have : (bs.set x.1 (bs[x.1].credit x.2 rate marked))[c] = bs[c] := by
          simp only [Fin.getElem_fin]
          exact Vector.getElem_set_ne _ _ e'
        rw [this]
        exact hb c
  exact key _ _ h

theorem execLoadCalibrationSet_keeps (d : Desc) (s : State) :
    KeepsO 102676 0x800000010000000000000000000080000000000000000000618088800000 s (execLoadCalibrationSet d s) := by
  have h_s : Keeps 102676 0x800000010000000000000000000080000000000000000000618088800000 s s := Keeps.rfl
  delta execLoadCalibrationSet
  refine KeepsO.next ?_
  refine State.command_keeps (P := 102676) (B := 0x800000010000000000000000000080000000000000000000618088800000) rfl rfl ?_ (fun y0 hy0 => ?_)
  · exact h_s
  · extract_lets -underBinder -useContext y1
    split
    · refine Keeps.app (State.complete_keeps _ _ _ _ _) rfl rfl ?_
      exact hy0
    · split
      · refine Keeps.app (State.complete_keeps _ _ _ _ _) rfl rfl ?_
        exact hy0
      · refine State.limited_keeps (P := 102676) (B := 0x800000010000000000000000000080000000000000000000618088800000) rfl rfl (.of rfl in_KEY_CHG_LEFT) ?_ (fun y5 hy5 => ?_)
        · exact hy0
        · extract_lets -underBinder -useContext y6 y7 y8 y9 y10 y11 y12
          have hy9 : Keeps 102676 0x800000010000000000000000000080000000000000000000618088800000 s y9 := by
            exact Keeps.met_ rfl hy5
          have hy10 : Keeps 102676 0x800000010000000000000000000080000000000000000000618088800000 s y10 := by
            refine Keeps.set (.of rfl in_MET_CAL_CRC) ?_
            refine Keeps.set (.of rfl in_MET_CAL_ID) ?_
            exact hy9
          have hy12 : Keeps 102676 0x800000010000000000000000000080000000000000000000618088800000 s y12 := by
            refine Keeps.app (State.log_keeps _ _) rfl rfl ?_
            exact hy10
          refine Keeps.app (State.ok_keeps _ _ _) rfl rfl ?_
          refine Keeps.app (State.raise_keeps _ _) rfl rfl ?_
          exact hy12

theorem State.setQuality_keeps (s : State) (v : ℕ) :
    Keeps 98576 0x800000000000000000000000000084000000000000000000018088800000 s (State.setQuality s v) := by
  have h_s : Keeps 98576 0x800000000000000000000000000084000000000000000000018088800000 s s := Keeps.rfl
  delta State.setQuality
  extract_lets -underBinder -useContext y0 y1
  have hy1 : Keeps 98576 0x800000000000000000000000000084000000000000000000018088800000 s y1 := by
    refine Keeps.set (.of rfl in_BIL_TIME_STATUS) ?_
    exact h_s
  refine ite_of (Q := Keeps 98576 0x800000000000000000000000000084000000000000000000018088800000 s) ?_ ?_
  · exact h_s
  · refine Keeps.app (State.raise_keeps _ _) rfl rfl ?_
    refine Keeps.app (State.log_keeps _ _) rfl rfl ?_
    exact hy1

theorem State.synced_keeps (s : State) (authentic : Bool) :
    Keeps 98577 0x800000000000000000000000000084000000000000000000018088800000 s (State.synced s authentic) := by
  have h_s : Keeps 98577 0x800000000000000000000000000084000000000000000000018088800000 s s := Keeps.rfl
  delta State.synced
  extract_lets -underBinder -useContext y0 y1
  have hy1 : Keeps 98577 0x800000000000000000000000000084000000000000000000018088800000 s y1 := by
    exact Keeps.time_ rfl h_s
  refine ite_of (Q := Keeps 98577 0x800000000000000000000000000084000000000000000000018088800000 s) ?_ ?_
  · exact hy1
  · refine Keeps.app (State.setQuality_keeps _ _) rfl rfl ?_
    exact hy1

theorem State.bumpSeq_keeps (s : State) (k : ℕ) :
    Keeps 16 0 s (State.bumpSeq s k) := by
  have h_s : Keeps 16 0 s s := Keeps.rfl
  delta State.bumpSeq
  extract_lets -underBinder -useContext y0
  exact Keeps.bil_ rfl (BilS.Ext.same rfl rfl) h_s

/-- A part of a point replaced that leaves its blocks alone. -/
theorem State.setBill_keeps (s : State) (n : Fin 8) (p : PointBill) (hp : s.bil.sums → p.sums) :
    Keeps 16 0 s (s.setBill n p) :=
  Keeps.bil_ rfl ⟨List.suffix_rfl, id, fun h => BilS.sums_set h n (hp h)⟩ Keeps.rfl


theorem State.buildReading_keeps (s : State) (r : ReadReq) (q : ℕ) (rate : ℕ) :
    Keeps 48 0x300000000000000000000000000000000 s (State.buildReading s r q rate) := by
  have h_s : Keeps 48 0x300000000000000000000000000000000 s s := Keeps.rfl
  delta State.buildReading
  extract_lets -underBinder -useContext y0 y1 y2 y3 y4 y5 y6 y7 y8 y9
  have hy1 : Keeps 48 0x300000000000000000000000000000000 s y1 := by
    refine Keeps.set64 (.of rfl in_BIL_RDG_SEQ_LO) (.of rfl in_BIL_RDG_SEQ_HI) ?_
    exact h_s
  have hy4 : Keeps 48 0x300000000000000000000000000000000 s y4 := by
    refine Keeps.app (State.setBill_keeps _ _ _ (fun h => BilS.sums_point h _)) rfl rfl ?_
    exact hy1
  exact Keeps.parts hy4 rfl rfl rfl (.inr rfl) (.inr rfl) (.inr rfl) (.inr rfl) (.inl rfl) (BilS.Ext.same rfl rfl) (.inl rfl) (.inr rfl) (.inr rfl) (.inr rfl) (.inr rfl) (.inr rfl) (.inr rfl) (.inr rfl) (.inr rfl) (.inr rfl) (.inr rfl) (.inr rfl)

theorem State.takeReadings_keeps (s : State) (q : ℕ) (rate : ℕ) :
    Keeps 48 0x300000000000000000000000000000000 s (State.takeReadings s q rate) := by
  have h_s : Keeps 48 0x300000000000000000000000000000000 s s := Keeps.rfl
  delta State.takeReadings
  extract_lets -underBinder -useContext y0 y1 y2
  have hy2 : Keeps 48 0x300000000000000000000000000000000 s y2 := by
    exact Keeps.bil_ rfl (BilS.Ext.same rfl rfl) h_s
  refine foldl_of (Q := Keeps 48 0x300000000000000000000000000000000 s) ?_ (fun y3 y4 my4 hy3 => ?_)
  · exact hy2
  · refine Keeps.app (State.buildReading_keeps _ _ _ _) rfl rfl ?_
    exact hy3

theorem State.refuseTime_keeps (s : State) (d : Desc) (st : ℕ) (det : ℕ) :
    Keeps 98560 0x800000000000000000000000000000000000000000000000018088800000 s (State.refuseTime s d st det) := by
  have h_s : Keeps 98560 0x800000000000000000000000000000000000000000000000018088800000 s s := Keeps.rfl
  delta State.refuseTime
  refine Keeps.app (State.complete_keeps _ _ _ _ _) rfl rfl ?_
  refine Keeps.app (State.raise_keeps _ _) rfl rfl ?_
  exact h_s

theorem State.showRate_keeps (s : State) :
    Keeps 0 0x800000000000000000000000000000 s (State.showRate s) := by
  have h_s : Keeps 0 0x800000000000000000000000000000 s s := Keeps.rfl
  delta State.showRate
  refine Keeps.set (.of rfl in_BIL_RATE_NOW) ?_
  exact h_s

theorem State.nextBound_keeps (s : State) :
    Keeps 0 0x3000000000000000000000000000000 s (State.nextBound s) := by
  have h_s : Keeps 0 0x3000000000000000000000000000000 s s := Keeps.rfl
  delta State.nextBound
  refine Keeps.set64 (.of rfl in_BIL_NEXT_BOUND_LO) (.of rfl in_BIL_NEXT_BOUND_HI) ?_
  exact h_s

theorem State.commitRate_keeps (s : State) (q1 : ℕ) (t1 : ℕ) :
    Keeps 98576 0x800000000000000000000000000007800000000000000000018088800000 s (State.commitRate s q1 t1) := by
  have h_s : Keeps 98576 0x800000000000000000000000000007800000000000000000018088800000 s s := Keeps.rfl
  delta State.commitRate
  extract_lets -underBinder -useContext y0 y3 y4 y5 y6 y7 y8 y9 y10 y11
  have hy0 : Keeps 98576 0x800000000000000000000000000007800000000000000000018088800000 s y0 := by
    subst y0
    split
    · extract_lets -underBinder -useContext y2
      refine ite_of (Q := Keeps 98576 0x800000000000000000000000000007800000000000000000018088800000 s) ?_ ?_
      · exact Keeps.bil_ rfl (BilS.Ext.same rfl rfl) h_s
      · exact h_s
    · exact h_s
  have hy6 : Keeps 98576 0x800000000000000000000000000007800000000000000000018088800000 s y6 := by
    refine Keeps.set (.of rfl in_BIL_TIME_STATUS) ?_
    exact hy0
  have hy9 : Keeps 98576 0x800000000000000000000000000007800000000000000000018088800000 s y9 := by
    exact Keeps.bil_ rfl (BilS.Ext.same rfl rfl) hy6
  have hy10 : Keeps 98576 0x800000000000000000000000000007800000000000000000018088800000 s y10 := by
    refine Keeps.app (State.showRate_keeps _) rfl rfl ?_
    exact hy9
  have hy11 : Keeps 98576 0x800000000000000000000000000007800000000000000000018088800000 s y11 := by
    refine ite_of (Q := Keeps 98576 0x800000000000000000000000000007800000000000000000018088800000 s) ?_ ?_
    · refine Keeps.app (State.raise_keeps _ _) rfl rfl ?_
      exact hy10
    · exact hy10
  refine ite_of (Q := Keeps 98576 0x800000000000000000000000000007800000000000000000018088800000 s) ?_ ?_
  · refine Keeps.app (State.nextBound_keeps _) rfl rfl ?_
    exact hy11
  · exact hy11

theorem State.toStore_keeps (s : State) (kind : ℕ) (point : ℕ) (bytes : List Byte) :
    Keeps 66576 0x100000000000000000000000000000000000000000000000000 s (State.toStore s kind point bytes) := by
  have h_s : Keeps 66576 0x100000000000000000000000000000000000000000000000000 s s := Keeps.rfl
  delta State.toStore
  extract_lets -underBinder -useContext y0 y1 y2
  have hy2 : Keeps 66576 0x100000000000000000000000000000000000000000000000000 s y2 := by
    exact Keeps.bil_ rfl (BilS.Ext.same rfl rfl) h_s
  refine Keeps.app (State.offerReport_keeps _ _ _ _) rfl rfl ?_
  exact hy2

theorem State.acceptStep_keeps (s : State) (d : Desc) (size : ℤ) (slot : ℕ) (timeSet : Bool) :
    Keeps 98577 0x800000000000000000000000000087000000000000000000018088800000 s (State.acceptStep s d size slot timeSet) := by
  have h_s : Keeps 98577 0x800000000000000000000000000087000000000000000000018088800000 s s := Keeps.rfl
  delta State.acceptStep
  extract_lets -underBinder -useContext y0 y1 y2 y3 y4 y5 y6 y7
  have hy2 : Keeps 98577 0x800000000000000000000000000087000000000000000000018088800000 s y2 := by
    exact Keeps.time_ rfl h_s
  have hy3 : Keeps 98577 0x800000000000000000000000000087000000000000000000018088800000 s y3 := by
    refine Keeps.set (.of rfl in_BIL_TIME_STATUS) ?_
    exact hy2
  have hy4 : Keeps 98577 0x800000000000000000000000000087000000000000000000018088800000 s y4 := by
    refine ite_of (Q := Keeps 98577 0x800000000000000000000000000087000000000000000000018088800000 s) ?_ ?_
    · exact hy3
    · refine Keeps.set (.of rfl in_BIL_TIME_STATUS) ?_
      exact hy3
  have hy6 : Keeps 98577 0x800000000000000000000000000087000000000000000000018088800000 s y6 := by
    refine Keeps.app (State.log_keeps _ _) rfl rfl ?_
    exact hy4
  have hy7 : Keeps 98577 0x800000000000000000000000000087000000000000000000018088800000 s y7 := by
    refine Keeps.app (State.raise_keeps _ _) rfl rfl ?_
    exact hy6
  refine ite_of (Q := Keeps 98577 0x800000000000000000000000000087000000000000000000018088800000 s) ?_ ?_
  · refine Keeps.app (State.nextBound_keeps _) rfl rfl ?_
    exact hy7
  · exact hy7

theorem execTimeCorrection_keeps (d : Desc) (s : State) :
    KeepsO 102673 0x800000084000000000000000000087000000000000000000018088800000 s (execTimeCorrection d s) := by
  have h_s : Keeps 102673 0x800000084000000000000000000087000000000000000000018088800000 s s := Keeps.rfl
  delta execTimeCorrection
  refine KeepsO.next ?_
  refine State.command_keeps (P := 102673) (B := 0x800000084000000000000000000087000000000000000000018088800000) rfl rfl ?_ (fun y0 hy0 => ?_)
  · exact h_s
  · extract_lets -underBinder -useContext y1 y2 y3 y4
    have hy4 : KeepsM 102673 0x800000084000000000000000000087000000000000000000018088800000 s y4 := by
      refine ite_of (Q := KeepsM 102673 0x800000084000000000000000000087000000000000000000018088800000 s) ?_ ?_
      · refine KeepsM.some ?_
        exact hy0
      · refine KeepsM.app (State.checkTag_keeps _ _ _ _) rfl rfl ?_
        exact hy0
    refine ite_of (Q := Keeps 102673 0x800000084000000000000000000087000000000000000000018088800000 s) ?_ ?_
    · refine Keeps.app (State.refuseTime_keeps _ _ _ _) rfl rfl ?_
      exact hy0
    · try clear_value y4
      split
      · refine Keeps.app (State.refuseTime_keeps _ _ _ _) rfl rfl ?_
        exact hy0
      · rename_i y5
        have hy5 : Keeps 102673 0x800000084000000000000000000087000000000000000000018088800000 s y5 := KeepsM.of_eq hy4 rfl
        extract_lets -underBinder -useContext y6 y7 y8 y9 y10 y11
        have hy7 : Keeps 102673 0x800000084000000000000000000087000000000000000000018088800000 s y7 := by
          exact Keeps.time_ rfl hy5
        have hy8 : Keeps 102673 0x800000084000000000000000000087000000000000000000018088800000 s y8 := by
          refine Keeps.set (.of rfl in_BIL_TIME_STATUS) ?_
          exact hy7
        have hy9 : Keeps 102673 0x800000084000000000000000000087000000000000000000018088800000 s y9 := by
          refine Keeps.app (State.log_keeps _ _) rfl rfl ?_
          exact hy8
        have hy10 : Keeps 102673 0x800000084000000000000000000087000000000000000000018088800000 s y10 := by
          refine Keeps.app (State.raise_keeps _ _) rfl rfl ?_
          exact hy9
        have hy11 : Keeps 102673 0x800000084000000000000000000087000000000000000000018088800000 s y11 := by
          refine ite_of (Q := Keeps 102673 0x800000084000000000000000000087000000000000000000018088800000 s) ?_ ?_
          · refine Keeps.app (State.nextBound_keeps _) rfl rfl ?_
            exact hy10
          · exact hy10
        refine ite_of (Q := Keeps 102673 0x800000084000000000000000000087000000000000000000018088800000 s) ?_ ?_
        · refine Keeps.app (State.refuseTime_keeps _ _ _ _) rfl rfl ?_
          exact hy5
        · refine ite_of (Q := Keeps 102673 0x800000084000000000000000000087000000000000000000018088800000 s) ?_ ?_
          · refine Keeps.app (State.ok_keeps _ _ _) rfl rfl ?_
            exact hy11
          · refine Keeps.app (State.ok_keeps _ _ _) rfl rfl ?_
            refine Keeps.app (State.acceptStep_keeps _ _ _ _ _) rfl rfl ?_
            exact hy5

theorem execLoadTariffStructure_keeps (d : Desc) (s : State) :
    KeepsO 102672 0x800000010000000000000000000083400000000000000000018088800000 s (execLoadTariffStructure d s) := by
  have h_s : Keeps 102672 0x800000010000000000000000000083400000000000000000018088800000 s s := Keeps.rfl
  delta execLoadTariffStructure
  refine KeepsO.next ?_
  refine State.command_keeps (P := 102672) (B := 0x800000010000000000000000000083400000000000000000018088800000) rfl rfl ?_ (fun y0 hy0 => ?_)
  · exact h_s
  · extract_lets -underBinder -useContext y1
    split
    · refine Keeps.app (State.complete_keeps _ _ _ _ _) rfl rfl ?_
      exact hy0
    · split
      · refine Keeps.app (State.complete_keeps _ _ _ _ _) rfl rfl ?_
        exact hy0
      · refine State.limited_keeps (P := 102672) (B := 0x800000010000000000000000000083400000000000000000018088800000) rfl rfl (.of rfl in_KEY_CHG_LEFT) ?_ (fun y5 hy5 => ?_)
        · exact hy0
        · extract_lets -underBinder -useContext y6 y7 y8 y9 y10 y11 y12 y13 y14 y15 y16
          have hy10 : Keeps 102672 0x800000010000000000000000000083400000000000000000018088800000 s y10 := by
            exact Keeps.bil_ rfl (BilS.Ext.same rfl rfl) hy5
          have hy11 : Keeps 102672 0x800000010000000000000000000083400000000000000000018088800000 s y11 := by
            refine Keeps.set (.of rfl in_BIL_TAR_ID) ?_
            refine Keeps.set (.of rfl in_BIL_TAR_ID) ?_
            exact hy10
          have hy12 : Keeps 102672 0x800000010000000000000000000083400000000000000000018088800000 s y12 := by
            refine Keeps.app (State.bumpSeq_keeps _ _) rfl rfl ?_
            exact hy11
          have hy14 : Keeps 102672 0x800000010000000000000000000083400000000000000000018088800000 s y14 := by
            refine Keeps.app (State.log_keeps _ _) rfl rfl ?_
            exact hy12
          have hy15 : Keeps 102672 0x800000010000000000000000000083400000000000000000018088800000 s y15 := by
            refine Keeps.app (State.raise_keeps _ _) rfl rfl ?_
            refine Keeps.app (State.raise_keeps _ _) rfl rfl ?_
            exact hy14
          have hy16 : Keeps 102672 0x800000010000000000000000000083400000000000000000018088800000 s y16 := by
            refine ite_of (Q := Keeps 102672 0x800000010000000000000000000083400000000000000000018088800000 s) ?_ ?_
            · refine Keeps.set64 (.of rfl in_BIL_NEXT_BOUND_LO) (.of rfl in_BIL_NEXT_BOUND_HI) ?_
              exact hy15
            · exact hy15
          refine Keeps.app (State.ok_keeps _ _ _) rfl rfl ?_
          exact hy16

theorem State.creditOne_keeps (s : State) (rec : QRec) (np : ℕ × PBlock) :
    Keeps 16 0 s (State.creditOne s rec np) := by
  have h_s : Keeps 16 0 s s := Keeps.rfl
  delta State.creditOne
  extract_lets -underBinder -useContext y0 y1 y2 y3 y4 y5 y6 y7
  refine Keeps.app (State.setBill_keeps _ _ _ (fun h => creditPoint_sums (p := s.bil.points[y0]) y1 s.bil.rate y2 s.setback (rec.flags.toNat.testBit 5) (BilS.sums_point h _))) rfl rfl ?_
  exact h_s

theorem State.wantReading_keeps (s : State) (reason : Byte) (n : Fin 8) (qr : ℕ) (cmd : Option Desc) :
    Keeps 16 0 s (State.wantReading s reason n qr cmd) := by
  have h_s : Keeps 16 0 s s := Keeps.rfl
  delta State.wantReading
  extract_lets -underBinder -useContext y0
  exact Keeps.bil_ rfl (BilS.Ext.same rfl rfl) h_s

theorem State.closePeriod_keeps (s : State) (q : ℕ) (t1 : ℕ) :
    Keeps 98576 0x8000000000000000000000000000F0000000000000000000018088800000 s (State.closePeriod s q t1) := by
  have h_s : Keeps 98576 0x8000000000000000000000000000F0000000000000000000018088800000 s s := Keeps.rfl
  delta State.closePeriod
  extract_lets -underBinder -useContext y0 y1 y2 y3 y4 y5 y6 y9
  have hy0 : Keeps 98576 0x8000000000000000000000000000F0000000000000000000018088800000 s y0 := by
    refine Keeps.set64 (.of rfl in_BIL_LASTCLOSE_LO) (.of rfl in_BIL_LASTCLOSE_HI) ?_
    exact h_s
  have hy4 : Keeps 98576 0x8000000000000000000000000000F0000000000000000000018088800000 s y4 := by
    exact Keeps.bil_ rfl ⟨List.suffix_rfl, id, fun h => BilS.sums_map h _⟩ hy0
  have hy5 : Keeps 98576 0x8000000000000000000000000000F0000000000000000000018088800000 s y5 := by
    refine Keeps.set (.of rfl in_BIL_PERIOD_NO) ?_
    refine Keeps.app (State.bumpSeq_keeps _ _) rfl rfl ?_
    exact hy4
  have hy6 : Keeps 98576 0x8000000000000000000000000000F0000000000000000000018088800000 s y6 := by
    refine foldl_of (Q := Keeps 98576 0x8000000000000000000000000000F0000000000000000000018088800000 s) ?_ (fun y7 y8 my8 hy7 => ?_)
    · exact hy5
    · refine Keeps.app (State.wantReading_keeps _ _ _ _ _) rfl rfl ?_
      exact hy7
  have hy9 : Keeps 98576 0x8000000000000000000000000000F0000000000000000000018088800000 s y9 := by
    refine Keeps.app (State.log_keeps _ _) rfl rfl ?_
    exact hy6
  refine Keeps.app (State.raise_keeps _ _) rfl rfl ?_
  exact hy9

theorem State.credit_keeps (s : State) (rec : QRec) :
    Keeps 16 0 s (State.credit s rec) := by
  have h_s : Keeps 16 0 s s := Keeps.rfl
  delta State.credit
  extract_lets -underBinder -useContext y0
  refine foldl_of (Q := Keeps 16 0 s) ?_ (fun y1 y2 my2 hy1 => ?_)
  · exact Keeps.bil_ rfl (BilS.Ext.same rfl rfl) h_s
  · refine Keeps.app (State.creditOne_keeps _ _ _) rfl rfl ?_
    exact hy1

theorem execTimeSet_keeps (d : Desc) (s : State) :
    KeepsO 102673 0x800000084000000000000000000087000000000000000000018088800000 s (execTimeSet d s) := by
  have h_s : Keeps 102673 0x800000084000000000000000000087000000000000000000018088800000 s s := Keeps.rfl
  delta execTimeSet
  refine KeepsO.next ?_
  refine State.command_keeps (P := 102673) (B := 0x800000084000000000000000000087000000000000000000018088800000) rfl rfl ?_ (fun y0 hy0 => ?_)
  · exact h_s
  · extract_lets -underBinder -useContext y1
    refine ite_of (Q := Keeps 102673 0x800000084000000000000000000087000000000000000000018088800000 s) ?_ ?_
    · refine Keeps.app (State.refuseTime_keeps _ _ _ _) rfl rfl ?_
      exact hy0
    · split
      · refine Keeps.app (State.refuseTime_keeps _ _ _ _) rfl rfl ?_
        exact hy0
      · rename_i y2 hx
        have hy2 : Keeps 102673 0x800000084000000000000000000087000000000000000000018088800000 s y2 := KeepsM.of_eq (by
            refine KeepsM.app (State.checkTag_keeps _ _ _ _) rfl rfl ?_
            exact hy0) hx
        refine ite_of (Q := Keeps 102673 0x800000084000000000000000000087000000000000000000018088800000 s) ?_ ?_
        · refine Keeps.app (State.refuseTime_keeps _ _ _ _) rfl rfl ?_
          exact hy2
        · refine Keeps.app (State.ok_keeps _ _ _) rfl rfl ?_
          refine Keeps.app (State.acceptStep_keeps _ _ _ _ _) rfl rfl ?_
          exact hy2

theorem State.requestReading_keeps (s : State) (reason : Byte) (n : Fin 8) (qr : ℕ) (cmd : Option Desc) :
    Keeps 48 0x300000000000000000000000000000000 s (State.requestReading s reason n qr cmd) := by
  have h_s : Keeps 48 0x300000000000000000000000000000000 s s := Keeps.rfl
  delta State.requestReading
  refine ite_of (Q := Keeps 48 0x300000000000000000000000000000000 s) ?_ ?_
  · refine Keeps.app (State.buildReading_keeps _ _ _ _) rfl rfl ?_
    exact h_s
  · refine Keeps.app (State.wantReading_keeps _ _ _ _ _) rfl rfl ?_
    exact h_s

theorem execCloseBillingPeriod_keeps (d : Desc) (s : State) :
    KeepsO 272 0 s (execCloseBillingPeriod d s) := by
  have h_s : Keeps 272 0 s s := Keeps.rfl
  delta execCloseBillingPeriod
  refine KeepsO.next ?_
  refine State.command_keeps (P := 272) (B := 0) rfl rfl ?_ (fun y0 hy0 => ?_)
  · exact h_s
  · extract_lets -underBinder -useContext y1
    exact Keeps.bil_ rfl (BilS.Ext.same rfl rfl) hy0

theorem execSlewComplete_keeps (s : State) :
    KeepsO 1 0x4000000000000000000000000000000 s (execSlewComplete s) := by
  have h_s : Keeps 1 0x4000000000000000000000000000000 s s := Keeps.rfl
  delta execSlewComplete
  extract_lets -underBinder -useContext y0
  refine ite_of (Q := KeepsO 1 0x4000000000000000000000000000000 s) ?_ ?_
  · refine KeepsO.next ?_
    exact h_s
  · refine KeepsO.next ?_
    refine Keeps.set (.of rfl in_BIL_TIME_STATUS) ?_
    exact Keeps.time_ rfl h_s

theorem State.closeDemand_keeps (s : State) (n : Fin 8) (incomplete : Bool) (rate : ℕ) :
    Keeps 99600 0x800000000100000000000000003000000000000000000000018088800000 s (State.closeDemand s n incomplete rate) := by
  have h_s : Keeps 99600 0x800000000100000000000000003000000000000000000000018088800000 s s := Keeps.rfl
  delta State.closeDemand
  extract_lets -underBinder -useContext y0 y1
  split
  · exact h_s
  · extract_lets -underBinder -useContext y3 y4 y5 y6 y7 y8 y9 y10 y11 y12 y13 y14 y15 y16 y17
    have hy15 : Keeps 99600 0x800000000100000000000000003000000000000000000000018088800000 s y15 := by
      refine Keeps.app (State.setBill_keeps _ _ _ (fun h => BilS.sums_point h _)) rfl rfl ?_
      exact h_s
    have hy16 : Keeps 99600 0x800000000100000000000000003000000000000000000000018088800000 s y16 := by
      refine Keeps.set (.of rfl (in_BIL_DEM_STAT _ (by first | exact Fin.isLt _ | omega))) ?_
      refine Keeps.setSat (.of rfl (in_BIL_DEM_LAST _ (by first | exact Fin.isLt _ | omega))) ?_
      exact hy15
    have hy17 : Keeps 99600 0x800000000100000000000000003000000000000000000000018088800000 s y17 := by
      refine Keeps.app (State.raise_keeps _ _) rfl rfl ?_
      exact hy16
    refine ite_of (Q := Keeps 99600 0x800000000100000000000000003000000000000000000000018088800000 s) ?_ ?_
    · refine Keeps.app (State.toStore_keeps _ _ _ _) rfl rfl ?_
      exact hy17
    · exact hy17

theorem State.writeStore_keeps (s : State) (p : StorePkt) :
    Keeps 294928 0 s (State.writeStore s p) := by
  have h_s : Keeps 294928 0 s s := Keeps.rfl
  delta State.writeStore
  extract_lets -underBinder -useContext y0 y1 y2 y3 y4
  have hy4 : Keeps 294928 0 s y4 := by
    exact Keeps.bil_ rfl (BilS.Ext.same rfl rfl) h_s
  refine Keeps.app (State.store_keeps _ _ _) rfl rfl ?_
  exact hy4

theorem execStoreEntryWrite_keeps (s : State) :
    KeepsO 294928 0 s (execStoreEntryWrite s) := by
  have h_s : Keeps 294928 0 s s := Keeps.rfl
  delta execStoreEntryWrite
  split
  · refine KeepsO.next ?_
    exact h_s
  · extract_lets -underBinder -useContext y2
    refine ite_of (Q := KeepsO 294928 0 s) ?_ ?_
    · refine KeepsO.next ?_
      exact h_s
    · refine KeepsO.next ?_
      refine Keeps.app (State.writeStore_keeps _ _) rfl rfl ?_
      exact Keeps.bil_ rfl (BilS.Ext.same rfl rfl) h_s

theorem State.setSetback_keeps (s : State) (on : Bool) :
    Keeps 98576 0x800000000000000000000000000084000000000000000000018088800000 s (State.setSetback s on) := by
  have h_s : Keeps 98576 0x800000000000000000000000000084000000000000000000018088800000 s s := Keeps.rfl
  delta State.setSetback
  extract_lets -underBinder -useContext y0
  have hy0 : Keeps 98576 0x800000000000000000000000000084000000000000000000018088800000 s y0 := by
    refine Keeps.set (.of rfl in_BIL_TIME_STATUS) ?_
    exact h_s
  refine Keeps.app (State.raise_keeps _ _) rfl rfl ?_
  refine Keeps.app (State.log_keeps _ _) rfl rfl ?_
  exact hy0

theorem State.applySteps_keeps (s : State) (q1 : ℕ) (t1 : ℕ) :
    Keeps 99600 0x800000000100000000000000003084000000000000000000018088800000 s (State.applySteps s q1 t1) := by
  have h_s : Keeps 99600 0x800000000100000000000000003084000000000000000000018088800000 s s := Keeps.rfl
  delta State.applySteps
  extract_lets -underBinder -useContext y0 y1 y2 y3 y6
  have hy2 : Keeps 99600 0x800000000100000000000000003084000000000000000000018088800000 s y2 := by
    exact Keeps.bil_ rfl (BilS.Ext.same rfl rfl) h_s
  have hy3 : Keeps 99600 0x800000000100000000000000003084000000000000000000018088800000 s y3 := by
    refine ite_of (Q := Keeps 99600 0x800000000100000000000000003084000000000000000000018088800000 s) ?_ ?_
    · exact hy2
    · refine foldl_of (Q := Keeps 99600 0x800000000100000000000000003084000000000000000000018088800000 s) ?_ (fun y4 y5 my5 hy4 => ?_)
      · exact hy2
      · refine Keeps.app (State.closeDemand_keeps _ _ _ _) rfl rfl ?_
        exact hy4
  refine ite_of (Q := Keeps 99600 0x800000000100000000000000003084000000000000000000018088800000 s) ?_ ?_
  · refine Keeps.app (State.setSetback_keeps _ _) rfl rfl ?_
    exact hy3
  · refine ite_of (Q := Keeps 99600 0x800000000100000000000000003084000000000000000000018088800000 s) ?_ ?_
    · refine Keeps.app (State.setSetback_keeps _ _) rfl rfl ?_
      exact hy3
    · exact hy3

theorem State.closeDemands_keeps (s : State) (t1 : ℕ) :
    Keeps 99600 0x800000000100000000000000003000000000000000000000018088800000 s (State.closeDemands s t1) := by
  have h_s : Keeps 99600 0x800000000100000000000000003000000000000000000000018088800000 s s := Keeps.rfl
  delta State.closeDemands
  refine foldl_of (Q := Keeps 99600 0x800000000100000000000000003000000000000000000000018088800000 s) ?_ (fun y0 y1 my1 hy0 => ?_)
  · exact h_s
  · refine ite_of (Q := Keeps 99600 0x800000000100000000000000003000000000000000000000018088800000 s) ?_ ?_
    · refine Keeps.app (State.closeDemand_keeps _ _ _ _) rfl rfl ?_
      exact hy0
    · exact hy0

theorem State.periodStep_keeps (s : State) (q : ℕ) (t0 : ℕ) (t1 : ℕ) :
    Keeps 98576 0x8000000000000000000000000000F0000000000000000000018088800000 s (State.periodStep s q t0 t1) := by
  have h_s : Keeps 98576 0x8000000000000000000000000000F0000000000000000000018088800000 s s := Keeps.rfl
  delta State.periodStep
  extract_lets -underBinder -useContext y0 y1 y2 y3 y4
  have hy2 : Keeps 98576 0x8000000000000000000000000000F0000000000000000000018088800000 s y2 := by
    refine Keeps.app (State.closePeriod_keeps _ _ _) rfl rfl ?_
    exact h_s
  have hy4 : Keeps 98576 0x8000000000000000000000000000F0000000000000000000018088800000 s y4 := by
    exact Keeps.bil_ rfl (BilS.Ext.same rfl rfl) hy2
  refine ite_of (Q := Keeps 98576 0x8000000000000000000000000000F0000000000000000000018088800000 s) ?_ ?_
  · exact h_s
  · refine foldl_of (Q := Keeps 98576 0x8000000000000000000000000000F0000000000000000000018088800000 s) ?_ (fun y5 y6 my6 hy5 => ?_)
    · exact hy4
    · refine Keeps.app (State.ok_keeps _ _ _) rfl rfl ?_
      exact hy5

theorem State.bill_keeps (s : State) (rec : QRec) :
    Keeps 99632 0x8000000001000000000000000033F7800000000000000000018088800000 s (State.bill s rec) := by
  have h_s : Keeps 99632 0x8000000001000000000000000033F7800000000000000000018088800000 s s := Keeps.rfl
  delta State.bill
  extract_lets -underBinder -useContext y0 y1 y2 y3 y4 y5 y6 y7 y8 y9 y10
  have hy4 : Keeps 99632 0x8000000001000000000000000033F7800000000000000000018088800000 s y4 := by
    refine Keeps.app (State.bumpSeq_keeps _ _) rfl rfl ?_
    refine Keeps.app (State.credit_keeps _ _) rfl rfl ?_
    exact h_s
  have hy5 : Keeps 99632 0x8000000001000000000000000033F7800000000000000000018088800000 s y5 := by
    refine Keeps.app (State.applySteps_keeps _ _ _) rfl rfl ?_
    exact hy4
  have hy6 : Keeps 99632 0x8000000001000000000000000033F7800000000000000000018088800000 s y6 := by
    refine Keeps.app (State.closeDemands_keeps _ _) rfl rfl ?_
    exact hy5
  have hy7 : Keeps 99632 0x8000000001000000000000000033F7800000000000000000018088800000 s y7 := by
    refine Keeps.app (State.periodStep_keeps _ _ _ _) rfl rfl ?_
    exact hy6
  have hy8 : Keeps 99632 0x8000000001000000000000000033F7800000000000000000018088800000 s y8 := by
    refine Keeps.app (State.commitRate_keeps _ _ _) rfl rfl ?_
    exact hy7
  have hy10 : Keeps 99632 0x8000000001000000000000000033F7800000000000000000018088800000 s y10 := by
    exact Keeps.bil_ rfl (BilS.Ext.same rfl rfl) hy8
  refine Keeps.app (State.takeReadings_keeps _ _ _) rfl rfl ?_
  exact hy10

theorem execFabricTimeMismatch_keeps (s : State) :
    KeepsO 98576 0x800000000000000000000000000084000000000000000000018088800000 s (execFabricTimeMismatch s) := by
  have h_s : Keeps 98576 0x800000000000000000000000000084000000000000000000018088800000 s s := Keeps.rfl
  delta execFabricTimeMismatch
  refine ite_of (Q := KeepsO 98576 0x800000000000000000000000000084000000000000000000018088800000 s) ?_ ?_
  · refine KeepsO.next ?_
    exact h_s
  · refine KeepsO.next ?_
    refine Keeps.app (State.setQuality_keeps _ _) rfl rfl ?_
    exact h_s

theorem execLocateStore_keeps (d : Desc) (s : State) :
    KeepsO 256 0 s (execLocateStore d s) := by
  have h_s : Keeps 256 0 s s := Keeps.rfl
  delta execLocateStore
  extract_lets -underBinder -useContext y0
  refine KeepsO.next ?_
  refine State.command_keeps (P := 256) (B := 0) rfl rfl ?_ (fun y1 hy1 => ?_)
  · exact h_s
  · refine Keeps.app (State.ok_keeps _ _ _) rfl rfl ?_
    exact hy1

theorem execServoMonth_keeps (s : State) :
    KeepsO 98576 0x800000000000000000000000000480000000000000000000018088800000 s (execServoMonth s) := by
  have h_s : Keeps 98576 0x800000000000000000000000000480000000000000000000018088800000 s s := Keeps.rfl
  delta execServoMonth
  extract_lets -underBinder -useContext y0 y1 y2 y3
  have hy2 : Keeps 98576 0x800000000000000000000000000480000000000000000000018088800000 s y2 := by
    refine Keeps.app (State.log_keeps _ _) rfl rfl ?_
    exact h_s
  refine ite_of (Q := KeepsO 98576 0x800000000000000000000000000480000000000000000000018088800000 s) ?_ ?_
  · refine KeepsO.next ?_
    exact h_s
  · refine KeepsO.next ?_
    refine Keeps.setReg (.of rfl in_BIL_SERVO_SUM) ?_
    exact Keeps.bil_ rfl (BilS.Ext.same rfl rfl) hy2

theorem execTakeReading_keeps (d : Desc) (s : State) :
    KeepsO 272 0 s (execTakeReading d s) := by
  have h_s : Keeps 272 0 s s := Keeps.rfl
  delta execTakeReading
  extract_lets -underBinder -useContext y0 y1
  refine KeepsO.next ?_
  split
  · refine Keeps.app (State.complete_keeps _ _ _ _ _) rfl rfl ?_
    exact h_s
  · refine ite_of (Q := Keeps 272 0 s) ?_ ?_
    · refine Keeps.app (State.complete_keeps _ _ _ _ _) rfl rfl ?_
      exact h_s
    · refine Keeps.app (State.wantReading_keeps _ _ _ _ _) rfl rfl ?_
      exact h_s

theorem execTimeQualityExpiry_keeps (s : State) :
    KeepsO 98576 0x800000000000000000000000000084000000000000000000018088800000 s (execTimeQualityExpiry s) := by
  have h_s : Keeps 98576 0x800000000000000000000000000084000000000000000000018088800000 s s := Keeps.rfl
  delta execTimeQualityExpiry
  refine ite_of (Q := KeepsO 98576 0x800000000000000000000000000084000000000000000000018088800000 s) ?_ ?_
  · refine KeepsO.next ?_
    exact h_s
  · refine KeepsO.next ?_
    refine Keeps.app (State.setQuality_keeps _ _) rfl rfl ?_
    exact h_s

end Sys2Proof.Machine
end

