-- ==== Sys2Proof/Laws/KeepsLoadSwitch.lean ====
section
/-! SUPPORT. What the operations of Machine/LoadSwitch.lean can change, one lemma each (Laws/Keeps.lean says how it is read). -/

namespace Sys2Proof.Machine

theorem State.setLatched_keeps (s : State) (n : Fin 16) (b : Bool) :
    Keeps 0 0x10800000000000000000000000000000000000000 s (State.setLatched s n b) := by
  have h_s : Keeps 0 0x10800000000000000000000000000000000000000 s s := Keeps.rfl
  delta State.setLatched
  refine Keeps.setBit (.of rfl in_LSW_LATCH) ?_
  refine Keeps.set (.of rfl (in_LSW_CH_STAT _ (by first | exact Fin.isLt _ | omega))) ?_
  exact h_s

theorem State.clearLatches_keeps (s : State) (mask : ℕ) :
    Keeps 0 0x10800000000000000000000000000000000000000 s (State.clearLatches s mask) := by
  have h_s : Keeps 0 0x10800000000000000000000000000000000000000 s s := Keeps.rfl
  delta State.clearLatches
  refine foldl_of (Q := Keeps 0 0x10800000000000000000000000000000000000000 s) ?_ (fun y0 y1 my1 hy0 => ?_)
  · exact h_s
  · refine Keeps.set (.of rfl (in_LSW_CH_STAT _ (by first | exact Fin.isLt _ | omega))) ?_
    refine Keeps.app (State.setLatched_keeps _ _ _) rfl rfl ?_
    exact hy0

theorem State.showHold_keeps (s : State) :
    Keeps 0 0x80000000000000000000000000000000000000 s (State.showHold s) := by
  have h_s : Keeps 0 0x80000000000000000000000000000000000000 s s := Keeps.rfl
  delta State.showHold
  refine Keeps.set (.of rfl in_LSW_STATUS) ?_
  exact h_s

theorem State.holdAll_keeps (s : State) :
    Keeps 0 0x10080000000000000000000000000000000000000 s (State.holdAll s) := by
  have h_s : Keeps 0 0x10080000000000000000000000000000000000000 s s := Keeps.rfl
  delta State.holdAll
  refine Keeps.app (State.showHold_keeps _) rfl rfl ?_
  refine foldl_of (Q := Keeps 0 0x10080000000000000000000000000000000000000 s) ?_ (fun y0 y1 my1 hy0 => ?_)
  · exact h_s
  · refine Keeps.set (.of rfl (in_LSW_CH_STAT _ (by first | exact Fin.isLt _ | omega))) ?_
    exact hy0

theorem State.setShed_keeps (s : State) (n : Fin 16) (b : Bool) :
    Keeps 0 0x10100000000000000000000000000000000000000 s (State.setShed s n b) := by
  have h_s : Keeps 0 0x10100000000000000000000000000000000000000 s s := Keeps.rfl
  delta State.setShed
  refine Keeps.setBit (.of rfl in_LSW_THERM) ?_
  refine Keeps.set (.of rfl (in_LSW_CH_STAT _ (by first | exact Fin.isLt _ | omega))) ?_
  exact h_s

theorem State.turnOff_keeps (s : State) (n : Fin 16) :
    Keeps 0 0x10000000000000000000000000000000000000000 s (State.turnOff s n) := by
  have h_s : Keeps 0 0x10000000000000000000000000000000000000000 s s := Keeps.rfl
  delta State.turnOff
  refine Keeps.set (.of rfl (in_LSW_CH_STAT _ (by first | exact Fin.isLt _ | omega))) ?_
  refine Keeps.set (.of rfl (in_LSW_CH_STAT _ (by first | exact Fin.isLt _ | omega))) ?_
  refine Keeps.set (.of rfl (in_LSW_CH_STAT _ (by first | exact Fin.isLt _ | omega))) ?_
  exact h_s

theorem State.allOff_keeps (s : State) :
    Keeps 64 0x10D80000000000000000000000000000000000000 s (State.allOff s) := by
  have h_s : Keeps 64 0x10D80000000000000000000000000000000000000 s s := Keeps.rfl
  delta State.allOff
  extract_lets -underBinder -useContext y0 y4
  have hy0 : Keeps 64 0x10D80000000000000000000000000000000000000 s y0 := by
    refine foldl_of (Q := Keeps 64 0x10D80000000000000000000000000000000000000 s) ?_ (fun y1 y2 my2 hy1 => ?_)
    · exact h_s
    · extract_lets -underBinder -useContext y3
      have hy3 : Keeps 64 0x10D80000000000000000000000000000000000000 s y3 := by
        refine Keeps.setBit (.of rfl in_LSW_CMD) ?_
        refine Keeps.app (State.turnOff_keeps _ _) rfl rfl ?_
        exact hy1
      refine Keeps.setReg (.of rfl (in_LSW_CH_STAT _ (by first | exact Fin.isLt _ | omega))) ?_
      refine Keeps.app (State.setLatched_keeps _ _ _) rfl rfl ?_
      refine Keeps.app (State.setShed_keeps _ _ _) rfl rfl ?_
      exact hy3
  refine Keeps.app (State.showHold_keeps _) rfl rfl ?_
  exact Keeps.lsw_ rfl hy0

theorem State.turnOn_keeps (s : State) (n : Fin 16) :
    Keeps 0 0x10000000000000000000000000000000000000000 s (State.turnOn s n) := by
  have h_s : Keeps 0 0x10000000000000000000000000000000000000000 s s := Keeps.rfl
  delta State.turnOn
  extract_lets -underBinder -useContext y0
  have hy0 : Keeps 0 0x10000000000000000000000000000000000000000 s y0 := by
    refine Keeps.set (.of rfl (in_LSW_CH_STAT _ (by first | exact Fin.isLt _ | omega))) ?_
    exact h_s
  refine Keeps.set (.of rfl (in_LSW_CH_STAT _ (by first | exact Fin.isLt _ | omega))) ?_
  exact hy0

theorem State.setWait_keeps (s : State) (n : Fin 16) (b : Bool) :
    Keeps 64 0 s (State.setWait s n b) := by
  have h_s : Keeps 64 0 s s := Keeps.rfl
  delta State.setWait
  extract_lets -underBinder -useContext y0
  exact Keeps.lsw_ rfl h_s

theorem State.tryOn_keeps (s : State) (n : Fin 16) :
    Keeps 64 0x10000000000000000000000000000000000000000 s (State.tryOn s n) := by
  have h_s : Keeps 64 0x10000000000000000000000000000000000000000 s s := Keeps.rfl
  delta State.tryOn
  refine foldl_of (Q := Keeps 64 0x10000000000000000000000000000000000000000 s) ?_ (fun y0 y1 my1 hy0 => ?_)
  · exact h_s
  · refine ite_of (Q := Keeps 64 0x10000000000000000000000000000000000000000 s) ?_ ?_
    · exact hy0
    · refine ite_of (Q := Keeps 64 0x10000000000000000000000000000000000000000 s) ?_ ?_
      · refine Keeps.app (State.turnOn_keeps _ _) rfl rfl ?_
        exact hy0
      · refine ite_of (Q := Keeps 64 0x10000000000000000000000000000000000000000 s) ?_ ?_
        · refine Keeps.app (State.setWait_keeps _ _ _) rfl rfl ?_
          exact hy0
        · exact hy0

theorem State.unshed_keeps (s : State) (n : Fin 16) :
    Keeps 64 0x10100000000000000000000000000000000000000 s (State.unshed s n) := by
  have h_s : Keeps 64 0x10100000000000000000000000000000000000000 s s := Keeps.rfl
  delta State.unshed
  extract_lets -underBinder -useContext y0 y3 y4
  have hy0 : Keeps 64 0x10100000000000000000000000000000000000000 s y0 := by
    refine foldl_of (Q := Keeps 64 0x10100000000000000000000000000000000000000 s) ?_ (fun y1 y2 my2 hy1 => ?_)
    · exact h_s
    · refine Keeps.app (State.setShed_keeps _ _ _) rfl rfl ?_
      exact hy1
  refine Keeps.app (State.tryOn_keeps _ _) rfl rfl ?_
  exact Keeps.lsw_ rfl hy0

theorem State.commandChan_keeps (s : State) (n : Fin 16) (on : Bool) :
    Keeps 64 0x10580000000000000000000000000000000000000 s (State.commandChan s n on) := by
  have h_s : Keeps 64 0x10580000000000000000000000000000000000000 s s := Keeps.rfl
  delta State.commandChan
  extract_lets -underBinder -useContext y0 y1 y4 y5 y9
  have hy1 : Keeps 64 0x10580000000000000000000000000000000000000 s y1 := by
    refine foldl_of (Q := Keeps 64 0x10580000000000000000000000000000000000000 s) ?_ (fun y2 y3 my3 hy2 => ?_)
    · exact h_s
    · refine Keeps.set (.of rfl (in_LSW_CH_STAT _ (by first | exact Fin.isLt _ | omega))) ?_
      refine Keeps.setBit (.of rfl in_LSW_CMD) ?_
      exact hy2
  have hy4 : Keeps 64 0x10580000000000000000000000000000000000000 s y4 := by
    refine Keeps.app (State.showHold_keeps _) rfl rfl ?_
    exact hy1
  have hy5 : Keeps 64 0x10580000000000000000000000000000000000000 s y5 := by
    refine foldl_of (Q := Keeps 64 0x10580000000000000000000000000000000000000 s) ?_ (fun y6 y7 my7 hy6 => ?_)
    · exact hy4
    · extract_lets -underBinder -useContext y8
      have hy8 : Keeps 64 0x10580000000000000000000000000000000000000 s y8 := by
        refine Keeps.set (.of rfl (in_LSW_CH_STAT _ (by first | exact Fin.isLt _ | omega))) ?_
        refine Keeps.app (State.turnOff_keeps _ _) rfl rfl ?_
        exact hy6
      refine Keeps.app (State.setWait_keeps _ _ _) rfl rfl ?_
      refine Keeps.app (State.setShed_keeps _ _ _) rfl rfl ?_
      refine Keeps.set (.of rfl (in_LSW_CH_STAT _ (by first | exact Fin.isLt _ | omega))) ?_
      exact hy8
  refine ite_of (Q := Keeps 64 0x10580000000000000000000000000000000000000 s) ?_ ?_
  · refine Keeps.app (State.tryOn_keeps _ _) rfl rfl ?_
    exact hy4
  · exact Keeps.lsw_ rfl hy5

theorem State.closePoint_keeps (s : State) (p : Fin 8) :
    Keeps 64 0x10580000000000000000000000000000000000000 s (State.closePoint s p) := by
  have h_s : Keeps 64 0x10580000000000000000000000000000000000000 s s := Keeps.rfl
  delta State.closePoint
  refine foldl_of (Q := Keeps 64 0x10580000000000000000000000000000000000000 s) ?_ (fun y0 y1 my1 hy0 => ?_)
  · exact h_s
  · refine Keeps.app (State.commandChan_keeps _ _ _) rfl rfl ?_
    exact hy0

theorem State.openPoint_keeps (s : State) (p : Fin 8) :
    Keeps 64 0x10580000000000000000000000000000000000000 s (State.openPoint s p) := by
  have h_s : Keeps 64 0x10580000000000000000000000000000000000000 s s := Keeps.rfl
  delta State.openPoint
  refine foldl_of (Q := Keeps 64 0x10580000000000000000000000000000000000000 s) ?_ (fun y0 y1 my1 hy0 => ?_)
  · exact h_s
  · refine Keeps.app (State.commandChan_keeps _ _ _) rfl rfl ?_
    exact hy0

theorem State.uvReturn_keeps (s : State) (v : ℕ) :
    Keeps 64 0x10080000000000000000000000000000000000000 s (State.uvReturn s v) := by
  have h_s : Keeps 64 0x10080000000000000000000000000000000000000 s s := Keeps.rfl
  delta State.uvReturn
  extract_lets -underBinder -useContext y0
  have hy0 : Keeps 64 0x10080000000000000000000000000000000000000 s y0 := by
    refine Keeps.set (.of rfl in_LSW_STATUS) ?_
    refine Keeps.set (.of rfl in_LSW_STATUS) ?_
    refine Keeps.setSat (.of rfl in_LSW_STATUS) ?_
    exact h_s
  refine foldl_of (Q := Keeps 64 0x10080000000000000000000000000000000000000 s) ?_ (fun y1 y2 my2 hy1 => ?_)
  · exact hy0
  · refine ite_of (Q := Keeps 64 0x10080000000000000000000000000000000000000 s) ?_ ?_
    · refine Keeps.app (State.tryOn_keeps _ _) rfl rfl ?_
      refine Keeps.app (State.setWait_keeps _ _ _) rfl rfl ?_
      exact hy1
    · exact hy1

theorem State.uvOff_keeps (s : State) (v : ℕ) :
    KeepsF 98624 0x800000000000000000010080000000000000000000000000018088800000 s (State.uvOff s v) := by
  have h_s : Keeps 98624 0x800000000000000000010080000000000000000000000000018088800000 s s := Keeps.rfl
  delta State.uvOff
  extract_lets -underBinder -useContext y0 y1 y2
  have hy1 : Keeps 98624 0x800000000000000000010080000000000000000000000000018088800000 s y1 := by
    refine Keeps.set (.of rfl in_LSW_STATUS) ?_
    refine Keeps.set (.of rfl in_LSW_STATUS) ?_
    refine Keeps.setSat (.of rfl in_LSW_STATUS) ?_
    exact h_s
  have hy2 : Keeps 98624 0x800000000000000000010080000000000000000000000000018088800000 s y2 := by
    refine foldl_of (Q := Keeps 98624 0x800000000000000000010080000000000000000000000000018088800000 s) ?_ (fun y3 y4 my4 hy3 => ?_)
    · exact hy1
    · extract_lets -underBinder -useContext y5
      have hy5 : Keeps 98624 0x800000000000000000010080000000000000000000000000018088800000 s y5 := by
        refine ite_of (Q := Keeps 98624 0x800000000000000000010080000000000000000000000000018088800000 s) ?_ ?_
        · refine Keeps.app (State.turnOff_keeps _ _) rfl rfl ?_
          exact hy3
        · exact hy3
      refine ite_of (Q := Keeps 98624 0x800000000000000000010080000000000000000000000000018088800000 s) ?_ ?_
      · refine Keeps.app (State.setWait_keeps _ _ _) rfl rfl ?_
        exact hy5
      · exact hy5
  refine KeepsF.mk ?_
  refine Keeps.app (State.raise_keeps _ _) rfl rfl ?_
  exact hy2

theorem State.shedEvent_keeps (s : State) :
    Keeps 98624 0x800000000000000000000000000000000000000000000000018088800000 s (State.shedEvent s) := by
  have h_s : Keeps 98624 0x800000000000000000000000000000000000000000000000018088800000 s s := Keeps.rfl
  delta State.shedEvent
  extract_lets -underBinder -useContext y0
  refine ite_of (Q := Keeps 98624 0x800000000000000000000000000000000000000000000000018088800000 s) ?_ ?_
  · exact h_s
  · refine Keeps.app (State.raise_keeps _ _) rfl rfl ?_
    exact Keeps.lsw_ rfl h_s

theorem State.shed_keeps (s : State) (n : Fin 16) (thermal : Bool) :
    Keeps 64 0x10100000000000000000000000000000000000000 s (State.shed s n thermal) := by
  have h_s : Keeps 64 0x10100000000000000000000000000000000000000 s s := Keeps.rfl
  delta State.shed
  extract_lets -underBinder -useContext y0 y3
  have hy0 : Keeps 64 0x10100000000000000000000000000000000000000 s y0 := by
    refine foldl_of (Q := Keeps 64 0x10100000000000000000000000000000000000000 s) ?_ (fun y1 y2 my2 hy1 => ?_)
    · exact h_s
    · refine Keeps.app (State.setShed_keeps _ _ _) rfl rfl ?_
      refine Keeps.app (State.turnOff_keeps _ _) rfl rfl ?_
      exact hy1
  exact Keeps.lsw_ rfl hy0

theorem State.channelFault_keeps (s : State) (n : Fin 16) (src : ℕ) :
    KeepsE 98560 0x800000000000000000010800000000000000000000000000018088800000 s (State.channelFault s n src) := by
  have h_s : Keeps 98560 0x800000000000000000010800000000000000000000000000018088800000 s s := Keeps.rfl
  delta State.channelFault
  extract_lets -underBinder -useContext y0 y1 y2 y3 y7
  have hy3 : Keeps 98560 0x800000000000000000010800000000000000000000000000018088800000 s y3 := by
    refine foldl_of (Q := Keeps 98560 0x800000000000000000010800000000000000000000000000018088800000 s) ?_ (fun y4 y5 my5 hy4 => ?_)
    · exact h_s
    · extract_lets -underBinder -useContext y6
      have hy6 : Keeps 98560 0x800000000000000000010800000000000000000000000000018088800000 s y6 := by
        refine Keeps.setSat (.of rfl (in_LSW_CH_STAT _ (by first | exact Fin.isLt _ | omega))) ?_
        refine Keeps.app (State.turnOff_keeps _ _) rfl rfl ?_
        exact hy4
      refine ite_of (Q := Keeps 98560 0x800000000000000000010800000000000000000000000000018088800000 s) ?_ ?_
      · refine Keeps.app (State.setLatched_keeps _ _ _) rfl rfl ?_
        refine Keeps.set (.of rfl (in_LSW_CH_STAT _ (by first | exact Fin.isLt _ | omega))) ?_
        exact hy6
      · refine Keeps.set (.of rfl (in_LSW_CH_STAT _ (by first | exact Fin.isLt _ | omega))) ?_
        exact hy6
  have hy7 : Keeps 98560 0x800000000000000000010800000000000000000000000000018088800000 s y7 := by
    refine ite_of (Q := Keeps 98560 0x800000000000000000010800000000000000000000000000018088800000 s) ?_ ?_
    · refine Keeps.app (State.raise_keeps _ _) rfl rfl ?_
      exact hy3
    · exact hy3
  refine KeepsE.mk ?_
  refine ite_of (Q := Keeps 98560 0x800000000000000000010800000000000000000000000000018088800000 s) ?_ ?_
  · refine Keeps.app (State.raise_keeps _ _) rfl rfl ?_
    exact hy7
  · exact hy7

end Sys2Proof.Machine
end

