-- ==== Sys2Proof/Laws/KeepsSessions.lean ====
section
/-! SUPPORT. What the operations of Machine/Sessions.lean can change, one lemma each (Laws/Keeps.lean says how it is read). -/

namespace Sys2Proof.Machine

theorem State.imOf_lt (s : State) (p : Fin 8) : s.imOf p < 2 := bitsOf_lt _ 9 9

theorem State.ap_keeps {P B : Nat} {s0 : State} {s : State} {body : State → State} (_hp : P &&& 0 = 0) (_hb : B &&& 0x0 = 0x0)
    (h_s : Keeps P B s0 s) (h_body : ∀ x, Keeps P B s0 x → Keeps P B s0 (body x)) :
    Keeps P B s0 (State.ap s body) := by
  delta State.ap
  refine ite_of (Q := Keeps P B s0) ?_ ?_
  · refine h_body _ ?_
    exact h_s
  · exact h_s

theorem State.modSx_keeps (s : State) (p : Fin 8) (f : Sess → Sess) :
    Keeps 32 0 s (State.modSx s p f) := by
  have h_s : Keeps 32 0 s s := Keeps.rfl
  delta State.modSx
  extract_lets -underBinder -useContext y0
  exact Keeps.tpt_ rfl h_s

theorem State.claimIm_keeps (s : State) (p : Fin 8) :
    Keeps 32 0x10000000000000000000000000000000000 s (State.claimIm s p) := by
  have h_s : Keeps 32 0x10000000000000000000000000000000000 s s := Keeps.rfl
  delta State.claimIm
  extract_lets -underBinder -useContext y0
  refine ite_of (Q := Keeps 32 0x10000000000000000000000000000000000 s) ?_ ?_
  · refine Keeps.app (State.modSx_keeps _ _ _) rfl rfl ?_
    refine Keeps.set (.of rfl (in_TPT_IM _ (s.imOf_lt p))) ?_
    refine Keeps.set (.of rfl (in_TPT_IM _ (s.imOf_lt p))) ?_
    exact h_s
  · exact h_s

theorem State.releaseIm_keeps (s : State) (p : Fin 8) :
    Keeps 32 0x10000000000000000000000000000000000 s (State.releaseIm s p) := by
  have h_s : Keeps 32 0x10000000000000000000000000000000000 s s := Keeps.rfl
  delta State.releaseIm
  extract_lets -underBinder -useContext y0 y1
  have hy1 : Keeps 32 0x10000000000000000000000000000000000 s y1 := by
    refine Keeps.set (.of rfl (in_TPT_IM _ (s.imOf_lt p))) ?_
    exact h_s
  refine ite_of (Q := Keeps 32 0x10000000000000000000000000000000000 s) ?_ ?_
  · split
    · refine Keeps.app (State.claimIm_keeps _ _) rfl rfl ?_
      exact hy1
    · exact hy1
  · exact h_s

theorem State.showPilot_keeps (s : State) (p : Fin 8) :
    Keeps 0 0x8000000000000000000000000000000000000 s (State.showPilot s p) := by
  have h_s : Keeps 0 0x8000000000000000000000000000000000000 s s := Keeps.rfl
  delta State.showPilot
  extract_lets -underBinder -useContext y0
  have hy0 : Keeps 0 0x8000000000000000000000000000000000000 s y0 := by
    refine Keeps.set (.of rfl (in_PTN_CP _ (by first | exact Fin.isLt _ | omega))) ?_
    exact h_s
  refine ite_of (Q := Keeps 0 0x8000000000000000000000000000000000000 s) ?_ ?_
  · refine Keeps.set (.of rfl (in_PTN_CP _ (by first | exact Fin.isLt _ | omega))) ?_
    exact hy0
  · exact hy0

theorem State.enter_keeps (s : State) (p : Fin 8) (new : ℕ) (reason : ℕ) :
    Keeps 98656 0x800000000000000000010588030000000000000000000000018088800000 s (State.enter s p new reason) := by
  have h_s : Keeps 98656 0x800000000000000000010588030000000000000000000000018088800000 s s := Keeps.rfl
  delta State.enter
  extract_lets -underBinder -useContext y0 y1 y2 y3 y4 y5 y6 y7 y8
  have hy1 : Keeps 98656 0x800000000000000000010588030000000000000000000000018088800000 s y1 := by
    refine ite_of (Q := Keeps 98656 0x800000000000000000010588030000000000000000000000018088800000 s) ?_ ?_
    · refine Keeps.app (State.openPoint_keeps _ _) rfl rfl ?_
      exact h_s
    · exact h_s
  have hy2 : Keeps 98656 0x800000000000000000010588030000000000000000000000018088800000 s y2 := by
    refine Keeps.set (.of rfl (in_TPT_STATE _ (by first | exact Fin.isLt _ | omega))) ?_
    exact hy1
  have hy3 : Keeps 98656 0x800000000000000000010588030000000000000000000000018088800000 s y3 := by
    refine ite_of (Q := Keeps 98656 0x800000000000000000010588030000000000000000000000018088800000 s) ?_ ?_
    · exact hy2
    · refine Keeps.set (.of rfl (in_TPT_STATE _ (by first | exact Fin.isLt _ | omega))) ?_
      exact hy2
  have hy5 : Keeps 98656 0x800000000000000000010588030000000000000000000000018088800000 s y5 := by
    exact Keeps.tpt_ rfl hy3
  have hy6 : Keeps 98656 0x800000000000000000010588030000000000000000000000018088800000 s y6 := by
    refine Keeps.app (State.modSx_keeps _ _ _) rfl rfl ?_
    exact hy5
  have hy7 : Keeps 98656 0x800000000000000000010588030000000000000000000000018088800000 s y7 := by
    refine Keeps.app (State.raise_keeps _ _) rfl rfl ?_
    exact hy6
  have hy8 : Keeps 98656 0x800000000000000000010588030000000000000000000000018088800000 s y8 := by
    refine ite_of (Q := Keeps 98656 0x800000000000000000010588030000000000000000000000018088800000 s) ?_ ?_
    · refine Keeps.app (State.releaseIm_keeps _ _) rfl rfl ?_
      exact hy7
    · exact hy7
  refine Keeps.app (State.mirrored_keeps _) rfl rfl ?_
  refine Keeps.app (State.showPilot_keeps _ _) rfl rfl ?_
  exact hy8

theorem State.sessStart_keeps (s : State) (p : Fin 8) :
    Keeps 98672 0x800000000000000000010588030300000000000000000000018088800000 s (State.sessStart s p) := by
  have h_s : Keeps 98672 0x800000000000000000010588030300000000000000000000018088800000 s s := Keeps.rfl
  delta State.sessStart
  extract_lets -underBinder -useContext y0 y1
  have hy1 : Keeps 98672 0x800000000000000000010588030300000000000000000000018088800000 s y1 := by
    refine Keeps.app (State.modSx_keeps _ _ _) rfl rfl ?_
    refine Keeps.app (State.closePoint_keeps _ _) rfl rfl ?_
    exact h_s
  refine Keeps.app (State.enter_keeps _ _ _ _) rfl rfl ?_
  refine Keeps.app (State.requestReading_keeps _ _ _ _ _) rfl rfl ?_
  exact hy1

theorem State.sessFlag_keeps (s : State) (p : Fin 8) (bit : ℕ) :
    Keeps 32 0 s (State.sessFlag s p bit) := by
  have h_s : Keeps 32 0 s s := Keeps.rfl
  delta State.sessFlag
  refine Keeps.app (State.modSx_keeps _ _ _) rfl rfl ?_
  exact h_s

theorem State.sessOpen_keeps (s : State) (p : Fin 8) :
    Keeps 96 0x10580000000000000000000000000000000000000 s (State.sessOpen s p) := by
  have h_s : Keeps 96 0x10580000000000000000000000000000000000000 s s := Keeps.rfl
  delta State.sessOpen
  extract_lets -underBinder -useContext y0
  have hy0 : Keeps 96 0x10580000000000000000000000000000000000000 s y0 := by
    refine ite_of (Q := Keeps 96 0x10580000000000000000000000000000000000000 s) ?_ ?_
    · exact h_s
    · refine Keeps.app (State.openPoint_keeps _ _) rfl rfl ?_
      exact h_s
  refine Keeps.app (State.modSx_keeps _ _ _) rfl rfl ?_
  exact hy0

theorem State.latchWeld_keeps (s : State) (p : Fin 8) (reason : ℕ) :
    Keeps 32 0x20000000000000000000000000000000000 s (State.latchWeld s p reason) := by
  have h_s : Keeps 32 0x20000000000000000000000000000000000 s s := Keeps.rfl
  delta State.latchWeld
  extract_lets -underBinder -useContext y0 y1
  have hy0 : Keeps 32 0x20000000000000000000000000000000000 s y0 := by
    refine Keeps.set (.of rfl (in_TPT_STATE _ (by first | exact Fin.isLt _ | omega))) ?_
    exact h_s
  refine ite_of (Q := Keeps 32 0x20000000000000000000000000000000000 s) ?_ ?_
  · exact Keeps.tpt_ rfl hy0
  · exact h_s

theorem State.writeRecord_keeps (s : State) (p : Fin 8) :
    Keeps 99632 0x800000000100000000000000000000000000000000000000018088800000 s (State.writeRecord s p) := by
  have h_s : Keeps 99632 0x800000000100000000000000000000000000000000000000018088800000 s s := Keeps.rfl
  delta State.writeRecord
  refine Keeps.app (State.raise_keeps _ _) rfl rfl ?_
  refine Keeps.app (State.modSx_keeps _ _ _) rfl rfl ?_
  refine Keeps.app (State.toStore_keeps _ _ _ _) rfl rfl ?_
  exact h_s

theorem State.leaveIfAbsent_keeps (s : State) (p : Fin 8) :
    Keeps 98656 0x800000000000000000010588030000000000000000000000018088800000 s (State.leaveIfAbsent s p) := by
  have h_s : Keeps 98656 0x800000000000000000010588030000000000000000000000018088800000 s s := Keeps.rfl
  delta State.leaveIfAbsent
  extract_lets -underBinder -useContext y0 y1
  refine ite_of (Q := Keeps 98656 0x800000000000000000010588030000000000000000000000018088800000 s) ?_ ?_
  · exact h_s
  · refine ite_of (Q := Keeps 98656 0x800000000000000000010588030000000000000000000000018088800000 s) ?_ ?_
    · refine Keeps.app (State.enter_keeps _ _ _ _) rfl rfl ?_
      exact h_s
    · refine ite_of (Q := Keeps 98656 0x800000000000000000010588030000000000000000000000018088800000 s) ?_ ?_
      · refine Keeps.app (State.enter_keeps _ _ _ _) rfl rfl ?_
        exact h_s
      · exact h_s

theorem State.sessFault_keeps (s : State) (p : Fin 8) (reason : ℕ) (prov : Bool) :
    Keeps 99696 0x800000000100000000010588030000000000000000000000018088800000 s (State.sessFault s p reason prov) := by
  have h_s : Keeps 99696 0x800000000100000000010588030000000000000000000000018088800000 s s := Keeps.rfl
  delta State.sessFault
  extract_lets -underBinder -useContext y0 y1 y2 y3 y4
  have hy1 : Keeps 99696 0x800000000100000000010588030000000000000000000000018088800000 s y1 := by
    refine ite_of (Q := Keeps 99696 0x800000000100000000010588030000000000000000000000018088800000 s) ?_ ?_
    · refine Keeps.app (State.sessFlag_keeps _ _ _) rfl rfl ?_
      exact h_s
    · exact h_s
  have hy2 : Keeps 99696 0x800000000100000000010588030000000000000000000000018088800000 s y2 := by
    refine ite_of (Q := Keeps 99696 0x800000000100000000010588030000000000000000000000018088800000 s) ?_ ?_
    · refine Keeps.app (State.sessOpen_keeps _ _) rfl rfl ?_
      exact hy1
    · exact hy1
  have hy3 : Keeps 99696 0x800000000100000000010588030000000000000000000000018088800000 s y3 := by
    refine Keeps.app (State.enter_keeps _ _ _ _) rfl rfl ?_
    refine Keeps.app (State.latchWeld_keeps _ _ _) rfl rfl ?_
    exact hy2
  have hy4 : Keeps 99696 0x800000000100000000010588030000000000000000000000018088800000 s y4 := by
    refine ite_of (Q := Keeps 99696 0x800000000100000000010588030000000000000000000000018088800000 s) ?_ ?_
    · refine Keeps.app (State.modSx_keeps _ _ _) rfl rfl ?_
      exact hy3
    · refine ite_of (Q := Keeps 99696 0x800000000100000000010588030000000000000000000000018088800000 s) ?_ ?_
      · refine Keeps.app (State.modSx_keeps _ _ _) rfl rfl ?_
        exact hy3
      · refine ite_of (Q := Keeps 99696 0x800000000100000000010588030000000000000000000000018088800000 s) ?_ ?_
        · refine Keeps.app (State.writeRecord_keeps _ _) rfl rfl ?_
          exact hy3
        · exact hy3
  refine Keeps.app (State.leaveIfAbsent_keeps _ _) rfl rfl ?_
  exact hy4

theorem State.checkFailed_keeps (s : State) (p : Fin 8) (reason : ℕ) :
    Keeps 99696 0x800000000100000000010588030000000000000000000000018088800000 s (State.checkFailed s p reason) := by
  have h_s : Keeps 99696 0x800000000100000000010588030000000000000000000000018088800000 s s := Keeps.rfl
  delta State.checkFailed
  extract_lets -underBinder -useContext y0 y1
  have hy0 : Keeps 99696 0x800000000100000000010588030000000000000000000000018088800000 s y0 := by
    refine Keeps.app (State.raise_keeps _ _) rfl rfl ?_
    exact h_s
  have hy1 : Keeps 99696 0x800000000100000000010588030000000000000000000000018088800000 s y1 := by
    refine ite_of (Q := Keeps 99696 0x800000000100000000010588030000000000000000000000018088800000 s) ?_ ?_
    · refine Keeps.app (State.raise_keeps _ _) rfl rfl ?_
      exact hy0
    · exact hy0
  refine Keeps.app (State.sessFault_keeps _ _ _ _) rfl rfl ?_
  exact hy1

theorem State.sessStop_keeps (s : State) (p : Fin 8) (reason : ℕ) (prov : Bool) :
    Keeps 98656 0x800000000000000000010588030000000000000000000000018088800000 s (State.sessStop s p reason prov) := by
  have h_s : Keeps 98656 0x800000000000000000010588030000000000000000000000018088800000 s s := Keeps.rfl
  delta State.sessStop
  extract_lets -underBinder -useContext y0
  have hy0 : Keeps 98656 0x800000000000000000010588030000000000000000000000018088800000 s y0 := by
    refine ite_of (Q := Keeps 98656 0x800000000000000000010588030000000000000000000000018088800000 s) ?_ ?_
    · refine Keeps.app (State.sessFlag_keeps _ _ _) rfl rfl ?_
      exact h_s
    · exact h_s
  refine Keeps.app (State.enter_keeps _ _ _ _) rfl rfl ?_
  refine Keeps.app (State.modSx_keeps _ _ _) rfl rfl ?_
  refine Keeps.app (State.sessOpen_keeps _ _) rfl rfl ?_
  exact hy0

theorem State.sessConfirmed_keeps (s : State) (p : Fin 8) (b : PBlock) (held : Bool) :
    Keeps 99696 0x800000000100000000010588030000000000000000000000018088800000 s (State.sessConfirmed s p b held) := by
  have h_s : Keeps 99696 0x800000000100000000010588030000000000000000000000018088800000 s s := Keeps.rfl
  delta State.sessConfirmed
  extract_lets -underBinder -useContext y0 y1 y2 y3 y4 y5
  have hy2 : Keeps 99696 0x800000000100000000010588030000000000000000000000018088800000 s y2 := by
    refine Keeps.app (State.modSx_keeps _ _ _) rfl rfl ?_
    exact h_s
  have hy5 : Keeps 99696 0x800000000100000000010588030000000000000000000000018088800000 s y5 := by
    refine Keeps.app (State.modSx_keeps _ _ _) rfl rfl ?_
    exact hy2
  split
  · split
    · refine Keeps.app (State.checkFailed_keeps _ _ _) rfl rfl ?_
      exact hy5
    · refine ite_of (Q := Keeps 99696 0x800000000100000000010588030000000000000000000000018088800000 s) ?_ ?_
      · refine Keeps.app (State.checkFailed_keeps _ _ _) rfl rfl ?_
        exact hy5
      · exact hy5
  · refine ite_of (Q := Keeps 99696 0x800000000100000000010588030000000000000000000000018088800000 s) ?_ ?_
    · refine Keeps.app (State.sessFault_keeps _ _ _ _) rfl rfl ?_
      exact hy5
    · refine ite_of (Q := Keeps 99696 0x800000000100000000010588030000000000000000000000018088800000 s) ?_ ?_
      · refine Keeps.app (State.sessFault_keeps _ _ _ _) rfl rfl ?_
        exact hy5
      · refine ite_of (Q := Keeps 99696 0x800000000100000000010588030000000000000000000000018088800000 s) ?_ ?_
        · refine Keeps.app (State.raise_keeps _ _) rfl rfl ?_
          refine Keeps.app (State.sessStop_keeps _ _ _ _) rfl rfl ?_
          refine Keeps.app (State.sessFlag_keeps _ _ _) rfl rfl ?_
          exact hy5
        · exact hy5
  · exact hy5

theorem State.sessDetect_keeps (s : State) (p : Fin 8) :
    Keeps 98656 0x8000000000000000000105A8030000000000000000000000018088800000 s (State.sessDetect s p) := by
  have h_s : Keeps 98656 0x8000000000000000000105A8030000000000000000000000018088800000 s s := Keeps.rfl
  delta State.sessDetect
  extract_lets -underBinder -useContext y0 y1 y2 y3 y4 y5 y6 y7
  have hy0 : Keeps 98656 0x8000000000000000000105A8030000000000000000000000018088800000 s y0 := by
    refine Keeps.app (State.modSx_keeps _ _ _) rfl rfl ?_
    exact h_s
  have hy4 : Keeps 98656 0x8000000000000000000105A8030000000000000000000000018088800000 s y4 := by
    refine Keeps.app (State.modSx_keeps _ _ _) rfl rfl ?_
    exact hy0
  have hy5 : Keeps 98656 0x8000000000000000000105A8030000000000000000000000018088800000 s y5 := by
    refine ite_of (Q := Keeps 98656 0x8000000000000000000105A8030000000000000000000000018088800000 s) ?_ ?_
    · refine Keeps.app (State.modSx_keeps _ _ _) rfl rfl ?_
      exact hy4
    · exact hy4
  have hy7 : Keeps 98656 0x8000000000000000000105A8030000000000000000000000018088800000 s y7 := by
    refine Keeps.set (.of rfl (in_PTN_COUP _ (by first | exact Fin.isLt _ | omega))) ?_
    refine Keeps.set (.of rfl (in_TPT_STATE _ (by first | exact Fin.isLt _ | omega))) ?_
    refine Keeps.set (.of rfl (in_TPT_STATE _ (by first | exact Fin.isLt _ | omega))) ?_
    exact hy5
  refine ite_of (Q := Keeps 98656 0x8000000000000000000105A8030000000000000000000000018088800000 s) ?_ ?_
  · exact hy0
  · refine Keeps.app (State.enter_keeps _ _ _ _) rfl rfl ?_
    exact hy7

theorem State.sessQuantum_keeps (s : State) (rec : QRec) :
    Keeps 99696 0x8000000001000000000105A8030000000000000000000000018088800000 s (State.sessQuantum s rec) := by
  have h_s : Keeps 99696 0x8000000001000000000105A8030000000000000000000000018088800000 s s := Keeps.rfl
  delta State.sessQuantum
  refine State.ap_keeps (P := 99696) (B := 0x8000000001000000000105A8030000000000000000000000018088800000) rfl rfl ?_ (fun y0 hy0 => ?_)
  · exact h_s
  · refine foldl_of (Q := Keeps 99696 0x8000000001000000000105A8030000000000000000000000018088800000 s) ?_ (fun y1 y2 my2 hy1 => ?_)
    · exact hy0
    · extract_lets -underBinder -useContext y3
      have hy3 : Keeps 99696 0x8000000001000000000105A8030000000000000000000000018088800000 s y3 := by
        subst y3
        split
        · refine Keeps.app (State.sessConfirmed_keeps _ _ _ _) rfl rfl ?_
          exact hy1
        · exact hy1
      refine ite_of (Q := Keeps 99696 0x8000000001000000000105A8030000000000000000000000018088800000 s) ?_ ?_
      · refine Keeps.app (State.sessDetect_keeps _ _) rfl rfl ?_
        exact hy3
      · exact hy3

theorem State.beginChecks_keeps (s : State) (p : Fin 8) :
    Keeps 96 0x10580000000000000000000000000000000000000 s (State.beginChecks s p) := by
  have h_s : Keeps 96 0x10580000000000000000000000000000000000000 s s := Keeps.rfl
  delta State.beginChecks
  extract_lets -underBinder -useContext y0 y1
  refine ite_of (Q := Keeps 96 0x10580000000000000000000000000000000000000 s) ?_ ?_
  · exact h_s
  · refine ite_of (Q := Keeps 96 0x10580000000000000000000000000000000000000 s) ?_ ?_
    · refine ite_of (Q := Keeps 96 0x10580000000000000000000000000000000000000 s) ?_ ?_
      · refine Keeps.app (State.modSx_keeps _ _ _) rfl rfl ?_
        refine ite_of (Q := Keeps 96 0x10580000000000000000000000000000000000000 s) ?_ ?_
        · refine Keeps.app (State.commandChan_keeps _ _ _) rfl rfl ?_
          exact h_s
        · exact h_s
      · exact h_s
    · refine ite_of (Q := Keeps 96 0x10580000000000000000000000000000000000000 s) ?_ ?_
      · refine Keeps.app (State.modSx_keeps _ _ _) rfl rfl ?_
        refine Keeps.app (State.closePoint_keeps _ _) rfl rfl ?_
        exact h_s
      · exact h_s

theorem State.sessGrant_keeps (s : State) (p : Fin 8) (src : ℕ) (prepaid : ℕ) :
    Keeps 98656 0x800000000000000000010588030000000000000000000000018088800000 s (State.sessGrant s p src prepaid) := by
  have h_s : Keeps 98656 0x800000000000000000010588030000000000000000000000018088800000 s s := Keeps.rfl
  delta State.sessGrant
  extract_lets -underBinder -useContext y0 y1 y2 y3
  have hy0 : Keeps 98656 0x800000000000000000010588030000000000000000000000018088800000 s y0 := by
    refine Keeps.set (.of rfl (in_TPT_STATE _ (by first | exact Fin.isLt _ | omega))) ?_
    exact h_s
  have hy2 : Keeps 98656 0x800000000000000000010588030000000000000000000000018088800000 s y2 := by
    refine Keeps.app (State.modSx_keeps _ _ _) rfl rfl ?_
    exact hy0
  have hy3 : Keeps 98656 0x800000000000000000010588030000000000000000000000018088800000 s y3 := by
    refine Keeps.app (State.modSx_keeps _ _ _) rfl rfl ?_
    exact hy2
  refine Keeps.app (State.beginChecks_keeps _ _) rfl rfl ?_
  refine Keeps.app (State.claimIm_keeps _ _) rfl rfl ?_
  refine Keeps.app (State.enter_keeps _ _ _ _) rfl rfl ?_
  exact hy3

theorem State.sessClose_keeps (s : State) (p : Fin 8) (reason : ℕ) :
    Keeps 99696 0x800000000100000000010588030000000000000000000000018088800000 s (State.sessClose s p reason) := by
  have h_s : Keeps 99696 0x800000000100000000010588030000000000000000000000018088800000 s s := Keeps.rfl
  delta State.sessClose
  refine Keeps.app (State.leaveIfAbsent_keeps _ _) rfl rfl ?_
  refine Keeps.app (State.writeRecord_keeps _ _) rfl rfl ?_
  refine Keeps.app (State.enter_keeps _ _ _ _) rfl rfl ?_
  exact h_s

theorem State.sessStopBy_keeps (s : State) (p : Fin 8) (reason : ℕ) :
    Keeps 99696 0x800000000100000000010588030000000000000000000000018088800000 s (State.sessStopBy s p reason) := by
  have h_s : Keeps 99696 0x800000000100000000010588030000000000000000000000018088800000 s s := Keeps.rfl
  delta State.sessStopBy
  split
  · refine Keeps.app (State.sessClose_keeps _ _ _) rfl rfl ?_
    exact h_s
  · refine Keeps.app (State.sessClose_keeps _ _ _) rfl rfl ?_
    exact h_s
  · refine Keeps.app (State.sessClose_keeps _ _ _) rfl rfl ?_
    exact h_s
  · refine Keeps.app (State.sessStop_keeps _ _ _ _) rfl rfl ?_
    exact h_s
  · exact h_s

theorem State.sameTick_keeps (s : State) (p : Fin 8) (bit : ℕ) :
    Keeps 32 0 s (State.sameTick s p bit) := by
  have h_s : Keeps 32 0 s s := Keeps.rfl
  delta State.sameTick
  refine ite_of (Q := Keeps 32 0 s) ?_ ?_
  · refine Keeps.app (State.sessFlag_keeps _ _ _) rfl rfl ?_
    exact h_s
  · exact h_s

theorem State.sessPartnerStop_keeps (s : State) (p : Fin 8) :
    Keeps 99696 0x800000000100000000010588030000000000000000000000018088800000 s (State.sessPartnerStop s p) := by
  have h_s : Keeps 99696 0x800000000100000000010588030000000000000000000000018088800000 s s := Keeps.rfl
  delta State.sessPartnerStop
  extract_lets -underBinder -useContext y0 y1
  have hy1 : Keeps 99696 0x800000000100000000010588030000000000000000000000018088800000 s y1 := by
    refine Keeps.app (State.modSx_keeps _ _ _) rfl rfl ?_
    exact h_s
  refine ite_of (Q := Keeps 99696 0x800000000100000000010588030000000000000000000000018088800000 s) ?_ ?_
  · refine Keeps.app (State.sessStopBy_keeps _ _ _) rfl rfl ?_
    exact hy1
  · refine Keeps.app (State.sameTick_keeps _ _ _) rfl rfl ?_
    exact hy1

theorem State.sessProv_keeps (s : State) (p : Fin 8) (b : PBlock) :
    Keeps 99696 0x800000000100000000010588030000000000000000000000018088800000 s (State.sessProv s p b) := by
  have h_s : Keeps 99696 0x800000000100000000010588030000000000000000000000018088800000 s s := Keeps.rfl
  delta State.sessProv
  extract_lets -underBinder -useContext y0 y1 y2 y3
  have hy3 : Keeps 99696 0x800000000100000000010588030000000000000000000000018088800000 s y3 := by
    refine Keeps.app (State.sessStop_keeps _ _ _ _) rfl rfl ?_
    refine Keeps.app (State.sessFlag_keeps _ _ _) rfl rfl ?_
    exact h_s
  refine ite_of (Q := Keeps 99696 0x800000000100000000010588030000000000000000000000018088800000 s) ?_ ?_
  · exact h_s
  · refine ite_of (Q := Keeps 99696 0x800000000100000000010588030000000000000000000000018088800000 s) ?_ ?_
    · refine Keeps.app (State.sessFault_keeps _ _ _ _) rfl rfl ?_
      exact h_s
    · refine ite_of (Q := Keeps 99696 0x800000000100000000010588030000000000000000000000018088800000 s) ?_ ?_
      · refine Keeps.app (State.raise_keeps _ _) rfl rfl ?_
        exact hy3
      · exact h_s

theorem State.authTable_keeps (s : State) (p : Fin 8) :
    Keeps 98656 0x800000000000000000010588030000000000000000000000018088800000 s (State.authTable s p) := by
  have h_s : Keeps 98656 0x800000000000000000010588030000000000000000000000018088800000 s s := Keeps.rfl
  delta State.authTable
  extract_lets -underBinder -useContext y0 y1
  refine ite_of (Q := Keeps 98656 0x800000000000000000010588030000000000000000000000018088800000 s) ?_ ?_
  · refine Keeps.app (State.sessGrant_keeps _ _ _ _) rfl rfl ?_
    exact h_s
  · refine ite_of (Q := Keeps 98656 0x800000000000000000010588030000000000000000000000018088800000 s) ?_ ?_
    · refine Keeps.app (State.raise_keeps _ _) rfl rfl ?_
      refine Keeps.app (State.modSx_keeps _ _ _) rfl rfl ?_
      exact h_s
    · exact h_s

theorem State.authorise_keeps (s : State) (p : Fin 8) :
    Keeps 98656 0x800000000000000000010588030000000000000000000000018088800000 s (State.authorise s p) := by
  have h_s : Keeps 98656 0x800000000000000000010588030000000000000000000000018088800000 s s := Keeps.rfl
  delta State.authorise
  extract_lets -underBinder -useContext y0
  refine ite_of (Q := Keeps 98656 0x800000000000000000010588030000000000000000000000018088800000 s) ?_ ?_
  · refine ite_of (Q := Keeps 98656 0x800000000000000000010588030000000000000000000000018088800000 s) ?_ ?_
    · refine Keeps.app (State.raise_keeps _ _) rfl rfl ?_
      refine Keeps.app (State.modSx_keeps _ _ _) rfl rfl ?_
      exact h_s
    · refine Keeps.app (State.sessGrant_keeps _ _ _ _) rfl rfl ?_
      exact h_s
  · refine Keeps.app (State.authTable_keeps _ _) rfl rfl ?_
    exact h_s

theorem State.sessProvRec_keeps (s : State) (rec : QRec) :
    Keeps 99696 0x800000000100000000010588030000000000000000000000018088800000 s (State.sessProvRec s rec) := by
  have h_s : Keeps 99696 0x800000000100000000010588030000000000000000000000018088800000 s s := Keeps.rfl
  delta State.sessProvRec
  refine State.ap_keeps (P := 99696) (B := 0x800000000100000000010588030000000000000000000000018088800000) rfl rfl ?_ (fun y0 hy0 => ?_)
  · exact h_s
  · refine foldl_of (Q := Keeps 99696 0x800000000100000000010588030000000000000000000000018088800000 s) ?_ (fun y1 y2 my2 hy1 => ?_)
    · exact hy0
    · refine Keeps.app (State.sessProv_keeps _ _ _) rfl rfl ?_
      exact hy1

theorem State.sessFaultLive_keeps (s : State) (p : Fin 8) (reason : ℕ) :
    Keeps 99696 0x800000000100000000010588030000000000000000000000018088800000 s (State.sessFaultLive s p reason) := by
  have h_s : Keeps 99696 0x800000000100000000010588030000000000000000000000018088800000 s s := Keeps.rfl
  delta State.sessFaultLive
  refine ite_of (Q := Keeps 99696 0x800000000100000000010588030000000000000000000000018088800000 s) ?_ ?_
  · refine Keeps.app (State.sessFault_keeps _ _ _ _) rfl rfl ?_
    exact h_s
  · exact h_s

theorem State.sessTryEnd_keeps (s : State) (p : Fin 8) :
    Keeps 99696 0x800000000100000000010588030000000000000000000000018088800000 s (State.sessTryEnd s p) := by
  have h_s : Keeps 99696 0x800000000100000000010588030000000000000000000000018088800000 s s := Keeps.rfl
  delta State.sessTryEnd
  extract_lets -underBinder -useContext y0
  refine ite_of (Q := Keeps 99696 0x800000000100000000010588030000000000000000000000018088800000 s) ?_ ?_
  · exact h_s
  · refine ite_of (Q := Keeps 99696 0x800000000100000000010588030000000000000000000000018088800000 s) ?_ ?_
    · refine ite_of (Q := Keeps 99696 0x800000000100000000010588030000000000000000000000018088800000 s) ?_ ?_
      · exact h_s
      · refine Keeps.app (State.sessClose_keeps _ _ _) rfl rfl ?_
        exact h_s
    · refine ite_of (Q := Keeps 99696 0x800000000100000000010588030000000000000000000000018088800000 s) ?_ ?_
      · refine Keeps.app (State.leaveIfAbsent_keeps _ _) rfl rfl ?_
        refine Keeps.app (State.writeRecord_keeps _ _) rfl rfl ?_
        exact h_s
      · exact h_s

theorem State.sessSafety_keeps (s : State) (p : Fin 8) :
    Keeps 99696 0x800000000100000000010588030000000000000000000000018088800000 s (State.sessSafety s p) := by
  have h_s : Keeps 99696 0x800000000100000000010588030000000000000000000000018088800000 s s := Keeps.rfl
  delta State.sessSafety
  extract_lets -underBinder -useContext y0
  refine ite_of (Q := Keeps 99696 0x800000000100000000010588030000000000000000000000018088800000 s) ?_ ?_
  · refine Keeps.app (State.sessFault_keeps _ _ _ _) rfl rfl ?_
    exact h_s
  · refine ite_of (Q := Keeps 99696 0x800000000100000000010588030000000000000000000000018088800000 s) ?_ ?_
    · refine Keeps.app (State.sessClose_keeps _ _ _) rfl rfl ?_
      exact h_s
    · exact h_s

theorem State.safetyStop_keeps (s : State) (mask : ℕ) :
    Keeps 99696 0x800000000100000000010588030000000000000000000000018088800000 s (State.safetyStop s mask) := by
  have h_s : Keeps 99696 0x800000000100000000010588030000000000000000000000018088800000 s s := Keeps.rfl
  delta State.safetyStop
  refine State.ap_keeps (P := 99696) (B := 0x800000000100000000010588030000000000000000000000018088800000) rfl rfl ?_ (fun y0 hy0 => ?_)
  · exact h_s
  · refine foldl_of (Q := Keeps 99696 0x800000000100000000010588030000000000000000000000018088800000 s) ?_ (fun y1 y2 my2 hy1 => ?_)
    · exact hy0
    · refine Keeps.app (State.sessSafety_keeps _ _) rfl rfl ?_
      exact hy1

theorem State.sessIdentify_keeps (s : State) (p : Fin 8) (ident : List Byte) (cert : Bool) :
    Keeps 98656 0x800000000000000000010588070000000000000000000000018088800000 s (State.sessIdentify s p ident cert) := by
  have h_s : Keeps 98656 0x800000000000000000010588070000000000000000000000018088800000 s s := Keeps.rfl
  delta State.sessIdentify
  extract_lets -underBinder -useContext y0 y1 y2 y3 y4 y5 y6 y7 y8 y9
  have hy3 : Keeps 98656 0x800000000000000000010588070000000000000000000000018088800000 s y3 := by
    exact Keeps.tpt_ rfl h_s
  have hy4 : Keeps 98656 0x800000000000000000010588070000000000000000000000018088800000 s y4 := by
    refine Keeps.set (.of rfl (in_TPT_SESSION _ (by first | exact Fin.isLt _ | omega))) ?_
    exact hy3
  have hy6 : Keeps 98656 0x800000000000000000010588070000000000000000000000018088800000 s y6 := by
    refine Keeps.app (State.modSx_keeps _ _ _) rfl rfl ?_
    exact hy4
  have hy9 : Keeps 98656 0x800000000000000000010588070000000000000000000000018088800000 s y9 := by
    refine Keeps.app (State.modSx_keeps _ _ _) rfl rfl ?_
    exact hy6
  refine Keeps.app (State.authorise_keeps _ _) rfl rfl ?_
  refine Keeps.app (State.enter_keeps _ _ _ _) rfl rfl ?_
  exact hy9

theorem State.tryStart_keeps (s : State) (p : Fin 8) :
    Keeps 98672 0x800000000000000000010588030300000000000000000000018088800000 s (State.tryStart s p) := by
  have h_s : Keeps 98672 0x800000000000000000010588030300000000000000000000018088800000 s s := Keeps.rfl
  delta State.tryStart
  refine ite_of (Q := Keeps 98672 0x800000000000000000010588030300000000000000000000018088800000 s) ?_ ?_
  · refine Keeps.app (State.sessStart_keeps _ _) rfl rfl ?_
    exact h_s
  · exact h_s

theorem State.switchStop_keeps (s : State) (p : Fin 8) (reason : ℕ) :
    Keeps 99696 0x800000000100000000010588030000000000000000000000018088800000 s (State.switchStop s p reason) := by
  have h_s : Keeps 99696 0x800000000100000000010588030000000000000000000000018088800000 s s := Keeps.rfl
  delta State.switchStop
  refine State.ap_keeps (P := 99696) (B := 0x800000000100000000010588030000000000000000000000018088800000) rfl rfl ?_ (fun y0 hy0 => ?_)
  · exact h_s
  · refine ite_of (Q := Keeps 99696 0x800000000100000000010588030000000000000000000000018088800000 s) ?_ ?_
    · refine Keeps.app (State.sessFault_keeps _ _ _ _) rfl rfl ?_
      exact hy0
    · exact hy0

theorem State.sessAbsent_keeps (s : State) (p : Fin 8) :
    Keeps 99696 0x800000000100000000010588030000000000000000000000018088800000 s (State.sessAbsent s p) := by
  have h_s : Keeps 99696 0x800000000100000000010588030000000000000000000000018088800000 s s := Keeps.rfl
  delta State.sessAbsent
  extract_lets -underBinder -useContext y0
  have hy0 : Keeps 99696 0x800000000100000000010588030000000000000000000000018088800000 s y0 := by
    refine Keeps.app (State.modSx_keeps _ _ _) rfl rfl ?_
    exact h_s
  split
  · refine Keeps.app (State.enter_keeps _ _ _ _) rfl rfl ?_
    exact hy0
  · refine Keeps.app (State.sessClose_keeps _ _ _) rfl rfl ?_
    exact hy0
  · refine Keeps.app (State.sessClose_keeps _ _ _) rfl rfl ?_
    exact hy0
  · refine Keeps.app (State.sessClose_keeps _ _ _) rfl rfl ?_
    exact hy0
  · refine Keeps.app (State.sessFault_keeps _ _ _ _) rfl rfl ?_
    exact hy0
  · refine Keeps.app (State.sameTick_keeps _ _ _) rfl rfl ?_
    exact hy0
  · refine Keeps.app (State.leaveIfAbsent_keeps _ _) rfl rfl ?_
    refine ite_of (Q := Keeps 99696 0x800000000100000000010588030000000000000000000000018088800000 s) ?_ ?_
    · refine Keeps.app (State.sameTick_keeps _ _ _) rfl rfl ?_
      exact hy0
    · exact hy0

theorem State.sessEndReading_keeps (s : State) (p : Fin 8) (qe : ℕ) :
    Keeps 48 0x300000000000000000000000000000000 s (State.sessEndReading s p qe) := by
  have h_s : Keeps 48 0x300000000000000000000000000000000 s s := Keeps.rfl
  delta State.sessEndReading
  refine Keeps.app (State.requestReading_keeps _ _ _ _ _) rfl rfl ?_
  refine Keeps.app (State.modSx_keeps _ _ _) rfl rfl ?_
  exact h_s

end Sys2Proof.Machine
end

