-- ==== Sys2Proof/Laws/KeepsAuxiliary.lean ====
section
/-! SUPPORT. What the operations of Machine/Auxiliary.lean can change, one lemma each (Laws/Keeps.lean says how it is read). -/

namespace Sys2Proof.Machine

theorem State.readingSigned_keeps (s : State) (r : ReadReq) (seq : ℕ) :
    Keeps 99696 0x800000000100000000010588030000000000000000000000018088800000 s (State.readingSigned s r seq) := by
  have h_s : Keeps 99696 0x800000000100000000010588030000000000000000000000018088800000 s s := Keeps.rfl
  delta State.readingSigned
  extract_lets -underBinder -useContext y0
  have hy0 : Keeps 99696 0x800000000100000000010588030000000000000000000000018088800000 s y0 := by
    refine Keeps.app (State.modSx_keeps _ _ _) rfl rfl ?_
    exact h_s
  refine ite_of (Q := Keeps 99696 0x800000000100000000010588030000000000000000000000018088800000 s) ?_ ?_
  · refine Keeps.app (State.modSx_keeps _ _ _) rfl rfl ?_
    exact h_s
  · refine ite_of (Q := Keeps 99696 0x800000000100000000010588030000000000000000000000018088800000 s) ?_ ?_
    · refine State.ap_keeps (P := 99696) (B := 0x800000000100000000010588030000000000000000000000018088800000) rfl rfl ?_ (fun y1 hy1 => ?_)
      · exact hy0
      · refine Keeps.app (State.sessTryEnd_keeps _ _) rfl rfl ?_
        exact hy1
    · exact h_s

theorem State.signed_keeps (s : State) :
    Keeps 230768 0x800000000100000000010588030000000000000000000000018088800000 s (State.signed s) := by
  have h_s : Keeps 230768 0x800000000100000000010588030000000000000000000000018088800000 s s := Keeps.rfl
  delta State.signed
  split
  · split
    · rename_i _ y5 hx
      have hy5 : Keeps 230768 0x800000000100000000010588030000000000000000000000018088800000 s y5 := KeepsE.of_eq (by
          refine KeepsE.app (State.signWith_keeps _ _ _) rfl rfl ?_
          exact h_s) hx
      extract_lets -underBinder -useContext y6 y7 y8 y9 y10 y11 y12 y13
      have hy8 : Keeps 230768 0x800000000100000000010588030000000000000000000000018088800000 s y8 := by
        exact Keeps.bil_ rfl (BilS.Ext.same rfl rfl) hy5
      have hy11 : Keeps 230768 0x800000000100000000010588030000000000000000000000018088800000 s y11 := by
        refine Keeps.app (State.toStore_keeps _ _ _ _) rfl rfl ?_
        exact hy8
      have hy12 : Keeps 230768 0x800000000100000000010588030000000000000000000000018088800000 s y12 := by
        refine Keeps.app (State.raise_keeps _ _) rfl rfl ?_
        exact hy11
      have hy13 : Keeps 230768 0x800000000100000000010588030000000000000000000000018088800000 s y13 := by
        subst y13
        split
        · refine Keeps.app (State.ok_keeps _ _ _) rfl rfl ?_
          exact hy12
        · exact hy12
      refine Keeps.app (State.readingSigned_keeps _ _ _) rfl rfl ?_
      exact hy13
  · exact h_s

theorem execSignatureComplete_keeps (s : State) :
    KeepsO 230768 0x800000000100000000010588030000000000000000000000018088800000 s (execSignatureComplete s) := by
  have h_s : Keeps 230768 0x800000000100000000010588030000000000000000000000018088800000 s s := Keeps.rfl
  delta execSignatureComplete
  refine KeepsO.next ?_
  refine ite_of (Q := Keeps 230768 0x800000000100000000010588030000000000000000000000018088800000 s) ?_ ?_
  · refine Keeps.app (State.signed_keeps _) rfl rfl ?_
    exact h_s
  · exact h_s

theorem State.busFault_keeps (s : State) (stuck : Bool) :
    Keeps 98560 0x800000000000000000000000000000000000000000000000018088808000 s (State.busFault s stuck) := by
  have h_s : Keeps 98560 0x800000000000000000000000000000000000000000000000018088808000 s s := Keeps.rfl
  delta State.busFault
  extract_lets -underBinder -useContext y0 y1
  have hy0 : Keeps 98560 0x800000000000000000000000000000000000000000000000018088808000 s y0 := by
    refine Keeps.set (.of rfl in_MG_I2C_STAT) ?_
    refine Keeps.count (.of rfl in_MG_I2C_STAT) ?_
    exact h_s
  have hy1 : Keeps 98560 0x800000000000000000000000000000000000000000000000018088808000 s y1 := by
    refine ite_of (Q := Keeps 98560 0x800000000000000000000000000000000000000000000000018088808000 s) ?_ ?_
    · refine Keeps.set (.of rfl in_MG_I2C_STAT) ?_
      exact hy0
    · exact hy0
  refine Keeps.app (State.raise_keeps _ _) rfl rfl ?_
  exact hy1

theorem execWaveformCapture_keeps (d : Desc) (s : State) :
    KeepsO 260 0 s (execWaveformCapture d s) := by
  have h_s : Keeps 260 0 s s := Keeps.rfl
  delta execWaveformCapture
  extract_lets -underBinder -useContext y0
  refine KeepsO.next ?_
  refine State.command_keeps (P := 260) (B := 0) rfl rfl ?_ (fun y1 hy1 => ?_)
  · exact h_s
  · extract_lets -underBinder -useContext y2 y3 y4
    exact Keeps.met_ rfl hy1

theorem execI2cTransfer_keeps (d : Desc) (bus : I2cBus) (s : State) :
    KeepsO 98560 0x800000000000000000000000000000000000000000000000018088808000 s (execI2cTransfer d bus s) := by
  have h_s : Keeps 98560 0x800000000000000000000000000000000000000000000000018088808000 s s := Keeps.rfl
  delta execI2cTransfer
  extract_lets -underBinder -useContext y0 y1
  refine KeepsO.next ?_
  refine State.command_keeps (P := 98560) (B := 0x800000000000000000000000000000000000000000000000018088808000) rfl rfl ?_ (fun y2 hy2 => ?_)
  · exact h_s
  · extract_lets -underBinder -useContext y3
    have hy3 : Keeps 98560 0x800000000000000000000000000000000000000000000000018088808000 s y3 := by
      refine Keeps.app (State.emit_keeps _ _) rfl rfl ?_
      exact hy2
    refine ite_of (Q := Keeps 98560 0x800000000000000000000000000000000000000000000000018088808000 s) ?_ ?_
    · refine Keeps.app (State.complete_keeps _ _ _ _ _) rfl rfl ?_
      exact hy2
    · split
      · refine Keeps.app (State.ok_keeps _ _ _) rfl rfl ?_
        refine Keeps.set (.of rfl in_MG_I2C_STAT) ?_
        refine Keeps.set (.of rfl in_MG_I2C_STAT) ?_
        exact hy3
      · refine Keeps.app (State.complete_keeps _ _ _ _ _) rfl rfl ?_
        exact hy3
      · refine Keeps.app (State.complete_keeps _ _ _ _ _) rfl rfl ?_
        exact hy3
      · refine Keeps.app (State.complete_keeps _ _ _ _ _) rfl rfl ?_
        refine Keeps.app (State.busFault_keeps _ _) rfl rfl ?_
        exact hy3
      · refine Keeps.app (State.complete_keeps _ _ _ _ _) rfl rfl ?_
        refine Keeps.app (State.busFault_keeps _ _) rfl rfl ?_
        exact hy2
      · refine Keeps.app (State.complete_keeps _ _ _ _ _) rfl rfl ?_
        refine Keeps.app (State.busFault_keeps _ _) rfl rfl ?_
        exact hy3

end Sys2Proof.Machine
end

