-- ==== Sys2Proof/Laws/KeepsSettings.lean ====
section
/-! SUPPORT. What the operations of Machine/Settings.lean can change, one lemma each (Laws/Keeps.lean says how it is read). -/

namespace Sys2Proof.Machine

theorem State.setWaiting_keeps {P B : Nat} {s0 : State} {s : State} {off : ℕ} {v : ℕ} (hp : P &&& 4 = 4) (_hb : B &&& 0x0 = 0x0) (hr : RowIn B off)
    (h_s : Keeps P B s0 s)  :
    Keeps P B s0 (State.setWaiting s off v) := by
  delta State.setWaiting
  extract_lets -underBinder -useContext y0 y1 y2
  have hy2 : Keeps P B s0 y2 := by
    refine ite_of (Q := Keeps P B s0) ?_ ?_
    · exact h_s
    · exact Keeps.met_ (bit_of hp rfl) h_s
  refine ite_of (Q := Keeps P B s0) ?_ ?_
  · exact h_s
  · refine Keeps.setReg hr ?_
    exact hy2

theorem State.setWaiting_keepsAny (s : State) (off : ℕ) (v : ℕ) :
    Keeps 262148 (2 ^ 241 - 1) s (State.setWaiting s off v) := by
  have h_s : Keeps 262148 (2 ^ 241 - 1) s s := Keeps.rfl
  delta State.setWaiting
  extract_lets -underBinder -useContext y0 y1 y2
  have hy2 : Keeps 262148 (2 ^ 241 - 1) s y2 := by
    refine ite_of (Q := Keeps 262148 (2 ^ 241 - 1) s) ?_ ?_
    · exact h_s
    · exact Keeps.met_ rfl h_s
  refine ite_of (Q := Keeps 262148 (2 ^ 241 - 1) s) ?_ ?_
  · exact h_s
  · refine Keeps.setRegAny rfl ?_
    exact hy2

theorem State.setChan_keeps (s : State) (c : Fin 3) (x : ChanS) :
    Keeps 4 0 s (State.setChan s c x) := by
  have h_s : Keeps 4 0 s s := Keeps.rfl
  delta State.setChan
  extract_lets -underBinder -useContext y0
  exact Keeps.met_ rfl h_s

end Sys2Proof.Machine
end

