-- ==== Sys2Proof/Laws/KeepsMetering.lean ====
section
/-! SUPPORT. What the operations of Machine/Metering.lean can change, one lemma each (Laws/Keeps.lean says how it is read). -/

namespace Sys2Proof.Machine

theorem execPhaseConditionClear_keeps (c : Fin 3) (p : Fin 8) (k : Fin 3) (s : State) :
    KeepsO 4 0 s (execPhaseConditionClear c p k s) := by
  have h_s : Keeps 4 0 s s := Keeps.rfl
  delta execPhaseConditionClear
  extract_lets -underBinder -useContext y0
  refine ite_of (Q := KeepsO 4 0 s) ?_ ?_
  · refine KeepsO.next ?_
    exact h_s
  · refine KeepsO.next ?_
    refine Keeps.app (State.setChan_keeps _ _ _) rfl rfl ?_
    exact h_s

theorem State.clearRcm_keeps (s : State) (p : Fin 8) :
    Keeps 4 0x400000000000000 s (State.clearRcm s p) := by
  have h_s : Keeps 4 0x400000000000000 s s := Keeps.rfl
  delta State.clearRcm
  extract_lets -underBinder -useContext y0
  have hy0 : Keeps 4 0x400000000000000 s y0 := by
    refine Keeps.set (.of rfl (in_MET_TPCOND _ (by first | exact Fin.isLt _ | omega))) ?_
    refine Keeps.set (.of rfl (in_MET_TPCOND _ (by first | exact Fin.isLt _ | omega))) ?_
    exact h_s
  refine foldl_of (Q := Keeps 4 0x400000000000000 s) ?_ (fun y1 y2 my2 hy1 => ?_)
  · exact hy0
  · extract_lets -underBinder -useContext y3 y4 y5 y6 y7
    refine Keeps.app (State.setChan_keeps _ _ _) rfl rfl ?_
    exact hy1

theorem execPhaseConditionSet_keeps (c : Fin 3) (p : Fin 8) (k : Fin 3) (s : State) :
    KeepsO 4 0 s (execPhaseConditionSet c p k s) := by
  have h_s : Keeps 4 0 s s := Keeps.rfl
  delta execPhaseConditionSet
  extract_lets -underBinder -useContext y0
  refine ite_of (Q := KeepsO 4 0 s) ?_ ?_
  · refine KeepsO.next ?_
    exact h_s
  · refine KeepsO.next ?_
    refine Keeps.app (State.setChan_keeps _ _ _) rfl rfl ?_
    exact h_s

theorem State.captureRow_keeps (s : State) (c : Fin 3) (row : ℕ) (codes : Option (List ℤ)) :
    Keeps 425984 0 s (State.captureRow s c row codes) := by
  have h_s : Keeps 425984 0 s s := Keeps.rfl
  delta State.captureRow
  split
  · exact h_s
  · extract_lets -underBinder -useContext y2
    refine ite_of (Q := Keeps 425984 0 s) ?_ ?_
    · split
      · rename_i _ y4 hx
        have hy4 : Keeps 425984 0 s y4 := KeepsE.of_eq (by
            refine KeepsE.app (State.fresh_keeps _) rfl rfl ?_
            exact h_s) hx
        extract_lets -underBinder -useContext y5
        refine Keeps.app (State.store_keeps _ _ _) rfl rfl ?_
        exact hy4
    · exact h_s

theorem State.badFrames_keeps (s : State) (c : Fin 3) (n : ℕ) :
    Keeps 491780 0x800000000000000000000000000000000080000000000000018088800000 s (State.badFrames s c n) := by
  have h_s : Keeps 491780 0x800000000000000000000000000000000080000000000000018088800000 s s := Keeps.rfl
  delta State.badFrames
  extract_lets -underBinder -useContext y0 y1
  have hy1 : Keeps 491780 0x800000000000000000000000000000000080000000000000018088800000 s y1 := by
    refine foldl_of (Q := Keeps 491780 0x800000000000000000000000000000000080000000000000018088800000 s) ?_ (fun y2 y3 my3 hy2 => ?_)
    · exact h_s
    · refine Keeps.app (State.captureRow_keeps _ _ _ _) rfl rfl ?_
      exact hy2
  refine ite_of (Q := Keeps 491780 0x800000000000000000000000000000000080000000000000018088800000 s) ?_ ?_
  · exact h_s
  · refine Keeps.app (State.raise_keeps _ _) rfl rfl ?_
    refine Keeps.count (.of rfl (in_MET_CH_LINKERR _ (by first | exact Fin.isLt _ | omega))) ?_
    refine Keeps.app (State.setChan_keeps _ _ _) rfl rfl ?_
    exact hy1

theorem State.bandStep_keeps (s : State) (c : Fin 3) (mean : Option ℤ) (freshBand : Bool) :
    KeepsG 98560 0x800000000000000000000000000000000010000000000000118088800000 s (State.bandStep s c mean freshBand) := by
  have h_s : Keeps 98560 0x800000000000000000000000000000000010000000000000118088800000 s s := Keeps.rfl
  delta State.bandStep
  extract_lets -underBinder -useContext y0 y2
  have hy2 : ∀ (y3 : State) (y4 : ℕ), Keeps 98560 0x800000000000000000000000000000000010000000000000118088800000 s y3 → Keeps 98560 0x800000000000000000000000000000000010000000000000118088800000 s (y2 y3 y4) := by
    intro y3 y4 hy3
    subst y2
    refine Keeps.set (.of rfl in_MET_STATUS) ?_
    exact hy3
  split
  · refine KeepsG.mk ?_
    exact h_s
  · extract_lets -underBinder -useContext y6 y7 y8 y9 y10 y11
    have hy6 : Keeps 98560 0x800000000000000000000000000000000010000000000000118088800000 s y6 := by
      refine Keeps.set (.of rfl (in_MET_CH_TEMP _ (by first | exact Fin.isLt _ | omega))) ?_
      exact h_s
    have hy8 : Keeps 98560 0x800000000000000000000000000000000010000000000000118088800000 s y8 := by
      refine ite_of (Q := Keeps 98560 0x800000000000000000000000000000000010000000000000118088800000 s) ?_ ?_
      · refine Keeps.app (State.raise_keeps _ _) rfl rfl ?_
        exact hy6
      · exact hy6
    have hy9 : Keeps 98560 0x800000000000000000000000000000000010000000000000118088800000 s y9 := by
      refine Keeps.setBit (.of rfl in_MET_STATUS) ?_
      exact hy8
    refine ite_of (Q := KeepsG 98560 0x800000000000000000000000000000000010000000000000118088800000 s) ?_ ?_
    · refine KeepsG.mk ?_
      refine hy2 _ _ ?_
      exact hy9
    · refine KeepsG.mk ?_
      refine ite_of (Q := Keeps 98560 0x800000000000000000000000000000000010000000000000118088800000 s) ?_ ?_
      · exact hy9
      · refine Keeps.app (State.raise_keeps _ _) rfl rfl ?_
        refine hy2 _ _ ?_
        exact hy9

theorem State.abortTests_keeps (s : State) :
    Keeps 4 0x404000000000000 s (State.abortTests s) := by
  have h_s : Keeps 4 0x404000000000000 s s := Keeps.rfl
  delta State.abortTests
  extract_lets -underBinder -useContext y0 y1 y2 y3 y6
  have hy1 : Keeps 4 0x404000000000000 s y1 := by
    refine Keeps.set (.of rfl in_MET_STEST_CTRL) ?_
    exact h_s
  have hy2 : Keeps 4 0x404000000000000 s y2 := by
    refine Keeps.set (.of rfl in_MET_STEST_CTRL) ?_
    exact hy1
  have hy3 : Keeps 4 0x404000000000000 s y3 := by
    refine foldl_of (Q := Keeps 4 0x404000000000000 s) ?_ (fun y4 y5 my5 hy4 => ?_)
    · exact hy2
    · refine Keeps.set (.of rfl (in_MET_TPCOND _ (by first | exact Fin.isLt _ | omega))) ?_
      exact hy4
  exact Keeps.met_ rfl hy3

theorem State.completeChan_keeps (s : State) (c : Fin 3) :
    Keeps 131076 0x100000000000 s (State.completeChan s c) := by
  have h_s : Keeps 131076 0x100000000000 s s := Keeps.rfl
  delta State.completeChan
  split
  · exact h_s
  · split
    · rename_i _ y2 hx
      have hy2 : Keeps 131076 0x100000000000 s y2 := KeepsE.of_eq (by
          refine KeepsE.app (State.fresh_keeps _) rfl rfl ?_
          exact h_s) hx
      extract_lets -underBinder -useContext y3 y4 y5 y6 y7 y8 y9
      refine Keeps.setBit (.of rfl in_MET_STATUS) ?_
      refine Keeps.app (State.setChan_keeps _ _ _) rfl rfl ?_
      exact hy2

theorem execChannelRecordComplete_keeps (c : Fin 3) (s : State) :
    KeepsO 131076 0x100000000000 s (execChannelRecordComplete c s) := by
  have h_s : Keeps 131076 0x100000000000 s s := Keeps.rfl
  delta execChannelRecordComplete
  refine ite_of (Q := KeepsO 131076 0x100000000000 s) ?_ ?_
  · refine KeepsO.next ?_
    exact h_s
  · refine KeepsO.next ?_
    refine Keeps.app (State.completeChan_keeps _ _) rfl rfl ?_
    exact h_s

theorem State.requestTests_keeps (s : State) (mask : ℕ) :
    Keeps 0 0x4000000000000 s (State.requestTests s mask) := by
  have h_s : Keeps 0 0x4000000000000 s s := Keeps.rfl
  delta State.requestTests
  extract_lets -underBinder -useContext y0 y1
  have hy1 : Keeps 0 0x4000000000000 s y1 := by
    refine Keeps.set (.of rfl in_MET_STEST_CTRL) ?_
    exact h_s
  refine Keeps.set (.of rfl in_MET_STEST_CTRL) ?_
  exact hy1

theorem execStartTest_keeps (d : Desc) (s : State) :
    KeepsO 256 0x4000000000000 s (execStartTest d s) := by
  have h_s : Keeps 256 0x4000000000000 s s := Keeps.rfl
  delta execStartTest
  refine KeepsO.next ?_
  refine State.command_keeps (P := 256) (B := 0x4000000000000) rfl rfl ?_ (fun y0 hy0 => ?_)
  · exact h_s
  · refine Keeps.app (State.ok_keeps _ _ _) rfl rfl ?_
    refine Keeps.app (State.requestTests_keeps _ _) rfl rfl ?_
    exact hy0

theorem State.dueTests_keeps (s : State) :
    Keeps 0 0x4000000000000 s (State.dueTests s) := by
  have h_s : Keeps 0 0x4000000000000 s s := Keeps.rfl
  delta State.dueTests
  refine Keeps.set (.of rfl in_MET_STEST_CTRL) ?_
  exact h_s

theorem State.refBank_keeps (s : State) (b : Fin 3) (mine : Bool) (some_ : Bool) (rest : Bool) :
    Keeps 98564 0x800000000000000000000000000000000000000000000006118088800000 s (State.refBank s b mine some_ rest) := by
  have h_s : Keeps 98564 0x800000000000000000000000000000000000000000000006118088800000 s s := Keeps.rfl
  delta State.refBank
  extract_lets -underBinder -useContext y0 y1 y2 y3 y4 y5
  have hy3 : Keeps 98564 0x800000000000000000000000000000000000000000000006118088800000 s y3 := by
    exact Keeps.met_ rfl h_s
  have hy5 : ∀ (y6 : State) (y7 : Bool), Keeps 98564 0x800000000000000000000000000000000000000000000006118088800000 s y6 → Keeps 98564 0x800000000000000000000000000000000000000000000006118088800000 s (y5 y6 y7) := by
    intro y6 y7 hy6
    subst y5
    refine Keeps.setBit (.of rfl in_MET_STATUS) ?_
    refine Keeps.setBit (.of rfl in_MET_REFCHK) ?_
    exact hy6
  refine ite_of (Q := Keeps 98564 0x800000000000000000000000000000000000000000000006118088800000 s) ?_ ?_
  · refine Keeps.app (State.raise_keeps _ _) rfl rfl ?_
    refine hy5 _ _ ?_
    exact hy3
  · refine ite_of (Q := Keeps 98564 0x800000000000000000000000000000000000000000000006118088800000 s) ?_ ?_
    · refine Keeps.app (State.dueTests_keeps _) rfl rfl ?_
      refine hy5 _ _ ?_
      exact hy3
    · exact hy3

theorem execRcmTrip_keeps (c : Fin 3) (p : Fin 8) (row : Fin 5) (s : State) :
    KeepsO 4 0 s (execRcmTrip c p row s) := by
  have h_s : Keeps 4 0 s s := Keeps.rfl
  delta execRcmTrip
  extract_lets -underBinder -useContext y0
  refine ite_of (Q := KeepsO 4 0 s) ?_ ?_
  · refine KeepsO.next ?_
    exact h_s
  · refine KeepsO.next ?_
    refine Keeps.app (State.setChan_keeps _ _ _) rfl rfl ?_
    exact h_s

theorem State.goodFrame_keeps (s : State) (c : Fin 3) (f : List Byte) :
    Keeps 425988 0x300000000000000100000000000 s (State.goodFrame s c f) := by
  have h_s : Keeps 425988 0x300000000000000100000000000 s s := Keeps.rfl
  delta State.goodFrame
  extract_lets -underBinder -useContext y0 y1 y2 y3 y4 y5 y6 y7 y8 y9 y10
  have hy2 : Keeps 425988 0x300000000000000100000000000 s y2 := by
    refine Keeps.app (State.captureRow_keeps _ _ _ _) rfl rfl ?_
    exact h_s
  have hy8 : Keeps 425988 0x300000000000000100000000000 s y8 := by
    refine Keeps.app (State.setChan_keeps _ _ _) rfl rfl ?_
    exact hy2
  have hy9 : Keeps 425988 0x300000000000000100000000000 s y9 := by
    refine Keeps.set (.of rfl (in_MET_CH_OVR _ (by first | exact Fin.isLt _ | omega))) ?_
    exact hy8
  have hy10 : Keeps 425988 0x300000000000000100000000000 s y10 := by
    refine ite_of (Q := Keeps 425988 0x300000000000000100000000000 s) ?_ ?_
    · refine Keeps.set (.of rfl (in_MET_CH_REFDEV _ (by first | exact Fin.isLt _ | omega))) ?_
      exact hy9
    · exact hy9
  refine Keeps.setBit (.of rfl in_MET_STATUS) ?_
  exact hy10

theorem execLinkTimeout_keeps (c : Fin 3) (s : State) :
    KeepsO 98560 0x800000000000000000000000000000000000000000000000118088800000 s (execLinkTimeout c s) := by
  have h_s : Keeps 98560 0x800000000000000000000000000000000000000000000000118088800000 s s := Keeps.rfl
  delta execLinkTimeout
  extract_lets -underBinder -useContext y0 y1
  have hy0 : Keeps 98560 0x800000000000000000000000000000000000000000000000118088800000 s y0 := by
    refine Keeps.setBit (.of rfl in_MET_STATUS) ?_
    exact h_s
  have hy1 : Keeps 98560 0x800000000000000000000000000000000000000000000000118088800000 s y1 := by
    refine Keeps.setBit (.of rfl in_MET_STATUS) ?_
    exact hy0
  refine ite_of (Q := KeepsO 98560 0x800000000000000000000000000000000000000000000000118088800000 s) ?_ ?_
  · refine KeepsO.next ?_
    exact h_s
  · refine KeepsO.next ?_
    refine Keeps.app (State.raise_keeps _ _) rfl rfl ?_
    exact hy1

theorem execClearRcmTrip_keeps (d : Desc) (s : State) :
    KeepsO 260 0x400000000000000 s (execClearRcmTrip d s) := by
  have h_s : Keeps 260 0x400000000000000 s s := Keeps.rfl
  delta execClearRcmTrip
  refine KeepsO.next ?_
  refine State.command_keeps (P := 260) (B := 0x400000000000000) rfl rfl ?_ (fun y0 hy0 => ?_)
  · exact h_s
  · refine ite_of (Q := Keeps 260 0x400000000000000 s) ?_ ?_
    · refine Keeps.app (State.complete_keeps _ _ _ _ _) rfl rfl ?_
      exact hy0
    · refine Keeps.app (State.ok_keeps _ _ _) rfl rfl ?_
      refine Keeps.app (State.clearRcm_keeps _ _) rfl rfl ?_
      exact hy0

theorem execStartTestRequest_keeps (v : Word) (s : State) :
    KeepsO 98560 0x800000000000000000000000000000000000000000000004018088800000 s (execStartTestRequest v s) := by
  have h_s : Keeps 98560 0x800000000000000000000000000000000000000000000004018088800000 s s := Keeps.rfl
  delta execStartTestRequest
  refine KeepsO.next ?_
  refine State.guard_keeps (P := 98560) (B := 0x800000000000000000000000000000000000000000000004018088800000) rfl rfl ?_ (fun y0 hy0 => ?_)
  · exact h_s
  · refine Keeps.app (State.requestTests_keeps _ _) rfl rfl ?_
    exact hy0

theorem execLinkFrame_keeps (c : Fin 3) (frame : List Byte) (s : State) :
    KeepsO 491780 0x800000000000000000000000000000000380000000000000118088800000 s (execLinkFrame c frame s) := by
  have h_s : Keeps 491780 0x800000000000000000000000000000000380000000000000118088800000 s s := Keeps.rfl
  delta execLinkFrame
  extract_lets -underBinder -useContext y0 y1 y2 y3
  refine ite_of (Q := KeepsO 491780 0x800000000000000000000000000000000380000000000000118088800000 s) ?_ ?_
  · refine KeepsO.next ?_
    exact h_s
  · refine ite_of (Q := KeepsO 491780 0x800000000000000000000000000000000380000000000000118088800000 s) ?_ ?_
    · refine KeepsO.next ?_
      refine Keeps.app (State.badFrames_keeps _ _ _) rfl rfl ?_
      exact h_s
    · refine ite_of (Q := KeepsO 491780 0x800000000000000000000000000000000380000000000000118088800000 s) ?_ ?_
      · refine KeepsO.next ?_
        refine Keeps.app (State.goodFrame_keeps _ _ _) rfl rfl ?_
        refine Keeps.app (State.badFrames_keeps _ _ _) rfl rfl ?_
        exact h_s
      · refine ite_of (Q := KeepsO 491780 0x800000000000000000000000000000000380000000000000118088800000 s) ?_ ?_
        · refine KeepsO.next ?_
          refine Keeps.app (State.goodFrame_keeps _ _ _) rfl rfl ?_
          exact h_s
        · refine KeepsO.next ?_
          refine Keeps.app (State.badFrames_keeps _ _ _) rfl rfl ?_
          refine Keeps.app (State.setChan_keeps _ _ _) rfl rfl ?_
          exact h_s

theorem State.clearRemainders_keeps (s : State) (c : Fin 3) :
    Keeps 4 0 s (State.clearRemainders s c) := by
  have h_s : Keeps 4 0 s s := Keeps.rfl
  delta State.clearRemainders
  extract_lets -underBinder -useContext y0 y1
  refine ite_of (Q := Keeps 4 0 s) ?_ ?_
  · exact h_s
  · refine Keeps.app (State.setChan_keeps _ _ _) rfl rfl ?_
    exact h_s

theorem State.closeChan_keeps (s : State) (c : Fin 3) (short : Bool) (endTick : ℕ) :
    Keeps 491780 0x800000000000000000000000000000000090000000000000118088800000 s (State.closeChan s c short endTick) := by
  have h_s : Keeps 491780 0x800000000000000000000000000000000090000000000000118088800000 s s := Keeps.rfl
  delta State.closeChan
  extract_lets -underBinder -useContext y0 y1 y2 y3 y4 y5 y6 y7 y8 y9 y10 y11
  have hy0 : Keeps 491780 0x800000000000000000000000000000000090000000000000118088800000 s y0 := by
    refine Keeps.app (State.clearRemainders_keeps _ _) rfl rfl ?_
    exact h_s
  have hy3 : Keeps 491780 0x800000000000000000000000000000000090000000000000118088800000 s y3 := by
    refine Keeps.app (State.badFrames_keeps _ _ _) rfl rfl ?_
    exact hy0
  have hy10 : Keeps 491780 0x800000000000000000000000000000000090000000000000118088800000 s y10 := by
    refine ite_of (Q := Keeps 491780 0x800000000000000000000000000000000090000000000000118088800000 s) ?_ ?_
    · refine Keeps.count (.of rfl (in_MET_CH_LINKERR _ (by first | exact Fin.isLt _ | omega))) ?_
      exact hy3
    · exact hy3
  refine ite_of (Q := Keeps 491780 0x800000000000000000000000000000000090000000000000118088800000 s) ?_ ?_
  · refine Keeps.app (State.setChan_keeps _ _ _) rfl rfl ?_
    exact hy3
  · split
    · rename_i _ _ y14 hx
      have hy14 : Keeps 491780 0x800000000000000000000000000000000090000000000000118088800000 s y14 := KeepsG.of_eq (by
          refine KeepsG.app (State.bandStep_keeps _ _ _ _) rfl rfl ?_
          exact hy10) hx
      split
      · rename_i _ y16 hx
        have hy16 : Keeps 491780 0x800000000000000000000000000000000090000000000000118088800000 s y16 := KeepsE.of_eq (by
            refine KeepsE.app (State.fresh_keeps _) rfl rfl ?_
            exact hy14) hx
        extract_lets -underBinder -useContext y17 y18 y19 y20 y21 y22
        refine Keeps.app (State.setChan_keeps _ _ _) rfl rfl ?_
        exact hy16

theorem execStartTestBegin_keeps (p : Fin 8) (s : State) :
    KeepsO 4 0x404000000000000 s (execStartTestBegin p s) := by
  have h_s : Keeps 4 0x404000000000000 s s := Keeps.rfl
  delta execStartTestBegin
  extract_lets -underBinder -useContext y0 y1 y2 y3
  have hy0 : Keeps 4 0x404000000000000 s y0 := by
    refine Keeps.setBit (.of rfl in_MET_STEST_CTRL) ?_
    exact h_s
  have hy1 : Keeps 4 0x404000000000000 s y1 := by
    refine Keeps.setBit (.of rfl in_MET_STEST_CTRL) ?_
    exact hy0
  have hy2 : Keeps 4 0x404000000000000 s y2 := by
    refine Keeps.set (.of rfl (in_MET_TPCOND _ (by first | exact Fin.isLt _ | omega))) ?_
    exact hy1
  refine ite_of (Q := KeepsO 4 0x404000000000000 s) ?_ ?_
  · refine KeepsO.next ?_
    exact h_s
  · refine KeepsO.next ?_
    exact Keeps.met_ rfl hy2

theorem execReferenceComparison_keeps (ab : ℕ) (bc : ℕ) (ca : ℕ) (s : State) :
    KeepsO 98564 0x800000000000000000000000000000000000000000000006118088800000 s (execReferenceComparison ab bc ca s) := by
  have h_s : Keeps 98564 0x800000000000000000000000000000000000000000000006118088800000 s s := Keeps.rfl
  delta execReferenceComparison
  extract_lets -underBinder -useContext y0 y1 y2 y3 y4 y5 y6 y7 y8
  have hy5 : Keeps 98564 0x800000000000000000000000000000000000000000000006118088800000 s y5 := by
    exact Keeps.met_ rfl h_s
  have hy6 : Keeps 98564 0x800000000000000000000000000000000000000000000006118088800000 s y6 := by
    refine Keeps.setSat (.of rfl in_MET_REFCHK) ?_
    exact hy5
  have hy7 : Keeps 98564 0x800000000000000000000000000000000000000000000006118088800000 s y7 := by
    refine Keeps.app (State.refBank_keeps _ _ _ _ _) rfl rfl ?_
    exact hy6
  have hy8 : Keeps 98564 0x800000000000000000000000000000000000000000000006118088800000 s y8 := by
    refine Keeps.app (State.refBank_keeps _ _ _ _ _) rfl rfl ?_
    exact hy7
  refine KeepsO.next ?_
  refine Keeps.app (State.refBank_keeps _ _ _ _ _) rfl rfl ?_
  exact hy8

end Sys2Proof.Machine
end

