-- ==== Sys2Proof/Laws/KeepsDisplay.lean ====
section
/-! SUPPORT. What the operations of Machine/Display.lean can change, one lemma each (Laws/Keeps.lean says how it is read). -/

namespace Sys2Proof.Machine

theorem State.setDirty_keeps (s : State) (l : ℕ) (b : Bool) :
    Keeps 0 0x800000000000000000000000000000000000000000000000000000000 s (State.setDirty s l b) := by
  have h_s : Keeps 0 0x800000000000000000000000000000000000000000000000000000000 s s := Keeps.rfl
  delta State.setDirty
  refine ite_of (Q := Keeps 0 0x800000000000000000000000000000000000000000000000000000000 s) ?_ ?_
  · exact h_s
  · refine Keeps.setBit (.of rfl (in_LDP_DIRTY _ (by first | exact Fin.isLt _ | omega))) ?_
    exact h_s

theorem State.modLdp_keeps (s : State) (f : LdpS → LdpS) :
    Keeps 8192 0 s (State.modLdp s f) := by
  have h_s : Keeps 8192 0 s s := Keeps.rfl
  delta State.modLdp
  exact Keeps.ldp_ rfl h_s

theorem State.markLine_keeps (s : State) (l : ℕ) :
    Keeps 8192 0x800000000000000000000000000000000000000000000000000000000 s (State.markLine s l) := by
  have h_s : Keeps 8192 0x800000000000000000000000000000000000000000000000000000000 s s := Keeps.rfl
  delta State.markLine
  split
  · refine Keeps.app (State.setDirty_keeps _ _ _) rfl rfl ?_
    exact h_s
  · extract_lets -underBinder -useContext y1
    have hy1 : Keeps 8192 0x800000000000000000000000000000000000000000000000000000000 s y1 := by
      refine Keeps.app (State.setDirty_keeps _ _ _) rfl rfl ?_
      exact h_s
    refine ite_of (Q := Keeps 8192 0x800000000000000000000000000000000000000000000000000000000 s) ?_ ?_
    · exact h_s
    · refine ite_of (Q := Keeps 8192 0x800000000000000000000000000000000000000000000000000000000 s) ?_ ?_
      · refine Keeps.app (State.modLdp_keeps _ _) rfl rfl ?_
        exact hy1
      · exact hy1

theorem State.markLines_keeps (s : State) (l : List ℕ) :
    Keeps 8192 0x800000000000000000000000000000000000000000000000000000000 s (State.markLines s l) := by
  have h_s : Keeps 8192 0x800000000000000000000000000000000000000000000000000000000 s s := Keeps.rfl
  delta State.markLines
  refine foldl_of (Q := Keeps 8192 0x800000000000000000000000000000000000000000000000000000000 s) ?_ (fun y0 y1 my1 hy0 => ?_)
  · exact h_s
  · refine Keeps.app (State.markLine_keeps _ _) rfl rfl ?_
    exact hy0

theorem State.putOpen_keeps (s : State) (lines : List (ℕ × List Byte)) :
    Keeps 303104 0x800000000000000000000000000000000000000000000000000000000 s (State.putOpen s lines) := by
  have h_s : Keeps 303104 0x800000000000000000000000000000000000000000000000000000000 s s := Keeps.rfl
  delta State.putOpen
  extract_lets -underBinder -useContext y0
  have hy0 : Keeps 303104 0x800000000000000000000000000000000000000000000000000000000 s y0 := by
    refine foldl_of (Q := Keeps 303104 0x800000000000000000000000000000000000000000000000000000000 s) ?_ (fun y1 y2 my2 hy1 => ?_)
    · exact h_s
    · refine Keeps.app (State.store_keeps _ _ _) rfl rfl ?_
      exact hy1
  refine ite_of (Q := Keeps 303104 0x800000000000000000000000000000000000000000000000000000000 s) ?_ ?_
  · refine Keeps.app (State.markLines_keeps _ _) rfl rfl ?_
    exact hy0
  · exact hy0

theorem execWriteOpenLines_keeps (d : Desc) (s : State) :
    KeepsO 303360 0x800000000000000000000000000000000000000000000000000000000 s (execWriteOpenLines d s) := by
  have h_s : Keeps 303360 0x800000000000000000000000000000000000000000000000000000000 s s := Keeps.rfl
  delta execWriteOpenLines
  extract_lets -underBinder -useContext y0 y1 y2 y3
  refine KeepsO.next ?_
  refine State.command_keeps (P := 303360) (B := 0x800000000000000000000000000000000000000000000000000000000) rfl rfl ?_ (fun y4 hy4 => ?_)
  · exact h_s
  · refine Keeps.app (State.ok_keeps _ _ _) rfl rfl ?_
    refine Keeps.app (State.putOpen_keeps _ _) rfl rfl ?_
    exact hy4

theorem State.railsOn_keeps (s : State) :
    Keeps 8192 0x40000000000000000000000000000000000000000000000000000000 s (State.railsOn s) := by
  have h_s : Keeps 8192 0x40000000000000000000000000000000000000000000000000000000 s s := Keeps.rfl
  delta State.railsOn
  extract_lets -underBinder -useContext y0
  have hy0 : Keeps 8192 0x40000000000000000000000000000000000000000000000000000000 s y0 := by
    refine Keeps.set (.of rfl in_LDP_STATUS) ?_
    refine Keeps.set (.of rfl in_LDP_STATUS) ?_
    refine Keeps.set (.of rfl in_LDP_STATUS) ?_
    exact h_s
  refine ite_of (Q := Keeps 8192 0x40000000000000000000000000000000000000000000000000000000 s) ?_ ?_
  · exact h_s
  · refine Keeps.app (State.modLdp_keeps _ _) rfl rfl ?_
    exact hy0

theorem State.railsOff_keeps (s : State) :
    Keeps 8192 0x40000000000000000000000000000000000000000000000000000000 s (State.railsOff s) := by
  have h_s : Keeps 8192 0x40000000000000000000000000000000000000000000000000000000 s s := Keeps.rfl
  delta State.railsOff
  refine ite_of (Q := Keeps 8192 0x40000000000000000000000000000000000000000000000000000000 s) ?_ ?_
  · exact h_s
  · refine Keeps.app (State.modLdp_keeps _ _) rfl rfl ?_
    refine Keeps.set (.of rfl in_LDP_STATUS) ?_
    exact h_s

theorem State.displayEn_keeps (s : State) (on : Bool) :
    Keeps 8192 0x40000000000000000000000000000000000000000000000000000000 s (State.displayEn s on) := by
  have h_s : Keeps 8192 0x40000000000000000000000000000000000000000000000000000000 s s := Keeps.rfl
  delta State.displayEn
  refine ite_of (Q := Keeps 8192 0x40000000000000000000000000000000000000000000000000000000 s) ?_ ?_
  · refine Keeps.app (State.modLdp_keeps _ _) rfl rfl ?_
    exact h_s
  · refine ite_of (Q := Keeps 8192 0x40000000000000000000000000000000000000000000000000000000 s) ?_ ?_
    · refine Keeps.app (State.railsOn_keeps _) rfl rfl ?_
      exact h_s
    · refine Keeps.app (State.railsOff_keeps _) rfl rfl ?_
      refine Keeps.app (State.modLdp_keeps _ _) rfl rfl ?_
      exact h_s

theorem State.writeLdpCtrl_keeps (s : State) (v : ℕ) :
    Keeps 106752 0x800048000000000000000000000000000000000000000000018088800000 s (State.writeLdpCtrl s v) := by
  have h_s : Keeps 106752 0x800048000000000000000000000000000000000000000000018088800000 s s := Keeps.rfl
  delta State.writeLdpCtrl
  extract_lets -underBinder -useContext y0 y1 y2 y3 y4
  have hy4 : Keeps 106752 0x800048000000000000000000000000000000000000000000018088800000 s y4 := by
    refine Keeps.set (.of rfl in_LDP_CTRL) ?_
    refine Keeps.set (.of rfl in_LDP_CTRL) ?_
    refine Keeps.set (.of rfl in_LDP_CTRL) ?_
    refine Keeps.set (.of rfl in_LDP_CTRL) ?_
    exact h_s
  refine ite_of (Q := Keeps 106752 0x800048000000000000000000000000000000000000000000018088800000 s) ?_ ?_
  · refine Keeps.app (State.raise_keeps _ _) rfl rfl ?_
    exact h_s
  · refine Keeps.app (State.displayEn_keeps _ _) rfl rfl ?_
    refine Keeps.set (.of rfl in_LDP_STATUS) ?_
    exact hy4

theorem execDisplayPowerOff_keeps (v : Word) (s : State) :
    KeepsO 106752 0x800048000000000000000000000000000000000000000000018088800000 s (execDisplayPowerOff v s) := by
  have h_s : Keeps 106752 0x800048000000000000000000000000000000000000000000018088800000 s s := Keeps.rfl
  delta execDisplayPowerOff
  refine KeepsO.next ?_
  refine State.guard_keeps (P := 106752) (B := 0x800048000000000000000000000000000000000000000000018088800000) rfl rfl ?_ (fun y0 hy0 => ?_)
  · exact h_s
  · refine Keeps.app (State.writeLdpCtrl_keeps _ _) rfl rfl ?_
    exact hy0

theorem State.displayAgain_keeps (s : State) :
    Keeps 8192 0x40000000000000000000000000000000000000000000000000000000 s (State.displayAgain s) := by
  have h_s : Keeps 8192 0x40000000000000000000000000000000000000000000000000000000 s s := Keeps.rfl
  delta State.displayAgain
  split
  · refine Keeps.app (State.displayEn_keeps _ _) rfl rfl ?_
    refine Keeps.app (State.modLdp_keeps _ _) rfl rfl ?_
    exact h_s
  · exact h_s

theorem State.panelWhite_keeps (s : State) : Keeps 294912 0 s (State.panelWhite s) :=
  Keeps.mem_ rfl rfl (fun h => memFilter_wf _ h) Keeps.rfl

theorem State.dropPass_keeps (s : State) :
    Keeps 8192 0x40000000000000000000000000000000000000000000000000000000 s (State.dropPass s) := by
  have h_s : Keeps 8192 0x40000000000000000000000000000000000000000000000000000000 s s := Keeps.rfl
  delta State.dropPass
  refine Keeps.app (State.modLdp_keeps _ _) rfl rfl ?_
  refine Keeps.set (.of rfl in_LDP_STATUS) ?_
  refine Keeps.set (.of rfl in_LDP_STATUS) ?_
  exact h_s

theorem State.faultOff_keeps (s : State) :
    Keeps 8192 0x40000000000000000000000000000000000000000000000000000000 s (State.faultOff s) := by
  have h_s : Keeps 8192 0x40000000000000000000000000000000000000000000000000000000 s s := Keeps.rfl
  delta State.faultOff
  refine Keeps.app (State.displayEn_keeps _ _) rfl rfl ?_
  exact h_s

theorem execRailFault_keeps (s : State) :
    KeepsO 106752 0x800040000000000000000000000000000000000000000000018088800000 s (execRailFault s) := by
  have h_s : Keeps 106752 0x800040000000000000000000000000000000000000000000018088800000 s s := Keeps.rfl
  delta execRailFault
  refine KeepsO.next ?_
  refine ite_of (Q := Keeps 106752 0x800040000000000000000000000000000000000000000000018088800000 s) ?_ ?_
  · refine Keeps.app (State.faultOff_keeps _) rfl rfl ?_
    refine Keeps.app (State.raise_keeps _ _) rfl rfl ?_
    refine Keeps.set (.of rfl in_LDP_STATUS) ?_
    exact h_s
  · exact h_s

theorem execStressCount_keeps (s : State) :
    KeepsO 0 0x400000000000000000000000000000000000000000000000000000000 s (execStressCount s) := by
  have h_s : Keeps 0 0x400000000000000000000000000000000000000000000000000000000 s s := Keeps.rfl
  delta execStressCount
  refine KeepsO.next ?_
  refine ite_of (Q := Keeps 0 0x400000000000000000000000000000000000000000000000000000000 s) ?_ ?_
  · refine foldl_of (Q := Keeps 0 0x400000000000000000000000000000000000000000000000000000000 s) ?_ (fun y0 y1 my1 hy0 => ?_)
    · exact h_s
    · refine Keeps.count (.of rfl (in_LDP_STRESS _ (by first | exact Fin.isLt _ | omega))) ?_
      exact hy0
  · exact h_s

theorem execStoreFrame_keeps (d : Desc) (s : State) :
    KeepsO 295168 0 s (execStoreFrame d s) := by
  have h_s : Keeps 295168 0 s s := Keeps.rfl
  delta execStoreFrame
  extract_lets -underBinder -useContext y0
  refine KeepsO.next ?_
  refine State.command_keeps (P := 295168) (B := 0) rfl rfl ?_ (fun y1 hy1 => ?_)
  · exact h_s
  · refine Keeps.app (State.ok_keeps _ _ _) rfl rfl ?_
    refine Keeps.app (State.store_keeps _ _ _) rfl rfl ?_
    exact hy1

theorem State.panel_keeps (s : State) (code : Byte) (data : List Byte) :
    Keeps 65536 0 s (State.panel s code data) := by
  have h_s : Keeps 65536 0 s s := Keeps.rfl
  delta State.panel
  refine ite_of (Q := Keeps 65536 0 s) ?_ ?_
  · exact h_s
  · refine Keeps.app (State.emit_keeps _ _) rfl rfl ?_
    exact h_s

theorem State.toggle_keeps (s : State) :
    Keeps 73728 0x40000000000000000000000000000000000000000000000000000000 s (State.toggle s) := by
  have h_s : Keeps 73728 0x40000000000000000000000000000000000000000000000000000000 s s := Keeps.rfl
  delta State.toggle
  extract_lets -underBinder -useContext y0
  have hy0 : Keeps 73728 0x40000000000000000000000000000000000000000000000000000000 s y0 := by
    refine Keeps.set (.of rfl in_LDP_STATUS) ?_
    refine Keeps.app (State.panel_keeps _ _ _) rfl rfl ?_
    exact h_s
  refine Keeps.app (State.modLdp_keeps _ _) rfl rfl ?_
  exact hy0

theorem State.rewritten_keeps (s : State) (l : ℕ) :
    Keeps 8192 0x200000000000000000000000000000000000000000000000000000000 s (State.rewritten s l) := by
  have h_s : Keeps 8192 0x200000000000000000000000000000000000000000000000000000000 s s := Keeps.rfl
  delta State.rewritten
  refine ite_of (Q := Keeps 8192 0x200000000000000000000000000000000000000000000000000000000 s) ?_ ?_
  · refine Keeps.app (State.modLdp_keeps _ _) rfl rfl ?_
    refine Keeps.count (.of rfl in_LDP_CNT) ?_
    exact h_s
  · exact h_s

theorem State.writeLine_keeps (s : State) (l : ℕ) (bytes : List Byte) :
    Keeps 360448 0x40000000000000000000000000000000000000000000000000000000 s (State.writeLine s l bytes) := by
  have h_s : Keeps 360448 0x40000000000000000000000000000000000000000000000000000000 s s := Keeps.rfl
  delta State.writeLine
  extract_lets -underBinder -useContext y0
  have hy0 : Keeps 360448 0x40000000000000000000000000000000000000000000000000000000 s y0 := by
    refine Keeps.set (.of rfl in_LDP_STATUS) ?_
    exact h_s
  refine Keeps.app (State.store_keeps _ _ _) rfl rfl ?_
  refine Keeps.app (State.panel_keeps _ _ _) rfl rfl ?_
  exact hy0

theorem State.nextTransfer_keeps (s : State) (p : Pass) :
    Keeps 368640 0x240000000000000000000000000000000000000000000000000000000 s (State.nextTransfer s p) := by
  have h_s : Keeps 368640 0x240000000000000000000000000000000000000000000000000000000 s s := Keeps.rfl
  delta State.nextTransfer
  extract_lets -underBinder -useContext y0 y3
  have hy0 : ∀ (y1 : State) (y2 : Pass), Keeps 368640 0x240000000000000000000000000000000000000000000000000000000 s y1 → Keeps 368640 0x240000000000000000000000000000000000000000000000000000000 s (y0 y1 y2) := by
    intro y1 y2 hy1
    subst y0
    refine Keeps.app (State.modLdp_keeps _ _) rfl rfl ?_
    exact hy1
  split
  · extract_lets -underBinder -useContext y7 y8 y9
    have hy7 : Keeps 368640 0x240000000000000000000000000000000000000000000000000000000 s y7 := by
      refine Keeps.app (State.rewritten_keeps _ _) rfl rfl ?_
      exact h_s
    have hy8 : Keeps 368640 0x240000000000000000000000000000000000000000000000000000000 s y8 := by
      refine hy0 _ _ ?_
      exact hy7
    have hy9 : Keeps 368640 0x240000000000000000000000000000000000000000000000000000000 s y9 := by
      refine Keeps.app (State.modLdp_keeps _ _) rfl rfl ?_
      refine Keeps.set (.of rfl in_LDP_STATUS) ?_
      refine Keeps.app (State.panel_keeps _ _ _) rfl rfl ?_
      exact h_s
    refine ite_of (Q := Keeps 368640 0x240000000000000000000000000000000000000000000000000000000 s) ?_ ?_
    · refine Keeps.app (State.writeLine_keeps _ _ _) rfl rfl ?_
      exact hy8
    · refine hy0 _ _ ?_
      exact hy9
  · refine ite_of (Q := Keeps 368640 0x240000000000000000000000000000000000000000000000000000000 s) ?_ ?_
    · refine hy0 _ _ ?_
      refine Keeps.app (State.panel_keeps _ _ _) rfl rfl ?_
      exact h_s
    · try clear_value y10
      split
      · extract_lets -underBinder -useContext y13 y14
        have hy13 : Keeps 368640 0x240000000000000000000000000000000000000000000000000000000 s y13 := by
          refine Keeps.app (State.rewritten_keeps _ _) rfl rfl ?_
          exact h_s
        have hy14 : Keeps 368640 0x240000000000000000000000000000000000000000000000000000000 s y14 := by
          refine hy0 _ _ ?_
          exact hy13
        refine Keeps.app (State.writeLine_keeps _ _ _) rfl rfl ?_
        exact hy14
      · refine hy0 _ _ ?_
        exact h_s

theorem State.panelNext_keeps (s : State) :
    Keeps 368640 0x240000000000000000000000000000000000000000000000000000000 s (State.panelNext s) := by
  have h_s : Keeps 368640 0x240000000000000000000000000000000000000000000000000000000 s s := Keeps.rfl
  delta State.panelNext
  extract_lets -underBinder -useContext y0
  refine ite_of (Q := Keeps 368640 0x240000000000000000000000000000000000000000000000000000000 s) ?_ ?_
  · exact h_s
  · refine ite_of (Q := Keeps 368640 0x240000000000000000000000000000000000000000000000000000000 s) ?_ ?_
    · refine Keeps.app (State.toggle_keeps _) rfl rfl ?_
      exact h_s
    · split
      · refine Keeps.app (State.nextTransfer_keeps _ _) rfl rfl ?_
        exact h_s
      · exact h_s

theorem State.restoreStress_keeps (s : State) :
    Keeps 0 0x400000000000000000000000000000000000000000000000000000000 s (State.restoreStress s) := by
  have h_s : Keeps 0 0x400000000000000000000000000000000000000000000000000000000 s s := Keeps.rfl
  delta State.restoreStress
  refine foldl_of (Q := Keeps 0 0x400000000000000000000000000000000000000000000000000000000 s) ?_ (fun y0 y1 my1 hy0 => ?_)
  · exact h_s
  · refine Keeps.set (.of rfl (in_LDP_STRESS _ (by first | exact Fin.isLt _ | omega))) ?_
    exact hy0

theorem execLbusyRelease_keeps (s : State) :
    KeepsO 368640 0x240000000000000000000000000000000000000000000000000000000 s (execLbusyRelease s) := by
  have h_s : Keeps 368640 0x240000000000000000000000000000000000000000000000000000000 s s := Keeps.rfl
  delta execLbusyRelease
  refine KeepsO.next ?_
  refine Keeps.app (State.panelNext_keeps _) rfl rfl ?_
  refine Keeps.app (State.modLdp_keeps _ _) rfl rfl ?_
  exact h_s

theorem execCommonToggle_keeps (s : State) :
    KeepsO 368640 0x240000000000000000000000000000000000000000000000000000000 s (execCommonToggle s) := by
  have h_s : Keeps 368640 0x240000000000000000000000000000000000000000000000000000000 s s := Keeps.rfl
  delta execCommonToggle
  refine KeepsO.next ?_
  refine ite_of (Q := Keeps 368640 0x240000000000000000000000000000000000000000000000000000000 s) ?_ ?_
  · refine Keeps.app (State.panelNext_keeps _) rfl rfl ?_
    refine Keeps.app (State.modLdp_keeps _ _) rfl rfl ?_
    exact h_s
  · exact h_s

theorem State.startPass_keeps (s : State) :
    Keeps 368640 0xA40000000000000000000000000000000000000000000000000000000 s (State.startPass s) := by
  have h_s : Keeps 368640 0xA40000000000000000000000000000000000000000000000000000000 s s := Keeps.rfl
  delta State.startPass
  extract_lets -underBinder -useContext y0 y1 y2 y5
  have hy2 : Keeps 368640 0xA40000000000000000000000000000000000000000000000000000000 s y2 := by
    refine foldl_of (Q := Keeps 368640 0xA40000000000000000000000000000000000000000000000000000000 s) ?_ (fun y3 y4 my4 hy3 => ?_)
    · exact h_s
    · refine Keeps.app (State.setDirty_keeps _ _ _) rfl rfl ?_
      exact hy3
  have hy5 : Keeps 368640 0xA40000000000000000000000000000000000000000000000000000000 s y5 := by
    refine Keeps.count (.of rfl in_LDP_CNT) ?_
    refine Keeps.set (.of rfl in_LDP_STATUS) ?_
    exact hy2
  refine ite_of (Q := Keeps 368640 0xA40000000000000000000000000000000000000000000000000000000 s) ?_ ?_
  · exact h_s
  · refine Keeps.app (State.panelNext_keeps _) rfl rfl ?_
    refine Keeps.app (State.modLdp_keeps _ _) rfl rfl ?_
    exact hy5

theorem execDisplayPassStart_keeps (s : State) :
    KeepsO 368640 0xA40000000000000000000000000000000000000000000000000000000 s (execDisplayPassStart s) := by
  have h_s : Keeps 368640 0xA40000000000000000000000000000000000000000000000000000000 s s := Keeps.rfl
  delta execDisplayPassStart
  refine KeepsO.next ?_
  refine Keeps.app (State.startPass_keeps _) rfl rfl ?_
  exact h_s

theorem execLegalPageAdvance_keeps (s : State) :
    KeepsO 0 0x40000000000000000000000000000000000000000000000000000000 s (execLegalPageAdvance s) := by
  have h_s : Keeps 0 0x40000000000000000000000000000000000000000000000000000000 s s := Keeps.rfl
  delta execLegalPageAdvance
  refine KeepsO.next ?_
  refine ite_of (Q := Keeps 0 0x40000000000000000000000000000000000000000000000000000000 s) ?_ ?_
  · refine Keeps.set (.of rfl in_LDP_STATUS) ?_
    exact h_s
  · exact h_s

theorem State.seqDone_keeps (s : State) :
    Keeps 8192 0x40000000000000000000000000000000000000000000000000000000 s (State.seqDone s) := by
  have h_s : Keeps 8192 0x40000000000000000000000000000000000000000000000000000000 s s := Keeps.rfl
  delta State.seqDone
  extract_lets -underBinder -useContext y0 y1
  have hy1 : Keeps 8192 0x40000000000000000000000000000000000000000000000000000000 s y1 := by
    refine Keeps.app (State.modLdp_keeps _ _) rfl rfl ?_
    exact h_s
  try clear_value y0
  split
  · refine Keeps.app (State.displayEn_keeps _ _) rfl rfl ?_
    exact hy1
  · exact hy1

theorem execFastDischargeComplete_keeps (s : State) :
    KeepsO 368896 0x800040000000000000000000000000000000000000000000018088800000 s (execFastDischargeComplete s) := by
  have h_s : Keeps 368896 0x800040000000000000000000000000000000000000000000018088800000 s s := Keeps.rfl
  delta execFastDischargeComplete
  extract_lets -underBinder -useContext y0 y1
  have hy0 : Keeps 368896 0x800040000000000000000000000000000000000000000000018088800000 s y0 := by
    refine Keeps.set (.of rfl in_LDP_STATUS) ?_
    refine Keeps.set (.of rfl in_LDP_STATUS) ?_
    refine Keeps.app (State.panelWhite_keeps _) rfl rfl ?_
    refine Keeps.app (State.dropPass_keeps _) rfl rfl ?_
    exact h_s
  have hy1 : Keeps 368896 0x800040000000000000000000000000000000000000000000018088800000 s y1 := by
    refine ite_of (Q := Keeps 368896 0x800040000000000000000000000000000000000000000000018088800000 s) ?_ ?_
    · refine Keeps.app (State.raise_keeps _ _) rfl rfl ?_
      exact hy0
    · exact hy0
  refine KeepsO.next ?_
  refine Keeps.app (State.seqDone_keeps _) rfl rfl ?_
  refine Keeps.app (State.modLdp_keeps _ _) rfl rfl ?_
  exact hy1

theorem State.displayRestart_keeps (s : State) :
    Keeps 8192 0x840000000000000000000000000000000000000000000000000000000 s (State.displayRestart s) := by
  have h_s : Keeps 8192 0x840000000000000000000000000000000000000000000000000000000 s s := Keeps.rfl
  delta State.displayRestart
  refine ite_of (Q := Keeps 8192 0x840000000000000000000000000000000000000000000000000000000 s) ?_ ?_
  · refine Keeps.app (State.markLines_keeps _ _) rfl rfl ?_
    refine Keeps.app (State.dropPass_keeps _) rfl rfl ?_
    exact h_s
  · exact h_s

theorem execShowStoredFrame_keeps (d : Desc) (s : State) :
    KeepsO 303360 0x800000000000000000000000000000000000000000000000000000000 s (execShowStoredFrame d s) := by
  have h_s : Keeps 303360 0x800000000000000000000000000000000000000000000000000000000 s s := Keeps.rfl
  delta execShowStoredFrame
  refine KeepsO.next ?_
  refine State.command_keeps (P := 303360) (B := 0x800000000000000000000000000000000000000000000000000000000) rfl rfl ?_ (fun y0 hy0 => ?_)
  · exact h_s
  · extract_lets -underBinder -useContext y1 y2 y3
    refine Keeps.app (State.ok_keeps _ _ _) rfl rfl ?_
    refine Keeps.app (State.putOpen_keeps _ _) rfl rfl ?_
    exact hy0

theorem State.offStep_keeps (s : State) (n : ℕ) :
    Keeps 368640 0x40000000000000000000000000000000000000000000000000000000 s (State.offStep s n) := by
  have h_s : Keeps 368640 0x40000000000000000000000000000000000000000000000000000000 s s := Keeps.rfl
  delta State.offStep
  extract_lets -underBinder -useContext y0
  have hy0 : Keeps 368640 0x40000000000000000000000000000000000000000000000000000000 s y0 := by
    refine Keeps.app (State.panelWhite_keeps _) rfl rfl ?_
    refine Keeps.app (State.panel_keeps _ _ _) rfl rfl ?_
    refine Keeps.app (State.dropPass_keeps _) rfl rfl ?_
    exact h_s
  refine ite_of (Q := Keeps 368640 0x40000000000000000000000000000000000000000000000000000000 s) ?_ ?_
  · refine Keeps.app (State.modLdp_keeps _ _) rfl rfl ?_
    refine Keeps.app (State.panel_keeps _ _ _) rfl rfl ?_
    refine Keeps.app (State.panel_keeps _ _ _) rfl rfl ?_
    exact hy0
  · refine ite_of (Q := Keeps 368640 0x40000000000000000000000000000000000000000000000000000000 s) ?_ ?_
    · refine Keeps.app (State.modLdp_keeps _ _) rfl rfl ?_
      exact h_s
    · refine Keeps.app (State.seqDone_keeps _) rfl rfl ?_
      refine Keeps.set (.of rfl in_LDP_STATUS) ?_
      exact h_s

theorem execDisplayPassEnd_keeps (s : State) :
    KeepsO 368640 0xA40000000000000000000000000000000000000000000000000000000 s (execDisplayPassEnd s) := by
  have h_s : Keeps 368640 0xA40000000000000000000000000000000000000000000000000000000 s s := Keeps.rfl
  delta execDisplayPassEnd
  refine KeepsO.next ?_
  split
  · exact h_s
  · refine ite_of (Q := Keeps 368640 0xA40000000000000000000000000000000000000000000000000000000 s) ?_ ?_
    · exact h_s
    · refine Keeps.app (State.startPass_keeps _) rfl rfl ?_
      refine Keeps.app (State.modLdp_keeps _ _) rfl rfl ?_
      refine Keeps.set (.of rfl in_LDP_STATUS) ?_
      exact h_s

theorem State.onStep_keeps (s : State) (n : ℕ) :
    Keeps 368640 0x940000000000000000000000000000000000000000000000000000000 s (State.onStep s n) := by
  have h_s : Keeps 368640 0x940000000000000000000000000000000000000000000000000000000 s s := Keeps.rfl
  delta State.onStep
  extract_lets -underBinder -useContext y0 y3 y4
  have hy0 : ∀ (y1 : State) (y2 : ℕ), Keeps 368640 0x940000000000000000000000000000000000000000000000000000000 s y1 → Keeps 368640 0x940000000000000000000000000000000000000000000000000000000 s (y0 y1 y2) := by
    intro y1 y2 hy1
    subst y0
    refine Keeps.app (State.modLdp_keeps _ _) rfl rfl ?_
    exact hy1
  have hy3 : Keeps 368640 0x940000000000000000000000000000000000000000000000000000000 s y3 := by
    refine Keeps.app (State.panelWhite_keeps _) rfl rfl ?_
    refine Keeps.app (State.panel_keeps _ _ _) rfl rfl ?_
    exact h_s
  have hy4 : Keeps 368640 0x940000000000000000000000000000000000000000000000000000000 s y4 := by
    refine hy0 _ _ ?_
    refine Keeps.app (State.modLdp_keeps _ _) rfl rfl ?_
    exact hy3
  refine ite_of (Q := Keeps 368640 0x940000000000000000000000000000000000000000000000000000000 s) ?_ ?_
  · refine hy0 _ _ ?_
    exact h_s
  · refine ite_of (Q := Keeps 368640 0x940000000000000000000000000000000000000000000000000000000 s) ?_ ?_
    · refine Keeps.set (.of rfl in_LDP_VCOM_NOW) ?_
      refine hy0 _ _ ?_
      exact h_s
    · refine ite_of (Q := Keeps 368640 0x940000000000000000000000000000000000000000000000000000000 s) ?_ ?_
      · refine Keeps.app (State.markLines_keeps _ _) rfl rfl ?_
        exact hy4
      · refine ite_of (Q := Keeps 368640 0x940000000000000000000000000000000000000000000000000000000 s) ?_ ?_
        · exact h_s
        · refine Keeps.app (State.seqDone_keeps _) rfl rfl ?_
          refine Keeps.set (.of rfl in_LDP_STATUS) ?_
          exact h_s

theorem execDisplaySequenceStep_keeps (s : State) :
    KeepsO 368640 0x940000000000000000000000000000000000000000000000000000000 s (execDisplaySequenceStep s) := by
  have h_s : Keeps 368640 0x940000000000000000000000000000000000000000000000000000000 s s := Keeps.rfl
  delta execDisplaySequenceStep
  refine KeepsO.next ?_
  split
  · refine Keeps.app (State.onStep_keeps _ _) rfl rfl ?_
    exact h_s
  · refine Keeps.app (State.offStep_keeps _ _) rfl rfl ?_
    exact h_s
  · exact h_s

theorem State.storeStress_keeps (s : State) :
    Keeps 8192 0 s (State.storeStress s) := by
  have h_s : Keeps 8192 0 s s := Keeps.rfl
  delta State.storeStress
  extract_lets -underBinder -useContext y0 y1
  refine Keeps.app (State.modLdp_keeps _ _) rfl rfl ?_
  exact h_s

theorem execVcomTrimUpdate_keeps (s : State) :
    KeepsO 106752 0x800100000000000000000000000000000000000000000000018088800000 s (execVcomTrimUpdate s) := by
  have h_s : Keeps 106752 0x800100000000000000000000000000000000000000000000018088800000 s s := Keeps.rfl
  delta execVcomTrimUpdate
  extract_lets -underBinder -useContext y0 y1 y2 y3
  have hy3 : Keeps 106752 0x800100000000000000000000000000000000000000000000018088800000 s y3 := by
    refine Keeps.set (.of rfl in_LDP_VCOM_NOW) ?_
    exact h_s
  refine KeepsO.next ?_
  refine ite_of (Q := Keeps 106752 0x800100000000000000000000000000000000000000000000018088800000 s) ?_ ?_
  · exact h_s
  · refine ite_of (Q := Keeps 106752 0x800100000000000000000000000000000000000000000000018088800000 s) ?_ ?_
    · refine Keeps.app (State.storeStress_keeps _) rfl rfl ?_
      exact h_s
    · refine Keeps.app (State.storeStress_keeps _) rfl rfl ?_
      refine ite_of (Q := Keeps 106752 0x800100000000000000000000000000000000000000000000018088800000 s) ?_ ?_
      · exact hy3
      · refine Keeps.app (State.raise_keeps _ _) rfl rfl ?_
        exact hy3

theorem State.legalSnapshot_keeps (s : State) :
    Keeps 8192 0x800000000000000000000000000000000000000000000000000000000 s (State.legalSnapshot s) := by
  have h_s : Keeps 8192 0x800000000000000000000000000000000000000000000000000000000 s s := Keeps.rfl
  delta State.legalSnapshot
  extract_lets -underBinder -useContext y0 y1 y2 y3
  have hy2 : Keeps 8192 0x800000000000000000000000000000000000000000000000000000000 s y2 := by
    refine Keeps.app (State.modLdp_keeps _ _) rfl rfl ?_
    exact h_s
  refine ite_of (Q := Keeps 8192 0x800000000000000000000000000000000000000000000000000000000 s) ?_ ?_
  · exact h_s
  · refine Keeps.app (State.markLines_keeps _ _) rfl rfl ?_
    exact hy2

theorem execLineTransferComplete_keeps (s : State) :
    KeepsO 368640 0x240000000000000000000000000000000000000000000000000000000 s (execLineTransferComplete s) := by
  have h_s : Keeps 368640 0x240000000000000000000000000000000000000000000000000000000 s s := Keeps.rfl
  delta execLineTransferComplete
  refine KeepsO.next ?_
  split
  · exact h_s
  · extract_lets -underBinder -useContext y1
    have hy1 : Keeps 368640 0x240000000000000000000000000000000000000000000000000000000 s y1 := by
      refine ite_of (Q := Keeps 368640 0x240000000000000000000000000000000000000000000000000000000 s) ?_ ?_
      · refine Keeps.set (.of rfl in_LDP_STATUS) ?_
        exact h_s
      · exact h_s
    refine ite_of (Q := Keeps 368640 0x240000000000000000000000000000000000000000000000000000000 s) ?_ ?_
    · exact h_s
    · refine Keeps.app (State.panelNext_keeps _) rfl rfl ?_
      refine Keeps.app (State.modLdp_keeps _ _) rfl rfl ?_
      exact hy1

theorem execDisplayPowerOn_keeps (v : Word) (s : State) :
    KeepsO 106752 0x800048000000000000000000000000000000000000000000018088800000 s (execDisplayPowerOn v s) := by
  have h_s : Keeps 106752 0x800048000000000000000000000000000000000000000000018088800000 s s := Keeps.rfl
  delta execDisplayPowerOn
  refine KeepsO.next ?_
  refine State.guard_keeps (P := 106752) (B := 0x800048000000000000000000000000000000000000000000018088800000) rfl rfl ?_ (fun y0 hy0 => ?_)
  · exact h_s
  · refine Keeps.app (State.writeLdpCtrl_keeps _ _) rfl rfl ?_
    exact hy0

theorem State.fastDischarge_keeps (s : State) :
    Keeps 8192 0x40000000000000000000000000000000000000000000000000000000 s (State.fastDischarge s) := by
  have h_s : Keeps 8192 0x40000000000000000000000000000000000000000000000000000000 s s := Keeps.rfl
  delta State.fastDischarge
  refine Keeps.app (State.modLdp_keeps _ _) rfl rfl ?_
  refine Keeps.app (State.dropPass_keeps _) rfl rfl ?_
  exact h_s

theorem execPanelFault_keeps (s : State) :
    KeepsO 106752 0x800040000000000000000000000000000000000000000000018088800000 s (execPanelFault s) := by
  have h_s : Keeps 106752 0x800040000000000000000000000000000000000000000000018088800000 s s := Keeps.rfl
  delta execPanelFault
  refine KeepsO.next ?_
  refine ite_of (Q := Keeps 106752 0x800040000000000000000000000000000000000000000000018088800000 s) ?_ ?_
  · refine Keeps.app (State.faultOff_keeps _) rfl rfl ?_
    refine Keeps.app (State.raise_keeps _ _) rfl rfl ?_
    refine Keeps.set (.of rfl in_LDP_STATUS) ?_
    exact h_s
  · exact h_s

end Sys2Proof.Machine
end

