-- ==== Sys2Proof/Laws/KeepsVoting.lean ====
section
/-! SUPPORT. What the operations of Machine/Voting.lean can change, one lemma each (Laws/Keeps.lean says how it is read). -/

namespace Sys2Proof.Machine

theorem State.modVot_keeps (s : State) (f : VotS → VotS) :
    Keeps 8 0 s (State.modVot s f) := by
  have h_s : Keeps 8 0 s s := Keeps.rfl
  delta State.modVot
  exact Keeps.vot_ rfl h_s

theorem State.showProv_keeps (s : State) (n : Nat) (b : Option PBlock) (hn : n < 8) : Keeps 0 0xFFC0000000000000000000000 s (State.showProv s n b) := by
  have h_s : Keeps 0 0xFFC0000000000000000000000 s s := Keeps.rfl
  unfold State.showProv
  refine foldl_of (Q := Keeps 0 0xFFC0000000000000000000000 s) ?_ (fun x k hk hx => ?_)
  · exact Keeps.setReg (.of rfl (in_MET_PROV_PT_FLSTAT n hn)) (Keeps.setReg (.of rfl (in_MET_PROV_PT_FLAGS n hn)) h_s)
  · have hk := List.mem_range.1 hk
    have e : R.MET_PROV_PT_SLOT_LO n k + 4 = R.MET_PROV_PT_SLOT_HI n k := by
      simp only [R.MET_PROV_PT_SLOT_LO, R.MET_PROV_PT_SLOT_HI]
      omega
    have hh : RowIn 0xFFC0000000000000000000000 (R.MET_PROV_PT_SLOT_LO n k + 4) := e ▸ RowIn.of rfl (in_MET_PROV_PT_SLOT_HI n hn k hk)
    exact Keeps.set64 (.of rfl (in_MET_PROV_PT_SLOT_LO n hn k hk)) hh hx

theorem State.setWindow_keeps (s : State) (r : Option QRec) :
    Keeps 8 0xFFFC000000000000000000000 s (State.setWindow s r) := by
  have h_s : Keeps 8 0xFFFC000000000000000000000 s s := Keeps.rfl
  delta State.setWindow
  extract_lets -underBinder -useContext y0 y1
  have hy0 : Keeps 8 0xFFFC000000000000000000000 s y0 := by
    refine Keeps.app (State.modVot_keeps _ _) rfl rfl ?_
    exact h_s
  have hy1 : Keeps 8 0xFFFC000000000000000000000 s y1 := by
    refine Keeps.set (.of rfl in_MET_PROV_SEQ) ?_
    exact hy0
  split
  · extract_lets -underBinder -useContext y3 y4
    have hy4 : Keeps 8 0xFFFC000000000000000000000 s y4 := by
      refine Keeps.setReg (.of rfl in_MET_PROV_STATUS) ?_
      refine Keeps.set64 (.of rfl in_MET_PROV_Q_LO) (.of rfl in_MET_PROV_Q_HI) ?_
      exact hy1
    refine foldl_of (Q := Keeps 8 0xFFFC000000000000000000000 s) ?_ (fun y5 y6 my6 hy5 => ?_)
    · exact hy4
    · refine Keeps.app (State.showProv_keeps _ _ _ (List.mem_range.1 my6)) rfl rfl ?_
      exact hy5
  · extract_lets -underBinder -useContext y7
    have hy7 : Keeps 8 0xFFFC000000000000000000000 s y7 := by
      refine Keeps.setReg (.of rfl in_MET_PROV_STATUS) ?_
      exact hy1
    refine foldl_of (Q := Keeps 8 0xFFFC000000000000000000000 s) ?_ (fun y8 y9 my9 hy8 => ?_)
    · exact hy7
    · refine Keeps.app (State.showProv_keeps _ _ _ (List.mem_range.1 my9)) rfl rfl ?_
      exact hy8

theorem State.condEvents_keeps (s : State) (n : ℕ) (new : ℕ) (prov : Bool) (q : ℕ) :
    Keeps 98560 0x800000000000000000000000000000000000000000000000018088800000 s (State.condEvents s n new prov q) := by
  have h_s : Keeps 98560 0x800000000000000000000000000000000000000000000000018088800000 s s := Keeps.rfl
  delta State.condEvents
  refine foldl_of (Q := Keeps 98560 0x800000000000000000000000000000000000000000000000018088800000 s) ?_ (fun y0 y1 my1 hy0 => ?_)
  · exact h_s
  · refine Keeps.app (State.raise_keeps _ _) rfl rfl ?_
    exact hy0

theorem State.publish_keeps (s : State) (r : QRec) :
    Keeps 99704 0x80000000010000000001058803000000000FFFC000000000018088800000 s (State.publish s r) := by
  have h_s : Keeps 99704 0x80000000010000000001058803000000000FFFC000000000018088800000 s s := Keeps.rfl
  delta State.publish
  extract_lets -underBinder -useContext y0 y1 y2 y3
  have hy1 : Keeps 99704 0x80000000010000000001058803000000000FFFC000000000018088800000 s y1 := by
    refine ite_of (Q := Keeps 99704 0x80000000010000000001058803000000000FFFC000000000018088800000 s) ?_ ?_
    · refine Keeps.app (State.setWindow_keeps _ _) rfl rfl ?_
      exact h_s
    · exact h_s
  have hy2 : Keeps 99704 0x80000000010000000001058803000000000FFFC000000000018088800000 s y2 := by
    refine Keeps.app (State.raise_keeps _ _) rfl rfl ?_
    exact hy1
  have hy3 : Keeps 99704 0x80000000010000000001058803000000000FFFC000000000018088800000 s y3 := by
    refine foldl_of (Q := Keeps 99704 0x80000000010000000001058803000000000FFFC000000000018088800000 s) ?_ (fun y4 y5 my5 hy4 => ?_)
    · exact hy2
    · refine Keeps.app (State.condEvents_keeps _ _ _ _ _) rfl rfl ?_
      exact hy4
  refine Keeps.app (State.sessProvRec_keeps _ _) rfl rfl ?_
  refine Keeps.app (State.modVot_keeps _ _) rfl rfl ?_
  exact hy3

theorem State.confirmPoint_keeps (s : State) (q : ℕ) (n : Fin 8) (b : PBlock) :
    Keeps 98564 0x800000000000000000000000000000000000002000000400018088800000 s (State.confirmPoint s q n b) := by
  have h_s : Keeps 98564 0x800000000000000000000000000000000000002000000400018088800000 s s := Keeps.rfl
  delta State.confirmPoint
  extract_lets -underBinder -useContext y0 y1 y2 y3 y4 y5 y8 y9 y10 y11 y15 y16 y17 y18 y19 y20
  have hy3 : Keeps 98564 0x800000000000000000000000000000000000002000000400018088800000 s y3 := by
    refine Keeps.setReg (.of rfl (in_MET_TPCOND _ (by first | exact Fin.isLt _ | omega))) ?_
    exact h_s
  have hy4 : Keeps 98564 0x800000000000000000000000000000000000002000000400018088800000 s y4 := by
    refine Keeps.app (State.condEvents_keeps _ _ _ _ _) rfl rfl ?_
    exact hy3
  have hy5 : Keeps 98564 0x800000000000000000000000000000000000002000000400018088800000 s y5 := by
    refine ite_of (Q := Keeps 98564 0x800000000000000000000000000000000000002000000400018088800000 s) ?_ ?_
    · exact hy4
    · refine foldl_of (Q := Keeps 98564 0x800000000000000000000000000000000000002000000400018088800000 s) ?_ (fun y6 y7 my7 hy6 => ?_)
      · exact hy4
      · refine Keeps.app (State.raise_keeps _ _) rfl rfl ?_
        exact hy6
  have hy10 : Keeps 98564 0x800000000000000000000000000000000000002000000400018088800000 s y10 := by
    refine Keeps.set (.of rfl (in_MET_FLSTAT _ (by first | exact Fin.isLt _ | omega))) ?_
    exact hy5
  have hy11 : ∀ (y12 : State) (y13 : Bool) (y14 : ℕ), Keeps 98564 0x800000000000000000000000000000000000002000000400018088800000 s y12 → Keeps 98564 0x800000000000000000000000000000000000002000000400018088800000 s (y11 y12 y13 y14) := by
    intro y12 y13 y14 hy12
    subst y11
    refine ite_of (Q := Keeps 98564 0x800000000000000000000000000000000000002000000400018088800000 s) ?_ ?_
    · refine Keeps.app (State.raise_keeps _ _) rfl rfl ?_
      exact hy12
    · exact hy12
  have hy15 : Keeps 98564 0x800000000000000000000000000000000000002000000400018088800000 s y15 := by
    refine hy11 _ _ _ ?_
    exact hy10
  have hy16 : Keeps 98564 0x800000000000000000000000000000000000002000000400018088800000 s y16 := by
    refine hy11 _ _ _ ?_
    exact hy15
  have hy17 : Keeps 98564 0x800000000000000000000000000000000000002000000400018088800000 s y17 := by
    refine hy11 _ _ _ ?_
    exact hy16
  have hy18 : Keeps 98564 0x800000000000000000000000000000000000002000000400018088800000 s y18 := by
    refine hy11 _ _ _ ?_
    exact hy17
  exact Keeps.met_ rfl hy18

theorem State.setHold_keeps (s : State) (n : Fin 8) (r : Option HoldRun) :
    Keeps 8 0x800000000000000000000000000 s (State.setHold s n r) := by
  have h_s : Keeps 8 0x800000000000000000000000000 s s := Keeps.rfl
  delta State.setHold
  refine Keeps.setBit (.of rfl in_VOT_STATUS) ?_
  refine Keeps.app (State.modVot_keeps _ _) rfl rfl ?_
  exact h_s

theorem State.holdStep_keeps (s : State) (conf : QRec) (recs : List Arr) (n : Fin 8) :
    Keeps 98584 0x800000000000000000000000000080000800000000000000018088800000 s (State.holdStep s conf recs n) := by
  have h_s : Keeps 98584 0x800000000000000000000000000080000800000000000000018088800000 s s := Keeps.rfl
  delta State.holdStep
  split
  · exact h_s
  · extract_lets -underBinder -useContext y1
    split
    · extract_lets -underBinder -useContext y2 y3 y4
      have hy3 : Keeps 98584 0x800000000000000000000000000080000800000000000000018088800000 s y3 := by
        refine Keeps.app (State.setHold_keeps _ _ _) rfl rfl ?_
        exact h_s
      have hy4 : Keeps 98584 0x800000000000000000000000000080000800000000000000018088800000 s y4 := by
        refine Keeps.app (State.log_keeps _ _) rfl rfl ?_
        exact hy3
      refine ite_of (Q := Keeps 98584 0x800000000000000000000000000080000800000000000000018088800000 s) ?_ ?_
      · exact h_s
      · refine Keeps.app (State.raise_keeps _ _) rfl rfl ?_
        exact hy4
    · extract_lets -underBinder -useContext y6 y7
      have hy7 : Keeps 98584 0x800000000000000000000000000080000800000000000000018088800000 s y7 := by
        refine foldl_of (Q := Keeps 98584 0x800000000000000000000000000080000800000000000000018088800000 s) ?_ (fun y8 y9 my9 hy8 => ?_)
        · exact h_s
        · refine Keeps.app (State.log_keeps _ _) rfl rfl ?_
          exact hy8
      refine ite_of (Q := Keeps 98584 0x800000000000000000000000000080000800000000000000018088800000 s) ?_ ?_
      · refine Keeps.app (State.setHold_keeps _ _ _) rfl rfl ?_
        exact h_s
      · refine Keeps.app (State.raise_keeps _ _) rfl rfl ?_
        refine Keeps.app (State.setHold_keeps _ _ _) rfl rfl ?_
        exact hy7

theorem State.setConsec_keeps (s : State) (c : Fin 3) (v : ℕ) :
    Keeps 0 0x1000000000000000000000000000 s (State.setConsec s c v) := by
  have h_s : Keeps 0 0x1000000000000000000000000000 s s := Keeps.rfl
  delta State.setConsec
  refine Keeps.set (.of rfl in_VOT_DISAG) ?_
  exact h_s

theorem State.showMode_keeps (s : State) :
    Keeps 0 0x800000000000000000000000000 s (State.showMode s) := by
  have h_s : Keeps 0 0x800000000000000000000000000 s s := Keeps.rfl
  delta State.showMode
  extract_lets -underBinder -useContext y0
  refine Keeps.set (.of rfl in_VOT_STATUS) ?_
  exact h_s

theorem State.setChState_keeps (s : State) (c : Fin 3) (new : ℕ) :
    Keeps 98584 0x800000000000000000000000000080002800000000000000018088800000 s (State.setChState s c new) := by
  have h_s : Keeps 98584 0x800000000000000000000000000080002800000000000000018088800000 s s := Keeps.rfl
  delta State.setChState
  extract_lets -underBinder -useContext y0 y1 y2 y3
  have hy1 : Keeps 98584 0x800000000000000000000000000080002800000000000000018088800000 s y1 := by
    refine Keeps.app (State.log_keeps _ _) rfl rfl ?_
    exact h_s
  have hy2 : Keeps 98584 0x800000000000000000000000000080002800000000000000018088800000 s y2 := by
    refine Keeps.set (.of rfl in_VOT_STATUS) ?_
    exact hy1
  have hy3 : Keeps 98584 0x800000000000000000000000000080002800000000000000018088800000 s y3 := by
    refine Keeps.set (.of rfl in_VOT_REVER) ?_
    exact hy2
  refine Keeps.app (State.showMode_keeps _) rfl rfl ?_
  refine Keeps.app (State.modVot_keeps _ _) rfl rfl ?_
  exact hy3

theorem State.markFaulty_keeps (s : State) (c : Fin 3) (qf : ℕ) :
    Keeps 98584 0x800000000000000000000000000080002800000000000000018088802000 s (State.markFaulty s c qf) := by
  have h_s : Keeps 98584 0x800000000000000000000000000080002800000000000000018088802000 s s := Keeps.rfl
  delta State.markFaulty
  extract_lets -underBinder -useContext y0
  have hy0 : Keeps 98584 0x800000000000000000000000000080002800000000000000018088802000 s y0 := by
    refine Keeps.app (State.modVot_keeps _ _) rfl rfl ?_
    exact h_s
  refine Keeps.app (State.raise_keeps _ _) rfl rfl ?_
  refine Keeps.app (State.fault_keeps _ _ _) rfl rfl ?_
  refine Keeps.app (State.setChState_keeps _ _ _) rfl rfl ?_
  exact hy0

theorem State.revFail_keeps (s : State) (c : Fin 3) (qf : ℕ) :
    Keeps 98584 0x800000000000000000000000000080002800000000000000018088802000 s (State.revFail s c qf) := by
  have h_s : Keeps 98584 0x800000000000000000000000000080002800000000000000018088802000 s s := Keeps.rfl
  delta State.revFail
  refine Keeps.app (State.raise_keeps _ _) rfl rfl ?_
  refine Keeps.app (State.markFaulty_keeps _ _ _) rfl rfl ?_
  exact h_s

theorem State.revStep_keeps (s : State) (c : Fin 3) (q : ℕ) (bad : Bool) :
    Keeps 98584 0x800000000000000000000000000080002800000000000000018088802000 s (State.revStep s c q bad) := by
  have h_s : Keeps 98584 0x800000000000000000000000000080002800000000000000018088802000 s s := Keeps.rfl
  delta State.revStep
  extract_lets -underBinder -useContext y0 y1 y2
  have hy2 : Keeps 98584 0x800000000000000000000000000080002800000000000000018088802000 s y2 := by
    refine Keeps.app (State.modVot_keeps _ _) rfl rfl ?_
    refine Keeps.set (.of rfl in_VOT_REVER) ?_
    exact h_s
  refine ite_of (Q := Keeps 98584 0x800000000000000000000000000080002800000000000000018088802000 s) ?_ ?_
  · exact h_s
  · refine ite_of (Q := Keeps 98584 0x800000000000000000000000000080002800000000000000018088802000 s) ?_ ?_
    · refine Keeps.app (State.revFail_keeps _ _ _) rfl rfl ?_
      exact h_s
    · refine ite_of (Q := Keeps 98584 0x800000000000000000000000000080002800000000000000018088802000 s) ?_ ?_
      · exact h_s
      · refine ite_of (Q := Keeps 98584 0x800000000000000000000000000080002800000000000000018088802000 s) ?_ ?_
        · refine Keeps.app (State.modVot_keeps _ _) rfl rfl ?_
          exact hy2
        · exact hy2

theorem State.judgeRec_keeps (s : State) (a : Arr) (conf : QRec) :
    Keeps 98584 0x800000000000000000000000000080103800000000000000018088802000 s (State.judgeRec s a conf) := by
  have h_s : Keeps 98584 0x800000000000000000000000000080103800000000000000018088802000 s s := Keeps.rfl
  delta State.judgeRec
  extract_lets -underBinder -useContext y0 y1 y2 y3 y4 y5 y6
  have hy5 : Keeps 98584 0x800000000000000000000000000080103800000000000000018088802000 s y5 := by
    refine Keeps.app (State.modVot_keeps _ _) rfl rfl ?_
    exact h_s
  have hy6 : Keeps 98584 0x800000000000000000000000000080103800000000000000018088802000 s y6 := by
    refine ite_of (Q := Keeps 98584 0x800000000000000000000000000080103800000000000000018088802000 s) ?_ ?_
    · refine Keeps.app (State.raise_keeps _ _) rfl rfl ?_
      refine Keeps.count (.of rfl (in_VOT_CH_DEV _ (by first | exact Fin.isLt _ | omega))) ?_
      exact hy5
    · exact hy5
  split
  · extract_lets -underBinder -useContext y7 y8
    have hy8 : Keeps 98584 0x800000000000000000000000000080103800000000000000018088802000 s y8 := by
      refine Keeps.app (State.setConsec_keeps _ _ _) rfl rfl ?_
      exact hy6
    refine ite_of (Q := Keeps 98584 0x800000000000000000000000000080103800000000000000018088802000 s) ?_ ?_
    · refine Keeps.app (State.markFaulty_keeps _ _ _) rfl rfl ?_
      exact hy8
    · exact hy8
  · refine Keeps.app (State.revStep_keeps _ _ _ _) rfl rfl ?_
    exact hy6
  · exact hy6

theorem State.resolve_keeps (s : State) (q : ℕ) :
    Keeps 107900 0x8008000001000000000105A80333F797B80FFFE000000400018088802000 s (State.resolve s q) := by
  have h_s : Keeps 107900 0x8008000001000000000105A80333F797B80FFFE000000400018088802000 s s := Keeps.rfl
  delta State.resolve
  extract_lets -underBinder -useContext y0 y1 y2 y3 y4 y5 y8 y9 y11 y12 y13 y14 y17 y20 y23 y24 y25
  have hy4 : Keeps 107900 0x8008000001000000000105A80333F797B80FFFE000000400018088802000 s y4 := by
    refine Keeps.set64 (.of rfl in_VOT_CONFQ_LO) (.of rfl in_VOT_CONFQ_HI) ?_
    exact h_s
  have hy5 : Keeps 107900 0x8008000001000000000105A80333F797B80FFFE000000400018088802000 s y5 := by
    subst y5
    split
    · refine Keeps.app (State.raise_keeps _ _) rfl rfl ?_
      refine Keeps.count (.of rfl in_VOT_CNT_RETRACT) ?_
      exact hy4
    · exact hy4
  have hy8 : Keeps 107900 0x8008000001000000000105A80333F797B80FFFE000000400018088802000 s y8 := by
    refine Keeps.app (State.raise_keeps _ _) rfl rfl ?_
    refine Keeps.count (.of rfl in_VOT_CNT_HOLD) ?_
    exact hy5
  have hy9 : Keeps 107900 0x8008000001000000000105A80333F797B80FFFE000000400018088802000 s y9 := by
    subst y9
    split
    · refine ite_of (Q := Keeps 107900 0x8008000001000000000105A80333F797B80FFFE000000400018088802000 s) ?_ ?_
      · refine Keeps.app (State.setWindow_keeps _ _) rfl rfl ?_
        exact hy8
      · exact hy8
    · exact hy8
  have hy11 : Keeps 107900 0x8008000001000000000105A80333F797B80FFFE000000400018088802000 s y11 := by
    refine Keeps.app (State.modVot_keeps _ _) rfl rfl ?_
    exact hy9
  have hy12 : Keeps 107900 0x8008000001000000000105A80333F797B80FFFE000000400018088802000 s y12 := by
    refine Keeps.app (State.modVot_keeps _ _) rfl rfl ?_
    exact hy11
  have hy13 : Keeps 107900 0x8008000001000000000105A80333F797B80FFFE000000400018088802000 s y13 := by
    refine Keeps.app (State.modVot_keeps _ _) rfl rfl ?_
    exact hy12
  have hy14 : Keeps 107900 0x8008000001000000000105A80333F797B80FFFE000000400018088802000 s y14 := by
    refine foldl_of (Q := Keeps 107900 0x8008000001000000000105A80333F797B80FFFE000000400018088802000 s) ?_ (fun y15 y16 my16 hy15 => ?_)
    · exact hy13
    · refine Keeps.app (State.confirmPoint_keeps _ _ _ _) rfl rfl ?_
      exact hy15
  have hy17 : Keeps 107900 0x8008000001000000000105A80333F797B80FFFE000000400018088802000 s y17 := by
    refine foldl_of (Q := Keeps 107900 0x8008000001000000000105A80333F797B80FFFE000000400018088802000 s) ?_ (fun y18 y19 my19 hy18 => ?_)
    · exact hy14
    · refine Keeps.app (State.holdStep_keeps _ _ _ _) rfl rfl ?_
      exact hy18
  have hy20 : Keeps 107900 0x8008000001000000000105A80333F797B80FFFE000000400018088802000 s y20 := by
    refine foldl_of (Q := Keeps 107900 0x8008000001000000000105A80333F797B80FFFE000000400018088802000 s) ?_ (fun y21 y22 my22 hy21 => ?_)
    · exact hy17
    · refine Keeps.app (State.judgeRec_keeps _ _ _) rfl rfl ?_
      exact hy21
  have hy23 : Keeps 107900 0x8008000001000000000105A80333F797B80FFFE000000400018088802000 s y23 := by
    refine Keeps.app (State.bill_keeps _ _) rfl rfl ?_
    exact hy20
  have hy24 : Keeps 107900 0x8008000001000000000105A80333F797B80FFFE000000400018088802000 s y24 := by
    refine Keeps.app (State.sessQuantum_keeps _ _) rfl rfl ?_
    exact hy23
  refine ite_of (Q := Keeps 107900 0x8008000001000000000105A80333F797B80FFFE000000400018088802000 s) ?_ ?_
  · refine Keeps.app (State.legalSnapshot_keeps _) rfl rfl ?_
    exact hy24
  · exact hy24

theorem State.resolveTo_keeps (s : State) (last : Nat) : ∀ n, Keeps 107900 0x8008000001000000000105A80333F797B80FFFE000000400018088802000 s (s.resolveTo last n)
  | 0 => Keeps.rfl
  | n + 1 => by
    rw [State.resolveTo]
    split
    · exact Keeps.rfl
    · exact Keeps.app (State.resolveTo_keeps _ last n) (by decide) (by decide) (State.resolve_keeps _ _)


theorem State.forceChan_keeps (s : State) (c : Fin 3) :
    Keeps 98584 0x800000000000000000000000000080002800000000000000018088800000 s (State.forceChan s c) := by
  have h_s : Keeps 98584 0x800000000000000000000000000080002800000000000000018088800000 s s := Keeps.rfl
  delta State.forceChan
  extract_lets -underBinder -useContext y0 y1
  have hy1 : Keeps 98584 0x800000000000000000000000000080002800000000000000018088800000 s y1 := by
    refine Keeps.app (State.setChState_keeps _ _ _) rfl rfl ?_
    exact h_s
  refine ite_of (Q := Keeps 98584 0x800000000000000000000000000080002800000000000000018088800000 s) ?_ ?_
  · exact h_s
  · refine ite_of (Q := Keeps 98584 0x800000000000000000000000000080002800000000000000018088800000 s) ?_ ?_
    · refine Keeps.app (State.raise_keeps _ _) rfl rfl ?_
      exact hy1
    · exact hy1

theorem State.startRev_keeps (s : State) (c : Fin 3) :
    Keeps 98584 0x800000000000000000000000000080003800000000000000018088800000 s (State.startRev s c) := by
  have h_s : Keeps 98584 0x800000000000000000000000000080003800000000000000018088800000 s s := Keeps.rfl
  delta State.startRev
  extract_lets -underBinder -useContext y0 y1 y2
  have hy1 : Keeps 98584 0x800000000000000000000000000080003800000000000000018088800000 s y1 := by
    refine Keeps.app (State.setConsec_keeps _ _ _) rfl rfl ?_
    refine Keeps.app (State.setChState_keeps _ _ _) rfl rfl ?_
    exact h_s
  have hy2 : Keeps 98584 0x800000000000000000000000000080003800000000000000018088800000 s y2 := by
    refine Keeps.app (State.modVot_keeps _ _) rfl rfl ?_
    exact hy1
  refine Keeps.app (State.raise_keeps _ _) rfl rfl ?_
  exact hy2

theorem State.writeVotCtrl_keeps (s : State) (v : ℕ) :
    Keeps 98584 0x800000000000000000000000000080003C00000000000000018088800000 s (State.writeVotCtrl s v) := by
  have h_s : Keeps 98584 0x800000000000000000000000000080003C00000000000000018088800000 s s := Keeps.rfl
  delta State.writeVotCtrl
  extract_lets -underBinder -useContext y0 y1 y2 y3 y4 y5 y6
  have hy5 : Keeps 98584 0x800000000000000000000000000080003C00000000000000018088800000 s y5 := by
    refine State.plainWrite_keeps (P := 98584) (B := 0x800000000000000000000000000080003C00000000000000018088800000) rfl rfl (.of rfl in_VOT_CTRL) ?_
    exact h_s
  have hy6 : Keeps 98584 0x800000000000000000000000000080003C00000000000000018088800000 s y6 := by
    refine ite_of (Q := Keeps 98584 0x800000000000000000000000000080003C00000000000000018088800000 s) ?_ ?_
    · refine foldl_of (Q := Keeps 98584 0x800000000000000000000000000080003C00000000000000018088800000 s) ?_ (fun y7 y8 my8 hy7 => ?_)
      · exact hy5
      · refine Keeps.app (State.forceChan_keeps _ _) rfl rfl ?_
        exact hy7
    · exact hy5
  refine ite_of (Q := Keeps 98584 0x800000000000000000000000000080003C00000000000000018088800000 s) ?_ ?_
  · refine Keeps.app (State.discard_keeps _) rfl rfl ?_
    exact h_s
  · refine foldl_of (Q := Keeps 98584 0x800000000000000000000000000080003C00000000000000018088800000 s) ?_ (fun y9 y10 my10 hy9 => ?_)
    · exact hy6
    · refine ite_of (Q := Keeps 98584 0x800000000000000000000000000080003C00000000000000018088800000 s) ?_ ?_
      · refine Keeps.app (State.startRev_keeps _ _) rfl rfl ?_
        exact hy9
      · exact hy9

theorem execReverify_keeps (v : Word) (s : State) :
    KeepsO 98584 0x800000000000000000000000000080003C00000000000000018088800000 s (execReverify v s) := by
  have h_s : Keeps 98584 0x800000000000000000000000000080003C00000000000000018088800000 s s := Keeps.rfl
  delta execReverify
  refine KeepsO.next ?_
  refine State.guard_keeps (P := 98584) (B := 0x800000000000000000000000000080003C00000000000000018088800000) rfl rfl ?_ (fun y0 hy0 => ?_)
  · exact h_s
  · refine Keeps.app (State.writeVotCtrl_keeps _ _) rfl rfl ?_
    exact hy0

theorem execForceOut_keeps (v : Word) (s : State) :
    KeepsO 98584 0x800000000000000000000000000080003C00000000000000018088800000 s (execForceOut v s) := by
  have h_s : Keeps 98584 0x800000000000000000000000000080003C00000000000000018088800000 s s := Keeps.rfl
  delta execForceOut
  refine KeepsO.next ?_
  refine State.guard_keeps (P := 98584) (B := 0x800000000000000000000000000080003C00000000000000018088800000) rfl rfl ?_ (fun y0 hy0 => ?_)
  · exact h_s
  · refine Keeps.app (State.writeVotCtrl_keeps _ _) rfl rfl ?_
    exact hy0

theorem State.fenceChan_keeps (s : State) (c : Fin 3) :
    Keeps 98584 0x800000000000000000000000000080002800000000000000018088800000 s (State.fenceChan s c) := by
  have h_s : Keeps 98584 0x800000000000000000000000000080002800000000000000018088800000 s s := Keeps.rfl
  delta State.fenceChan
  extract_lets -underBinder -useContext y0 y1
  have hy1 : Keeps 98584 0x800000000000000000000000000080002800000000000000018088800000 s y1 := by
    refine Keeps.app (State.setChState_keeps _ _ _) rfl rfl ?_
    exact h_s
  refine ite_of (Q := Keeps 98584 0x800000000000000000000000000080002800000000000000018088800000 s) ?_ ?_
  · exact h_s
  · refine ite_of (Q := Keeps 98584 0x800000000000000000000000000080002800000000000000018088800000 s) ?_ ?_
    · refine Keeps.app (State.raise_keeps _ _) rfl rfl ?_
      exact hy1
    · exact hy1

theorem State.advance_keeps (s : State) : ∀ n, Keeps 107900 0x8008000001000000000105A80333F797B80FFFE000000400018088802000 s (s.advance n)
  | 0 => Keeps.rfl
  | n + 1 => by
    rw [State.advance]
    split
    · exact Keeps.rfl
    · split
      · exact Keeps.app (State.advance_keeps _ n) (by decide) (by decide) (State.resolve_keeps _ _)
      · exact Keeps.rfl


theorem State.showVoterCounts_keeps (s : State) :
    Keeps 8 0x104000000000000000000000000000 s (State.showVoterCounts s) := by
  have h_s : Keeps 8 0x104000000000000000000000000000 s s := Keeps.rfl
  delta State.showVoterCounts
  refine foldl_of (Q := Keeps 8 0x104000000000000000000000000000 s) ?_ (fun y0 y1 my1 hy0 => ?_)
  · exact h_s
  · extract_lets -underBinder -useContext y2 y3 y4
    have hy2 : Keeps 8 0x104000000000000000000000000000 s y2 := by
      refine Keeps.set (.of rfl in_VOT_REJOIN) ?_
      exact hy0
    have hy4 : Keeps 8 0x104000000000000000000000000000 s y4 := by
      refine Keeps.app (State.modVot_keeps _ _) rfl rfl ?_
      exact hy2
    refine Keeps.setSat (.of rfl (in_VOT_CH_DEV _ (by first | exact Fin.isLt _ | omega))) ?_
    exact hy4

theorem State.releaseForced_keeps (s : State) (c : Fin 3) :
    Keeps 98584 0x800000000000000000000000000080003800000000000000018088802000 s (State.releaseForced s c) := by
  have h_s : Keeps 98584 0x800000000000000000000000000080003800000000000000018088802000 s s := Keeps.rfl
  delta State.releaseForced
  refine ite_of (Q := Keeps 98584 0x800000000000000000000000000080003800000000000000018088802000 s) ?_ ?_
  · exact h_s
  · refine ite_of (Q := Keeps 98584 0x800000000000000000000000000080003800000000000000018088802000 s) ?_ ?_
    · refine Keeps.app (State.markFaulty_keeps _ _ _) rfl rfl ?_
      exact h_s
    · refine Keeps.app (State.startRev_keeps _ _) rfl rfl ?_
      exact h_s

theorem State.voterBoundary_keeps (s : State) :
    Keeps 98584 0x800000000000000000000000000080107800000000000000018088802000 s (State.voterBoundary s) := by
  have h_s : Keeps 98584 0x800000000000000000000000000080107800000000000000018088802000 s s := Keeps.rfl
  delta State.voterBoundary
  refine ite_of (Q := Keeps 98584 0x800000000000000000000000000080107800000000000000018088802000 s) ?_ ?_
  · refine Keeps.app (State.showVoterCounts_keeps _) rfl rfl ?_
    refine foldl_of (Q := Keeps 98584 0x800000000000000000000000000080107800000000000000018088802000 s) ?_ (fun y0 y1 my1 hy0 => ?_)
    · exact h_s
    · refine Keeps.app (State.releaseForced_keeps _ _) rfl rfl ?_
      exact hy0
  · exact h_s

theorem State.unfenceChan_keeps (s : State) (c : Fin 3) :
    Keeps 98584 0x800000000000000000000000000080002800000000000000018088802000 s (State.unfenceChan s c) := by
  have h_s : Keeps 98584 0x800000000000000000000000000080002800000000000000018088802000 s s := Keeps.rfl
  delta State.unfenceChan
  extract_lets -underBinder -useContext y0
  have hy0 : Keeps 98584 0x800000000000000000000000000080002800000000000000018088802000 s y0 := by
    refine Keeps.app (State.markFaulty_keeps _ _ _) rfl rfl ?_
    exact h_s
  refine ite_of (Q := Keeps 98584 0x800000000000000000000000000080002800000000000000018088802000 s) ?_ ?_
  · exact h_s
  · refine ite_of (Q := Keeps 98584 0x800000000000000000000000000080002800000000000000018088802000 s) ?_ ?_
    · refine Keeps.app (State.setChState_keeps _ _ _) rfl rfl ?_
      exact hy0
    · exact hy0

theorem execReverificationBegin_keeps (c : Fin 3) (s : State) :
    KeepsO 98584 0x800000000000000000000000000080003800000000000000018088800000 s (execReverificationBegin c s) := by
  have h_s : Keeps 98584 0x800000000000000000000000000080003800000000000000018088800000 s s := Keeps.rfl
  delta execReverificationBegin
  refine ite_of (Q := KeepsO 98584 0x800000000000000000000000000080003800000000000000018088800000 s) ?_ ?_
  · refine KeepsO.next ?_
    exact h_s
  · refine KeepsO.next ?_
    refine Keeps.app (State.startRev_keeps _ _) rfl rfl ?_
    exact h_s

theorem State.takeRecord_keeps (s : State) (c : Fin 3) :
    KeepsN 4 0x60000000000000000000000000 s (State.takeRecord s c) := by
  have h_s : Keeps 4 0x60000000000000000000000000 s s := Keeps.rfl
  delta State.takeRecord
  extract_lets -underBinder -useContext y0
  split
  · exact KeepsN.none
  · extract_lets -underBinder -useContext y3 y4
    have hy4 : Keeps 4 0x60000000000000000000000000 s y4 := by
      refine Keeps.app (State.setChan_keeps _ _ _) rfl rfl ?_
      exact h_s
    refine ite_of (Q := KeepsN 4 0x60000000000000000000000000 s) ?_ ?_
    · refine KeepsN.some ?_
      refine KeepsE.mk ?_
      refine Keeps.set64 (.of rfl (in_MET_CH_LASTQ_LO _ (by first | exact Fin.isLt _ | omega))) (.of rfl (by rw [show R.MET_CH_LASTQ_LO ↑c + 4 = R.MET_CH_LASTQ_HI ↑c by simp only [R.MET_CH_LASTQ_LO, R.MET_CH_LASTQ_HI]; omega]; exact (in_MET_CH_LASTQ_HI _ (by first | exact Fin.isLt _ | omega)))) ?_
      exact hy4
    · exact KeepsN.none

theorem State.discarded_keeps (s : State) (c : Fin 3) (q : ℕ) :
    Keeps 98560 0x800000000000000000000000000000000000000000000000018088800000 s (State.discarded s c q) := by
  have h_s : Keeps 98560 0x800000000000000000000000000000000000000000000000018088800000 s s := Keeps.rfl
  delta State.discarded
  refine Keeps.app (State.raise_keeps _ _) rfl rfl ?_
  exact h_s

theorem State.lateRecord_keeps (s : State) (a : Arr) :
    Keeps 98584 0x800000000000000000000000000080103800000000000000018088802000 s (State.lateRecord s a) := by
  have h_s : Keeps 98584 0x800000000000000000000000000080103800000000000000018088802000 s s := Keeps.rfl
  delta State.lateRecord
  split
  · exact h_s
  · extract_lets -underBinder -useContext y1
    have hy1 : Keeps 98584 0x800000000000000000000000000080103800000000000000018088802000 s y1 := by
      refine foldl_of (Q := Keeps 98584 0x800000000000000000000000000080103800000000000000018088802000 s) ?_ (fun y2 y3 my3 hy2 => ?_)
      · exact h_s
      · split
        · refine ite_of (Q := Keeps 98584 0x800000000000000000000000000080103800000000000000018088802000 s) ?_ ?_
          · refine Keeps.app (State.setHold_keeps _ _ _) rfl rfl ?_
            exact hy2
          · exact hy2
        · exact hy2
    refine Keeps.app (State.judgeRec_keeps _ _ _) rfl rfl ?_
    exact hy1

theorem State.receive_keeps (s : State) (corrupt : List (Fin 3)) (c : Fin 3) :
    Keeps 98588 0x800000000000000000000000000080103860000000000000018088802000 s (State.receive s corrupt c) := by
  have h_s : Keeps 98588 0x800000000000000000000000000080103860000000000000018088802000 s s := Keeps.rfl
  delta State.receive
  split
  · exact h_s
  · rename_i _ y1 hx
    have hy1 : Keeps 98588 0x800000000000000000000000000080103860000000000000018088802000 s y1 := KeepsN.of_eq (by
        refine KeepsN.app (State.takeRecord_keeps _ _) rfl rfl ?_
        exact h_s) hx
    extract_lets -underBinder -useContext y2 y3 y4 y5
    have hy3 : Keeps 98588 0x800000000000000000000000000080103860000000000000018088802000 s y3 := by
      refine Keeps.app (State.modVot_keeps _ _) rfl rfl ?_
      exact hy1
    have hy4 : Keeps 98588 0x800000000000000000000000000080103860000000000000018088802000 s y4 := by
      refine ite_of (Q := Keeps 98588 0x800000000000000000000000000080103860000000000000018088802000 s) ?_ ?_
      · exact hy3
      · refine Keeps.app (State.discarded_keeps _ _ _) rfl rfl ?_
        exact hy3
    refine ite_of (Q := Keeps 98588 0x800000000000000000000000000080103860000000000000018088802000 s) ?_ ?_
    · refine ite_of (Q := Keeps 98588 0x800000000000000000000000000080103860000000000000018088802000 s) ?_ ?_
      · exact hy4
      · refine ite_of (Q := Keeps 98588 0x800000000000000000000000000080103860000000000000018088802000 s) ?_ ?_
        · refine Keeps.app (State.discarded_keeps _ _ _) rfl rfl ?_
          exact hy4
        · refine Keeps.app (State.lateRecord_keeps _ _) rfl rfl ?_
          exact hy4
    · refine Keeps.app (State.modVot_keeps _ _) rfl rfl ?_
      exact hy4

theorem execSubstitutionStop_keeps (p : Fin 8) (s : State) :
    KeepsO 98656 0x800000000000000000010588030000000000000000000000018088800000 s (execSubstitutionStop p s) := by
  have h_s : Keeps 98656 0x800000000000000000010588030000000000000000000000018088800000 s s := Keeps.rfl
  delta execSubstitutionStop
  extract_lets -underBinder -useContext y0
  refine ite_of (Q := KeepsO 98656 0x800000000000000000010588030000000000000000000000018088800000 s) ?_ ?_
  · refine KeepsO.next ?_
    exact h_s
  · refine KeepsO.next ?_
    refine Keeps.app (State.raise_keeps _ _) rfl rfl ?_
    refine Keeps.app (State.sessStop_keeps _ _ _ _) rfl rfl ?_
    exact h_s

theorem State.failChan_keeps (s : State) (c : Fin 3) (qf : ℕ) :
    Keeps 98584 0x800000000000000000000000000080002800000000000000018088802000 s (State.failChan s c qf) := by
  have h_s : Keeps 98584 0x800000000000000000000000000080002800000000000000018088802000 s s := Keeps.rfl
  delta State.failChan
  split
  · refine Keeps.app (State.markFaulty_keeps _ _ _) rfl rfl ?_
    exact h_s
  · refine Keeps.app (State.revFail_keeps _ _ _) rfl rfl ?_
    exact h_s
  · exact h_s

theorem State.lagCheck_keeps (s : State) :
    Keeps 98584 0x800000000000000000000000000080002800000000000000018088802000 s (State.lagCheck s) := by
  have h_s : Keeps 98584 0x800000000000000000000000000080002800000000000000018088802000 s s := Keeps.rfl
  delta State.lagCheck
  refine foldl_of (Q := Keeps 98584 0x800000000000000000000000000080002800000000000000018088802000 s) ?_ (fun y0 y1 my1 hy0 => ?_)
  · exact h_s
  · extract_lets -underBinder -useContext y2 y3 y4 y5
    have hy4 : Keeps 98584 0x800000000000000000000000000080002800000000000000018088802000 s y4 := by
      refine ite_of (Q := Keeps 98584 0x800000000000000000000000000080002800000000000000018088802000 s) ?_ ?_
      · refine Keeps.app (State.raise_keeps _ _) rfl rfl ?_
        exact hy0
      · exact hy0
    have hy5 : Keeps 98584 0x800000000000000000000000000080002800000000000000018088802000 s y5 := by
      refine Keeps.setBit (.of rfl in_VOT_STATUS) ?_
      exact hy4
    refine ite_of (Q := Keeps 98584 0x800000000000000000000000000080002800000000000000018088802000 s) ?_ ?_
    · refine Keeps.app (State.failChan_keeps _ _ _) rfl rfl ?_
      exact hy5
    · exact hy5

theorem State.publishAll_keeps (s : State) (l : List QRec) :
    Keeps 99704 0x80000000010000000001058803000000000FFFC000000000018088800000 s (State.publishAll s l) := by
  have h_s : Keeps 99704 0x80000000010000000001058803000000000FFFC000000000018088800000 s s := Keeps.rfl
  delta State.publishAll
  refine foldl_of (Q := Keeps 99704 0x80000000010000000001058803000000000FFFC000000000018088800000 s) ?_ (fun y0 y1 my1 hy0 => ?_)
  · exact h_s
  · refine ite_of (Q := Keeps 99704 0x80000000010000000001058803000000000FFFC000000000018088800000 s) ?_ ?_
    · refine Keeps.app (State.publish_keeps _ _) rfl rfl ?_
      exact hy0
    · exact hy0

theorem State.advanceAll_keeps (s : State) :
    Keeps 107900 0x8008000001000000000105A80333F797B80FFFE000000400018088802000 s (State.advanceAll s) := by
  have h_s : Keeps 107900 0x8008000001000000000105A80333F797B80FFFE000000400018088802000 s s := Keeps.rfl
  delta State.advanceAll
  extract_lets -underBinder -useContext y0
  have hy0 : Keeps 107900 0x8008000001000000000105A80333F797B80FFFE000000400018088802000 s y0 := by
    refine Keeps.app (State.advance_keeps _ _) rfl rfl ?_
    exact h_s
  refine ite_of (Q := Keeps 107900 0x8008000001000000000105A80333F797B80FFFE000000400018088802000 s) ?_ ?_
  · refine Keeps.app (State.modVot_keeps _ _) rfl rfl ?_
    exact hy0
  · exact hy0

theorem execQuantumRecordArrival_keeps (arrived : List (Fin 3)) (corrupt : List (Fin 3)) (s : State) :
    KeepsO 107900 0x8008000001000000000105A80333F797B86FFFE000000400018088802000 s (execQuantumRecordArrival arrived corrupt s) := by
  have h_s : Keeps 107900 0x8008000001000000000105A80333F797B86FFFE000000400018088802000 s s := Keeps.rfl
  delta execQuantumRecordArrival
  extract_lets -underBinder -useContext y0 y1 y4
  have hy0 : Keeps 107900 0x8008000001000000000105A80333F797B86FFFE000000400018088802000 s y0 := by
    refine Keeps.app (State.modVot_keeps _ _) rfl rfl ?_
    exact h_s
  have hy1 : Keeps 107900 0x8008000001000000000105A80333F797B86FFFE000000400018088802000 s y1 := by
    refine foldl_of (Q := Keeps 107900 0x8008000001000000000105A80333F797B86FFFE000000400018088802000 s) ?_ (fun y2 y3 my3 hy2 => ?_)
    · exact hy0
    · refine Keeps.app (State.receive_keeps _ _ _) rfl rfl ?_
      exact hy2
  refine ite_of (Q := KeepsO 107900 0x8008000001000000000105A80333F797B86FFFE000000400018088802000 s) ?_ ?_
  · refine KeepsO.next ?_
    exact h_s
  · refine ite_of (Q := KeepsO 107900 0x8008000001000000000105A80333F797B86FFFE000000400018088802000 s) ?_ ?_
    · refine KeepsO.next ?_
      exact hy1
    · refine KeepsO.next ?_
      refine Keeps.app (State.lagCheck_keeps _) rfl rfl ?_
      refine Keeps.app (State.publishAll_keeps _ _) rfl rfl ?_
      refine Keeps.app (State.advanceAll_keeps _) rfl rfl ?_
      exact hy1

theorem State.writeVotTol_keeps (s : State) (k : Fin 8) (v : ℕ) :
    Keeps 98580 0x800000000000000000000000000080080000000000000000018088800000 s (State.writeVotTol s k v) := by
  have h_s : Keeps 98580 0x800000000000000000000000000080080000000000000000018088800000 s s := Keeps.rfl
  delta State.writeVotTol
  extract_lets -underBinder -useContext y0 y1 y2 y3 y4
  have hy4 : Keeps 98580 0x800000000000000000000000000080080000000000000000018088800000 s y4 := by
    refine State.setWaiting_keeps (P := 98580) (B := 0x800000000000000000000000000080080000000000000000018088800000) rfl rfl (.of rfl (in_VOT_TOL _ (by first | exact Fin.isLt _ | omega))) ?_
    exact h_s
  refine ite_of (Q := Keeps 98580 0x800000000000000000000000000080080000000000000000018088800000 s) ?_ ?_
  · refine Keeps.app (State.discard_keeps _) rfl rfl ?_
    exact h_s
  · refine ite_of (Q := Keeps 98580 0x800000000000000000000000000080080000000000000000018088800000 s) ?_ ?_
    · exact h_s
    · refine ite_of (Q := Keeps 98580 0x800000000000000000000000000080080000000000000000018088800000 s) ?_ ?_
      · refine Keeps.app (State.raise_keeps _ _) rfl rfl ?_
        exact h_s
      · refine ite_of (Q := Keeps 98580 0x800000000000000000000000000080080000000000000000018088800000 s) ?_ ?_
        · refine Keeps.app (State.discard_keeps _) rfl rfl ?_
          exact h_s
        · refine Keeps.app (State.log_keeps _ _) rfl rfl ?_
          exact hy4

theorem execVotTolWrite_keeps (k : Fin 8) (v : Word) (s : State) :
    KeepsO 98580 0x800000000000000000000000000080080000000000000000018088800000 s (execVotTolWrite k v s) := by
  have h_s : Keeps 98580 0x800000000000000000000000000080080000000000000000018088800000 s s := Keeps.rfl
  delta execVotTolWrite
  refine KeepsO.next ?_
  refine State.guard_keeps (P := 98580) (B := 0x800000000000000000000000000080080000000000000000018088800000) rfl rfl ?_ (fun y0 hy0 => ?_)
  · exact h_s
  · refine Keeps.app (State.writeVotTol_keeps _ _ _) rfl rfl ?_
    exact hy0

theorem State.testResult_keeps (s : State) (n : Fin 8) (c : Fin 3) (pass : Bool) :
    Keeps 98584 0x800000000000000000000000000080002800000000000008018088802000 s (State.testResult s n c pass) := by
  have h_s : Keeps 98584 0x800000000000000000000000000080002800000000000008018088802000 s s := Keeps.rfl
  delta State.testResult
  extract_lets -underBinder -useContext y0 y1 y2
  have hy0 : Keeps 98584 0x800000000000000000000000000080002800000000000008018088802000 s y0 := by
    refine Keeps.setBit (.of rfl in_MET_STEST_RESULT) ?_
    exact h_s
  have hy1 : Keeps 98584 0x800000000000000000000000000080002800000000000008018088802000 s y1 := by
    refine Keeps.app (State.raise_keeps _ _) rfl rfl ?_
    exact hy0
  have hy2 : Keeps 98584 0x800000000000000000000000000080002800000000000008018088802000 s y2 := by
    refine Keeps.app (State.modVot_keeps _ _) rfl rfl ?_
    exact hy1
  refine ite_of (Q := Keeps 98584 0x800000000000000000000000000080002800000000000008018088802000 s) ?_ ?_
  · refine Keeps.app (State.modVot_keeps _ _) rfl rfl ?_
    exact hy0
  · refine Keeps.app (State.failChan_keeps _ _ _) rfl rfl ?_
    exact hy2

theorem execStartTestEnd_keeps (p : Fin 8) (s : State) :
    KeepsO 98684 0x80000000000000000001058000008000280000000000040C018088802000 s (execStartTestEnd p s) := by
  have h_s : Keeps 98684 0x80000000000000000001058000008000280000000000040C018088802000 s s := Keeps.rfl
  delta execStartTestEnd
  split
  · refine KeepsO.next ?_
    exact h_s
  · extract_lets -underBinder -useContext y1 y2 y3 y4 y5 y6 y7 y11 y12 y13
    have hy3 : Keeps 98684 0x80000000000000000001058000008000280000000000040C018088802000 s y3 := by
      exact Keeps.met_ rfl h_s
    have hy4 : Keeps 98684 0x80000000000000000001058000008000280000000000040C018088802000 s y4 := by
      refine Keeps.setBit (.of rfl in_MET_STEST_CTRL) ?_
      exact hy3
    have hy5 : Keeps 98684 0x80000000000000000001058000008000280000000000040C018088802000 s y5 := by
      refine Keeps.setBit (.of rfl in_MET_STEST_CTRL) ?_
      exact hy4
    have hy6 : Keeps 98684 0x80000000000000000001058000008000280000000000040C018088802000 s y6 := by
      refine Keeps.set (.of rfl (in_MET_TPCOND _ (by first | exact Fin.isLt _ | omega))) ?_
      exact hy5
    have hy7 : Keeps 98684 0x80000000000000000001058000008000280000000000040C018088802000 s y7 := by
      refine foldl_of (Q := Keeps 98684 0x80000000000000000001058000008000280000000000040C018088802000 s) ?_ (fun y8 y9 my9 hy8 => ?_)
      · exact hy6
      · extract_lets -underBinder -useContext y10
        refine Keeps.app (State.testResult_keeps _ _ _ _) rfl rfl ?_
        exact hy8
    have hy12 : Keeps 98684 0x80000000000000000001058000008000280000000000040C018088802000 s y12 := by
      refine Keeps.set (.of rfl (in_MET_TPCOND _ (by first | exact Fin.isLt _ | omega))) ?_
      exact hy7
    have hy13 : Keeps 98684 0x80000000000000000001058000008000280000000000040C018088802000 s y13 := by
      refine Keeps.app (State.raise_keeps _ _) rfl rfl ?_
      exact hy12
    refine ite_of (Q := KeepsO 98684 0x80000000000000000001058000008000280000000000040C018088802000 s) ?_ ?_
    · refine KeepsO.next ?_
      exact h_s
    · refine KeepsO.next ?_
      refine State.ap_keeps (P := 98684) (B := 0x80000000000000000001058000008000280000000000040C018088802000) rfl rfl ?_ (fun y14 hy14 => ?_)
      · exact hy13
      · refine Keeps.app (State.beginChecks_keeps _ _) rfl rfl ?_
        exact hy14

theorem execChannelRejoin_keeps (c : Fin 3) (s : State) :
    KeepsO 98584 0x800000000000000000000000000080107800000000000000018088802000 s (execChannelRejoin c s) := by
  have h_s : Keeps 98584 0x800000000000000000000000000080107800000000000000018088802000 s s := Keeps.rfl
  delta execChannelRejoin
  extract_lets -underBinder -useContext y0 y1 y2
  have hy1 : Keeps 98584 0x800000000000000000000000000080107800000000000000018088802000 s y1 := by
    refine Keeps.app (State.setConsec_keeps _ _ _) rfl rfl ?_
    refine Keeps.app (State.setChState_keeps _ _ _) rfl rfl ?_
    exact h_s
  have hy2 : Keeps 98584 0x800000000000000000000000000080107800000000000000018088802000 s y2 := by
    refine Keeps.app (State.modVot_keeps _ _) rfl rfl ?_
    exact hy1
  refine ite_of (Q := KeepsO 98584 0x800000000000000000000000000080107800000000000000018088802000 s) ?_ ?_
  · refine KeepsO.next ?_
    exact h_s
  · refine ite_of (Q := KeepsO 98584 0x800000000000000000000000000080107800000000000000018088802000 s) ?_ ?_
    · refine KeepsO.next ?_
      refine Keeps.app (State.revFail_keeps _ _ _) rfl rfl ?_
      exact h_s
    · refine KeepsO.next ?_
      refine Keeps.app (State.raise_keeps _ _) rfl rfl ?_
      refine Keeps.app (State.showVoterCounts_keeps _) rfl rfl ?_
      exact hy2

theorem execResolutionDeadline_keeps (s : State) :
    KeepsO 107900 0x8008000001000000000105A80333F797B80FFFE000000400018088802000 s (execResolutionDeadline s) := by
  have h_s : Keeps 107900 0x8008000001000000000105A80333F797B80FFFE000000400018088802000 s s := Keeps.rfl
  delta execResolutionDeadline
  extract_lets -underBinder -useContext y0
  refine ite_of (Q := KeepsO 107900 0x8008000001000000000105A80333F797B80FFFE000000400018088802000 s) ?_ ?_
  · refine KeepsO.next ?_
    exact h_s
  · refine ite_of (Q := KeepsO 107900 0x8008000001000000000105A80333F797B80FFFE000000400018088802000 s) ?_ ?_
    · refine KeepsO.next ?_
      refine Keeps.app (State.lagCheck_keeps _) rfl rfl ?_
      refine Keeps.app (State.advanceAll_keeps _) rfl rfl ?_
      exact h_s
    · refine KeepsO.next ?_
      refine Keeps.app (State.lagCheck_keeps _) rfl rfl ?_
      refine ite_of (Q := Keeps 107900 0x8008000001000000000105A80333F797B80FFFE000000400018088802000 s) ?_ ?_
      · refine Keeps.app (State.resolveTo_keeps _ _ _) rfl rfl ?_
        exact h_s
      · exact h_s

end Sys2Proof.Machine
end

