-- ==== Sys2Proof/Laws/KeepsBoundary.lean ====
section
/-! SUPPORT. What the operations of Machine/Boundary.lean can change, one lemma each (Laws/Keeps.lean says how it is read). -/

namespace Sys2Proof.Machine

theorem State.applyType_keeps (s : State) (n : Fin 8) :
    Keeps 4 0x8020800000000000000000000000000000000 s (State.applyType s n) := by
  have h_s : Keeps 4 0x8020800000000000000000000000000000000 s s := Keeps.rfl
  delta State.applyType
  split
  · exact h_s
  · extract_lets -underBinder -useContext y1 y2 y3
    have hy1 : Keeps 4 0x8020800000000000000000000000000000000 s y1 := by
      refine Keeps.set (.of rfl (in_TPT_STATE _ (by first | exact Fin.isLt _ | omega))) ?_
      exact h_s
    have hy2 : Keeps 4 0x8020800000000000000000000000000000000 s y2 := by
      refine ite_of (Q := Keeps 4 0x8020800000000000000000000000000000000 s) ?_ ?_
      · refine Keeps.set (.of rfl (in_BIL_DEM_CFG _ (by first | exact Fin.isLt _ | omega))) ?_
        exact hy1
      · exact hy1
    refine Keeps.app (State.showPilot_keeps _ _) rfl rfl ?_
    exact Keeps.met_ rfl hy2

theorem State.showField_keeps (s : State) :
    Keeps 0 0x1010000000000000000000 s (State.showField s) := by
  have h_s : Keeps 0 0x1010000000000000000000 s s := Keeps.rfl
  delta State.showField
  extract_lets -underBinder -useContext y0
  have hy0 : Keeps 0 0x1010000000000000000000 s y0 := by
    refine foldl_of (Q := Keeps 0 0x1010000000000000000000 s) ?_ (fun y1 y2 my2 hy1 => ?_)
    · exact h_s
    · extract_lets -underBinder -useContext y3 y4 y5 y6
      have hy5 : Keeps 0 0x1010000000000000000000 s y5 := by
        refine Keeps.setSat (.of rfl (in_MET_MB_STAT _ (by first | exact Fin.isLt _ | omega))) ?_
        refine Keeps.set (.of rfl (in_MET_MB_STAT _ (by first | exact Fin.isLt _ | omega))) ?_
        exact hy1
      have hy6 : Keeps 0 0x1010000000000000000000 s y6 := by
        refine Keeps.set (.of rfl (in_MET_MB_STAT _ (by first | exact Fin.isLt _ | omega))) ?_
        refine Keeps.set (.of rfl (in_MET_MB_STAT _ (by first | exact Fin.isLt _ | omega))) ?_
        exact hy5
      refine Keeps.set (.of rfl (in_MET_MB_STAT _ (by first | exact Fin.isLt _ | omega))) ?_
      exact hy6
  refine foldl_of (Q := Keeps 0 0x1010000000000000000000 s) ?_ (fun y7 y8 my8 hy7 => ?_)
  · exact hy0
  · extract_lets -underBinder -useContext y9
    refine Keeps.setSat (.of rfl (in_MET_FD_ERR _ (by first | exact Fin.isLt _ | omega))) ?_
    refine Keeps.setSat (.of rfl (in_MET_FD_ERR _ (by first | exact Fin.isLt _ | omega))) ?_
    refine Keeps.setSat (.of rfl (in_MET_FD_ERR _ (by first | exact Fin.isLt _ | omega))) ?_
    exact hy7

theorem State.captureGap_keeps (s : State) :
    Keeps 425984 0 s (State.captureGap s) := by
  have h_s : Keeps 425984 0 s s := Keeps.rfl
  delta State.captureGap
  split
  · exact h_s
  · refine ite_of (Q := Keeps 425984 0 s) ?_ ?_
    · exact h_s
    · refine foldl_of (Q := Keeps 425984 0 s) ?_ (fun y2 y3 my3 hy2 => ?_)
      · exact h_s
      · refine Keeps.app (State.captureRow_keeps _ _ _ _) rfl rfl ?_
        exact hy2

theorem State.chanBoundary_keeps (s : State) (c : Fin 3) :
    Keeps 491780 0x800000000000000000000000000000000090000000000000118088800000 s (State.chanBoundary s c) := by
  have h_s : Keeps 491780 0x800000000000000000000000000000000090000000000000118088800000 s s := Keeps.rfl
  delta State.chanBoundary
  extract_lets -underBinder -useContext y0 y1
  refine ite_of (Q := Keeps 491780 0x800000000000000000000000000000000090000000000000118088800000 s) ?_ ?_
  · refine Keeps.app (State.closeChan_keeps _ _ _ _) rfl rfl ?_
    refine Keeps.app (State.completeChan_keeps _ _) rfl rfl ?_
    exact h_s
  · refine Keeps.app (State.setChan_keeps _ _ _) rfl rfl ?_
    exact h_s

theorem State.advanceTime_keeps (s : State) :
    Keeps 98577 0x800000000000000000000000000484000000000000000000018088800000 s (State.advanceTime s) := by
  have h_s : Keeps 98577 0x800000000000000000000000000484000000000000000000018088800000 s s := Keeps.rfl
  delta State.advanceTime
  extract_lets -underBinder -useContext y0 y1 y2 y3 y4 y5 y6 y7 y8 y9 y10 y11
  have hy11 : Keeps 98577 0x800000000000000000000000000484000000000000000000018088800000 s y11 := by
    refine Keeps.setReg (.of rfl in_BIL_SERVO_SUM) ?_
    exact Keeps.parts h_s rfl rfl rfl (.inl rfl) (.inr rfl) (.inr rfl) (.inr rfl) (.inl rfl) (BilS.Ext.same rfl rfl) (.inr rfl) (.inr rfl) (.inr rfl) (.inr rfl) (.inr rfl) (.inr rfl) (.inr rfl) (.inr rfl) (.inr rfl) (.inr rfl) (.inr rfl) (.inr rfl)
  refine ite_of (Q := Keeps 98577 0x800000000000000000000000000484000000000000000000018088800000 s) ?_ ?_
  · refine Keeps.app (State.synced_keeps _ _) rfl rfl ?_
    exact hy11
  · exact hy11

theorem State.applySettings_keeps (s : State) :
    Keeps 20 0x8020800800000000000000000000000000000 s (State.applySettings s) := by
  have h_s : Keeps 20 0x8020800800000000000000000000000000000 s s := Keeps.rfl
  delta State.applySettings
  extract_lets -underBinder -useContext y0 y1 y2 y3 y4 y5 y8 y9 y10 y11 y12 y13 y14 y15 y16 y17 y18
  have hy3 : Keeps 20 0x8020800800000000000000000000000000000 s y3 := by
    exact Keeps.met_ rfl h_s
  have hy5 : Keeps 20 0x8020800800000000000000000000000000000 s y5 := by
    refine foldl_of (Q := Keeps 20 0x8020800800000000000000000000000000000 s) ?_ (fun y6 y7 my7 hy6 => ?_)
    · exact hy3
    · refine Keeps.app (State.applyType_keeps _ _) rfl rfl ?_
      exact hy6
  have hy8 : Keeps 20 0x8020800800000000000000000000000000000 s y8 := by
    refine ite_of (Q := Keeps 20 0x8020800800000000000000000000000000000 s) ?_ ?_
    · exact hy5
    · refine Keeps.app (State.showRate_keeps _) rfl rfl ?_
      exact hy5
  exact Keeps.parts hy8 rfl rfl rfl (.inr rfl) (.inr rfl) (.inl rfl) (.inr rfl) (.inl rfl) (BilS.Ext.same rfl rfl) (.inr rfl) (.inr rfl) (.inr rfl) (.inr rfl) (.inr rfl) (.inr rfl) (.inr rfl) (.inr rfl) (.inr rfl) (.inr rfl) (.inr rfl) (.inr rfl)

theorem State.sendField_keeps (s : State) (q : ℕ) :
    Keeps 4 0x1010000000000000000000 s (State.sendField s q) := by
  have h_s : Keeps 4 0x1010000000000000000000 s s := Keeps.rfl
  delta State.sendField
  extract_lets -underBinder -useContext y0 y1
  have hy1 : Keeps 4 0x1010000000000000000000 s y1 := by
    refine foldl_of (Q := Keeps 4 0x1010000000000000000000 s) ?_ (fun y2 y3 my3 hy2 => ?_)
    · exact h_s
    · extract_lets -underBinder -useContext y4
      refine ite_of (Q := Keeps 4 0x1010000000000000000000 s) ?_ ?_
      · exact Keeps.met_ rfl hy2
      · exact hy2
  refine ite_of (Q := Keeps 4 0x1010000000000000000000 s) ?_ ?_
  · refine Keeps.app (State.showField_keeps _) rfl rfl ?_
    exact hy1
  · exact h_s

theorem State.captureDone_keeps (s : State) :
    Keeps 260 0 s (State.captureDone s) := by
  have h_s : Keeps 260 0 s s := Keeps.rfl
  delta State.captureDone
  split
  · exact h_s
  · extract_lets -underBinder -useContext y2
    refine ite_of (Q := Keeps 260 0 s) ?_ ?_
    · exact h_s
    · refine Keeps.app (State.ok_keeps _ _ _) rfl rfl ?_
      exact Keeps.met_ rfl h_s

theorem State.boundary_keeps (s : State) :
    Keeps 491805 0x800000000000000000000008020C84907890001010000000118088802000 s (State.boundary s) := by
  have h_s : Keeps 491805 0x800000000000000000000008020C84907890001010000000118088802000 s s := Keeps.rfl
  delta State.boundary
  extract_lets -underBinder -useContext y0 y1 y2 y3 y4 y7 y8
  have hy2 : Keeps 491805 0x800000000000000000000008020C84907890001010000000118088802000 s y2 := by
    exact Keeps.time_ rfl h_s
  have hy3 : Keeps 491805 0x800000000000000000000008020C84907890001010000000118088802000 s y3 := by
    refine Keeps.app (State.captureGap_keeps _) rfl rfl ?_
    exact hy2
  have hy4 : Keeps 491805 0x800000000000000000000008020C84907890001010000000118088802000 s y4 := by
    refine foldl_of (Q := Keeps 491805 0x800000000000000000000008020C84907890001010000000118088802000 s) ?_ (fun y5 y6 my6 hy5 => ?_)
    · exact hy3
    · refine Keeps.app (State.chanBoundary_keeps _ _) rfl rfl ?_
      exact hy5
  have hy7 : Keeps 491805 0x800000000000000000000008020C84907890001010000000118088802000 s y7 := by
    refine Keeps.app (State.advanceTime_keeps _) rfl rfl ?_
    exact hy4
  have hy8 : Keeps 491805 0x800000000000000000000008020C84907890001010000000118088802000 s y8 := by
    refine Keeps.app (State.applySettings_keeps _) rfl rfl ?_
    refine Keeps.app (State.sendField_keeps _ _) rfl rfl ?_
    exact hy7
  refine Keeps.app (State.voterBoundary_keeps _) rfl rfl ?_
  refine Keeps.app (State.captureDone_keeps _) rfl rfl ?_
  exact hy8

theorem execQuantumBoundary_keeps (s : State) :
    KeepsO 491805 0x800000000000000000000008020C84907890001010000000118088802000 s (execQuantumBoundary s) := by
  have h_s : Keeps 491805 0x800000000000000000000008020C84907890001010000000118088802000 s s := Keeps.rfl
  delta execQuantumBoundary
  refine KeepsO.next ?_
  refine ite_of (Q := Keeps 491805 0x800000000000000000000008020C84907890001010000000118088802000 s) ?_ ?_
  · refine Keeps.app (State.boundary_keeps _) rfl rfl ?_
    exact h_s
  · exact h_s

end Sys2Proof.Machine
end

