-- ==== Sys2Proof/Laws/KeepsLinks.lean ====
section
/-! SUPPORT. What the operations of Machine/Links.lean can change, one lemma each (Laws/Keeps.lean says how it is read). -/

namespace Sys2Proof.Machine

theorem in_linkAddr (l : Lnk) : (0x800001000000000000000000000000000000000000000000000 : Nat).testBit (rowOf (linkAddr l).off) = true ∧ (linkAddr l).off ≠ R.HI_STATUS := by
  cases l with
  | fp k => exact (by decide : ∀ k : Fin 4, (0x800001000000000000000000000000000000000000000000000 : Nat).testBit (rowOf (linkAddr (.fp k)).off) = true ∧ (linkAddr (.fp k)).off ≠ R.HI_STATUS) k
  | tl j => exact (by decide : ∀ j : Fin 32, (0x800001000000000000000000000000000000000000000000000 : Nat).testBit (rowOf (linkAddr (.tl j)).off) = true ∧ (linkAddr (.tl j)).off ≠ R.HI_STATUS) j

theorem in_linkUpF (l : Lnk) : (0x800001000000000000000000000000000000000000000000000 : Nat).testBit (rowOf (linkUpF l).off) = true ∧ (linkUpF l).off ≠ R.HI_STATUS := by
  cases l with
  | fp k => exact (by decide : ∀ k : Fin 4, (0x800001000000000000000000000000000000000000000000000 : Nat).testBit (rowOf (linkUpF (.fp k)).off) = true ∧ (linkUpF (.fp k)).off ≠ R.HI_STATUS) k
  | tl j => exact (by decide : ∀ j : Fin 32, (0x800001000000000000000000000000000000000000000000000 : Nat).testBit (rowOf (linkUpF (.tl j)).off) = true ∧ (linkUpF (.tl j)).off ≠ R.HI_STATUS) j

theorem in_linkQuarF (l : Lnk) : (0x800001000000000000000000000000000000000000000000000 : Nat).testBit (rowOf (linkQuarF l).off) = true ∧ (linkQuarF l).off ≠ R.HI_STATUS := by
  cases l with
  | fp k => exact (by decide : ∀ k : Fin 4, (0x800001000000000000000000000000000000000000000000000 : Nat).testBit (rowOf (linkQuarF (.fp k)).off) = true ∧ (linkQuarF (.fp k)).off ≠ R.HI_STATUS) k
  | tl j => exact (by decide : ∀ j : Fin 32, (0x800001000000000000000000000000000000000000000000000 : Nat).testBit (rowOf (linkQuarF (.tl j)).off) = true ∧ (linkQuarF (.tl j)).off ≠ R.HI_STATUS) j

theorem in_linkSupprF (l : Lnk) : (0x800001000000000000000000000000000000000000000000000 : Nat).testBit (rowOf (linkSupprF l).off) = true ∧ (linkSupprF l).off ≠ R.HI_STATUS := by
  cases l with
  | fp k => exact (by decide : ∀ k : Fin 4, (0x800001000000000000000000000000000000000000000000000 : Nat).testBit (rowOf (linkSupprF (.fp k)).off) = true ∧ (linkSupprF (.fp k)).off ≠ R.HI_STATUS) k
  | tl j => exact (by decide : ∀ j : Fin 32, (0x800001000000000000000000000000000000000000000000000 : Nat).testBit (rowOf (linkSupprF (.tl j)).off) = true ∧ (linkSupprF (.tl j)).off ≠ R.HI_STATUS) j

theorem in_linkCostF (l : Lnk) : (0x800002000000000000000000000000000000000000000000000 : Nat).testBit (rowOf (linkCostF l).off) = true ∧ (linkCostF l).off ≠ R.HI_STATUS := by
  cases l with
  | fp k => exact (by decide : ∀ k : Fin 4, (0x800002000000000000000000000000000000000000000000000 : Nat).testBit (rowOf (linkCostF (.fp k)).off) = true ∧ (linkCostF (.fp k)).off ≠ R.HI_STATUS) k
  | tl j => exact (by decide : ∀ j : Fin 32, (0x800002000000000000000000000000000000000000000000000 : Nat).testBit (rowOf (linkCostF (.tl j)).off) = true ∧ (linkCostF (.tl j)).off ≠ R.HI_STATUS) j

theorem State.toneDrop_keeps (s : State) (l : Lnk) :
    Keeps 2048 0 s (State.toneDrop s l) := by
  have h_s : Keeps 2048 0 s s := Keeps.rfl
  delta State.toneDrop
  split
  · exact h_s
  · extract_lets -underBinder -useContext y2 y3 y4 y5 y6
    exact Keeps.mtl_ rfl h_s

theorem State.setQuar_keeps (s : State) (l : Lnk) (b : Bool) :
    Keeps 0 0x800011000000000000000000000000000000000000000000000 s (State.setQuar s l b) := by
  have h_s : Keeps 0 0x800011000000000000000000000000000000000000000000000 s s := Keeps.rfl
  delta State.setQuar
  extract_lets -underBinder -useContext y0
  have hy0 : Keeps 0 0x800011000000000000000000000000000000000000000000000 s y0 := by
    refine Keeps.set (.of rfl (in_linkQuarF _)) ?_
    exact h_s
  split
  · refine Keeps.setBit (.of rfl in_FAB_STATUS) ?_
    exact hy0
  · exact hy0

theorem State.modNb_keeps (s : State) (l : Lnk) (f : Neigh → Neigh) :
    Keeps 3072 0 s (State.modNb s l f) := by
  have h_s : Keeps 3072 0 s s := Keeps.rfl
  delta State.modNb
  split
  · extract_lets -underBinder -useContext y1 y2
    exact Keeps.fab_ rfl h_s
  · extract_lets -underBinder -useContext y4 y5
    exact Keeps.mtl_ rfl h_s

theorem State.mtlSend_keeps (s : State) (j : Fin 32) (prio : ℕ) (frame : List Byte) :
    Keeps 2048 0 s (State.mtlSend s j prio frame) := by
  have h_s : Keeps 2048 0 s s := Keeps.rfl
  delta State.mtlSend
  extract_lets -underBinder -useContext y0 y1 y2 y3
  refine ite_of (Q := Keeps 2048 0 s) ?_ ?_
  · exact h_s
  · try clear_value y3
    split
    · exact h_s
    · extract_lets -underBinder -useContext y6 y7 y8
      exact Keeps.mtl_ rfl h_s

theorem State.fabricKey_keeps (s : State) (engine : ℕ) (label : List Byte) (ctx : List Byte) (epoch : ℕ) :
    KeepsN 102656 0x800000084000000000000000000000000000000000000000018088800000 s (State.fabricKey s engine label ctx epoch) := by
  have h_s : Keeps 102656 0x800000084000000000000000000000000000000000000000018088800000 s s := Keeps.rfl
  delta State.fabricKey
  extract_lets -underBinder -useContext y0 y1
  split
  · exact KeepsN.none
  · extract_lets -underBinder -useContext y3 y4 y5
    have hy5 : Keeps 102656 0x800000084000000000000000000000000000000000000000018088800000 s y5 := by
      exact Keeps.key_ rfl h_s
    refine ite_of (Q := KeepsN 102656 0x800000084000000000000000000000000000000000000000018088800000 s) ?_ ?_
    · refine KeepsN.some ?_
      refine KeepsE.mk ?_
      exact h_s
    · refine KeepsN.some ?_
      refine KeepsE.mk ?_
      refine Keeps.app (State.countUse_keeps _ _) rfl rfl ?_
      exact hy5

theorem State.linkKey_keeps (s : State) (l : Lnk) (epoch : ℕ) :
    KeepsN 102656 0x800000084000000000000000000000000000000000000000018088800000 s (State.linkKey s l epoch) := by
  have h_s : Keeps 102656 0x800000084000000000000000000000000000000000000000018088800000 s s := Keeps.rfl
  delta State.linkKey
  extract_lets -underBinder -useContext y0 y1
  refine KeepsN.app (State.fabricKey_keeps _ _ _ _ _) rfl rfl ?_
  exact h_s

theorem State.sendFrame_keeps (s : State) (l : Lnk) (type_ : ℕ) (flags : ℕ) (dest : ℕ) (index : ℕ) (route : List Half) (payload : List Byte) :
    Keeps 105728 0x800000084000000000000000000000000000000000000000018088800000 s (State.sendFrame s l type_ flags dest index route payload) := by
  have h_s : Keeps 105728 0x800000084000000000000000000000000000000000000000018088800000 s s := Keeps.rfl
  delta State.sendFrame
  extract_lets -underBinder -useContext y0 y1 y2 y3 y4
  have hy1 : Keeps 105728 0x800000084000000000000000000000000000000000000000018088800000 s y1 := by
    refine Keeps.app (State.modNb_keeps _ _ _) rfl rfl ?_
    exact h_s
  have hy4 : ∀ (y5 : State) (y6 : List Byte), Keeps 105728 0x800000084000000000000000000000000000000000000000018088800000 s y5 → Keeps 105728 0x800000084000000000000000000000000000000000000000018088800000 s (y4 y5 y6) := by
    intro y5 y6 hy5
    subst y4
    split
    · refine Keeps.app (State.emit_keeps _ _) rfl rfl ?_
      exact hy5
    · refine Keeps.app (State.mtlSend_keeps _ _ _ _) rfl rfl ?_
      exact hy5
  split
  · rename_i _ y10 hx
    have hy10 : Keeps 105728 0x800000084000000000000000000000000000000000000000018088800000 s y10 := KeepsN.of_eq (by
        refine KeepsN.app (State.linkKey_keeps _ _ _) rfl rfl ?_
        exact hy1) hx
    refine hy4 _ _ ?_
    exact hy10
  · refine ite_of (Q := Keeps 105728 0x800000084000000000000000000000000000000000000000018088800000 s) ?_ ?_
    · refine hy4 _ _ ?_
      exact hy1
    · exact hy1

theorem State.flood_keeps (s : State) (a : Advert) (age : ℕ) (from_ : Option Lnk) (changed : Bool) :
    Keeps 105728 0x800000084000000000000000000000000000000000000000018088800000 s (State.flood s a age from_ changed) := by
  have h_s : Keeps 105728 0x800000084000000000000000000000000000000000000000018088800000 s s := Keeps.rfl
  delta State.flood
  extract_lets -underBinder -useContext y0 y1 y4 y5
  have hy1 : Keeps 105728 0x800000084000000000000000000000000000000000000000018088800000 s y1 := by
    refine foldl_of (Q := Keeps 105728 0x800000084000000000000000000000000000000000000000018088800000 s) ?_ (fun y2 y3 my3 hy2 => ?_)
    · exact h_s
    · refine Keeps.app (State.sendFrame_keeps _ _ _ _ _ _ _ _) rfl rfl ?_
      exact hy2
  have hy5 : Keeps 105728 0x800000084000000000000000000000000000000000000000018088800000 s y5 := by
    exact Keeps.mtl_ rfl hy1
  refine ite_of (Q := Keeps 105728 0x800000084000000000000000000000000000000000000000018088800000 s) ?_ ?_
  · exact hy1
  · refine ite_of (Q := Keeps 105728 0x800000084000000000000000000000000000000000000000018088800000 s) ?_ ?_
    · refine foldl_of (Q := Keeps 105728 0x800000084000000000000000000000000000000000000000018088800000 s) ?_ (fun y6 y7 my7 hy6 => ?_)
      · exact hy5
      · refine Keeps.app (State.sendFrame_keeps _ _ _ _ _ _ _ _) rfl rfl ?_
        exact hy6
    · refine ite_of (Q := Keeps 105728 0x800000084000000000000000000000000000000000000000018088800000 s) ?_ ?_
      · exact hy1
      · exact Keeps.mtl_ rfl hy1

theorem State.segmentKey_keeps (s : State) (epoch : ℕ) :
    KeepsN 102656 0x800000084000000000000000000000000000000000000000018088800000 s (State.segmentKey s epoch) := by
  have h_s : Keeps 102656 0x800000084000000000000000000000000000000000000000018088800000 s s := Keeps.rfl
  delta State.segmentKey
  refine KeepsN.app (State.fabricKey_keeps _ _ _ _ _) rfl rfl ?_
  exact h_s

theorem State.setUp_keeps (s : State) (l : Lnk) (b : Bool) :
    Keeps 0 0x800011040000000000000000000000000000000000000000000 s (State.setUp s l b) := by
  have h_s : Keeps 0 0x800011040000000000000000000000000000000000000000000 s s := Keeps.rfl
  delta State.setUp
  extract_lets -underBinder -useContext y0
  have hy0 : Keeps 0 0x800011040000000000000000000000000000000000000000000 s y0 := by
    refine Keeps.set (.of rfl (in_linkUpF _)) ?_
    exact h_s
  split
  · refine Keeps.setBit (.of rfl in_FAB_STATUS) ?_
    exact hy0
  · refine Keeps.set (.of rfl in_MTL_STATUS) ?_
    exact hy0

theorem State.advertise_keeps (s : State) :
    Keeps 105728 0x800000084000000000000000000000000000000000000000018088800000 s (State.advertise s) := by
  have h_s : Keeps 105728 0x800000084000000000000000000000000000000000000000018088800000 s s := Keeps.rfl
  delta State.advertise
  extract_lets -underBinder -useContext y0 y1
  have hy1 : Keeps 105728 0x800000084000000000000000000000000000000000000000018088800000 s y1 := by
    exact Keeps.fab_ rfl h_s
  refine Keeps.app (State.flood_keeps _ _ _ _ _) rfl rfl ?_
  exact hy1

theorem State.quarantine_keeps (s : State) (l : Lnk) :
    Keeps 105728 0x800000084800011040000000000000000000000000000000018088800000 s (State.quarantine s l) := by
  have h_s : Keeps 105728 0x800000084800011040000000000000000000000000000000018088800000 s s := Keeps.rfl
  delta State.quarantine
  extract_lets -underBinder -useContext y0 y1
  have hy0 : Keeps 105728 0x800000084800011040000000000000000000000000000000018088800000 s y0 := by
    refine Keeps.app (State.modNb_keeps _ _ _) rfl rfl ?_
    refine Keeps.app (State.setUp_keeps _ _ _) rfl rfl ?_
    refine Keeps.app (State.setQuar_keeps _ _ _) rfl rfl ?_
    exact h_s
  have hy1 : Keeps 105728 0x800000084800011040000000000000000000000000000000018088800000 s y1 := by
    refine Keeps.app (State.toneDrop_keeps _ _) rfl rfl ?_
    exact hy0
  refine ite_of (Q := Keeps 105728 0x800000084800011040000000000000000000000000000000018088800000 s) ?_ ?_
  · exact h_s
  · refine Keeps.app (State.advertise_keeps _) rfl rfl ?_
    refine Keeps.app (State.raise_keeps _ _) rfl rfl ?_
    exact hy1

theorem State.authFail_keeps (s : State) (l : Lnk) :
    Keeps 105728 0x800000086800011040000000000000000000000000000000018088800000 s (State.authFail s l) := by
  have h_s : Keeps 105728 0x800000086800011040000000000000000000000000000000018088800000 s s := Keeps.rfl
  delta State.authFail
  extract_lets -underBinder -useContext y0 y3 y4 y5
  have hy0 : Keeps 105728 0x800000086800011040000000000000000000000000000000018088800000 s y0 := by
    subst y0
    split
    · refine Keeps.count (.of rfl (in_FAB_PORT_AUTH _ (by first | exact Fin.isLt _ | omega))) ?_
      exact h_s
    · exact h_s
  have hy3 : Keeps 105728 0x800000086800011040000000000000000000000000000000018088800000 s y3 := by
    refine Keeps.app (State.raise_keeps _ _) rfl rfl ?_
    exact hy0
  have hy5 : Keeps 105728 0x800000086800011040000000000000000000000000000000018088800000 s y5 := by
    refine Keeps.app (State.modNb_keeps _ _ _) rfl rfl ?_
    exact hy3
  refine ite_of (Q := Keeps 105728 0x800000086800011040000000000000000000000000000000018088800000 s) ?_ ?_
  · refine Keeps.app (State.quarantine_keeps _ _) rfl rfl ?_
    exact hy5
  · exact hy5

theorem State.endQuarantine_keeps (s : State) (l : Lnk) :
    Keeps 3072 0x800011000000000000000000000000000000000000000000000 s (State.endQuarantine s l) := by
  have h_s : Keeps 3072 0x800011000000000000000000000000000000000000000000000 s s := Keeps.rfl
  delta State.endQuarantine
  refine ite_of (Q := Keeps 3072 0x800011000000000000000000000000000000000000000000000 s) ?_ ?_
  · refine Keeps.app (State.modNb_keeps _ _ _) rfl rfl ?_
    refine Keeps.app (State.setQuar_keeps _ _ _) rfl rfl ?_
    exact h_s
  · exact h_s

theorem State.badFabric_keeps (s : State) (port : Fin 5) :
    Keeps 0 0x1000000000000000000000000000000000000000000000000000 s (State.badFabric s port) := by
  have h_s : Keeps 0 0x1000000000000000000000000000000000000000000000000000 s s := Keeps.rfl
  delta State.badFabric
  split
  · refine Keeps.count (.of rfl (in_FAB_PORT_ERR _ (by first | exact Fin.isLt _ | omega))) ?_
    exact h_s
  · exact h_s

theorem State.linkUp_keeps (s : State) (l : Lnk) :
    Keeps 105728 0x800000084800013040000000000000000000000000000000018088800000 s (State.linkUp s l) := by
  have h_s : Keeps 105728 0x800000084800013040000000000000000000000000000000018088800000 s s := Keeps.rfl
  delta State.linkUp
  extract_lets -underBinder -useContext y0 y1
  have hy0 : Keeps 105728 0x800000084800013040000000000000000000000000000000018088800000 s y0 := by
    refine Keeps.app (State.modNb_keeps _ _ _) rfl rfl ?_
    refine Keeps.app (State.setUp_keeps _ _ _) rfl rfl ?_
    exact h_s
  have hy1 : Keeps 105728 0x800000084800013040000000000000000000000000000000018088800000 s y1 := by
    refine Keeps.set (.of rfl (in_linkCostF _)) ?_
    exact hy0
  refine Keeps.app (State.advertise_keeps _) rfl rfl ?_
  refine Keeps.app (State.raise_keeps _ _) rfl rfl ?_
  exact hy1

theorem State.tryUp_keeps (s : State) (l : Lnk) :
    Keeps 105728 0x800000084800013040000000000000000000000000000000018088800000 s (State.tryUp s l) := by
  have h_s : Keeps 105728 0x800000084800013040000000000000000000000000000000018088800000 s s := Keeps.rfl
  delta State.tryUp
  refine ite_of (Q := Keeps 105728 0x800000084800013040000000000000000000000000000000018088800000 s) ?_ ?_
  · refine Keeps.app (State.linkUp_keeps _ _) rfl rfl ?_
    exact h_s
  · exact h_s

theorem State.linkDown_keeps (s : State) (l : Lnk) :
    Keeps 105728 0x80000008580001B040000000000000000000000000000000018088802000 s (State.linkDown s l) := by
  have h_s : Keeps 105728 0x80000008580001B040000000000000000000000000000000018088802000 s s := Keeps.rfl
  delta State.linkDown
  extract_lets -underBinder -useContext y0 y1 y2 y3 y6 y7
  have hy0 : Keeps 105728 0x80000008580001B040000000000000000000000000000000018088802000 s y0 := by
    refine Keeps.app (State.setUp_keeps _ _ _) rfl rfl ?_
    exact h_s
  have hy2 : Keeps 105728 0x80000008580001B040000000000000000000000000000000018088802000 s y2 := by
    refine Keeps.app (State.modNb_keeps _ _ _) rfl rfl ?_
    exact hy0
  have hy3 : Keeps 105728 0x80000008580001B040000000000000000000000000000000018088802000 s y3 := by
    subst y3
    split
    · refine Keeps.app (State.fault_keeps _ _ _) rfl rfl ?_
      refine Keeps.set (.of rfl (in_FAB_PORT_STATUS _ (by first | exact Fin.isLt _ | omega))) ?_
      refine Keeps.count (.of rfl (in_FAB_PORT_ERR _ (by first | exact Fin.isLt _ | omega))) ?_
      exact hy2
    · refine Keeps.count (.of rfl (in_MTL_NB_CNT _ (by first | exact Fin.isLt _ | omega))) ?_
      exact hy2
  have hy6 : Keeps 105728 0x80000008580001B040000000000000000000000000000000018088802000 s y6 := by
    refine ite_of (Q := Keeps 105728 0x80000008580001B040000000000000000000000000000000018088802000 s) ?_ ?_
    · refine Keeps.set (.of rfl (in_linkCostF _)) ?_
      refine Keeps.set (.of rfl (in_linkSupprF _)) ?_
      exact hy3
    · exact hy3
  have hy7 : Keeps 105728 0x80000008580001B040000000000000000000000000000000018088802000 s y7 := by
    refine Keeps.app (State.toneDrop_keeps _ _) rfl rfl ?_
    exact hy6
  refine ite_of (Q := Keeps 105728 0x80000008580001B040000000000000000000000000000000018088802000 s) ?_ ?_
  · exact h_s
  · refine Keeps.app (State.advertise_keeps _) rfl rfl ?_
    refine Keeps.app (State.raise_keeps _ _) rfl rfl ?_
    exact hy7

theorem State.replayDiscard_keeps (s : State) (l : Lnk) :
    Keeps 105728 0x800000086800011040000000000000000000000000000000018088800000 s (State.replayDiscard s l) := by
  have h_s : Keeps 105728 0x800000086800011040000000000000000000000000000000018088800000 s s := Keeps.rfl
  delta State.replayDiscard
  extract_lets -underBinder -useContext y0 y3 y4 y5
  have hy0 : Keeps 105728 0x800000086800011040000000000000000000000000000000018088800000 s y0 := by
    subst y0
    split
    · refine Keeps.count (.of rfl (in_FAB_PORT_AUTH _ (by first | exact Fin.isLt _ | omega))) ?_
      exact h_s
    · exact h_s
  have hy3 : Keeps 105728 0x800000086800011040000000000000000000000000000000018088800000 s y3 := by
    refine Keeps.app (State.raise_keeps _ _) rfl rfl ?_
    exact hy0
  have hy5 : Keeps 105728 0x800000086800011040000000000000000000000000000000018088800000 s y5 := by
    refine Keeps.app (State.modNb_keeps _ _ _) rfl rfl ?_
    exact hy3
  refine ite_of (Q := Keeps 105728 0x800000086800011040000000000000000000000000000000018088800000 s) ?_ ?_
  · refine Keeps.app (State.quarantine_keeps _ _) rfl rfl ?_
    exact hy5
  · exact hy5

theorem State.noKey_keeps (s : State) :
    Keeps 98560 0x800000000000000000000000000000000000000000000000018088800000 s (State.noKey s) := by
  have h_s : Keeps 98560 0x800000000000000000000000000000000000000000000000018088800000 s s := Keeps.rfl
  delta State.noKey
  refine Keeps.app (State.raise_keeps _ _) rfl rfl ?_
  exact h_s

theorem State.admit_keeps (s : State) (l : Lnk) (port : Fin 5) (f : List Byte) :
    KeepsE 105728 0x800000087800011040000000000000000000000000000000018088800000 s (State.admitFrame s l port f) := by
  have h_s : Keeps 105728 0x800000087800011040000000000000000000000000000000018088800000 s s := Keeps.rfl
  delta State.admitFrame
  extract_lets -underBinder -useContext y0 y1 y2 y3
  refine ite_of (Q := KeepsE 105728 0x800000087800011040000000000000000000000000000000018088800000 s) ?_ ?_
  · refine KeepsE.mk ?_
    refine Keeps.app (State.badFabric_keeps _ _) rfl rfl ?_
    exact h_s
  · refine ite_of (Q := KeepsE 105728 0x800000087800011040000000000000000000000000000000018088800000 s) ?_ ?_
    · refine KeepsE.mk ?_
      exact h_s
    · split
      · refine KeepsE.mk ?_
        refine Keeps.app (State.noKey_keeps _) rfl rfl ?_
        exact h_s
      · rename_i _ y5 hx
        have hy5 : Keeps 105728 0x800000087800011040000000000000000000000000000000018088800000 s y5 := KeepsN.of_eq (by
            refine KeepsN.app (State.linkKey_keeps _ _ _) rfl rfl ?_
            exact h_s) hx
        refine ite_of (Q := KeepsE 105728 0x800000087800011040000000000000000000000000000000018088800000 s) ?_ ?_
        · refine KeepsE.mk ?_
          refine Keeps.app (State.authFail_keeps _ _) rfl rfl ?_
          exact hy5
        · split
          · refine KeepsE.mk ?_
            refine Keeps.app (State.replayDiscard_keeps _ _) rfl rfl ?_
            exact hy5
          · extract_lets -underBinder -useContext y7 y8 y9
            have hy8 : Keeps 105728 0x800000087800011040000000000000000000000000000000018088800000 s y8 := by
              refine Keeps.app (State.modNb_keeps _ _ _) rfl rfl ?_
              exact hy5
            refine KeepsE.mk ?_
            exact hy8

theorem State.rxFrame_keeps (s : State) (port : Fin 5) (frame : List Byte) (types : List ℕ) :
    KeepsE 105728 0x800000087800011040000000000000000000000000000000018088800000 s (State.rxFrame s port frame types) := by
  have h_s : Keeps 105728 0x800000087800011040000000000000000000000000000000018088800000 s s := Keeps.rfl
  delta State.rxFrame
  extract_lets -underBinder -useContext y0
  refine ite_of (Q := KeepsE 105728 0x800000087800011040000000000000000000000000000000018088800000 s) ?_ ?_
  · refine KeepsE.mk ?_
    exact h_s
  · split
    · refine KeepsE.mk ?_
      refine Keeps.app (State.badFabric_keeps _ _) rfl rfl ?_
      exact h_s
    · refine ite_of (Q := KeepsE 105728 0x800000087800011040000000000000000000000000000000018088800000 s) ?_ ?_
      · refine KeepsE.mk ?_
        refine Keeps.app (State.badFabric_keeps _ _) rfl rfl ?_
        exact h_s
      · split
        · refine KeepsE.mk ?_
          exact h_s
        · refine KeepsE.app (State.admit_keeps _ _ _ _) rfl rfl ?_
          exact h_s

end Sys2Proof.Machine
end

