-- ==== Sys2Proof/Laws/KeepsQueues.lean ====
section
/-! SUPPORT. What the operations of Machine/Queues.lean can change, one lemma each (Laws/Keeps.lean says how it is read). -/

namespace Sys2Proof.Machine

theorem State.setQue_keeps (s : State) (i : Fin 35) (q : QueS) :
    Keeps 512 0xC000000000000000000000000000000000000000000000000000000000 s (State.setQue s i q) := by
  have h_s : Keeps 512 0xC000000000000000000000000000000000000000000000000000000000 s s := Keeps.rfl
  delta State.setQue
  extract_lets -underBinder -useContext y0 y1 y2 y3
  have hy0 : Keeps 512 0xC000000000000000000000000000000000000000000000000000000000 s y0 := by
    exact Keeps.ques_ rfl h_s
  have hy1 : Keeps 512 0xC000000000000000000000000000000000000000000000000000000000 s y1 := by
    refine Keeps.setSat (.of rfl (in_QUE_FILL _ (by first | exact Fin.isLt _ | omega))) ?_
    exact hy0
  have hy2 : Keeps 512 0xC000000000000000000000000000000000000000000000000000000000 s y2 := by
    refine Keeps.setSat (.of rfl (in_QUE_FILL _ (by first | exact Fin.isLt _ | omega))) ?_
    exact hy1
  have hy3 : Keeps 512 0xC000000000000000000000000000000000000000000000000000000000 s y3 := by
    refine Keeps.set (.of rfl (in_QUE_STAT _ (by first | exact Fin.isLt _ | omega))) ?_
    exact hy2
  refine Keeps.set (.of rfl (in_QUE_STAT _ (by first | exact Fin.isLt _ | omega))) ?_
  exact hy3

theorem State.stagingLoss_keeps (s : State) (i : Fin 35) (n : ℕ) :
    Keeps 98560 0x800000000000000000000000000000000000000000000000018088800000 s (State.stagingLoss s i n) := by
  have h_s : Keeps 98560 0x800000000000000000000000000000000000000000000000018088800000 s s := Keeps.rfl
  delta State.stagingLoss
  extract_lets -underBinder -useContext y0
  have hy0 : ∀ (y1 : RingQ), Keeps 98560 0x800000000000000000000000000000000000000000000000018088800000 s (y0 y1) := by
    intro y1
    subst y0
    refine ite_of (Q := Keeps 98560 0x800000000000000000000000000000000000000000000000018088800000 s) ?_ ?_
    · refine Keeps.app (State.gapEntry_keeps _ _) rfl rfl ?_
      refine Keeps.app (State.ringDrop_keeps _ _ _) rfl rfl ?_
      exact h_s
    · exact h_s
  refine ite_of (Q := Keeps 98560 0x800000000000000000000000000000000000000000000000018088800000 s) ?_ ?_
  · refine hy0 _
  · refine ite_of (Q := Keeps 98560 0x800000000000000000000000000000000000000000000000018088800000 s) ?_ ?_
    · refine hy0 _
    · exact h_s

theorem State.queMismatch_keeps (s : State) (i : Fin 35) (writing : ℕ) :
    Keeps 99072 0x80D000000000000000000000000000000000000000000000018088802000 s (State.queMismatch s i writing) := by
  have h_s : Keeps 99072 0x80D000000000000000000000000000000000000000000000018088802000 s s := Keeps.rfl
  delta State.queMismatch
  extract_lets -underBinder -useContext y0 y1 y2 y3 y4 y5 y6 y7 y8
  have hy5 : Keeps 99072 0x80D000000000000000000000000000000000000000000000018088802000 s y5 := by
    refine Keeps.app (State.setQue_keeps _ _ _) rfl rfl ?_
    exact h_s
  have hy6 : Keeps 99072 0x80D000000000000000000000000000000000000000000000018088802000 s y6 := by
    refine Keeps.count (.of rfl in_QUE_STATUS) ?_
    refine Keeps.count (.of rfl (in_QUE_STAT _ (by first | exact Fin.isLt _ | omega))) ?_
    exact hy5
  have hy7 : Keeps 99072 0x80D000000000000000000000000000000000000000000000018088802000 s y7 := by
    refine Keeps.set (.of rfl in_QUE_STATUS) ?_
    exact hy6
  have hy8 : Keeps 99072 0x80D000000000000000000000000000000000000000000000018088802000 s y8 := by
    refine Keeps.app (State.raise_keeps _ _) rfl rfl ?_
    exact hy7
  refine Keeps.app (State.stagingLoss_keeps _ _ _) rfl rfl ?_
  refine Keeps.app (State.fault_keeps _ _ _) rfl rfl ?_
  exact hy8

theorem State.queOffer_keeps (s : State) (i : Fin 35) (unit_ : Byte) (type_ : Byte) (body : List Dword) (mismatch : Bool) :
    Keeps 99072 0x81D000000000000000000000000000000000000000000000018088802000 s (State.queOffer s i unit_ type_ body mismatch) := by
  have h_s : Keeps 99072 0x81D000000000000000000000000000000000000000000000018088802000 s s := Keeps.rfl
  delta State.queOffer
  extract_lets -underBinder -useContext y0 y1 y2 y3 y4 y5 y6
  have hy5 : Keeps 99072 0x81D000000000000000000000000000000000000000000000018088802000 s y5 := by
    refine Keeps.app (State.setQue_keeps _ _ _) rfl rfl ?_
    exact h_s
  have hy6 : Keeps 99072 0x81D000000000000000000000000000000000000000000000018088802000 s y6 := by
    refine Keeps.count (.of rfl (in_QUE_DROP _ (by first | exact Fin.isLt _ | omega))) ?_
    exact hy5
  refine ite_of (Q := Keeps 99072 0x81D000000000000000000000000000000000000000000000018088802000 s) ?_ ?_
  · exact h_s
  · refine ite_of (Q := Keeps 99072 0x81D000000000000000000000000000000000000000000000018088802000 s) ?_ ?_
    · refine Keeps.app (State.queMismatch_keeps _ _ _) rfl rfl ?_
      exact h_s
    · refine ite_of (Q := Keeps 99072 0x81D000000000000000000000000000000000000000000000018088802000 s) ?_ ?_
      · refine Keeps.app (State.setQue_keeps _ _ _) rfl rfl ?_
        exact h_s
      · refine Keeps.app (State.stagingLoss_keeps _ _ _) rfl rfl ?_
        refine Keeps.app (State.raise_keeps _ _) rfl rfl ?_
        exact hy6

theorem execQueueOffer_keeps (i : Fin 35) (unit_ : Byte) (type_ : Byte) (body : List Dword) (mismatch : Bool) (s : State) :
    KeepsO 99072 0x81D000000000000000000000000000000000000000000000018088802000 s (execQueueOffer i unit_ type_ body mismatch s) := by
  have h_s : Keeps 99072 0x81D000000000000000000000000000000000000000000000018088802000 s s := Keeps.rfl
  delta execQueueOffer
  refine KeepsO.next ?_
  refine Keeps.app (State.queOffer_keeps _ _ _ _ _ _) rfl rfl ?_
  exact h_s

theorem State.queFenced_keeps (s : State) (i : Isl) (on : Bool) :
    Keeps 0 0x8000000000000000000000000000000000000000000000000000000000 s (State.queFenced s i on) := by
  have h_s : Keeps 0 0x8000000000000000000000000000000000000000000000000000000000 s s := Keeps.rfl
  delta State.queFenced
  refine foldl_of (Q := Keeps 0 0x8000000000000000000000000000000000000000000000000000000000 s) ?_ (fun y0 y1 my1 hy0 => ?_)
  · exact h_s
  · refine Keeps.set (.of rfl (in_QUE_STAT _ (by first | exact Fin.isLt _ | omega))) ?_
    exact hy0

theorem State.readQueStat_keeps (s : State) (i : Fin 35) :
    Keeps 0 0x8000000000000000000000000000000000000000000000000000000000 s (State.readQueStat s i) := by
  have h_s : Keeps 0 0x8000000000000000000000000000000000000000000000000000000000 s s := Keeps.rfl
  delta State.readQueStat
  refine Keeps.set (.of rfl (in_QUE_STAT _ (by first | exact Fin.isLt _ | omega))) ?_
  exact h_s

theorem execQueStatRead_keeps (i : Fin 35) (s : State) :
    KeepsO 98560 0x808000000000000000000000000000000000000000000000018088800000 s (execQueStatRead i s) := by
  have h_s : Keeps 98560 0x808000000000000000000000000000000000000000000000018088800000 s s := Keeps.rfl
  delta execQueStatRead
  refine KeepsO.next ?_
  refine State.readRow_keeps (P := 98560) (B := 0x808000000000000000000000000000000000000000000000018088800000) rfl rfl ?_ (fun y0 hy0 => ?_)
  · exact h_s
  · refine Keeps.app (State.readQueStat_keeps _ _) rfl rfl ?_
    exact hy0

theorem State.queRelease_keeps (s : State) (i : Fin 35) (mismatch : Bool) :
    Keeps 99072 0x80D000000000000000000000000000000000000000000000018088802000 s (State.queRelease s i mismatch) := by
  have h_s : Keeps 99072 0x80D000000000000000000000000000000000000000000000018088802000 s s := Keeps.rfl
  delta State.queRelease
  extract_lets -underBinder -useContext y0
  refine ite_of (Q := Keeps 99072 0x80D000000000000000000000000000000000000000000000018088802000 s) ?_ ?_
  · exact h_s
  · refine ite_of (Q := Keeps 99072 0x80D000000000000000000000000000000000000000000000018088802000 s) ?_ ?_
    · refine Keeps.app (State.queMismatch_keeps _ _ _) rfl rfl ?_
      exact h_s
    · refine Keeps.app (State.setQue_keeps _ _ _) rfl rfl ?_
      exact h_s

theorem execQueueRelease_keeps (i : Fin 35) (mismatch : Bool) (s : State) :
    KeepsO 99072 0x80D000000000000000000000000000000000000000000000018088802000 s (execQueueRelease i mismatch s) := by
  have h_s : Keeps 99072 0x80D000000000000000000000000000000000000000000000018088802000 s s := Keeps.rfl
  delta execQueueRelease
  refine KeepsO.next ?_
  refine Keeps.app (State.queRelease_keeps _ _ _) rfl rfl ?_
  exact h_s

theorem State.queOwnerReset_keeps (s : State) (i : Isl) :
    Keeps 512 0xC000000000000000000000000000000000000000000000000000000000 s (State.queOwnerReset s i) := by
  have h_s : Keeps 512 0xC000000000000000000000000000000000000000000000000000000000 s s := Keeps.rfl
  delta State.queOwnerReset
  refine foldl_of (Q := Keeps 512 0xC000000000000000000000000000000000000000000000000000000000 s) ?_ (fun y0 y1 my1 hy0 => ?_)
  · exact h_s
  · extract_lets -underBinder -useContext y2 y3 y4
    refine Keeps.count (.of rfl (in_QUE_STAT _ (by first | exact Fin.isLt _ | omega))) ?_
    refine Keeps.app (State.setQue_keeps _ _ _) rfl rfl ?_
    exact hy0

end Sys2Proof.Machine
end

