-- ==== Sys2Proof/Laws/KeepsFabric.lean ====
section
/-! SUPPORT. What the operations of Machine/Fabric.lean can change, one lemma each (Laws/Keeps.lean says how it is read). -/

namespace Sys2Proof.Machine

theorem State.cm_keeps {P B : Nat} {s0 : State} {s : State} {body : State → State} (_hp : P &&& 0 = 0) (_hb : B &&& 0x0 = 0x0)
    (h_s : Keeps P B s0 s) (h_body : ∀ x, Keeps P B s0 x → Keeps P B s0 (body x)) :
    Keeps P B s0 (State.cm s body) := by
  delta State.cm
  refine ite_of (Q := Keeps P B s0) ?_ ?_
  · refine h_body _ ?_
    exact h_s
  · exact h_s

theorem State.setDb_keeps (s : State) (l : List Advert) :
    Keeps 1024 0x40000000000000000000000000000000000000000000000000 s (State.setDb s l) := by
  have h_s : Keeps 1024 0x40000000000000000000000000000000000000000000000000 s s := Keeps.rfl
  delta State.setDb
  extract_lets -underBinder -useContext y0
  refine Keeps.set (.of rfl in_FAB_NODES) ?_
  exact Keeps.fab_ rfl h_s

theorem execAdvertAgeOut_keeps (ident : BitVec 48) (s : State) :
    KeepsO 1024 0x40000000000000000000000000000000000000000000000000 s (execAdvertAgeOut ident s) := by
  have h_s : Keeps 1024 0x40000000000000000000000000000000000000000000000000 s s := Keeps.rfl
  delta execAdvertAgeOut
  refine KeepsO.next ?_
  refine State.cm_keeps (P := 1024) (B := 0x40000000000000000000000000000000000000000000000000) rfl rfl ?_ (fun y0 hy0 => ?_)
  · exact h_s
  · refine Keeps.app (State.setDb_keeps _ _) rfl rfl ?_
    exact hy0

theorem State.helloRx_keeps (s : State) (k : Fin 4) (frame : List Byte) :
    Keeps 105728 0x800000087800013040000000000000000000000000000000018088800000 s (State.helloRx s k frame) := by
  have h_s : Keeps 105728 0x800000087800013040000000000000000000000000000000018088800000 s s := Keeps.rfl
  delta State.helloRx
  extract_lets -underBinder -useContext y0 y1 y2 y3 y4
  have hy4 : Keeps 105728 0x800000087800013040000000000000000000000000000000018088800000 s y4 := by
    refine Keeps.app (State.modNb_keeps _ _ _) rfl rfl ?_
    refine Keeps.set (.of rfl (in_linkAddr _)) ?_
    exact h_s
  split
  · rename_i y5 hx
    have hy5 : Keeps 105728 0x800000087800013040000000000000000000000000000000018088800000 s y5 := KeepsE.of_eq (by
        refine KeepsE.app (State.rxFrame_keeps _ _ _ _) rfl rfl ?_
        exact hy4) hx
    refine Keeps.app (State.modNb_keeps _ _ _) rfl rfl ?_
    refine Keeps.set (.of rfl (in_linkAddr _)) ?_
    exact hy5
  · rename_i _ y7 hx
    have hy7 : Keeps 105728 0x800000087800013040000000000000000000000000000000018088800000 s y7 := KeepsE.of_eq (by
        refine KeepsE.app (State.rxFrame_keeps _ _ _ _) rfl rfl ?_
        exact hy4) hx
    extract_lets -underBinder -useContext y8 y9 y10
    have hy9 : Keeps 105728 0x800000087800013040000000000000000000000000000000018088800000 s y9 := by
      refine Keeps.app (State.modNb_keeps _ _ _) rfl rfl ?_
      exact hy7
    have hy10 : Keeps 105728 0x800000087800013040000000000000000000000000000000018088800000 s y10 := by
      refine ite_of (Q := Keeps 105728 0x800000087800013040000000000000000000000000000000018088800000 s) ?_ ?_
      · refine Keeps.app (State.advertise_keeps _) rfl rfl ?_
        exact hy9
      · exact hy9
    refine Keeps.app (State.tryUp_keeps _ _) rfl rfl ?_
    exact hy10

theorem execHelloReceive_keeps (k : Fin 4) (frame : List Byte) (s : State) :
    KeepsO 105728 0x800000087800013040000000000000000000000000000000018088800000 s (execHelloReceive k frame s) := by
  have h_s : Keeps 105728 0x800000087800013040000000000000000000000000000000018088800000 s s := Keeps.rfl
  delta execHelloReceive
  refine KeepsO.next ?_
  refine State.cm_keeps (P := 105728) (B := 0x800000087800013040000000000000000000000000000000018088800000) rfl rfl ?_ (fun y0 hy0 => ?_)
  · exact h_s
  · refine Keeps.app (State.helloRx_keeps _ _ _) rfl rfl ?_
    exact hy0

theorem State.commandKey_keeps (s : State) : KeepsN 102656 0x800000084000000000000000000000000000000000000000018088800000 s s.commandKey := by
  intro a t e
  unfold State.commandKey at e
  rw [Option.map_eq_some_iff] at e
  obtain ⟨k, -, e⟩ := e
  injection e with e1 e2
  exact e2 ▸ State.countUse_keeps s k.no


theorem State.sendRoute_keeps (s : State) (r : Route) (type_ : ℕ) (flags : ℕ) (payload : List Byte) :
    Keeps 105728 0x800000085000000000000000000000000000000000000000018088800000 s (State.sendRoute s r type_ flags payload) := by
  have h_s : Keeps 105728 0x800000085000000000000000000000000000000000000000018088800000 s s := Keeps.rfl
  delta State.sendRoute
  split
  · exact h_s
  · split
    · refine Keeps.app (State.sendFrame_keeps _ _ _ _ _ _ _ _) rfl rfl ?_
      exact h_s
    · refine Keeps.app (State.badFabric_keeps _ _) rfl rfl ?_
      exact h_s

theorem State.fabricReply_keeps (s : State) (node : Half) (r : Result) (c : Dword) :
    Keeps 105728 0x800000085000000000000000000000000000000000000000018088800000 s (State.fabricReply s node r c) := by
  have h_s : Keeps 105728 0x800000085000000000000000000000000000000000000000018088800000 s s := Keeps.rfl
  delta State.fabricReply
  extract_lets -underBinder -useContext y0
  split
  · rename_i _ y2 _ hx _
    have hy2 : Keeps 105728 0x800000085000000000000000000000000000000000000000018088800000 s y2 := KeepsN.of_eq (by
        refine KeepsN.app (State.commandKey_keeps _) rfl rfl ?_
        exact h_s) hx
    refine Keeps.app (State.sendRoute_keeps _ _ _ _ _) rfl rfl ?_
    exact hy2
  · exact h_s

theorem State.fabricRefuse_keeps (s : State) (d : Desc) (node : Half) (c : Dword) (status : ℕ) (detail : ℕ) :
    Keeps 105728 0x800000085000000000000000000000000000000000000000018088800000 s (State.fabricRefuse s d node c status detail) := by
  have h_s : Keeps 105728 0x800000085000000000000000000000000000000000000000018088800000 s s := Keeps.rfl
  delta State.fabricRefuse
  refine Keeps.app (State.raise_keeps _ _) rfl rfl ?_
  refine Keeps.app (State.fabricReply_keeps _ _ _ _) rfl rfl ?_
  exact h_s

theorem execRouteLookup_keeps (d : Desc) (s : State) :
    KeepsO 256 0 s (execRouteLookup d s) := by
  have h_s : Keeps 256 0 s s := Keeps.rfl
  delta execRouteLookup
  refine KeepsO.next ?_
  refine State.command_keeps (P := 256) (B := 0) rfl rfl ?_ (fun y0 hy0 => ?_)
  · exact h_s
  · extract_lets -underBinder -useContext y1
    refine Keeps.app (State.ok_keeps _ _ _) rfl rfl ?_
    exact hy0

theorem State.sendReport_keeps (s : State) (r : Report) (coll : Half) :
    Keeps 105728 0x800000085000010000000000000000000000000000000000018088800000 s (State.sendReport s r coll) := by
  have h_s : Keeps 105728 0x800000085000010000000000000000000000000000000000018088800000 s s := Keeps.rfl
  delta State.sendReport
  split
  · refine Keeps.app (State.badFabric_keeps _ _) rfl rfl ?_
    exact h_s
  · extract_lets -underBinder -useContext y1
    have hy1 : Keeps 105728 0x800000085000010000000000000000000000000000000000018088800000 s y1 := by
      refine Keeps.app (State.sendRoute_keeps _ _ _ _ _) rfl rfl ?_
      exact h_s
    split
    · refine Keeps.app (State.sendRoute_keeps _ _ _ _ _) rfl rfl ?_
      exact hy1
    · refine Keeps.app (State.raise_keeps _ _) rfl rfl ?_
      refine Keeps.set (.of rfl in_FAB_STATUS) ?_
      exact hy1

theorem execReportSend_keeps (s : State) :
    KeepsO 105728 0x800000085000010000000000000000000000000000000000018088800000 s (execReportSend s) := by
  have h_s : Keeps 105728 0x800000085000010000000000000000000000000000000000018088800000 s s := Keeps.rfl
  delta execReportSend
  refine KeepsO.next ?_
  refine State.cm_keeps (P := 105728) (B := 0x800000085000010000000000000000000000000000000000018088800000) rfl rfl ?_ (fun y0 hy0 => ?_)
  · exact h_s
  · split
    · exact hy0
    · extract_lets -underBinder -useContext y2 y3
      have hy3 : Keeps 105728 0x800000085000010000000000000000000000000000000000018088800000 s y3 := by
        exact Keeps.fab_ rfl hy0
      refine ite_of (Q := Keeps 105728 0x800000085000010000000000000000000000000000000000018088800000 s) ?_ ?_
      · exact hy0
      · refine foldl_of (Q := Keeps 105728 0x800000085000010000000000000000000000000000000000018088800000 s) ?_ (fun y4 y5 my5 hy4 => ?_)
        · exact hy3
        · refine Keeps.app (State.sendReport_keeps _ _ _) rfl rfl ?_
          exact hy4

theorem execHelloSend_keeps (k : Fin 4) (s : State) :
    KeepsO 105728 0x800000084000000000000000000000000000000000000000018088800000 s (execHelloSend k s) := by
  have h_s : Keeps 105728 0x800000084000000000000000000000000000000000000000018088800000 s s := Keeps.rfl
  delta execHelloSend
  refine KeepsO.next ?_
  refine State.cm_keeps (P := 105728) (B := 0x800000084000000000000000000000000000000000000000018088800000) rfl rfl ?_ (fun y0 hy0 => ?_)
  · exact h_s
  · refine ite_of (Q := Keeps 105728 0x800000084000000000000000000000000000000000000000018088800000 s) ?_ ?_
    · exact hy0
    · refine Keeps.app (State.sendFrame_keeps _ _ _ _ _ _ _ _) rfl rfl ?_
      exact hy0

theorem execAdvanceKeyEpoch_keeps (d : Desc) (s : State) :
    KeepsO 4352 0x8000000000000000000000000000000000000000000000000 s (execAdvanceKeyEpoch d s) := by
  have h_s : Keeps 4352 0x8000000000000000000000000000000000000000000000000 s s := Keeps.rfl
  delta execAdvanceKeyEpoch
  refine KeepsO.next ?_
  refine State.command_keeps (P := 4352) (B := 0x8000000000000000000000000000000000000000000000000) rfl rfl ?_ (fun y0 hy0 => ?_)
  · exact h_s
  · extract_lets -underBinder -useContext y1 y2 y3 y4
    have hy2 : Keeps 4352 0x8000000000000000000000000000000000000000000000000 s y2 := by
      refine Keeps.set (.of rfl in_FAB_KEY_EPOCH) ?_
      exact hy0
    have hy4 : Keeps 4352 0x8000000000000000000000000000000000000000000000000 s y4 := by
      exact Keeps.key_ rfl hy2
    refine Keeps.app (State.ok_keeps _ _ _) rfl rfl ?_
    exact hy4

theorem execAdvertRepeat_keeps (s : State) :
    KeepsO 105728 0x800000084000000000000000000000000000000000000000018088800000 s (execAdvertRepeat s) := by
  have h_s : Keeps 105728 0x800000084000000000000000000000000000000000000000018088800000 s s := Keeps.rfl
  delta execAdvertRepeat
  refine KeepsO.next ?_
  refine State.cm_keeps (P := 105728) (B := 0x800000084000000000000000000000000000000000000000018088800000) rfl rfl ?_ (fun y0 hy0 => ?_)
  · exact h_s
  · extract_lets -underBinder -useContext y1 y2 y3
    have hy2 : Keeps 105728 0x800000084000000000000000000000000000000000000000018088800000 s y2 := by
      exact Keeps.fab_ rfl hy0
    refine ite_of (Q := Keeps 105728 0x800000084000000000000000000000000000000000000000018088800000 s) ?_ ?_
    · exact hy0
    · refine foldl_of (Q := Keeps 105728 0x800000084000000000000000000000000000000000000000018088800000 s) ?_ (fun y4 y5 my5 hy4 => ?_)
      · exact hy2
      · refine Keeps.app (State.sendFrame_keeps _ _ _ _ _ _ _ _) rfl rfl ?_
        exact hy4

theorem execAddressClaimFinal_keeps (s : State) :
    KeepsO 105728 0x800000084000010000000000000000000000000000000000018088800000 s (execAddressClaimFinal s) := by
  have h_s : Keeps 105728 0x800000084000010000000000000000000000000000000000018088800000 s s := Keeps.rfl
  delta execAddressClaimFinal
  refine KeepsO.next ?_
  refine State.cm_keeps (P := 105728) (B := 0x800000084000010000000000000000000000000000000000018088800000) rfl rfl ?_ (fun y0 hy0 => ?_)
  · exact h_s
  · extract_lets -underBinder -useContext y1 y2 y3 y4
    have hy1 : Keeps 105728 0x800000084000010000000000000000000000000000000000018088800000 s y1 := by
      refine Keeps.set (.of rfl in_FAB_STATUS) ?_
      exact hy0
    have hy4 : Keeps 105728 0x800000084000010000000000000000000000000000000000018088800000 s y4 := by
      exact Keeps.fab_ rfl hy1
    refine ite_of (Q := Keeps 105728 0x800000084000010000000000000000000000000000000000018088800000 s) ?_ ?_
    · exact hy0
    · refine Keeps.app (State.advertise_keeps _) rfl rfl ?_
      refine Keeps.app (State.raise_keeps _ _) rfl rfl ?_
      exact hy4

theorem State.showSingle_keeps (s : State) :
    Keeps 0 0x10000000000000000000000000000000000000000000000 s (State.showSingle s) := by
  have h_s : Keeps 0 0x10000000000000000000000000000000000000000000000 s s := Keeps.rfl
  delta State.showSingle
  refine Keeps.set (.of rfl in_FAB_STATUS) ?_
  exact h_s

theorem State.newCost_keeps (s : State) (l : Lnk) (cost : ℕ) (interval : ℕ) :
    Keeps 105728 0x800000084800002000000000000000000000000000000000018088800000 s (State.newCost s l cost interval) := by
  have h_s : Keeps 105728 0x800000084800002000000000000000000000000000000000018088800000 s s := Keeps.rfl
  delta State.newCost
  extract_lets -underBinder -useContext y0 y1 y2 y3
  have hy3 : Keeps 105728 0x800000084800002000000000000000000000000000000000018088800000 s y3 := by
    refine Keeps.app (State.modNb_keeps _ _ _) rfl rfl ?_
    refine Keeps.set (.of rfl (in_linkCostF _)) ?_
    exact h_s
  refine ite_of (Q := Keeps 105728 0x800000084800002000000000000000000000000000000000018088800000 s) ?_ ?_
  · exact h_s
  · refine Keeps.app (State.advertise_keeps _) rfl rfl ?_
    exact hy3

theorem State.claim_keeps (s : State) (addr : ℕ) (k : ℕ) :
    Keeps 105728 0x800000084000010000000000000000000000000000000000018088800000 s (State.claim s addr k) := by
  have h_s : Keeps 105728 0x800000084000010000000000000000000000000000000000018088800000 s s := Keeps.rfl
  delta State.claim
  extract_lets -underBinder -useContext y0 y1
  have hy0 : Keeps 105728 0x800000084000010000000000000000000000000000000000018088800000 s y0 := by
    refine Keeps.set (.of rfl in_FAB_STATUS) ?_
    refine Keeps.set (.of rfl in_FAB_STATUS) ?_
    exact h_s
  refine Keeps.app (State.advertise_keeps _) rfl rfl ?_
  exact Keeps.fab_ rfl hy0

theorem State.yieldClaim_keeps (s : State) :
    Keeps 105728 0x800000084000010000000000000000000000000000000000018088800000 s (State.yieldClaim s) := by
  have h_s : Keeps 105728 0x800000084000010000000000000000000000000000000000018088800000 s s := Keeps.rfl
  delta State.yieldClaim
  extract_lets -underBinder -useContext y0
  refine Keeps.app (State.claim_keeps _ _ _) rfl rfl ?_
  refine Keeps.app (State.raise_keeps _ _) rfl rfl ?_
  exact h_s

theorem State.conflict_keeps (s : State) (a : Advert) :
    Keeps 105728 0x800000084000010000000000000000000000000000000000018088800000 s (State.conflict s a) := by
  have h_s : Keeps 105728 0x800000084000010000000000000000000000000000000000018088800000 s s := Keeps.rfl
  delta State.conflict
  extract_lets -underBinder -useContext y0 y1 y2
  refine ite_of (Q := Keeps 105728 0x800000084000010000000000000000000000000000000000018088800000 s) ?_ ?_
  · exact h_s
  · refine ite_of (Q := Keeps 105728 0x800000084000010000000000000000000000000000000000018088800000 s) ?_ ?_
    · refine Keeps.set (.of rfl in_FAB_STATUS) ?_
      refine Keeps.app (State.raise_keeps _ _) rfl rfl ?_
      exact h_s
    · refine ite_of (Q := Keeps 105728 0x800000084000010000000000000000000000000000000000018088800000 s) ?_ ?_
      · exact h_s
      · refine ite_of (Q := Keeps 105728 0x800000084000010000000000000000000000000000000000018088800000 s) ?_ ?_
        · refine Keeps.app (State.yieldClaim_keeps _) rfl rfl ?_
          exact h_s
        · refine ite_of (Q := Keeps 105728 0x800000084000010000000000000000000000000000000000018088800000 s) ?_ ?_
          · exact h_s
          · refine ite_of (Q := Keeps 105728 0x800000084000010000000000000000000000000000000000018088800000 s) ?_ ?_
            · refine Keeps.app (State.yieldClaim_keeps _) rfl rfl ?_
              exact h_s
            · refine ite_of (Q := Keeps 105728 0x800000084000010000000000000000000000000000000000018088800000 s) ?_ ?_
              · refine Keeps.app (State.yieldClaim_keeps _) rfl rfl ?_
                exact h_s
              · exact h_s

theorem State.takeAdvert_keeps (s : State) (a : Advert) (from_ : Option Lnk) :
    Keeps 105728 0x800000084040010000000000000000000000000000000000018088800000 s (State.takeAdvert s a from_) := by
  have h_s : Keeps 105728 0x800000084040010000000000000000000000000000000000018088800000 s s := Keeps.rfl
  delta State.takeAdvert
  extract_lets -underBinder -useContext y0 y1
  refine ite_of (Q := Keeps 105728 0x800000084040010000000000000000000000000000000000018088800000 s) ?_ ?_
  · refine ite_of (Q := Keeps 105728 0x800000084040010000000000000000000000000000000000018088800000 s) ?_ ?_
    · refine Keeps.app (State.advertise_keeps _) rfl rfl ?_
      exact Keeps.fab_ rfl h_s
    · exact h_s
  · split
    · extract_lets -underBinder -useContext y3
      have hy3 : Keeps 105728 0x800000084040010000000000000000000000000000000000018088800000 s y3 := by
        refine Keeps.app (State.setDb_keeps _ _) rfl rfl ?_
        exact h_s
      refine ite_of (Q := Keeps 105728 0x800000084040010000000000000000000000000000000000018088800000 s) ?_ ?_
      · refine Keeps.app (State.conflict_keeps _ _) rfl rfl ?_
        refine Keeps.app (State.flood_keeps _ _ _ _ _) rfl rfl ?_
        exact hy3
      · exact h_s
    · refine ite_of (Q := Keeps 105728 0x800000084040010000000000000000000000000000000000018088800000 s) ?_ ?_
      · refine Keeps.app (State.raise_keeps _ _) rfl rfl ?_
        exact h_s
      · refine Keeps.app (State.conflict_keeps _ _) rfl rfl ?_
        refine Keeps.app (State.flood_keeps _ _ _ _ _) rfl rfl ?_
        refine Keeps.app (State.setDb_keeps _ _) rfl rfl ?_
        exact h_s

theorem State.advertRx_keeps (s : State) (port : Fin 5) (frame : List Byte) :
    Keeps 105728 0x800000087840011040000000000000000000000000000000018088800000 s (State.advertRx s port frame) := by
  have h_s : Keeps 105728 0x800000087840011040000000000000000000000000000000018088800000 s s := Keeps.rfl
  delta State.advertRx
  split
  · rename_i y0 hx
    have hy0 : Keeps 105728 0x800000087840011040000000000000000000000000000000018088800000 s y0 := KeepsE.of_eq (by
        refine KeepsE.app (State.rxFrame_keeps _ _ _ _) rfl rfl ?_
        exact h_s) hx
    exact hy0
  · rename_i _ y2 hx
    have hy2 : Keeps 105728 0x800000087840011040000000000000000000000000000000018088800000 s y2 := KeepsE.of_eq (by
        refine KeepsE.app (State.rxFrame_keeps _ _ _ _) rfl rfl ?_
        exact h_s) hx
    split
    · refine Keeps.app (State.badFabric_keeps _ _) rfl rfl ?_
      exact hy2
    · extract_lets -underBinder -useContext y4
      refine ite_of (Q := Keeps 105728 0x800000087840011040000000000000000000000000000000018088800000 s) ?_ ?_
      · refine Keeps.app (State.badFabric_keeps _ _) rfl rfl ?_
        exact hy2
      · refine Keeps.app (State.takeAdvert_keeps _ _ _) rfl rfl ?_
        refine Keeps.app (State.modNb_keeps _ _ _) rfl rfl ?_
        exact hy2

theorem State.takeTone_keeps (s : State) (port : Fin 5) (frame : List Byte) :
    Keeps 99072 0x80D000000000000000000000000000000000000000000000018088802000 s (State.takeTone s port frame) := by
  have h_s : Keeps 99072 0x80D000000000000000000000000000000000000000000000018088802000 s s := Keeps.rfl
  delta State.takeTone
  split
  · refine ite_of (Q := Keeps 99072 0x80D000000000000000000000000000000000000000000000018088802000 s) ?_ ?_
    · refine Keeps.app (State.queRelease_keeps _ _ _) rfl rfl ?_
      exact h_s
    · exact h_s
  · exact h_s

theorem execLinkStateAdvertReceive_keeps (port : Fin 5) (frame : List Byte) (s : State) :
    KeepsO 106240 0x80D000087840011040000000000000000000000000000000018088802000 s (execLinkStateAdvertReceive port frame s) := by
  have h_s : Keeps 106240 0x80D000087840011040000000000000000000000000000000018088802000 s s := Keeps.rfl
  delta execLinkStateAdvertReceive
  refine KeepsO.next ?_
  refine State.cm_keeps (P := 106240) (B := 0x80D000087840011040000000000000000000000000000000018088802000) rfl rfl ?_ (fun y0 hy0 => ?_)
  · exact h_s
  · refine Keeps.app (State.advertRx_keeps _ _ _) rfl rfl ?_
    refine Keeps.app (State.takeTone_keeps _ _ _) rfl rfl ?_
    exact hy0

theorem execLinkSuppressionEnd_keeps (port : Fin 5) (j : Fin 32) (s : State) :
    KeepsO 105728 0x800000084800003000000000000000000000000000000000018088800000 s (execLinkSuppressionEnd port j s) := by
  have h_s : Keeps 105728 0x800000084800003000000000000000000000000000000000018088800000 s s := Keeps.rfl
  delta execLinkSuppressionEnd
  refine KeepsO.next ?_
  refine State.cm_keeps (P := 105728) (B := 0x800000084800003000000000000000000000000000000000018088800000) rfl rfl ?_ (fun y0 hy0 => ?_)
  · exact h_s
  · extract_lets -underBinder -useContext y1 y2 y3
    have hy2 : Keeps 105728 0x800000084800003000000000000000000000000000000000018088800000 s y2 := by
      refine Keeps.set (.of rfl (in_linkSupprF _)) ?_
      exact hy0
    have hy3 : Keeps 105728 0x800000084800003000000000000000000000000000000000018088800000 s y3 := by
      refine Keeps.set (.of rfl (in_linkCostF _)) ?_
      exact hy2
    refine ite_of (Q := Keeps 105728 0x800000084800003000000000000000000000000000000000018088800000 s) ?_ ?_
    · exact hy0
    · refine ite_of (Q := Keeps 105728 0x800000084800003000000000000000000000000000000000018088800000 s) ?_ ?_
      · refine Keeps.app (State.advertise_keeps _) rfl rfl ?_
        exact hy3
      · exact hy3

theorem State.updateAdvSet_keeps (s : State) :
    Keeps 100608 0x800000000000000080000000000000000000000000000000018088800000 s (State.updateAdvSet s) := by
  have h_s : Keeps 100608 0x800000000000000080000000000000000000000000000000018088800000 s s := Keeps.rfl
  delta State.updateAdvSet
  extract_lets -underBinder -useContext y0 y1 y2 y3 y4 y5
  have hy4 : Keeps 100608 0x800000000000000080000000000000000000000000000000018088800000 s y4 := by
    exact Keeps.mtl_ rfl h_s
  have hy5 : Keeps 100608 0x800000000000000080000000000000000000000000000000018088800000 s y5 := by
    refine Keeps.set (.of rfl in_MTL_ADVSET) ?_
    exact hy4
  refine ite_of (Q := Keeps 100608 0x800000000000000080000000000000000000000000000000018088800000 s) ?_ ?_
  · exact hy5
  · refine Keeps.app (State.raise_keeps _ _) rfl rfl ?_
    refine Keeps.count (.of rfl in_MTL_ADVSET) ?_
    exact hy5

theorem State.collect_keeps (s : State) (port : ℕ) (relay : ℕ) (bytes : List Byte) :
    Keeps 99072 0x81D000000000000000000000000000000000000000000000018088802000 s (State.collect s port relay bytes) := by
  have h_s : Keeps 99072 0x81D000000000000000000000000000000000000000000000018088802000 s s := Keeps.rfl
  delta State.collect
  extract_lets -underBinder -useContext y0 y1
  refine Keeps.app (State.queOffer_keeps _ _ _ _ _ _) rfl rfl ?_
  exact h_s

theorem State.fabricCompletionRx_keeps (s : State) (p : List Byte) :
    Keeps 103680 0x800000084000000000000000000000000000000000000000018088800000 s (State.fabricCompletionRx s p) := by
  have h_s : Keeps 103680 0x800000084000000000000000000000000000000000000000018088800000 s s := Keeps.rfl
  delta State.fabricCompletionRx
  split
  · exact h_s
  · rename_i _ y1 hx
    have hy1 : Keeps 103680 0x800000084000000000000000000000000000000000000000018088800000 s y1 := KeepsN.of_eq (by
        refine KeepsN.app (State.commandKey_keeps _) rfl rfl ?_
        exact h_s) hx
    extract_lets -underBinder -useContext y2
    refine ite_of (Q := Keeps 103680 0x800000084000000000000000000000000000000000000000018088800000 s) ?_ ?_
    · exact hy1
    · split
      · exact hy1
      · extract_lets -underBinder -useContext y4 y5
        have hy5 : Keeps 103680 0x800000084000000000000000000000000000000000000000018088800000 s y5 := by
          exact Keeps.fab_ rfl hy1
        refine Keeps.app (State.ok_keeps _ _ _) rfl rfl ?_
        exact hy5

theorem State.setDups_keeps (s : State) (l : List DupEntry) :
    Keeps 1024 0x80000000000000000000000000000000000000000000000000 s (State.setDups s l) := by
  have h_s : Keeps 1024 0x80000000000000000000000000000000000000000000000000 s s := Keeps.rfl
  delta State.setDups
  extract_lets -underBinder -useContext y0
  refine Keeps.set (.of rfl in_FAB_DUP_STATUS) ?_
  exact Keeps.fab_ rfl h_s

theorem State.reportRx_keeps (s : State) (port : ℕ) (type_ : ℕ) (p : List Byte) :
    Keeps 100096 0x81D000000280000000000000000000000000000000000000018088802000 s (State.reportRx s port type_ p) := by
  have h_s : Keeps 100096 0x81D000000280000000000000000000000000000000000000018088802000 s s := Keeps.rfl
  delta State.reportRx
  extract_lets -underBinder -useContext y0 y1 y2 y3
  have hy3 : ∀ (y4 : State), Keeps 100096 0x81D000000280000000000000000000000000000000000000018088802000 s y4 → Keeps 100096 0x81D000000280000000000000000000000000000000000000018088802000 s (y3 y4) := by
    intro y4 hy4
    subst y3
    refine ite_of (Q := Keeps 100096 0x81D000000280000000000000000000000000000000000000018088802000 s) ?_ ?_
    · refine Keeps.app (State.collect_keeps _ _ _ _) rfl rfl ?_
      exact hy4
    · refine Keeps.app (State.collect_keeps _ _ _ _) rfl rfl ?_
      exact hy4
  refine ite_of (Q := Keeps 100096 0x81D000000280000000000000000000000000000000000000018088802000 s) ?_ ?_
  · exact h_s
  · split
    · extract_lets -underBinder -useContext y5
      refine ite_of (Q := Keeps 100096 0x81D000000280000000000000000000000000000000000000018088802000 s) ?_ ?_
      · refine hy3 _ ?_
        refine Keeps.app (State.setDups_keeps _ _) rfl rfl ?_
        exact h_s
      · split
        · refine hy3 _ ?_
          refine Keeps.app (State.setDups_keeps _ _) rfl rfl ?_
          exact h_s
        · refine Keeps.app (State.raise_keeps _ _) rfl rfl ?_
          refine Keeps.count (.of rfl in_FAB_DROPS) ?_
          exact h_s
    · extract_lets -underBinder -useContext y8 y11 y12
      have hy8 : ∀ (y9 : State) (y10 : DupEntry), Keeps 100096 0x81D000000280000000000000000000000000000000000000018088802000 s y9 → Keeps 100096 0x81D000000280000000000000000000000000000000000000018088802000 s (y8 y9 y10) := by
        intro y9 y10 hy9
        subst y8
        refine Keeps.app (State.setDups_keeps _ _) rfl rfl ?_
        exact hy9
      refine ite_of (Q := Keeps 100096 0x81D000000280000000000000000000000000000000000000018088802000 s) ?_ ?_
      · refine hy3 _ ?_
        refine hy8 _ _ ?_
        exact h_s
      · refine ite_of (Q := Keeps 100096 0x81D000000280000000000000000000000000000000000000018088802000 s) ?_ ?_
        · refine ite_of (Q := Keeps 100096 0x81D000000280000000000000000000000000000000000000018088802000 s) ?_ ?_
          · refine Keeps.count (.of rfl in_FAB_DUP_STATUS) ?_
            refine hy8 _ _ ?_
            exact h_s
          · refine hy3 _ ?_
            refine hy8 _ _ ?_
            exact h_s
        · refine Keeps.count (.of rfl in_FAB_DROPS) ?_
          refine hy8 _ _ ?_
          exact h_s

theorem execAdvertRefresh_keeps (s : State) :
    KeepsO 105728 0x800000084000000000000000000000000000000000000000018088800000 s (execAdvertRefresh s) := by
  have h_s : Keeps 105728 0x800000084000000000000000000000000000000000000000018088800000 s s := Keeps.rfl
  delta execAdvertRefresh
  refine KeepsO.next ?_
  refine State.cm_keeps (P := 105728) (B := 0x800000084000000000000000000000000000000000000000018088800000) rfl rfl ?_ (fun y0 hy0 => ?_)
  · exact h_s
  · extract_lets -underBinder -useContext y1 y2
    have hy2 : Keeps 105728 0x800000084000000000000000000000000000000000000000018088800000 s y2 := by
      exact Keeps.fab_ rfl hy0
    refine Keeps.app (State.flood_keeps _ _ _ _ _) rfl rfl ?_
    exact hy2

theorem State.startDraw_keeps (s : State) :
    Keeps 105728 0x800000084000010000000000000000000000000000000000018088800000 s (State.startDraw s) := by
  have h_s : Keeps 105728 0x800000084000010000000000000000000000000000000000018088800000 s s := Keeps.rfl
  delta State.startDraw
  refine ite_of (Q := Keeps 105728 0x800000084000010000000000000000000000000000000000018088800000 s) ?_ ?_
  · refine Keeps.app (State.claim_keeps _ _ _) rfl rfl ?_
    exact h_s
  · split
    · refine Keeps.app (State.claim_keeps _ _ _) rfl rfl ?_
      exact h_s
    · extract_lets -underBinder -useContext y2
      refine Keeps.app (State.claim_keeps _ _ _) rfl rfl ?_
      exact h_s

theorem State.fabricAccept_keeps (s : State) (d : Desc) (node : Half) (c : Dword) :
    Keeps 1280 0 s (State.fabricAccept s d node c) := by
  have h_s : Keeps 1280 0 s s := Keeps.rfl
  delta State.fabricAccept
  extract_lets -underBinder -useContext y0 y1 y2
  have hy2 : Keeps 1280 0 s y2 := by
    exact Keeps.parts h_s rfl rfl rfl (.inr rfl) (.inr rfl) (.inr rfl) (.inr rfl) (.inr rfl) BilS.Ext.rfl (.inr rfl) (.inr rfl) (.inr rfl) (.inl rfl) (.inr rfl) (.inl rfl) (.inr rfl) (.inr rfl) (.inr rfl) (.inr rfl) (.inr rfl) (.inr rfl)
  refine ite_of (Q := Keeps 1280 0 s) ?_ ?_
  · refine Keeps.app (State.complete_keeps _ _ _ _ _) rfl rfl ?_
    exact hy2
  · exact hy2

theorem State.fabricCommandRx_keeps (s : State) (p : List Byte) :
    Keeps 105728 0x800000085000000000000000000000000000000000000000018088800000 s (State.fabricCommandRx s p) := by
  have h_s : Keeps 105728 0x800000085000000000000000000000000000000000000000018088800000 s s := Keeps.rfl
  delta State.fabricCommandRx
  extract_lets -underBinder -useContext y0 y1 y2
  refine ite_of (Q := Keeps 105728 0x800000085000000000000000000000000000000000000000018088800000 s) ?_ ?_
  · exact h_s
  · split
    · refine Keeps.app (State.fabricRefuse_keeps _ _ _ _ _ _) rfl rfl ?_
      exact h_s
    · rename_i _ y4 hx
      have hy4 : Keeps 105728 0x800000085000000000000000000000000000000000000000018088800000 s y4 := KeepsN.of_eq (by
          refine KeepsN.app (State.commandKey_keeps _) rfl rfl ?_
          exact h_s) hx
      extract_lets -underBinder -useContext y5
      refine ite_of (Q := Keeps 105728 0x800000085000000000000000000000000000000000000000018088800000 s) ?_ ?_
      · refine Keeps.app (State.fabricRefuse_keeps _ _ _ _ _ _) rfl rfl ?_
        exact hy4
      · split
        · refine Keeps.app (State.fabricRefuse_keeps _ _ _ _ _ _) rfl rfl ?_
          exact hy4
        · refine Keeps.app (State.fabricAccept_keeps _ _ _ _) rfl rfl ?_
          exact hy4

theorem State.deliver_keeps (s : State) (port : ℕ) (type_ : ℕ) (p : List Byte) :
    Keeps 106240 0x81D000085280000000000000000000000000000000000000018088802000 s (State.deliver s port type_ p) := by
  have h_s : Keeps 106240 0x81D000085280000000000000000000000000000000000000018088802000 s s := Keeps.rfl
  delta State.deliver
  refine ite_of (Q := Keeps 106240 0x81D000085280000000000000000000000000000000000000018088802000 s) ?_ ?_
  · refine Keeps.app (State.fabricCommandRx_keeps _ _) rfl rfl ?_
    exact h_s
  · refine ite_of (Q := Keeps 106240 0x81D000085280000000000000000000000000000000000000018088802000 s) ?_ ?_
    · refine Keeps.app (State.fabricCompletionRx_keeps _ _) rfl rfl ?_
      exact h_s
    · refine Keeps.app (State.reportRx_keeps _ _ _ _) rfl rfl ?_
      exact h_s

theorem State.routedRx_keeps (s : State) (port : Fin 5) (frame : List Byte) :
    Keeps 106240 0x81D000087A80011040000000000000000000000000000000018088802000 s (State.routedRx s port frame) := by
  have h_s : Keeps 106240 0x81D000087A80011040000000000000000000000000000000018088802000 s s := Keeps.rfl
  delta State.routedRx
  split
  · rename_i y0 hx
    have hy0 : Keeps 106240 0x81D000087A80011040000000000000000000000000000000018088802000 s y0 := KeepsE.of_eq (by
        refine KeepsE.app (State.rxFrame_keeps _ _ _ _) rfl rfl ?_
        exact h_s) hx
    exact hy0
  · rename_i _ y2 hx
    have hy2 : Keeps 106240 0x81D000087A80011040000000000000000000000000000000018088802000 s y2 := KeepsE.of_eq (by
        refine KeepsE.app (State.rxFrame_keeps _ _ _ _) rfl rfl ?_
        exact h_s) hx
    extract_lets -underBinder -useContext y3
    refine ite_of (Q := Keeps 106240 0x81D000087A80011040000000000000000000000000000000018088802000 s) ?_ ?_
    · refine Keeps.app (State.badFabric_keeps _ _) rfl rfl ?_
      exact hy2
    · split
      · refine Keeps.app (State.deliver_keeps _ _ _ _) rfl rfl ?_
        exact hy2
      · split
        · refine Keeps.app (State.badFabric_keeps _ _) rfl rfl ?_
          exact hy2
        · refine Keeps.app (State.sendFrame_keeps _ _ _ _ _ _ _ _) rfl rfl ?_
          exact hy2

theorem State.recompute_keeps (s : State) :
    Keeps 101632 0x800000000040010080000000000000000000000000000000018088800000 s (State.recompute s) := by
  have h_s : Keeps 101632 0x800000000040010080000000000000000000000000000000018088800000 s s := Keeps.rfl
  delta State.recompute
  extract_lets -underBinder -useContext y0 y1 y2 y3 y4 y5 y6 y7
  have hy6 : Keeps 101632 0x800000000040010080000000000000000000000000000000018088800000 s y6 := by
    exact Keeps.fab_ rfl h_s
  have hy7 : Keeps 101632 0x800000000040010080000000000000000000000000000000018088800000 s y7 := by
    refine Keeps.set (.of rfl in_FAB_NODES) ?_
    exact hy6
  refine Keeps.app (State.updateAdvSet_keeps _) rfl rfl ?_
  refine Keeps.app (State.showSingle_keeps _) rfl rfl ?_
  exact hy7

theorem execReportSpreadDue_keeps (s : State) :
    KeepsO 66560 0x100000000000000000000000000000000000000000000000000 s (execReportSpreadDue s) := by
  have h_s : Keeps 66560 0x100000000000000000000000000000000000000000000000000 s s := Keeps.rfl
  delta execReportSpreadDue
  refine KeepsO.next ?_
  refine State.cm_keeps (P := 66560) (B := 0x100000000000000000000000000000000000000000000000000) rfl rfl ?_ (fun y0 hy0 => ?_)
  · exact h_s
  · extract_lets -underBinder -useContext y1 y2 y3
    have hy3 : Keeps 66560 0x100000000000000000000000000000000000000000000000000 s y3 := by
      exact Keeps.fab_ rfl hy0
    refine ite_of (Q := Keeps 66560 0x100000000000000000000000000000000000000000000000000 s) ?_ ?_
    · refine foldl_of (Q := Keeps 66560 0x100000000000000000000000000000000000000000000000000 s) ?_ (fun y4 y5 my5 hy4 => ?_)
      · exact hy3
      · refine Keeps.app (State.issueReport_keeps _ _ _) rfl rfl ?_
        exact hy4
    · exact hy3

theorem execMmd5206Frame_keeps (k : Fin 4) (frame : List Byte) (s : State) :
    KeepsO 66560 0x1100000000000000000000000000000000000000000000000000 s (execMmd5206Frame k frame s) := by
  have h_s : Keeps 66560 0x1100000000000000000000000000000000000000000000000000 s s := Keeps.rfl
  delta execMmd5206Frame
  refine KeepsO.next ?_
  refine State.cm_keeps (P := 66560) (B := 0x1100000000000000000000000000000000000000000000000000) rfl rfl ?_ (fun y0 hy0 => ?_)
  · exact h_s
  · extract_lets -underBinder -useContext y1 y2
    refine ite_of (Q := Keeps 66560 0x1100000000000000000000000000000000000000000000000000 s) ?_ ?_
    · exact hy0
    · split
      · refine Keeps.app (State.badFabric_keeps _ _) rfl rfl ?_
        exact hy0
      · extract_lets -underBinder -useContext y4 y5
        have hy5 : Keeps 66560 0x1100000000000000000000000000000000000000000000000000 s y5 := by
          exact Keeps.fab_ rfl hy0
        refine ite_of (Q := Keeps 66560 0x1100000000000000000000000000000000000000000000000000 s) ?_ ?_
        · refine Keeps.app (State.badFabric_keeps _ _) rfl rfl ?_
          exact hy0
        · refine ite_of (Q := Keeps 66560 0x1100000000000000000000000000000000000000000000000000 s) ?_ ?_
          · refine Keeps.app (State.issueReport_keeps _ _ _) rfl rfl ?_
            exact hy5
          · exact hy5

theorem execClearQuarantine_keeps (d : Desc) (s : State) :
    KeepsO 3328 0x800011000000000000000000000000000000000000000000000 s (execClearQuarantine d s) := by
  have h_s : Keeps 3328 0x800011000000000000000000000000000000000000000000000 s s := Keeps.rfl
  delta execClearQuarantine
  refine KeepsO.next ?_
  refine State.command_keeps (P := 3328) (B := 0x800011000000000000000000000000000000000000000000000) rfl rfl ?_ (fun y0 hy0 => ?_)
  · exact h_s
  · refine Keeps.app (State.ok_keeps _ _ _) rfl rfl ?_
    refine Keeps.app (State.endQuarantine_keeps _ _) rfl rfl ?_
    exact hy0

theorem execSendFabricCommand_keeps (d : Desc) (s : State) :
    KeepsO 105728 0x800000085000000000000000000000000000000000000000018088800000 s (execSendFabricCommand d s) := by
  have h_s : Keeps 105728 0x800000085000000000000000000000000000000000000000018088800000 s s := Keeps.rfl
  delta execSendFabricCommand
  refine KeepsO.next ?_
  refine State.command_keeps (P := 105728) (B := 0x800000085000000000000000000000000000000000000000018088800000) rfl rfl ?_ (fun y0 hy0 => ?_)
  · exact h_s
  · extract_lets -underBinder -useContext y1 y2 y3 y4 y5 y6
    have hy5 : Keeps 105728 0x800000085000000000000000000000000000000000000000018088800000 s y5 := by
      exact Keeps.fab_ rfl hy0
    split
    · rename_i _ y8 _ hx _
      have hy8 : Keeps 105728 0x800000085000000000000000000000000000000000000000018088800000 s y8 := KeepsN.of_eq (by
          refine KeepsN.app (State.commandKey_keeps _) rfl rfl ?_
          exact hy5) hx
      refine Keeps.app (State.sendRoute_keeps _ _ _ _ _) rfl rfl ?_
      exact hy8
    · exact hy5

theorem execQuarantineEnd_keeps (port : Fin 5) (j : Fin 32) (s : State) :
    KeepsO 3072 0x800011000000000000000000000000000000000000000000000 s (execQuarantineEnd port j s) := by
  have h_s : Keeps 3072 0x800011000000000000000000000000000000000000000000000 s s := Keeps.rfl
  delta execQuarantineEnd
  refine KeepsO.next ?_
  refine State.cm_keeps (P := 3072) (B := 0x800011000000000000000000000000000000000000000000000) rfl rfl ?_ (fun y0 hy0 => ?_)
  · exact h_s
  · refine Keeps.app (State.endQuarantine_keeps _ _) rfl rfl ?_
    exact hy0

theorem execFabricCommandCompletion_keeps (payload : List Byte) (s : State) :
    KeepsO 103680 0x800000084000000000000000000000000000000000000000018088800000 s (execFabricCommandCompletion payload s) := by
  have h_s : Keeps 103680 0x800000084000000000000000000000000000000000000000018088800000 s s := Keeps.rfl
  delta execFabricCommandCompletion
  refine KeepsO.next ?_
  refine State.cm_keeps (P := 103680) (B := 0x800000084000000000000000000000000000000000000000018088800000) rfl rfl ?_ (fun y0 hy0 => ?_)
  · exact h_s
  · refine Keeps.app (State.fabricCompletionRx_keeps _ _) rfl rfl ?_
    exact hy0

theorem execCollectorStoreWrite_keeps (s : State) :
    KeepsO 361232 0x80D000000000000000000000000000000000000000000000018088802000 s (execCollectorStoreWrite s) := by
  have h_s : Keeps 361232 0x80D000000000000000000000000000000000000000000000018088802000 s s := Keeps.rfl
  delta execCollectorStoreWrite
  refine KeepsO.next ?_
  refine State.cm_keeps (P := 361232) (B := 0x80D000000000000000000000000000000000000000000000018088802000) rfl rfl ?_ (fun y0 hy0 => ?_)
  · exact h_s
  · split
    · exact hy0
    · extract_lets -underBinder -useContext y3
      have hy3 : Keeps 361232 0x80D000000000000000000000000000000000000000000000018088802000 s y3 := by
        refine Keeps.app (State.queRelease_keeps _ _ _) rfl rfl ?_
        exact hy0
      refine Keeps.app (State.raise_keeps _ _) rfl rfl ?_
      refine Keeps.app (State.writeStore_keeps _ _) rfl rfl ?_
      exact hy3

theorem execLinkCostUpdate_keeps (k : Fin 4) (badPerMille : ℕ) (meanFill : ℕ) (s : State) :
    KeepsO 105728 0x800000084800002000000000000000000000000000000000018088800000 s (execLinkCostUpdate k badPerMille meanFill s) := by
  have h_s : Keeps 105728 0x800000084800002000000000000000000000000000000000018088800000 s s := Keeps.rfl
  delta execLinkCostUpdate
  refine KeepsO.next ?_
  refine State.cm_keeps (P := 105728) (B := 0x800000084800002000000000000000000000000000000000018088800000) rfl rfl ?_ (fun y0 hy0 => ?_)
  · exact h_s
  · extract_lets -underBinder -useContext y1
    refine Keeps.app (State.newCost_keeps _ _ _ _) rfl rfl ?_
    exact hy0

theorem execHelloTimeout_keeps (k : Fin 4) (s : State) :
    KeepsO 105728 0x80000008580001B040000000000000000000000000000000018088802000 s (execHelloTimeout k s) := by
  have h_s : Keeps 105728 0x80000008580001B040000000000000000000000000000000018088802000 s s := Keeps.rfl
  delta execHelloTimeout
  refine KeepsO.next ?_
  refine State.cm_keeps (P := 105728) (B := 0x80000008580001B040000000000000000000000000000000018088802000) rfl rfl ?_ (fun y0 hy0 => ?_)
  · exact h_s
  · refine Keeps.app (State.linkDown_keeps _ _) rfl rfl ?_
    exact hy0

theorem State.fabricAnswer_keeps (s : State) (node : Half) (r : Result) :
    Keeps 105728 0x800000085000000000000000000000000000000000000000018088800000 s (State.fabricAnswer s node r) := by
  have h_s : Keeps 105728 0x800000085000000000000000000000000000000000000000018088800000 s s := Keeps.rfl
  delta State.fabricAnswer
  extract_lets -underBinder -useContext y0 y1
  have hy1 : Keeps 105728 0x800000085000000000000000000000000000000000000000018088800000 s y1 := by
    exact Keeps.host_ rfl h_s
  split
  · exact hy1
  · extract_lets -underBinder -useContext y3
    refine Keeps.app (State.fabricReply_keeps _ _ _ _) rfl rfl ?_
    exact Keeps.fab_ rfl hy1

theorem execLocateCollectorStore_keeps (d : Desc) (s : State) :
    KeepsO 256 0 s (execLocateCollectorStore d s) := by
  have h_s : Keeps 256 0 s s := Keeps.rfl
  delta execLocateCollectorStore
  refine KeepsO.next ?_
  refine State.command_keeps (P := 256) (B := 0) rfl rfl ?_ (fun y0 hy0 => ?_)
  · exact h_s
  · refine Keeps.app (State.ok_keeps _ _ _) rfl rfl ?_
    exact hy0

theorem execPhyLinkUp_keeps (k : Fin 4) (s : State) :
    KeepsO 1024 0 s (execPhyLinkUp k s) := by
  have h_s : Keeps 1024 0 s s := Keeps.rfl
  delta execPhyLinkUp
  refine KeepsO.next ?_
  refine State.cm_keeps (P := 1024) (B := 0) rfl rfl ?_ (fun y0 hy0 => ?_)
  · exact h_s
  · extract_lets -underBinder -useContext y1 y2
    refine ite_of (Q := Keeps 1024 0 s) ?_ ?_
    · exact hy0
    · exact Keeps.fab_ rfl hy0

theorem execReportReceive_keeps (port : Fin 5) (payload : List Byte) (type_ : Byte) (s : State) :
    KeepsO 100096 0x81D000000280000000000000000000000000000000000000018088802000 s (execReportReceive port payload type_ s) := by
  have h_s : Keeps 100096 0x81D000000280000000000000000000000000000000000000018088802000 s s := Keeps.rfl
  delta execReportReceive
  refine KeepsO.next ?_
  refine State.cm_keeps (P := 100096) (B := 0x81D000000280000000000000000000000000000000000000018088802000) rfl rfl ?_ (fun y0 hy0 => ?_)
  · exact h_s
  · refine ite_of (Q := Keeps 100096 0x81D000000280000000000000000000000000000000000000018088802000 s) ?_ ?_
    · refine Keeps.app (State.reportRx_keeps _ _ _ _) rfl rfl ?_
      exact hy0
    · exact hy0

theorem execFabricCommandTimeout_keeps (s : State) :
    KeepsO 1280 0 s (execFabricCommandTimeout s) := by
  have h_s : Keeps 1280 0 s s := Keeps.rfl
  delta execFabricCommandTimeout
  refine KeepsO.next ?_
  refine State.cm_keeps (P := 1280) (B := 0) rfl rfl ?_ (fun y0 hy0 => ?_)
  · exact h_s
  · split
    · exact hy0
    · extract_lets -underBinder -useContext y3
      refine Keeps.app (State.complete_keeps _ _ _ _ _) rfl rfl ?_
      exact Keeps.fab_ rfl hy0

theorem execFabricCommandReceive_keeps (payload : List Byte) (s : State) :
    KeepsO 105728 0x800000085000000000000000000000000000000000000000018088800000 s (execFabricCommandReceive payload s) := by
  have h_s : Keeps 105728 0x800000085000000000000000000000000000000000000000018088800000 s s := Keeps.rfl
  delta execFabricCommandReceive
  refine KeepsO.next ?_
  refine State.cm_keeps (P := 105728) (B := 0x800000085000000000000000000000000000000000000000018088800000) rfl rfl ?_ (fun y0 hy0 => ?_)
  · exact h_s
  · refine Keeps.app (State.fabricCommandRx_keeps _ _) rfl rfl ?_
    exact hy0

theorem execRoutedFrameForward_keeps (port : Fin 5) (frame : List Byte) (s : State) :
    KeepsO 106240 0x81D000087A80011040000000000000000000000000000000018088802000 s (execRoutedFrameForward port frame s) := by
  have h_s : Keeps 106240 0x81D000087A80011040000000000000000000000000000000018088802000 s s := Keeps.rfl
  delta execRoutedFrameForward
  refine KeepsO.next ?_
  refine State.cm_keeps (P := 106240) (B := 0x81D000087A80011040000000000000000000000000000000018088802000) rfl rfl ?_ (fun y0 hy0 => ?_)
  · exact h_s
  · refine Keeps.app (State.routedRx_keeps _ _ _) rfl rfl ?_
    refine Keeps.app (State.takeTone_keeps _ _ _) rfl rfl ?_
    exact hy0

theorem execPhyLinkDown_keeps (k : Fin 4) (s : State) :
    KeepsO 105728 0x80000008580001B040000000000000000000000000000000018088802000 s (execPhyLinkDown k s) := by
  have h_s : Keeps 105728 0x80000008580001B040000000000000000000000000000000018088802000 s s := Keeps.rfl
  delta execPhyLinkDown
  refine KeepsO.next ?_
  refine State.cm_keeps (P := 105728) (B := 0x80000008580001B040000000000000000000000000000000018088802000) rfl rfl ?_ (fun y0 hy0 => ?_)
  · exact h_s
  · extract_lets -underBinder -useContext y1 y2
    refine Keeps.app (State.linkDown_keeps _ _) rfl rfl ?_
    exact Keeps.fab_ rfl hy0

theorem execRouteRecompute_keeps (s : State) :
    KeepsO 101632 0x800000000040010080000000000000000000000000000000018088800000 s (execRouteRecompute s) := by
  have h_s : Keeps 101632 0x800000000040010080000000000000000000000000000000018088800000 s s := Keeps.rfl
  delta execRouteRecompute
  refine KeepsO.next ?_
  refine State.cm_keeps (P := 101632) (B := 0x800000000040010080000000000000000000000000000000018088800000) rfl rfl ?_ (fun y0 hy0 => ?_)
  · exact h_s
  · refine Keeps.app (State.recompute_keeps _) rfl rfl ?_
    exact hy0

end Sys2Proof.Machine
end

