-- ==== Sys2Proof/Laws/KeepsFabricTime.lean ====
section
/-! SUPPORT. What the operations of Machine/FabricTime.lean can change, one lemma each (Laws/Keeps.lean says how it is read). -/

namespace Sys2Proof.Machine

theorem execPtpPeerDelaySend_keeps (k : Fin 4) (s : State) :
    KeepsO 65536 0 s (execPtpPeerDelaySend k s) := by
  have h_s : Keeps 65536 0 s s := Keeps.rfl
  delta execPtpPeerDelaySend
  refine KeepsO.next ?_
  refine State.cm_keeps (P := 65536) (B := 0) rfl rfl ?_ (fun y0 hy0 => ?_)
  · exact h_s
  · refine ite_of (Q := Keeps 65536 0 s) ?_ ?_
    · refine Keeps.app (State.emit_keeps _ _) rfl rfl ?_
      exact hy0
    · exact hy0

theorem State.modPtp_keeps (s : State) (f : PtpS → PtpS) :
    Keeps 1024 0 s (State.modPtp s f) := by
  have h_s : Keeps 1024 0 s s := Keeps.rfl
  delta State.modPtp
  extract_lets -underBinder -useContext y0
  exact Keeps.fab_ rfl h_s

theorem State.setLock_keeps (s : State) (on : Bool) :
    Keeps 98560 0x800000000002000000000000000000000000000000000000018088800000 s (State.setLock s on) := by
  have h_s : Keeps 98560 0x800000000002000000000000000000000000000000000000018088800000 s s := Keeps.rfl
  delta State.setLock
  refine Keeps.app (State.raise_keeps _ _) rfl rfl ?_
  refine Keeps.set (.of rfl in_FAB_PTP_STATUS) ?_
  exact h_s

theorem State.bestClock_keeps (s : State) :
    Keeps 99584 0x800000000002000000000000000000000000000000000000018088800000 s (State.bestClock s) := by
  have h_s : Keeps 99584 0x800000000002000000000000000000000000000000000000018088800000 s s := Keeps.rfl
  delta State.bestClock
  extract_lets -underBinder -useContext y0 y1 y6 y9 y14
  have hy1 : ∀ (y2 : State) (y3 : ℕ) (y4 : ℕ) (y5 : ℕ), Keeps 99584 0x800000000002000000000000000000000000000000000000018088800000 s y2 → Keeps 99584 0x800000000002000000000000000000000000000000000000018088800000 s (y1 y2 y3 y4 y5) := by
    intro y2 y3 y4 y5 hy2
    subst y1
    refine Keeps.setSat (.of rfl in_FAB_PTP_STATUS) ?_
    refine Keeps.set (.of rfl in_FAB_PTP_STATUS) ?_
    refine Keeps.set (.of rfl in_FAB_PTP_STATUS) ?_
    exact hy2
  have hy6 : ∀ (y7 : State) (y8 : PtpMaster), Keeps 99584 0x800000000002000000000000000000000000000000000000018088800000 s y7 → Keeps 99584 0x800000000002000000000000000000000000000000000000018088800000 s (y6 y7 y8) := by
    intro y7 y8 hy7
    subst y6
    refine hy1 _ _ _ _ ?_
    exact hy7
  have hy9 : Keeps 99584 0x800000000002000000000000000000000000000000000000018088800000 s y9 := by
    subst y9
    split
    · refine ite_of (Q := Keeps 99584 0x800000000002000000000000000000000000000000000000018088800000 s) ?_ ?_
      · refine hy1 _ _ _ _ ?_
        exact h_s
      · refine hy6 _ _ ?_
        exact h_s
    · refine hy6 _ _ ?_
      exact h_s
    · refine hy1 _ _ _ _ ?_
      exact h_s
    · refine hy1 _ _ _ _ ?_
      exact h_s
  have hy14 : Keeps 99584 0x800000000002000000000000000000000000000000000000018088800000 s y14 := by
    refine ite_of (Q := Keeps 99584 0x800000000002000000000000000000000000000000000000018088800000 s) ?_ ?_
    · exact hy9
    · refine Keeps.app (State.raise_keeps _ _) rfl rfl ?_
      exact hy9
  refine ite_of (Q := Keeps 99584 0x800000000002000000000000000000000000000000000000018088800000 s) ?_ ?_
  · refine Keeps.app (State.modPtp_keeps _ _) rfl rfl ?_
    refine Keeps.app (State.setLock_keeps _ _) rfl rfl ?_
    exact hy14
  · exact hy14

theorem execPtpAnnounceTimeout_keeps (k : Fin 4) (s : State) :
    KeepsO 99584 0x800000000002000000000000000000000000000000000000018088800000 s (execPtpAnnounceTimeout k s) := by
  have h_s : Keeps 99584 0x800000000002000000000000000000000000000000000000018088800000 s s := Keeps.rfl
  delta execPtpAnnounceTimeout
  refine KeepsO.next ?_
  refine State.cm_keeps (P := 99584) (B := 0x800000000002000000000000000000000000000000000000018088800000) rfl rfl ?_ (fun y0 hy0 => ?_)
  · exact h_s
  · split
    · refine ite_of (Q := Keeps 99584 0x800000000002000000000000000000000000000000000000018088800000 s) ?_ ?_
      · refine Keeps.app (State.bestClock_keeps _) rfl rfl ?_
        refine Keeps.app (State.modPtp_keeps _ _) rfl rfl ?_
        exact hy0
      · exact hy0
    · exact hy0

theorem execPtpLockAcquired_keeps (s : State) :
    KeepsO 98577 0x800000000002000000000000000084000000000000000000018088800000 s (execPtpLockAcquired s) := by
  have h_s : Keeps 98577 0x800000000002000000000000000084000000000000000000018088800000 s s := Keeps.rfl
  delta execPtpLockAcquired
  refine KeepsO.next ?_
  refine State.cm_keeps (P := 98577) (B := 0x800000000002000000000000000084000000000000000000018088800000) rfl rfl ?_ (fun y0 hy0 => ?_)
  · exact h_s
  · extract_lets -underBinder -useContext y1
    have hy1 : Keeps 98577 0x800000000002000000000000000084000000000000000000018088800000 s y1 := by
      refine Keeps.app (State.setLock_keeps _ _) rfl rfl ?_
      exact hy0
    refine ite_of (Q := Keeps 98577 0x800000000002000000000000000084000000000000000000018088800000 s) ?_ ?_
    · exact hy0
    · refine ite_of (Q := Keeps 98577 0x800000000002000000000000000084000000000000000000018088800000 s) ?_ ?_
      · refine Keeps.app (State.synced_keeps _ _) rfl rfl ?_
        exact hy1
      · exact hy1

theorem State.syncRx_keeps (s : State) (offsetNs : ℤ) :
    Keeps 230673 0x800000000006000000000000000084000000000000000000018088800000 s (State.syncRx s offsetNs) := by
  have h_s : Keeps 230673 0x800000000006000000000000000084000000000000000000018088800000 s s := Keeps.rfl
  delta State.syncRx
  extract_lets -underBinder -useContext y0 y1
  have hy1 : Keeps 230673 0x800000000006000000000000000084000000000000000000018088800000 s y1 := by
    refine Keeps.set (.of rfl in_FAB_PTP_OFFSET) ?_
    exact h_s
  split
  · rename_i _ y3 hx
    have hy3 : Keeps 230673 0x800000000006000000000000000084000000000000000000018088800000 s y3 := KeepsE.of_eq (by
        refine KeepsE.app (State.fresh_keeps _) rfl rfl ?_
        exact hy1) hx
    extract_lets -underBinder -useContext y4 y5 y6 y7 y8 y9 y10
    have hy5 : Keeps 230673 0x800000000006000000000000000084000000000000000000018088800000 s y5 := by
      exact Keeps.time_ rfl hy3
    have hy10 : Keeps 230673 0x800000000006000000000000000084000000000000000000018088800000 s y10 := by
      refine Keeps.app (State.modPtp_keeps _ _) rfl rfl ?_
      exact hy5
    refine ite_of (Q := Keeps 230673 0x800000000006000000000000000084000000000000000000018088800000 s) ?_ ?_
    · exact hy10
    · refine ite_of (Q := Keeps 230673 0x800000000006000000000000000084000000000000000000018088800000 s) ?_ ?_
      · refine Keeps.app (State.setLock_keeps _ _) rfl rfl ?_
        exact hy10
      · refine ite_of (Q := Keeps 230673 0x800000000006000000000000000084000000000000000000018088800000 s) ?_ ?_
        · refine Keeps.app (State.synced_keeps _ _) rfl rfl ?_
          exact hy10
        · exact hy10

theorem execPtpAnnounceSend_keeps (k : Fin 4) (s : State) :
    KeepsO 65536 0 s (execPtpAnnounceSend k s) := by
  have h_s : Keeps 65536 0 s s := Keeps.rfl
  delta execPtpAnnounceSend
  refine KeepsO.next ?_
  refine State.cm_keeps (P := 65536) (B := 0) rfl rfl ?_ (fun y0 hy0 => ?_)
  · exact h_s
  · refine ite_of (Q := Keeps 65536 0 s) ?_ ?_
    · refine Keeps.app (State.emit_keeps _ _) rfl rfl ?_
      exact hy0
    · exact hy0

theorem State.leapChange_keeps (s : State) (seconds : ℤ) :
    Keeps 98577 0x800000000000000000000000000087000000000000000000018088800000 s (State.leapChange s seconds) := by
  have h_s : Keeps 98577 0x800000000000000000000000000087000000000000000000018088800000 s s := Keeps.rfl
  delta State.leapChange
  extract_lets -underBinder -useContext y0 y1 y2 y3 y4 y5
  have hy2 : Keeps 98577 0x800000000000000000000000000087000000000000000000018088800000 s y2 := by
    exact Keeps.time_ rfl h_s
  have hy3 : Keeps 98577 0x800000000000000000000000000087000000000000000000018088800000 s y3 := by
    refine Keeps.set (.of rfl in_BIL_TIME_STATUS) ?_
    exact hy2
  have hy4 : Keeps 98577 0x800000000000000000000000000087000000000000000000018088800000 s y4 := by
    refine Keeps.app (State.log_keeps _ _) rfl rfl ?_
    exact hy3
  have hy5 : Keeps 98577 0x800000000000000000000000000087000000000000000000018088800000 s y5 := by
    refine Keeps.app (State.raise_keeps _ _) rfl rfl ?_
    exact hy4
  refine ite_of (Q := Keeps 98577 0x800000000000000000000000000087000000000000000000018088800000 s) ?_ ?_
  · exact h_s
  · refine ite_of (Q := Keeps 98577 0x800000000000000000000000000087000000000000000000018088800000 s) ?_ ?_
    · refine Keeps.app (State.raise_keeps _ _) rfl rfl ?_
      exact h_s
    · refine ite_of (Q := Keeps 98577 0x800000000000000000000000000087000000000000000000018088800000 s) ?_ ?_
      · refine Keeps.app (State.nextBound_keeps _) rfl rfl ?_
        exact hy5
      · exact hy5

theorem execPtpSyncSend_keeps (k : Fin 4) (s : State) :
    KeepsO 65536 0 s (execPtpSyncSend k s) := by
  have h_s : Keeps 65536 0 s s := Keeps.rfl
  delta execPtpSyncSend
  refine KeepsO.next ?_
  refine State.cm_keeps (P := 65536) (B := 0) rfl rfl ?_ (fun y0 hy0 => ?_)
  · exact h_s
  · refine ite_of (Q := Keeps 65536 0 s) ?_ ?_
    · refine Keeps.app (State.emit_keeps _ _) rfl rfl ?_
      exact hy0
    · exact hy0

theorem execPtpSyncLoss_keeps (s : State) :
    KeepsO 99585 0x800000000002000000000000000000000000000000000000018088800000 s (execPtpSyncLoss s) := by
  have h_s : Keeps 99585 0x800000000002000000000000000000000000000000000000018088800000 s s := Keeps.rfl
  delta execPtpSyncLoss
  refine KeepsO.next ?_
  refine State.cm_keeps (P := 99585) (B := 0x800000000002000000000000000000000000000000000000018088800000) rfl rfl ?_ (fun y0 hy0 => ?_)
  · exact h_s
  · extract_lets -underBinder -useContext y1 y2 y3
    have hy1 : Keeps 99585 0x800000000002000000000000000000000000000000000000018088800000 s y1 := by
      refine Keeps.app (State.modPtp_keeps _ _) rfl rfl ?_
      exact hy0
    have hy3 : Keeps 99585 0x800000000002000000000000000000000000000000000000018088800000 s y3 := by
      exact Keeps.time_ rfl hy1
    refine ite_of (Q := Keeps 99585 0x800000000002000000000000000000000000000000000000018088800000 s) ?_ ?_
    · refine Keeps.app (State.setLock_keeps _ _) rfl rfl ?_
      exact hy3
    · exact hy3

theorem State.announce_keeps (s : State) (k : Fin 4) (m : PtpMaster) (utc : ℤ) (utcValid : Bool) :
    Keeps 99601 0x800000000002000000000000000087000000000000000000018088800000 s (State.announce s k m utc utcValid) := by
  have h_s : Keeps 99601 0x800000000002000000000000000087000000000000000000018088800000 s s := Keeps.rfl
  delta State.announce
  extract_lets -underBinder -useContext y0 y1 y2 y3 y4
  have hy1 : Keeps 99601 0x800000000002000000000000000087000000000000000000018088800000 s y1 := by
    refine ite_of (Q := Keeps 99601 0x800000000002000000000000000087000000000000000000018088800000 s) ?_ ?_
    · refine Keeps.app (State.modPtp_keeps _ _) rfl rfl ?_
      exact h_s
    · exact h_s
  have hy2 : Keeps 99601 0x800000000002000000000000000087000000000000000000018088800000 s y2 := by
    refine Keeps.app (State.bestClock_keeps _) rfl rfl ?_
    exact hy1
  have hy4 : Keeps 99601 0x800000000002000000000000000087000000000000000000018088800000 s y4 := by
    refine Keeps.app (State.modPtp_keeps _ _) rfl rfl ?_
    exact hy2
  refine ite_of (Q := Keeps 99601 0x800000000002000000000000000087000000000000000000018088800000 s) ?_ ?_
  · try clear_value y3
    split
    · refine ite_of (Q := Keeps 99601 0x800000000002000000000000000087000000000000000000018088800000 s) ?_ ?_
      · exact hy4
      · refine Keeps.app (State.leapChange_keeps _ _) rfl rfl ?_
        exact hy4
    · exact hy4
  · exact hy2

theorem execPtpMessageReceive_keeps (k : Fin 4) (m : PtpMsg) (s : State) :
    KeepsO 230673 0x800000000006000000000000000087000000000000000000018088800000 s (execPtpMessageReceive k m s) := by
  have h_s : Keeps 230673 0x800000000006000000000000000087000000000000000000018088800000 s s := Keeps.rfl
  delta execPtpMessageReceive
  refine KeepsO.next ?_
  refine State.cm_keeps (P := 230673) (B := 0x800000000006000000000000000087000000000000000000018088800000) rfl rfl ?_ (fun y0 hy0 => ?_)
  · exact h_s
  · refine ite_of (Q := Keeps 230673 0x800000000006000000000000000087000000000000000000018088800000 s) ?_ ?_
    · exact hy0
    · split
      · refine ite_of (Q := Keeps 230673 0x800000000006000000000000000087000000000000000000018088800000 s) ?_ ?_
        · refine Keeps.app (State.syncRx_keeps _ _) rfl rfl ?_
          exact hy0
        · exact hy0
      · refine ite_of (Q := Keeps 230673 0x800000000006000000000000000087000000000000000000018088800000 s) ?_ ?_
        · exact hy0
        · refine Keeps.app (State.announce_keeps _ _ _ _ _) rfl rfl ?_
          exact hy0
      · exact hy0

end Sys2Proof.Machine
end

