-- ==== Sys2Proof/Laws/KeepsHostRings.lean ====
section
/-! SUPPORT. What the operations of Machine/HostRings.lean can change, one lemma each (Laws/Keeps.lean says how it is read). -/

namespace Sys2Proof.Machine

theorem State.sqStop_keeps (s : State) (n : Fin 16) :
    Keeps 0 0x800000 s (State.sqStop s n) := by
  have h_s : Keeps 0 0x800000 s s := Keeps.rfl
  delta State.sqStop
  refine ite_of (Q := Keeps 0 0x800000 s) ?_ ?_
  · refine Keeps.set (.of rfl (in_HI_SQ_STATUS _ (by first | exact Fin.isLt _ | omega))) ?_
    exact h_s
  · exact h_s

theorem State.sqBell_keeps (s : State) (n : Fin 16) (v : ℕ) (entries : List (List Byte)) (failed : Bool) :
    Keeps 98560 0x8000000000000000000000000000000000000000000000000180888A0000 s (State.sqBell s n v entries failed) := by
  have h_s : Keeps 98560 0x8000000000000000000000000000000000000000000000000180888A0000 s s := Keeps.rfl
  delta State.sqBell
  extract_lets -underBinder -useContext y0 y1 y2 y3 y4 y5 y6 y7 y8 y9 y10
  have hy9 : Keeps 98560 0x8000000000000000000000000000000000000000000000000180888A0000 s y9 := by
    refine Keeps.set (.of rfl (RingQ.in_12 _)) ?_
    refine Keeps.app (State.setRing_keeps _ _ _) rfl rfl ?_
    exact h_s
  refine ite_of (Q := Keeps 98560 0x8000000000000000000000000000000000000000000000000180888A0000 s) ?_ ?_
  · refine Keeps.app (State.discard_keeps _) rfl rfl ?_
    exact h_s
  · refine ite_of (Q := Keeps 98560 0x8000000000000000000000000000000000000000000000000180888A0000 s) ?_ ?_
    · exact h_s
    · refine ite_of (Q := Keeps 98560 0x8000000000000000000000000000000000000000000000000180888A0000 s) ?_ ?_
      · refine Keeps.app (State.ringError_keeps _ _) rfl rfl ?_
        exact h_s
      · refine ite_of (Q := Keeps 98560 0x8000000000000000000000000000000000000000000000000180888A0000 s) ?_ ?_
        · refine Keeps.app (State.raise_keeps _ _) rfl rfl ?_
          refine Keeps.app (State.ringError_keeps _ _) rfl rfl ?_
          exact h_s
        · exact Keeps.host_ rfl hy9

theorem execSqDoorbell_keeps (n : Fin 16) (v : Word) (fetched : List (List Byte)) (failed : Bool) (s : State) :
    KeepsO 98560 0x8000000000000000000000000000000000000000000000000180888A0000 s (execSqDoorbell n v fetched failed s) := by
  have h_s : Keeps 98560 0x8000000000000000000000000000000000000000000000000180888A0000 s s := Keeps.rfl
  delta execSqDoorbell
  refine KeepsO.next ?_
  refine State.guard_keeps (P := 98560) (B := 0x8000000000000000000000000000000000000000000000000180888A0000) rfl rfl ?_ (fun y0 hy0 => ?_)
  · exact h_s
  · refine Keeps.app (State.sqBell_keeps _ _ _ _ _) rfl rfl ?_
    exact hy0

theorem State.enableRing_keeps (s : State) (q : RingQ) (v : ℕ) :
    Keeps 98560 0x8000000000000000000000000000000000000000000000000180CCCA0000 s (State.enableRing s q v) := by
  have h_s : Keeps 98560 0x8000000000000000000000000000000000000000000000000180CCCA0000 s s := Keeps.rfl
  delta State.enableRing
  extract_lets -underBinder -useContext y0 y1 y2 y3 y4
  have hy1 : Keeps 98560 0x8000000000000000000000000000000000000000000000000180CCCA0000 s y1 := by
    refine Keeps.setReg (.of rfl (RingQ.in_8 _)) ?_
    exact h_s
  have hy2 : Keeps 98560 0x8000000000000000000000000000000000000000000000000180CCCA0000 s y2 := by
    refine Keeps.setErr rfl ?_
    exact hy1
  have hy3 : Keeps 98560 0x8000000000000000000000000000000000000000000000000180CCCA0000 s y3 := by
    refine Keeps.setReg (.of rfl (RingQ.in_12 _)) ?_
    exact hy2
  refine ite_of (Q := Keeps 98560 0x8000000000000000000000000000000000000000000000000180CCCA0000 s) ?_ ?_
  · exact h_s
  · refine ite_of (Q := Keeps 98560 0x8000000000000000000000000000000000000000000000000180CCCA0000 s) ?_ ?_
    · refine Keeps.app (State.discard_keeps _) rfl rfl ?_
      exact h_s
    · refine Keeps.app (State.setRing_keeps _ _ _) rfl rfl ?_
      exact hy3

theorem execQueueEnable_keeps (q : RingQ) (v : Word) (s : State) :
    KeepsO 98560 0x8000000000000000000000000000000000000000000000000180CCCA0000 s (execQueueEnable q v s) := by
  have h_s : Keeps 98560 0x8000000000000000000000000000000000000000000000000180CCCA0000 s s := Keeps.rfl
  delta execQueueEnable
  refine KeepsO.next ?_
  refine State.guard_keeps (P := 98560) (B := 0x8000000000000000000000000000000000000000000000000180CCCA0000) rfl rfl ?_ (fun y0 hy0 => ?_)
  · exact h_s
  · refine Keeps.app (State.enableRing_keeps _ _ _) rfl rfl ?_
    exact hy0

theorem execNoOperation_keeps (d : Desc) (s : State) :
    KeepsO 256 0 s (execNoOperation d s) := by
  have h_s : Keeps 256 0 s s := Keeps.rfl
  delta execNoOperation
  refine KeepsO.next ?_
  refine State.command_keeps (P := 256) (B := 0) rfl rfl ?_ (fun y0 hy0 => ?_)
  · exact h_s
  · refine Keeps.app (State.ok_keeps _ _ _) rfl rfl ?_
    exact hy0

theorem State.headBell_keeps (s : State) (q : RingQ) (v : ℕ) :
    Keeps 98560 0x8000000000000000000000000000000000000000000000000180888A0000 s (State.headBell s q v) := by
  have h_s : Keeps 98560 0x8000000000000000000000000000000000000000000000000180888A0000 s s := Keeps.rfl
  delta State.headBell
  extract_lets -underBinder -useContext y0 y1 y2 y3
  refine ite_of (Q := Keeps 98560 0x8000000000000000000000000000000000000000000000000180888A0000 s) ?_ ?_
  · refine Keeps.app (State.discard_keeps _) rfl rfl ?_
    exact h_s
  · refine ite_of (Q := Keeps 98560 0x8000000000000000000000000000000000000000000000000180888A0000 s) ?_ ?_
    · exact h_s
    · refine ite_of (Q := Keeps 98560 0x8000000000000000000000000000000000000000000000000180888A0000 s) ?_ ?_
      · refine Keeps.app (State.ringError_keeps _ _) rfl rfl ?_
        exact h_s
      · refine Keeps.app (State.gapEntry_keeps _ _) rfl rfl ?_
        refine Keeps.app (State.setRing_keeps _ _ _) rfl rfl ?_
        exact h_s

theorem execCoalescingTimeout_keeps (q : RingQ) (s : State) :
    KeepsO 65792 0x800000000000000000000000000000000000000000000000018000000000 s (execCoalescingTimeout q s) := by
  have h_s : Keeps 65792 0x800000000000000000000000000000000000000000000000018000000000 s s := Keeps.rfl
  delta execCoalescingTimeout
  extract_lets -underBinder -useContext y0
  split
  · refine KeepsO.next ?_
    exact h_s
  · extract_lets -underBinder -useContext y3
    refine ite_of (Q := KeepsO 65792 0x800000000000000000000000000000000000000000000000018000000000 s) ?_ ?_
    · refine KeepsO.next ?_
      exact h_s
    · refine KeepsO.next ?_
      refine Keeps.app (State.signal_keeps _ _ (bitsOf_lt _ 29 24)) rfl rfl ?_
      refine Keeps.app (State.setRing_keeps _ _ _) rfl rfl ?_
      exact h_s

theorem State.writeHiCtrl_keeps (s : State) (v : ℕ) :
    Keeps 98560 0x800000000000000000000000000000000000000000000000018088860000 s (State.writeHiCtrl s v) := by
  have h_s : Keeps 98560 0x800000000000000000000000000000000000000000000000018088860000 s s := Keeps.rfl
  delta State.writeHiCtrl
  extract_lets -underBinder -useContext y0 y1
  have hy0 : Keeps 98560 0x800000000000000000000000000000000000000000000000018088860000 s y0 := by
    refine Keeps.set (.of rfl in_HI_CTRL) ?_
    exact h_s
  have hy1 : Keeps 98560 0x800000000000000000000000000000000000000000000000018088860000 s y1 := by
    refine ite_of (Q := Keeps 98560 0x800000000000000000000000000000000000000000000000018088860000 s) ?_ ?_
    · refine Keeps.setStatus rfl (by decide) rfl ?_
      refine Keeps.set (.of rfl in_HI_CTRL) ?_
      exact hy0
    · exact hy0
  refine ite_of (Q := Keeps 98560 0x800000000000000000000000000000000000000000000000018088860000 s) ?_ ?_
  · refine Keeps.app (State.discard_keeps _) rfl rfl ?_
    exact h_s
  · refine ite_of (Q := Keeps 98560 0x800000000000000000000000000000000000000000000000018088860000 s) ?_ ?_
    · refine Keeps.setStatus rfl (by decide) rfl ?_
      exact hy1
    · exact hy1

theorem execLinkRetrain_keeps (v : Word) (s : State) :
    KeepsO 98560 0x800000000000000000000000000000000000000000000000018088860000 s (execLinkRetrain v s) := by
  have h_s : Keeps 98560 0x800000000000000000000000000000000000000000000000018088860000 s s := Keeps.rfl
  delta execLinkRetrain
  refine KeepsO.next ?_
  refine State.guard_keeps (P := 98560) (B := 0x800000000000000000000000000000000000000000000000018088860000) rfl rfl ?_ (fun y0 hy0 => ?_)
  · exact h_s
  · refine Keeps.app (State.writeHiCtrl_keeps _ _) rfl rfl ?_
    exact hy0

theorem execHostCompletionTimeout_keeps (q : RingQ) (s : State) :
    KeepsO 98560 0x8000000000000000000000000000000000000000000000000180888A0000 s (execHostCompletionTimeout q s) := by
  have h_s : Keeps 98560 0x8000000000000000000000000000000000000000000000000180888A0000 s s := Keeps.rfl
  delta execHostCompletionTimeout
  refine ite_of (Q := KeepsO 98560 0x8000000000000000000000000000000000000000000000000180888A0000 s) ?_ ?_
  · refine KeepsO.next ?_
    exact h_s
  · refine KeepsO.next ?_
    refine Keeps.app (State.raise_keeps _ _) rfl rfl ?_
    refine Keeps.app (State.ringError_keeps _ _) rfl rfl ?_
    exact h_s

theorem State.postResult_keeps (s : State) (n : Fin 16) (r : Result) (writeFails : Bool) :
    Keeps 98560 0x8000000000000000000000000000000000000000000000000180888A0000 s (State.postResult s n r writeFails) := by
  have h_s : Keeps 98560 0x8000000000000000000000000000000000000000000000000180888A0000 s s := Keeps.rfl
  delta State.postResult
  extract_lets -underBinder -useContext y0 y1 y2 y3
  have hy1 : Keeps 98560 0x8000000000000000000000000000000000000000000000000180888A0000 s y1 := by
    exact Keeps.host_ rfl h_s
  have hy3 : Keeps 98560 0x8000000000000000000000000000000000000000000000000180888A0000 s y3 := by
    refine ite_of (Q := Keeps 98560 0x8000000000000000000000000000000000000000000000000180888A0000 s) ?_ ?_
    · refine Keeps.app (State.raise_keeps _ _) rfl rfl ?_
      refine Keeps.app (State.ringError_keeps _ _) rfl rfl ?_
      exact hy1
    · refine Keeps.app (State.offerEntry_keeps _ _ _) rfl rfl ?_
      exact hy1
  refine ite_of (Q := Keeps 98560 0x8000000000000000000000000000000000000000000000000180888A0000 s) ?_ ?_
  · exact h_s
  · refine Keeps.app (State.sqStop_keeps _ _) rfl rfl ?_
    exact hy3

theorem State.disableRing_keeps (s : State) (q : RingQ) (v : ℕ) :
    Keeps 98560 0x8000000000000000000000000000000000000000000000000180CCC00000 s (State.disableRing s q v) := by
  have h_s : Keeps 98560 0x8000000000000000000000000000000000000000000000000180CCC00000 s s := Keeps.rfl
  delta State.disableRing
  extract_lets -underBinder -useContext y0
  refine ite_of (Q := Keeps 98560 0x8000000000000000000000000000000000000000000000000180CCC00000 s) ?_ ?_
  · refine Keeps.app (State.discard_keeps _) rfl rfl ?_
    exact h_s
  · refine ite_of (Q := Keeps 98560 0x8000000000000000000000000000000000000000000000000180CCC00000 s) ?_ ?_
    · split
      · refine Keeps.app (State.sqStop_keeps _ _) rfl rfl ?_
        refine Keeps.set (.of rfl (RingQ.in_8 _)) ?_
        exact h_s
      · refine ite_of (Q := Keeps 98560 0x8000000000000000000000000000000000000000000000000180CCC00000 s) ?_ ?_
        · refine Keeps.app (State.discard_keeps _) rfl rfl ?_
          exact h_s
        · refine Keeps.set (.of rfl (RingQ.in_12 _)) ?_
          refine Keeps.set (.of rfl (RingQ.in_8 _)) ?_
          exact h_s
      · refine Keeps.set (.of rfl (RingQ.in_12 _)) ?_
        refine Keeps.set (.of rfl (RingQ.in_8 _)) ?_
        exact h_s
    · refine ite_of (Q := Keeps 98560 0x8000000000000000000000000000000000000000000000000180CCC00000 s) ?_ ?_
      · refine ite_of (Q := Keeps 98560 0x8000000000000000000000000000000000000000000000000180CCC00000 s) ?_ ?_
        · exact h_s
        · refine Keeps.app (State.discard_keeps _) rfl rfl ?_
          exact h_s
      · refine ite_of (Q := Keeps 98560 0x8000000000000000000000000000000000000000000000000180CCC00000 s) ?_ ?_
        · refine Keeps.app (State.discard_keeps _) rfl rfl ?_
          exact h_s
        · refine Keeps.setReg (.of rfl (RingQ.in_8 _)) ?_
          exact h_s

theorem execEqDoorbell_keeps (e : Fin 4) (v : Word) (s : State) :
    KeepsO 98560 0x8000000000000000000000000000000000000000000000000180888A0000 s (execEqDoorbell e v s) := by
  have h_s : Keeps 98560 0x8000000000000000000000000000000000000000000000000180888A0000 s s := Keeps.rfl
  delta execEqDoorbell
  refine KeepsO.next ?_
  refine State.guard_keeps (P := 98560) (B := 0x8000000000000000000000000000000000000000000000000180888A0000) rfl rfl ?_ (fun y0 hy0 => ?_)
  · exact h_s
  · refine Keeps.app (State.headBell_keeps _ _ _) rfl rfl ?_
    exact hy0

theorem State.hiReset_keeps (s : State) : Keeps 262400 (2 ^ 241 - 1) s s.hiReset := by
  unfold State.hiReset
  exact Keeps.setAny rfl (Keeps.host_ (s := { s with regs := s.regs.filter (fun r => blockOf r.1 != 1) }) rfl
    (Keeps.regs rfl Keeps.rfl))

theorem State.dispatch_keeps (s : State) (n : Fin 16) :
    Keeps 256 0 s (State.dispatch s n) := by
  have h_s : Keeps 256 0 s s := Keeps.rfl
  delta State.dispatch
  split
  · exact h_s
  · extract_lets -underBinder -useContext y2 y3 y4
    have hy4 : Keeps 256 0 s y4 := by
      exact Keeps.host_ rfl h_s
    refine ite_of (Q := Keeps 256 0 s) ?_ ?_
    · exact h_s
    · refine ite_of (Q := Keeps 256 0 s) ?_ ?_
      · refine Keeps.app (State.complete_keeps _ _ _ _ _) rfl rfl ?_
        exact hy4
      · exact hy4

theorem execCommandDispatch_keeps (n : Fin 16) (s : State) :
    KeepsO 256 0 s (execCommandDispatch n s) := by
  have h_s : Keeps 256 0 s s := Keeps.rfl
  delta execCommandDispatch
  refine KeepsO.next ?_
  refine Keeps.app (State.dispatch_keeps _ _) rfl rfl ?_
  exact h_s

theorem execPrivLock_keeps (v : Word) (s : State) :
    KeepsO 98560 0x800000000000000000000000000000000000000000000000018088860000 s (execPrivLock v s) := by
  have h_s : Keeps 98560 0x800000000000000000000000000000000000000000000000018088860000 s s := Keeps.rfl
  delta execPrivLock
  refine KeepsO.next ?_
  refine State.guard_keeps (P := 98560) (B := 0x800000000000000000000000000000000000000000000000018088860000) rfl rfl ?_ (fun y0 hy0 => ?_)
  · exact h_s
  · refine Keeps.app (State.writeHiCtrl_keeps _ _) rfl rfl ?_
    exact hy0

theorem State.writeCfg_keeps (s : State) (q : RingQ) (v : ℕ) :
    Keeps 98560 0x8000000000000000000000000000000000000000000000000180CCCA0000 s (State.writeCfg s q v) := by
  have h_s : Keeps 98560 0x8000000000000000000000000000000000000000000000000180CCCA0000 s s := Keeps.rfl
  delta State.writeCfg
  refine ite_of (Q := Keeps 98560 0x8000000000000000000000000000000000000000000000000180CCCA0000 s) ?_ ?_
  · refine Keeps.app (State.enableRing_keeps _ _ _) rfl rfl ?_
    exact h_s
  · refine Keeps.app (State.disableRing_keeps _ _ _) rfl rfl ?_
    exact h_s

theorem execQueueDisable_keeps (q : RingQ) (v : Word) (s : State) :
    KeepsO 98560 0x8000000000000000000000000000000000000000000000000180CCC00000 s (execQueueDisable q v s) := by
  have h_s : Keeps 98560 0x8000000000000000000000000000000000000000000000000180CCC00000 s s := Keeps.rfl
  delta execQueueDisable
  refine KeepsO.next ?_
  refine State.guard_keeps (P := 98560) (B := 0x8000000000000000000000000000000000000000000000000180CCC00000) rfl rfl ?_ (fun y0 hy0 => ?_)
  · exact h_s
  · refine Keeps.app (State.disableRing_keeps _ _ _) rfl rfl ?_
    exact hy0

theorem execHostLinkReset_keeps (s : State) :
    KeepsO 262400 (2 ^ 241 - 1) s (execHostLinkReset s) := by
  have h_s : Keeps 262400 (2 ^ 241 - 1) s s := Keeps.rfl
  delta execHostLinkReset
  refine KeepsO.next ?_
  refine Keeps.app (State.noteReset_keeps _ _ _) rfl rfl ?_
  refine Keeps.app (State.hiReset_keeps _) rfl rfl ?_
  exact h_s

theorem State.lostCommands_keeps (s : State) (i : Isl) :
    Keeps 256 0 s (State.lostCommands s i) := by
  have h_s : Keeps 256 0 s s := Keeps.rfl
  delta State.lostCommands
  extract_lets -underBinder -useContext y0
  refine foldl_of (Q := Keeps 256 0 s) ?_ (fun y1 y2 my2 hy1 => ?_)
  · exact h_s
  · refine Keeps.app (State.complete_keeps _ _ _ _ _) rfl rfl ?_
    exact hy1

theorem execCqDoorbell_keeps (n : Fin 16) (v : Word) (s : State) :
    KeepsO 98560 0x8000000000000000000000000000000000000000000000000180888A0000 s (execCqDoorbell n v s) := by
  have h_s : Keeps 98560 0x8000000000000000000000000000000000000000000000000180888A0000 s s := Keeps.rfl
  delta execCqDoorbell
  refine KeepsO.next ?_
  refine State.guard_keeps (P := 98560) (B := 0x8000000000000000000000000000000000000000000000000180888A0000) rfl rfl ?_ (fun y0 hy0 => ?_)
  · exact h_s
  · refine Keeps.app (State.headBell_keeps _ _ _) rfl rfl ?_
    exact hy0

theorem execHostLinkUp_keeps (gen : BitVec 2) (width : BitVec 2) (s : State) :
    KeepsO 98560 0x800000000000000000000000000000000000000000000000018088820000 s (execHostLinkUp gen width s) := by
  have h_s : Keeps 98560 0x800000000000000000000000000000000000000000000000018088820000 s s := Keeps.rfl
  delta execHostLinkUp
  extract_lets -underBinder -useContext y0 y1 y2
  have hy1 : Keeps 98560 0x800000000000000000000000000000000000000000000000018088820000 s y1 := by
    exact Keeps.host_ rfl h_s
  have hy2 : Keeps 98560 0x800000000000000000000000000000000000000000000000018088820000 s y2 := by
    refine Keeps.setStatus rfl (by decide) rfl ?_
    refine Keeps.setStatus rfl (by decide) rfl ?_
    exact hy1
  refine KeepsO.next ?_
  refine Keeps.app (State.raise_keeps _ _) rfl rfl ?_
  exact hy2

end Sys2Proof.Machine
end

