-- ==== Sys2Proof/Laws/KeepsPairs.lean ====
section
/-! SUPPORT. What the operations of Machine/Pairs.lean can change, one lemma each (Laws/Keeps.lean says how it is read). -/

namespace Sys2Proof.Machine

theorem execPairHeartbeatSend_keeps (s : State) :
    KeepsO 65536 0 s (execPairHeartbeatSend s) := by
  have h_s : Keeps 65536 0 s s := Keeps.rfl
  delta execPairHeartbeatSend
  refine KeepsO.next ?_
  refine State.cm_keeps (P := 65536) (B := 0) rfl rfl ?_ (fun y0 hy0 => ?_)
  · exact h_s
  · refine ite_of (Q := Keeps 65536 0 s) ?_ ?_
    · refine Keeps.app (State.emit_keeps _ _) rfl rfl ?_
      refine Keeps.app (State.emit_keeps _ _) rfl rfl ?_
      exact hy0
    · exact hy0

theorem State.showMirror_keeps (s : State) :
    Keeps 0 0x20000000000000000000000000000000000000000000000000 s (State.showMirror s) := by
  have h_s : Keeps 0 0x20000000000000000000000000000000000000000000000000 s s := Keeps.rfl
  delta State.showMirror
  extract_lets -underBinder -useContext y0
  refine Keeps.set (.of rfl in_FAB_PAIR_STATUS) ?_
  exact h_s

theorem State.setRole_keeps (s : State) (role : ℕ) :
    Keeps 98560 0x800000000020010000000000000000000000000000000000018088800000 s (State.setRole s role) := by
  have h_s : Keeps 98560 0x800000000020010000000000000000000000000000000000018088800000 s s := Keeps.rfl
  delta State.setRole
  extract_lets -underBinder -useContext y0 y1
  have hy1 : Keeps 98560 0x800000000020010000000000000000000000000000000000018088800000 s y1 := by
    refine Keeps.set (.of rfl in_FAB_STATUS) ?_
    exact h_s
  refine ite_of (Q := Keeps 98560 0x800000000020010000000000000000000000000000000000018088800000 s) ?_ ?_
  · exact hy1
  · refine Keeps.app (State.raise_keeps _ _) rfl rfl ?_
    refine Keeps.count (.of rfl in_FAB_PAIR_STATUS) ?_
    exact hy1

theorem State.adopt_keeps (s : State) (m : MirSess) :
    Keeps 98656 0x8000000000000000000105A8070000000000000000000000018088800000 s (State.adopt s m) := by
  have h_s : Keeps 98656 0x8000000000000000000105A8070000000000000000000000018088800000 s s := Keeps.rfl
  delta State.adopt
  extract_lets -underBinder -useContext y0 y1 y2 y3 y4 y5 y6 y7 y8
  have hy2 : Keeps 98656 0x8000000000000000000105A8070000000000000000000000018088800000 s y2 := by
    refine Keeps.set (.of rfl (in_TPT_STATE _ (by first | exact Fin.isLt _ | omega))) ?_
    refine Keeps.set (.of rfl (in_TPT_SESSION _ (by first | exact Fin.isLt _ | omega))) ?_
    exact h_s
  have hy3 : Keeps 98656 0x8000000000000000000105A8070000000000000000000000018088800000 s y3 := by
    refine Keeps.set (.of rfl (in_PTN_COUP _ (by first | exact Fin.isLt _ | omega))) ?_
    refine Keeps.set (.of rfl (in_TPT_STATE _ (by first | exact Fin.isLt _ | omega))) ?_
    exact hy2
  have hy4 : Keeps 98656 0x8000000000000000000105A8070000000000000000000000018088800000 s y4 := by
    refine Keeps.app (State.modSx_keeps _ _ _) rfl rfl ?_
    exact hy3
  have hy6 : Keeps 98656 0x8000000000000000000105A8070000000000000000000000018088800000 s y6 := by
    exact Keeps.tpt_ rfl hy4
  have hy7 : Keeps 98656 0x8000000000000000000105A8070000000000000000000000018088800000 s y7 := by
    refine Keeps.app (State.enter_keeps _ _ _ _) rfl rfl ?_
    exact hy6
  have hy8 : Keeps 98656 0x8000000000000000000105A8070000000000000000000000018088800000 s y8 := by
    refine ite_of (Q := Keeps 98656 0x8000000000000000000105A8070000000000000000000000018088800000 s) ?_ ?_
    · refine Keeps.app (State.claimIm_keeps _ _) rfl rfl ?_
      exact hy7
    · exact hy7
  refine Keeps.set (.of rfl (in_PTN_CP _ (by first | exact Fin.isLt _ | omega))) ?_
  exact hy8

theorem State.modPair_keeps (s : State) (f : PairS → PairS) :
    Keeps 1024 0 s (State.modPair s f) := by
  have h_s : Keeps 1024 0 s s := Keeps.rfl
  delta State.modPair
  extract_lets -underBinder -useContext y0
  exact Keeps.fab_ rfl h_s

theorem State.takeOver_keeps (s : State) :
    Keeps 99680 0x8000000001200100000105A8070000000000000000000000018088800000 s (State.takeOver s) := by
  have h_s : Keeps 99680 0x8000000001200100000105A8070000000000000000000000018088800000 s s := Keeps.rfl
  delta State.takeOver
  extract_lets -underBinder -useContext y0 y1 y4 y7 y8 y9 y10
  have hy0 : Keeps 99680 0x8000000001200100000105A8070000000000000000000000018088800000 s y0 := by
    refine Keeps.app (State.setRole_keeps _ _) rfl rfl ?_
    exact h_s
  have hy1 : Keeps 99680 0x8000000001200100000105A8070000000000000000000000018088800000 s y1 := by
    refine foldl_of (Q := Keeps 99680 0x8000000001200100000105A8070000000000000000000000018088800000 s) ?_ (fun y2 y3 my3 hy2 => ?_)
    · exact hy0
    · refine Keeps.app (State.commandChan_keeps _ _ _) rfl rfl ?_
      exact hy2
  have hy4 : Keeps 99680 0x8000000001200100000105A8070000000000000000000000018088800000 s y4 := by
    refine foldl_of (Q := Keeps 99680 0x8000000001200100000105A8070000000000000000000000018088800000 s) ?_ (fun y5 y6 my6 hy5 => ?_)
    · exact hy1
    · refine Keeps.app (State.adopt_keeps _ _) rfl rfl ?_
      exact hy5
  have hy9 : Keeps 99680 0x8000000001200100000105A8070000000000000000000000018088800000 s y9 := by
    exact Keeps.fab_ rfl hy4
  have hy10 : Keeps 99680 0x8000000001200100000105A8070000000000000000000000018088800000 s y10 := by
    subst y10
    split
    · refine Keeps.setReg (.of rfl in_FAB_REP_SEQ) ?_
      exact hy9
    · exact hy9
  refine Keeps.app (State.modPair_keeps _ _) rfl rfl ?_
  exact hy10

theorem State.considerSwitch_keeps (s : State) :
    Keeps 99680 0x8000000001200100000105A8070000000000000000000000018088800000 s (State.considerSwitch s) := by
  have h_s : Keeps 99680 0x8000000001200100000105A8070000000000000000000000018088800000 s s := Keeps.rfl
  delta State.considerSwitch
  extract_lets -underBinder -useContext y0 y1
  have hy0 : Keeps 99680 0x8000000001200100000105A8070000000000000000000000018088800000 s y0 := by
    refine Keeps.app (State.showMirror_keeps _) rfl rfl ?_
    exact h_s
  refine ite_of (Q := Keeps 99680 0x8000000001200100000105A8070000000000000000000000018088800000 s) ?_ ?_
  · exact h_s
  · refine ite_of (Q := Keeps 99680 0x8000000001200100000105A8070000000000000000000000018088800000 s) ?_ ?_
    · refine Keeps.app (State.takeOver_keeps _) rfl rfl ?_
      exact hy0
    · refine Keeps.app (State.raise_keeps _ _) rfl rfl ?_
      exact hy0

theorem State.pairRelease_keeps (s : State) :
    Keeps 66560 0 s (State.pairRelease s) := by
  have h_s : Keeps 66560 0 s s := Keeps.rfl
  delta State.pairRelease
  refine ite_of (Q := Keeps 66560 0 s) ?_ ?_
  · refine Keeps.app (State.modPair_keeps _ _) rfl rfl ?_
    refine Keeps.app (State.emit_keeps _ _) rfl rfl ?_
    exact h_s
  · exact h_s

theorem State.becomeStroke_keeps (s : State) :
    Keeps 99680 0x800000000020010000010588030000000000000000000000018088800000 s (State.becomeStroke s) := by
  have h_s : Keeps 99680 0x800000000020010000010588030000000000000000000000018088800000 s s := Keeps.rfl
  delta State.becomeStroke
  extract_lets -underBinder -useContext y0 y1 y2 y3
  have hy2 : Keeps 99680 0x800000000020010000010588030000000000000000000000018088800000 s y2 := by
    refine Keeps.app (State.modPair_keeps _ _) rfl rfl ?_
    refine Keeps.app (State.setRole_keeps _ _) rfl rfl ?_
    exact h_s
  have hy3 : Keeps 99680 0x800000000020010000010588030000000000000000000000018088800000 s y3 := by
    refine foldl_of (Q := Keeps 99680 0x800000000020010000010588030000000000000000000000018088800000 s) ?_ (fun y4 y5 my5 hy4 => ?_)
    · exact hy2
    · refine Keeps.app (State.commandChan_keeps _ _ _) rfl rfl ?_
      exact hy4
  refine foldl_of (Q := Keeps 99680 0x800000000020010000010588030000000000000000000000018088800000 s) ?_ (fun y6 y7 my7 hy6 => ?_)
  · exact hy3
  · refine Keeps.app (State.enter_keeps _ _ _ _) rfl rfl ?_
    refine Keeps.app (State.openPoint_keeps _ _) rfl rfl ?_
    exact hy6

theorem execPairLaneReturn_keeps (laneB : Bool) (partnerIdent : BitVec 48) (partnerBow : Bool) (s : State) :
    KeepsO 99680 0x800000000020010000010588030000000000000000000000018088800000 s (execPairLaneReturn laneB partnerIdent partnerBow s) := by
  have h_s : Keeps 99680 0x800000000020010000010588030000000000000000000000018088800000 s s := Keeps.rfl
  delta execPairLaneReturn
  refine KeepsO.next ?_
  refine State.cm_keeps (P := 99680) (B := 0x800000000020010000010588030000000000000000000000018088800000) rfl rfl ?_ (fun y0 hy0 => ?_)
  · exact h_s
  · extract_lets -underBinder -useContext y1
    have hy1 : Keeps 99680 0x800000000020010000010588030000000000000000000000018088800000 s y1 := by
      refine Keeps.set (by split <;> first | exact (RowIn.of rfl in_FAB_PAIR_STATUS) | exact (RowIn.of rfl in_FAB_PAIR_STATUS)) ?_
      exact hy0
    refine ite_of (Q := Keeps 99680 0x800000000020010000010588030000000000000000000000018088800000 s) ?_ ?_
    · exact hy0
    · refine ite_of (Q := Keeps 99680 0x800000000020010000010588030000000000000000000000018088800000 s) ?_ ?_
      · refine Keeps.app (State.becomeStroke_keeps _) rfl rfl ?_
        exact hy1
      · exact hy1

theorem execPairReleaseReceive_keeps (s : State) :
    KeepsO 99680 0x8000000001200100000105A8070000000000000000000000018088800000 s (execPairReleaseReceive s) := by
  have h_s : Keeps 99680 0x8000000001200100000105A8070000000000000000000000018088800000 s s := Keeps.rfl
  delta execPairReleaseReceive
  refine KeepsO.next ?_
  refine State.cm_keeps (P := 99680) (B := 0x8000000001200100000105A8070000000000000000000000018088800000) rfl rfl ?_ (fun y0 hy0 => ?_)
  · exact h_s
  · refine Keeps.app (State.considerSwitch_keeps _) rfl rfl ?_
    exact hy0

theorem State.mirrorRx_keeps (s : State) (m : MirrorItem) :
    Keeps 66672 0x20000000000000040300000000000000000000000000000000 s (State.mirrorRx s m) := by
  have h_s : Keeps 66672 0x20000000000000040300000000000000000000000000000000 s s := Keeps.rfl
  delta State.mirrorRx
  extract_lets -underBinder -useContext y0 y1
  have hy0 : Keeps 66672 0x20000000000000040300000000000000000000000000000000 s y0 := by
    refine Keeps.app (State.modPair_keeps _ _) rfl rfl ?_
    exact h_s
  have hy1 : Keeps 66672 0x20000000000000040300000000000000000000000000000000 s y1 := by
    refine Keeps.app (State.showMirror_keeps _) rfl rfl ?_
    exact hy0
  split
  · extract_lets -underBinder -useContext y3
    exact Keeps.lsw_ rfl hy1
  · extract_lets -underBinder -useContext y10 y11 y12 y13 y14 y15 y16
    have hy14 : Keeps 66672 0x20000000000000040300000000000000000000000000000000 s y14 := by
      refine Keeps.app (State.modPair_keeps _ _) rfl rfl ?_
      exact hy1
    have hy16 : Keeps 66672 0x20000000000000040300000000000000000000000000000000 s y16 := by
      refine Keeps.app (State.modSx_keeps _ _ _) rfl rfl ?_
      refine Keeps.set (.of rfl (in_TPT_SESSION _ (by first | exact Fin.isLt _ | omega))) ?_
      exact hy14
    refine ite_of (Q := Keeps 66672 0x20000000000000040300000000000000000000000000000000 s) ?_ ?_
    · refine Keeps.app (State.requestReading_keeps _ _ _ _ _) rfl rfl ?_
      exact hy16
    · exact hy14
  · extract_lets -underBinder -useContext y20
    refine Keeps.app (State.emit_keeps _ _) rfl rfl ?_
    refine Keeps.app (State.modPair_keeps _ _) rfl rfl ?_
    exact hy1
  · refine Keeps.set (by split <;> first | exact (RowIn.of rfl in_FAB_PAIR_STATUS) | exact (RowIn.of rfl in_FAB_PAIR_STATUS)) ?_
    exact hy1

theorem execSwitchRole_keeps (d : Desc) (s : State) :
    KeepsO 66816 0 s (execSwitchRole d s) := by
  have h_s : Keeps 66816 0 s s := Keeps.rfl
  delta execSwitchRole
  refine KeepsO.next ?_
  refine State.command_keeps (P := 66816) (B := 0) rfl rfl ?_ (fun y0 hy0 => ?_)
  · exact h_s
  · refine ite_of (Q := Keeps 66816 0 s) ?_ ?_
    · refine Keeps.app (State.ok_keeps _ _ _) rfl rfl ?_
      refine Keeps.app (State.pairRelease_keeps _) rfl rfl ?_
      exact hy0
    · refine Keeps.app (State.complete_keeps _ _ _ _ _) rfl rfl ?_
      exact hy0

theorem execPairLaneLoss_keeps (laneB : Bool) (s : State) :
    KeepsO 98560 0x800000000020000000000000000000000000000000000000018088800000 s (execPairLaneLoss laneB s) := by
  have h_s : Keeps 98560 0x800000000020000000000000000000000000000000000000018088800000 s s := Keeps.rfl
  delta execPairLaneLoss
  refine KeepsO.next ?_
  refine State.cm_keeps (P := 98560) (B := 0x800000000020000000000000000000000000000000000000018088800000) rfl rfl ?_ (fun y0 hy0 => ?_)
  · exact h_s
  · extract_lets -underBinder -useContext y1
    refine ite_of (Q := Keeps 98560 0x800000000020000000000000000000000000000000000000018088800000 s) ?_ ?_
    · refine Keeps.app (State.raise_keeps _ _) rfl rfl ?_
      refine Keeps.set (.of rfl (by cases laneB <;> exact in_FAB_PAIR_STATUS)) ?_
      exact hy0
    · exact hy0

theorem execPairHeartbeatLoss_keeps (s : State) :
    KeepsO 99680 0x8000000001200100000105A8070000000000000000000000018088800000 s (execPairHeartbeatLoss s) := by
  have h_s : Keeps 99680 0x8000000001200100000105A8070000000000000000000000018088800000 s s := Keeps.rfl
  delta execPairHeartbeatLoss
  refine KeepsO.next ?_
  refine State.cm_keeps (P := 99680) (B := 0x8000000001200100000105A8070000000000000000000000018088800000) rfl rfl ?_ (fun y0 hy0 => ?_)
  · exact h_s
  · refine ite_of (Q := Keeps 99680 0x8000000001200100000105A8070000000000000000000000018088800000 s) ?_ ?_
    · exact hy0
    · refine Keeps.app (State.considerSwitch_keeps _) rfl rfl ?_
      refine Keeps.set (.of rfl in_FAB_PAIR_STATUS) ?_
      refine Keeps.set (.of rfl in_FAB_PAIR_STATUS) ?_
      exact hy0

theorem execPairUp_keeps (partnerIdent : BitVec 48) (partnerAddr : Half) (partnerPref : Bool) (s : State) :
    KeepsO 99680 0x800000000020010000010588030000000000000000000000018088800000 s (execPairUp partnerIdent partnerAddr partnerPref s) := by
  have h_s : Keeps 99680 0x800000000020010000010588030000000000000000000000018088800000 s s := Keeps.rfl
  delta execPairUp
  refine KeepsO.next ?_
  refine State.cm_keeps (P := 99680) (B := 0x800000000020010000010588030000000000000000000000018088800000) rfl rfl ?_ (fun y0 hy0 => ?_)
  · exact h_s
  · extract_lets -underBinder -useContext y1 y2 y3 y4 y5 y6 y7
    have hy5 : Keeps 99680 0x800000000020010000010588030000000000000000000000018088800000 s y5 := by
      refine Keeps.app (State.modPair_keeps _ _) rfl rfl ?_
      exact hy0
    have hy6 : Keeps 99680 0x800000000020010000010588030000000000000000000000018088800000 s y6 := by
      refine Keeps.set (.of rfl in_FAB_PAIR_STATUS) ?_
      refine Keeps.set (.of rfl in_FAB_PAIR_STATUS) ?_
      exact hy5
    have hy7 : Keeps 99680 0x800000000020010000010588030000000000000000000000018088800000 s y7 := by
      refine Keeps.set (.of rfl in_FAB_PAIR_STATUS) ?_
      refine Keeps.set (.of rfl in_FAB_PAIR_STATUS) ?_
      exact hy6
    refine ite_of (Q := Keeps 99680 0x800000000020010000010588030000000000000000000000018088800000 s) ?_ ?_
    · exact hy0
    · refine ite_of (Q := Keeps 99680 0x800000000020010000010588030000000000000000000000018088800000 s) ?_ ?_
      · refine Keeps.app (State.setRole_keeps _ _) rfl rfl ?_
        exact hy7
      · refine Keeps.app (State.becomeStroke_keeps _) rfl rfl ?_
        exact hy7

theorem execDuplexMirror_keeps (m : MirrorItem) (s : State) :
    KeepsO 99696 0x800000000020010000010588070300000000000000000000018088800000 s (execDuplexMirror m s) := by
  have h_s : Keeps 99696 0x800000000020010000010588070300000000000000000000018088800000 s s := Keeps.rfl
  delta execDuplexMirror
  refine KeepsO.next ?_
  refine State.cm_keeps (P := 99696) (B := 0x800000000020010000010588070300000000000000000000018088800000) rfl rfl ?_ (fun y0 hy0 => ?_)
  · exact h_s
  · refine ite_of (Q := Keeps 99696 0x800000000020010000010588070300000000000000000000018088800000 s) ?_ ?_
    · exact hy0
    · refine ite_of (Q := Keeps 99696 0x800000000020010000010588070300000000000000000000018088800000 s) ?_ ?_
      · refine Keeps.app (State.mirrorRx_keeps _ _) rfl rfl ?_
        exact hy0
      · split
        · refine ite_of (Q := Keeps 99696 0x800000000020010000010588070300000000000000000000018088800000 s) ?_ ?_
          · refine Keeps.app (State.mirrorRx_keeps _ _) rfl rfl ?_
            refine Keeps.app (State.becomeStroke_keeps _) rfl rfl ?_
            exact hy0
          · exact hy0
        · exact hy0

end Sys2Proof.Machine
end

