-- ==== Sys2Proof/Laws/KeepsSafetyFns.lean ====
section
/-! SUPPORT. What the operations of Machine/SafetyFns.lean can change, one lemma each (Laws/Keeps.lean says how it is read). -/

namespace Sys2Proof.Machine

theorem State.drive_keeps (s : State) (b : Bool) :
    Keeps 128 0x200000000000000000000000000000000000000000 s (State.drive s b) := by
  have h_s : Keeps 128 0x200000000000000000000000000000000000000000 s s := Keeps.rfl
  delta State.drive
  extract_lets -underBinder -useContext y0 y1 y2
  have hy2 : Keeps 128 0x200000000000000000000000000000000000000000 s y2 := by
    refine ite_of (Q := Keeps 128 0x200000000000000000000000000000000000000000 s) ?_ ?_
    · exact Keeps.saf_ rfl h_s
    · exact Keeps.saf_ rfl h_s
  refine foldl_of (Q := Keeps 128 0x200000000000000000000000000000000000000000 s) ?_ (fun y3 y4 my4 hy3 => ?_)
  · exact hy2
  · refine Keeps.setBit (.of rfl in_SAF_OUT) ?_
    refine Keeps.setBit (.of rfl in_SAF_OUT) ?_
    exact hy3

theorem State.force_keeps (s : State) :
    Keeps 64 0x10000000000000000000000000000000000000000 s (State.force s) := by
  have h_s : Keeps 64 0x10000000000000000000000000000000000000000 s s := Keeps.rfl
  delta State.force
  extract_lets -underBinder -useContext y0 y1 y2 y3 y4 y5 y6
  have hy5 : Keeps 64 0x10000000000000000000000000000000000000000 s y5 := by
    exact Keeps.lsw_ rfl h_s
  have hy6 : Keeps 64 0x10000000000000000000000000000000000000000 s y6 := by
    refine foldl_of (Q := Keeps 64 0x10000000000000000000000000000000000000000 s) ?_ (fun y7 y8 my8 hy7 => ?_)
    · exact hy5
    · refine ite_of (Q := Keeps 64 0x10000000000000000000000000000000000000000 s) ?_ ?_
      · refine Keeps.app (State.turnOff_keeps _ _) rfl rfl ?_
        exact hy7
      · exact hy7
  refine foldl_of (Q := Keeps 64 0x10000000000000000000000000000000000000000 s) ?_ (fun y9 y10 my10 hy9 => ?_)
  · exact hy6
  · refine Keeps.app (State.tryOn_keeps _ _) rfl rfl ?_
    exact hy9

theorem State.setCh_keeps (s : State) (b : Bool) (c : SafCh) :
    Keeps 128 0 s (State.setCh s b c) := by
  have h_s : Keeps 128 0 s s := Keeps.rfl
  delta State.setCh
  extract_lets -underBinder -useContext y0
  refine ite_of (Q := Keeps 128 0 s) ?_ ?_
  · exact Keeps.saf_ rfl h_s
  · exact Keeps.saf_ rfl h_s

theorem State.setHand_keeps (s : State) (b : Bool) (f : Fin 6) (h : TwoHand) :
    Keeps 128 0 s (State.setHand s b f h) := by
  have h_s : Keeps 128 0 s s := Keeps.rfl
  delta State.setHand
  extract_lets -underBinder -useContext y0
  refine Keeps.app (State.setCh_keeps _ _ _) rfl rfl ?_
  exact h_s

theorem State.fnEntered_keeps (s : State) (b : Bool) (f : Fin 6) (x : FnState) :
    Keeps 99696 0x800000000100000000010588030000000000000000000000018088800000 s (State.fnEntered s b f x) := by
  have h_s : Keeps 99696 0x800000000100000000010588030000000000000000000000018088800000 s s := Keeps.rfl
  delta State.fnEntered
  refine ite_of (Q := Keeps 99696 0x800000000100000000010588030000000000000000000000018088800000 s) ?_ ?_
  · refine Keeps.app (State.safetyStop_keeps _ _) rfl rfl ?_
    refine Keeps.app (State.raise_keeps _ _) rfl rfl ?_
    exact h_s
  · exact h_s

theorem State.setFn_keeps (s : State) (b : Bool) (f : Fin 6) (x : FnState) :
    Keeps 128 0 s (State.setFn s b f x) := by
  have h_s : Keeps 128 0 s s := Keeps.rfl
  delta State.setFn
  extract_lets -underBinder -useContext y0 y1
  refine Keeps.app (State.setCh_keeps _ _ _) rfl rfl ?_
  exact h_s

theorem State.moveFn_keeps (s : State) (b : Bool) (f : Fin 6) (x : FnState) :
    Keeps 99824 0x800000000100000000010588030000000000000000000000018088800000 s (State.moveFn s b f x) := by
  have h_s : Keeps 99824 0x800000000100000000010588030000000000000000000000018088800000 s s := Keeps.rfl
  delta State.moveFn
  refine ite_of (Q := Keeps 99824 0x800000000100000000010588030000000000000000000000018088800000 s) ?_ ?_
  · exact h_s
  · refine Keeps.app (State.fnEntered_keeps _ _ _ _) rfl rfl ?_
    refine Keeps.app (State.setFn_keeps _ _ _ _) rfl rfl ?_
    exact h_s

theorem State.showSaf_keeps (s : State) :
    Keeps 0 0x40000000000000000000000000000000000000000 s (State.showSaf s) := by
  have h_s : Keeps 0 0x40000000000000000000000000000000000000000 s s := Keeps.rfl
  delta State.showSaf
  extract_lets -underBinder -useContext y0 y1 y2 y3
  have hy2 : Keeps 0 0x40000000000000000000000000000000000000000 s y2 := by
    refine Keeps.set (.of rfl in_SAF_STATUS) ?_
    refine Keeps.set (.of rfl in_SAF_STATUS) ?_
    exact h_s
  have hy3 : Keeps 0 0x40000000000000000000000000000000000000000 s y3 := by
    refine Keeps.set (.of rfl in_SAF_STATUS) ?_
    refine Keeps.set (.of rfl in_SAF_STATUS) ?_
    exact hy2
  refine Keeps.set (.of rfl in_SAF_STATUS) ?_
  exact hy3

theorem State.safSettle_keeps (s : State) :
    Keeps 192 0x250000000000000000000000000000000000000000 s (State.safSettle s) := by
  have h_s : Keeps 192 0x250000000000000000000000000000000000000000 s s := Keeps.rfl
  delta State.safSettle
  refine Keeps.app (State.showSaf_keeps _) rfl rfl ?_
  refine Keeps.app (State.force_keeps _) rfl rfl ?_
  refine Keeps.app (State.drive_keeps _ _) rfl rfl ?_
  exact h_s

theorem State.safFault_keeps (s : State) (cause : ℕ) (out : ℕ) (func : ℕ) :
    Keeps 98752 0x800000000000000000650000000000000000000000000000018088802000 s (State.safFault s cause out func) := by
  have h_s : Keeps 98752 0x800000000000000000650000000000000000000000000000018088802000 s s := Keeps.rfl
  delta State.safFault
  extract_lets -underBinder -useContext y0 y1 y2 y3 y4 y5 y6 y7
  have hy1 : Keeps 98752 0x800000000000000000650000000000000000000000000000018088802000 s y1 := by
    refine Keeps.app (State.setCh_keeps _ _ _) rfl rfl ?_
    exact h_s
  have hy3 : Keeps 98752 0x800000000000000000650000000000000000000000000000018088802000 s y3 := by
    refine Keeps.app (State.setCh_keeps _ _ _) rfl rfl ?_
    exact hy1
  have hy4 : Keeps 98752 0x800000000000000000650000000000000000000000000000018088802000 s y4 := by
    refine Keeps.set (.of rfl in_SAF_FAULT) ?_
    refine Keeps.set (.of rfl in_SAF_FAULT) ?_
    refine Keeps.set (.of rfl in_SAF_FAULT) ?_
    exact hy3
  have hy5 : Keeps 98752 0x800000000000000000650000000000000000000000000000018088802000 s y5 := by
    refine Keeps.app (State.fault_keeps _ _ _) rfl rfl ?_
    refine Keeps.count (.of rfl in_SAF_FAULT) ?_
    exact hy4
  have hy6 : Keeps 98752 0x800000000000000000650000000000000000000000000000018088802000 s y6 := by
    refine Keeps.app (State.raise_keeps _ _) rfl rfl ?_
    exact hy5
  have hy7 : Keeps 98752 0x800000000000000000650000000000000000000000000000018088802000 s y7 := by
    refine ite_of (Q := Keeps 98752 0x800000000000000000650000000000000000000000000000018088802000 s) ?_ ?_
    · refine Keeps.app (State.raise_keeps _ _) rfl rfl ?_
      exact hy6
    · exact hy6
  refine ite_of (Q := Keeps 98752 0x800000000000000000650000000000000000000000000000018088802000 s) ?_ ?_
  · exact h_s
  · refine Keeps.app (State.safSettle_keeps _) rfl rfl ?_
    refine Keeps.app (State.drive_keeps _ _) rfl rfl ?_
    exact hy7

theorem State.judgeHands_keeps (s : State) (f : Fin 6) :
    Keeps 99824 0x800000000100000000E50588030000000000000000000000018088802000 s (State.judgeHands s f) := by
  have h_s : Keeps 99824 0x800000000100000000E50588030000000000000000000000018088802000 s s := Keeps.rfl
  delta State.judgeHands
  split
  · extract_lets -underBinder -useContext y2 y3 y4 y5 y6 y7 y8
    have hy2 : Keeps 99824 0x800000000100000000E50588030000000000000000000000018088802000 s y2 := by
      refine Keeps.set (.of rfl in_SAF_TWOHAND) ?_
      refine Keeps.set (.of rfl in_SAF_TWOHAND) ?_
      exact h_s
    have hy3 : Keeps 99824 0x800000000100000000E50588030000000000000000000000018088802000 s y3 := by
      refine Keeps.app (State.setHand_keeps _ _ _ _) rfl rfl ?_
      refine Keeps.app (State.setHand_keeps _ _ _ _) rfl rfl ?_
      exact hy2
    have hy8 : Keeps 99824 0x800000000100000000E50588030000000000000000000000018088802000 s y8 := by
      refine ite_of (Q := Keeps 99824 0x800000000100000000E50588030000000000000000000000018088802000 s) ?_ ?_
      · refine Keeps.app (State.moveFn_keeps _ _ _ _) rfl rfl ?_
        exact hy3
      · exact hy3
    refine ite_of (Q := Keeps 99824 0x800000000100000000E50588030000000000000000000000018088802000 s) ?_ ?_
    · refine ite_of (Q := Keeps 99824 0x800000000100000000E50588030000000000000000000000018088802000 s) ?_ ?_
      · refine Keeps.app (State.moveFn_keeps _ _ _ _) rfl rfl ?_
        exact hy8
      · exact hy8
    · refine ite_of (Q := Keeps 99824 0x800000000100000000E50588030000000000000000000000018088802000 s) ?_ ?_
      · refine Keeps.app (State.safFault_keeps _ _ _ _) rfl rfl ?_
        exact hy3
      · refine Keeps.app (State.raise_keeps _ _) rfl rfl ?_
        exact hy3
  · exact h_s

theorem State.stepFn_keeps (s : State) (b : Bool) (f : Fin 6) :
    Keeps 99824 0x800000000100000000010588030000000000000000000000018088800000 s (State.stepFn s b f) := by
  have h_s : Keeps 99824 0x800000000100000000010588030000000000000000000000018088800000 s s := Keeps.rfl
  delta State.stepFn
  extract_lets -underBinder -useContext y0
  split
  · refine ite_of (Q := Keeps 99824 0x800000000100000000010588030000000000000000000000018088800000 s) ?_ ?_
    · exact h_s
    · refine Keeps.app (State.moveFn_keeps _ _ _ _) rfl rfl ?_
      exact h_s
  · refine ite_of (Q := Keeps 99824 0x800000000100000000010588030000000000000000000000018088800000 s) ?_ ?_
    · refine Keeps.app (State.moveFn_keeps _ _ _ _) rfl rfl ?_
      exact h_s
    · exact h_s
  · refine ite_of (Q := Keeps 99824 0x800000000100000000010588030000000000000000000000018088800000 s) ?_ ?_
    · exact h_s
    · refine Keeps.app (State.moveFn_keeps _ _ _ _) rfl rfl ?_
      exact h_s
  · exact h_s

theorem execTwoHandTimeout_keeps (f : Fin 6) (inA : Bool) (inB : Bool) (s : State) :
    KeepsO 99824 0x800000000100000000E50588030000000000000000000000018088802000 s (execTwoHandTimeout f inA inB s) := by
  have h_s : Keeps 99824 0x800000000100000000E50588030000000000000000000000018088802000 s s := Keeps.rfl
  delta execTwoHandTimeout
  extract_lets -underBinder -useContext y0 y3 y4
  have hy0 : ∀ (y1 : State) (y2 : Bool), Keeps 99824 0x800000000100000000E50588030000000000000000000000018088802000 s y1 → Keeps 99824 0x800000000100000000E50588030000000000000000000000018088802000 s (y0 y1 y2) := by
    intro y1 y2 hy1
    subst y0
    refine ite_of (Q := Keeps 99824 0x800000000100000000E50588030000000000000000000000018088802000 s) ?_ ?_
    · refine Keeps.app (State.setHand_keeps _ _ _ _) rfl rfl ?_
      exact hy1
    · exact hy1
  have hy3 : Keeps 99824 0x800000000100000000E50588030000000000000000000000018088802000 s y3 := by
    refine ite_of (Q := Keeps 99824 0x800000000100000000E50588030000000000000000000000018088802000 s) ?_ ?_
    · refine hy0 _ _ ?_
      exact h_s
    · exact h_s
  have hy4 : Keeps 99824 0x800000000100000000E50588030000000000000000000000018088802000 s y4 := by
    refine ite_of (Q := Keeps 99824 0x800000000100000000E50588030000000000000000000000018088802000 s) ?_ ?_
    · refine hy0 _ _ ?_
      exact hy3
    · exact hy3
  refine KeepsO.next ?_
  refine Keeps.app (State.safSettle_keeps _) rfl rfl ?_
  refine Keeps.app (State.judgeHands_keeps _ _) rfl rfl ?_
  exact hy4

theorem State.allDemanded_keeps (s : State) :
    Keeps 99824 0x800000000100000000010588030000000000000000000000018088800000 s (State.allDemanded s) := by
  have h_s : Keeps 99824 0x800000000100000000010588030000000000000000000000018088800000 s s := Keeps.rfl
  delta State.allDemanded
  refine foldl_of (Q := Keeps 99824 0x800000000100000000010588030000000000000000000000018088800000 s) ?_ (fun y0 y1 my1 hy0 => ?_)
  · exact h_s
  · extract_lets -underBinder -useContext y2
    have hy2 : Keeps 99824 0x800000000100000000010588030000000000000000000000018088800000 s y2 := by
      refine Keeps.app (State.moveFn_keeps _ _ _ _) rfl rfl ?_
      refine Keeps.app (State.moveFn_keeps _ _ _ _) rfl rfl ?_
      exact hy0
    refine ite_of (Q := Keeps 99824 0x800000000100000000010588030000000000000000000000018088800000 s) ?_ ?_
    · refine Keeps.app (State.setHand_keeps _ _ _ _) rfl rfl ?_
      refine Keeps.app (State.setHand_keeps _ _ _ _) rfl rfl ?_
      exact hy2
    · exact hy0

theorem State.resetFn_keeps (s : State) (f : Fin 6) (ok : Bool) :
    Keeps 99824 0x800000000100000000010588030000000000000000000000018088800000 s (State.resetFn s f ok) := by
  have h_s : Keeps 99824 0x800000000100000000010588030000000000000000000000018088800000 s s := Keeps.rfl
  delta State.resetFn
  extract_lets -underBinder -useContext y0 y1
  have hy0 : Keeps 99824 0x800000000100000000010588030000000000000000000000018088800000 s y0 := by
    refine Keeps.app (State.moveFn_keeps _ _ _ _) rfl rfl ?_
    exact h_s
  have hy1 : Keeps 99824 0x800000000100000000010588030000000000000000000000018088800000 s y1 := by
    refine ite_of (Q := Keeps 99824 0x800000000100000000010588030000000000000000000000018088800000 s) ?_ ?_
    · refine Keeps.app (State.moveFn_keeps _ _ _ _) rfl rfl ?_
      exact hy0
    · exact hy0
  refine ite_of (Q := Keeps 99824 0x800000000100000000010588030000000000000000000000018088800000 s) ?_ ?_
  · refine Keeps.app (State.raise_keeps _ _) rfl rfl ?_
    exact hy1
  · refine Keeps.app (State.raise_keeps _ _) rfl rfl ?_
    exact h_s

theorem State.stepButton_keeps (s : State) (f : Fin 6) (t : ℕ) :
    Keeps 99824 0x800000000100000000010588030000000000000000000000018088800000 s (State.stepButton s f t) := by
  have h_s : Keeps 99824 0x800000000100000000010588030000000000000000000000018088800000 s s := Keeps.rfl
  delta State.stepButton
  extract_lets -underBinder -useContext y0
  split
  · refine Keeps.app (State.setCh_keeps _ _ _) rfl rfl ?_
    exact h_s
  · extract_lets -underBinder -useContext y3 y4
    have hy3 : Keeps 99824 0x800000000100000000010588030000000000000000000000018088800000 s y3 := by
      refine Keeps.app (State.setCh_keeps _ _ _) rfl rfl ?_
      exact h_s
    refine foldl_of (Q := Keeps 99824 0x800000000100000000010588030000000000000000000000018088800000 s) ?_ (fun y5 y6 my6 hy5 => ?_)
    · exact hy3
    · refine Keeps.app (State.resetFn_keeps _ _ _) rfl rfl ?_
      exact hy5
  · exact h_s

theorem execOutputTest_keeps (out : Fin 4) (swB : Bool) (fell : Bool) (s : State) :
    KeepsO 98752 0x800000000000000000650000000000000000000000000000018088802000 s (execOutputTest out swB fell s) := by
  have h_s : Keeps 98752 0x800000000000000000650000000000000000000000000000018088802000 s s := Keeps.rfl
  delta execOutputTest
  extract_lets -underBinder -useContext y0 y1 y2
  have hy2 : Keeps 98752 0x800000000000000000650000000000000000000000000000018088802000 s y2 := by
    exact Keeps.saf_ rfl h_s
  refine ite_of (Q := KeepsO 98752 0x800000000000000000650000000000000000000000000000018088802000 s) ?_ ?_
  · refine KeepsO.next ?_
    exact h_s
  · refine KeepsO.next ?_
    refine ite_of (Q := Keeps 98752 0x800000000000000000650000000000000000000000000000018088802000 s) ?_ ?_
    · exact hy2
    · refine Keeps.setBit (.of rfl in_SAF_OUT) ?_
      refine Keeps.app (State.safFault_keeps _ _ _ _) rfl rfl ?_
      exact hy2

theorem State.stepHand_keeps (s : State) (b : Bool) (f : Fin 6) (t : ℕ) :
    Keeps 99824 0x800000000100000000010588030000000000000000000000018088800000 s (State.stepHand s b f t) := by
  have h_s : Keeps 99824 0x800000000100000000010588030000000000000000000000018088800000 s s := Keeps.rfl
  delta State.stepHand
  extract_lets -underBinder -useContext y0 y1
  split
  · exact h_s
  · exact h_s
  · refine ite_of (Q := Keeps 99824 0x800000000100000000010588030000000000000000000000018088800000 s) ?_ ?_
    · exact h_s
    · refine Keeps.app (State.setHand_keeps _ _ _ _) rfl rfl ?_
      refine Keeps.app (State.moveFn_keeps _ _ _ _) rfl rfl ?_
      exact h_s
  · refine ite_of (Q := Keeps 99824 0x800000000100000000010588030000000000000000000000018088800000 s) ?_ ?_
    · refine Keeps.app (State.setHand_keeps _ _ _ _) rfl rfl ?_
      exact h_s
    · refine ite_of (Q := Keeps 99824 0x800000000100000000010588030000000000000000000000018088800000 s) ?_ ?_
      · exact h_s
      · split
        · refine ite_of (Q := Keeps 99824 0x800000000100000000010588030000000000000000000000018088800000 s) ?_ ?_
          · refine Keeps.app (State.setHand_keeps _ _ _ _) rfl rfl ?_
            exact h_s
          · exact h_s
        · refine ite_of (Q := Keeps 99824 0x800000000100000000010588030000000000000000000000018088800000 s) ?_ ?_
          · refine Keeps.app (State.setHand_keeps _ _ _ _) rfl rfl ?_
            exact h_s
          · exact h_s

theorem State.judge_keeps (s : State) (b : Bool) (t : ℕ) :
    Keeps 99824 0x800000000100000000E50588030000000000000000000000018088802000 s (State.judge s b t) := by
  have h_s : Keeps 99824 0x800000000100000000E50588030000000000000000000000018088802000 s s := Keeps.rfl
  delta State.judge
  extract_lets -underBinder -useContext y0 y3
  have hy0 : Keeps 99824 0x800000000100000000E50588030000000000000000000000018088802000 s y0 := by
    refine foldl_of (Q := Keeps 99824 0x800000000100000000E50588030000000000000000000000018088802000 s) ?_ (fun y1 y2 my2 hy1 => ?_)
    · exact h_s
    · refine ite_of (Q := Keeps 99824 0x800000000100000000E50588030000000000000000000000018088802000 s) ?_ ?_
      · refine Keeps.app (State.stepHand_keeps _ _ _ _) rfl rfl ?_
        exact hy1
      · refine ite_of (Q := Keeps 99824 0x800000000100000000E50588030000000000000000000000018088802000 s) ?_ ?_
        · refine Keeps.app (State.stepFn_keeps _ _ _) rfl rfl ?_
          exact hy1
        · exact hy1
  have hy3 : Keeps 99824 0x800000000100000000E50588030000000000000000000000018088802000 s y3 := by
    refine ite_of (Q := Keeps 99824 0x800000000100000000E50588030000000000000000000000018088802000 s) ?_ ?_
    · exact hy0
    · refine foldl_of (Q := Keeps 99824 0x800000000100000000E50588030000000000000000000000018088802000 s) ?_ (fun y4 y5 my5 hy4 => ?_)
      · exact hy0
      · refine ite_of (Q := Keeps 99824 0x800000000100000000E50588030000000000000000000000018088802000 s) ?_ ?_
        · refine Keeps.app (State.stepButton_keeps _ _ _) rfl rfl ?_
          exact hy4
        · exact hy4
  refine ite_of (Q := Keeps 99824 0x800000000100000000E50588030000000000000000000000018088802000 s) ?_ ?_
  · exact h_s
  · refine foldl_of (Q := Keeps 99824 0x800000000100000000E50588030000000000000000000000018088802000 s) ?_ (fun y6 y7 my7 hy6 => ?_)
    · exact hy3
    · refine ite_of (Q := Keeps 99824 0x800000000100000000E50588030000000000000000000000018088802000 s) ?_ ?_
      · refine Keeps.app (State.judgeHands_keeps _ _) rfl rfl ?_
        exact hy6
      · exact hy6

theorem execStartTestsComplete_keeps (pass : Bool) (s : State) :
    KeepsO 99824 0x800000000100000000E50588030000000000000000000000018088802000 s (execStartTestsComplete pass s) := by
  have h_s : Keeps 99824 0x800000000100000000E50588030000000000000000000000018088802000 s s := Keeps.rfl
  delta execStartTestsComplete
  extract_lets -underBinder -useContext y0 y1 y2 y3 y4 y5 y6
  have hy2 : Keeps 99824 0x800000000100000000E50588030000000000000000000000018088802000 s y2 := by
    refine Keeps.app (State.setCh_keeps _ _ _) rfl rfl ?_
    exact h_s
  have hy4 : Keeps 99824 0x800000000100000000E50588030000000000000000000000018088802000 s y4 := by
    refine Keeps.app (State.setCh_keeps _ _ _) rfl rfl ?_
    exact hy2
  have hy5 : Keeps 99824 0x800000000100000000E50588030000000000000000000000018088802000 s y5 := by
    refine Keeps.app (State.raise_keeps _ _) rfl rfl ?_
    exact hy4
  have hy6 : Keeps 99824 0x800000000100000000E50588030000000000000000000000018088802000 s y6 := by
    refine ite_of (Q := Keeps 99824 0x800000000100000000E50588030000000000000000000000018088802000 s) ?_ ?_
    · refine Keeps.app (State.judge_keeps _ _ _) rfl rfl ?_
      refine Keeps.app (State.judge_keeps _ _ _) rfl rfl ?_
      exact hy5
    · refine Keeps.set (.of rfl in_SAF_FAULT) ?_
      refine Keeps.set (.of rfl in_SAF_FAULT) ?_
      refine Keeps.set (.of rfl in_SAF_FAULT) ?_
      exact hy5
  refine ite_of (Q := KeepsO 99824 0x800000000100000000E50588030000000000000000000000018088802000 s) ?_ ?_
  · refine KeepsO.next ?_
    exact h_s
  · refine KeepsO.next ?_
    refine Keeps.app (State.safSettle_keeps _) rfl rfl ?_
    exact hy6

theorem execLoadSafetyConfiguration_keeps (d : Desc) (s : State) :
    KeepsO 384 0 s (execLoadSafetyConfiguration d s) := by
  have h_s : Keeps 384 0 s s := Keeps.rfl
  delta execLoadSafetyConfiguration
  refine KeepsO.next ?_
  refine State.command_keeps (P := 384) (B := 0) rfl rfl ?_ (fun y0 hy0 => ?_)
  · exact h_s
  · extract_lets -underBinder -useContext y1
    split
    · refine Keeps.app (State.complete_keeps _ _ _ _ _) rfl rfl ?_
      exact hy0
    · extract_lets -underBinder -useContext y3
      refine Keeps.app (State.ok_keeps _ _ _) rfl rfl ?_
      exact Keeps.saf_ rfl hy0

theorem State.safRestart_keeps (s : State) :
    Keeps 99824 0x800000000100000000250588030000000000000000000000018088800000 s (State.safRestart s) := by
  have h_s : Keeps 99824 0x800000000100000000250588030000000000000000000000018088800000 s s := Keeps.rfl
  delta State.safRestart
  extract_lets -underBinder -useContext y0 y1 y2 y3 y4 y5
  have hy0 : Keeps 99824 0x800000000100000000250588030000000000000000000000018088800000 s y0 := by
    refine Keeps.app (State.allDemanded_keeps _) rfl rfl ?_
    exact h_s
  have hy3 : Keeps 99824 0x800000000100000000250588030000000000000000000000018088800000 s y3 := by
    refine Keeps.app (State.setCh_keeps _ _ _) rfl rfl ?_
    exact hy0
  have hy5 : Keeps 99824 0x800000000100000000250588030000000000000000000000018088800000 s y5 := by
    refine Keeps.app (State.setCh_keeps _ _ _) rfl rfl ?_
    exact hy3
  refine Keeps.app (State.safSettle_keeps _) rfl rfl ?_
  refine Keeps.app (State.drive_keeps _ _) rfl rfl ?_
  exact hy5

theorem execSafetyDiscrepancy_keeps (k : DiscCause) (out : Option (Fin 4)) (s : State) :
    KeepsO 98752 0x800000000000000000650000000000000000000000000000018088802000 s (execSafetyDiscrepancy k out s) := by
  have h_s : Keeps 98752 0x800000000000000000650000000000000000000000000000018088802000 s s := Keeps.rfl
  delta execSafetyDiscrepancy
  extract_lets -underBinder -useContext y0
  split
  · extract_lets -underBinder -useContext y1 y2
    refine ite_of (Q := KeepsO 98752 0x800000000000000000650000000000000000000000000000018088802000 s) ?_ ?_
    · refine KeepsO.next ?_
      refine Keeps.app (State.safFault_keeps _ _ _ _) rfl rfl ?_
      exact h_s
    · refine KeepsO.next ?_
      exact h_s
  · refine ite_of (Q := KeepsO 98752 0x800000000000000000650000000000000000000000000000018088802000 s) ?_ ?_
    · refine KeepsO.next ?_
      exact h_s
    · refine KeepsO.next ?_
      refine Keeps.app (State.safFault_keeps _ _ _ _) rfl rfl ?_
      exact h_s
  · refine KeepsO.next ?_
    refine Keeps.app (State.safFault_keeps _ _ _ _) rfl rfl ?_
    exact h_s

theorem State.sfUp_keeps (s : State) :
    Keeps 99824 0x800000000100000000250588030000000000000000000000018088800000 s (State.sfUp s) := by
  have h_s : Keeps 99824 0x800000000100000000250588030000000000000000000000018088800000 s s := Keeps.rfl
  delta State.sfUp
  refine ite_of (Q := Keeps 99824 0x800000000100000000250588030000000000000000000000018088800000 s) ?_ ?_
  · exact h_s
  · refine Keeps.app (State.safRestart_keeps _) rfl rfl ?_
    exact h_s

theorem State.setLevel_keeps (s : State) (b : Bool) (i : ℕ) (level : Bool) :
    Keeps 0 0x100000000000000000000000000000000000000000 s (State.setLevel s b i level) := by
  have h_s : Keeps 0 0x100000000000000000000000000000000000000000 s s := Keeps.rfl
  delta State.setLevel
  refine Keeps.setBit (by split <;> first | exact (RowIn.of rfl in_SAF_IN) | exact (RowIn.of rfl in_SAF_IN)) ?_
  exact h_s

theorem State.sfDown_keeps (s : State) :
    Keeps 128 0x240000000000000000000000000000000000000000 s (State.sfDown s) := by
  have h_s : Keeps 128 0x240000000000000000000000000000000000000000 s s := Keeps.rfl
  delta State.sfDown
  extract_lets -underBinder -useContext y0 y1
  have hy1 : Keeps 128 0x240000000000000000000000000000000000000000 s y1 := by
    refine Keeps.app (State.setCh_keeps _ _ _) rfl rfl ?_
    exact h_s
  refine Keeps.app (State.showSaf_keeps _) rfl rfl ?_
  refine Keeps.app (State.drive_keeps _ _) rfl rfl ?_
  exact hy1

theorem execSfScan_keeps (s : State) :
    KeepsO 99824 0x800000000100000000250588030000000000000000000000018088800000 s (execSfScan s) := by
  have h_s : Keeps 99824 0x800000000100000000250588030000000000000000000000018088800000 s s := Keeps.rfl
  delta execSfScan
  extract_lets -underBinder -useContext y0
  have hy0 : ∀ (y1 : State) (y2 : Bool), Keeps 99824 0x800000000100000000250588030000000000000000000000018088800000 s y1 → Keeps 99824 0x800000000100000000250588030000000000000000000000018088800000 s (y0 y1 y2) := by
    intro y1 y2 hy1
    subst y0
    refine ite_of (Q := Keeps 99824 0x800000000100000000250588030000000000000000000000018088800000 s) ?_ ?_
    · refine foldl_of (Q := Keeps 99824 0x800000000100000000250588030000000000000000000000018088800000 s) ?_ (fun y3 y4 my4 hy3 => ?_)
      · exact hy1
      · refine ite_of (Q := Keeps 99824 0x800000000100000000250588030000000000000000000000018088800000 s) ?_ ?_
        · refine Keeps.app (State.stepFn_keeps _ _ _) rfl rfl ?_
          exact hy3
        · exact hy3
    · exact hy1
  refine ite_of (Q := KeepsO 99824 0x800000000100000000250588030000000000000000000000018088800000 s) ?_ ?_
  · refine KeepsO.next ?_
    exact h_s
  · refine KeepsO.next ?_
    refine Keeps.app (State.safSettle_keeps _) rfl rfl ?_
    refine Keeps.app (State.drive_keeps _ _) rfl rfl ?_
    refine hy0 _ _ ?_
    refine hy0 _ _ ?_
    exact h_s

theorem State.writeSafReset_keeps (s : State) (v : ℕ) :
    Keeps 99824 0x800000000100000000250588030000000000000000000000018088800000 s (State.writeSafReset s v) := by
  have h_s : Keeps 99824 0x800000000100000000250588030000000000000000000000018088800000 s s := Keeps.rfl
  delta State.writeSafReset
  extract_lets -underBinder -useContext y0
  have hy0 : Keeps 99824 0x800000000100000000250588030000000000000000000000018088800000 s y0 := by
    refine ite_of (Q := Keeps 99824 0x800000000100000000250588030000000000000000000000018088800000 s) ?_ ?_
    · refine Keeps.app (State.safRestart_keeps _) rfl rfl ?_
      exact h_s
    · exact h_s
  refine ite_of (Q := Keeps 99824 0x800000000100000000250588030000000000000000000000018088800000 s) ?_ ?_
  · refine Keeps.app (State.discard_keeps _) rfl rfl ?_
    exact h_s
  · refine Keeps.app (State.safSettle_keeps _) rfl rfl ?_
    refine foldl_of (Q := Keeps 99824 0x800000000100000000250588030000000000000000000000018088800000 s) ?_ (fun y1 y2 my2 hy1 => ?_)
    · exact hy0
    · refine Keeps.app (State.resetFn_keeps _ _ _) rfl rfl ?_
      exact hy1

theorem execSafetyRestart_keeps (v : Word) (s : State) :
    KeepsO 99824 0x800000000100000000250588030000000000000000000000018088800000 s (execSafetyRestart v s) := by
  have h_s : Keeps 99824 0x800000000100000000250588030000000000000000000000018088800000 s s := Keeps.rfl
  delta execSafetyRestart
  refine KeepsO.next ?_
  refine State.guard_keeps (P := 99824) (B := 0x800000000100000000250588030000000000000000000000018088800000) rfl rfl ?_ (fun y0 hy0 => ?_)
  · exact h_s
  · refine Keeps.app (State.writeSafReset_keeps _ _) rfl rfl ?_
    exact hy0

theorem execInputDiscrepancy_keeps (f : Fin 6) (s : State) :
    KeepsO 99824 0x800000000100000000250588030000000000000000000000018088800000 s (execInputDiscrepancy f s) := by
  have h_s : Keeps 99824 0x800000000100000000250588030000000000000000000000018088800000 s s := Keeps.rfl
  delta execInputDiscrepancy
  extract_lets -underBinder -useContext y0 y1 y2 y3 y4
  have hy3 : Keeps 99824 0x800000000100000000250588030000000000000000000000018088800000 s y3 := by
    refine ite_of (Q := Keeps 99824 0x800000000100000000250588030000000000000000000000018088800000 s) ?_ ?_
    · refine Keeps.app (State.setHand_keeps _ _ _ _) rfl rfl ?_
      refine Keeps.app (State.moveFn_keeps _ _ _ _) rfl rfl ?_
      exact h_s
    · exact h_s
  have hy4 : Keeps 99824 0x800000000100000000250588030000000000000000000000018088800000 s y4 := by
    refine ite_of (Q := Keeps 99824 0x800000000100000000250588030000000000000000000000018088800000 s) ?_ ?_
    · refine Keeps.app (State.raise_keeps _ _) rfl rfl ?_
      refine Keeps.app (State.setHand_keeps _ _ _ _) rfl rfl ?_
      refine Keeps.app (State.moveFn_keeps _ _ _ _) rfl rfl ?_
      exact hy3
    · exact hy3
  refine ite_of (Q := KeepsO 99824 0x800000000100000000250588030000000000000000000000018088800000 s) ?_ ?_
  · refine KeepsO.next ?_
    exact h_s
  · refine KeepsO.next ?_
    refine Keeps.app (State.safSettle_keeps _) rfl rfl ?_
    exact hy4

theorem execSwitchStuck_keeps (out : Fin 4) (swB : Bool) (on : Bool) (s : State) :
    KeepsO 98752 0x800000000000000000650000000000000000000000000000018088802000 s (execSwitchStuck out swB on s) := by
  have h_s : Keeps 98752 0x800000000000000000650000000000000000000000000000018088802000 s s := Keeps.rfl
  delta execSwitchStuck
  extract_lets -underBinder -useContext y0
  have hy0 : Keeps 98752 0x800000000000000000650000000000000000000000000000018088802000 s y0 := by
    refine Keeps.app (State.safFault_keeps _ _ _ _) rfl rfl ?_
    exact h_s
  refine ite_of (Q := KeepsO 98752 0x800000000000000000650000000000000000000000000000018088802000 s) ?_ ?_
  · refine KeepsO.next ?_
    exact h_s
  · refine KeepsO.next ?_
    refine Keeps.setBit (.of rfl in_SAF_OUT) ?_
    exact hy0

theorem execSafetyConfigTimeout_keeps (s : State) :
    KeepsO 128 0 s (execSafetyConfigTimeout s) := by
  have h_s : Keeps 128 0 s s := Keeps.rfl
  delta execSafetyConfigTimeout
  extract_lets -underBinder -useContext y0
  refine ite_of (Q := KeepsO 128 0 s) ?_ ?_
  · refine KeepsO.next ?_
    exact h_s
  · refine KeepsO.next ?_
    exact Keeps.saf_ rfl h_s

theorem State.storeSaf_keeps (s : State) (b : List Byte) :
    Keeps 128 0x6080000000000000000000000000000000000000000 s (State.storeSaf s b) := by
  have h_s : Keeps 128 0x6080000000000000000000000000000000000000000 s s := Keeps.rfl
  delta State.storeSaf
  extract_lets -underBinder -useContext y0 y1 y2
  have hy1 : Keeps 128 0x6080000000000000000000000000000000000000000 s y1 := by
    exact Keeps.saf_ rfl h_s
  have hy2 : Keeps 128 0x6080000000000000000000000000000000000000000 s y2 := by
    refine Keeps.set (.of rfl in_SAF_CFG_CRC) ?_
    exact hy1
  refine foldl_of (Q := Keeps 128 0x6080000000000000000000000000000000000000000 s) ?_ (fun y3 y4 my4 hy3 => ?_)
  · exact hy2
  · extract_lets -underBinder -useContext y5 y6 y7
    refine Keeps.setReg (.of rfl (in_SAF_FUNC_MASK _ (by first | exact Fin.isLt _ | omega))) ?_
    refine Keeps.setReg (.of rfl (in_SAF_FUNC _ (by first | exact Fin.isLt _ | omega))) ?_
    exact hy3

theorem execConfirmSafetyConfiguration_keeps (d : Desc) (s : State) :
    KeepsO 99824 0x8000000001000000062D0588030000000000000000000000018088800000 s (execConfirmSafetyConfiguration d s) := by
  have h_s : Keeps 99824 0x8000000001000000062D0588030000000000000000000000018088800000 s s := Keeps.rfl
  delta execConfirmSafetyConfiguration
  refine KeepsO.next ?_
  refine State.command_keeps (P := 99824) (B := 0x8000000001000000062D0588030000000000000000000000018088800000) rfl rfl ?_ (fun y0 hy0 => ?_)
  · exact h_s
  · split
    · refine Keeps.app (State.complete_keeps _ _ _ _ _) rfl rfl ?_
      exact hy0
    · extract_lets -underBinder -useContext y2 y3 y4
      have hy3 : Keeps 99824 0x8000000001000000062D0588030000000000000000000000018088800000 s y3 := by
        refine Keeps.app (State.raise_keeps _ _) rfl rfl ?_
        refine Keeps.app (State.storeSaf_keeps _ _) rfl rfl ?_
        refine Keeps.app (State.allDemanded_keeps _) rfl rfl ?_
        exact hy0
      have hy4 : Keeps 99824 0x8000000001000000062D0588030000000000000000000000018088800000 s y4 := by
        refine ite_of (Q := Keeps 99824 0x8000000001000000062D0588030000000000000000000000018088800000 s) ?_ ?_
        · refine Keeps.app (State.safSettle_keeps _) rfl rfl ?_
          exact hy3
        · refine Keeps.app (State.safRestart_keeps _) rfl rfl ?_
          exact hy3
      refine ite_of (Q := Keeps 99824 0x8000000001000000062D0588030000000000000000000000018088800000 s) ?_ ?_
      · refine Keeps.app (State.complete_keeps _ _ _ _ _) rfl rfl ?_
        exact Keeps.saf_ rfl hy0
      · refine Keeps.app (State.ok_keeps _ _ _) rfl rfl ?_
        exact hy4

theorem State.safUv_keeps (s : State) :
    Keeps 99824 0x800000000100000000250588030000000000000000000000018088800000 s (State.safUv s) := by
  have h_s : Keeps 99824 0x800000000100000000250588030000000000000000000000018088800000 s s := Keeps.rfl
  delta State.safUv
  refine Keeps.app (State.safSettle_keeps _) rfl rfl ?_
  refine Keeps.app (State.drive_keeps _ _) rfl rfl ?_
  refine Keeps.app (State.allDemanded_keeps _) rfl rfl ?_
  exact h_s

theorem execSafetyResetRequest_keeps (v : Word) (s : State) :
    KeepsO 99824 0x800000000100000000250588030000000000000000000000018088800000 s (execSafetyResetRequest v s) := by
  have h_s : Keeps 99824 0x800000000100000000250588030000000000000000000000018088800000 s s := Keeps.rfl
  delta execSafetyResetRequest
  refine KeepsO.next ?_
  refine State.guard_keeps (P := 99824) (B := 0x800000000100000000250588030000000000000000000000018088800000) rfl rfl ?_ (fun y0 hy0 => ?_)
  · exact h_s
  · refine Keeps.app (State.writeSafReset_keeps _ _) rfl rfl ?_
    exact hy0

theorem execSafetyInputFiltered_keeps (i : Fin 12) (level : Bool) (inA : Bool) (inB : Bool) (tA : ℕ) (tB : ℕ) (s : State) :
    KeepsO 99824 0x800000000100000000F50588030000000000000000000000018088802000 s (execSafetyInputFiltered i level inA inB tA tB s) := by
  have h_s : Keeps 99824 0x800000000100000000F50588030000000000000000000000018088802000 s s := Keeps.rfl
  delta execSafetyInputFiltered
  extract_lets -underBinder -useContext y0 y1 y2 y3 y4
  have hy1 : Keeps 99824 0x800000000100000000F50588030000000000000000000000018088802000 s y1 := by
    refine ite_of (Q := Keeps 99824 0x800000000100000000F50588030000000000000000000000018088802000 s) ?_ ?_
    · refine Keeps.app (State.setLevel_keeps _ _ _ _) rfl rfl ?_
      exact h_s
    · exact h_s
  have hy2 : Keeps 99824 0x800000000100000000F50588030000000000000000000000018088802000 s y2 := by
    refine ite_of (Q := Keeps 99824 0x800000000100000000F50588030000000000000000000000018088802000 s) ?_ ?_
    · refine Keeps.app (State.setLevel_keeps _ _ _ _) rfl rfl ?_
      exact hy1
    · exact hy1
  have hy3 : Keeps 99824 0x800000000100000000F50588030000000000000000000000018088802000 s y3 := by
    refine ite_of (Q := Keeps 99824 0x800000000100000000F50588030000000000000000000000018088802000 s) ?_ ?_
    · refine Keeps.app (State.judge_keeps _ _ _) rfl rfl ?_
      exact hy2
    · exact hy2
  have hy4 : Keeps 99824 0x800000000100000000F50588030000000000000000000000018088802000 s y4 := by
    refine ite_of (Q := Keeps 99824 0x800000000100000000F50588030000000000000000000000018088802000 s) ?_ ?_
    · refine Keeps.app (State.judge_keeps _ _ _) rfl rfl ?_
      exact hy3
    · exact hy3
  refine KeepsO.next ?_
  refine Keeps.app (State.safSettle_keeps _) rfl rfl ?_
  exact hy4

theorem execDiscrepancyClear_keeps (f : Fin 6) (s : State) :
    KeepsO 99824 0x800000000100000000250588030000000000000000000000018088800000 s (execDiscrepancyClear f s) := by
  have h_s : Keeps 99824 0x800000000100000000250588030000000000000000000000018088800000 s s := Keeps.rfl
  delta execDiscrepancyClear
  extract_lets -underBinder -useContext y0 y3
  have hy0 : ∀ (y1 : State) (y2 : Bool), Keeps 99824 0x800000000100000000250588030000000000000000000000018088800000 s y1 → Keeps 99824 0x800000000100000000250588030000000000000000000000018088800000 s (y0 y1 y2) := by
    intro y1 y2 hy1
    subst y0
    refine ite_of (Q := Keeps 99824 0x800000000100000000250588030000000000000000000000018088800000 s) ?_ ?_
    · refine Keeps.app (State.setHand_keeps _ _ _ _) rfl rfl ?_
      refine Keeps.app (State.moveFn_keeps _ _ _ _) rfl rfl ?_
      exact hy1
    · exact hy1
  have hy3 : Keeps 99824 0x800000000100000000250588030000000000000000000000018088800000 s y3 := by
    refine hy0 _ _ ?_
    exact h_s
  refine KeepsO.next ?_
  refine Keeps.app (State.safSettle_keeps _) rfl rfl ?_
  refine ite_of (Q := Keeps 99824 0x800000000100000000250588030000000000000000000000018088800000 s) ?_ ?_
  · refine hy0 _ _ ?_
    exact hy3
  · exact hy3

end Sys2Proof.Machine
end

