-- ==== Sys2Proof/Laws/KeepsTone.lean ====
section
/-! SUPPORT. What the operations of Machine/Tone.lean can change, one lemma each (Laws/Keeps.lean says how it is read). -/

namespace Sys2Proof.Machine

theorem execMtlLinkTimeout_keeps (j : Fin 32) (s : State) :
    KeepsO 105728 0x80000008580001B040000000000000000000000000000000018088802000 s (execMtlLinkTimeout j s) := by
  have h_s : Keeps 105728 0x80000008580001B040000000000000000000000000000000018088802000 s s := Keeps.rfl
  delta execMtlLinkTimeout
  refine KeepsO.next ?_
  refine State.cm_keeps (P := 105728) (B := 0x80000008580001B040000000000000000000000000000000018088802000) rfl rfl ?_ (fun y0 hy0 => ?_)
  · exact h_s
  · refine Keeps.app (State.linkDown_keeps _ _) rfl rfl ?_
    exact hy0

theorem State.modTone_keeps (s : State) (f : MtlS → MtlS) :
    Keeps 2048 0 s (State.modTone s f) := by
  have h_s : Keeps 2048 0 s s := Keeps.rfl
  delta State.modTone
  exact Keeps.mtl_ rfl h_s

theorem State.toneSettle_keeps (s : State) :
    Keeps 105728 0x80000008580001B040000000000000000000000000000000018088802000 s (State.toneSettle s) := by
  have h_s : Keeps 105728 0x80000008580001B040000000000000000000000000000000018088802000 s s := Keeps.rfl
  delta State.toneSettle
  extract_lets -underBinder -useContext y0 y1 y2
  have hy2 : Keeps 105728 0x80000008580001B040000000000000000000000000000000018088802000 s y2 := by
    refine Keeps.app (State.modTone_keeps _ _) rfl rfl ?_
    exact h_s
  refine ite_of (Q := Keeps 105728 0x80000008580001B040000000000000000000000000000000018088802000 s) ?_ ?_
  · exact h_s
  · refine ite_of (Q := Keeps 105728 0x80000008580001B040000000000000000000000000000000018088802000 s) ?_ ?_
    · exact hy2
    · refine foldl_of (Q := Keeps 105728 0x80000008580001B040000000000000000000000000000000018088802000 s) ?_ (fun y3 y4 my4 hy3 => ?_)
      · exact hy2
      · refine Keeps.app (State.linkDown_keeps _ _) rfl rfl ?_
        exact hy3

theorem State.toneQuality_keeps (s : State) (j : Fin 32) :
    Keeps 105728 0x800000084800002000000000000000000000000000000000018088800000 s (State.toneQuality s j) := by
  have h_s : Keeps 105728 0x800000084800002000000000000000000000000000000000018088800000 s s := Keeps.rfl
  delta State.toneQuality
  extract_lets -underBinder -useContext y0 y1
  have hy0 : Keeps 105728 0x800000084800002000000000000000000000000000000000018088800000 s y0 := by
    refine Keeps.setSat (.of rfl (in_MTL_NB_LINK _ (by first | exact Fin.isLt _ | omega))) ?_
    exact h_s
  have hy1 : Keeps 105728 0x800000084800002000000000000000000000000000000000018088800000 s y1 := by
    subst y1
    split
    · refine Keeps.set (.of rfl (in_MTL_NB_LINK _ (by first | exact Fin.isLt _ | omega))) ?_
      exact hy0
    · exact hy0
  refine Keeps.app (State.newCost_keeps _ _ _ _) rfl rfl ?_
  exact hy1

theorem State.modEntry_keeps (s : State) (j : Fin 32) (f : MtlNb → MtlNb) :
    Keeps 2048 0 s (State.modEntry s j f) := by
  have h_s : Keeps 2048 0 s s := Keeps.rfl
  delta State.modEntry
  extract_lets -underBinder -useContext y0
  exact Keeps.mtl_ rfl h_s

theorem State.toneTried_keeps (s : State) (t : MtlTx) (failed : Bool) :
    Keeps 105728 0x800000084800002000000000000000000000000000000000018088800000 s (State.toneTried s t failed) := by
  have h_s : Keeps 105728 0x800000084800002000000000000000000000000000000000018088800000 s s := Keeps.rfl
  delta State.toneTried
  split
  · exact h_s
  · refine Keeps.app (State.toneQuality_keeps _ _) rfl rfl ?_
    refine Keeps.app (State.modEntry_keeps _ _ _) rfl rfl ?_
    exact h_s

theorem State.toneFail_keeps (s : State) (t : MtlTx) :
    Keeps 105728 0x80000008480000A400000000000000000000000000000000018088800000 s (State.toneFail s t) := by
  have h_s : Keeps 105728 0x80000008480000A400000000000000000000000000000000018088800000 s s := Keeps.rfl
  delta State.toneFail
  extract_lets -underBinder -useContext y0 y1 y2
  have hy1 : Keeps 105728 0x80000008480000A400000000000000000000000000000000018088800000 s y1 := by
    refine Keeps.app (State.toneTried_keeps _ _ _) rfl rfl ?_
    exact h_s
  have hy2 : Keeps 105728 0x80000008480000A400000000000000000000000000000000018088800000 s y2 := by
    refine Keeps.count (.of rfl in_MTL_CNT_ARQ) ?_
    exact hy1
  refine ite_of (Q := Keeps 105728 0x80000008480000A400000000000000000000000000000000018088800000 s) ?_ ?_
  · refine Keeps.app (State.modTone_keeps _ _) rfl rfl ?_
    exact hy1
  · split
    · refine Keeps.app (State.raise_keeps _ _) rfl rfl ?_
      refine Keeps.count (.of rfl (in_MTL_NB_CNT _ (by first | exact Fin.isLt _ | omega))) ?_
      exact hy2
    · refine Keeps.app (State.raise_keeps _ _) rfl rfl ?_
      exact hy2

theorem State.toneCut_keeps (s : State) :
    Keeps 105728 0x80000008580001B440000000000000000000000000000000018088802000 s (State.toneCut s) := by
  have h_s : Keeps 105728 0x80000008580001B440000000000000000000000000000000018088802000 s s := Keeps.rfl
  delta State.toneCut
  split
  · exact h_s
  · extract_lets -underBinder -useContext y1
    have hy1 : Keeps 105728 0x80000008580001B440000000000000000000000000000000018088802000 s y1 := by
      refine Keeps.app (State.modTone_keeps _ _) rfl rfl ?_
      refine Keeps.set (.of rfl in_MTL_STATUS) ?_
      exact h_s
    refine Keeps.app (State.toneSettle_keeps _) rfl rfl ?_
    refine ite_of (Q := Keeps 105728 0x80000008580001B440000000000000000000000000000000018088802000 s) ?_ ?_
    · refine Keeps.app (State.toneFail_keeps _ _) rfl rfl ?_
      exact hy1
    · exact hy1

theorem State.toneFence_keeps (s : State) :
    Keeps 105728 0x80000008580001B440000000000000000000000000000000018088802000 s (State.toneFence s) := by
  have h_s : Keeps 105728 0x80000008580001B440000000000000000000000000000000018088802000 s s := Keeps.rfl
  delta State.toneFence
  refine Keeps.app (State.modTone_keeps _ _) rfl rfl ?_
  refine Keeps.set (.of rfl in_MTL_STATUS) ?_
  refine Keeps.app (State.toneCut_keeps _) rfl rfl ?_
  exact h_s

theorem State.takeRefresh_keeps (s : State) (l : Lnk) (e : List Byte) :
    Keeps 105728 0x800000084040010000000000000000000000000000000000018088800000 s (State.takeRefresh s l e) := by
  have h_s : Keeps 105728 0x800000084040010000000000000000000000000000000000018088800000 s s := Keeps.rfl
  delta State.takeRefresh
  extract_lets -underBinder -useContext y0
  refine ite_of (Q := Keeps 105728 0x800000084040010000000000000000000000000000000000018088800000 s) ?_ ?_
  · exact h_s
  · split
    · refine Keeps.app (State.takeAdvert_keeps _ _ _) rfl rfl ?_
      exact h_s
    · refine Keeps.app (State.modTone_keeps _ _) rfl rfl ?_
      exact h_s

theorem State.tone_keeps {P B : Nat} {s0 : State} {s : State} {body : State → State} (hp : P &&& 0 = 0) (hb : B &&& 0x0 = 0x0)
    (h_s : Keeps P B s0 s) (h_body : ∀ x, Keeps P B s0 x → Keeps P B s0 (body x)) :
    Keeps P B s0 (State.tone s body) := by
  delta State.tone
  refine State.cm_keeps (P := P) (B := B) (sub_of hp rfl) (sub_of hb rfl) ?_ (fun y0 hy0 => ?_)
  · exact h_s
  · refine ite_of (Q := Keeps P B s0) ?_ ?_
    · refine h_body _ ?_
      exact hy0
    · exact hy0

theorem State.toneCounter_keeps (s : State) :
    Keeps 2048 0 s (State.toneCounter s) := by
  have h_s : Keeps 2048 0 s s := Keeps.rfl
  delta State.toneCounter
  refine ite_of (Q := Keeps 2048 0 s) ?_ ?_
  · refine Keeps.app (State.modTone_keeps _ _) rfl rfl ?_
    exact h_s
  · refine Keeps.app (State.modTone_keeps _ _) rfl rfl ?_
    exact h_s

theorem State.toneTagged_keeps (s : State) (kind : ℕ) (fields : List Byte) :
    Keeps 104704 0x800000084000000000000000000000000000000000000000018088800000 s (State.toneTagged s kind fields) := by
  have h_s : Keeps 104704 0x800000084000000000000000000000000000000000000000018088800000 s s := Keeps.rfl
  delta State.toneTagged
  split
  · refine Keeps.app (State.noKey_keeps _) rfl rfl ?_
    exact h_s
  · rename_i _ y1 hx
    have hy1 : Keeps 104704 0x800000084000000000000000000000000000000000000000018088800000 s y1 := KeepsN.of_eq (by
        refine KeepsN.app (State.segmentKey_keeps _ _) rfl rfl ?_
        exact h_s) hx
    extract_lets -underBinder -useContext y2 y3 y4 y5
    refine Keeps.app (State.modTone_keeps _ _) rfl rfl ?_
    exact hy1

theorem execMtlBeaconSend_keeps (s : State) :
    KeepsO 104704 0x800000084000000000000000000000000000000000000000018088800000 s (execMtlBeaconSend s) := by
  have h_s : Keeps 104704 0x800000084000000000000000000000000000000000000000018088800000 s s := Keeps.rfl
  delta execMtlBeaconSend
  refine KeepsO.next ?_
  refine State.tone_keeps (P := 104704) (B := 0x800000084000000000000000000000000000000000000000018088800000) rfl rfl ?_ (fun y0 hy0 => ?_)
  · exact h_s
  · extract_lets -underBinder -useContext y1 y2
    have hy1 : Keeps 104704 0x800000084000000000000000000000000000000000000000018088800000 s y1 := by
      refine Keeps.app (State.toneCounter_keeps _) rfl rfl ?_
      exact hy0
    have hy2 : Keeps 104704 0x800000084000000000000000000000000000000000000000018088800000 s y2 := by
      refine Keeps.app (State.toneTagged_keeps _ _ _) rfl rfl ?_
      exact hy1
    refine Keeps.app (State.modTone_keeps _ _) rfl rfl ?_
    exact hy2

theorem execLineDriverFault_keeps (s : State) :
    KeepsO 105728 0x80000008580001B440000000000000000000000000000000018088802000 s (execLineDriverFault s) := by
  have h_s : Keeps 105728 0x80000008580001B440000000000000000000000000000000018088802000 s s := Keeps.rfl
  delta execLineDriverFault
  refine KeepsO.next ?_
  refine State.tone_keeps (P := 105728) (B := 0x80000008580001B440000000000000000000000000000000018088802000) rfl rfl ?_ (fun y0 hy0 => ?_)
  · exact h_s
  · extract_lets -underBinder -useContext y1
    have hy1 : Keeps 105728 0x80000008580001B440000000000000000000000000000000018088802000 s y1 := by
      refine Keeps.app (State.modTone_keeps _ _) rfl rfl ?_
      refine Keeps.set (.of rfl in_MTL_STATUS) ?_
      exact hy0
    refine Keeps.app (State.toneCut_keeps _) rfl rfl ?_
    refine Keeps.app (State.raise_keeps _ _) rfl rfl ?_
    exact hy1

theorem State.showAir_keeps (s : State) :
    Keeps 0 0x40000000000000000000000000000000000000000000 s (State.showAir s) := by
  have h_s : Keeps 0 0x40000000000000000000000000000000000000000000 s s := Keeps.rfl
  delta State.showAir
  refine Keeps.setSat (.of rfl in_MTL_STATUS) ?_
  exact h_s

theorem State.startTone_keeps (s : State) (t : MtlTx) :
    Keeps 67584 0x140000000000000000000000000000000000000000000 s (State.startTone s t) := by
  have h_s : Keeps 67584 0x140000000000000000000000000000000000000000000 s s := Keeps.rfl
  delta State.startTone
  extract_lets -underBinder -useContext y0 y1 y2 y3 y4
  have hy1 : Keeps 67584 0x140000000000000000000000000000000000000000000 s y1 := by
    refine Keeps.app (State.emit_keeps _ _) rfl rfl ?_
    exact h_s
  have hy2 : Keeps 67584 0x140000000000000000000000000000000000000000000 s y2 := by
    refine Keeps.count (.of rfl in_MTL_CNT_TX) ?_
    refine Keeps.set (.of rfl in_MTL_STATUS) ?_
    exact hy1
  have hy3 : Keeps 67584 0x140000000000000000000000000000000000000000000 s y3 := by
    refine ite_of (Q := Keeps 67584 0x140000000000000000000000000000000000000000000 s) ?_ ?_
    · exact hy2
    · refine Keeps.count (.of rfl in_MTL_CNT_TX) ?_
      exact hy2
  refine Keeps.app (State.showAir_keeps _) rfl rfl ?_
  refine Keeps.app (State.modTone_keeps _ _) rfl rfl ?_
  exact hy3

theorem execMtlAckSend_keeps (s : State) :
    KeepsO 67584 0x140000000000000000000000000000000000000000000 s (execMtlAckSend s) := by
  have h_s : Keeps 67584 0x140000000000000000000000000000000000000000000 s s := Keeps.rfl
  delta execMtlAckSend
  refine KeepsO.next ?_
  refine State.tone_keeps (P := 67584) (B := 0x140000000000000000000000000000000000000000000) rfl rfl ?_ (fun y0 hy0 => ?_)
  · exact h_s
  · split
    · exact hy0
    · extract_lets -underBinder -useContext y6 y7 y8
      have hy8 : Keeps 67584 0x140000000000000000000000000000000000000000000 s y8 := by
        refine Keeps.app (State.modTone_keeps _ _) rfl rfl ?_
        exact hy0
      refine ite_of (Q := Keeps 67584 0x140000000000000000000000000000000000000000000 s) ?_ ?_
      · exact hy0
      · refine Keeps.app (State.startTone_keeps _ _) rfl rfl ?_
        exact hy8

theorem execMtlWantedAdvertSend_keeps (orig : Half) (s : State) :
    KeepsO 105728 0x800000084000000000000000000000000000000000000000018088800000 s (execMtlWantedAdvertSend orig s) := by
  have h_s : Keeps 105728 0x800000084000000000000000000000000000000000000000018088800000 s s := Keeps.rfl
  delta execMtlWantedAdvertSend
  refine KeepsO.next ?_
  refine State.tone_keeps (P := 105728) (B := 0x800000084000000000000000000000000000000000000000018088800000) rfl rfl ?_ (fun y0 hy0 => ?_)
  · exact h_s
  · extract_lets -underBinder -useContext y1 y2
    have hy2 : Keeps 105728 0x800000084000000000000000000000000000000000000000018088800000 s y2 := by
      refine Keeps.app (State.modTone_keeps _ _) rfl rfl ?_
      exact hy0
    split
    · exact hy2
    · refine foldl_of (Q := Keeps 105728 0x800000084000000000000000000000000000000000000000018088800000 s) ?_ (fun y4 y5 my5 hy4 => ?_)
      · exact hy2
      · refine ite_of (Q := Keeps 105728 0x800000084000000000000000000000000000000000000000018088800000 s) ?_ ?_
        · refine Keeps.app (State.sendFrame_keeps _ _ _ _ _ _ _ _) rfl rfl ?_
          exact hy4
        · exact hy4

theorem State.toneStart_keeps (s : State) :
    Keeps 2048 0x40000000000000000000000000000000000000000000 s (State.toneStart s) := by
  have h_s : Keeps 2048 0x40000000000000000000000000000000000000000000 s s := Keeps.rfl
  delta State.toneStart
  refine Keeps.app (State.modTone_keeps _ _) rfl rfl ?_
  refine Keeps.set (.of rfl in_MTL_STATUS) ?_
  exact h_s

theorem execMtlTransmissionEnd_keeps (s : State) :
    KeepsO 105728 0x80000008580001B040000000000000000000000000000000018088802000 s (execMtlTransmissionEnd s) := by
  have h_s : Keeps 105728 0x80000008580001B040000000000000000000000000000000018088802000 s s := Keeps.rfl
  delta execMtlTransmissionEnd
  refine KeepsO.next ?_
  refine State.tone_keeps (P := 105728) (B := 0x80000008580001B040000000000000000000000000000000018088802000) rfl rfl ?_ (fun y0 hy0 => ?_)
  · exact h_s
  · split
    · exact hy0
    · extract_lets -underBinder -useContext y2
      have hy2 : Keeps 105728 0x80000008580001B040000000000000000000000000000000018088802000 s y2 := by
        refine Keeps.app (State.modTone_keeps _ _) rfl rfl ?_
        refine Keeps.set (.of rfl in_MTL_STATUS) ?_
        exact hy0
      refine Keeps.app (State.toneSettle_keeps _) rfl rfl ?_
      exact hy2

theorem State.toneSegment_keeps (s : State) (j : Fin 32) (index : ℕ) (count : ℕ) (set_ : ℕ) (seg : List Byte) :
    Keeps 101120 0x81D000000000000000000000000000000000000000000000018088802000 s (State.toneSegment s j index count set_ seg) := by
  have h_s : Keeps 101120 0x81D000000000000000000000000000000000000000000000018088802000 s s := Keeps.rfl
  delta State.toneSegment
  extract_lets -underBinder -useContext y0 y1 y2 y3 y4
  have hy4 : Keeps 101120 0x81D000000000000000000000000000000000000000000000018088802000 s y4 := by
    refine Keeps.app (State.modEntry_keeps _ _ _) rfl rfl ?_
    exact h_s
  refine ite_of (Q := Keeps 101120 0x81D000000000000000000000000000000000000000000000018088802000 s) ?_ ?_
  · refine Keeps.app (State.queOffer_keeps _ _ _ _ _ _) rfl rfl ?_
    exact hy4
  · refine Keeps.app (State.modEntry_keeps _ _ _) rfl rfl ?_
    exact h_s

theorem State.toneData_keeps (s : State) (r : MtlRx) (j : Fin 32) :
    Keeps 101120 0x81D000000000000400000000000000000000000000000000018088802000 s (State.toneData s r j) := by
  have h_s : Keeps 101120 0x81D000000000000400000000000000000000000000000000018088802000 s s := Keeps.rfl
  delta State.toneData
  extract_lets -underBinder -useContext y0 y1 y2 y3 y4 y5 y6 y7
  have hy6 : Keeps 101120 0x81D000000000000400000000000000000000000000000000018088802000 s y6 := by
    refine Keeps.app (State.modTone_keeps _ _) rfl rfl ?_
    exact h_s
  have hy7 : Keeps 101120 0x81D000000000000400000000000000000000000000000000018088802000 s y7 := by
    refine Keeps.app (State.modEntry_keeps _ _ _) rfl rfl ?_
    exact hy6
  refine ite_of (Q := Keeps 101120 0x81D000000000000400000000000000000000000000000000018088802000 s) ?_ ?_
  · refine Keeps.count (.of rfl in_MTL_CNT_ARQ) ?_
    exact hy6
  · refine ite_of (Q := Keeps 101120 0x81D000000000000400000000000000000000000000000000018088802000 s) ?_ ?_
    · exact hy7
    · refine Keeps.app (State.toneSegment_keeps _ _ _ _ _ _) rfl rfl ?_
      exact hy7

theorem execMtlTransmissionCutoff_keeps (s : State) :
    KeepsO 105728 0x80000008580001B440000000000000000000000000000000018088802000 s (execMtlTransmissionCutoff s) := by
  have h_s : Keeps 105728 0x80000008580001B440000000000000000000000000000000018088802000 s s := Keeps.rfl
  delta execMtlTransmissionCutoff
  refine KeepsO.next ?_
  refine State.tone_keeps (P := 105728) (B := 0x80000008580001B440000000000000000000000000000000018088802000) rfl rfl ?_ (fun y0 hy0 => ?_)
  · exact h_s
  · refine Keeps.app (State.toneCut_keeps _) rfl rfl ?_
    exact hy0

theorem State.toneRx_keeps {P B : Nat} {s0 : State} {s : State} {r : MtlRx} {kind : ℕ} {mine : Bool} {body : State → State} (hp : P &&& 0 = 0) (hb : B &&& 0xa00000000000000000000000000000000000000000000 = 0xa00000000000000000000000000000000000000000000)
    (h_s : Keeps P B s0 s) (h_body : ∀ x, Keeps P B s0 x → Keeps P B s0 (body x)) :
    Keeps P B s0 (State.toneRx s r kind mine body) := by
  delta State.toneRx
  refine State.tone_keeps (P := P) (B := B) (sub_of hp rfl) (sub_of hb rfl) ?_ (fun y0 hy0 => ?_)
  · exact h_s
  · extract_lets -underBinder -useContext y1
    have hy1 : Keeps P B s0 y1 := by
      refine Keeps.count (.of (sub_of hb rfl) in_MTL_CNT_ERAS) ?_
      exact hy0
    refine ite_of (Q := Keeps P B s0) ?_ ?_
    · refine Keeps.count (.of (sub_of hb rfl) in_MTL_CNT_RX) ?_
      exact hy0
    · refine ite_of (Q := Keeps P B s0) ?_ ?_
      · exact hy1
      · refine ite_of (Q := Keeps P B s0) ?_ ?_
        · refine h_body _ ?_
          refine Keeps.count (.of (sub_of hb rfl) in_MTL_CNT_RX) ?_
          exact hy1
        · refine h_body _ ?_
          exact hy1

theorem State.toneHeard_keeps (s : State) (j : Fin 32) (snr : ℤ) :
    Keeps 105728 0x800000084800002000000000000000000000000000000000018088800000 s (State.toneHeard s j snr) := by
  have h_s : Keeps 105728 0x800000084800002000000000000000000000000000000000018088800000 s s := Keeps.rfl
  delta State.toneHeard
  extract_lets -underBinder -useContext y0
  refine Keeps.app (State.toneQuality_keeps _ _) rfl rfl ?_
  refine Keeps.app (State.modEntry_keeps _ _ _) rfl rfl ?_
  exact h_s

theorem execMtlDataFrame_keeps (rx : MtlRx) (s : State) :
    KeepsO 106240 0x81D000084800002E00000000000000000000000000000000018088802000 s (execMtlDataFrame rx s) := by
  have h_s : Keeps 106240 0x81D000084800002E00000000000000000000000000000000018088802000 s s := Keeps.rfl
  delta execMtlDataFrame
  refine KeepsO.next ?_
  refine State.toneRx_keeps (P := 106240) (B := 0x81D000084800002E00000000000000000000000000000000018088802000) rfl rfl ?_ (fun y0 hy0 => ?_)
  · exact h_s
  · split
    · exact hy0
    · extract_lets -underBinder -useContext y2
      have hy2 : Keeps 106240 0x81D000084800002E00000000000000000000000000000000018088802000 s y2 := by
        refine Keeps.app (State.toneHeard_keeps _ _ _) rfl rfl ?_
        exact hy0
      refine ite_of (Q := Keeps 106240 0x81D000084800002E00000000000000000000000000000000018088802000 s) ?_ ?_
      · exact hy2
      · refine Keeps.app (State.toneData_keeps _ _ _) rfl rfl ?_
        exact hy2

theorem execMediumBusy_keeps (s : State) :
    KeepsO 2048 0x40000000000000000000000000000000000000000000 s (execMediumBusy s) := by
  have h_s : Keeps 2048 0x40000000000000000000000000000000000000000000 s s := Keeps.rfl
  delta execMediumBusy
  refine KeepsO.next ?_
  refine State.tone_keeps (P := 2048) (B := 0x40000000000000000000000000000000000000000000) rfl rfl ?_ (fun y0 hy0 => ?_)
  · exact h_s
  · refine Keeps.app (State.modTone_keeps _ _) rfl rfl ?_
    refine Keeps.set (.of rfl in_MTL_STATUS) ?_
    exact hy0

theorem execMtlNeighbourFree_keeps (j : Fin 32) (s : State) :
    KeepsO 2048 0xB000000000000000000000000000000000000000000000 s (execMtlNeighbourFree j s) := by
  have h_s : Keeps 2048 0xB000000000000000000000000000000000000000000000 s s := Keeps.rfl
  delta execMtlNeighbourFree
  refine KeepsO.next ?_
  refine State.cm_keeps (P := 2048) (B := 0xB000000000000000000000000000000000000000000000) rfl rfl ?_ (fun y0 hy0 => ?_)
  · exact h_s
  · extract_lets -underBinder -useContext y1 y2
    have hy1 : Keeps 2048 0xB000000000000000000000000000000000000000000000 s y1 := by
      refine Keeps.app (State.modEntry_keeps _ _ _) rfl rfl ?_
      refine Keeps.app (State.toneDrop_keeps _ _) rfl rfl ?_
      exact hy0
    have hy2 : Keeps 2048 0xB000000000000000000000000000000000000000000000 s y2 := by
      refine Keeps.app (State.modTone_keeps _ _) rfl rfl ?_
      exact hy1
    refine ite_of (Q := Keeps 2048 0xB000000000000000000000000000000000000000000000 s) ?_ ?_
    · exact hy0
    · refine Keeps.setReg (.of rfl (in_MTL_NB_CNT _ (by first | exact Fin.isLt _ | omega))) ?_
      refine Keeps.setReg (.of rfl (in_MTL_NB_LINK _ (by first | exact Fin.isLt _ | omega))) ?_
      refine Keeps.setReg (.of rfl (in_MTL_NB_ID _ (by first | exact Fin.isLt _ | omega))) ?_
      exact hy2

theorem State.toneAcked_keeps (s : State) (t : MtlTx) (j : Fin 32) (reported : ℤ) :
    Keeps 105728 0x80000008580001B040000000000000000000000000000000018088802000 s (State.toneAcked s t j reported) := by
  have h_s : Keeps 105728 0x80000008580001B040000000000000000000000000000000018088802000 s s := Keeps.rfl
  delta State.toneAcked
  extract_lets -underBinder -useContext y0 y1 y2
  have hy0 : Keeps 105728 0x80000008580001B040000000000000000000000000000000018088802000 s y0 := by
    refine Keeps.app (State.modEntry_keeps _ _ _) rfl rfl ?_
    exact h_s
  have hy1 : Keeps 105728 0x80000008580001B040000000000000000000000000000000018088802000 s y1 := by
    refine Keeps.app (State.modTone_keeps _ _) rfl rfl ?_
    exact hy0
  have hy2 : Keeps 105728 0x80000008580001B040000000000000000000000000000000018088802000 s y2 := by
    refine Keeps.app (State.toneTried_keeps _ _ _) rfl rfl ?_
    exact hy1
  split
  · refine Keeps.app (State.toneSettle_keeps _) rfl rfl ?_
    exact hy2
  · extract_lets -underBinder -useContext y5 y6
    refine Keeps.app (State.toneSettle_keeps _) rfl rfl ?_
    refine Keeps.app (State.modTone_keeps _ _) rfl rfl ?_
    exact hy2

theorem execMtlAcknowledgement_keeps (rx : MtlRx) (s : State) :
    KeepsO 105728 0x80000008580001BA40000000000000000000000000000000018088802000 s (execMtlAcknowledgement rx s) := by
  have h_s : Keeps 105728 0x80000008580001BA40000000000000000000000000000000018088802000 s s := Keeps.rfl
  delta execMtlAcknowledgement
  refine KeepsO.next ?_
  refine State.toneRx_keeps (P := 105728) (B := 0x80000008580001BA40000000000000000000000000000000018088802000) rfl rfl ?_ (fun y0 hy0 => ?_)
  · exact h_s
  · split
    · exact hy0
    · extract_lets -underBinder -useContext y2
      have hy2 : Keeps 105728 0x80000008580001BA40000000000000000000000000000000018088802000 s y2 := by
        refine Keeps.app (State.toneHeard_keeps _ _ _) rfl rfl ?_
        exact hy0
      split
      · exact hy2
      · refine ite_of (Q := Keeps 105728 0x80000008580001BA40000000000000000000000000000000018088802000 s) ?_ ?_
        · exact hy2
        · refine Keeps.app (State.toneAcked_keeps _ _ _ _) rfl rfl ?_
          exact hy2

theorem State.accessTone_keeps (s : State) :
    Keeps 100608 0x800000000000000140000000000000000000000000000000018088800000 s (State.accessTone s) := by
  have h_s : Keeps 100608 0x800000000000000140000000000000000000000000000000018088800000 s s := Keeps.rfl
  delta State.accessTone
  split
  · refine Keeps.app (State.modTone_keeps _ _) rfl rfl ?_
    exact h_s
  · extract_lets -underBinder -useContext y1 y2
    have hy2 : Keeps 100608 0x800000000000000140000000000000000000000000000000018088800000 s y2 := by
      refine Keeps.app (State.modTone_keeps _ _) rfl rfl ?_
      refine Keeps.set (.of rfl in_MTL_STATUS) ?_
      exact h_s
    refine ite_of (Q := Keeps 100608 0x800000000000000140000000000000000000000000000000018088800000 s) ?_ ?_
    · refine Keeps.app (State.raise_keeps _ _) rfl rfl ?_
      exact hy2
    · refine Keeps.app (State.startTone_keeps _ _) rfl rfl ?_
      refine Keeps.app (State.modTone_keeps _ _) rfl rfl ?_
      exact h_s

theorem State.refreshLists_keeps (s : State) : ∀ n l, Keeps 104704 0x800000084000000000000000000000000000000000000000018088800000 s (s.refreshLists n l)
  | 0, _ => Keeps.rfl
  | n + 1, l => by
    rw [State.refreshLists]
    have h := Keeps.app (P := 104704) (B := 0x800000084000000000000000000000000000000000000000018088800000) (State.toneTagged_keeps s.toneCounter 4
      (natLE 2 0xFFFF ++ natLE 4 s.toneCounter.mtl.counter32 ++ natLE 1 (l.take 46).length ++
      ((l.take 46).map s.toneCounter.refreshEntry).flatten)) (by decide) (by decide)
      (Keeps.app (State.toneCounter_keeps s) (by decide) (by decide) Keeps.rfl)
    split
    · exact h
    · exact Keeps.app (State.refreshLists_keeps _ n _) (by decide) (by decide) h


theorem execMtlRefreshSend_keeps (s : State) :
    KeepsO 104704 0x800000084000000000000000000000000000000000000000018088800000 s (execMtlRefreshSend s) := by
  have h_s : Keeps 104704 0x800000084000000000000000000000000000000000000000018088800000 s s := Keeps.rfl
  delta execMtlRefreshSend
  refine KeepsO.next ?_
  refine State.tone_keeps (P := 104704) (B := 0x800000084000000000000000000000000000000000000000018088800000) rfl rfl ?_ (fun y0 hy0 => ?_)
  · exact h_s
  · extract_lets -underBinder -useContext y1
    refine Keeps.app (State.modTone_keeps _ _) rfl rfl ?_
    refine Keeps.app (State.refreshLists_keeps _ _ _) rfl rfl ?_
    exact hy0

theorem execAirtimeLimitEnd_keeps (s : State) :
    KeepsO 0 0x40000000000000000000000000000000000000000000 s (execAirtimeLimitEnd s) := by
  have h_s : Keeps 0 0x40000000000000000000000000000000000000000000 s s := Keeps.rfl
  delta execAirtimeLimitEnd
  refine KeepsO.next ?_
  refine State.tone_keeps (P := 0) (B := 0x40000000000000000000000000000000000000000000) rfl rfl ?_ (fun y0 hy0 => ?_)
  · exact h_s
  · refine ite_of (Q := Keeps 0 0x40000000000000000000000000000000000000000000 s) ?_ ?_
    · refine Keeps.app (State.showAir_keeps _) rfl rfl ?_
      refine Keeps.set (.of rfl in_MTL_STATUS) ?_
      exact hy0
    · refine Keeps.app (State.showAir_keeps _) rfl rfl ?_
      exact hy0

theorem State.toneAuthFail_keeps (s : State) (rx : MtlRx) :
    Keeps 105728 0x800000086800011040000000000000000000000000000000018088800000 s (State.toneAuthFail s rx) := by
  have h_s : Keeps 105728 0x800000086800011040000000000000000000000000000000018088800000 s s := Keeps.rfl
  delta State.toneAuthFail
  split
  · refine Keeps.app (State.authFail_keeps _ _) rfl rfl ?_
    exact h_s
  · refine Keeps.app (State.raise_keeps _ _) rfl rfl ?_
    exact h_s

theorem State.toneAdmit_keeps {P B : Nat} {s0 : State} {s : State} {rx : MtlRx} {len : ℕ} {ctr : ℕ} {body : State → State} (hp : P &&& 105728 = 105728) (hb : B &&& 0x800000086800011040000000000000000000000000000000018088800000 = 0x800000086800011040000000000000000000000000000000018088800000)
    (h_s : Keeps P B s0 s) (h_body : ∀ x, Keeps P B s0 x → Keeps P B s0 (body x)) :
    Keeps P B s0 (State.toneAdmit s rx len ctr body) := by
  delta State.toneAdmit
  split
  · refine Keeps.app (State.noKey_keeps _) (sub_of hp rfl) (sub_of hb rfl) ?_
    exact h_s
  · extract_lets -underBinder -useContext y1
    refine ite_of (Q := Keeps P B s0) ?_ ?_
    · refine h_body _ ?_
      exact h_s
    · refine Keeps.app (State.toneAuthFail_keeps _ _) (sub_of hp rfl) (sub_of hb rfl) ?_
      exact h_s

theorem execMtlBackoffSlot_keeps (s : State) :
    KeepsO 100608 0x800000000000000140000000000000000000000000000000018088800000 s (execMtlBackoffSlot s) := by
  have h_s : Keeps 100608 0x800000000000000140000000000000000000000000000000018088800000 s s := Keeps.rfl
  delta execMtlBackoffSlot
  refine KeepsO.next ?_
  refine State.tone_keeps (P := 100608) (B := 0x800000000000000140000000000000000000000000000000018088800000) rfl rfl ?_ (fun y0 hy0 => ?_)
  · exact h_s
  · split
    · extract_lets -underBinder -useContext y2
      have hy2 : Keeps 100608 0x800000000000000140000000000000000000000000000000018088800000 s y2 := by
        refine Keeps.app (State.modTone_keeps _ _) rfl rfl ?_
        exact hy0
      refine ite_of (Q := Keeps 100608 0x800000000000000140000000000000000000000000000000018088800000 s) ?_ ?_
      · refine Keeps.app (State.accessTone_keeps _) rfl rfl ?_
        exact hy2
      · exact hy2
    · exact hy0

theorem State.toneAbandon_keeps (s : State) :
    Keeps 2048 0x40000000000000000000000000000000000000000000 s (State.toneAbandon s) := by
  have h_s : Keeps 2048 0x40000000000000000000000000000000000000000000 s s := Keeps.rfl
  delta State.toneAbandon
  refine Keeps.app (State.modTone_keeps _ _) rfl rfl ?_
  refine Keeps.set (.of rfl in_MTL_STATUS) ?_
  exact h_s

theorem State.toneTake_keeps (s : State) (rx : MtlRx) :
    KeepsN 2048 0x1000000000000000000000000000000000000000000000 s (State.toneTake s rx) := by
  have h_s : Keeps 2048 0x1000000000000000000000000000000000000000000000 s s := Keeps.rfl
  delta State.toneTake
  split
  · refine KeepsN.some ?_
    refine KeepsE.mk ?_
    exact h_s
  · split
    · exact KeepsN.none
    · extract_lets -underBinder -useContext y2
      have hy2 : Keeps 2048 0x1000000000000000000000000000000000000000000000 s y2 := by
        refine Keeps.set (.of rfl (in_MTL_NB_ID _ (by first | exact Fin.isLt _ | omega))) ?_
        refine Keeps.app (State.modEntry_keeps _ _ _) rfl rfl ?_
        exact h_s
      refine KeepsN.some ?_
      refine KeepsE.mk ?_
      refine Keeps.set (.of rfl (in_MTL_NB_ID _ (by first | exact Fin.isLt _ | omega))) ?_
      exact hy2

theorem State.takeBeacon_keeps (s : State) (rx : MtlRx) :
    Keeps 105728 0x800000084800013040000000000000000000000000000000018088800000 s (State.takeBeacon s rx) := by
  have h_s : Keeps 105728 0x800000084800013040000000000000000000000000000000018088800000 s s := Keeps.rfl
  delta State.takeBeacon
  split
  · refine Keeps.app (State.raise_keeps _ _) rfl rfl ?_
    exact h_s
  · rename_i _ y1 hx
    have hy1 : Keeps 105728 0x800000084800013040000000000000000000000000000000018088800000 s y1 := KeepsN.of_eq (by
        refine KeepsN.app (State.toneTake_keeps _ _) rfl rfl ?_
        exact h_s) hx
    extract_lets -underBinder -useContext y2 y3 y4 y5 y6 y7 y8 y9 y11
    have hy7 : Keeps 105728 0x800000084800013040000000000000000000000000000000018088800000 s y7 := by
      refine Keeps.app (State.modNb_keeps _ _ _) rfl rfl ?_
      exact hy1
    have hy8 : Keeps 105728 0x800000084800013040000000000000000000000000000000018088800000 s y8 := by
      refine Keeps.app (State.modEntry_keeps _ _ _) rfl rfl ?_
      exact hy7
    have hy9 : Keeps 105728 0x800000084800013040000000000000000000000000000000018088800000 s y9 := by
      subst y9
      try clear_value y4
      split
      · refine Keeps.app (State.modEntry_keeps _ _ _) rfl rfl ?_
        exact hy8
      · exact hy8
    have hy11 : Keeps 105728 0x800000084800013040000000000000000000000000000000018088800000 s y11 := by
      refine Keeps.app (State.modTone_keeps _ _) rfl rfl ?_
      exact hy9
    refine Keeps.app (State.tryUp_keeps _ _) rfl rfl ?_
    refine Keeps.app (State.toneHeard_keeps _ _ _) rfl rfl ?_
    exact hy11

theorem execClearToneQuarantine_keeps (d : Desc) (s : State) :
    KeepsO 3328 0x800011000000000000000000000000000000000000000000000 s (execClearToneQuarantine d s) := by
  have h_s : Keeps 3328 0x800011000000000000000000000000000000000000000000000 s s := Keeps.rfl
  delta execClearToneQuarantine
  refine KeepsO.next ?_
  refine State.command_keeps (P := 3328) (B := 0x800011000000000000000000000000000000000000000000000) rfl rfl ?_ (fun y0 hy0 => ?_)
  · exact h_s
  · split
    · refine Keeps.app (State.ok_keeps _ _ _) rfl rfl ?_
      refine Keeps.app (State.endQuarantine_keeps _ _) rfl rfl ?_
      exact hy0
    · refine Keeps.app (State.ok_keeps _ _ _) rfl rfl ?_
      exact hy0

theorem execMediumIdle_keeps (draw : ℕ) (s : State) :
    KeepsO 100608 0x800000000000000140000000000000000000000000000000018088800000 s (execMediumIdle draw s) := by
  have h_s : Keeps 100608 0x800000000000000140000000000000000000000000000000018088800000 s s := Keeps.rfl
  delta execMediumIdle
  refine KeepsO.next ?_
  refine State.tone_keeps (P := 100608) (B := 0x800000000000000140000000000000000000000000000000018088800000) rfl rfl ?_ (fun y0 hy0 => ?_)
  · exact h_s
  · extract_lets -underBinder -useContext y1
    have hy1 : Keeps 100608 0x800000000000000140000000000000000000000000000000018088800000 s y1 := by
      refine Keeps.set (.of rfl in_MTL_STATUS) ?_
      exact hy0
    refine ite_of (Q := Keeps 100608 0x800000000000000140000000000000000000000000000000018088800000 s) ?_ ?_
    · exact hy1
    · split
      · exact hy1
      · extract_lets -underBinder -useContext y3 y4
        have hy4 : Keeps 100608 0x800000000000000140000000000000000000000000000000018088800000 s y4 := by
          refine Keeps.app (State.modTone_keeps _ _) rfl rfl ?_
          exact hy1
        refine ite_of (Q := Keeps 100608 0x800000000000000140000000000000000000000000000000018088800000 s) ?_ ?_
        · refine Keeps.app (State.accessTone_keeps _) rfl rfl ?_
          exact hy4
        · exact hy4

theorem execLineDriverResume_keeps (s : State) :
    KeepsO 2048 0x40000000000000000000000000000000000000000000 s (execLineDriverResume s) := by
  have h_s : Keeps 2048 0x40000000000000000000000000000000000000000000 s s := Keeps.rfl
  delta execLineDriverResume
  refine KeepsO.next ?_
  refine State.cm_keeps (P := 2048) (B := 0x40000000000000000000000000000000000000000000) rfl rfl ?_ (fun y0 hy0 => ?_)
  · exact h_s
  · refine Keeps.app (State.modTone_keeps _ _) rfl rfl ?_
    refine Keeps.set (.of rfl in_MTL_STATUS) ?_
    exact hy0

theorem execMtlBeacon_keeps (rx : MtlRx) (s : State) :
    KeepsO 105728 0x800000086800013A40000000000000000000000000000000018088800000 s (execMtlBeacon rx s) := by
  have h_s : Keeps 105728 0x800000086800013A40000000000000000000000000000000018088800000 s s := Keeps.rfl
  delta execMtlBeacon
  refine KeepsO.next ?_
  refine State.toneRx_keeps (P := 105728) (B := 0x800000086800013A40000000000000000000000000000000018088800000) rfl rfl ?_ (fun y0 hy0 => ?_)
  · exact h_s
  · extract_lets -underBinder -useContext y1 y2
    refine ite_of (Q := Keeps 105728 0x800000086800013A40000000000000000000000000000000018088800000 s) ?_ ?_
    · exact hy0
    · refine State.toneAdmit_keeps (P := 105728) (B := 0x800000086800013A40000000000000000000000000000000018088800000) rfl rfl ?_ (fun y3 hy3 => ?_)
      · exact hy0
      · refine Keeps.app (State.takeBeacon_keeps _ _) rfl rfl ?_
        exact hy3

theorem execMtlAckTimeout_keeps (s : State) :
    KeepsO 105728 0x80000008580001B440000000000000000000000000000000018088802000 s (execMtlAckTimeout s) := by
  have h_s : Keeps 105728 0x80000008580001B440000000000000000000000000000000018088802000 s s := Keeps.rfl
  delta execMtlAckTimeout
  refine KeepsO.next ?_
  refine State.tone_keeps (P := 105728) (B := 0x80000008580001B440000000000000000000000000000000018088802000) rfl rfl ?_ (fun y0 hy0 => ?_)
  · exact h_s
  · split
    · exact hy0
    · refine Keeps.app (State.toneSettle_keeps _) rfl rfl ?_
      refine Keeps.app (State.toneFail_keeps _ _) rfl rfl ?_
      refine Keeps.app (State.modTone_keeps _ _) rfl rfl ?_
      exact hy0

theorem execMtlRefreshList_keeps (rx : MtlRx) (s : State) :
    KeepsO 105728 0x800000086840013A40000000000000000000000000000000018088800000 s (execMtlRefreshList rx s) := by
  have h_s : Keeps 105728 0x800000086840013A40000000000000000000000000000000018088800000 s s := Keeps.rfl
  delta execMtlRefreshList
  refine KeepsO.next ?_
  refine State.toneRx_keeps (P := 105728) (B := 0x800000086840013A40000000000000000000000000000000018088800000) rfl rfl ?_ (fun y0 hy0 => ?_)
  · exact h_s
  · extract_lets -underBinder -useContext y1 y2
    refine ite_of (Q := Keeps 105728 0x800000086840013A40000000000000000000000000000000018088800000 s) ?_ ?_
    · exact hy0
    · refine State.toneAdmit_keeps (P := 105728) (B := 0x800000086840013A40000000000000000000000000000000018088800000) rfl rfl ?_ (fun y3 hy3 => ?_)
      · exact hy0
      · split
        · exact hy3
        · extract_lets -underBinder -useContext y5 y6
          have hy5 : Keeps 105728 0x800000086840013A40000000000000000000000000000000018088800000 s y5 := by
            refine Keeps.app (State.modEntry_keeps _ _ _) rfl rfl ?_
            exact hy3
          have hy6 : Keeps 105728 0x800000086840013A40000000000000000000000000000000018088800000 s y6 := by
            refine Keeps.app (State.toneHeard_keeps _ _ _) rfl rfl ?_
            exact hy5
          refine ite_of (Q := Keeps 105728 0x800000086840013A40000000000000000000000000000000018088800000 s) ?_ ?_
          · exact hy6
          · refine foldl_of (Q := Keeps 105728 0x800000086840013A40000000000000000000000000000000018088800000 s) ?_ (fun y7 y8 my8 hy7 => ?_)
            · exact hy6
            · refine Keeps.app (State.takeRefresh_keeps _ _ _) rfl rfl ?_
              exact hy7

theorem State.toneLoss_keeps (s : State) :
    Keeps 105728 0x800000084800002040000000000000000000000000000000018088800000 s (State.toneLoss s) := by
  have h_s : Keeps 105728 0x800000084800002040000000000000000000000000000000018088800000 s s := Keeps.rfl
  delta State.toneLoss
  split
  · refine Keeps.app (State.toneAbandon_keeps _) rfl rfl ?_
    exact h_s
  · refine ite_of (Q := Keeps 105728 0x800000084800002040000000000000000000000000000000018088800000 s) ?_ ?_
    · refine Keeps.app (State.toneAbandon_keeps _) rfl rfl ?_
      refine Keeps.app (State.toneTried_keeps _ _ _) rfl rfl ?_
      exact h_s
    · refine Keeps.app (State.toneAbandon_keeps _) rfl rfl ?_
      exact h_s

theorem State.toneCfg_keeps (s : State) (wasEn : Bool) :
    Keeps 105728 0x80000008580001B040000000000000000000000000000000018088802000 s (State.toneCfg s wasEn) := by
  have h_s : Keeps 105728 0x80000008580001B040000000000000000000000000000000018088802000 s s := Keeps.rfl
  delta State.toneCfg
  extract_lets -underBinder -useContext y0 y1 y2
  have hy1 : Keeps 105728 0x80000008580001B040000000000000000000000000000000018088802000 s y1 := by
    refine Keeps.set (.of rfl in_MTL_STATUS) ?_
    exact h_s
  have hy2 : Keeps 105728 0x80000008580001B040000000000000000000000000000000018088802000 s y2 := by
    refine foldl_of (Q := Keeps 105728 0x80000008580001B040000000000000000000000000000000018088802000 s) ?_ (fun y3 y4 my4 hy3 => ?_)
    · exact hy1
    · refine Keeps.app (State.linkDown_keeps _ _) rfl rfl ?_
      exact hy3
  refine ite_of (Q := Keeps 105728 0x80000008580001B040000000000000000000000000000000018088802000 s) ?_ ?_
  · refine Keeps.app (State.toneSettle_keeps _) rfl rfl ?_
    exact h_s
  · refine ite_of (Q := Keeps 105728 0x80000008580001B040000000000000000000000000000000018088802000 s) ?_ ?_
    · refine Keeps.app (State.toneSettle_keeps _) rfl rfl ?_
      exact hy2
    · refine Keeps.app (State.toneSettle_keeps _) rfl rfl ?_
      refine Keeps.app (State.modTone_keeps _ _) rfl rfl ?_
      refine Keeps.app (State.toneAbandon_keeps _) rfl rfl ?_
      exact hy2

theorem execMtlSegmentSetTimeout_keeps (j : Fin 32) (s : State) :
    KeepsO 2048 0 s (execMtlSegmentSetTimeout j s) := by
  have h_s : Keeps 2048 0 s s := Keeps.rfl
  delta execMtlSegmentSetTimeout
  refine KeepsO.next ?_
  refine State.cm_keeps (P := 2048) (B := 0) rfl rfl ?_ (fun y0 hy0 => ?_)
  · exact h_s
  · refine Keeps.app (State.modEntry_keeps _ _ _) rfl rfl ?_
    exact hy0

theorem execLineNoiseMeasurement_keeps (d : Desc) (noise : List Byte) (s : State) :
    KeepsO 256 0 s (execLineNoiseMeasurement d noise s) := by
  have h_s : Keeps 256 0 s s := Keeps.rfl
  delta execLineNoiseMeasurement
  refine KeepsO.next ?_
  refine State.command_keeps (P := 256) (B := 0) rfl rfl ?_ (fun y0 hy0 => ?_)
  · exact h_s
  · refine Keeps.app (State.ok_keeps _ _ _) rfl rfl ?_
    exact hy0

end Sys2Proof.Machine
end

