-- ==== Sys2Proof/Laws/KeepsUpdate.lean ====
section
/-! SUPPORT. What the operations of Machine/Update.lean can change, one lemma each (Laws/Keeps.lean says how it is read). -/

namespace Sys2Proof.Machine

theorem mem_groupList {g : Nat} (h : g ∈ groupList) : g < 8 := by
  simp only [groupList, List.mem_cons, List.not_mem_nil, or_false] at h
  omega

theorem mem_maskGroups {m g : Nat} (h : g ∈ maskGroups m) : g < 8 := mem_groupList (List.mem_filter.1 h).1

theorem mem_groupFilter {p : Nat → Bool} {g : Nat} (h : g ∈ groupList.filter p) : g < 8 := mem_groupList (List.mem_filter.1 h).1

theorem in_slotFld {g slot : Nat} (h : g < 8) : (0x1100000000000000000000000000000000000000000000000000000000000 : Nat).testBit (rowOf (slotFld g slot).off) = true ∧ (slotFld g slot).off ≠ R.HI_STATUS := by
  unfold slotFld
  split <;> exact in_UPD_SLOT g h

theorem State.modUpd_keeps (s : State) (f : UpdS → UpdS) :
    Keeps 16384 0 s (State.modUpd s f) := by
  have h_s : Keeps 16384 0 s s := Keeps.rfl
  delta State.modUpd
  exact Keeps.upd_ rfl h_s

theorem State.setFormat_keeps (s : State) (g : ℕ) (f : ℕ) :
    Keeps 16384 0 s (State.setFormat s g f) := by
  have h_s : Keeps 16384 0 s s := Keeps.rfl
  delta State.setFormat
  refine Keeps.app (State.modUpd_keeps _ _) rfl rfl ?_
  exact h_s

theorem State.putSettings_keeps (s : State) (i : Isl) (copy : List (ℕ × Word)) :
    Keeps 262144 (2 ^ 241 - 1) s (State.putSettings s i copy) := by
  have h_s : Keeps 262144 (2 ^ 241 - 1) s s := Keeps.rfl
  delta State.putSettings
  exact Keeps.regs rfl h_s

theorem State.eventEntry_keeps (s : State) (bytes : List Byte) :
    Keeps 16 0 s (State.eventEntry s bytes) := by
  have h_s : Keeps 16 0 s s := Keeps.rfl
  delta State.eventEntry
  extract_lets -underBinder -useContext y0 y1
  exact Keeps.bil_ rfl (BilS.Ext.same rfl rfl) h_s

theorem State.readSettings_keeps (s : State) (g : ℕ) (fmt : ℕ) :
    KeepsE 377104 (2 ^ 241 - 1) s (State.readSettings s g fmt) := by
  have h_s : Keeps 377104 (2 ^ 241 - 1) s s := Keeps.rfl
  delta State.readSettings
  extract_lets -underBinder -useContext y0 y1 y2 y3 y4 y5
  have hy2 : Keeps 377104 (2 ^ 241 - 1) s y2 := by
    refine ite_of (Q := Keeps 377104 (2 ^ 241 - 1) s) ?_ ?_
    · exact h_s
    · refine Keeps.app (State.modUpd_keeps _ _) rfl rfl ?_
      exact h_s
  have hy5 : Keeps 377104 (2 ^ 241 - 1) s y5 := by
    refine Keeps.app (State.modUpd_keeps _ _) rfl rfl ?_
    exact h_s
  refine ite_of (Q := KeepsE 377104 (2 ^ 241 - 1) s) ?_ ?_
  · refine KeepsE.mk ?_
    exact h_s
  · refine ite_of (Q := KeepsE 377104 (2 ^ 241 - 1) s) ?_ ?_
    · refine KeepsE.mk ?_
      refine Keeps.app (State.setFormat_keeps _ _ _) rfl rfl ?_
      exact hy2
    · try clear_value y3
      split
      · refine ite_of (Q := KeepsE 377104 (2 ^ 241 - 1) s) ?_ ?_
        · refine KeepsE.mk ?_
          refine Keeps.app (State.setFormat_keeps _ _ _) rfl rfl ?_
          refine Keeps.app (State.putSettings_keeps _ _ _) rfl rfl ?_
          exact hy5
        · refine KeepsE.mk ?_
          refine Keeps.app (State.eventEntry_keeps _ _) rfl rfl ?_
          refine Keeps.app (State.raise_keeps _ _) rfl rfl ?_
          refine Keeps.app (State.setFormat_keeps _ _ _) rfl rfl ?_
          refine Keeps.app (State.putSettings_keeps _ _ _) rfl rfl ?_
          exact hy5
      · refine KeepsE.mk ?_
        refine Keeps.app (State.eventEntry_keeps _ _) rfl rfl ?_
        refine Keeps.app (State.raise_keeps _ _) rfl rfl ?_
        refine Keeps.app (State.setFormat_keeps _ _ _) rfl rfl ?_
        refine Keeps.app (State.putSettings_keeps _ _ _) rfl rfl ?_
        exact hy5

theorem State.updAbandon_keeps (s : State) (cause : ℕ) :
    Keeps 114944 0x1940000000000000000000000000000000000000000000000018088800000 s (State.updAbandon s cause) := by
  have h_s : Keeps 114944 0x1940000000000000000000000000000000000000000000000018088800000 s s := Keeps.rfl
  delta State.updAbandon
  extract_lets -underBinder -useContext y0 y1 y4 y5
  have hy1 : Keeps 114944 0x1940000000000000000000000000000000000000000000000018088800000 s y1 := by
    refine foldl_of (Q := Keeps 114944 0x1940000000000000000000000000000000000000000000000018088800000 s) ?_ (fun y2 y3 my3 hy2 => ?_)
    · exact h_s
    · refine Keeps.set (.of rfl (in_UPD_SLOT _ (mem_maskGroups my3))) ?_
      refine Keeps.set (.of rfl (in_slotFld (mem_maskGroups my3))) ?_
      exact hy2
  have hy4 : Keeps 114944 0x1940000000000000000000000000000000000000000000000018088800000 s y4 := by
    refine Keeps.app (State.modUpd_keeps _ _) rfl rfl ?_
    exact hy1
  have hy5 : Keeps 114944 0x1940000000000000000000000000000000000000000000000018088800000 s y5 := by
    refine Keeps.set (.of rfl in_UPD_STATUS) ?_
    refine Keeps.set (.of rfl in_UPD_STATUS) ?_
    refine Keeps.set (.of rfl in_UPD_STATUS) ?_
    exact hy4
  refine Keeps.app (State.raise_keeps _ _) rfl rfl ?_
  exact hy5

theorem State.beginUpdate_keeps (s : State) (d : Desc) (gs : List ℕ) (hg : ∀ g ∈ gs, g < 8) :
    Keeps 16640 0x1140000000000000000000000000000000000000000000000000000000000 s (State.beginUpdate s d gs) := by
  have h_s : Keeps 16640 0x1140000000000000000000000000000000000000000000000000000000000 s s := Keeps.rfl
  delta State.beginUpdate
  extract_lets -underBinder -useContext y0 y1 y4
  have hy1 : Keeps 16640 0x1140000000000000000000000000000000000000000000000000000000000 s y1 := by
    refine foldl_of (Q := Keeps 16640 0x1140000000000000000000000000000000000000000000000000000000000 s) ?_ (fun y2 y3 my3 hy2 => ?_)
    · exact h_s
    · refine Keeps.set (.of rfl (in_slotFld (hg _ my3))) ?_
      exact hy2
  have hy4 : Keeps 16640 0x1140000000000000000000000000000000000000000000000000000000000 s y4 := by
    refine Keeps.app (State.modUpd_keeps _ _) rfl rfl ?_
    exact hy1
  refine Keeps.app (State.ok_keeps _ _ _) rfl rfl ?_
  refine Keeps.set (.of rfl in_UPD_STATUS) ?_
  refine Keeps.set (.of rfl in_UPD_STATUS) ?_
  exact hy4

theorem execRevert_keeps (d : Desc) (s : State) :
    KeepsO 16640 0x1140000000000000000000000000000000000000000000000000000000000 s (execRevert d s) := by
  have h_s : Keeps 16640 0x1140000000000000000000000000000000000000000000000000000000000 s s := Keeps.rfl
  delta execRevert
  extract_lets -underBinder -useContext y0 y1
  refine KeepsO.next ?_
  refine State.command_keeps (P := 16640) (B := 0x1140000000000000000000000000000000000000000000000000000000000) rfl rfl ?_ (fun y2 hy2 => ?_)
  · exact h_s
  · extract_lets -underBinder -useContext y3
    split
    · refine Keeps.app (State.complete_keeps _ _ _ _ _) rfl rfl ?_
      exact hy2
    · refine Keeps.app (State.beginUpdate_keeps _ _ _ (fun _ h => mem_maskGroups h)) rfl rfl ?_
      exact hy2

theorem execReceiveContainerPart_keeps (d : Desc) (s : State) :
    KeepsO 311552 0x80000000000000000000000000000000000000000000000000000000000 s (execReceiveContainerPart d s) := by
  have h_s : Keeps 311552 0x80000000000000000000000000000000000000000000000000000000000 s s := Keeps.rfl
  delta execReceiveContainerPart
  refine KeepsO.next ?_
  refine State.command_keeps (P := 311552) (B := 0x80000000000000000000000000000000000000000000000000000000000) rfl rfl ?_ (fun y0 hy0 => ?_)
  · exact h_s
  · extract_lets -underBinder -useContext y1 y2 y3 y4
    have hy4 : Keeps 311552 0x80000000000000000000000000000000000000000000000000000000000 s y4 := by
      refine Keeps.app (State.store_keeps _ _ _) rfl rfl ?_
      refine Keeps.app (State.modUpd_keeps _ _) rfl rfl ?_
      exact hy0
    refine ite_of (Q := Keeps 311552 0x80000000000000000000000000000000000000000000000000000000000 s) ?_ ?_
    · refine Keeps.app (State.complete_keeps _ _ _ _ _) rfl rfl ?_
      exact hy0
    · refine ite_of (Q := Keeps 311552 0x80000000000000000000000000000000000000000000000000000000000 s) ?_ ?_
      · refine Keeps.app (State.complete_keeps _ _ _ _ _) rfl rfl ?_
        exact hy0
      · refine Keeps.app (State.ok_keeps _ _ _) rfl rfl ?_
        refine Keeps.setReg (.of rfl in_UPD_INCOMING) ?_
        exact hy4

theorem execStageContainer_keeps (d : Desc) (unwrapOk : Bool) (s : State) :
    KeepsO 119040 0x1940000084000000000000000000000000000000000000000018088800000 s (execStageContainer d unwrapOk s) := by
  have h_s : Keeps 119040 0x1940000084000000000000000000000000000000000000000018088800000 s s := Keeps.rfl
  delta execStageContainer
  refine KeepsO.next ?_
  refine State.command_keeps (P := 119040) (B := 0x1940000084000000000000000000000000000000000000000018088800000) rfl rfl ?_ (fun y0 hy0 => ?_)
  · exact h_s
  · extract_lets -underBinder -useContext y1 y2 y3 y4 y5 y6 y7 y8
    split
    · refine Keeps.app (State.complete_keeps _ _ _ _ _) rfl rfl ?_
      exact hy0
    · extract_lets -underBinder -useContext y11 y12 y13 y18
      have hy12 : Keeps 119040 0x1940000084000000000000000000000000000000000000000018088800000 s y12 := by
        refine Keeps.app (State.countUse_keeps _ _) rfl rfl ?_
        exact hy0
      have hy13 : Keeps 119040 0x1940000084000000000000000000000000000000000000000018088800000 s y13 := by
        refine foldl_of (Q := Keeps 119040 0x1940000084000000000000000000000000000000000000000018088800000 s) ?_ (fun y14 y15 my15 hy14 => ?_)
        · exact hy12
        · extract_lets -underBinder -useContext y16 y17
          refine Keeps.app (State.modUpd_keeps _ _) rfl rfl ?_
          refine Keeps.set (.of rfl (in_slotFld (mem_groupFilter my15))) ?_
          exact hy14
      have hy18 : Keeps 119040 0x1940000084000000000000000000000000000000000000000018088800000 s y18 := by
        refine ite_of (Q := Keeps 119040 0x1940000084000000000000000000000000000000000000000018088800000 s) ?_ ?_
        · exact hy13
        · refine Keeps.set (.of rfl in_UPD_STATUS) ?_
          exact hy13
      refine Keeps.app (State.ok_keeps _ _ _) rfl rfl ?_
      refine Keeps.app (State.raise_keeps _ _) rfl rfl ?_
      exact hy18

theorem State.relink_keeps (s : State) :
    Keeps 32 0 s (State.relink s) := by
  have h_s : Keeps 32 0 s s := Keeps.rfl
  delta State.relink
  refine foldl_of (Q := Keeps 32 0 s) ?_ (fun y0 y1 my1 hy0 => ?_)
  · exact h_s
  · extract_lets -underBinder -useContext y2
    refine ite_of (Q := Keeps 32 0 s) ?_ ?_
    · refine Keeps.app (State.modSx_keeps _ _ _) rfl rfl ?_
      exact hy0
    · exact hy0

theorem State.loadEngine_keeps (s : State) (e : Fin 20) (slot : ℕ) (trial : Bool) (boot : ℕ) :
    Keeps 377104 (2 ^ 241 - 1) s (State.loadEngine s e slot trial boot) := by
  have h_s : Keeps 377104 (2 ^ 241 - 1) s s := Keeps.rfl
  delta State.loadEngine
  extract_lets -underBinder -useContext y0 y1
  split
  · rename_i _ y3 hx
    have hy3 : Keeps 377104 (2 ^ 241 - 1) s y3 := KeepsE.of_eq (by
        refine KeepsE.app (State.readSettings_keeps _ _ _) rfl rfl ?_
        exact h_s) hx
    extract_lets -underBinder -useContext y4 y5 y6
    have hy4 : Keeps 377104 (2 ^ 241 - 1) s y4 := by
      refine Keeps.setAny rfl ?_
      refine Keeps.setAny rfl ?_
      exact hy3
    have hy5 : Keeps 377104 (2 ^ 241 - 1) s y5 := by
      refine Keeps.setAny rfl ?_
      refine Keeps.setAny rfl ?_
      exact hy4
    have hy6 : Keeps 377104 (2 ^ 241 - 1) s y6 := by
      refine Keeps.setAny rfl ?_
      refine Keeps.setAny rfl ?_
      exact hy5
    refine Keeps.setBitAny rfl ?_
    exact hy6

theorem State.holdEngine_keeps (s : State) (e : Fin 20) :
    Keeps 0 0x1600000000000000000000000000000000000000000000000000000000024 s (State.holdEngine s e) := by
  have h_s : Keeps 0 0x1600000000000000000000000000000000000000000000000000000000024 s s := Keeps.rfl
  delta State.holdEngine
  extract_lets -underBinder -useContext y0 y1
  have hy0 : Keeps 0 0x1600000000000000000000000000000000000000000000000000000000024 s y0 := by
    refine Keeps.set (.of rfl (in_UPD_ENG_STAT _ (by first | exact Fin.isLt _ | omega))) ?_
    refine Keeps.set (.of rfl (in_UPD_ENG_VER _ (by first | exact Fin.isLt _ | omega))) ?_
    exact h_s
  have hy1 : Keeps 0 0x1600000000000000000000000000000000000000000000000000000000024 s y1 := by
    refine Keeps.set (.of rfl (in_UPD_ENG_STAT _ (by first | exact Fin.isLt _ | omega))) ?_
    refine Keeps.set (.of rfl (in_UPD_ENG_STAT _ (by first | exact Fin.isLt _ | omega))) ?_
    exact hy0
  refine Keeps.app (State.setIsl_keeps _ _ _) rfl rfl ?_
  refine Keeps.setBit (.of rfl in_MG_BOOT_STATUS) ?_
  exact hy1

theorem State.startEngine_keeps (s : State) (e : Fin 20) :
    Keeps 377104 (2 ^ 241 - 1) s (State.startEngine s e) := by
  have h_s : Keeps 377104 (2 ^ 241 - 1) s s := Keeps.rfl
  delta State.startEngine
  extract_lets -underBinder -useContext y0 y1 y2 y3
  refine ite_of (Q := Keeps 377104 (2 ^ 241 - 1) s) ?_ ?_
  · refine Keeps.setAny rfl ?_
    refine Keeps.app (State.loadEngine_keeps _ _ _ _ _) rfl rfl ?_
    exact h_s
  · refine ite_of (Q := Keeps 377104 (2 ^ 241 - 1) s) ?_ ?_
    · refine Keeps.app (State.raise_keeps _ _) rfl rfl ?_
      refine Keeps.setAny rfl ?_
      refine Keeps.app (State.loadEngine_keeps _ _ _ _ _) rfl rfl ?_
      exact h_s
    · refine Keeps.app (State.raise_keeps _ _) rfl rfl ?_
      refine Keeps.app (State.holdEngine_keeps _ _) rfl rfl ?_
      exact h_s

theorem State.fallBack_keeps (s : State) (cause : ℕ) :
    Keeps 377136 (2 ^ 241 - 1) s (State.fallBack s cause) := by
  have h_s : Keeps 377136 (2 ^ 241 - 1) s s := Keeps.rfl
  delta State.fallBack
  extract_lets -underBinder -useContext y0 y1 y4
  have hy0 : Keeps 377136 (2 ^ 241 - 1) s y0 := by
    refine Keeps.setAny rfl ?_
    exact h_s
  have hy1 : Keeps 377136 (2 ^ 241 - 1) s y1 := by
    refine foldl_of (Q := Keeps 377136 (2 ^ 241 - 1) s) ?_ (fun y2 y3 my3 hy2 => ?_)
    · exact hy0
    · refine Keeps.app (State.startEngine_keeps _ _) rfl rfl ?_
      refine Keeps.app (State.noteReset_keeps _ _ _) rfl rfl ?_
      exact hy2
  have hy4 : Keeps 377136 (2 ^ 241 - 1) s y4 := by
    refine ite_of (Q := Keeps 377136 (2 ^ 241 - 1) s) ?_ ?_
    · refine Keeps.app (State.relink_keeps _) rfl rfl ?_
      exact hy1
    · exact hy1
  refine ite_of (Q := Keeps 377136 (2 ^ 241 - 1) s) ?_ ?_
  · exact h_s
  · refine Keeps.app (State.updAbandon_keeps _ _) rfl rfl ?_
    exact hy4

theorem execUpdateStep_keeps (verified : Bool) (s : State) :
    KeepsO 377136 (2 ^ 241 - 1) s (execUpdateStep verified s) := by
  have h_s : Keeps 377136 (2 ^ 241 - 1) s s := Keeps.rfl
  delta execUpdateStep
  refine ite_of (Q := KeepsO 377136 (2 ^ 241 - 1) s) ?_ ?_
  · refine KeepsO.next ?_
    exact h_s
  · split
    · refine KeepsO.next ?_
      exact h_s
    · extract_lets -underBinder -useContext y1 y2 y3 y4 y5 y6 y7
      have hy5 : Keeps 377136 (2 ^ 241 - 1) s y5 := by
        refine Keeps.app (State.noteReset_keeps _ _ _) rfl rfl ?_
        exact h_s
      have hy6 : Keeps 377136 (2 ^ 241 - 1) s y6 := by
        refine Keeps.setAny rfl ?_
        refine Keeps.app (State.loadEngine_keeps _ _ _ _ _) rfl rfl ?_
        exact hy5
      have hy7 : Keeps 377136 (2 ^ 241 - 1) s y7 := by
        refine Keeps.app (State.modUpd_keeps _ _) rfl rfl ?_
        refine Keeps.app (State.raise_keeps _ _) rfl rfl ?_
        exact hy5
      refine ite_of (Q := KeepsO 377136 (2 ^ 241 - 1) s) ?_ ?_
      · refine KeepsO.next ?_
        refine Keeps.app (State.fallBack_keeps _ _) rfl rfl ?_
        exact hy5
      · refine ite_of (Q := KeepsO 377136 (2 ^ 241 - 1) s) ?_ ?_
        · refine KeepsO.next ?_
          refine Keeps.app (State.modUpd_keeps _ _) rfl rfl ?_
          exact hy6
        · refine KeepsO.next ?_
          refine Keeps.app (State.fallBack_keeps _ _) rfl rfl ?_
          exact hy7

theorem State.commitUpdate_keeps (s : State) :
    Keeps 114944 0x1D40000000000000000000000000000000000000000000000018088800000 s (State.commitUpdate s) := by
  have h_s : Keeps 114944 0x1D40000000000000000000000000000000000000000000000018088800000 s s := Keeps.rfl
  delta State.commitUpdate
  extract_lets -underBinder -useContext y0 y1 y7 y11 y12
  have hy1 : Keeps 114944 0x1D40000000000000000000000000000000000000000000000018088800000 s y1 := by
    refine foldl_of (Q := Keeps 114944 0x1D40000000000000000000000000000000000000000000000018088800000 s) ?_ (fun y2 y3 my3 hy2 => ?_)
    · exact h_s
    · extract_lets -underBinder -useContext y4 y5 y6
      refine Keeps.set (.of rfl (in_UPD_ENG_STAT _ (by first | exact Fin.isLt _ | omega))) ?_
      refine Keeps.set (.of rfl (in_UPD_ENG_STAT _ (by first | exact Fin.isLt _ | omega))) ?_
      exact hy2
  have hy7 : Keeps 114944 0x1D40000000000000000000000000000000000000000000000018088800000 s y7 := by
    refine foldl_of (Q := Keeps 114944 0x1D40000000000000000000000000000000000000000000000018088800000 s) ?_ (fun y8 y9 my9 hy8 => ?_)
    · exact hy1
    · extract_lets -underBinder -useContext y10
      refine Keeps.set (.of rfl (in_slotFld (mem_maskGroups my9))) ?_
      refine Keeps.set (.of rfl (in_slotFld (mem_maskGroups my9))) ?_
      exact hy8
  have hy11 : Keeps 114944 0x1D40000000000000000000000000000000000000000000000018088800000 s y11 := by
    refine Keeps.app (State.modUpd_keeps _ _) rfl rfl ?_
    exact hy7
  have hy12 : Keeps 114944 0x1D40000000000000000000000000000000000000000000000018088800000 s y12 := by
    refine Keeps.set (.of rfl in_UPD_STATUS) ?_
    refine Keeps.set (.of rfl in_UPD_STATUS) ?_
    exact hy11
  refine Keeps.app (State.raise_keeps _ _) rfl rfl ?_
  exact hy12

theorem State.tryCommit_keeps (s : State) :
    Keeps 114944 0x1D40000000000000000000000000000000000000000000000018088800000 s (State.tryCommit s) := by
  have h_s : Keeps 114944 0x1D40000000000000000000000000000000000000000000000018088800000 s s := Keeps.rfl
  delta State.tryCommit
  refine ite_of (Q := Keeps 114944 0x1D40000000000000000000000000000000000000000000000018088800000 s) ?_ ?_
  · refine Keeps.app (State.commitUpdate_keeps _) rfl rfl ?_
    exact h_s
  · exact h_s

theorem execUpdateStepTimeout_keeps (s : State) :
    KeepsO 377136 (2 ^ 241 - 1) s (execUpdateStepTimeout s) := by
  have h_s : Keeps 377136 (2 ^ 241 - 1) s s := Keeps.rfl
  delta execUpdateStepTimeout
  refine ite_of (Q := KeepsO 377136 (2 ^ 241 - 1) s) ?_ ?_
  · refine KeepsO.next ?_
    exact h_s
  · refine KeepsO.next ?_
    refine Keeps.app (State.fallBack_keeps _ _) rfl rfl ?_
    exact h_s

theorem execConfirmHealth_keeps (d : Desc) (s : State) :
    KeepsO 114944 0x1D40000000000000000000000000000000000000000000000018088800000 s (execConfirmHealth d s) := by
  have h_s : Keeps 114944 0x1D40000000000000000000000000000000000000000000000018088800000 s s := Keeps.rfl
  delta execConfirmHealth
  refine KeepsO.next ?_
  refine State.command_keeps (P := 114944) (B := 0x1D40000000000000000000000000000000000000000000000018088800000) rfl rfl ?_ (fun y0 hy0 => ?_)
  · exact h_s
  · refine ite_of (Q := Keeps 114944 0x1D40000000000000000000000000000000000000000000000018088800000 s) ?_ ?_
    · refine Keeps.app (State.complete_keeps _ _ _ _ _) rfl rfl ?_
      exact hy0
    · refine Keeps.app (State.tryCommit_keeps _) rfl rfl ?_
      refine Keeps.app (State.ok_keeps _ _ _) rfl rfl ?_
      refine Keeps.app (State.modUpd_keeps _ _) rfl rfl ?_
      exact hy0

theorem execCatchWindowEnd_keeps (s : State) :
    KeepsO 377136 (2 ^ 241 - 1) s (execCatchWindowEnd s) := by
  have h_s : Keeps 377136 (2 ^ 241 - 1) s s := Keeps.rfl
  delta execCatchWindowEnd
  refine ite_of (Q := KeepsO 377136 (2 ^ 241 - 1) s) ?_ ?_
  · refine KeepsO.next ?_
    exact h_s
  · refine KeepsO.next ?_
    refine Keeps.app (State.fallBack_keeps _ _) rfl rfl ?_
    exact h_s

theorem State.updSpoil_keeps (s : State) (i : Isl) :
    Keeps 377136 (2 ^ 241 - 1) s (State.updSpoil s i) := by
  have h_s : Keeps 377136 (2 ^ 241 - 1) s s := Keeps.rfl
  delta State.updSpoil
  refine ite_of (Q := Keeps 377136 (2 ^ 241 - 1) s) ?_ ?_
  · refine Keeps.app (State.fallBack_keeps _ _) rfl rfl ?_
    exact h_s
  · exact h_s

theorem execHealthReport_keeps (e : Fin 20) (s : State) :
    KeepsO 114944 0x1D40000000000000000000000000000000000000000000000018088800000 s (execHealthReport e s) := by
  have h_s : Keeps 114944 0x1D40000000000000000000000000000000000000000000000018088800000 s s := Keeps.rfl
  delta execHealthReport
  extract_lets -underBinder -useContext y0
  refine ite_of (Q := KeepsO 114944 0x1D40000000000000000000000000000000000000000000000018088800000 s) ?_ ?_
  · refine KeepsO.next ?_
    exact h_s
  · refine KeepsO.next ?_
    refine Keeps.app (State.tryCommit_keeps _) rfl rfl ?_
    refine Keeps.set (.of rfl (in_UPD_ENG_STAT _ (by first | exact Fin.isLt _ | omega))) ?_
    exact h_s

theorem execActivate_keeps (d : Desc) (s : State) :
    KeepsO 16640 0x1140000000000000000000000000000000000000000000000000000000000 s (execActivate d s) := by
  have h_s : Keeps 16640 0x1140000000000000000000000000000000000000000000000000000000000 s s := Keeps.rfl
  delta execActivate
  extract_lets -underBinder -useContext y0
  refine KeepsO.next ?_
  refine State.command_keeps (P := 16640) (B := 0x1140000000000000000000000000000000000000000000000000000000000) rfl rfl ?_ (fun y1 hy1 => ?_)
  · exact h_s
  · split
    · refine Keeps.app (State.complete_keeps _ _ _ _ _) rfl rfl ?_
      exact hy1
    · refine Keeps.app (State.beginUpdate_keeps _ _ _ (fun _ h => mem_maskGroups h)) rfl rfl ?_
      exact hy1

theorem execEngineRunningReport_keeps (e : Fin 20) (s : State) :
    KeepsO 114944 0x1D40000000000000000000000000000000000000000000000018088800000 s (execEngineRunningReport e s) := by
  have h_s : Keeps 114944 0x1D40000000000000000000000000000000000000000000000018088800000 s s := Keeps.rfl
  delta execEngineRunningReport
  extract_lets -underBinder -useContext y0 y1 y2 y3
  have hy0 : Keeps 114944 0x1D40000000000000000000000000000000000000000000000018088800000 s y0 := by
    refine Keeps.app (State.raise_keeps _ _) rfl rfl ?_
    refine Keeps.set (.of rfl (in_UPD_ENG_STAT _ (by first | exact Fin.isLt _ | omega))) ?_
    exact h_s
  have hy2 : Keeps 114944 0x1D40000000000000000000000000000000000000000000000018088800000 s y2 := by
    refine Keeps.app (State.modUpd_keeps _ _) rfl rfl ?_
    exact hy0
  have hy3 : Keeps 114944 0x1D40000000000000000000000000000000000000000000000018088800000 s y3 := by
    refine Keeps.app (State.modUpd_keeps _ _) rfl rfl ?_
    exact hy2
  refine ite_of (Q := KeepsO 114944 0x1D40000000000000000000000000000000000000000000000018088800000 s) ?_ ?_
  · refine KeepsO.next ?_
    exact h_s
  · refine ite_of (Q := KeepsO 114944 0x1D40000000000000000000000000000000000000000000000018088800000 s) ?_ ?_
    · refine KeepsO.next ?_
      refine Keeps.set (.of rfl in_UPD_STATUS) ?_
      exact hy2
    · refine KeepsO.next ?_
      refine Keeps.app (State.tryCommit_keeps _) rfl rfl ?_
      refine Keeps.set (.of rfl in_UPD_STATUS) ?_
      refine Keeps.set (.of rfl in_UPD_STATUS) ?_
      exact hy3

end Sys2Proof.Machine
end

