-- ==== Sys2Proof/Laws/KeepsResets.lean ====
section
/-! SUPPORT. What the operations of Machine/Resets.lean can change, one lemma each (Laws/Keeps.lean says how it is read). -/

namespace Sys2Proof.Machine

theorem State.spanDemands_keeps (s : State) (t1 : ℕ) :
    Keeps 99600 0x800000000100000000000000003000000000000000000000018088800000 s (State.spanDemands s t1) := by
  have h_s : Keeps 99600 0x800000000100000000000000003000000000000000000000018088800000 s s := Keeps.rfl
  delta State.spanDemands
  refine foldl_of (Q := Keeps 99600 0x800000000100000000000000003000000000000000000000018088800000 s) ?_ (fun y0 y1 my1 hy0 => ?_)
  · exact h_s
  · extract_lets -underBinder -useContext y2 y3
    refine ite_of (Q := Keeps 99600 0x800000000100000000000000003000000000000000000000018088800000 s) ?_ ?_
    · exact hy0
    · refine ite_of (Q := Keeps 99600 0x800000000100000000000000003000000000000000000000018088800000 s) ?_ ?_
      · refine Keeps.app (State.closeDemand_keeps _ _ _ _) rfl rfl ?_
        exact hy0
      · refine Keeps.app (State.setBill_keeps _ _ _ (fun h => BilS.sums_point h _)) rfl rfl ?_
        exact hy0

theorem State.owedReadings_keeps (s : State) :
    Keeps 48 0x300000000000000000000000000000000 s (State.owedReadings s) := by
  have h_s : Keeps 48 0x300000000000000000000000000000000 s s := Keeps.rfl
  delta State.owedReadings
  refine foldl_of (Q := Keeps 48 0x300000000000000000000000000000000 s) ?_ (fun y0 y1 my1 hy0 => ?_)
  · exact h_s
  · extract_lets -underBinder -useContext y2 y3 y4
    have hy4 : Keeps 48 0x300000000000000000000000000000000 s y4 := by
      exact Keeps.bil_ rfl (BilS.Ext.same rfl rfl) hy0
    refine Keeps.app (State.buildReading_keeps _ _ _ _) rfl rfl ?_
    refine Keeps.app (State.modSx_keeps _ _ _) rfl rfl ?_
    exact hy4

theorem State.billRestart_keeps (s : State) (ts : ℕ) (firstStart : Bool) :
    Keeps 99632 0x8000000001000000000000000033F7800000000000000000018088800000 s (State.billRestart s ts firstStart) := by
  have h_s : Keeps 99632 0x8000000001000000000000000033F7800000000000000000018088800000 s s := Keeps.rfl
  delta State.billRestart
  extract_lets -underBinder -useContext y0 y1 y2 y3 y4 y5
  have hy3 : Keeps 99632 0x8000000001000000000000000033F7800000000000000000018088800000 s y3 := by
    refine Keeps.app (State.spanDemands_keeps _ _) rfl rfl ?_
    refine Keeps.app (State.applySteps_keeps _ _ _) rfl rfl ?_
    exact h_s
  have hy4 : Keeps 99632 0x8000000001000000000000000033F7800000000000000000018088800000 s y4 := by
    refine ite_of (Q := Keeps 99632 0x8000000001000000000000000033F7800000000000000000018088800000 s) ?_ ?_
    · exact hy3
    · refine Keeps.app (State.periodStep_keeps _ _ _ _) rfl rfl ?_
      exact hy3
  have hy5 : Keeps 99632 0x8000000001000000000000000033F7800000000000000000018088800000 s y5 := by
    refine Keeps.app (State.takeReadings_keeps _ _ _) rfl rfl ?_
    exact hy4
  refine Keeps.app (State.owedReadings_keeps _) rfl rfl ?_
  refine Keeps.app (State.commitRate_keeps _ _ _) rfl rfl ?_
  exact hy5

theorem State.vlStart_keeps (s : State) (code : ℕ) :
    Keeps 107833 0x800C480001000000000000000033F7800000000000000000018088800000 s (State.vlStart s code) := by
  have h_s : Keeps 107833 0x800C480001000000000000000033F7800000000000000000018088800000 s s := Keeps.rfl
  delta State.vlStart
  extract_lets -underBinder -useContext y0 y1 y2 y3 y4 y5 y6 y7 y8 y9 y10 y11 y12 y13 y14
  have hy3 : Keeps 107833 0x800C480001000000000000000033F7800000000000000000018088800000 s y3 := by
    refine ite_of (Q := Keeps 107833 0x800C480001000000000000000033F7800000000000000000018088800000 s) ?_ ?_
    · refine Keeps.app (State.modVot_keeps _ _) rfl rfl ?_
      exact h_s
    · exact h_s
  have hy8 : Keeps 107833 0x800C480001000000000000000033F7800000000000000000018088800000 s y8 := by
    refine Keeps.app (State.log_keeps _ _) rfl rfl ?_
    exact hy3
  have hy9 : Keeps 107833 0x800C480001000000000000000033F7800000000000000000018088800000 s y9 := by
    refine ite_of (Q := Keeps 107833 0x800C480001000000000000000033F7800000000000000000018088800000 s) ?_ ?_
    · refine Keeps.app (State.setQuality_keeps _ _) rfl rfl ?_
      exact hy8
    · exact hy8
  have hy10 : Keeps 107833 0x800C480001000000000000000033F7800000000000000000018088800000 s y10 := by
    refine ite_of (Q := Keeps 107833 0x800C480001000000000000000033F7800000000000000000018088800000 s) ?_ ?_
    · refine Keeps.app (State.billRestart_keeps _ _ _) rfl rfl ?_
      exact hy9
    · exact hy9
  have hy13 : Keeps 107833 0x800C480001000000000000000033F7800000000000000000018088800000 s y13 := by
    refine ite_of (Q := Keeps 107833 0x800C480001000000000000000033F7800000000000000000018088800000 s) ?_ ?_
    · exact Keeps.parts hy10 rfl rfl rfl (.inl rfl) (.inr rfl) (.inr rfl) (.inr rfl) (.inl rfl) (BilS.Ext.same rfl rfl) (.inr rfl) (.inr rfl) (.inr rfl) (.inr rfl) (.inr rfl) (.inr rfl) (.inr rfl) (.inr rfl) (.inr rfl) (.inr rfl) (.inr rfl) (.inr rfl)
    · exact hy10
  have hy14 : Keeps 107833 0x800C480001000000000000000033F7800000000000000000018088800000 s y14 := by
    refine ite_of (Q := Keeps 107833 0x800C480001000000000000000033F7800000000000000000018088800000 s) ?_ ?_
    · refine Keeps.app (State.restoreStress_keeps _) rfl rfl ?_
      exact hy13
    · exact hy13
  refine Keeps.app (State.displayEn_keeps _ _) rfl rfl ?_
  refine Keeps.set (.of rfl in_LDP_STATUS) ?_
  refine Keeps.set (.of rfl in_LDP_CTRL) ?_
  refine Keeps.app (State.displayRestart_keeps _) rfl rfl ?_
  exact hy14

theorem State.apFenced_keeps (s : State) :
    Keeps 64 0x10580000000000000000000000000000000000000 s (State.apFenced s) := by
  have h_s : Keeps 64 0x10580000000000000000000000000000000000000 s s := Keeps.rfl
  delta State.apFenced
  refine ite_of (Q := Keeps 64 0x10580000000000000000000000000000000000000 s) ?_ ?_
  · refine foldl_of (Q := Keeps 64 0x10580000000000000000000000000000000000000 s) ?_ (fun y0 y1 my1 hy0 => ?_)
    · exact h_s
    · refine Keeps.app (State.openPoint_keeps _ _) rfl rfl ?_
      exact hy0
  · exact h_s

theorem State.apStart_keeps (s : State) :
    Keeps 99696 0x800000000100000000010588030003000000000000000000018088800000 s (State.apStart s) := by
  have h_s : Keeps 99696 0x800000000100000000010588030003000000000000000000018088800000 s s := Keeps.rfl
  delta State.apStart
  extract_lets -underBinder -useContext y0
  have hy0 : Keeps 99696 0x800000000100000000010588030003000000000000000000018088800000 s y0 := by
    refine foldl_of (Q := Keeps 99696 0x800000000100000000010588030003000000000000000000018088800000 s) ?_ (fun y1 y2 my2 hy1 => ?_)
    · exact h_s
    · split
      · refine Keeps.app (State.sessAbsent_keeps _ _) rfl rfl ?_
        exact hy1
      · refine Keeps.app (State.sessAbsent_keeps _ _) rfl rfl ?_
        exact hy1
      · refine Keeps.app (State.sessAbsent_keeps _ _) rfl rfl ?_
        exact hy1
      · refine Keeps.app (State.sessAbsent_keeps _ _) rfl rfl ?_
        exact hy1
      · extract_lets -underBinder -useContext y3 y4
        have hy4 : Keeps 99696 0x800000000100000000010588030003000000000000000000018088800000 s y4 := by
          refine Keeps.app (State.modSx_keeps _ _ _) rfl rfl ?_
          exact hy1
        refine Keeps.app (State.showPilot_keeps _ _) rfl rfl ?_
        refine Keeps.app (State.closePoint_keeps _ _) rfl rfl ?_
        refine Keeps.app (State.claimIm_keeps _ _) rfl rfl ?_
        exact hy4
      · refine Keeps.app (State.showPilot_keeps _ _) rfl rfl ?_
        refine Keeps.app (State.sessTryEnd_keeps _ _) rfl rfl ?_
        refine Keeps.app (State.claimIm_keeps _ _) rfl rfl ?_
        exact hy1
      · refine Keeps.app (State.leaveIfAbsent_keeps _ _) rfl rfl ?_
        refine Keeps.app (State.showPilot_keeps _ _) rfl rfl ?_
        exact hy1
  refine Keeps.app (State.nextBound_keeps _) rfl rfl ?_
  exact hy0

theorem State.rootStart_keeps (s : State) (healthOk : Bool) :
    Keeps 233728 0x80000008C000000000000000000000000000000000000000018088800004 s (State.rootStart s healthOk) := by
  have h_s : Keeps 233728 0x80000008C000000000000000000000000000000000000000018088800004 s s := Keeps.rfl
  delta State.rootStart
  extract_lets -underBinder -useContext y0 y1
  have hy1 : Keeps 233728 0x80000008C000000000000000000000000000000000000000018088800004 s y1 := by
    exact Keeps.key_ rfl h_s
  refine ite_of (Q := Keeps 233728 0x80000008C000000000000000000000000000000000000000018088800004 s) ?_ ?_
  · refine Keeps.app (State.keyShow_keeps _) rfl rfl ?_
    exact h_s
  · refine ite_of (Q := Keeps 233728 0x80000008C000000000000000000000000000000000000000018088800004 s) ?_ ?_
    · refine Keeps.app (State.keyShow_keeps _) rfl rfl ?_
      refine Keeps.app (State.raise_keeps _ _) rfl rfl ?_
      refine Keeps.set (.of rfl in_KEY_STATUS) ?_
      exact h_s
    · refine ite_of (Q := Keeps 233728 0x80000008C000000000000000000000000000000000000000018088800004 s) ?_ ?_
      · refine Keeps.app (State.keyShow_keeps _) rfl rfl ?_
        refine Keeps.app (State.raise_keeps _ _) rfl rfl ?_
        refine Keeps.set (.of rfl in_KEY_STATUS) ?_
        exact hy1
      · split
        · rename_i _ y3 hx
          have hy3 : Keeps 233728 0x80000008C000000000000000000000000000000000000000018088800004 s y3 := KeepsE.of_eq (by
              refine KeepsE.app (State.fresh_keeps _) rfl rfl ?_
              exact h_s) hx
          extract_lets -underBinder -useContext y4 y5 y6
          have hy5 : Keeps 233728 0x80000008C000000000000000000000000000000000000000018088800004 s y5 := by
            exact Keeps.key_ rfl hy3
          have hy6 : Keeps 233728 0x80000008C000000000000000000000000000000000000000018088800004 s y6 := by
            refine Keeps.set (.of rfl in_MG_BOOT_STATUS) ?_
            refine Keeps.set (.of rfl in_KEY_LIFE) ?_
            exact hy5
          refine Keeps.app (State.keyShow_keeps _) rfl rfl ?_
          refine Keeps.app (State.raise_keeps _ _) rfl rfl ?_
          exact hy6

theorem State.rootRetry_keeps (s : State) :
    Keeps 233728 0x80000008C000000000000000000000000000000000000000018088800004 s (State.rootRetry s) := by
  have h_s : Keeps 233728 0x80000008C000000000000000000000000000000000000000018088800004 s s := Keeps.rfl
  delta State.rootRetry
  refine ite_of (Q := Keeps 233728 0x80000008C000000000000000000000000000000000000000018088800004 s) ?_ ?_
  · exact h_s
  · split
    · rename_i _ y1 hx
      have hy1 : Keeps 233728 0x80000008C000000000000000000000000000000000000000018088800004 s y1 := KeepsE.of_eq (by
          refine KeepsE.app (State.fresh_keeps _) rfl rfl ?_
          exact h_s) hx
      refine Keeps.app (State.rootStart_keeps _ _) rfl rfl ?_
      refine Keeps.set (.of rfl in_KEY_STATUS) ?_
      refine Keeps.set (.of rfl in_KEY_STATUS) ?_
      exact hy1

theorem State.startRecords_keeps (s : State) (code : ℕ) :
    Keeps 2 7 s (State.startRecords s code) := by
  have h_s : Keeps 2 7 s s := Keeps.rfl
  delta State.startRecords
  extract_lets -underBinder -useContext y0 y1 y2 y3
  have hy0 : Keeps 2 7 s y0 := by
    refine Keeps.count (.of rfl in_MG_RESET_CNT) ?_
    refine Keeps.set (.of rfl in_MG_RESET_CAUSE) ?_
    exact h_s
  have hy1 : Keeps 2 7 s y1 := by
    refine Keeps.set (.of rfl in_MG_RESET_CAUSE) ?_
    refine Keeps.set (.of rfl in_MG_RESET_CAUSE) ?_
    refine Keeps.set (.of rfl in_MG_RESET_CNT) ?_
    exact hy0
  have hy2 : Keeps 2 7 s y2 := by
    refine Keeps.setReg (.of rfl in_MG_BOOT_STATUS) ?_
    exact hy1
  exact Keeps.isl_ rfl hy2

theorem State.pwStart_keeps (s : State) :
    Keeps 64 0x10580000000000000000000000000000000000000 s (State.pwStart s) := by
  have h_s : Keeps 64 0x10580000000000000000000000000000000000000 s s := Keeps.rfl
  delta State.pwStart
  refine ite_of (Q := Keeps 64 0x10580000000000000000000000000000000000000 s) ?_ ?_
  · refine foldl_of (Q := Keeps 64 0x10580000000000000000000000000000000000000 s) ?_ (fun y0 y1 my1 hy0 => ?_)
    · exact h_s
    · refine Keeps.app (State.closePoint_keeps _ _) rfl rfl ?_
      exact hy0
  · exact h_s

theorem State.chanDown_keeps (s : State) (c : Fin 3) :
    Keeps 4 0x404100000000000 s (State.chanDown s c) := by
  have h_s : Keeps 4 0x404100000000000 s s := Keeps.rfl
  delta State.chanDown
  extract_lets -underBinder -useContext y0 y1 y2 y3 y4
  have hy1 : Keeps 4 0x404100000000000 s y1 := by
    refine Keeps.app (State.setChan_keeps _ _ _) rfl rfl ?_
    exact h_s
  have hy3 : Keeps 4 0x404100000000000 s y3 := by
    exact Keeps.met_ rfl hy1
  have hy4 : Keeps 4 0x404100000000000 s y4 := by
    refine Keeps.setBit (.of rfl in_MET_STATUS) ?_
    refine Keeps.setBit (.of rfl in_MET_STATUS) ?_
    exact hy3
  refine Keeps.app (State.dueTests_keeps _) rfl rfl ?_
  refine Keeps.app (State.abortTests_keeps _) rfl rfl ?_
  exact hy4

theorem State.checkReady_keeps (s : State) :
    Keeps 98560 0x800000000000000000000000000000000000000000000000018088800004 s (State.checkReady s) := by
  have h_s : Keeps 98560 0x800000000000000000000000000000000000000000000000018088800004 s s := Keeps.rfl
  delta State.checkReady
  extract_lets -underBinder -useContext y0 y1
  have hy1 : Keeps 98560 0x800000000000000000000000000000000000000000000000018088800004 s y1 := by
    refine Keeps.setSat (.of rfl in_MG_BOOT_STATUS) ?_
    refine Keeps.set (.of rfl in_MG_BOOT_STATUS) ?_
    exact h_s
  refine ite_of (Q := Keeps 98560 0x800000000000000000000000000000000000000000000000018088800004 s) ?_ ?_
  · exact h_s
  · refine Keeps.app (State.raise_keeps _ _) rfl rfl ?_
    exact hy1

theorem State.ksStart_keeps (s : State) :
    Keeps 102656 0x800000C8C000000000000000000000000000000000000000018088800000 s (State.ksStart s) := by
  have h_s : Keeps 102656 0x800000C8C000000000000000000000000000000000000000018088800000 s s := Keeps.rfl
  delta State.ksStart
  extract_lets -underBinder -useContext y0 y1 y2
  have hy1 : Keeps 102656 0x800000C8C000000000000000000000000000000000000000018088800000 s y1 := by
    exact Keeps.key_ rfl h_s
  have hy2 : Keeps 102656 0x800000C8C000000000000000000000000000000000000000018088800000 s y2 := by
    refine Keeps.app (State.keyShow_keeps _) rfl rfl ?_
    refine Keeps.set (.of rfl in_KEY_SLOT_SEL) ?_
    exact hy1
  refine foldl_of (Q := Keeps 102656 0x800000C8C000000000000000000000000000000000000000018088800000 s) ?_ (fun y3 y4 my4 hy3 => ?_)
  · exact hy2
  · refine ite_of (Q := Keeps 102656 0x800000C8C000000000000000000000000000000000000000018088800000 s) ?_ ?_
    · refine Keeps.app (State.tamper_keeps _ _) rfl rfl ?_
      exact hy3
    · exact hy3

theorem State.islandUp_keeps (s : State) (i : Isl) :
    Keeps 114681 0x80CC48C8D90001B0402505880333F7802800000000000000018088802000 s (State.islandUp s i) := by
  have h_s : Keeps 114681 0x80CC48C8D90001B0402505880333F7802800000000000000018088802000 s s := Keeps.rfl
  delta State.islandUp
  split
  · refine Keeps.app (State.unfenceChan_keeps _ _) rfl rfl ?_
    exact h_s
  · refine Keeps.app (State.unfenceChan_keeps _ _) rfl rfl ?_
    exact h_s
  · refine Keeps.app (State.unfenceChan_keeps _ _) rfl rfl ?_
    exact h_s
  · refine Keeps.app (State.vlStart_keeps _ _) rfl rfl ?_
    exact h_s
  · refine Keeps.app (State.apStart_keeps _) rfl rfl ?_
    refine Keeps.app (State.queOwnerReset_keeps _ _) rfl rfl ?_
    refine Keeps.app (State.queFenced_keeps _ _ _) rfl rfl ?_
    exact h_s
  · refine Keeps.app (State.queOwnerReset_keeps _ _) rfl rfl ?_
    refine Keeps.app (State.queFenced_keeps _ _ _) rfl rfl ?_
    exact h_s
  · refine Keeps.app (State.toneSettle_keeps _) rfl rfl ?_
    refine Keeps.app (State.toneStart_keeps _) rfl rfl ?_
    refine Keeps.app (State.startDraw_keeps _) rfl rfl ?_
    refine Keeps.app (State.queOwnerReset_keeps _ _) rfl rfl ?_
    refine Keeps.app (State.queFenced_keeps _ _ _) rfl rfl ?_
    exact h_s
  · refine Keeps.app (State.relink_keeps _) rfl rfl ?_
    refine Keeps.app (State.queOwnerReset_keeps _ _) rfl rfl ?_
    refine Keeps.app (State.queFenced_keeps _ _ _) rfl rfl ?_
    exact h_s
  · refine Keeps.app (State.sfUp_keeps _) rfl rfl ?_
    exact h_s
  · refine Keeps.app (State.ksStart_keeps _) rfl rfl ?_
    exact h_s
  · refine Keeps.app (State.pwStart_keeps _) rfl rfl ?_
    exact h_s
  · exact h_s
  · exact h_s

theorem State.resetRegs_keeps (s : State) (por : Bool) (l : List Isl) :
    Keeps 262144 (2 ^ 241 - 1) s (State.resetRegs s por l) := by
  have h_s : Keeps 262144 (2 ^ 241 - 1) s s := Keeps.rfl
  delta State.resetRegs
  exact Keeps.regs rfl h_s

theorem State.vlDown_keeps (s : State) :
    Keeps 12 0xFFFC000000000000000000000 s (State.vlDown s) := by
  have h_s : Keeps 12 0xFFFC000000000000000000000 s s := Keeps.rfl
  delta State.vlDown
  extract_lets -underBinder -useContext y0 y1 y2
  have hy0 : Keeps 12 0xFFFC000000000000000000000 s y0 := by
    refine Keeps.app (State.setWindow_keeps _ _) rfl rfl ?_
    exact h_s
  have hy1 : Keeps 12 0xFFFC000000000000000000000 s y1 := by
    refine Keeps.app (State.modVot_keeps _ _) rfl rfl ?_
    exact hy0
  exact Keeps.met_ rfl hy1

theorem State.apDown_keeps (s : State) :
    Keeps 20 0 s (State.apDown s) := by
  have h_s : Keeps 20 0 s s := Keeps.rfl
  delta State.apDown
  extract_lets -underBinder -useContext y0 y1
  exact Keeps.parts h_s rfl rfl rfl (.inr rfl) (.inr rfl) (.inl rfl) (.inr rfl) (.inl rfl) (BilS.Ext.same rfl rfl) (.inr rfl) (.inr rfl) (.inr rfl) (.inr rfl) (.inr rfl) (.inr rfl) (.inr rfl) (.inr rfl) (.inr rfl) (.inr rfl) (.inr rfl) (.inr rfl)

theorem State.cmDown_keeps (s : State) :
    Keeps 105729 0x80000008580001B440000000000000000000000000000000018088802000 s (State.cmDown s) := by
  have h_s : Keeps 105729 0x80000008580001B440000000000000000000000000000000018088802000 s s := Keeps.rfl
  delta State.cmDown
  extract_lets -underBinder -useContext y0 y1 y2 y3 y4 y5
  have hy0 : Keeps 105729 0x80000008580001B440000000000000000000000000000000018088802000 s y0 := by
    refine Keeps.app (State.toneFence_keeps _) rfl rfl ?_
    exact h_s
  exact Keeps.parts hy0 rfl rfl rfl (.inl rfl) (.inr rfl) (.inr rfl) (.inr rfl) (.inr rfl) BilS.Ext.rfl (.inr rfl) (.inr rfl) (.inr rfl) (.inr rfl) (.inr rfl) (.inl rfl) (.inl rfl) (.inr rfl) (.inr rfl) (.inr rfl) (.inr rfl) (.inr rfl)

theorem State.islandDown_keeps (s : State) (i : Isl) :
    Keeps 368029 (2 ^ 241 - 1) s (State.islandDown s i) := by
  have h_s : Keeps 368029 (2 ^ 241 - 1) s s := Keeps.rfl
  delta State.islandDown
  split
  · refine Keeps.app (State.resetRegs_keeps _ _ _) rfl rfl ?_
    refine Keeps.app (State.chanDown_keeps _ _) rfl rfl ?_
    exact h_s
  · refine Keeps.app (State.resetRegs_keeps _ _ _) rfl rfl ?_
    refine Keeps.app (State.chanDown_keeps _ _) rfl rfl ?_
    exact h_s
  · refine Keeps.app (State.resetRegs_keeps _ _ _) rfl rfl ?_
    refine Keeps.app (State.chanDown_keeps _ _) rfl rfl ?_
    exact h_s
  · refine Keeps.app (State.resetRegs_keeps _ _ _) rfl rfl ?_
    refine Keeps.app (State.vlDown_keeps _) rfl rfl ?_
    exact h_s
  · refine Keeps.app (State.queFenced_keeps _ _ _) rfl rfl ?_
    refine Keeps.app (State.resetRegs_keeps _ _ _) rfl rfl ?_
    refine Keeps.app (State.apDown_keeps _) rfl rfl ?_
    exact h_s
  · refine Keeps.app (State.queFenced_keeps _ _ _) rfl rfl ?_
    refine Keeps.app (State.hiReset_keeps _) rfl rfl ?_
    exact h_s
  · refine Keeps.app (State.queFenced_keeps _ _ _) rfl rfl ?_
    refine Keeps.app (State.resetRegs_keeps _ _ _) rfl rfl ?_
    refine Keeps.app (State.cmDown_keeps _) rfl rfl ?_
    exact h_s
  · refine Keeps.app (State.queFenced_keeps _ _ _) rfl rfl ?_
    refine Keeps.app (State.resetRegs_keeps _ _ _) rfl rfl ?_
    exact h_s
  · refine Keeps.app (State.sfDown_keeps _) rfl rfl ?_
    refine Keeps.app (State.resetRegs_keeps _ _ _) rfl rfl ?_
    exact h_s
  · extract_lets -underBinder -useContext y0
    refine Keeps.app (State.resetRegs_keeps _ _ _) rfl rfl ?_
    exact Keeps.key_ rfl h_s
  · refine Keeps.app (State.holdAll_keeps _) rfl rfl ?_
    exact h_s
  · exact h_s
  · exact h_s

theorem State.moduleStart_keeps (s : State) (code : ℕ) :
    Keeps 384415 (2 ^ 241 - 1) s (State.moduleStart s code) := by
  have h_s : Keeps 384415 (2 ^ 241 - 1) s s := Keeps.rfl
  delta State.moduleStart
  extract_lets -underBinder -useContext y0 y1 y2 y3 y4 y5 y6 y7
  have hy1 : Keeps 384415 (2 ^ 241 - 1) s y1 := by
    refine Keeps.app (State.pairRelease_keeps _) rfl rfl ?_
    exact h_s
  have hy2 : Keeps 384415 (2 ^ 241 - 1) s y2 := by
    refine ite_of (Q := Keeps 384415 (2 ^ 241 - 1) s) ?_ ?_
    · refine Keeps.app (State.updAbandon_keeps _ _) rfl rfl ?_
      exact hy1
    · exact hy1
  have hy3 : Keeps 384415 (2 ^ 241 - 1) s y3 := by
    refine Keeps.app (State.setDebug_keeps _ _) rfl rfl ?_
    exact hy2
  have hy4 : Keeps 384415 (2 ^ 241 - 1) s y4 := by
    refine Keeps.app (State.startRecords_keeps _ _) rfl rfl ?_
    exact hy3
  have hy7 : Keeps 384415 (2 ^ 241 - 1) s y7 := by
    exact Keeps.isl_ rfl hy4
  refine foldl_of (Q := Keeps 384415 (2 ^ 241 - 1) s) ?_ (fun y8 y9 my9 hy8 => ?_)
  · exact hy7
  · refine Keeps.app (State.islandDown_keeps _ _) rfl rfl ?_
    refine Keeps.app (State.setIsl_keeps _ _ _) rfl rfl ?_
    exact hy8

theorem State.islandReset_keeps (s : State) (i : Isl) (code : ℕ) :
    Keeps 384447 (2 ^ 241 - 1) s (State.islandReset s i code) := by
  have h_s : Keeps 384447 (2 ^ 241 - 1) s s := Keeps.rfl
  delta State.islandReset
  extract_lets -underBinder -useContext y0 y1 y2
  have hy0 : Keeps 384447 (2 ^ 241 - 1) s y0 := by
    refine Keeps.app (State.setDebug_keeps _ _) rfl rfl ?_
    refine Keeps.app (State.noteReset_keeps _ _ _) rfl rfl ?_
    refine Keeps.app (State.setIsl_keeps _ _ _) rfl rfl ?_
    refine Keeps.app (State.updSpoil_keeps _ _) rfl rfl ?_
    exact h_s
  have hy2 : Keeps 384447 (2 ^ 241 - 1) s y2 := by
    refine ite_of (Q := Keeps 384447 (2 ^ 241 - 1) s) ?_ ?_
    · exact Keeps.isl_ rfl hy0
    · exact hy0
  refine Keeps.app (State.islandDown_keeps _ _) rfl rfl ?_
  exact hy2

theorem State.fenceIsland_keeps (s : State) (i : Isl) (code : ℕ) :
    Keeps 384511 (2 ^ 241 - 1) s (State.fenceIsland s i code) := by
  have h_s : Keeps 384511 (2 ^ 241 - 1) s s := Keeps.rfl
  delta State.fenceIsland
  extract_lets -underBinder -useContext y0 y1 y2 y5 y6 y8 y9 y10
  have hy0 : Keeps 384511 (2 ^ 241 - 1) s y0 := by
    refine Keeps.app (State.raise_keeps _ _) rfl rfl ?_
    refine Keeps.setBitAny rfl ?_
    exact h_s
  have hy2 : Keeps 384511 (2 ^ 241 - 1) s y2 := by
    refine foldl_of (Q := Keeps 384511 (2 ^ 241 - 1) s) ?_ (fun y3 y4 my4 hy3 => ?_)
    · exact hy0
    · refine Keeps.app (State.raise_keeps _ _) rfl rfl ?_
      exact hy3
  have hy5 : Keeps 384511 (2 ^ 241 - 1) s y5 := by
    refine ite_of (Q := Keeps 384511 (2 ^ 241 - 1) s) ?_ ?_
    · refine Keeps.app (State.pairRelease_keeps _) rfl rfl ?_
      exact hy2
    · exact hy2
  have hy6 : Keeps 384511 (2 ^ 241 - 1) s y6 := by
    subst y6
    split
    · refine Keeps.app (State.fenceChan_keeps _ _) rfl rfl ?_
      exact hy5
    · refine Keeps.app (State.fenceChan_keeps _ _) rfl rfl ?_
      exact hy5
    · refine Keeps.app (State.fenceChan_keeps _ _) rfl rfl ?_
      exact hy5
    · refine Keeps.app (State.apFenced_keeps _) rfl rfl ?_
      exact hy5
    · exact hy5
  have hy8 : Keeps 384511 (2 ^ 241 - 1) s y8 := by
    refine Keeps.app (State.lostCommands_keeps _ _) rfl rfl ?_
    exact hy6
  have hy10 : Keeps 384511 (2 ^ 241 - 1) s y10 := by
    exact Keeps.isl_ rfl hy8
  refine ite_of (Q := Keeps 384511 (2 ^ 241 - 1) s) ?_ ?_
  · exact h_s
  · refine Keeps.app (State.islandReset_keeps _ _ _) rfl rfl ?_
    exact hy10

end Sys2Proof.Machine
end

