-- ==== Sys2Proof/Laws/KeepsSwitchRows.lean ====
section
/-! SUPPORT. What the operations of Machine/SwitchRows.lean can change, one lemma each (Laws/Keeps.lean says how it is read). -/

namespace Sys2Proof.Machine

theorem execOpenLoadClear_keeps (n : Fin 16) (s : State) :
    KeepsO 0 0x10000000000000000000000000000000000000000 s (execOpenLoadClear n s) := by
  have h_s : Keeps 0 0x10000000000000000000000000000000000000000 s s := Keeps.rfl
  delta execOpenLoadClear
  refine ite_of (Q := KeepsO 0 0x10000000000000000000000000000000000000000 s) ?_ ?_
  · refine KeepsO.next ?_
    exact h_s
  · refine KeepsO.next ?_
    refine Keeps.set (.of rfl (in_LSW_CH_STAT _ (by first | exact Fin.isLt _ | omega))) ?_
    exact h_s

theorem State.channelStop_keeps (s : State) (n : Fin 16) (reason : ℕ) :
    Keeps 99696 0x800000000100000000010588030000000000000000000000018088800000 s (State.channelStop s n reason) := by
  have h_s : Keeps 99696 0x800000000100000000010588030000000000000000000000018088800000 s s := Keeps.rfl
  delta State.channelStop
  refine ite_of (Q := Keeps 99696 0x800000000100000000010588030000000000000000000000018088800000 s) ?_ ?_
  · refine Keeps.app (State.switchStop_keeps _ _ _) rfl rfl ?_
    exact h_s
  · exact h_s

theorem State.shedOne_keeps (s : State) (thermal : Bool) :
    Keeps 99696 0x800000000100000000010588030000000000000000000000018088800000 s (State.shedOne s thermal) := by
  have h_s : Keeps 99696 0x800000000100000000010588030000000000000000000000018088800000 s s := Keeps.rfl
  delta State.shedOne
  split
  · exact h_s
  · refine Keeps.app (State.channelStop_keeps _ _ _) rfl rfl ?_
    refine Keeps.app (State.shedEvent_keeps _) rfl rfl ?_
    refine Keeps.app (State.shed_keeps _ _ _) rfl rfl ?_
    exact h_s

theorem execShedStep_keeps (mean10ms : ℕ) (s : State) :
    KeepsO 99696 0x800000000100000000010588030000000000000000000000018088800000 s (execShedStep mean10ms s) := by
  have h_s : Keeps 99696 0x800000000100000000010588030000000000000000000000018088800000 s s := Keeps.rfl
  delta execShedStep
  extract_lets -underBinder -useContext y0 y1 y2 y3
  have hy3 : Keeps 99696 0x800000000100000000010588030000000000000000000000018088800000 s y3 := by
    exact Keeps.lsw_ rfl h_s
  refine KeepsO.next ?_
  refine ite_of (Q := Keeps 99696 0x800000000100000000010588030000000000000000000000018088800000 s) ?_ ?_
  · refine Keeps.app (State.shedOne_keeps _ _) rfl rfl ?_
    exact hy3
  · exact hy3

theorem execHoldExpiry_keeps (s : State) :
    KeepsO 98624 0x800000000000000000010580000000000000000000000000018088800000 s (execHoldExpiry s) := by
  have h_s : Keeps 98624 0x800000000000000000010580000000000000000000000000018088800000 s s := Keeps.rfl
  delta execHoldExpiry
  extract_lets -underBinder -useContext y0 y1
  have hy1 : Keeps 98624 0x800000000000000000010580000000000000000000000000018088800000 s y1 := by
    refine foldl_of (Q := Keeps 98624 0x800000000000000000010580000000000000000000000000018088800000 s) ?_ (fun y2 y3 my3 hy2 => ?_)
    · exact h_s
    · refine Keeps.app (State.commandChan_keeps _ _ _) rfl rfl ?_
      exact hy2
  refine ite_of (Q := KeepsO 98624 0x800000000000000000010580000000000000000000000000018088800000 s) ?_ ?_
  · refine KeepsO.next ?_
    exact h_s
  · refine KeepsO.next ?_
    refine Keeps.app (State.raise_keeps _ _) rfl rfl ?_
    exact hy1

theorem State.faultChan_keeps (s : State) (n : Fin 16) (src : ℕ) :
    Keeps 99696 0x800000000100000000010D88030000000000000000000000018088800000 s (State.faultChan s n src) := by
  have h_s : Keeps 99696 0x800000000100000000010D88030000000000000000000000018088800000 s s := Keeps.rfl
  delta State.faultChan
  extract_lets -underBinder -useContext y0
  have hy0 : KeepsE 99696 0x800000000100000000010D88030000000000000000000000018088800000 s y0 := by
    refine KeepsE.app (State.channelFault_keeps _ _ _) rfl rfl ?_
    exact h_s
  refine ite_of (Q := Keeps 99696 0x800000000100000000010D88030000000000000000000000018088800000 s) ?_ ?_
  · refine Keeps.app (State.channelStop_keeps _ _ _) rfl rfl ?_
    refine KeepsE.snd ?_
    exact hy0
  · refine KeepsE.snd ?_
    exact hy0

theorem execShedReturn_keeps (mean1s : ℕ) (s : State) :
    KeepsO 64 0x200000000000000000000000000000000000000 s (execShedReturn mean1s s) := by
  have h_s : Keeps 64 0x200000000000000000000000000000000000000 s s := Keeps.rfl
  delta execShedReturn
  extract_lets -underBinder -useContext y0 y1 y2
  have hy0 : Keeps 64 0x200000000000000000000000000000000000000 s y0 := by
    refine Keeps.setSat (.of rfl in_LSW_AGG) ?_
    exact h_s
  have hy2 : Keeps 64 0x200000000000000000000000000000000000000 s y2 := by
    refine ite_of (Q := Keeps 64 0x200000000000000000000000000000000000000 s) ?_ ?_
    · exact Keeps.lsw_ rfl hy0
    · exact hy0
  refine KeepsO.next ?_
  exact hy2

theorem State.overCurrent_keeps (s : State) (n : Fin 16) :
    Keeps 99696 0x800000000100000000030D88030000000000000000000000018088800000 s (State.overCurrent s n) := by
  have h_s : Keeps 99696 0x800000000100000000030D88030000000000000000000000018088800000 s s := Keeps.rfl
  delta State.overCurrent
  refine ite_of (Q := Keeps 99696 0x800000000100000000030D88030000000000000000000000018088800000 s) ?_ ?_
  · refine Keeps.app (State.faultChan_keeps _ _ _) rfl rfl ?_
    refine Keeps.count (.of rfl (in_LSW_CH_CNT _ (by first | exact Fin.isLt _ | omega))) ?_
    exact h_s
  · exact h_s

theorem execSwitchHostChannels_keeps (d : Desc) (s : State) :
    KeepsO 320 0x10580000000000000000000000000000000000000 s (execSwitchHostChannels d s) := by
  have h_s : Keeps 320 0x10580000000000000000000000000000000000000 s s := Keeps.rfl
  delta execSwitchHostChannels
  extract_lets -underBinder -useContext y0 y1
  refine KeepsO.next ?_
  refine State.command_keeps (P := 320) (B := 0x10580000000000000000000000000000000000000) rfl rfl ?_ (fun y2 hy2 => ?_)
  · exact h_s
  · extract_lets -underBinder -useContext y3
    refine ite_of (Q := Keeps 320 0x10580000000000000000000000000000000000000 s) ?_ ?_
    · refine Keeps.app (State.complete_keeps _ _ _ _ _) rfl rfl ?_
      exact hy2
    · refine Keeps.app (State.ok_keeps _ _ _) rfl rfl ?_
      refine foldl_of (Q := Keeps 320 0x10580000000000000000000000000000000000000 s) ?_ (fun y4 y5 my5 hy4 => ?_)
      · exact hy2
      · refine Keeps.app (State.commandChan_keeps _ _ _) rfl rfl ?_
        exact hy4

theorem execClearLatches_keeps (d : Desc) (s : State) :
    KeepsO 256 0x10800000000000000000000000000000000000000 s (execClearLatches d s) := by
  have h_s : Keeps 256 0x10800000000000000000000000000000000000000 s s := Keeps.rfl
  delta execClearLatches
  extract_lets -underBinder -useContext y0
  refine KeepsO.next ?_
  refine State.command_keeps (P := 256) (B := 0x10800000000000000000000000000000000000000) rfl rfl ?_ (fun y1 hy1 => ?_)
  · exact h_s
  · refine ite_of (Q := Keeps 256 0x10800000000000000000000000000000000000000 s) ?_ ?_
    · refine Keeps.app (State.complete_keeps _ _ _ _ _) rfl rfl ?_
      exact hy1
    · refine Keeps.app (State.ok_keeps _ _ _) rfl rfl ?_
      refine Keeps.app (State.clearLatches_keeps _ _) rfl rfl ?_
      exact hy1

theorem State.writeLswCmd_keeps (s : State) (v : ℕ) :
    Keeps 98624 0x800000000000000000010580000000000000000000000000018088800000 s (State.writeLswCmd s v) := by
  have h_s : Keeps 98624 0x800000000000000000010580000000000000000000000000018088800000 s s := Keeps.rfl
  delta State.writeLswCmd
  extract_lets -underBinder -useContext y0
  refine ite_of (Q := Keeps 98624 0x800000000000000000010580000000000000000000000000018088800000 s) ?_ ?_
  · refine Keeps.app (State.discard_keeps _) rfl rfl ?_
    exact h_s
  · refine foldl_of (Q := Keeps 98624 0x800000000000000000010580000000000000000000000000018088800000 s) ?_ (fun y1 y2 my2 hy1 => ?_)
    · exact h_s
    · refine Keeps.app (State.commandChan_keeps _ _ _) rfl rfl ?_
      exact hy1

theorem execShortDetected_keeps (n : Fin 16) (s : State) :
    KeepsO 99696 0x800000000100000000030D88030000000000000000000000018088802000 s (execShortDetected n s) := by
  have h_s : Keeps 99696 0x800000000100000000030D88030000000000000000000000018088802000 s s := Keeps.rfl
  delta execShortDetected
  refine ite_of (Q := KeepsO 99696 0x800000000100000000030D88030000000000000000000000018088802000 s) ?_ ?_
  · refine KeepsO.next ?_
    exact h_s
  · refine KeepsO.next ?_
    refine Keeps.app (State.faultChan_keeps _ _ _) rfl rfl ?_
    refine Keeps.app (State.fault_keeps _ _ _) rfl rfl ?_
    refine Keeps.count (.of rfl (in_LSW_CH_CNT _ (by first | exact Fin.isLt _ | omega))) ?_
    exact h_s

theorem execChannelReclaim_keeps (n : Fin 16) (s : State) :
    KeepsO 64 0x10580000000000000000000000000000000000000 s (execChannelReclaim n s) := by
  have h_s : Keeps 64 0x10580000000000000000000000000000000000000 s s := Keeps.rfl
  delta execChannelReclaim
  extract_lets -underBinder -useContext y0
  refine ite_of (Q := KeepsO 64 0x10580000000000000000000000000000000000000 s) ?_ ?_
  · refine KeepsO.next ?_
    exact h_s
  · refine KeepsO.next ?_
    refine Keeps.app (State.commandChan_keeps _ _ _) rfl rfl ?_
    exact h_s

theorem State.writeLatch_keeps (s : State) (v : ℕ) :
    Keeps 98560 0x800000000000000000010800000000000000000000000000018088800000 s (State.writeLatch s v) := by
  have h_s : Keeps 98560 0x800000000000000000010800000000000000000000000000018088800000 s s := Keeps.rfl
  delta State.writeLatch
  refine ite_of (Q := Keeps 98560 0x800000000000000000010800000000000000000000000000018088800000 s) ?_ ?_
  · refine Keeps.app (State.discard_keeps _) rfl rfl ?_
    exact h_s
  · refine Keeps.app (State.clearLatches_keeps _ _) rfl rfl ?_
    exact h_s

theorem execOpenLoad_keeps (n : Fin 16) (s : State) :
    KeepsO 98560 0x800000000000000000010000000000000000000000000000018088800000 s (execOpenLoad n s) := by
  have h_s : Keeps 98560 0x800000000000000000010000000000000000000000000000018088800000 s s := Keeps.rfl
  delta execOpenLoad
  refine ite_of (Q := KeepsO 98560 0x800000000000000000010000000000000000000000000000018088800000 s) ?_ ?_
  · refine KeepsO.next ?_
    exact h_s
  · refine KeepsO.next ?_
    refine Keeps.app (State.raise_keeps _ _) rfl rfl ?_
    refine Keeps.set (.of rfl (in_LSW_CH_STAT _ (by first | exact Fin.isLt _ | omega))) ?_
    exact h_s

theorem State.showAgg_keeps (s : State) (mean : ℕ) (inst : ℕ) :
    Keeps 0 0x200000000000000000000000000000000000000 s (State.showAgg s mean inst) := by
  have h_s : Keeps 0 0x200000000000000000000000000000000000000 s s := Keeps.rfl
  delta State.showAgg
  refine Keeps.set (.of rfl in_LSW_AGG) ?_
  refine Keeps.setSat (.of rfl in_LSW_AGG) ?_
  exact h_s

theorem execLswCmdWrite_keeps (v : Word) (s : State) :
    KeepsO 98624 0x800000000000000000010580000000000000000000000000018088800000 s (execLswCmdWrite v s) := by
  have h_s : Keeps 98624 0x800000000000000000010580000000000000000000000000018088800000 s s := Keeps.rfl
  delta execLswCmdWrite
  refine KeepsO.next ?_
  refine State.guard_keeps (P := 98624) (B := 0x800000000000000000010580000000000000000000000000018088800000) rfl rfl ?_ (fun y0 hy0 => ?_)
  · exact h_s
  · refine Keeps.app (State.writeLswCmd_keeps _ _) rfl rfl ?_
    exact hy0

theorem execInrushEnd_keeps (n : Fin 16) (s : State) :
    KeepsO 0 0x10000000000000000000000000000000000000000 s (execInrushEnd n s) := by
  have h_s : Keeps 0 0x10000000000000000000000000000000000000000 s s := Keeps.rfl
  delta execInrushEnd
  refine KeepsO.next ?_
  refine Keeps.set (.of rfl (in_LSW_CH_STAT _ (by first | exact Fin.isLt _ | omega))) ?_
  exact h_s

theorem execAggregateOverload_keeps (mean1s : ℕ) (inst : ℕ) (s : State) :
    KeepsO 64 0x200000000000000000000000000000000000000 s (execAggregateOverload mean1s inst s) := by
  have h_s : Keeps 64 0x200000000000000000000000000000000000000 s s := Keeps.rfl
  delta execAggregateOverload
  extract_lets -underBinder -useContext y0 y1
  have hy0 : Keeps 64 0x200000000000000000000000000000000000000 s y0 := by
    refine Keeps.app (State.showAgg_keeps _ _ _) rfl rfl ?_
    exact h_s
  refine ite_of (Q := KeepsO 64 0x200000000000000000000000000000000000000 s) ?_ ?_
  · refine KeepsO.next ?_
    exact Keeps.lsw_ rfl hy0
  · refine KeepsO.next ?_
    exact hy0

theorem execSwitchCellOvertemperature_keeps (n : Fin 16) (s : State) :
    KeepsO 99696 0x800000000100000000030D88030000000000000000000000018088800000 s (execSwitchCellOvertemperature n s) := by
  have h_s : Keeps 99696 0x800000000100000000030D88030000000000000000000000018088800000 s s := Keeps.rfl
  delta execSwitchCellOvertemperature
  refine KeepsO.next ?_
  refine Keeps.app (State.overCurrent_keeps _ _) rfl rfl ?_
  exact h_s

theorem execShedRestoreStep_keeps (s : State) :
    KeepsO 64 0x10100000000000000000000000000000000000000 s (execShedRestoreStep s) := by
  have h_s : Keeps 64 0x10100000000000000000000000000000000000000 s s := Keeps.rfl
  delta execShedRestoreStep
  refine ite_of (Q := KeepsO 64 0x10100000000000000000000000000000000000000 s) ?_ ?_
  · refine KeepsO.next ?_
    exact h_s
  · split
    · refine KeepsO.next ?_
      exact h_s
    · refine KeepsO.next ?_
      refine Keeps.app (State.unshed_keeps _ _) rfl rfl ?_
      exact h_s

theorem execPwmPeriodStart_keeps (g : Fin 8) (s : State) :
    KeepsO 64 0x10000000000000000000000000000000000000000 s (execPwmPeriodStart g s) := by
  have h_s : Keeps 64 0x10000000000000000000000000000000000000000 s s := Keeps.rfl
  delta execPwmPeriodStart
  extract_lets -underBinder -useContext y0 y1 y2 y3 y4
  have hy2 : Keeps 64 0x10000000000000000000000000000000000000000 s y2 := by
    exact Keeps.lsw_ rfl h_s
  have hy4 : ∀ (y5 : State) (y6 : Fin 16), Keeps 64 0x10000000000000000000000000000000000000000 s y5 → Keeps 64 0x10000000000000000000000000000000000000000 s (y4 y5 y6) := by
    intro y5 y6 hy5
    subst y4
    beta_reduce
    extract_lets -underBinder -useContext y7 y8 y9
    have hy9 : Keeps 64 0x10000000000000000000000000000000000000000 s y9 := by
      exact Keeps.lsw_ rfl hy5
    refine ite_of (Q := Keeps 64 0x10000000000000000000000000000000000000000 s) ?_ ?_
    · refine Keeps.app (State.turnOff_keeps _ _) rfl rfl ?_
      exact hy9
    · refine ite_of (Q := Keeps 64 0x10000000000000000000000000000000000000000 s) ?_ ?_
      · refine Keeps.app (State.turnOn_keeps _ _) rfl rfl ?_
        exact hy9
      · exact hy9
  refine KeepsO.next ?_
  refine foldl_of (Q := Keeps 64 0x10000000000000000000000000000000000000000 s) ?_ (fun y10 y11 my11 hy10 => ?_)
  · exact hy2
  · refine hy4 _ _ ?_
    exact hy10

theorem execLswAggRead_keeps (s : State) :
    KeepsO 98560 0x800000000000000000000200000000000000000000000000018088800000 s (execLswAggRead s) := by
  have h_s : Keeps 98560 0x800000000000000000000200000000000000000000000000018088800000 s s := Keeps.rfl
  delta execLswAggRead
  refine KeepsO.next ?_
  refine State.readRow_keeps (P := 98560) (B := 0x800000000000000000000200000000000000000000000000018088800000) rfl rfl ?_ (fun y0 hy0 => ?_)
  · exact h_s
  · refine Keeps.set (.of rfl in_LSW_AGG) ?_
    exact hy0

theorem execRetryPauseEnd_keeps (n : Fin 16) (s : State) :
    KeepsO 64 0x10000000000000000000000000000000000000000 s (execRetryPauseEnd n s) := by
  have h_s : Keeps 64 0x10000000000000000000000000000000000000000 s s := Keeps.rfl
  delta execRetryPauseEnd
  refine ite_of (Q := KeepsO 64 0x10000000000000000000000000000000000000000 s) ?_ ?_
  · refine KeepsO.next ?_
    exact h_s
  · refine KeepsO.next ?_
    refine Keeps.app (State.tryOn_keeps _ _) rfl rfl ?_
    refine foldl_of (Q := Keeps 64 0x10000000000000000000000000000000000000000 s) ?_ (fun y0 y1 my1 hy0 => ?_)
    · exact h_s
    · refine Keeps.set (.of rfl (in_LSW_CH_STAT _ (by first | exact Fin.isLt _ | omega))) ?_
      exact hy0

theorem execArrayTemperature_keeps (degC : ℤ) (s : State) :
    KeepsO 99696 0x800000000100000000010588030000000000000000000000018088800000 s (execArrayTemperature degC s) := by
  have h_s : Keeps 99696 0x800000000100000000010588030000000000000000000000018088800000 s s := Keeps.rfl
  delta execArrayTemperature
  extract_lets -underBinder -useContext y0 y1 y2 y3 y4 y5
  have hy1 : Keeps 99696 0x800000000100000000010588030000000000000000000000018088800000 s y1 := by
    refine Keeps.set (.of rfl in_LSW_THERM) ?_
    exact h_s
  have hy2 : Keeps 99696 0x800000000100000000010588030000000000000000000000018088800000 s y2 := by
    refine ite_of (Q := Keeps 99696 0x800000000100000000010588030000000000000000000000018088800000 s) ?_ ?_
    · refine Keeps.app (State.raise_keeps _ _) rfl rfl ?_
      exact hy1
    · exact hy1
  have hy5 : Keeps 99696 0x800000000100000000010588030000000000000000000000018088800000 s y5 := by
    exact Keeps.lsw_ rfl hy2
  refine KeepsO.next ?_
  refine ite_of (Q := Keeps 99696 0x800000000100000000010588030000000000000000000000018088800000 s) ?_ ?_
  · refine foldl_of (Q := Keeps 99696 0x800000000100000000010588030000000000000000000000018088800000 s) ?_ (fun y6 y7 my7 hy6 => ?_)
    · exact hy5
    · refine Keeps.app (State.shedOne_keeps _ _) rfl rfl ?_
      exact hy6
  · exact hy5

theorem execRetrySequenceReset_keeps (n : Fin 16) (s : State) :
    KeepsO 0 0x10000000000000000000000000000000000000000 s (execRetrySequenceReset n s) := by
  have h_s : Keeps 0 0x10000000000000000000000000000000000000000 s s := Keeps.rfl
  delta execRetrySequenceReset
  refine ite_of (Q := KeepsO 0 0x10000000000000000000000000000000000000000 s) ?_ ?_
  · refine KeepsO.next ?_
    exact h_s
  · refine KeepsO.next ?_
    refine foldl_of (Q := Keeps 0 0x10000000000000000000000000000000000000000 s) ?_ (fun y0 y1 my1 hy0 => ?_)
    · exact h_s
    · refine Keeps.set (.of rfl (in_LSW_CH_STAT _ (by first | exact Fin.isLt _ | omega))) ?_
      exact hy0

theorem execVfieldDip_keeps (v10mV : ℕ) (s : State) :
    KeepsO 64 0x10080000000000000000000000000000000000000 s (execVfieldDip v10mV s) := by
  have h_s : Keeps 64 0x10080000000000000000000000000000000000000 s s := Keeps.rfl
  delta execVfieldDip
  extract_lets -underBinder -useContext y0
  have hy0 : Keeps 64 0x10080000000000000000000000000000000000000 s y0 := by
    refine Keeps.setSat (.of rfl in_LSW_STATUS) ?_
    exact h_s
  refine ite_of (Q := KeepsO 64 0x10080000000000000000000000000000000000000 s) ?_ ?_
  · refine KeepsO.next ?_
    exact hy0
  · refine ite_of (Q := KeepsO 64 0x10080000000000000000000000000000000000000 s) ?_ ?_
    · refine KeepsO.next ?_
      refine Keeps.app (State.uvReturn_keeps _ _) rfl rfl ?_
      exact hy0
    · refine KeepsO.next ?_
      refine Keeps.set (.of rfl in_LSW_STATUS) ?_
      exact hy0

theorem execOvercurrent_keeps (n : Fin 16) (s : State) :
    KeepsO 99696 0x800000000100000000030D88030000000000000000000000018088800000 s (execOvercurrent n s) := by
  have h_s : Keeps 99696 0x800000000100000000030D88030000000000000000000000018088800000 s s := Keeps.rfl
  delta execOvercurrent
  refine KeepsO.next ?_
  refine Keeps.app (State.overCurrent_keeps _ _) rfl rfl ?_
  exact h_s

theorem execLatchClear_keeps (v : Word) (s : State) :
    KeepsO 98560 0x800000000000000000010800000000000000000000000000018088800000 s (execLatchClear v s) := by
  have h_s : Keeps 98560 0x800000000000000000010800000000000000000000000000018088800000 s s := Keeps.rfl
  delta execLatchClear
  refine KeepsO.next ?_
  refine State.guard_keeps (P := 98560) (B := 0x800000000000000000010800000000000000000000000000018088800000) rfl rfl ?_ (fun y0 hy0 => ?_)
  · exact h_s
  · refine Keeps.app (State.writeLatch_keeps _ _) rfl rfl ?_
    exact hy0

end Sys2Proof.Machine
end

