-- ==== Sys2Proof/Laws/KeepsSupply.lean ====
section
/-! SUPPORT. What the operations of Machine/Supply.lean can change, one lemma each (Laws/Keeps.lean says how it is read). -/

namespace Sys2Proof.Machine

theorem State.timeReturn_keeps (s : State) (rtcUs : ℕ) (osc : Bool) (first : Bool) :
    Keeps 17 0 s (State.timeReturn s rtcUs osc first) := by
  have h_s : Keeps 17 0 s s := Keeps.rfl
  delta State.timeReturn
  extract_lets -underBinder -useContext y0 y1 y2 y3 y4 y5 y6 y7
  exact Keeps.parts h_s rfl rfl rfl (.inl rfl) (.inr rfl) (.inr rfl) (.inr rfl) (.inl rfl) (BilS.Ext.same rfl rfl) (.inr rfl) (.inr rfl) (.inr rfl) (.inr rfl) (.inr rfl) (.inr rfl) (.inr rfl) (.inr rfl) (.inr rfl) (.inr rfl) (.inr rfl) (.inr rfl)

theorem execRtcOscillatorStop_keeps (s : State) :
    KeepsO 1 0 s (execRtcOscillatorStop s) := by
  have h_s : Keeps 1 0 s s := Keeps.rfl
  delta execRtcOscillatorStop
  extract_lets -underBinder -useContext y0
  refine KeepsO.next ?_
  exact Keeps.time_ rfl h_s

theorem State.supplyRestart_keeps (s : State) :
    Keeps 384415 (2 ^ 241 - 1) s (State.supplyRestart s) := by
  have h_s : Keeps 384415 (2 ^ 241 - 1) s s := Keeps.rfl
  delta State.supplyRestart
  extract_lets -underBinder -useContext y0 y1
  have hy1 : Keeps 384415 (2 ^ 241 - 1) s y1 := by
    exact Keeps.isl_ rfl h_s
  refine Keeps.app (State.moduleStart_keeps _ _) rfl rfl ?_
  refine Keeps.setAny rfl ?_
  refine Keeps.setAny rfl ?_
  exact hy1

theorem State.save_keeps (s : State) :
    Keeps 106770 0x800000000000000000000000000080000000000000000000018088800000 s (State.save s) := by
  have h_s : Keeps 106770 0x800000000000000000000000000080000000000000000000018088800000 s s := Keeps.rfl
  delta State.save
  extract_lets -underBinder -useContext y0 y1 y2 y3 y4 y5 y6
  have hy6 : Keeps 106770 0x800000000000000000000000000080000000000000000000018088800000 s y6 := by
    exact Keeps.parts h_s rfl rfl rfl (.inr rfl) (.inl rfl) (.inr rfl) (.inr rfl) (.inl rfl) (BilS.Ext.same rfl rfl) (.inr rfl) (.inr rfl) (.inr rfl) (.inr rfl) (.inr rfl) (.inr rfl) (.inr rfl) (.inr rfl) (.inr rfl) (.inr rfl) (.inr rfl) (.inr rfl)
  refine ite_of (Q := Keeps 106770 0x800000000000000000000000000080000000000000000000018088800000 s) ?_ ?_
  · refine Keeps.app (State.storeStress_keeps _) rfl rfl ?_
    refine Keeps.app (State.log_keeps _ _) rfl rfl ?_
    exact hy6
  · exact hy6

theorem execSupplyLossSave_keeps (s : State) :
    KeepsO 106770 0x800000000000000000000000000080000000000000000000018088800000 s (execSupplyLossSave s) := by
  have h_s : Keeps 106770 0x800000000000000000000000000080000000000000000000018088800000 s s := Keeps.rfl
  delta execSupplyLossSave
  refine KeepsO.next ?_
  refine ite_of (Q := Keeps 106770 0x800000000000000000000000000080000000000000000000018088800000 s) ?_ ?_
  · refine Keeps.app (State.save_keeps _) rfl rfl ?_
    exact h_s
  · exact h_s

theorem State.readTemp_keeps (s : State) :
    Keeps 0 16 s (State.readTemp s) := by
  have h_s : Keeps 0 16 s s := Keeps.rfl
  delta State.readTemp
  refine Keeps.set (.of rfl in_MG_TEMP) ?_
  exact h_s

theorem State.pwmPowered_keeps (s : State) :
    Keeps 64 0 s (State.pwmPowered s) := by
  have h_s : Keeps 64 0 s s := Keeps.rfl
  delta State.pwmPowered
  extract_lets -underBinder -useContext y0 y1 y2
  exact Keeps.lsw_ rfl h_s

theorem State.openPowered_keeps (s : State) :
    Keeps 16128 0 s (State.openPowered s) := by
  have h_s : Keeps 16128 0 s s := Keeps.rfl
  delta State.openPowered
  extract_lets -underBinder -useContext y0 y1 y2 y3 y4 y5 y6 y7
  exact Keeps.parts h_s rfl rfl rfl (.inr rfl) (.inr rfl) (.inr rfl) (.inr rfl) (.inr rfl) BilS.Ext.rfl (.inr rfl) (.inr rfl) (.inr rfl) (.inl rfl) (.inl rfl) (.inl rfl) (.inl rfl) (.inl rfl) (.inl rfl) (.inr rfl) (.inr rfl) (.inr rfl)

theorem State.lawPowered_keeps (s : State) :
    Keeps 188 0 s (State.lawPowered s) := by
  have h_s : Keeps 188 0 s s := Keeps.rfl
  delta State.lawPowered
  extract_lets -underBinder -useContext y0 y1 y2 y3 y4 y5 y6
  exact Keeps.parts h_s rfl rfl rfl (.inr rfl) (.inr rfl) (.inl rfl) (.inl rfl) (.inl rfl) (BilS.Ext.same rfl rfl) (.inl rfl) (.inr rfl) (.inl rfl) (.inr rfl) (.inr rfl) (.inr rfl) (.inr rfl) (.inr rfl) (.inr rfl) (.inr rfl) (.inr rfl) (.inr rfl)

theorem State.assertPor_keeps (s : State) : Keeps 393214 (2 ^ 241 - 1) s s.assertPor := by
  unfold State.assertPor
  have h0 := ite_of (c := s.updating = true) (Q := Keeps 393214 (2 ^ 241 - 1) s)
    (Keeps.app (State.updAbandon_keeps s 5) (by decide) (by decide) Keeps.rfl) Keeps.rfl
  have h1 := Keeps.app (State.resetRegs_keeps _ true islands) (P := 393214) (B := (2 ^ 241 - 1)) (by decide) (by decide)
    (Keeps.app (State.allOff_keeps _) (by decide) (by decide)
      (Keeps.app (State.setDebug_keeps _ false) (by decide) (by decide) h0))
  have h2 : ∀ (z : State), Keeps 393214 (2 ^ 241 - 1) s z → ∀ i : IslS,
      Keeps 393214 (2 ^ 241 - 1) s { z with mem := z.mem.filter (fun c => decide (boathouseBase ≤ c.1) &&
        decide (c.1 < boathouseBase + 0x8000000)), isl := i } := fun z h i =>
    Keeps.isl_ (s := { z with mem := z.mem.filter (fun c => decide (boathouseBase ≤ c.1) &&
      decide (c.1 < boathouseBase + 0x8000000)) }) rfl (Keeps.mem_ rfl rfl (memFilter_wf _) h)
  refine Keeps.setAny rfl (Keeps.app (State.pwmPowered_keeps _) (by decide) (by decide)
    (Keeps.app (State.openPowered_keeps _) (by decide) (by decide)
      (Keeps.app (State.lawPowered_keeps _) (by decide) (by decide) ?_)))
  exact h2 _ h1 _


theorem State.powerOn_keeps (s : State) (straps : ℕ) (rtcUs : ℕ) (oscStop : Bool) (healthOk : Bool) :
    Keeps 524287 (2 ^ 241 - 1) s (State.powerOn s straps rtcUs oscStop healthOk) := by
  have h_s : Keeps 524287 (2 ^ 241 - 1) s s := Keeps.rfl
  delta State.powerOn
  extract_lets -underBinder -useContext y0 y1 y2 y3 y4 y5
  have hy0 : Keeps 524287 (2 ^ 241 - 1) s y0 := by
    refine Keeps.app (State.assertPor_keeps _) rfl rfl ?_
    exact h_s
  have hy2 : Keeps 524287 (2 ^ 241 - 1) s y2 := by
    refine Keeps.app (State.timeReturn_keeps _ _ _ _) rfl rfl ?_
    exact hy0
  have hy3 : Keeps 524287 (2 ^ 241 - 1) s y3 := by
    refine Keeps.setAny rfl ?_
    refine Keeps.app (State.startRecords_keeps _ _) rfl rfl ?_
    exact hy2
  have hy4 : Keeps 524287 (2 ^ 241 - 1) s y4 := by
    refine Keeps.setAny rfl ?_
    exact hy3
  have hy5 : Keeps 524287 (2 ^ 241 - 1) s y5 := by
    refine ite_of (Q := Keeps 524287 (2 ^ 241 - 1) s) ?_ ?_
    · refine foldl_of (Q := Keeps 524287 (2 ^ 241 - 1) s) ?_ (fun y6 y7 my7 hy6 => ?_)
      · exact hy4
      · refine Keeps.setAny rfl ?_
        exact hy6
    · exact hy4
  refine Keeps.app (State.safRestart_keeps _) rfl rfl ?_
  refine Keeps.app (State.dueTests_keeps _) rfl rfl ?_
  refine Keeps.app (State.rootStart_keeps _ _) rfl rfl ?_
  exact hy5

theorem State.warnOutputs_keeps (s : State) :
    Keeps 113920 0x800040084800002040000000000000000000000000000000018088800000 s (State.warnOutputs s) := by
  have h_s : Keeps 113920 0x800040084800002040000000000000000000000000000000018088800000 s s := Keeps.rfl
  delta State.warnOutputs
  extract_lets -underBinder -useContext y0
  have hy0 : Keeps 113920 0x800040084800002040000000000000000000000000000000018088800000 s y0 := by
    refine ite_of (Q := Keeps 113920 0x800040084800002040000000000000000000000000000000018088800000 s) ?_ ?_
    · exact h_s
    · refine Keeps.app (State.fastDischarge_keeps _) rfl rfl ?_
      exact h_s
  refine Keeps.app (State.pairRelease_keeps _) rfl rfl ?_
  refine Keeps.app (State.toneLoss_keeps _) rfl rfl ?_
  exact hy0

theorem execSupplyLossRestart_keeps (s : State) :
    KeepsO 384415 (2 ^ 241 - 1) s (execSupplyLossRestart s) := by
  have h_s : Keeps 384415 (2 ^ 241 - 1) s s := Keeps.rfl
  delta execSupplyLossRestart
  refine KeepsO.next ?_
  refine ite_of (Q := Keeps 384415 (2 ^ 241 - 1) s) ?_ ?_
  · refine Keeps.app (State.supplyRestart_keeps _) rfl rfl ?_
    exact h_s
  · exact h_s

theorem execThermalRestart_keeps (degC : ℤ) (s : State) :
    KeepsO 384415 (2 ^ 241 - 1) s (execThermalRestart degC s) := by
  have h_s : Keeps 384415 (2 ^ 241 - 1) s s := Keeps.rfl
  delta execThermalRestart
  extract_lets -underBinder -useContext y0 y1
  have hy1 : Keeps 384415 (2 ^ 241 - 1) s y1 := by
    exact Keeps.isl_ rfl h_s
  refine KeepsO.next ?_
  refine ite_of (Q := Keeps 384415 (2 ^ 241 - 1) s) ?_ ?_
  · exact h_s
  · refine ite_of (Q := Keeps 384415 (2 ^ 241 - 1) s) ?_ ?_
    · refine Keeps.app (State.supplyRestart_keeps _) rfl rfl ?_
      exact hy1
    · exact hy1

theorem execUvOff_keeps (v10mV : ℕ) (s : State) :
    KeepsO 108016 0x800040000100000000250588030000000000000000000000018088800000 s (execUvOff v10mV s) := by
  have h_s : Keeps 108016 0x800040000100000000250588030000000000000000000000018088800000 s s := Keeps.rfl
  delta execUvOff
  refine KeepsO.next ?_
  refine ite_of (Q := Keeps 108016 0x800040000100000000250588030000000000000000000000018088800000 s) ?_ ?_
  · exact h_s
  · split
    · rename_i y0 _ hx
      have hy0 : Keeps 108016 0x800040000100000000250588030000000000000000000000018088800000 s y0 := KeepsF.of_eq (by
          refine KeepsF.app (State.uvOff_keeps _ _) rfl rfl ?_
          exact h_s) hx
      extract_lets -underBinder -useContext y2 y5
      have hy2 : Keeps 108016 0x800040000100000000250588030000000000000000000000018088800000 s y2 := by
        refine foldl_of (Q := Keeps 108016 0x800040000100000000250588030000000000000000000000018088800000 s) ?_ (fun y3 y4 my4 hy3 => ?_)
        · exact hy0
        · refine Keeps.app (State.channelStop_keeps _ _ _) rfl rfl ?_
          exact hy3
      have hy5 : Keeps 108016 0x800040000100000000250588030000000000000000000000018088800000 s y5 := by
        refine Keeps.app (State.safUv_keeps _) rfl rfl ?_
        exact hy2
      refine ite_of (Q := Keeps 108016 0x800040000100000000250588030000000000000000000000018088800000 s) ?_ ?_
      · exact hy5
      · refine Keeps.app (State.fastDischarge_keeps _) rfl rfl ?_
        exact hy5

theorem State.warnSessions_keeps (s : State) :
    Keeps 98656 0x800000000000000000010588030000000000000000000000018088800000 s (State.warnSessions s) := by
  have h_s : Keeps 98656 0x800000000000000000010588030000000000000000000000018088800000 s s := Keeps.rfl
  delta State.warnSessions
  refine State.ap_keeps (P := 98656) (B := 0x800000000000000000010588030000000000000000000000018088800000) rfl rfl ?_ (fun y0 hy0 => ?_)
  · exact h_s
  · refine foldl_of (Q := Keeps 98656 0x800000000000000000010588030000000000000000000000018088800000 s) ?_ (fun y1 y2 my2 hy1 => ?_)
    · exact hy0
    · refine Keeps.app (State.enter_keeps _ _ _ _) rfl rfl ?_
      refine Keeps.app (State.modSx_keeps _ _ _) rfl rfl ?_
      refine Keeps.app (State.openPoint_keeps _ _) rfl rfl ?_
      exact hy1

theorem State.shortClose_keeps (s : State) :
    Keeps 491780 0x800000000000000000000000000000000090000000000000118088800000 s (State.shortClose s) := by
  have h_s : Keeps 491780 0x800000000000000000000000000000000090000000000000118088800000 s s := Keeps.rfl
  delta State.shortClose
  refine foldl_of (Q := Keeps 491780 0x800000000000000000000000000000000090000000000000118088800000 s) ?_ (fun y0 y1 my1 hy0 => ?_)
  · exact h_s
  · refine Keeps.app (State.closeChan_keeps _ _ _ _) rfl rfl ?_
    refine Keeps.app (State.completeChan_keeps _ _) rfl rfl ?_
    exact hy0

theorem State.warn_keeps (s : State) :
    Keeps 507238 0x800040084800002040010588030000000090000000000404118088800000 s (State.warn s) := by
  have h_s : Keeps 507238 0x800040084800002040010588030000000090000000000404118088800000 s s := Keeps.rfl
  delta State.warn
  extract_lets -underBinder -useContext y0 y1 y2 y3 y4 y5
  have hy3 : Keeps 507238 0x800040084800002040010588030000000090000000000404118088800000 s y3 := by
    refine Keeps.app (State.raise_keeps _ _) rfl rfl ?_
    exact h_s
  have hy4 : Keeps 507238 0x800040084800002040010588030000000090000000000404118088800000 s y4 := by
    exact Keeps.isl_ rfl hy3
  have hy5 : Keeps 507238 0x800040084800002040010588030000000090000000000404118088800000 s y5 := by
    refine Keeps.app (State.warnOutputs_keeps _) rfl rfl ?_
    refine Keeps.app (State.abortTests_keeps _) rfl rfl ?_
    refine Keeps.app (State.shortClose_keeps _) rfl rfl ?_
    exact hy4
  refine ite_of (Q := Keeps 507238 0x800040084800002040010588030000000090000000000404118088800000 s) ?_ ?_
  · exact hy5
  · refine Keeps.app (State.warnSessions_keeps _) rfl rfl ?_
    exact hy5

theorem execSupplyLossWarning_keeps (src : WarnSrc) (s : State) :
    KeepsO 507238 0x800040084800002040010588030000000090000000000405118088802000 s (execSupplyLossWarning src s) := by
  have h_s : Keeps 507238 0x800040084800002040010588030000000090000000000405118088802000 s s := Keeps.rfl
  delta execSupplyLossWarning
  extract_lets -underBinder -useContext y0
  have hy0 : Keeps 507238 0x800040084800002040010588030000000090000000000405118088802000 s y0 := by
    refine Keeps.set (by split <;> first | exact (RowIn.of rfl in_MET_PFAIL_STATUS) | exact (RowIn.of rfl in_MET_PFAIL_STATUS)) ?_
    exact h_s
  refine KeepsO.next ?_
  refine ite_of (Q := Keeps 507238 0x800040084800002040010588030000000090000000000405118088802000 s) ?_ ?_
  · refine Keeps.app (State.warn_keeps _) rfl rfl ?_
    refine Keeps.app (State.fault_keeps _ _ _) rfl rfl ?_
    exact hy0
  · exact hy0

theorem execShellTemperatureSample_keeps (degC : ℤ) (for1ms : Bool) (s : State) :
    KeepsO 507238 0x800040084800002040010588030000000090000000000404118088800010 s (execShellTemperatureSample degC for1ms s) := by
  have h_s : Keeps 507238 0x800040084800002040010588030000000090000000000404118088800010 s s := Keeps.rfl
  delta execShellTemperatureSample
  extract_lets -underBinder -useContext y0 y1 y2 y3 y4 y5
  have hy1 : Keeps 507238 0x800040084800002040010588030000000090000000000404118088800010 s y1 := by
    refine Keeps.set (.of rfl in_MG_TEMP) ?_
    refine Keeps.set (.of rfl in_MG_TEMP) ?_
    exact h_s
  have hy2 : Keeps 507238 0x800040084800002040010588030000000090000000000404118088800010 s y2 := by
    refine Keeps.set (.of rfl in_MG_TEMP) ?_
    exact hy1
  have hy3 : Keeps 507238 0x800040084800002040010588030000000090000000000404118088800010 s y3 := by
    refine ite_of (Q := Keeps 507238 0x800040084800002040010588030000000090000000000404118088800010 s) ?_ ?_
    · refine Keeps.app (State.raise_keeps _ _) rfl rfl ?_
      exact hy2
    · exact hy2
  have hy5 : Keeps 507238 0x800040084800002040010588030000000090000000000404118088800010 s y5 := by
    exact Keeps.isl_ rfl hy3
  refine KeepsO.next ?_
  refine ite_of (Q := Keeps 507238 0x800040084800002040010588030000000090000000000404118088800010 s) ?_ ?_
  · refine ite_of (Q := Keeps 507238 0x800040084800002040010588030000000090000000000404118088800010 s) ?_ ?_
    · refine Keeps.app (State.warn_keeps _) rfl rfl ?_
      exact hy5
    · exact hy5
  · exact hy3

theorem execMgTempRead_keeps (s : State) :
    KeepsO 98560 0x800000000000000000000000000000000000000000000000018088800010 s (execMgTempRead s) := by
  have h_s : Keeps 98560 0x800000000000000000000000000000000000000000000000018088800010 s s := Keeps.rfl
  delta execMgTempRead
  refine KeepsO.next ?_
  refine State.readRow_keeps (P := 98560) (B := 0x800000000000000000000000000000000000000000000000018088800010) rfl rfl ?_ (fun y0 hy0 => ?_)
  · exact h_s
  · refine Keeps.app (State.readTemp_keeps _) rfl rfl ?_
    exact hy0

theorem execSaveComplete_keeps (s : State) :
    KeepsO 2 0x1000000000000 s (execSaveComplete s) := by
  have h_s : Keeps 2 0x1000000000000 s s := Keeps.rfl
  delta execSaveComplete
  extract_lets -underBinder -useContext y0
  refine KeepsO.next ?_
  refine ite_of (Q := Keeps 2 0x1000000000000 s) ?_ ?_
  · refine Keeps.count (.of rfl in_MET_PFAIL_STATUS) ?_
    exact Keeps.isl_ rfl h_s
  · exact h_s

theorem execUvRecovery_keeps (v10mV : ℕ) (s : State) :
    KeepsO 8256 0x40000000000000010080000000000000000000000000000000000000 s (execUvRecovery v10mV s) := by
  have h_s : Keeps 8256 0x40000000000000010080000000000000000000000000000000000000 s s := Keeps.rfl
  delta execUvRecovery
  refine KeepsO.next ?_
  refine ite_of (Q := Keeps 8256 0x40000000000000010080000000000000000000000000000000000000 s) ?_ ?_
  · refine Keeps.setSat (.of rfl in_LSW_STATUS) ?_
    exact h_s
  · refine Keeps.app (State.displayAgain_keeps _) rfl rfl ?_
    refine Keeps.app (State.uvReturn_keeps _ _) rfl rfl ?_
    exact h_s

theorem execShellSupplyFault_keeps (s : State) :
    KeepsO 393214 (2 ^ 241 - 1) s (execShellSupplyFault s) := by
  have h_s : Keeps 393214 (2 ^ 241 - 1) s s := Keeps.rfl
  delta execShellSupplyFault
  refine KeepsO.next ?_
  refine Keeps.app (State.assertPor_keeps _) rfl rfl ?_
  refine Keeps.app (State.fault_keeps _ _ _) rfl rfl ?_
  exact h_s

theorem execPowerOnReset_keeps (straps : BitVec 2) (rtcUs : ℕ) (oscStop : Bool) (healthOk : Bool) (s : State) :
    KeepsO 524287 (2 ^ 241 - 1) s (execPowerOnReset straps rtcUs oscStop healthOk s) := by
  have h_s : Keeps 524287 (2 ^ 241 - 1) s s := Keeps.rfl
  delta execPowerOnReset
  refine KeepsO.next ?_
  refine Keeps.app (State.powerOn_keeps _ _ _ _ _) rfl rfl ?_
  exact h_s

end Sys2Proof.Machine
end

