-- ==== Sys2Proof/Laws/KeepsBus.lean ====
section
/-! SUPPORT. What the operations of Machine/Bus.lean can change, one lemma each (Laws/Keeps.lean says how it is read). -/

namespace Sys2Proof.Machine

theorem State.storeParts_keeps (s : State) : ∀ p l, Keeps 294912 0 s (s.storeParts p l)
  | [], _ => Keeps.rfl
  | p :: t, l => by
    rw [State.storeParts]
    exact Keeps.app (State.storeParts_keeps _ t _) (by decide) (by decide) (State.store_keeps ..)


theorem State.dpParts_keeps (s : State) (off : ℕ) (n : ℕ) :
    KeepsN 256 0xC00000000 s (State.dpParts s off n) := by
  have h_s : Keeps 256 0xC00000000 s s := Keeps.rfl
  delta State.dpParts
  extract_lets -underBinder -useContext y0 y1 y2 y3 y4 y5
  have hy4 : Keeps 256 0xC00000000 s y4 := by
    refine Keeps.set64 (.of rfl in_HI_DP_ADDR_LO) (.of rfl in_HI_DP_ADDR_HI) ?_
    exact h_s
  refine ite_of (Q := KeepsN 256 0xC00000000 s) ?_ ?_
  · exact KeepsN.none
  · refine ite_of (Q := KeepsN 256 0xC00000000 s) ?_ ?_
    · refine KeepsN.some ?_
      refine KeepsE.mk ?_
      exact h_s
    · refine ite_of (Q := KeepsN 256 0xC00000000 s) ?_ ?_
      · refine KeepsN.some ?_
        refine KeepsE.mk ?_
        refine Keeps.set64 (.of rfl in_HI_DP_ADDR_LO) (.of rfl in_HI_DP_ADDR_HI) ?_
        exact h_s
      · refine KeepsN.some ?_
        refine KeepsE.mk ?_
        exact Keeps.host_ rfl hy4

theorem State.dpRefuse_keeps (s : State) :
    Keeps 98560 0x800000000000000000000000000000000000000000000000019088800000 s (State.dpRefuse s) := by
  have h_s : Keeps 98560 0x800000000000000000000000000000000000000000000000019088800000 s s := Keeps.rfl
  delta State.dpRefuse
  refine Keeps.app (State.raise_keeps _ _) rfl rfl ?_
  refine Keeps.set (.of rfl in_HI_DP_CTRL) ?_
  exact h_s

theorem State.dpWrite_keeps (s : State) (off : ℕ) (l : List Byte) :
    Keeps 360704 0x800000000000000000000000000000000000000000000000019C88800000 s (State.dpWrite s off l) := by
  have h_s : Keeps 360704 0x800000000000000000000000000000000000000000000000019C88800000 s s := Keeps.rfl
  delta State.dpWrite
  split
  · refine Keeps.app (State.dpRefuse_keeps _) rfl rfl ?_
    exact h_s
  · rename_i _ y1 hx
    have hy1 : Keeps 360704 0x800000000000000000000000000000000000000000000000019C88800000 s y1 := KeepsN.of_eq (by
        refine KeepsN.app (State.dpParts_keeps _ _ _) rfl rfl ?_
        exact h_s) hx
    refine ite_of (Q := Keeps 360704 0x800000000000000000000000000000000000000000000000019C88800000 s) ?_ ?_
    · refine Keeps.app (State.dpRefuse_keeps _) rfl rfl ?_
      exact h_s
    · refine Keeps.app (State.storeParts_keeps _ _ _) rfl rfl ?_
      exact hy1

theorem State.portWritten_keeps (s : State) (k : Fin 4) :
    Keeps 105728 0x80000008580001B040000000000000000000000000000000018088802000 s (State.portWritten s k) := by
  have h_s : Keeps 105728 0x80000008580001B040000000000000000000000000000000018088802000 s s := Keeps.rfl
  delta State.portWritten
  extract_lets -underBinder -useContext y0 y1
  refine ite_of (Q := Keeps 105728 0x80000008580001B040000000000000000000000000000000018088802000 s) ?_ ?_
  · exact h_s
  · refine Keeps.app (State.linkDown_keeps _ _) rfl rfl ?_
    exact Keeps.fab_ rfl h_s

theorem State.hostEntries_keeps (s : State) :
    KeepsE 131072 0 s (State.hostEntries s) := by
  have h_s : Keeps 131072 0 s s := Keeps.rfl
  delta State.hostEntries
  refine ite_of (Q := KeepsE 131072 0 s) ?_ ?_
  · split
    · rename_i _ y1 hx
      have hy1 : Keeps 131072 0 s y1 := KeepsE.of_eq (by
          refine KeepsE.app (State.fresh_keeps _) rfl rfl ?_
          exact h_s) hx
      refine KeepsE.mk ?_
      exact hy1
  · refine KeepsE.mk ?_
    exact h_s

theorem State.writeBell_keeps (s : State) (off : ℕ) (v : ℕ) :
    Keeps 229632 0x8000000000000000000000000000000000000000000000000180888A0000 s (State.writeBell s off v) := by
  have h_s : Keeps 229632 0x8000000000000000000000000000000000000000000000000180888A0000 s s := Keeps.rfl
  delta State.writeBell
  refine ite_of (Q := Keeps 229632 0x8000000000000000000000000000000000000000000000000180888A0000 s) ?_ ?_
  · refine Keeps.app (State.headBell_keeps _ _ _) rfl rfl ?_
    exact h_s
  · refine ite_of (Q := Keeps 229632 0x8000000000000000000000000000000000000000000000000180888A0000 s) ?_ ?_
    · refine Keeps.app (State.headBell_keeps _ _ _) rfl rfl ?_
      exact h_s
    · split
      · rename_i _ y1 hx
        have hy1 : Keeps 229632 0x8000000000000000000000000000000000000000000000000180888A0000 s y1 := KeepsE.of_eq (by
            refine KeepsE.app (State.hostEntries_keeps _) rfl rfl ?_
            exact h_s) hx
        refine Keeps.app (State.sqBell_keeps _ _ _ _ _) rfl rfl ?_
        exact hy1

theorem State.writeRing_keeps (s : State) (q : RingQ) (place : ℕ) (off : ℕ) (v : ℕ) :
    Keeps 360704 (2 ^ 241 - 1) s (State.writeRing s q place off v) := by
  have h_s : Keeps 360704 (2 ^ 241 - 1) s s := Keeps.rfl
  delta State.writeRing
  refine ite_of (Q := Keeps 360704 (2 ^ 241 - 1) s) ?_ ?_
  · refine Keeps.app (State.writeCfg_keeps _ _ _) rfl rfl ?_
    exact h_s
  · refine ite_of (Q := Keeps 360704 (2 ^ 241 - 1) s) ?_ ?_
    · exact h_s
    · refine ite_of (Q := Keeps 360704 (2 ^ 241 - 1) s) ?_ ?_
      · refine Keeps.setRegAny rfl ?_
        exact h_s
      · refine Keeps.app (State.discard_keeps _) rfl rfl ?_
        exact h_s

theorem State.writeMsix_keeps (s : State) (off : ℕ) (v : ℕ) :
    Keeps 327680 (2 ^ 241 - 1) s (State.writeMsix s off v) := by
  have h_s : Keeps 327680 (2 ^ 241 - 1) s s := Keeps.rfl
  delta State.writeMsix
  extract_lets -underBinder -useContext y0 y1 y2
  have hy0 : Keeps 327680 (2 ^ 241 - 1) s y0 := by
    refine Keeps.setRegAny rfl ?_
    exact h_s
  refine ite_of (Q := Keeps 327680 (2 ^ 241 - 1) s) ?_ ?_
  · refine Keeps.app (State.emit_keeps _ _) rfl rfl ?_
    refine Keeps.setRegAny rfl ?_
    exact hy0
  · exact hy0

theorem State.writeDp_keeps (s : State) (off : ℕ) (v : ℕ) :
    Keeps 360704 (2 ^ 241 - 1) s (State.writeDp s off v) := by
  have h_s : Keeps 360704 (2 ^ 241 - 1) s s := Keeps.rfl
  delta State.writeDp
  extract_lets -underBinder -useContext y0 y3
  have hy0 : ∀ (y1 : State), Keeps 360704 (2 ^ 241 - 1) s y1 → Keeps 360704 (2 ^ 241 - 1) s (y0 y1) := by
    intro y1 hy1
    subst y0
    beta_reduce
    extract_lets -underBinder -useContext y2
    exact Keeps.host_ rfl hy1
  have hy3 : Keeps 360704 (2 ^ 241 - 1) s y3 := by
    refine Keeps.app (State.plainWrite_keepsAny _ _ _) rfl rfl ?_
    exact h_s
  refine ite_of (Q := Keeps 360704 (2 ^ 241 - 1) s) ?_ ?_
  · refine hy0 _ ?_
    refine Keeps.setRegAny rfl ?_
    exact h_s
  · refine ite_of (Q := Keeps 360704 (2 ^ 241 - 1) s) ?_ ?_
    · refine hy0 _ ?_
      refine Keeps.setRegAny rfl ?_
      exact h_s
    · refine ite_of (Q := Keeps 360704 (2 ^ 241 - 1) s) ?_ ?_
      · refine ite_of (Q := Keeps 360704 (2 ^ 241 - 1) s) ?_ ?_
        · exact hy3
        · refine hy0 _ ?_
          exact hy3
      · refine ite_of (Q := Keeps 360704 (2 ^ 241 - 1) s) ?_ ?_
        · refine Keeps.app (State.discard_keeps _) rfl rfl ?_
          exact h_s
        · refine Keeps.setRegAny rfl ?_
          exact h_s

theorem State.writeHi_keeps (s : State) (off : ℕ) (v : ℕ) :
    Keeps 491776 (2 ^ 241 - 1) s (State.writeHi s off v) := by
  have h_s : Keeps 491776 (2 ^ 241 - 1) s s := Keeps.rfl
  delta State.writeHi
  refine ite_of (Q := Keeps 491776 (2 ^ 241 - 1) s) ?_ ?_
  · refine Keeps.app (State.writeHiCtrl_keeps _ _) rfl rfl ?_
    exact h_s
  · split
    · refine Keeps.app (State.writeRing_keeps _ _ _ _ _) rfl rfl ?_
      exact h_s
    · refine ite_of (Q := Keeps 491776 (2 ^ 241 - 1) s) ?_ ?_
      · refine Keeps.app (State.writeBell_keeps _ _ _) rfl rfl ?_
        exact h_s
      · refine ite_of (Q := Keeps 491776 (2 ^ 241 - 1) s) ?_ ?_
        · refine Keeps.app (State.writeMsix_keeps _ _ _) rfl rfl ?_
          exact h_s
        · refine ite_of (Q := Keeps 491776 (2 ^ 241 - 1) s) ?_ ?_
          · refine Keeps.app (State.writeDp_keeps _ _ _) rfl rfl ?_
            exact h_s
          · refine Keeps.app (State.plainWrite_keepsAny _ _ _) rfl rfl ?_
            exact h_s

theorem State.boundaryWrite_keeps (s : State) (off : ℕ) (v : ℕ) :
    Keeps 360708 (2 ^ 241 - 1) s (State.boundaryWrite s off v) := by
  have h_s : Keeps 360708 (2 ^ 241 - 1) s s := Keeps.rfl
  delta State.boundaryWrite
  split
  · exact h_s
  · extract_lets -underBinder -useContext y1 y2
    have hy2 : Keeps 360708 (2 ^ 241 - 1) s y2 := by
      refine Keeps.app (State.setWaiting_keepsAny _ _ _) rfl rfl ?_
      exact h_s
    refine ite_of (Q := Keeps 360708 (2 ^ 241 - 1) s) ?_ ?_
    · refine Keeps.app (State.raise_keeps _ _) rfl rfl ?_
      exact hy2
    · exact hy2

theorem State.redraw_keeps (s : State) (off : ℕ) :
    Keeps 105728 0x800000084000010000000000000000000000000000000000018088800000 s (State.redraw s off) := by
  have h_s : Keeps 105728 0x800000084000010000000000000000000000000000000000018088800000 s s := Keeps.rfl
  delta State.redraw
  refine ite_of (Q := Keeps 105728 0x800000084000010000000000000000000000000000000000018088800000 s) ?_ ?_
  · refine Keeps.app (State.startDraw_keeps _) rfl rfl ?_
    exact h_s
  · exact h_s

theorem State.linkKeyWritten_keeps (s : State) :
    Keeps 105728 0x80000008580001B040000000000000000000000000000000018088802000 s (State.linkKeyWritten s) := by
  have h_s : Keeps 105728 0x80000008580001B040000000000000000000000000000000018088802000 s s := Keeps.rfl
  delta State.linkKeyWritten
  extract_lets -underBinder -useContext y0
  have hy0 : Keeps 105728 0x80000008580001B040000000000000000000000000000000018088802000 s y0 := by
    refine foldl_of (Q := Keeps 105728 0x80000008580001B040000000000000000000000000000000018088802000 s) ?_ (fun y1 y2 my2 hy1 => ?_)
    · exact h_s
    · refine Keeps.app (State.linkDown_keeps _ _) rfl rfl ?_
      exact hy1
  refine ite_of (Q := Keeps 105728 0x80000008580001B040000000000000000000000000000000018088802000 s) ?_ ?_
  · exact h_s
  · refine Keeps.app (State.noKey_keeps _) rfl rfl ?_
    refine foldl_of (Q := Keeps 105728 0x80000008580001B040000000000000000000000000000000018088802000 s) ?_ (fun y3 y4 my4 hy3 => ?_)
    · exact hy0
    · refine Keeps.app (State.linkDown_keeps _ _) rfl rfl ?_
      exact hy3

theorem State.pairOff_keeps (s : State) :
    Keeps 98560 0x800000000020010000000000000000000000000000000000018088800000 s (State.pairOff s) := by
  have h_s : Keeps 98560 0x800000000020010000000000000000000000000000000000018088800000 s s := Keeps.rfl
  delta State.pairOff
  extract_lets -underBinder -useContext y0
  have hy0 : Keeps 98560 0x800000000020010000000000000000000000000000000000018088800000 s y0 := by
    refine Keeps.set (.of rfl in_FAB_PAIR_STATUS) ?_
    refine Keeps.set (.of rfl in_FAB_PAIR_STATUS) ?_
    exact h_s
  refine ite_of (Q := Keeps 98560 0x800000000020010000000000000000000000000000000000018088800000 s) ?_ ?_
  · exact h_s
  · refine Keeps.app (State.setRole_keeps _ _) rfl rfl ?_
    refine Keeps.set (.of rfl in_FAB_PAIR_STATUS) ?_
    refine Keeps.set (.of rfl in_FAB_PAIR_STATUS) ?_
    exact hy0

theorem State.afterWrite_keeps (s : State) (off : ℕ) (old : ℕ) :
    Keeps 105728 0x80000008582201B040000008000000000000000000000000018088802000 s (State.afterWrite s off old) := by
  have h_s : Keeps 105728 0x80000008582201B040000008000000000000000000000000018088802000 s s := Keeps.rfl
  delta State.afterWrite
  refine ite_of (Q := Keeps 105728 0x80000008582201B040000008000000000000000000000000018088802000 s) ?_ ?_
  · exact h_s
  · split
    · refine Keeps.app (State.showPilot_keeps _ _) rfl rfl ?_
      exact h_s
    · refine Keeps.app (State.showPilot_keeps _ _) rfl rfl ?_
      exact h_s
    · refine Keeps.app (State.portWritten_keeps _ _) rfl rfl ?_
      exact h_s
    · refine ite_of (Q := Keeps 105728 0x80000008582201B040000008000000000000000000000000018088802000 s) ?_ ?_
      · refine Keeps.app (State.showSingle_keeps _) rfl rfl ?_
        exact h_s
      · refine ite_of (Q := Keeps 105728 0x80000008582201B040000008000000000000000000000000018088802000 s) ?_ ?_
        · refine Keeps.app (State.linkKeyWritten_keeps _) rfl rfl ?_
          exact h_s
        · refine ite_of (Q := Keeps 105728 0x80000008582201B040000008000000000000000000000000018088802000 s) ?_ ?_
          · refine Keeps.app (State.bestClock_keeps _) rfl rfl ?_
            exact h_s
          · refine ite_of (Q := Keeps 105728 0x80000008582201B040000008000000000000000000000000018088802000 s) ?_ ?_
            · refine Keeps.app (State.pairOff_keeps _) rfl rfl ?_
              exact h_s
            · refine ite_of (Q := Keeps 105728 0x80000008582201B040000008000000000000000000000000018088802000 s) ?_ ?_
              · refine Keeps.app (State.toneCfg_keeps _ _) rfl rfl ?_
                exact h_s
              · refine ite_of (Q := Keeps 105728 0x80000008582201B040000008000000000000000000000000018088802000 s) ?_ ?_
                · refine Keeps.app (State.toneSettle_keeps _) rfl rfl ?_
                  exact h_s
                · exact h_s

theorem State.hostWrite_keeps (s : State) (off : ℕ) (v : ℕ) :
    Keeps 507388 (2 ^ 241 - 1) s (State.hostWrite s off v) := by
  have h_s : Keeps 507388 (2 ^ 241 - 1) s s := Keeps.rfl
  delta State.hostWrite
  refine ite_of (Q := Keeps 507388 (2 ^ 241 - 1) s) ?_ ?_
  · refine Keeps.app (State.writeHi_keeps _ _ _) rfl rfl ?_
    exact h_s
  · refine ite_of (Q := Keeps 507388 (2 ^ 241 - 1) s) ?_ ?_
    · refine Keeps.app (State.requestTests_keeps _ _) rfl rfl ?_
      exact h_s
    · refine ite_of (Q := Keeps 507388 (2 ^ 241 - 1) s) ?_ ?_
      · refine Keeps.app (State.writeVotCtrl_keeps _ _) rfl rfl ?_
        exact h_s
      · refine ite_of (Q := Keeps 507388 (2 ^ 241 - 1) s) ?_ ?_
        · refine Keeps.app (State.writeLswCmd_keeps _ _) rfl rfl ?_
          exact h_s
        · refine ite_of (Q := Keeps 507388 (2 ^ 241 - 1) s) ?_ ?_
          · refine Keeps.app (State.writeLatch_keeps _ _) rfl rfl ?_
            exact h_s
          · refine ite_of (Q := Keeps 507388 (2 ^ 241 - 1) s) ?_ ?_
            · refine Keeps.app (State.writeSafReset_keeps _ _) rfl rfl ?_
              exact h_s
            · refine ite_of (Q := Keeps 507388 (2 ^ 241 - 1) s) ?_ ?_
              · refine Keeps.app (State.discard_keeps _) rfl rfl ?_
                exact h_s
              · refine ite_of (Q := Keeps 507388 (2 ^ 241 - 1) s) ?_ ?_
                · refine Keeps.app (State.writeLdpCtrl_keeps _ _) rfl rfl ?_
                  exact h_s
                · split
                  · refine Keeps.app (State.writeVotTol_keeps _ _ _) rfl rfl ?_
                    exact h_s
                  · refine ite_of (Q := Keeps 507388 (2 ^ 241 - 1) s) ?_ ?_
                    · refine Keeps.app (State.discard_keeps _) rfl rfl ?_
                      exact h_s
                    · refine ite_of (Q := Keeps 507388 (2 ^ 241 - 1) s) ?_ ?_
                      · refine Keeps.app (State.boundaryWrite_keeps _ _ _) rfl rfl ?_
                        exact h_s
                      · refine Keeps.app (State.redraw_keeps _ _) rfl rfl ?_
                        refine Keeps.app (State.afterWrite_keeps _ _ _) rfl rfl ?_
                        refine Keeps.app (State.plainWrite_keepsAny _ _ _) rfl rfl ?_
                        exact h_s

theorem State.windowWrite_keeps (s : State) (addr : ℕ) (v : ℕ) :
    Keeps 507388 (2 ^ 241 - 1) s (State.windowWrite s addr v) := by
  have h_s : Keeps 507388 (2 ^ 241 - 1) s s := Keeps.rfl
  delta State.windowWrite
  extract_lets -underBinder -useContext y0
  refine ite_of (Q := Keeps 507388 (2 ^ 241 - 1) s) ?_ ?_
  · refine Keeps.app (State.hostWrite_keeps _ _ _) rfl rfl ?_
    exact h_s
  · refine ite_of (Q := Keeps 507388 (2 ^ 241 - 1) s) ?_ ?_
    · refine Keeps.app (State.dpWrite_keeps _ _ _) rfl rfl ?_
      exact h_s
    · refine ite_of (Q := Keeps 507388 (2 ^ 241 - 1) s) ?_ ?_
      · refine State.guard_keeps (P := 507388) (B := (2 ^ 241 - 1)) rfl rfl ?_ (fun y1 hy1 => ?_)
        · exact h_s
        · refine Keeps.app (State.hostWrite_keeps _ _ _) rfl rfl ?_
          exact hy1
      · refine ite_of (Q := Keeps 507388 (2 ^ 241 - 1) s) ?_ ?_
        · refine Keeps.app (State.store_keeps _ _ _) rfl rfl ?_
          exact h_s
        · refine Keeps.app (State.raise_keeps _ _) rfl rfl ?_
          exact h_s

theorem State.writeWords_keeps (s : State) (off : Nat) (l : List Byte) : Keeps 507388 (2 ^ 241 - 1) s (s.writeWords off l) := by
  fun_induction State.writeWords s off l with
  | case1 => exact Keeps.rfl
  | case2 off a b c d t s ih =>
    refine Keeps.app ih (by decide) (by decide) ?_
    exact State.guard_keeps (by decide) (by decide) Keeps.rfl
      (fun x hx => Keeps.app (State.hostWrite_keeps ..) (by decide) (by decide) hx)
  | case3 => exact State.guard_keeps (by decide) (by decide) Keeps.rfl (fun x hx => hx)


theorem State.spiWrite_keeps (s : State) (op : ℕ) (a : ℕ) (l : List Byte) (broken : Bool) :
    Keeps 507388 (2 ^ 241 - 1) s (State.spiWrite s op a l broken) := by
  have h_s : Keeps 507388 (2 ^ 241 - 1) s s := Keeps.rfl
  delta State.spiWrite
  refine ite_of (Q := Keeps 507388 (2 ^ 241 - 1) s) ?_ ?_
  · refine Keeps.app (State.writeWords_keeps _ _ _) rfl rfl ?_
    exact h_s
  · refine ite_of (Q := Keeps 507388 (2 ^ 241 - 1) s) ?_ ?_
    · refine ite_of (Q := Keeps 507388 (2 ^ 241 - 1) s) ?_ ?_
      · refine Keeps.app (State.store_keeps _ _ _) rfl rfl ?_
        exact h_s
      · refine Keeps.app (State.raise_keeps _ _) rfl rfl ?_
        exact h_s
    · refine ite_of (Q := Keeps 507388 (2 ^ 241 - 1) s) ?_ ?_
      · exact h_s
      · refine Keeps.app (State.dpWrite_keeps _ _ _) rfl rfl ?_
        exact h_s

theorem State.readEffect_keeps (s : State) (off : ℕ) :
    Keeps 0 0x8000000000000000000200000000000000000000000000000000000010 s (State.readEffect s off) := by
  have h_s : Keeps 0 0x8000000000000000000200000000000000000000000000000000000010 s s := Keeps.rfl
  delta State.readEffect
  refine ite_of (Q := Keeps 0 0x8000000000000000000200000000000000000000000000000000000010 s) ?_ ?_
  · refine Keeps.app (State.readTemp_keeps _) rfl rfl ?_
    exact h_s
  · refine ite_of (Q := Keeps 0 0x8000000000000000000200000000000000000000000000000000000010 s) ?_ ?_
    · refine Keeps.set (.of rfl in_LSW_AGG) ?_
      exact h_s
    · split
      · refine Keeps.app (State.readQueStat_keeps _ _) rfl rfl ?_
        exact h_s
      · exact h_s

theorem State.hostRead_keeps (s : State) (off : ℕ) :
    KeepsE 98560 0x808000000000000000000200000000000000000000000000018088800010 s (State.hostRead s off) := by
  have h_s : Keeps 98560 0x808000000000000000000200000000000000000000000000018088800010 s s := Keeps.rfl
  delta State.hostRead
  refine ite_of (Q := KeepsE 98560 0x808000000000000000000200000000000000000000000000018088800010 s) ?_ ?_
  · refine KeepsE.mk ?_
    refine Keeps.app (State.readEffect_keeps _ _) rfl rfl ?_
    exact h_s
  · refine KeepsE.mk ?_
    refine Keeps.app (State.accessError_keeps _ _) rfl rfl ?_
    exact h_s

theorem State.readWords_keeps (s : State) (off : Nat) : ∀ n, KeepsE 98560 0x808000000000000000000200000000000000000000000000018088800010 s (s.readWords off n)
  | 0 => Keeps.rfl
  | 1 => Keeps.app (State.accessError_keeps ..) (by decide) (by decide) Keeps.rfl
  | 2 => Keeps.app (State.accessError_keeps ..) (by decide) (by decide) Keeps.rfl
  | 3 => Keeps.app (State.accessError_keeps ..) (by decide) (by decide) Keeps.rfl
  | n + 4 => Keeps.app (State.readWords_keeps _ (off + 4) n) (by decide) (by decide)
    (Keeps.app (State.hostRead_keeps s off) (by decide) (by decide) Keeps.rfl)


theorem State.dpRead_keeps (s : State) (off : ℕ) (n : ℕ) :
    KeepsE 229632 0x800000000000000000000000000000000000000000000000019C88800000 s (State.dpRead s off n) := by
  have h_s : Keeps 229632 0x800000000000000000000000000000000000000000000000019C88800000 s s := Keeps.rfl
  delta State.dpRead
  split
  · refine KeepsE.mk ?_
    refine Keeps.app (State.dpRefuse_keeps _) rfl rfl ?_
    exact h_s
  · rename_i _ y1 hx
    have hy1 : Keeps 229632 0x800000000000000000000000000000000000000000000000019C88800000 s y1 := KeepsN.of_eq (by
        refine KeepsN.app (State.dpParts_keeps _ _ _) rfl rfl ?_
        exact h_s) hx
    extract_lets -underBinder -useContext y2 y3
    refine ite_of (Q := KeepsE 229632 0x800000000000000000000000000000000000000000000000019C88800000 s) ?_ ?_
    · refine KeepsE.mk ?_
      refine Keeps.app (State.dpRefuse_keeps _) rfl rfl ?_
      exact h_s
    · refine KeepsE.mk ?_
      refine ite_of (Q := Keeps 229632 0x800000000000000000000000000000000000000000000000019C88800000 s) ?_ ?_
      · refine KeepsE.snd ?_
        refine KeepsE.app (State.fresh_keeps _) rfl rfl ?_
        exact hy1
      · exact hy1

theorem State.spiRead_keeps (s : State) (op : ℕ) (a : ℕ) (n : ℕ) :
    KeepsE 229632 0x808000000000000000000200000000000000000000000000019C88800010 s (State.spiRead s op a n) := by
  have h_s : Keeps 229632 0x808000000000000000000200000000000000000000000000019C88800010 s s := Keeps.rfl
  delta State.spiRead
  refine ite_of (Q := KeepsE 229632 0x808000000000000000000200000000000000000000000000019C88800010 s) ?_ ?_
  · refine KeepsE.app (State.readWords_keeps _ _ _) rfl rfl ?_
    exact h_s
  · refine ite_of (Q := KeepsE 229632 0x808000000000000000000200000000000000000000000000019C88800010 s) ?_ ?_
    · refine ite_of (Q := KeepsE 229632 0x808000000000000000000200000000000000000000000000019C88800010 s) ?_ ?_
      · refine KeepsE.mk ?_
        exact h_s
      · refine KeepsE.mk ?_
        refine Keeps.app (State.raise_keeps _ _) rfl rfl ?_
        exact h_s
    · refine KeepsE.app (State.dpRead_keeps _ _ _) rfl rfl ?_
      exact h_s

theorem execCommandResult_keeps (writeFails : Bool) (s : State) :
    KeepsO 105728 0x8000000850000000000000000000000000000000000000000180888A0000 s (execCommandResult writeFails s) := by
  have h_s : Keeps 105728 0x8000000850000000000000000000000000000000000000000180888A0000 s s := Keeps.rfl
  delta execCommandResult
  refine KeepsO.next ?_
  split
  · exact h_s
  · extract_lets -underBinder -useContext y1 y2
    have hy2 : Keeps 105728 0x8000000850000000000000000000000000000000000000000180888A0000 s y2 := by
      exact Keeps.host_ rfl h_s
    split
    · refine Keeps.app (State.postResult_keeps _ _ _ _) rfl rfl ?_
      exact hy2
    · refine Keeps.app (State.fabricAnswer_keeps _ _ _) rfl rfl ?_
      exact hy2

theorem State.gave_keeps (s : State) (l : List Byte) :
    Keeps 256 0 s (State.gave s l) := by
  have h_s : Keeps 256 0 s s := Keeps.rfl
  delta State.gave
  extract_lets -underBinder -useContext y0
  exact Keeps.host_ rfl h_s

theorem State.frameError_keeps (s : State) :
    Keeps 98560 0x800000000000000000000000000000000000000000000000018088800000 s (State.frameError s) := by
  have h_s : Keeps 98560 0x800000000000000000000000000000000000000000000000018088800000 s s := Keeps.rfl
  delta State.frameError
  refine Keeps.app (State.raise_keeps _ _) rfl rfl ?_
  exact h_s

theorem State.spi_keeps (s : State) (bytes : List Byte) (readLen : ℕ) (broken : Bool) :
    Keeps 507388 (2 ^ 241 - 1) s (State.spi s bytes readLen broken) := by
  have h_s : Keeps 507388 (2 ^ 241 - 1) s s := Keeps.rfl
  delta State.spi
  extract_lets -underBinder -useContext y0 y1 y2
  have hy2 : Keeps 507388 (2 ^ 241 - 1) s y2 := by
    refine ite_of (Q := Keeps 507388 (2 ^ 241 - 1) s) ?_ ?_
    · exact h_s
    · refine ite_of (Q := Keeps 507388 (2 ^ 241 - 1) s) ?_ ?_
      · refine ite_of (Q := Keeps 507388 (2 ^ 241 - 1) s) ?_ ?_
        · exact h_s
        · split
          · rename_i _ y4 hx
            have hy4 : Keeps 507388 (2 ^ 241 - 1) s y4 := KeepsE.of_eq (by
                refine KeepsE.app (State.spiRead_keeps _ _ _ _) rfl rfl ?_
                exact h_s) hx
            refine Keeps.app (State.gave_keeps _ _) rfl rfl ?_
            exact hy4
      · refine Keeps.app (State.spiWrite_keeps _ _ _ _ _) rfl rfl ?_
        exact h_s
  refine ite_of (Q := Keeps 507388 (2 ^ 241 - 1) s) ?_ ?_
  · refine Keeps.app (State.frameError_keeps _) rfl rfl ?_
    exact h_s
  · refine ite_of (Q := Keeps 507388 (2 ^ 241 - 1) s) ?_ ?_
    · refine Keeps.app (State.frameError_keeps _) rfl rfl ?_
      exact hy2
    · exact hy2

theorem execSpiFrame_keeps (bytes : List Byte) (readLen : ℕ) (brokenByte : Bool) (s : State) :
    KeepsO 507388 (2 ^ 241 - 1) s (execSpiFrame bytes readLen brokenByte s) := by
  have h_s : Keeps 507388 (2 ^ 241 - 1) s s := Keeps.rfl
  delta execSpiFrame
  refine KeepsO.next ?_
  refine ite_of (Q := Keeps 507388 (2 ^ 241 - 1) s) ?_ ?_
  · refine Keeps.app (State.spi_keeps _ _ _ _) rfl rfl ?_
    exact h_s
  · exact h_s

theorem State.windowRead_keeps (s : State) (addr : ℕ) :
    KeepsE 229632 0x808000000000000000000200000000000000000000000000019C88800010 s (State.windowRead s addr) := by
  have h_s : Keeps 229632 0x808000000000000000000200000000000000000000000000019C88800010 s s := Keeps.rfl
  delta State.windowRead
  extract_lets -underBinder -useContext y0
  refine ite_of (Q := KeepsE 229632 0x808000000000000000000200000000000000000000000000019C88800010 s) ?_ ?_
  · refine KeepsE.app (State.hostRead_keeps _ _) rfl rfl ?_
    exact h_s
  · refine ite_of (Q := KeepsE 229632 0x808000000000000000000200000000000000000000000000019C88800010 s) ?_ ?_
    · split
      · rename_i _ y2 hx
        have hy2 : Keeps 229632 0x808000000000000000000200000000000000000000000000019C88800010 s y2 := KeepsE.of_eq (by
            refine KeepsE.app (State.dpRead_keeps _ _ _) rfl rfl ?_
            exact h_s) hx
        refine KeepsE.mk ?_
        exact hy2
    · refine ite_of (Q := KeepsE 229632 0x808000000000000000000200000000000000000000000000019C88800010 s) ?_ ?_
      · refine KeepsE.app (State.hostRead_keeps _ _) rfl rfl ?_
        exact h_s
      · refine ite_of (Q := KeepsE 229632 0x808000000000000000000200000000000000000000000000019C88800010 s) ?_ ?_
        · refine KeepsE.mk ?_
          exact h_s
        · refine KeepsE.mk ?_
          refine Keeps.app (State.raise_keeps _ _) rfl rfl ?_
          exact h_s

theorem State.window_keeps (s : State) (bytes : List Byte) :
    Keeps 507388 (2 ^ 241 - 1) s (State.window s bytes) := by
  have h_s : Keeps 507388 (2 ^ 241 - 1) s s := Keeps.rfl
  delta State.window
  extract_lets -underBinder -useContext y0
  refine ite_of (Q := Keeps 507388 (2 ^ 241 - 1) s) ?_ ?_
  · refine Keeps.app (State.frameError_keeps _) rfl rfl ?_
    exact h_s
  · refine ite_of (Q := Keeps 507388 (2 ^ 241 - 1) s) ?_ ?_
    · split
      · rename_i _ y2 hx
        have hy2 : Keeps 507388 (2 ^ 241 - 1) s y2 := KeepsE.of_eq (by
            refine KeepsE.app (State.windowRead_keeps _ _) rfl rfl ?_
            exact h_s) hx
        refine Keeps.app (State.gave_keeps _ _) rfl rfl ?_
        exact hy2
    · refine ite_of (Q := Keeps 507388 (2 ^ 241 - 1) s) ?_ ?_
      · refine Keeps.app (State.windowWrite_keeps _ _ _) rfl rfl ?_
        exact h_s
      · refine Keeps.app (State.frameError_keeps _) rfl rfl ?_
        exact h_s

theorem execWindowFrame_keeps (bytes : List Byte) (s : State) :
    KeepsO 507388 (2 ^ 241 - 1) s (execWindowFrame bytes s) := by
  have h_s : Keeps 507388 (2 ^ 241 - 1) s s := Keeps.rfl
  delta execWindowFrame
  refine KeepsO.next ?_
  refine ite_of (Q := Keeps 507388 (2 ^ 241 - 1) s) ?_ ?_
  · refine Keeps.app (State.window_keeps _ _) rfl rfl ?_
    exact h_s
  · exact h_s

theorem execRegisterWrite_keeps (off : Word) (size : ℕ) (v : Word) (s : State) :
    KeepsO 507388 (2 ^ 241 - 1) s (execRegisterWrite off size v s) := by
  have h_s : Keeps 507388 (2 ^ 241 - 1) s s := Keeps.rfl
  delta execRegisterWrite
  refine KeepsO.next ?_
  refine State.guard_keeps (P := 507388) (B := (2 ^ 241 - 1)) rfl rfl ?_ (fun y0 hy0 => ?_)
  · exact h_s
  · refine Keeps.app (State.hostWrite_keeps _ _ _) rfl rfl ?_
    exact hy0

theorem execDataPortAccess_keeps (off : Word) (op : DpOp) (s : State) :
    KeepsO 491776 0x800000000000000000000000000000000000000000000000019C88800000 s (execDataPortAccess off op s) := by
  have h_s : Keeps 491776 0x800000000000000000000000000000000000000000000000019C88800000 s s := Keeps.rfl
  delta execDataPortAccess
  refine KeepsO.next ?_
  refine ite_of (Q := Keeps 491776 0x800000000000000000000000000000000000000000000000019C88800000 s) ?_ ?_
  · exact h_s
  · split
    · split
      · rename_i _ y2 hx
        have hy2 : Keeps 491776 0x800000000000000000000000000000000000000000000000019C88800000 s y2 := KeepsE.of_eq (by
            refine KeepsE.app (State.dpRead_keeps _ _ _) rfl rfl ?_
            exact h_s) hx
        refine Keeps.app (State.gave_keeps _ _) rfl rfl ?_
        exact hy2
    · refine Keeps.app (State.dpWrite_keeps _ _ _) rfl rfl ?_
      exact h_s

end Sys2Proof.Machine
end

