-- ==== Sys2Proof/Laws/KeepsFluid.lean ====
section
/-! SUPPORT. What the operations of Machine/Fluid.lean can change, one lemma each (Laws/Keeps.lean says how it is read). -/

namespace Sys2Proof.Machine

theorem State.fdCount_keeps (s : State) (k : Fin 4) (which : ℕ) :
    Keeps 4 0 s (State.fdCount s k which) := by
  have h_s : Keeps 4 0 s s := Keeps.rfl
  delta State.fdCount
  extract_lets -underBinder -useContext y0 y1 y2
  exact Keeps.met_ rfl h_s

theorem State.setBusy_keeps (s : State) (k : Fin 4) (x : Option (Fin 16 × ℕ)) :
    Keeps 4 0 s (State.setBusy s k x) := by
  have h_s : Keeps 4 0 s s := Keeps.rfl
  delta State.setBusy
  extract_lets -underBinder -useContext y0
  exact Keeps.met_ rfl h_s

theorem State.setEntry_keeps (s : State) (e : Fin 16) (x : MbEntry) :
    Keeps 4 0 s (State.setEntry s e x) := by
  have h_s : Keeps 4 0 s s := Keeps.rfl
  delta State.setEntry
  extract_lets -underBinder -useContext y0
  exact Keeps.met_ rfl h_s

theorem State.accept_keeps (s : State) (e : Fin 16) (data : List Byte) :
    Keeps 98564 0x800000000000000000000000000000000000000000000000018088800000 s (State.accept s e data) := by
  have h_s : Keeps 98564 0x800000000000000000000000000000000000000000000000018088800000 s s := Keeps.rfl
  delta State.accept
  extract_lets -underBinder -useContext y0 y1 y2 y3 y4 y5 y6 y7 y8
  have hy4 : Keeps 98564 0x800000000000000000000000000000000000000000000000018088800000 s y4 := by
    refine Keeps.app (State.setEntry_keeps _ _ _) rfl rfl ?_
    exact h_s
  refine ite_of (Q := Keeps 98564 0x800000000000000000000000000000000000000000000000018088800000 s) ?_ ?_
  · refine ite_of (Q := Keeps 98564 0x800000000000000000000000000000000000000000000000018088800000 s) ?_ ?_
    · exact hy4
    · refine Keeps.app (State.raise_keeps _ _) rfl rfl ?_
      exact hy4
  · refine ite_of (Q := Keeps 98564 0x800000000000000000000000000000000000000000000000018088800000 s) ?_ ?_
    · refine Keeps.app (State.setEntry_keeps _ _ _) rfl rfl ?_
      exact h_s
    · refine Keeps.app (State.raise_keeps _ _) rfl rfl ?_
      refine Keeps.app (State.setEntry_keeps _ _ _) rfl rfl ?_
      exact h_s

theorem State.pollRetry_keeps (s : State) (k : Fin 4) :
    Keeps 98564 0x800000000000000000000000000000000000000000000000018088800000 s (State.pollRetry s k) := by
  have h_s : Keeps 98564 0x800000000000000000000000000000000000000000000000018088800000 s s := Keeps.rfl
  delta State.pollRetry
  split
  · exact h_s
  · refine ite_of (Q := Keeps 98564 0x800000000000000000000000000000000000000000000000018088800000 s) ?_ ?_
    · refine Keeps.app (State.emit_keeps _ _) rfl rfl ?_
      refine Keeps.app (State.setBusy_keeps _ _ _) rfl rfl ?_
      exact h_s
    · refine Keeps.app (State.raise_keeps _ _) rfl rfl ?_
      refine Keeps.app (State.setBusy_keeps _ _ _) rfl rfl ?_
      exact h_s

theorem execModbusResponse_keeps (port : Fin 4) (frame : List Byte) (gap : Bool) (s : State) :
    KeepsO 98564 0x800000000000000000000000000000000000000000000000018088800000 s (execModbusResponse port frame gap s) := by
  have h_s : Keeps 98564 0x800000000000000000000000000000000000000000000000018088800000 s s := Keeps.rfl
  delta execModbusResponse
  refine ite_of (Q := KeepsO 98564 0x800000000000000000000000000000000000000000000000018088800000 s) ?_ ?_
  · refine KeepsO.next ?_
    exact h_s
  · split
    · refine KeepsO.next ?_
      refine Keeps.app (State.fdCount_keeps _ _ _) rfl rfl ?_
      exact h_s
    · extract_lets -underBinder -useContext y2 y3 y4 y5 y6
      refine ite_of (Q := KeepsO 98564 0x800000000000000000000000000000000000000000000000018088800000 s) ?_ ?_
      · refine KeepsO.next ?_
        refine Keeps.app (State.raise_keeps _ _) rfl rfl ?_
        refine Keeps.app (State.setBusy_keeps _ _ _) rfl rfl ?_
        refine Keeps.app (State.fdCount_keeps _ _ _) rfl rfl ?_
        exact h_s
      · refine ite_of (Q := KeepsO 98564 0x800000000000000000000000000000000000000000000000018088800000 s) ?_ ?_
        · refine KeepsO.next ?_
          refine Keeps.app (State.accept_keeps _ _ _) rfl rfl ?_
          refine Keeps.app (State.setBusy_keeps _ _ _) rfl rfl ?_
          exact h_s
        · refine KeepsO.next ?_
          refine Keeps.app (State.pollRetry_keeps _ _) rfl rfl ?_
          refine Keeps.app (State.fdCount_keeps _ _ _) rfl rfl ?_
          exact h_s

theorem execFieldRecordLate_keeps (c : Fin 3) (s : State) :
    KeepsO 98564 0x800000000000000000000000000000000000000000000000018088800000 s (execFieldRecordLate c s) := by
  have h_s : Keeps 98564 0x800000000000000000000000000000000000000000000000018088800000 s s := Keeps.rfl
  delta execFieldRecordLate
  extract_lets -underBinder -useContext y0
  refine ite_of (Q := KeepsO 98564 0x800000000000000000000000000000000000000000000000018088800000 s) ?_ ?_
  · refine KeepsO.next ?_
    exact h_s
  · refine KeepsO.next ?_
    refine Keeps.app (State.raise_keeps _ _) rfl rfl ?_
    refine Keeps.app (State.setChan_keeps _ _ _) rfl rfl ?_
    exact h_s

theorem execModbusPollDue_keeps (e : Fin 16) (s : State) :
    KeepsO 65540 0 s (execModbusPollDue e s) := by
  have h_s : Keeps 65540 0 s s := Keeps.rfl
  delta execModbusPollDue
  extract_lets -underBinder -useContext y0 y1 y2 y3 y4
  have hy3 : Keeps 65540 0 s y3 := by
    refine Keeps.app (State.setEntry_keeps _ _ _) rfl rfl ?_
    exact h_s
  have hy4 : Keeps 65540 0 s y4 := by
    refine Keeps.app (State.setBusy_keeps _ _ _) rfl rfl ?_
    exact hy3
  refine ite_of (Q := KeepsO 65540 0 s) ?_ ?_
  · refine KeepsO.next ?_
    exact h_s
  · refine KeepsO.next ?_
    refine Keeps.app (State.emit_keeps _ _) rfl rfl ?_
    exact hy4

theorem execModbusValueStale_keeps (e : Fin 16) (s : State) :
    KeepsO 98564 0x800000000000000000000000000000000000000000000000018088800000 s (execModbusValueStale e s) := by
  have h_s : Keeps 98564 0x800000000000000000000000000000000000000000000000018088800000 s s := Keeps.rfl
  delta execModbusValueStale
  extract_lets -underBinder -useContext y0
  refine ite_of (Q := KeepsO 98564 0x800000000000000000000000000000000000000000000000018088800000 s) ?_ ?_
  · refine KeepsO.next ?_
    exact h_s
  · refine KeepsO.next ?_
    refine Keeps.app (State.raise_keeps _ _) rfl rfl ?_
    refine Keeps.app (State.setEntry_keeps _ _ _) rfl rfl ?_
    exact h_s

theorem execTotaliserCheck_keeps (e : Fin 16) (s : State) :
    KeepsO 98564 0x800000000000000000000000000000000000000000000000018088800000 s (execTotaliserCheck e s) := by
  have h_s : Keeps 98564 0x800000000000000000000000000000000000000000000000018088800000 s s := Keeps.rfl
  delta execTotaliserCheck
  extract_lets -underBinder -useContext y0 y1 y2
  have hy2 : ∀ (y3 : State) (y4 : Option (ℚ × ℕ)), Keeps 98564 0x800000000000000000000000000000000000000000000000018088800000 s y3 → Keeps 98564 0x800000000000000000000000000000000000000000000000018088800000 s (y2 y3 y4) := by
    intro y3 y4 hy3
    subst y2
    beta_reduce
    extract_lets -underBinder -useContext y5
    refine Keeps.app (State.setEntry_keeps _ _ _) rfl rfl ?_
    refine Keeps.app (State.setEntry_keeps _ _ _) rfl rfl ?_
    exact hy3
  refine ite_of (Q := KeepsO 98564 0x800000000000000000000000000000000000000000000000018088800000 s) ?_ ?_
  · refine KeepsO.next ?_
    exact h_s
  · split
    · extract_lets -underBinder -useContext y8 y9 y10 y11 y12 y13 y14 y15
      have hy13 : Keeps 98564 0x800000000000000000000000000000000000000000000000018088800000 s y13 := by
        refine hy2 _ _ ?_
        exact h_s
      have hy15 : Keeps 98564 0x800000000000000000000000000000000000000000000000018088800000 s y15 := by
        refine Keeps.app (State.setEntry_keeps _ _ _) rfl rfl ?_
        exact hy13
      refine ite_of (Q := KeepsO 98564 0x800000000000000000000000000000000000000000000000018088800000 s) ?_ ?_
      · refine KeepsO.next ?_
        refine hy2 _ _ ?_
        exact h_s
      · refine KeepsO.next ?_
        refine ite_of (Q := Keeps 98564 0x800000000000000000000000000000000000000000000000018088800000 s) ?_ ?_
        · refine Keeps.app (State.raise_keeps _ _) rfl rfl ?_
          exact hy15
        · exact hy15
    · refine KeepsO.next ?_
      refine hy2 _ _ ?_
      exact h_s

theorem execPulseEdge_keeps (n : Fin 16) (tickA : ℕ) (tickB : ℕ) (tickC : ℕ) (s : State) :
    KeepsO 4 0 s (execPulseEdge n tickA tickB tickC s) := by
  have h_s : Keeps 4 0 s s := Keeps.rfl
  delta execPulseEdge
  extract_lets -underBinder -useContext y0
  refine KeepsO.next ?_
  refine foldl_of (Q := Keeps 4 0 s) ?_ (fun y1 y2 my2 hy1 => ?_)
  · exact h_s
  · extract_lets -underBinder -useContext y3
    refine ite_of (Q := Keeps 4 0 s) ?_ ?_
    · refine Keeps.app (State.setChan_keeps _ _ _) rfl rfl ?_
      exact hy1
    · exact hy1

theorem execFieldRecordArrival_keeps (c : Fin 3) (s : State) :
    KeepsO 4 0 s (execFieldRecordArrival c s) := by
  have h_s : Keeps 4 0 s s := Keeps.rfl
  delta execFieldRecordArrival
  split
  · refine KeepsO.next ?_
    exact h_s
  · extract_lets -underBinder -useContext y1 y2 y3
    have hy2 : Keeps 4 0 s y2 := by
      exact Keeps.met_ rfl h_s
    refine ite_of (Q := KeepsO 4 0 s) ?_ ?_
    · refine KeepsO.next ?_
      exact hy2
    · refine ite_of (Q := KeepsO 4 0 s) ?_ ?_
      · refine KeepsO.next ?_
        exact hy2
      · refine KeepsO.next ?_
        refine Keeps.app (State.setChan_keeps _ _ _) rfl rfl ?_
        exact hy2

theorem execModbusTimeout_keeps (port : Fin 4) (s : State) :
    KeepsO 98564 0x800000000000000000000000000000000000000000000000018088800000 s (execModbusTimeout port s) := by
  have h_s : Keeps 98564 0x800000000000000000000000000000000000000000000000018088800000 s s := Keeps.rfl
  delta execModbusTimeout
  refine ite_of (Q := KeepsO 98564 0x800000000000000000000000000000000000000000000000018088800000 s) ?_ ?_
  · refine KeepsO.next ?_
    exact h_s
  · refine KeepsO.next ?_
    refine Keeps.app (State.pollRetry_keeps _ _) rfl rfl ?_
    refine Keeps.app (State.fdCount_keeps _ _ _) rfl rfl ?_
    exact h_s

end Sys2Proof.Machine
end

