-- ==== Sys2Proof/Laws/KeepsIslands.lean ====
section
/-! SUPPORT. What the operations of Machine/Islands.lean can change, one lemma each (Laws/Keeps.lean says how it is read). -/

namespace Sys2Proof.Machine

theorem State.stall_keeps (s : State) (snd : Isl) (rcv : Isl) (blameReceiver : Bool) :
    Keeps 384511 (2 ^ 241 - 1) s (State.stall s snd rcv blameReceiver) := by
  have h_s : Keeps 384511 (2 ^ 241 - 1) s s := Keeps.rfl
  delta State.stall
  extract_lets -underBinder -useContext y0 y1 y2 y3 y4 y5 y6
  have hy1 : Keeps 384511 (2 ^ 241 - 1) s y1 := by
    refine Keeps.setAny rfl ?_
    refine Keeps.countAny rfl ?_
    exact h_s
  have hy2 : Keeps 384511 (2 ^ 241 - 1) s y2 := by
    refine Keeps.app (State.fault_keeps _ _ _) rfl rfl ?_
    refine Keeps.app (State.raise_keeps _ _) rfl rfl ?_
    exact hy1
  have hy3 : Keeps 384511 (2 ^ 241 - 1) s y3 := by
    refine Keeps.app (State.raise_keeps _ _) rfl rfl ?_
    exact hy2
  have hy6 : Keeps 384511 (2 ^ 241 - 1) s y6 := by
    exact Keeps.isl_ rfl hy3
  refine ite_of (Q := Keeps 384511 (2 ^ 241 - 1) s) ?_ ?_
  · refine Keeps.app (State.fenceIsland_keeps _ _ _) rfl rfl ?_
    exact hy6
  · exact hy6

theorem State.startIsland_keeps (s : State) (i : Isl) :
    Keeps 524283 (2 ^ 241 - 1) s (State.startIsland s i) := by
  have h_s : Keeps 524283 (2 ^ 241 - 1) s s := Keeps.rfl
  delta State.startIsland
  extract_lets -underBinder -useContext y0 y1 y4 y7 y8 y9 y10 y11 y12
  have hy0 : Keeps 524283 (2 ^ 241 - 1) s y0 := by
    refine ite_of (Q := Keeps 524283 (2 ^ 241 - 1) s) ?_ ?_
    · refine Keeps.app (State.rootRetry_keeps _) rfl rfl ?_
      exact h_s
    · exact h_s
  have hy4 : Keeps 524283 (2 ^ 241 - 1) s y4 := by
    refine foldl_of (Q := Keeps 524283 (2 ^ 241 - 1) s) ?_ (fun y5 y6 my6 hy5 => ?_)
    · exact hy0
    · refine ite_of (Q := Keeps 524283 (2 ^ 241 - 1) s) ?_ ?_
      · exact hy5
      · refine Keeps.app (State.startEngine_keeps _ _) rfl rfl ?_
        exact hy5
  have hy7 : Keeps 524283 (2 ^ 241 - 1) s y7 := by
    refine Keeps.app (State.setIsl_keeps _ _ _) rfl rfl ?_
    exact hy4
  have hy8 : Keeps 524283 (2 ^ 241 - 1) s y8 := by
    refine ite_of (Q := Keeps 524283 (2 ^ 241 - 1) s) ?_ ?_
    · refine Keeps.setAny rfl ?_
      exact hy4
    · exact hy4
  have hy9 : Keeps 524283 (2 ^ 241 - 1) s y9 := by
    refine Keeps.app (State.islandUp_keeps _ _) rfl rfl ?_
    refine Keeps.app (State.setIsl_keeps _ _ _) rfl rfl ?_
    exact hy8
  have hy12 : Keeps 524283 (2 ^ 241 - 1) s y12 := by
    exact Keeps.isl_ rfl hy9
  refine ite_of (Q := Keeps 524283 (2 ^ 241 - 1) s) ?_ ?_
  · refine ite_of (Q := Keeps 524283 (2 ^ 241 - 1) s) ?_ ?_
    · refine Keeps.setAny rfl ?_
      exact hy7
    · exact hy7
  · refine foldl_of (Q := Keeps 524283 (2 ^ 241 - 1) s) ?_ (fun y13 y14 my14 hy13 => ?_)
    · exact hy12
    · refine Keeps.app (State.ok_keeps _ _ _) rfl rfl ?_
      exact hy13

theorem execResetModuleOrIsland_keeps (d : Desc) (s : State) :
    KeepsO 384447 (2 ^ 241 - 1) s (execResetModuleOrIsland d s) := by
  have h_s : Keeps 384447 (2 ^ 241 - 1) s s := Keeps.rfl
  delta execResetModuleOrIsland
  extract_lets -underBinder -useContext y0
  refine KeepsO.next ?_
  refine State.command_keeps (P := 384447) (B := (2 ^ 241 - 1)) rfl rfl ?_ (fun y1 hy1 => ?_)
  · exact h_s
  · extract_lets -underBinder -useContext y2 y3
    refine ite_of (Q := Keeps 384447 (2 ^ 241 - 1) s) ?_ ?_
    · split
      · exact hy1
      · extract_lets -underBinder -useContext y5 y6
        have hy6 : Keeps 384447 (2 ^ 241 - 1) s y6 := by
          exact Keeps.isl_ rfl hy1
        refine Keeps.app (State.islandReset_keeps _ _ _) rfl rfl ?_
        refine Keeps.app (State.lostCommands_keeps _ _) rfl rfl ?_
        exact hy6
    · refine Keeps.app (State.ok_keeps _ _ _) rfl rfl ?_
      exact Keeps.isl_ rfl hy1

theorem execNreset_keeps (s : State) :
    KeepsO 384415 (2 ^ 241 - 1) s (execNreset s) := by
  have h_s : Keeps 384415 (2 ^ 241 - 1) s s := Keeps.rfl
  delta execNreset
  refine KeepsO.next ?_
  refine ite_of (Q := Keeps 384415 (2 ^ 241 - 1) s) ?_ ?_
  · exact h_s
  · refine Keeps.app (State.moduleStart_keeps _ _) rfl rfl ?_
    exact h_s

theorem execModuleResetExecute_keeps (s : State) :
    KeepsO 384415 (2 ^ 241 - 1) s (execModuleResetExecute s) := by
  have h_s : Keeps 384415 (2 ^ 241 - 1) s s := Keeps.rfl
  delta execModuleResetExecute
  refine KeepsO.next ?_
  split
  · exact h_s
  · refine Keeps.app (State.moduleStart_keeps _ _) rfl rfl ?_
    exact h_s

theorem execIslandStartComplete_keeps (i : Isl) (s : State) :
    KeepsO 524283 (2 ^ 241 - 1) s (execIslandStartComplete i s) := by
  have h_s : Keeps 524283 (2 ^ 241 - 1) s s := Keeps.rfl
  delta execIslandStartComplete
  refine KeepsO.next ?_
  refine ite_of (Q := Keeps 524283 (2 ^ 241 - 1) s) ?_ ?_
  · exact h_s
  · refine Keeps.app (State.checkReady_keeps _) rfl rfl ?_
    refine Keeps.app (State.startIsland_keeps _ _) rfl rfl ?_
    exact h_s

theorem State.offerAgain_keeps (s : State) (i : Isl) :
    Keeps 4 0 s (State.offerAgain s i) := by
  have h_s : Keeps 4 0 s s := Keeps.rfl
  delta State.offerAgain
  split
  · extract_lets -underBinder -useContext y1
    refine Keeps.app (State.setChan_keeps _ _ _) rfl rfl ?_
    exact h_s
  · exact h_s

theorem State.reopen_keeps (s : State) (snd : Isl) (rcv : Isl) :
    Keeps 6 0 s (State.reopen s snd rcv) := by
  have h_s : Keeps 6 0 s s := Keeps.rfl
  delta State.reopen
  extract_lets -underBinder -useContext y0 y1
  have hy1 : Keeps 6 0 s y1 := by
    exact Keeps.isl_ rfl h_s
  refine ite_of (Q := Keeps 6 0 s) ?_ ?_
  · refine ite_of (Q := Keeps 6 0 s) ?_ ?_
    · refine Keeps.app (State.offerAgain_keeps _ _) rfl rfl ?_
      exact hy1
    · exact hy1
  · exact h_s

theorem execLockstepError_keeps (s : State) :
    KeepsO 384511 (2 ^ 241 - 1) s (execLockstepError s) := by
  have h_s : Keeps 384511 (2 ^ 241 - 1) s s := Keeps.rfl
  delta execLockstepError
  extract_lets -underBinder -useContext y0
  have hy0 : Keeps 384511 (2 ^ 241 - 1) s y0 := by
    refine Keeps.app (State.raise_keeps _ _) rfl rfl ?_
    refine Keeps.countAny rfl ?_
    exact h_s
  refine KeepsO.next ?_
  refine ite_of (Q := Keeps 384511 (2 ^ 241 - 1) s) ?_ ?_
  · exact h_s
  · refine Keeps.app (State.fenceIsland_keeps _ _ _) rfl rfl ?_
    refine Keeps.app (State.fault_keeps _ _ _) rfl rfl ?_
    exact hy0

theorem State.restarted_keeps (s : State) :
    Keeps 98562 0x800000000000000000000000000000000000000000000000018088800000 s (State.restarted s) := by
  have h_s : Keeps 98562 0x800000000000000000000000000000000000000000000000018088800000 s s := Keeps.rfl
  delta State.restarted
  extract_lets -underBinder -useContext y0 y1 y2
  have hy2 : Keeps 98562 0x800000000000000000000000000000000000000000000000018088800000 s y2 := by
    exact Keeps.isl_ rfl h_s
  refine foldl_of (Q := Keeps 98562 0x800000000000000000000000000000000000000000000000018088800000 s) ?_ (fun y3 y4 my4 hy3 => ?_)
  · exact hy2
  · refine Keeps.app (State.raise_keeps _ _) rfl rfl ?_
    exact hy3

theorem execCrossingReopen_keeps (snd : Isl) (rcv : Isl) (s : State) :
    KeepsO 98566 0x800000000000000000000000000000000000000000000000018088800000 s (execCrossingReopen snd rcv s) := by
  have h_s : Keeps 98566 0x800000000000000000000000000000000000000000000000018088800000 s s := Keeps.rfl
  delta execCrossingReopen
  refine KeepsO.next ?_
  refine Keeps.app (State.restarted_keeps _) rfl rfl ?_
  refine Keeps.app (State.reopen_keeps _ _ _) rfl rfl ?_
  exact h_s

theorem execScrubRead_keeps (i : Isl) (mem : Fin 4) (word : BitVec 24) (err : EccErr) (legalCopy : Bool) (s : State) :
    KeepsO 384511 (2 ^ 241 - 1) s (execScrubRead i mem word err legalCopy s) := by
  have h_s : Keeps 384511 (2 ^ 241 - 1) s s := Keeps.rfl
  delta execScrubRead
  extract_lets -underBinder -useContext y0
  have hy0 : ∀ (y1 : State) (y2 : ℕ), Keeps 384511 (2 ^ 241 - 1) s y1 → Keeps 384511 (2 ^ 241 - 1) s (y0 y1 y2) := by
    intro y1 y2 hy1
    subst y0
    refine Keeps.setRegAny rfl ?_
    exact hy1
  refine KeepsO.next ?_
  refine ite_of (Q := Keeps 384511 (2 ^ 241 - 1) s) ?_ ?_
  · exact h_s
  · split
    · exact h_s
    · refine Keeps.app (State.raise_keeps _ _) rfl rfl ?_
      refine Keeps.countAny rfl ?_
      refine hy0 _ _ ?_
      exact h_s
    · extract_lets -underBinder -useContext y3
      have hy3 : Keeps 384511 (2 ^ 241 - 1) s y3 := by
        refine Keeps.app (State.fault_keeps _ _ _) rfl rfl ?_
        refine Keeps.app (State.raise_keeps _ _) rfl rfl ?_
        refine Keeps.countAny rfl ?_
        refine hy0 _ _ ?_
        exact h_s
      refine ite_of (Q := Keeps 384511 (2 ^ 241 - 1) s) ?_ ?_
      · exact hy3
      · refine Keeps.app (State.fenceIsland_keeps _ _ _) rfl rfl ?_
        exact hy3

theorem execWatchdogExpiry_keeps (engine : Fin 20) (s : State) :
    KeepsO 384511 (2 ^ 241 - 1) s (execWatchdogExpiry engine s) := by
  have h_s : Keeps 384511 (2 ^ 241 - 1) s s := Keeps.rfl
  delta execWatchdogExpiry
  extract_lets -underBinder -useContext y0 y1 y2
  have hy1 : Keeps 384511 (2 ^ 241 - 1) s y1 := by
    refine Keeps.app (State.raise_keeps _ _) rfl rfl ?_
    refine Keeps.setBitAny rfl ?_
    exact h_s
  have hy2 : Keeps 384511 (2 ^ 241 - 1) s y2 := by
    refine ite_of (Q := Keeps 384511 (2 ^ 241 - 1) s) ?_ ?_
    · refine Keeps.app (State.safFault_keeps _ _ _ _) rfl rfl ?_
      exact hy1
    · exact hy1
  refine KeepsO.next ?_
  refine ite_of (Q := Keeps 384511 (2 ^ 241 - 1) s) ?_ ?_
  · exact h_s
  · refine Keeps.app (State.fenceIsland_keeps _ _ _) rfl rfl ?_
    refine Keeps.app (State.fault_keeps _ _ _) rfl rfl ?_
    exact hy2

theorem State.referenceFault_keeps (s : State) :
    Keeps 99824 0x800000000100000000250588030084000000000000000000018088802080 s (State.referenceFault s) := by
  have h_s : Keeps 99824 0x800000000100000000250588030084000000000000000000018088802080 s s := Keeps.rfl
  delta State.referenceFault
  extract_lets -underBinder -useContext y0 y1 y2 y3 y4 y5 y6 y7
  have hy0 : Keeps 99824 0x800000000100000000250588030084000000000000000000018088802080 s y0 := by
    refine Keeps.app (State.fault_keeps _ _ _) rfl rfl ?_
    refine Keeps.set (.of rfl in_MG_CLKMON_STATUS) ?_
    exact h_s
  have hy1 : Keeps 99824 0x800000000100000000250588030084000000000000000000018088802080 s y1 := by
    refine Keeps.app (State.setQuality_keeps _ _) rfl rfl ?_
    refine Keeps.app (State.raise_keeps _ _) rfl rfl ?_
    exact hy0
  have hy3 : Keeps 99824 0x800000000100000000250588030084000000000000000000018088802080 s y3 := by
    refine Keeps.app (State.setCh_keeps _ _ _) rfl rfl ?_
    exact hy1
  have hy5 : Keeps 99824 0x800000000100000000250588030084000000000000000000018088802080 s y5 := by
    refine Keeps.app (State.setCh_keeps _ _ _) rfl rfl ?_
    exact hy3
  have hy6 : Keeps 99824 0x800000000100000000250588030084000000000000000000018088802080 s y6 := by
    refine Keeps.app (State.safSettle_keeps _) rfl rfl ?_
    refine Keeps.app (State.drive_keeps _ _) rfl rfl ?_
    exact hy5
  have hy7 : Keeps 99824 0x800000000100000000250588030084000000000000000000018088802080 s y7 := by
    refine foldl_of (Q := Keeps 99824 0x800000000100000000250588030084000000000000000000018088802080 s) ?_ (fun y8 y9 my9 hy8 => ?_)
    · exact hy6
    · refine Keeps.app (State.turnOff_keeps _ _) rfl rfl ?_
      exact hy8
  refine State.ap_keeps (P := 99824) (B := 0x800000000100000000250588030084000000000000000000018088802080) rfl rfl ?_ (fun y10 hy10 => ?_)
  · exact hy7
  · refine foldl_of (Q := Keeps 99824 0x800000000100000000250588030084000000000000000000018088802080 s) ?_ (fun y11 y12 my12 hy11 => ?_)
    · exact hy10
    · refine Keeps.app (State.sessSafety_keeps _ _) rfl rfl ?_
      exact hy11

theorem execReferenceFault_keeps (s : State) :
    KeepsO 99824 0x800000000100000000250588030084000000000000000000018088802080 s (execReferenceFault s) := by
  have h_s : Keeps 99824 0x800000000100000000250588030084000000000000000000018088802080 s s := Keeps.rfl
  delta execReferenceFault
  refine KeepsO.next ?_
  refine ite_of (Q := Keeps 99824 0x800000000100000000250588030084000000000000000000018088802080 s) ?_ ?_
  · exact h_s
  · refine Keeps.app (State.referenceFault_keeps _) rfl rfl ?_
    exact h_s

theorem execClockMonitorFault_keeps (i : Isl) (remote : Bool) (s : State) :
    KeepsO 384511 (2 ^ 241 - 1) s (execClockMonitorFault i remote s) := by
  have h_s : Keeps 384511 (2 ^ 241 - 1) s s := Keeps.rfl
  delta execClockMonitorFault
  extract_lets -underBinder -useContext y0 y1
  have hy0 : Keeps 384511 (2 ^ 241 - 1) s y0 := by
    refine Keeps.setBitAny rfl ?_
    exact h_s
  have hy1 : Keeps 384511 (2 ^ 241 - 1) s y1 := by
    refine Keeps.app (State.fault_keeps _ _ _) rfl rfl ?_
    refine Keeps.app (State.raise_keeps _ _) rfl rfl ?_
    exact hy0
  refine KeepsO.next ?_
  refine ite_of (Q := Keeps 384511 (2 ^ 241 - 1) s) ?_ ?_
  · exact h_s
  · refine ite_of (Q := Keeps 384511 (2 ^ 241 - 1) s) ?_ ?_
    · exact hy1
    · refine Keeps.app (State.fenceIsland_keeps _ _ _) rfl rfl ?_
      exact hy1

theorem execVlRestart_keeps (s : State) :
    KeepsO 107839 0x800C480001000000000000000033F7800000000000000000018088800024 s (execVlRestart s) := by
  have h_s : Keeps 107839 0x800C480001000000000000000033F7800000000000000000018088800024 s s := Keeps.rfl
  delta execVlRestart
  extract_lets -underBinder -useContext y0 y1
  have hy0 : Keeps 107839 0x800C480001000000000000000033F7800000000000000000018088800024 s y0 := by
    refine Keeps.app (State.vlStart_keeps _ _) rfl rfl ?_
    refine Keeps.app (State.setIsl_keeps _ _ _) rfl rfl ?_
    exact h_s
  have hy1 : Keeps 107839 0x800C480001000000000000000033F7800000000000000000018088800024 s y1 := by
    refine foldl_of (Q := Keeps 107839 0x800C480001000000000000000033F7800000000000000000018088800024 s) ?_ (fun y2 y3 my3 hy2 => ?_)
    · exact hy0
    · refine Keeps.app (State.reopen_keeps _ _ _) rfl rfl ?_
      exact hy2
  refine KeepsO.next ?_
  refine ite_of (Q := Keeps 107839 0x800C480001000000000000000033F7800000000000000000018088800024 s) ?_ ?_
  · exact h_s
  · refine Keeps.app (State.checkReady_keeps _) rfl rfl ?_
    refine Keeps.app (State.restarted_keeps _) rfl rfl ?_
    exact hy1

theorem execCrossingStall_keeps (snd : Isl) (rcv : Isl) (blameReceiver : Bool) (s : State) :
    KeepsO 384511 (2 ^ 241 - 1) s (execCrossingStall snd rcv blameReceiver s) := by
  have h_s : Keeps 384511 (2 ^ 241 - 1) s s := Keeps.rfl
  delta execCrossingStall
  refine KeepsO.next ?_
  refine ite_of (Q := Keeps 384511 (2 ^ 241 - 1) s) ?_ ?_
  · refine Keeps.app (State.stall_keeps _ _ _ _) rfl rfl ?_
    exact h_s
  · exact h_s

end Sys2Proof.Machine
end

