-- ==== Sys2Proof/Laws/KeepsPartners.lean ====
section
/-! SUPPORT. What the operations of Machine/Partners.lean can change, one lemma each (Laws/Keeps.lean says how it is read). -/

namespace Sys2Proof.Machine

theorem State.ptap_keeps {P B : Nat} {s0 : State} {s : State} {body : State → State} (_hp : P &&& 0 = 0) (_hb : B &&& 0x0 = 0x0)
    (h_s : Keeps P B s0 s) (h_body : ∀ x, Keeps P B s0 x → Keeps P B s0 (body x)) :
    Keeps P B s0 (State.ptap s body) := by
  delta State.ptap
  refine ite_of (Q := Keeps P B s0) ?_ ?_
  · refine h_body _ ?_
    exact h_s
  · exact h_s

theorem State.fallback_keeps (s : State) (p : Fin 8) :
    Keeps 99696 0x800000000100000000010588030000000000000000000000018088800000 s (State.fallback s p) := by
  have h_s : Keeps 99696 0x800000000100000000010588030000000000000000000000018088800000 s s := Keeps.rfl
  delta State.fallback
  refine ite_of (Q := Keeps 99696 0x800000000100000000010588030000000000000000000000018088800000 s) ?_ ?_
  · exact h_s
  · refine ite_of (Q := Keeps 99696 0x800000000100000000010588030000000000000000000000018088800000 s) ?_ ?_
    · refine Keeps.app (State.showPilot_keeps _ _) rfl rfl ?_
      refine Keeps.app (State.modSx_keeps _ _ _) rfl rfl ?_
      refine Keeps.set (.of rfl (in_TPT_STATE _ (by first | exact Fin.isLt _ | omega))) ?_
      exact h_s
    · refine Keeps.app (State.sessFault_keeps _ _ _ _) rfl rfl ?_
      exact h_s

theorem execSeccDiscoveryTimeout_keeps (p : Fin 8) (s : State) :
    KeepsO 99696 0x800000000100000000010588030000000000000000000000018088800000 s (execSeccDiscoveryTimeout p s) := by
  have h_s : Keeps 99696 0x800000000100000000010588030000000000000000000000018088800000 s s := Keeps.rfl
  delta execSeccDiscoveryTimeout
  refine KeepsO.next ?_
  refine State.ptap_keeps (P := 99696) (B := 0x800000000100000000010588030000000000000000000000018088800000) rfl rfl ?_ (fun y0 hy0 => ?_)
  · exact h_s
  · refine ite_of (Q := Keeps 99696 0x800000000100000000010588030000000000000000000000018088800000 s) ?_ ?_
    · refine Keeps.app (State.fallback_keeps _ _) rfl rfl ?_
      exact hy0
    · exact hy0

theorem execInsulationMeasurement_keeps (c : Fin 2) (kohm : ℕ) (s : State) :
    KeepsO 99696 0x800000000100000000010588030000000000000000000000018088800000 s (execInsulationMeasurement c kohm s) := by
  have h_s : Keeps 99696 0x800000000100000000010588030000000000000000000000018088800000 s s := Keeps.rfl
  delta execInsulationMeasurement
  extract_lets -underBinder -useContext y0 y1
  have hy1 : Keeps 99696 0x800000000100000000010588030000000000000000000000018088800000 s y1 := by
    refine Keeps.set (.of rfl (in_TPT_IM _ (by first | exact Fin.isLt _ | omega))) ?_
    exact h_s
  refine ite_of (Q := KeepsO 99696 0x800000000100000000010588030000000000000000000000018088800000 s) ?_ ?_
  · refine KeepsO.next ?_
    exact h_s
  · refine KeepsO.next ?_
    refine State.ap_keeps (P := 99696) (B := 0x800000000100000000010588030000000000000000000000018088800000) rfl rfl ?_ (fun y2 hy2 => ?_)
    · exact hy1
    · extract_lets -underBinder -useContext y3 y4 y5
      have hy4 : Keeps 99696 0x800000000100000000010588030000000000000000000000018088800000 s y4 := by
        refine ite_of (Q := Keeps 99696 0x800000000100000000010588030000000000000000000000018088800000 s) ?_ ?_
        · refine Keeps.app (State.raise_keeps _ _) rfl rfl ?_
          exact hy2
        · exact hy2
      have hy5 : Keeps 99696 0x800000000100000000010588030000000000000000000000018088800000 s y5 := by
        refine Keeps.app (State.modSx_keeps _ _ _) rfl rfl ?_
        exact hy4
      refine ite_of (Q := Keeps 99696 0x800000000100000000010588030000000000000000000000018088800000 s) ?_ ?_
      · refine Keeps.app (State.modSx_keeps _ _ _) rfl rfl ?_
        exact hy2
      · refine ite_of (Q := Keeps 99696 0x800000000100000000010588030000000000000000000000018088800000 s) ?_ ?_
        · refine ite_of (Q := Keeps 99696 0x800000000100000000010588030000000000000000000000018088800000 s) ?_ ?_
          · refine Keeps.app (State.sessFault_keeps _ _ _ _) rfl rfl ?_
            exact hy5
          · exact hy5
        · exact hy2

theorem execSafeStateReport_keeps (p : Fin 8) (s : State) :
    KeepsO 99696 0x800000000100000000010588030300000000000000000000018088800000 s (execSafeStateReport p s) := by
  have h_s : Keeps 99696 0x800000000100000000010588030300000000000000000000018088800000 s s := Keeps.rfl
  delta execSafeStateReport
  refine KeepsO.next ?_
  refine State.ap_keeps (P := 99696) (B := 0x800000000100000000010588030300000000000000000000018088800000) rfl rfl ?_ (fun y0 hy0 => ?_)
  · exact h_s
  · extract_lets -underBinder -useContext y1 y2 y3
    have hy1 : Keeps 99696 0x800000000100000000010588030300000000000000000000018088800000 s y1 := by
      refine Keeps.app (State.modSx_keeps _ _ _) rfl rfl ?_
      exact hy0
    have hy3 : Keeps 99696 0x800000000100000000010588030300000000000000000000018088800000 s y3 := by
      refine ite_of (Q := Keeps 99696 0x800000000100000000010588030300000000000000000000018088800000 s) ?_ ?_
      · refine Keeps.app (State.sessEndReading_keeps _ _ _) rfl rfl ?_
        exact hy1
      · exact hy1
    refine ite_of (Q := Keeps 99696 0x800000000100000000010588030300000000000000000000018088800000 s) ?_ ?_
    · exact hy0
    · refine Keeps.app (State.sessTryEnd_keeps _ _) rfl rfl ?_
      exact hy3

theorem State.violation_keeps (s : State) (p : Fin 8) :
    Keeps 98560 0x800000000000000000000040000000000000000000000000018088800000 s (State.violation s p) := by
  have h_s : Keeps 98560 0x800000000000000000000040000000000000000000000000018088800000 s s := Keeps.rfl
  delta State.violation
  refine Keeps.app (State.raise_keeps _ _) rfl rfl ?_
  refine Keeps.count (.of rfl (in_PTN_ERR _ (by first | exact Fin.isLt _ | omega))) ?_
  exact h_s

theorem State.vehicle_keeps (s : State) (p : Fin 8) (m : VehMsg) :
    Keeps 99696 0x8000000001000000000105C8070300000000000000000000018088800000 s (State.vehicle s p m) := by
  have h_s : Keeps 99696 0x8000000001000000000105C8070300000000000000000000018088800000 s s := Keeps.rfl
  delta State.vehicle
  extract_lets -underBinder -useContext y0
  split
  · refine Keeps.app (State.modSx_keeps _ _ _) rfl rfl ?_
    exact h_s
  · extract_lets -underBinder -useContext y1
    have hy1 : Keeps 99696 0x8000000001000000000105C8070300000000000000000000018088800000 s y1 := by
      refine Keeps.app (State.modSx_keeps _ _ _) rfl rfl ?_
      exact h_s
    refine ite_of (Q := Keeps 99696 0x8000000001000000000105C8070300000000000000000000018088800000 s) ?_ ?_
    · refine Keeps.app (State.fallback_keeps _ _) rfl rfl ?_
      exact hy1
    · exact hy1
  · exact h_s
  · refine ite_of (Q := Keeps 99696 0x8000000001000000000105C8070300000000000000000000018088800000 s) ?_ ?_
    · exact h_s
    · refine ite_of (Q := Keeps 99696 0x8000000001000000000105C8070300000000000000000000018088800000 s) ?_ ?_
      · refine Keeps.app (State.fallback_keeps _ _) rfl rfl ?_
        exact h_s
      · refine Keeps.set (.of rfl (in_TPT_STATE _ (by first | exact Fin.isLt _ | omega))) ?_
        exact h_s
  · refine ite_of (Q := Keeps 99696 0x8000000001000000000105C8070300000000000000000000018088800000 s) ?_ ?_
    · refine Keeps.app (State.sessIdentify_keeps _ _ _ _) rfl rfl ?_
      exact h_s
    · exact h_s
  · refine ite_of (Q := Keeps 99696 0x8000000001000000000105C8070300000000000000000000018088800000 s) ?_ ?_
    · exact h_s
    · refine Keeps.app (State.tryStart_keeps _ _) rfl rfl ?_
      refine Keeps.app (State.modSx_keeps _ _ _) rfl rfl ?_
      exact h_s
  · refine Keeps.app (State.sessPartnerStop_keeps _ _) rfl rfl ?_
    exact h_s
  · exact h_s
  · extract_lets -underBinder -useContext y5
    have hy5 : Keeps 99696 0x8000000001000000000105C8070300000000000000000000018088800000 s y5 := by
      refine Keeps.app (State.violation_keeps _ _) rfl rfl ?_
      exact h_s
    refine ite_of (Q := Keeps 99696 0x8000000001000000000105C8070300000000000000000000018088800000 s) ?_ ?_
    · refine Keeps.app (State.sessFault_keeps _ _ _ _) rfl rfl ?_
      exact hy5
    · exact hy5

theorem State.resumed_keeps (s : State) (p : Fin 8) (m : VehMsg) :
    Keeps 32 0 s (State.resumed s p m) := by
  have h_s : Keeps 32 0 s s := Keeps.rfl
  delta State.resumed
  split
  · refine Keeps.app (State.modSx_keeps _ _ _) rfl rfl ?_
    exact h_s
  · refine Keeps.app (State.modSx_keeps _ _ _) rfl rfl ?_
    exact h_s
  · refine Keeps.app (State.modSx_keeps _ _ _) rfl rfl ?_
    exact h_s
  · exact h_s

theorem execVehicleMessage_keeps (p : Fin 8) (m : VehMsg) (s : State) :
    KeepsO 99696 0x8000000001000000000105C8070300000000000000000000018088800000 s (execVehicleMessage p m s) := by
  have h_s : Keeps 99696 0x8000000001000000000105C8070300000000000000000000018088800000 s s := Keeps.rfl
  delta execVehicleMessage
  refine KeepsO.next ?_
  refine State.ptap_keeps (P := 99696) (B := 0x8000000001000000000105C8070300000000000000000000018088800000) rfl rfl ?_ (fun y0 hy0 => ?_)
  · exact h_s
  · refine ite_of (Q := Keeps 99696 0x8000000001000000000105C8070300000000000000000000018088800000 s) ?_ ?_
    · refine Keeps.app (State.vehicle_keeps _ _ _) rfl rfl ?_
      refine Keeps.app (State.resumed_keeps _ _ _) rfl rfl ?_
      exact hy0
    · exact hy0

theorem execSwitchConfirmTimeout_keeps (p : Fin 8) (s : State) :
    KeepsO 99696 0x800000000100000000010588030300000000000000000000018088800000 s (execSwitchConfirmTimeout p s) := by
  have h_s : Keeps 99696 0x800000000100000000010588030300000000000000000000018088800000 s s := Keeps.rfl
  delta execSwitchConfirmTimeout
  refine KeepsO.next ?_
  refine State.ap_keeps (P := 99696) (B := 0x800000000100000000010588030300000000000000000000018088800000) rfl rfl ?_ (fun y0 hy0 => ?_)
  · exact h_s
  · extract_lets -underBinder -useContext y1 y2 y3 y4
    have hy1 : Keeps 99696 0x800000000100000000010588030300000000000000000000018088800000 s y1 := by
      refine Keeps.app (State.modSx_keeps _ _ _) rfl rfl ?_
      exact hy0
    have hy3 : Keeps 99696 0x800000000100000000010588030300000000000000000000018088800000 s y3 := by
      refine ite_of (Q := Keeps 99696 0x800000000100000000010588030300000000000000000000018088800000 s) ?_ ?_
      · refine Keeps.app (State.sessEndReading_keeps _ _ _) rfl rfl ?_
        exact hy1
      · exact hy1
    have hy4 : Keeps 99696 0x800000000100000000010588030300000000000000000000018088800000 s y4 := by
      refine Keeps.app (State.latchWeld_keeps _ _ _) rfl rfl ?_
      refine Keeps.app (State.raise_keeps _ _) rfl rfl ?_
      exact hy3
    refine ite_of (Q := Keeps 99696 0x800000000100000000010588030300000000000000000000018088800000 s) ?_ ?_
    · exact hy0
    · refine ite_of (Q := Keeps 99696 0x800000000100000000010588030300000000000000000000018088800000 s) ?_ ?_
      · refine Keeps.app (State.modSx_keeps _ _ _) rfl rfl ?_
        refine Keeps.app (State.sessFault_keeps _ _ _ _) rfl rfl ?_
        exact hy4
      · exact hy4

theorem State.stackFault_keeps (s : State) (p : Fin 8) :
    Keeps 99696 0x800000000100000000010588030000000000000000000000018088800000 s (State.stackFault s p) := by
  have h_s : Keeps 99696 0x800000000100000000010588030000000000000000000000018088800000 s s := Keeps.rfl
  delta State.stackFault
  refine Keeps.app (State.sessFaultLive_keeps _ _ _) rfl rfl ?_
  refine Keeps.app (State.raise_keeps _ _) rfl rfl ?_
  exact h_s

theorem State.stackStatus_keeps (s : State) (p : Fin 8) (frame : List Byte) :
    Keeps 99696 0x800000000100000000010588030000000000000000000000018088800000 s (State.stackStatus s p frame) := by
  have h_s : Keeps 99696 0x800000000100000000010588030000000000000000000000018088800000 s s := Keeps.rfl
  delta State.stackStatus
  extract_lets -underBinder -useContext y0 y1 y2
  have hy1 : Keeps 99696 0x800000000100000000010588030000000000000000000000018088800000 s y1 := by
    refine Keeps.app (State.modSx_keeps _ _ _) rfl rfl ?_
    exact h_s
  have hy2 : Keeps 99696 0x800000000100000000010588030000000000000000000000018088800000 s y2 := by
    refine ite_of (Q := Keeps 99696 0x800000000100000000010588030000000000000000000000018088800000 s) ?_ ?_
    · refine Keeps.app (State.stackFault_keeps _ _) rfl rfl ?_
      exact hy1
    · exact hy1
  refine ite_of (Q := Keeps 99696 0x800000000100000000010588030000000000000000000000018088800000 s) ?_ ?_
  · exact h_s
  · refine ite_of (Q := Keeps 99696 0x800000000100000000010588030000000000000000000000018088800000 s) ?_ ?_
    · refine Keeps.app (State.openPoint_keeps _ _) rfl rfl ?_
      exact hy2
    · exact hy2

theorem execStackStatusFrame_keeps (port : Fin 2) (ident : BitVec 11) (frame : List Byte) (s : State) :
    KeepsO 99696 0x800000000100000000010588030000000000000000000000018088800000 s (execStackStatusFrame port ident frame s) := by
  have h_s : Keeps 99696 0x800000000100000000010588030000000000000000000000018088800000 s s := Keeps.rfl
  delta execStackStatusFrame
  refine KeepsO.next ?_
  refine State.ptap_keeps (P := 99696) (B := 0x800000000100000000010588030000000000000000000000018088800000) rfl rfl ?_ (fun y0 hy0 => ?_)
  · exact h_s
  · refine ite_of (Q := Keeps 99696 0x800000000100000000010588030000000000000000000000018088800000 s) ?_ ?_
    · exact hy0
    · refine foldl_of (Q := Keeps 99696 0x800000000100000000010588030000000000000000000000018088800000 s) ?_ (fun y1 y2 my2 hy1 => ?_)
      · exact hy0
      · refine Keeps.app (State.stackStatus_keeps _ _ _) rfl rfl ?_
        exact hy1

theorem execCouplingAttemptTimeout_keeps (p : Fin 8) (s : State) :
    KeepsO 99696 0x800000000100000000010588030000000000000000000000018088800000 s (execCouplingAttemptTimeout p s) := by
  have h_s : Keeps 99696 0x800000000100000000010588030000000000000000000000018088800000 s s := Keeps.rfl
  delta execCouplingAttemptTimeout
  refine KeepsO.next ?_
  refine State.ptap_keeps (P := 99696) (B := 0x800000000100000000010588030000000000000000000000018088800000) rfl rfl ?_ (fun y0 hy0 => ?_)
  · exact h_s
  · extract_lets -underBinder -useContext y1
    refine ite_of (Q := Keeps 99696 0x800000000100000000010588030000000000000000000000018088800000 s) ?_ ?_
    · refine Keeps.app (State.sessFaultLive_keeps _ _ _) rfl rfl ?_
      refine Keeps.app (State.modSx_keeps _ _ _) rfl rfl ?_
      exact hy0
    · refine ite_of (Q := Keeps 99696 0x800000000100000000010588030000000000000000000000018088800000 s) ?_ ?_
      · exact hy0
      · refine ite_of (Q := Keeps 99696 0x800000000100000000010588030000000000000000000000018088800000 s) ?_ ?_
        · refine Keeps.app (State.sessFault_keeps _ _ _ _) rfl rfl ?_
          exact hy0
        · refine Keeps.app (State.modSx_keeps _ _ _) rfl rfl ?_
          exact hy0

theorem execAuthorisationTimeout_keeps (p : Fin 8) (s : State) :
    KeepsO 99696 0x800000000100000000010588030000000000000000000000018088800000 s (execAuthorisationTimeout p s) := by
  have h_s : Keeps 99696 0x800000000100000000010588030000000000000000000000018088800000 s s := Keeps.rfl
  delta execAuthorisationTimeout
  refine KeepsO.next ?_
  refine State.ap_keeps (P := 99696) (B := 0x800000000100000000010588030000000000000000000000018088800000) rfl rfl ?_ (fun y0 hy0 => ?_)
  · exact h_s
  · refine ite_of (Q := Keeps 99696 0x800000000100000000010588030000000000000000000000018088800000 s) ?_ ?_
    · refine Keeps.app (State.sessClose_keeps _ _ _) rfl rfl ?_
      exact hy0
    · exact hy0

theorem State.wrongState_keeps (s : State) (d : Desc) :
    Keeps 256 0 s (State.wrongState s d) := by
  have h_s : Keeps 256 0 s s := Keeps.rfl
  delta State.wrongState
  refine Keeps.app (State.complete_keeps _ _ _ _ _) rfl rfl ?_
  exact h_s

theorem execRevocationStatus_keeps (d : Desc) (s : State) :
    KeepsO 98656 0x800000000000000000010588030000000000000000000000018088800000 s (execRevocationStatus d s) := by
  have h_s : Keeps 98656 0x800000000000000000010588030000000000000000000000018088800000 s s := Keeps.rfl
  delta execRevocationStatus
  refine KeepsO.next ?_
  refine State.command_keeps (P := 98656) (B := 0x800000000000000000010588030000000000000000000000018088800000) rfl rfl ?_ (fun y0 hy0 => ?_)
  · exact h_s
  · refine ite_of (Q := Keeps 98656 0x800000000000000000010588030000000000000000000000018088800000 s) ?_ ?_
    · refine Keeps.app (State.wrongState_keeps _ _) rfl rfl ?_
      exact hy0
    · refine ite_of (Q := Keeps 98656 0x800000000000000000010588030000000000000000000000018088800000 s) ?_ ?_
      · refine Keeps.app (State.ok_keeps _ _ _) rfl rfl ?_
        refine Keeps.app (State.sessGrant_keeps _ _ _ _) rfl rfl ?_
        exact hy0
      · refine Keeps.app (State.ok_keeps _ _ _) rfl rfl ?_
        refine Keeps.app (State.authTable_keeps _ _) rfl rfl ?_
        refine Keeps.app (State.modSx_keeps _ _ _) rfl rfl ?_
        exact hy0

theorem State.faultCleared_keeps (s : State) (p : Fin 8) :
    Keeps 98656 0x800000000000000000010588030000000000000000000000018088800000 s (State.faultCleared s p) := by
  have h_s : Keeps 98656 0x800000000000000000010588030000000000000000000000018088800000 s s := Keeps.rfl
  delta State.faultCleared
  extract_lets -underBinder -useContext y0 y1 y2
  have hy0 : Keeps 98656 0x800000000000000000010588030000000000000000000000018088800000 s y0 := by
    refine Keeps.set (.of rfl (in_TPT_STATE _ (by first | exact Fin.isLt _ | omega))) ?_
    exact h_s
  have hy2 : Keeps 98656 0x800000000000000000010588030000000000000000000000018088800000 s y2 := by
    exact Keeps.tpt_ rfl hy0
  refine Keeps.app (State.enter_keeps _ _ _ _) rfl rfl ?_
  exact hy2

theorem execWeldCheckEnd_keeps (p : Fin 8) (passed : Bool) (s : State) :
    KeepsO 98656 0x800000000000000000010588030000000000000000000000018088800000 s (execWeldCheckEnd p passed s) := by
  have h_s : Keeps 98656 0x800000000000000000010588030000000000000000000000018088800000 s s := Keeps.rfl
  delta execWeldCheckEnd
  refine KeepsO.next ?_
  refine State.ap_keeps (P := 98656) (B := 0x800000000000000000010588030000000000000000000000018088800000) rfl rfl ?_ (fun y0 hy0 => ?_)
  · exact h_s
  · split
    · exact hy0
    · extract_lets -underBinder -useContext y2
      have hy2 : Keeps 98656 0x800000000000000000010588030000000000000000000000018088800000 s y2 := by
        refine Keeps.app (State.modSx_keeps _ _ _) rfl rfl ?_
        exact hy0
      refine ite_of (Q := Keeps 98656 0x800000000000000000010588030000000000000000000000018088800000 s) ?_ ?_
      · exact hy0
      · refine ite_of (Q := Keeps 98656 0x800000000000000000010588030000000000000000000000018088800000 s) ?_ ?_
        · refine Keeps.app (State.ok_keeps _ _ _) rfl rfl ?_
          refine Keeps.app (State.faultCleared_keeps _ _) rfl rfl ?_
          exact hy2
        · refine Keeps.app (State.complete_keeps _ _ _ _ _) rfl rfl ?_
          exact hy2

theorem State.couplingBad_keeps (s : State) (p : Fin 8) :
    Keeps 99696 0x800000000100000000010588030000000000000000000000018088800000 s (State.couplingBad s p) := by
  have h_s : Keeps 99696 0x800000000100000000010588030000000000000000000000018088800000 s s := Keeps.rfl
  delta State.couplingBad
  refine Keeps.app (State.sessFaultLive_keeps _ _ _) rfl rfl ?_
  refine Keeps.app (State.raise_keeps _ _) rfl rfl ?_
  exact h_s

theorem State.settle_keeps (s : State) (p : Fin 8) (gen : ℕ) :
    Keeps 98592 0x800000000000000000000020020000000000000000000000018088800000 s (State.settle s p gen) := by
  have h_s : Keeps 98592 0x800000000000000000000020020000000000000000000000018088800000 s s := Keeps.rfl
  delta State.settle
  extract_lets -underBinder -useContext y0 y1
  have hy0 : Keeps 98592 0x800000000000000000000020020000000000000000000000018088800000 s y0 := by
    refine Keeps.set (.of rfl (in_PTN_COUP _ (by first | exact Fin.isLt _ | omega))) ?_
    refine Keeps.set (.of rfl (in_TPT_STATE _ (by first | exact Fin.isLt _ | omega))) ?_
    exact h_s
  have hy1 : Keeps 98592 0x800000000000000000000020020000000000000000000000018088800000 s y1 := by
    refine Keeps.app (State.modSx_keeps _ _ _) rfl rfl ?_
    exact hy0
  refine ite_of (Q := Keeps 98592 0x800000000000000000000020020000000000000000000000018088800000 s) ?_ ?_
  · refine Keeps.app (State.raise_keeps _ _) rfl rfl ?_
    refine Keeps.app (State.sessFlag_keeps _ _ _) rfl rfl ?_
    exact hy1
  · exact hy1

theorem State.skidState_keeps (s : State) (p : Fin 8) (ready : Bool) (stop : Bool) :
    Keeps 99696 0x800000000100000000010588030300000000000000000000018088800000 s (State.skidState s p ready stop) := by
  have h_s : Keeps 99696 0x800000000100000000010588030300000000000000000000018088800000 s s := Keeps.rfl
  delta State.skidState
  extract_lets -underBinder -useContext y0
  have hy0 : Keeps 99696 0x800000000100000000010588030300000000000000000000018088800000 s y0 := by
    refine Keeps.app (State.modSx_keeps _ _ _) rfl rfl ?_
    exact h_s
  refine ite_of (Q := Keeps 99696 0x800000000100000000010588030300000000000000000000018088800000 s) ?_ ?_
  · refine Keeps.app (State.sessPartnerStop_keeps _ _) rfl rfl ?_
    exact hy0
  · refine Keeps.app (State.tryStart_keeps _ _) rfl rfl ?_
    exact hy0

theorem State.coupling_keeps (s : State) (p : Fin 8) (m : CoupMsg) :
    Keeps 99696 0x8000000001000000000105A8070300000000000000000000018088800000 s (State.coupling s p m) := by
  have h_s : Keeps 99696 0x8000000001000000000105A8070300000000000000000000018088800000 s s := Keeps.rfl
  delta State.coupling
  split
  · refine ite_of (Q := Keeps 99696 0x8000000001000000000105A8070300000000000000000000018088800000 s) ?_ ?_
    · refine ite_of (Q := Keeps 99696 0x8000000001000000000105A8070300000000000000000000018088800000 s) ?_ ?_
      · refine Keeps.app (State.modSx_keeps _ _ _) rfl rfl ?_
        exact h_s
      · refine Keeps.app (State.couplingBad_keeps _ _) rfl rfl ?_
        exact h_s
    · refine ite_of (Q := Keeps 99696 0x8000000001000000000105A8070300000000000000000000018088800000 s) ?_ ?_
      · exact h_s
      · refine ite_of (Q := Keeps 99696 0x8000000001000000000105A8070300000000000000000000018088800000 s) ?_ ?_
        · refine Keeps.app (State.sessIdentify_keeps _ _ _ _) rfl rfl ?_
          refine Keeps.app (State.emit_keeps _ _) rfl rfl ?_
          refine Keeps.app (State.settle_keeps _ _ _) rfl rfl ?_
          exact h_s
        · refine Keeps.app (State.couplingBad_keeps _ _) rfl rfl ?_
          exact h_s
  · extract_lets -underBinder -useContext y6 y7
    have hy7 : Keeps 99696 0x8000000001000000000105A8070300000000000000000000018088800000 s y7 := by
      refine Keeps.app (State.modSx_keeps _ _ _) rfl rfl ?_
      refine Keeps.count (.of rfl (in_PTN_COUP _ (by first | exact Fin.isLt _ | omega))) ?_
      exact h_s
    refine ite_of (Q := Keeps 99696 0x8000000001000000000105A8070300000000000000000000018088800000 s) ?_ ?_
    · refine Keeps.app (State.skidState_keeps _ _ _ _) rfl rfl ?_
      refine Keeps.app (State.modSx_keeps _ _ _) rfl rfl ?_
      exact h_s
    · refine ite_of (Q := Keeps 99696 0x8000000001000000000105A8070300000000000000000000018088800000 s) ?_ ?_
      · exact h_s
      · refine ite_of (Q := Keeps 99696 0x8000000001000000000105A8070300000000000000000000018088800000 s) ?_ ?_
        · refine Keeps.app (State.couplingBad_keeps _ _) rfl rfl ?_
          exact h_s
        · refine ite_of (Q := Keeps 99696 0x8000000001000000000105A8070300000000000000000000018088800000 s) ?_ ?_
          · refine ite_of (Q := Keeps 99696 0x8000000001000000000105A8070300000000000000000000018088800000 s) ?_ ?_
            · refine Keeps.app (State.couplingBad_keeps _ _) rfl rfl ?_
              exact hy7
            · exact hy7
          · refine Keeps.app (State.skidState_keeps _ _ _ _) rfl rfl ?_
            refine Keeps.app (State.modSx_keeps _ _ _) rfl rfl ?_
            exact h_s

theorem execStopSession_keeps (d : Desc) (s : State) :
    KeepsO 99696 0x800000000100000000010588030000000000000000000000018088800000 s (execStopSession d s) := by
  have h_s : Keeps 99696 0x800000000100000000010588030000000000000000000000018088800000 s s := Keeps.rfl
  delta execStopSession
  refine KeepsO.next ?_
  refine State.command_keeps (P := 99696) (B := 0x800000000100000000010588030000000000000000000000018088800000) rfl rfl ?_ (fun y0 hy0 => ?_)
  · exact h_s
  · refine ite_of (Q := Keeps 99696 0x800000000100000000010588030000000000000000000000018088800000 s) ?_ ?_
    · refine Keeps.app (State.wrongState_keeps _ _) rfl rfl ?_
      exact hy0
    · refine ite_of (Q := Keeps 99696 0x800000000100000000010588030000000000000000000000018088800000 s) ?_ ?_
      · refine Keeps.app (State.ok_keeps _ _ _) rfl rfl ?_
        refine Keeps.app (State.sessStopBy_keeps _ _ _) rfl rfl ?_
        exact hy0
      · refine Keeps.app (State.wrongState_keeps _ _) rfl rfl ?_
        refine Keeps.app (State.sameTick_keeps _ _ _) rfl rfl ?_
        exact hy0

theorem execStackCommandSend_keeps (p : Fin 8) (s : State) :
    KeepsO 196640 0 s (execStackCommandSend p s) := by
  have h_s : Keeps 196640 0 s s := Keeps.rfl
  delta execStackCommandSend
  extract_lets -underBinder -useContext y0 y1
  refine KeepsO.next ?_
  refine State.ptap_keeps (P := 196640) (B := 0) rfl rfl ?_ (fun y2 hy2 => ?_)
  · exact h_s
  · extract_lets -underBinder -useContext y3 y4 y5 y6
    have hy5 : KeepsE 196640 0 s y5 := by
      refine KeepsE.app (State.fresh_keeps _) rfl rfl ?_
      exact hy2
    have hy6 : Keeps 196640 0 s y6 := by
      refine Keeps.app (State.modSx_keeps _ _ _) rfl rfl ?_
      refine KeepsE.snd ?_
      exact hy5
    refine ite_of (Q := Keeps 196640 0 s) ?_ ?_
    · exact hy2
    · refine Keeps.app (State.emit_keeps _ _) rfl rfl ?_
      exact hy6

theorem execOvercurrentViolation_keeps (p : Fin 8) (s : State) :
    KeepsO 99696 0x8000000001000000000105C8030000000000000000000000018088800000 s (execOvercurrentViolation p s) := by
  have h_s : Keeps 99696 0x8000000001000000000105C8030000000000000000000000018088800000 s s := Keeps.rfl
  delta execOvercurrentViolation
  refine KeepsO.next ?_
  refine State.ap_keeps (P := 99696) (B := 0x8000000001000000000105C8030000000000000000000000018088800000) rfl rfl ?_ (fun y0 hy0 => ?_)
  · exact h_s
  · refine ite_of (Q := Keeps 99696 0x8000000001000000000105C8030000000000000000000000018088800000 s) ?_ ?_
    · refine Keeps.app (State.sessFault_keeps _ _ _ _) rfl rfl ?_
      refine Keeps.app (State.violation_keeps _ _) rfl rfl ?_
      exact hy0
    · exact hy0

theorem State.heartbeatLost_keeps (s : State) (p : Fin 8) :
    Keeps 99696 0x8000000001000000000105C8030000000000000000000000018088800000 s (State.heartbeatLost s p) := by
  have h_s : Keeps 99696 0x8000000001000000000105C8030000000000000000000000018088800000 s s := Keeps.rfl
  delta State.heartbeatLost
  refine Keeps.app (State.sessFaultLive_keeps _ _ _) rfl rfl ?_
  refine Keeps.app (State.raise_keeps _ _) rfl rfl ?_
  refine Keeps.count (.of rfl (in_PTN_ERR _ (by first | exact Fin.isLt _ | omega))) ?_
  exact h_s

theorem execCheckTimeout_keeps (p : Fin 8) (k : CheckKind) (s : State) :
    KeepsO 99696 0x800000000100000000010588030000000000000000000000018088800000 s (execCheckTimeout p k s) := by
  have h_s : Keeps 99696 0x800000000100000000010588030000000000000000000000018088800000 s s := Keeps.rfl
  delta execCheckTimeout
  refine KeepsO.next ?_
  refine State.ap_keeps (P := 99696) (B := 0x800000000100000000010588030000000000000000000000018088800000) rfl rfl ?_ (fun y0 hy0 => ?_)
  · exact h_s
  · refine ite_of (Q := Keeps 99696 0x800000000100000000010588030000000000000000000000018088800000 s) ?_ ?_
    · refine Keeps.app (State.checkFailed_keeps _ _ _) rfl rfl ?_
      exact hy0
    · exact hy0

theorem execHostCurrentLimit_keeps (d : Desc) (s : State) :
    KeepsO 288 0x8000000000000000000000000000000000000 s (execHostCurrentLimit d s) := by
  have h_s : Keeps 288 0x8000000000000000000000000000000000000 s s := Keeps.rfl
  delta execHostCurrentLimit
  extract_lets -underBinder -useContext y0
  refine KeepsO.next ?_
  refine State.command_keeps (P := 288) (B := 0x8000000000000000000000000000000000000) rfl rfl ?_ (fun y1 hy1 => ?_)
  · exact h_s
  · extract_lets -underBinder -useContext y2
    refine Keeps.app (State.ok_keeps _ _ _) rfl rfl ?_
    refine Keeps.app (State.showPilot_keeps _ _) rfl rfl ?_
    refine Keeps.app (State.modSx_keeps _ _ _) rfl rfl ?_
    exact hy1

theorem execLoadContractTable_keeps (d : Desc) (s : State) :
    KeepsO 288 0x4000000000000000000000000000000000 s (execLoadContractTable d s) := by
  have h_s : Keeps 288 0x4000000000000000000000000000000000 s s := Keeps.rfl
  delta execLoadContractTable
  extract_lets -underBinder -useContext y0
  refine KeepsO.next ?_
  refine State.command_keeps (P := 288) (B := 0x4000000000000000000000000000000000) rfl rfl ?_ (fun y1 hy1 => ?_)
  · exact h_s
  · extract_lets -underBinder -useContext y2 y3 y4 y5
    have hy5 : Keeps 288 0x4000000000000000000000000000000000 s y5 := by
      exact Keeps.tpt_ rfl hy1
    refine Keeps.app (State.ok_keeps _ _ _) rfl rfl ?_
    refine Keeps.set (.of rfl in_TPT_CTAB_STATUS) ?_
    refine Keeps.set (.of rfl in_TPT_CTAB_STATUS) ?_
    exact hy5

theorem execDcContactorOpenTimeout_keeps (p : Fin 8) (s : State) :
    KeepsO 64 0x10580000000000000000000000000000000000000 s (execDcContactorOpenTimeout p s) := by
  have h_s : Keeps 64 0x10580000000000000000000000000000000000000 s s := Keeps.rfl
  delta execDcContactorOpenTimeout
  refine KeepsO.next ?_
  refine State.ap_keeps (P := 64) (B := 0x10580000000000000000000000000000000000000) rfl rfl ?_ (fun y0 hy0 => ?_)
  · exact h_s
  · refine ite_of (Q := Keeps 64 0x10580000000000000000000000000000000000000 s) ?_ ?_
    · refine Keeps.app (State.openPoint_keeps _ _) rfl rfl ?_
      exact hy0
    · exact hy0

theorem execStackCurrentMismatch_keeps (p : Fin 8) (s : State) :
    KeepsO 99696 0x800000000100000000010588030000000000000000000000018088800000 s (execStackCurrentMismatch p s) := by
  have h_s : Keeps 99696 0x800000000100000000010588030000000000000000000000018088800000 s s := Keeps.rfl
  delta execStackCurrentMismatch
  refine KeepsO.next ?_
  refine State.ptap_keeps (P := 99696) (B := 0x800000000100000000010588030000000000000000000000018088800000) rfl rfl ?_ (fun y0 hy0 => ?_)
  · exact h_s
  · refine ite_of (Q := Keeps 99696 0x800000000100000000010588030000000000000000000000018088800000 s) ?_ ?_
    · refine Keeps.app (State.stackFault_keeps _ _) rfl rfl ?_
      exact hy0
    · exact hy0

theorem execCouplingDetect_keeps (p : Fin 8) (loop : ℕ) (s : State) :
    KeepsO 229728 0x8000000000000000000105A8030000000000000000000000018088800000 s (execCouplingDetect p loop s) := by
  have h_s : Keeps 229728 0x8000000000000000000105A8030000000000000000000000018088800000 s s := Keeps.rfl
  delta execCouplingDetect
  refine KeepsO.next ?_
  refine State.ptap_keeps (P := 229728) (B := 0x8000000000000000000105A8030000000000000000000000018088800000) rfl rfl ?_ (fun y0 hy0 => ?_)
  · exact h_s
  · extract_lets -underBinder -useContext y1 y2 y3 y4
    have hy1 : Keeps 229728 0x8000000000000000000105A8030000000000000000000000018088800000 s y1 := by
      refine Keeps.setSat (.of rfl (in_PTN_COUP _ (by first | exact Fin.isLt _ | omega))) ?_
      exact hy0
    have hy3 : Keeps 229728 0x8000000000000000000105A8030000000000000000000000018088800000 s y3 := by
      refine Keeps.app (State.sessDetect_keeps _ _) rfl rfl ?_
      exact hy1
    have hy4 : KeepsE 229728 0x8000000000000000000105A8030000000000000000000000018088800000 s y4 := by
      refine KeepsE.app (State.fresh_keeps _) rfl rfl ?_
      exact hy3
    refine ite_of (Q := Keeps 229728 0x8000000000000000000105A8030000000000000000000000018088800000 s) ?_ ?_
    · exact hy1
    · refine ite_of (Q := Keeps 229728 0x8000000000000000000105A8030000000000000000000000018088800000 s) ?_ ?_
      · refine Keeps.app (State.emit_keeps _ _) rfl rfl ?_
        refine KeepsE.snd ?_
        exact hy4
      · exact hy3

theorem execChecksPassed_keeps (p : Fin 8) (s : State) :
    KeepsO 98672 0x800000000000000000010588030300000000000000000000018088800000 s (execChecksPassed p s) := by
  have h_s : Keeps 98672 0x800000000000000000010588030300000000000000000000018088800000 s s := Keeps.rfl
  delta execChecksPassed
  refine KeepsO.next ?_
  refine State.ap_keeps (P := 98672) (B := 0x800000000000000000010588030300000000000000000000018088800000) rfl rfl ?_ (fun y0 hy0 => ?_)
  · exact h_s
  · refine ite_of (Q := Keeps 98672 0x800000000000000000010588030300000000000000000000018088800000 s) ?_ ?_
    · refine Keeps.app (State.tryStart_keeps _ _) rfl rfl ?_
      refine Keeps.app (State.enter_keeps _ _ _ _) rfl rfl ?_
      refine Keeps.app (State.modSx_keeps _ _ _) rfl rfl ?_
      exact hy0
    · exact hy0

theorem execClearFault_keeps (d : Desc) (s : State) :
    KeepsO 98656 0x800000000000000000010588030000000000000000000000018088800000 s (execClearFault d s) := by
  have h_s : Keeps 98656 0x800000000000000000010588030000000000000000000000018088800000 s s := Keeps.rfl
  delta execClearFault
  refine KeepsO.next ?_
  refine State.command_keeps (P := 98656) (B := 0x800000000000000000010588030000000000000000000000018088800000) rfl rfl ?_ (fun y0 hy0 => ?_)
  · exact h_s
  · extract_lets -underBinder -useContext y1
    refine ite_of (Q := Keeps 98656 0x800000000000000000010588030000000000000000000000018088800000 s) ?_ ?_
    · refine Keeps.app (State.wrongState_keeps _ _) rfl rfl ?_
      exact hy0
    · refine ite_of (Q := Keeps 98656 0x800000000000000000010588030000000000000000000000018088800000 s) ?_ ?_
      · refine Keeps.app (State.modSx_keeps _ _ _) rfl rfl ?_
        refine Keeps.app (State.openPoint_keeps _ _) rfl rfl ?_
        exact hy0
      · refine Keeps.app (State.ok_keeps _ _ _) rfl rfl ?_
        refine Keeps.app (State.faultCleared_keeps _ _) rfl rfl ?_
        exact hy0

theorem execServiceState_keeps (d : Desc) (s : State) :
    KeepsO 256 0x8020000000000000000000000000000000000 s (execServiceState d s) := by
  have h_s : Keeps 256 0x8020000000000000000000000000000000000 s s := Keeps.rfl
  delta execServiceState
  refine KeepsO.next ?_
  refine State.command_keeps (P := 256) (B := 0x8020000000000000000000000000000000000) rfl rfl ?_ (fun y0 hy0 => ?_)
  · exact h_s
  · refine ite_of (Q := Keeps 256 0x8020000000000000000000000000000000000 s) ?_ ?_
    · refine Keeps.app (State.wrongState_keeps _ _) rfl rfl ?_
      exact hy0
    · refine Keeps.app (State.ok_keeps _ _ _) rfl rfl ?_
      refine Keeps.app (State.showPilot_keeps _ _) rfl rfl ?_
      refine Keeps.set (.of rfl (in_TPT_STATE _ (by first | exact Fin.isLt _ | omega))) ?_
      exact hy0

theorem execReadyTimeout_keeps (p : Fin 8) (s : State) :
    KeepsO 99696 0x800000000100000000010588030000000000000000000000018088800000 s (execReadyTimeout p s) := by
  have h_s : Keeps 99696 0x800000000100000000010588030000000000000000000000018088800000 s s := Keeps.rfl
  delta execReadyTimeout
  refine KeepsO.next ?_
  refine State.ap_keeps (P := 99696) (B := 0x800000000100000000010588030000000000000000000000018088800000) rfl rfl ?_ (fun y0 hy0 => ?_)
  · exact h_s
  · refine ite_of (Q := Keeps 99696 0x800000000100000000010588030000000000000000000000018088800000 s) ?_ ?_
    · refine Keeps.app (State.sessClose_keeps _ _ _) rfl rfl ?_
      exact hy0
    · exact hy0

theorem execLeakTestEnd_keeps (p : Fin 8) (s : State) :
    KeepsO 99696 0x800000000100000000010588030000000000000000000000018088800000 s (execLeakTestEnd p s) := by
  have h_s : Keeps 99696 0x800000000100000000010588030000000000000000000000018088800000 s s := Keeps.rfl
  delta execLeakTestEnd
  refine KeepsO.next ?_
  refine State.ap_keeps (P := 99696) (B := 0x800000000100000000010588030000000000000000000000018088800000) rfl rfl ?_ (fun y0 hy0 => ?_)
  · exact h_s
  · refine ite_of (Q := Keeps 99696 0x800000000100000000010588030000000000000000000000018088800000 s) ?_ ?_
    · refine ite_of (Q := Keeps 99696 0x800000000100000000010588030000000000000000000000018088800000 s) ?_ ?_
      · refine Keeps.app (State.modSx_keeps _ _ _) rfl rfl ?_
        exact hy0
      · refine Keeps.app (State.checkFailed_keeps _ _ _) rfl rfl ?_
        exact hy0
    · exact hy0

theorem execHandshakeTimeout_keeps (p : Fin 8) (s : State) :
    KeepsO 99696 0x800000000100000000010588030000000000000000000000018088800000 s (execHandshakeTimeout p s) := by
  have h_s : Keeps 99696 0x800000000100000000010588030000000000000000000000018088800000 s s := Keeps.rfl
  delta execHandshakeTimeout
  refine KeepsO.next ?_
  refine State.ap_keeps (P := 99696) (B := 0x800000000100000000010588030000000000000000000000018088800000) rfl rfl ?_ (fun y0 hy0 => ?_)
  · exact h_s
  · refine ite_of (Q := Keeps 99696 0x800000000100000000010588030000000000000000000000018088800000 s) ?_ ?_
    · refine Keeps.app (State.sessFault_keeps _ _ _ _) rfl rfl ?_
      exact hy0
    · refine ite_of (Q := Keeps 99696 0x800000000100000000010588030000000000000000000000018088800000 s) ?_ ?_
      · refine Keeps.app (State.sessFaultLive_keeps _ _ _) rfl rfl ?_
        refine Keeps.app (State.modSx_keeps _ _ _) rfl rfl ?_
        exact hy0
      · exact hy0

theorem execFallbackPilotFEnd_keeps (p : Fin 8) (s : State) :
    KeepsO 32 0x8000000000000000000000000000000000000 s (execFallbackPilotFEnd p s) := by
  have h_s : Keeps 32 0x8000000000000000000000000000000000000 s s := Keeps.rfl
  delta execFallbackPilotFEnd
  refine ite_of (Q := KeepsO 32 0x8000000000000000000000000000000000000 s) ?_ ?_
  · refine KeepsO.next ?_
    exact h_s
  · refine KeepsO.next ?_
    refine Keeps.app (State.showPilot_keeps _ _) rfl rfl ?_
    refine Keeps.app (State.modSx_keeps _ _ _) rfl rfl ?_
    exact h_s

theorem execAuthorise_keeps (d : Desc) (s : State) :
    KeepsO 99696 0x800000000100000000010588030000000000000000000000018088800000 s (execAuthorise d s) := by
  have h_s : Keeps 99696 0x800000000100000000010588030000000000000000000000018088800000 s s := Keeps.rfl
  delta execAuthorise
  extract_lets -underBinder -useContext y0
  refine KeepsO.next ?_
  refine State.command_keeps (P := 99696) (B := 0x800000000100000000010588030000000000000000000000018088800000) rfl rfl ?_ (fun y1 hy1 => ?_)
  · exact h_s
  · refine ite_of (Q := Keeps 99696 0x800000000100000000010588030000000000000000000000018088800000 s) ?_ ?_
    · refine Keeps.app (State.wrongState_keeps _ _) rfl rfl ?_
      exact hy1
    · refine ite_of (Q := Keeps 99696 0x800000000100000000010588030000000000000000000000018088800000 s) ?_ ?_
      · refine Keeps.app (State.ok_keeps _ _ _) rfl rfl ?_
        refine Keeps.app (State.sessGrant_keeps _ _ _ _) rfl rfl ?_
        exact hy1
      · refine Keeps.app (State.ok_keeps _ _ _) rfl rfl ?_
        refine Keeps.app (State.sessClose_keeps _ _ _) rfl rfl ?_
        exact hy1

theorem execVehicleMessageTimeout_keeps (p : Fin 8) (s : State) :
    KeepsO 99696 0x8000000001000000000105C8030000000000000000000000018088800000 s (execVehicleMessageTimeout p s) := by
  have h_s : Keeps 99696 0x8000000001000000000105C8030000000000000000000000018088800000 s s := Keeps.rfl
  delta execVehicleMessageTimeout
  refine KeepsO.next ?_
  refine State.ptap_keeps (P := 99696) (B := 0x8000000001000000000105C8030000000000000000000000018088800000) rfl rfl ?_ (fun y0 hy0 => ?_)
  · exact h_s
  · refine ite_of (Q := Keeps 99696 0x8000000001000000000105C8030000000000000000000000018088800000 s) ?_ ?_
    · refine Keeps.app (State.heartbeatLost_keeps _ _) rfl rfl ?_
      exact hy0
    · exact hy0

theorem State.pilotEvent_keeps (s : State) (p : Fin 8) (old : ℕ) (cp : ℕ) (diode : Bool) :
    Keeps 99696 0x8000000001000000000105A8030300000000000000000000018088800000 s (State.pilotEvent s p old cp diode) := by
  have h_s : Keeps 99696 0x8000000001000000000105A8030300000000000000000000018088800000 s s := Keeps.rfl
  delta State.pilotEvent
  extract_lets -underBinder -useContext y0 y1 y2 y3 y4 y5 y6
  have hy5 : Keeps 99696 0x8000000001000000000105A8030300000000000000000000018088800000 s y5 := by
    refine ite_of (Q := Keeps 99696 0x8000000001000000000105A8030300000000000000000000018088800000 s) ?_ ?_
    · refine Keeps.app (State.sessFaultLive_keeps _ _ _) rfl rfl ?_
      refine Keeps.app (State.raise_keeps _ _) rfl rfl ?_
      exact h_s
    · exact h_s
  have hy6 : Keeps 99696 0x8000000001000000000105A8030300000000000000000000018088800000 s y6 := by
    refine ite_of (Q := Keeps 99696 0x8000000001000000000105A8030300000000000000000000018088800000 s) ?_ ?_
    · exact hy5
    · refine Keeps.app (State.sessDetect_keeps _ _) rfl rfl ?_
      exact hy5
  refine ite_of (Q := Keeps 99696 0x8000000001000000000105A8030300000000000000000000018088800000 s) ?_ ?_
  · refine Keeps.app (State.sessAbsent_keeps _ _) rfl rfl ?_
    exact hy5
  · refine ite_of (Q := Keeps 99696 0x8000000001000000000105A8030300000000000000000000018088800000 s) ?_ ?_
    · exact hy5
    · refine ite_of (Q := Keeps 99696 0x8000000001000000000105A8030300000000000000000000018088800000 s) ?_ ?_
      · refine Keeps.app (State.sessPartnerStop_keeps _ _) rfl rfl ?_
        exact hy6
      · refine Keeps.app (State.tryStart_keeps _ _) rfl rfl ?_
        exact hy6

theorem execCouplingHeartbeatLost_keeps (p : Fin 8) (s : State) :
    KeepsO 99696 0x8000000001000000000105C8030000000000000000000000018088800000 s (execCouplingHeartbeatLost p s) := by
  have h_s : Keeps 99696 0x8000000001000000000105C8030000000000000000000000018088800000 s s := Keeps.rfl
  delta execCouplingHeartbeatLost
  refine KeepsO.next ?_
  refine State.ptap_keeps (P := 99696) (B := 0x8000000001000000000105C8030000000000000000000000018088800000) rfl rfl ?_ (fun y0 hy0 => ?_)
  · exact h_s
  · refine ite_of (Q := Keeps 99696 0x8000000001000000000105C8030000000000000000000000018088800000 s) ?_ ?_
    · refine Keeps.app (State.heartbeatLost_keeps _ _) rfl rfl ?_
      exact hy0
    · exact hy0

theorem execLeakTestSettleEnd_keeps (p : Fin 8) (s : State) :
    KeepsO 32 0 s (execLeakTestSettleEnd p s) := by
  have h_s : Keeps 32 0 s s := Keeps.rfl
  delta execLeakTestSettleEnd
  refine KeepsO.next ?_
  refine State.ap_keeps (P := 32) (B := 0) rfl rfl ?_ (fun y0 hy0 => ?_)
  · exact h_s
  · extract_lets -underBinder -useContext y1
    refine ite_of (Q := Keeps 32 0 s) ?_ ?_
    · refine Keeps.app (State.modSx_keeps _ _ _) rfl rfl ?_
      exact hy0
    · exact hy0

theorem execLeakTestFillEnd_keeps (p : Fin 8) (s : State) :
    KeepsO 96 0x10580000000000000000000000000000000000000 s (execLeakTestFillEnd p s) := by
  have h_s : Keeps 96 0x10580000000000000000000000000000000000000 s s := Keeps.rfl
  delta execLeakTestFillEnd
  refine KeepsO.next ?_
  refine State.ap_keeps (P := 96) (B := 0x10580000000000000000000000000000000000000) rfl rfl ?_ (fun y0 hy0 => ?_)
  · exact h_s
  · refine ite_of (Q := Keeps 96 0x10580000000000000000000000000000000000000 s) ?_ ?_
    · refine Keeps.app (State.modSx_keeps _ _ _) rfl rfl ?_
      refine Keeps.app (State.openPoint_keeps _ _) rfl rfl ?_
      exact hy0
    · exact hy0

theorem execStackStatusTimeout_keeps (p : Fin 8) (s : State) :
    KeepsO 99696 0x800000000100000000010588030000000000000000000000018088800000 s (execStackStatusTimeout p s) := by
  have h_s : Keeps 99696 0x800000000100000000010588030000000000000000000000018088800000 s s := Keeps.rfl
  delta execStackStatusTimeout
  refine KeepsO.next ?_
  refine State.ptap_keeps (P := 99696) (B := 0x800000000100000000010588030000000000000000000000018088800000) rfl rfl ?_ (fun y0 hy0 => ?_)
  · exact h_s
  · refine ite_of (Q := Keeps 99696 0x800000000100000000010588030000000000000000000000018088800000 s) ?_ ?_
    · refine Keeps.app (State.stackFault_keeps _ _) rfl rfl ?_
      exact hy0
    · exact hy0

theorem execAssignPointType_keeps (d : Desc) (s : State) :
    KeepsO 102676 0x800000010000000000000000000080000000000000000000018088800000 s (execAssignPointType d s) := by
  have h_s : Keeps 102676 0x800000010000000000000000000080000000000000000000018088800000 s s := Keeps.rfl
  delta execAssignPointType
  extract_lets -underBinder -useContext y0
  refine KeepsO.next ?_
  refine State.command_keeps (P := 102676) (B := 0x800000010000000000000000000080000000000000000000018088800000) rfl rfl ?_ (fun y1 hy1 => ?_)
  · exact h_s
  · extract_lets -underBinder -useContext y2 y3
    split
    · refine Keeps.app (State.complete_keeps _ _ _ _ _) rfl rfl ?_
      exact hy1
    · refine ite_of (Q := Keeps 102676 0x800000010000000000000000000080000000000000000000018088800000 s) ?_ ?_
      · refine Keeps.app (State.ok_keeps _ _ _) rfl rfl ?_
        exact hy1
      · refine State.limited_keeps (P := 102676) (B := 0x800000010000000000000000000080000000000000000000018088800000) rfl rfl (.of rfl in_KEY_CHG_LEFT) ?_ (fun y6 hy6 => ?_)
        · exact hy1
        · extract_lets -underBinder -useContext y7 y8 y9 y10 y11
          have hy9 : Keeps 102676 0x800000010000000000000000000080000000000000000000018088800000 s y9 := by
            exact Keeps.met_ rfl hy6
          have hy11 : Keeps 102676 0x800000010000000000000000000080000000000000000000018088800000 s y11 := by
            refine Keeps.app (State.log_keeps _ _) rfl rfl ?_
            exact hy9
          refine Keeps.app (State.ok_keeps _ _ _) rfl rfl ?_
          refine Keeps.app (State.raise_keeps _ _) rfl rfl ?_
          exact hy11

theorem execCouplingIdentityFrame_keeps (p : Fin 8) (frame : List Byte) (s : State) :
    KeepsO 98656 0x8000000000000000000105A8070000000000000000000000018088800000 s (execCouplingIdentityFrame p frame s) := by
  have h_s : Keeps 98656 0x8000000000000000000105A8070000000000000000000000018088800000 s s := Keeps.rfl
  delta execCouplingIdentityFrame
  refine KeepsO.next ?_
  refine State.ptap_keeps (P := 98656) (B := 0x8000000000000000000105A8070000000000000000000000018088800000) rfl rfl ?_ (fun y0 hy0 => ?_)
  · exact h_s
  · extract_lets -underBinder -useContext y1 y2
    refine ite_of (Q := Keeps 98656 0x8000000000000000000105A8070000000000000000000000018088800000 s) ?_ ?_
    · exact hy0
    · refine ite_of (Q := Keeps 98656 0x8000000000000000000105A8070000000000000000000000018088800000 s) ?_ ?_
      · refine ite_of (Q := Keeps 98656 0x8000000000000000000105A8070000000000000000000000018088800000 s) ?_ ?_
        · refine Keeps.app (State.sessIdentify_keeps _ _ _ _) rfl rfl ?_
          refine Keeps.app (State.settle_keeps _ _ _) rfl rfl ?_
          exact hy0
        · exact hy0
      · refine ite_of (Q := Keeps 98656 0x8000000000000000000105A8070000000000000000000000018088800000 s) ?_ ?_
        · refine ite_of (Q := Keeps 98656 0x8000000000000000000105A8070000000000000000000000018088800000 s) ?_ ?_
          · exact hy0
          · refine ite_of (Q := Keeps 98656 0x8000000000000000000105A8070000000000000000000000018088800000 s) ?_ ?_
            · refine Keeps.app (State.sessIdentify_keeps _ _ _ _) rfl rfl ?_
              refine Keeps.app (State.settle_keeps _ _ _) rfl rfl ?_
              exact hy0
            · refine Keeps.app (State.modSx_keeps _ _ _) rfl rfl ?_
              exact hy0
        · exact hy0

theorem execPilotStateChange_keeps (p : Fin 8) (high : ℤ) (low : ℤ) (ohms : ℕ) (s : State) :
    KeepsO 99696 0x8000000001000000000105B8030300000000000000000000018088800000 s (execPilotStateChange p high low ohms s) := by
  have h_s : Keeps 99696 0x8000000001000000000105B8030300000000000000000000018088800000 s s := Keeps.rfl
  delta execPilotStateChange
  extract_lets -underBinder -useContext y0 y1 y2 y3 y4 y5 y6 y7 y8 y9
  have hy4 : Keeps 99696 0x8000000001000000000105B8030300000000000000000000018088800000 s y4 := by
    refine Keeps.set (.of rfl (in_PTN_CP _ p.isLt)) ?_
    refine Keeps.set (.of rfl (in_PTN_CP _ p.isLt)) ?_
    exact h_s
  have hy5 : Keeps 99696 0x8000000001000000000105B8030300000000000000000000018088800000 s y5 := by
    refine Keeps.set (.of rfl (in_PTN_CP _ p.isLt)) ?_
    refine Keeps.set (.of rfl (in_PTN_CP _ p.isLt)) ?_
    exact hy4
  have hy6 : Keeps 99696 0x8000000001000000000105B8030300000000000000000000018088800000 s y6 := by
    refine ite_of (Q := Keeps 99696 0x8000000001000000000105B8030300000000000000000000018088800000 s) ?_ ?_
    · exact hy5
    · refine Keeps.setSat (.of rfl (in_PTN_PP _ p.isLt)) ?_
      refine Keeps.set (.of rfl (in_PTN_PP _ p.isLt)) ?_
      exact hy5
  have hy9 : Keeps 99696 0x8000000001000000000105B8030300000000000000000000018088800000 s y9 := by
    refine Keeps.app (State.showPilot_keeps _ _) rfl rfl ?_
    refine Keeps.app (State.modSx_keeps _ _ _) rfl rfl ?_
    exact hy6
  refine ite_of (Q := KeepsO 99696 0x8000000001000000000105B8030300000000000000000000018088800000 s) ?_ ?_
  · refine KeepsO.next ?_
    exact h_s
  · refine KeepsO.next ?_
    refine ite_of (Q := Keeps 99696 0x8000000001000000000105B8030300000000000000000000018088800000 s) ?_ ?_
    · refine State.ap_keeps (P := 99696) (B := 0x8000000001000000000105B8030300000000000000000000018088800000) rfl rfl ?_ (fun y10 hy10 => ?_)
      · exact hy9
      · refine Keeps.app (State.pilotEvent_keeps _ _ _ _ _) rfl rfl ?_
        exact hy10
    · exact hy9

theorem execCouplingMessage_keeps (p : Fin 8) (m : CoupMsg) (s : State) :
    KeepsO 99696 0x8000000001000000000105A8070300000000000000000000018088800000 s (execCouplingMessage p m s) := by
  have h_s : Keeps 99696 0x8000000001000000000105A8070300000000000000000000018088800000 s s := Keeps.rfl
  delta execCouplingMessage
  refine KeepsO.next ?_
  refine State.ptap_keeps (P := 99696) (B := 0x8000000001000000000105A8070300000000000000000000018088800000) rfl rfl ?_ (fun y0 hy0 => ?_)
  · exact h_s
  · refine ite_of (Q := Keeps 99696 0x8000000001000000000105A8070300000000000000000000018088800000 s) ?_ ?_
    · refine Keeps.app (State.coupling_keeps _ _ _) rfl rfl ?_
      exact hy0
    · exact hy0

theorem execIdentify_keeps (d : Desc) (s : State) :
    KeepsO 98656 0x800000000000000000010588070000000000000000000000018088800000 s (execIdentify d s) := by
  have h_s : Keeps 98656 0x800000000000000000010588070000000000000000000000018088800000 s s := Keeps.rfl
  delta execIdentify
  extract_lets -underBinder -useContext y0 y1 y2
  refine KeepsO.next ?_
  refine State.command_keeps (P := 98656) (B := 0x800000000000000000010588070000000000000000000000018088800000) rfl rfl ?_ (fun y3 hy3 => ?_)
  · exact h_s
  · extract_lets -underBinder -useContext y4
    have hy4 : Keeps 98656 0x800000000000000000010588070000000000000000000000018088800000 s y4 := by
      refine Keeps.app (State.sessIdentify_keeps _ _ _ _) rfl rfl ?_
      exact hy3
    refine ite_of (Q := Keeps 98656 0x800000000000000000010588070000000000000000000000018088800000 s) ?_ ?_
    · refine Keeps.app (State.wrongState_keeps _ _) rfl rfl ?_
      exact hy3
    · refine Keeps.app (State.ok_keeps _ _ _) rfl rfl ?_
      exact hy4

theorem execRcmTestTimeout_keeps (p : Fin 8) (s : State) :
    KeepsO 99700 0x800000000100000000010588030000000000000000000400018088800000 s (execRcmTestTimeout p s) := by
  have h_s : Keeps 99700 0x800000000100000000010588030000000000000000000400018088800000 s s := Keeps.rfl
  delta execRcmTestTimeout
  refine KeepsO.next ?_
  refine State.ap_keeps (P := 99700) (B := 0x800000000100000000010588030000000000000000000400018088800000) rfl rfl ?_ (fun y0 hy0 => ?_)
  · exact h_s
  · extract_lets -underBinder -useContext y1 y2 y3 y4
    have hy2 : Keeps 99700 0x800000000100000000010588030000000000000000000400018088800000 s y2 := by
      refine ite_of (Q := Keeps 99700 0x800000000100000000010588030000000000000000000400018088800000 s) ?_ ?_
      · refine Keeps.app (State.commandChan_keeps _ _ _) rfl rfl ?_
        exact hy0
      · exact hy0
    have hy4 : Keeps 99700 0x800000000100000000010588030000000000000000000400018088800000 s y4 := by
      refine Keeps.app (State.modSx_keeps _ _ _) rfl rfl ?_
      exact hy2
    refine ite_of (Q := Keeps 99700 0x800000000100000000010588030000000000000000000400018088800000 s) ?_ ?_
    · exact hy0
    · refine ite_of (Q := Keeps 99700 0x800000000100000000010588030000000000000000000400018088800000 s) ?_ ?_
      · refine Keeps.app (State.clearRcm_keeps _ _) rfl rfl ?_
        exact hy4
      · refine Keeps.app (State.checkFailed_keeps _ _ _) rfl rfl ?_
        exact hy4

theorem execCouplingAbsent_keeps (p : Fin 8) (loop : ℕ) (s : State) :
    KeepsO 99696 0x8000000001000000000105A8030000000000000000000000018088800000 s (execCouplingAbsent p loop s) := by
  have h_s : Keeps 99696 0x8000000001000000000105A8030000000000000000000000018088800000 s s := Keeps.rfl
  delta execCouplingAbsent
  refine KeepsO.next ?_
  refine State.ptap_keeps (P := 99696) (B := 0x8000000001000000000105A8030000000000000000000000018088800000) rfl rfl ?_ (fun y0 hy0 => ?_)
  · exact h_s
  · extract_lets -underBinder -useContext y1
    have hy1 : Keeps 99696 0x8000000001000000000105A8030000000000000000000000018088800000 s y1 := by
      refine Keeps.setSat (.of rfl (in_PTN_COUP _ (by first | exact Fin.isLt _ | omega))) ?_
      exact hy0
    refine ite_of (Q := Keeps 99696 0x8000000001000000000105A8030000000000000000000000018088800000 s) ?_ ?_
    · exact hy1
    · refine Keeps.set (.of rfl (in_PTN_COUP _ (by first | exact Fin.isLt _ | omega))) ?_
      refine Keeps.app (State.sessAbsent_keeps _ _) rfl rfl ?_
      exact hy1

end Sys2Proof.Machine
end

