-- ==== Sys2Proof/Laws/KeepsTime.lean ====
section
/-! SUPPORT. What the operations of Machine/Time.lean can change, one lemma each (Laws/Keeps.lean says how it is read). -/

namespace Sys2Proof.Machine

theorem State.idle_keeps (s : State) :
    Keeps 1 0 s (State.idle s) := by
  have h_s : Keeps 1 0 s s := Keeps.rfl
  delta State.idle
  extract_lets -underBinder -useContext y0
  refine ite_of (Q := Keeps 1 0 s) ?_ ?_
  · exact Keeps.time_ rfl h_s
  · exact h_s

end Sys2Proof.Machine
end

