-- ==== Sys2Proof/Laws/PerInstr.lean ====
section
/-! SUPPORT. A property of every command as syntax, one lemma for each constructor: what `WellFormed` asks of the
descriptor that a command carries is asked of every command that carries one. -/

namespace Sys2Proof.Laws.Carried

/-- A well-formed command's descriptor, where it carries one, holds 64 bytes (R252). -/
def Statement (i : Instr) : Prop := i.wellFormed = true → ∀ d, i.desc = some d → d.bytes.length = 64

theorem of_desc {i : Instr} : Statement i := by
  intro h d hd
  unfold Instr.wellFormed at h
  rw [hd, Bool.and_eq_true, Option.all_some] at h
  exact beq_iff_eq.1 h.2

theorem registerWrite (off : Word) (size : Nat) (v : Word) : Statement (.registerWrite off size v) := of_desc
theorem quantumBoundary : Statement (.quantumBoundary) := of_desc
theorem crossingStall (snd rcv : Isl) (blameReceiver : Bool) : Statement (.crossingStall snd rcv blameReceiver) := of_desc
theorem crossingReopen (snd rcv : Isl) : Statement (.crossingReopen snd rcv) := of_desc
theorem clockMonitorFault (i : Isl) (remote : Bool) : Statement (.clockMonitorFault i remote) := of_desc
theorem referenceFault : Statement (.referenceFault) := of_desc
theorem watchdogExpiry (engine : Fin 20) : Statement (.watchdogExpiry engine) := of_desc
theorem lockstepError : Statement (.lockstepError) := of_desc
theorem vlRestart : Statement (.vlRestart) := of_desc
theorem scrubRead (i : Isl) (mem : Fin 4) (word : BitVec 24) (err : EccErr) (legalCopy : Bool) : Statement (.scrubRead i mem word err legalCopy) := of_desc
theorem linkFrame (c : Fin 3) (frame : List Byte) : Statement (.linkFrame c frame) := of_desc
theorem linkTimeout (c : Fin 3) : Statement (.linkTimeout c) := of_desc
theorem referenceComparison (ab bc ca : Nat) : Statement (.referenceComparison ab bc ca) := of_desc
theorem channelRecordComplete (c : Fin 3) : Statement (.channelRecordComplete c) := of_desc
theorem phaseConditionSet (c : Fin 3) (p : Fin 8) (k : Fin 3) : Statement (.phaseConditionSet c p k) := of_desc
theorem phaseConditionClear (c : Fin 3) (p : Fin 8) (k : Fin 3) : Statement (.phaseConditionClear c p k) := of_desc
theorem rcmTrip (c : Fin 3) (p : Fin 8) (row : Fin 5) : Statement (.rcmTrip c p row) := of_desc
theorem startTestRequest (v : Word) : Statement (.startTestRequest v) := of_desc
theorem startTest (d : Desc) : Statement (.startTest d) := of_desc
theorem startTestBegin (p : Fin 8) : Statement (.startTestBegin p) := of_desc
theorem startTestEnd (p : Fin 8) : Statement (.startTestEnd p) := of_desc
theorem supplyLossWarning (src : WarnSrc) : Statement (.supplyLossWarning src) := of_desc
theorem supplyLossSave : Statement (.supplyLossSave) := of_desc
theorem saveComplete : Statement (.saveComplete) := of_desc
theorem supplyLossRestart : Statement (.supplyLossRestart) := of_desc
theorem pulseEdge (n : Fin 16) (tickA tickB tickC : Nat) : Statement (.pulseEdge n tickA tickB tickC) := of_desc
theorem modbusPollDue (e : Fin 16) : Statement (.modbusPollDue e) := of_desc
theorem modbusResponse (port : Fin 4) (frame : List Byte) (gap : Bool) : Statement (.modbusResponse port frame gap) := of_desc
theorem modbusTimeout (port : Fin 4) : Statement (.modbusTimeout port) := of_desc
theorem modbusValueStale (e : Fin 16) : Statement (.modbusValueStale e) := of_desc
theorem totaliserCheck (e : Fin 16) : Statement (.totaliserCheck e) := of_desc
theorem fieldRecordArrival (c : Fin 3) : Statement (.fieldRecordArrival c) := of_desc
theorem fieldRecordLate (c : Fin 3) : Statement (.fieldRecordLate c) := of_desc
theorem substitutionStop (p : Fin 8) : Statement (.substitutionStop p) := of_desc
theorem quantumRecordArrival (arrived corrupt : List (Fin 3)) : Statement (.quantumRecordArrival arrived corrupt) := of_desc
theorem resolutionDeadline : Statement (.resolutionDeadline) := of_desc
theorem reverificationBegin (c : Fin 3) : Statement (.reverificationBegin c) := of_desc
theorem reverify (v : Word) : Statement (.reverify v) := of_desc
theorem forceOut (v : Word) : Statement (.forceOut v) := of_desc
theorem channelRejoin (c : Fin 3) : Statement (.channelRejoin c) := of_desc
theorem votTolWrite (k : Fin 8) (v : Word) : Statement (.votTolWrite k v) := of_desc
theorem signatureComplete : Statement (.signatureComplete) := of_desc
theorem storeEntryWrite : Statement (.storeEntryWrite) := of_desc
theorem slewComplete : Statement (.slewComplete) := of_desc
theorem servoMonth : Statement (.servoMonth) := of_desc
theorem timeQualityExpiry : Statement (.timeQualityExpiry) := of_desc
theorem fabricTimeMismatch : Statement (.fabricTimeMismatch) := of_desc
theorem loadCalibrationSet (d : Desc) : Statement (.loadCalibrationSet d) := of_desc
theorem loadTariffStructure (d : Desc) : Statement (.loadTariffStructure d) := of_desc
theorem closeBillingPeriod (d : Desc) : Statement (.closeBillingPeriod d) := of_desc
theorem takeReading (d : Desc) : Statement (.takeReading d) := of_desc
theorem timeCorrection (d : Desc) : Statement (.timeCorrection d) := of_desc
theorem timeSet (d : Desc) : Statement (.timeSet d) := of_desc
theorem waveformCapture (d : Desc) : Statement (.waveformCapture d) := of_desc
theorem noOperation (d : Desc) : Statement (.noOperation d) := of_desc
theorem locateStore (d : Desc) : Statement (.locateStore d) := of_desc
theorem assignPointType (d : Desc) : Statement (.assignPointType d) := of_desc
theorem identify (d : Desc) : Statement (.identify d) := of_desc
theorem authorise (d : Desc) : Statement (.authorise d) := of_desc
theorem revocationStatus (d : Desc) : Statement (.revocationStatus d) := of_desc
theorem stopSession (d : Desc) : Statement (.stopSession d) := of_desc
theorem clearFault (d : Desc) : Statement (.clearFault d) := of_desc
theorem weldCheckEnd (p : Fin 8) (passed : Bool) : Statement (.weldCheckEnd p passed) := of_desc
theorem serviceState (d : Desc) : Statement (.serviceState d) := of_desc
theorem hostCurrentLimit (d : Desc) : Statement (.hostCurrentLimit d) := of_desc
theorem clearRcmTrip (d : Desc) : Statement (.clearRcmTrip d) := of_desc
theorem loadContractTable (d : Desc) : Statement (.loadContractTable d) := of_desc
theorem pilotStateChange (p : Fin 8) (high low : Int) (ohms : Nat) : Statement (.pilotStateChange p high low ohms) := of_desc
theorem handshakeTimeout (p : Fin 8) : Statement (.handshakeTimeout p) := of_desc
theorem authorisationTimeout (p : Fin 8) : Statement (.authorisationTimeout p) := of_desc
theorem readyTimeout (p : Fin 8) : Statement (.readyTimeout p) := of_desc
theorem checksPassed (p : Fin 8) : Statement (.checksPassed p) := of_desc
theorem checkTimeout (p : Fin 8) (k : CheckKind) : Statement (.checkTimeout p k) := of_desc
theorem overcurrentViolation (p : Fin 8) : Statement (.overcurrentViolation p) := of_desc
theorem vehicleMessage (p : Fin 8) (m : VehMsg) : Statement (.vehicleMessage p m) := of_desc
theorem seccDiscoveryTimeout (p : Fin 8) : Statement (.seccDiscoveryTimeout p) := of_desc
theorem fallbackPilotFEnd (p : Fin 8) : Statement (.fallbackPilotFEnd p) := of_desc
theorem vehicleMessageTimeout (p : Fin 8) : Statement (.vehicleMessageTimeout p) := of_desc
theorem couplingDetect (p : Fin 8) (loop : Nat) : Statement (.couplingDetect p loop) := of_desc
theorem couplingAbsent (p : Fin 8) (loop : Nat) : Statement (.couplingAbsent p loop) := of_desc
theorem couplingAttemptTimeout (p : Fin 8) : Statement (.couplingAttemptTimeout p) := of_desc
theorem couplingIdentityFrame (p : Fin 8) (frame : List Byte) : Statement (.couplingIdentityFrame p frame) := of_desc
theorem couplingMessage (p : Fin 8) (m : CoupMsg) : Statement (.couplingMessage p m) := of_desc
theorem couplingHeartbeatLost (p : Fin 8) : Statement (.couplingHeartbeatLost p) := of_desc
theorem stackCommandSend (p : Fin 8) : Statement (.stackCommandSend p) := of_desc
theorem stackStatusFrame (port : Fin 2) (ident : BitVec 11) (frame : List Byte) : Statement (.stackStatusFrame port ident frame) := of_desc
theorem stackStatusTimeout (p : Fin 8) : Statement (.stackStatusTimeout p) := of_desc
theorem stackCurrentMismatch (p : Fin 8) : Statement (.stackCurrentMismatch p) := of_desc
theorem rcmTestTimeout (p : Fin 8) : Statement (.rcmTestTimeout p) := of_desc
theorem insulationMeasurement (c : Fin 2) (kohm : Nat) : Statement (.insulationMeasurement c kohm) := of_desc
theorem leakTestFillEnd (p : Fin 8) : Statement (.leakTestFillEnd p) := of_desc
theorem leakTestSettleEnd (p : Fin 8) : Statement (.leakTestSettleEnd p) := of_desc
theorem leakTestEnd (p : Fin 8) : Statement (.leakTestEnd p) := of_desc
theorem safeStateReport (p : Fin 8) : Statement (.safeStateReport p) := of_desc
theorem switchConfirmTimeout (p : Fin 8) : Statement (.switchConfirmTimeout p) := of_desc
theorem dcContactorOpenTimeout (p : Fin 8) : Statement (.dcContactorOpenTimeout p) := of_desc
theorem shortDetected (n : Fin 16) : Statement (.shortDetected n) := of_desc
theorem overcurrent (n : Fin 16) : Statement (.overcurrent n) := of_desc
theorem retryPauseEnd (n : Fin 16) : Statement (.retryPauseEnd n) := of_desc
theorem retrySequenceReset (n : Fin 16) : Statement (.retrySequenceReset n) := of_desc
theorem inrushEnd (n : Fin 16) : Statement (.inrushEnd n) := of_desc
theorem openLoad (n : Fin 16) : Statement (.openLoad n) := of_desc
theorem openLoadClear (n : Fin 16) : Statement (.openLoadClear n) := of_desc
theorem aggregateOverload (mean1s inst : Nat) : Statement (.aggregateOverload mean1s inst) := of_desc
theorem shedStep (mean10ms : Nat) : Statement (.shedStep mean10ms) := of_desc
theorem shedReturn (mean1s : Nat) : Statement (.shedReturn mean1s) := of_desc
theorem shedRestoreStep : Statement (.shedRestoreStep) := of_desc
theorem arrayTemperature (degC : Int) : Statement (.arrayTemperature degC) := of_desc
theorem pwmPeriodStart (g : Fin 8) : Statement (.pwmPeriodStart g) := of_desc
theorem vfieldDip (v10mV : Nat) : Statement (.vfieldDip v10mV) := of_desc
theorem uvOff (v10mV : Nat) : Statement (.uvOff v10mV) := of_desc
theorem uvRecovery (v10mV : Nat) : Statement (.uvRecovery v10mV) := of_desc
theorem channelReclaim (n : Fin 16) : Statement (.channelReclaim n) := of_desc
theorem holdExpiry : Statement (.holdExpiry) := of_desc
theorem lswCmdWrite (v : Word) : Statement (.lswCmdWrite v) := of_desc
theorem latchClear (v : Word) : Statement (.latchClear v) := of_desc
theorem lswAggRead : Statement (.lswAggRead) := of_desc
theorem switchHostChannels (d : Desc) : Statement (.switchHostChannels d) := of_desc
theorem clearLatches (d : Desc) : Statement (.clearLatches d) := of_desc
theorem safetyInputFiltered (i : Fin 12) (level : Bool) (inA inB : Bool) (tA tB : Nat) : Statement (.safetyInputFiltered i level inA inB tA tB) := of_desc
theorem sfScan : Statement (.sfScan) := of_desc
theorem safetyDiscrepancy (k : DiscCause) (out : Option (Fin 4)) : Statement (.safetyDiscrepancy k out) := of_desc
theorem outputTest (out : Fin 4) (swB fell : Bool) : Statement (.outputTest out swB fell) := of_desc
theorem switchStuck (out : Fin 4) (swB on : Bool) : Statement (.switchStuck out swB on) := of_desc
theorem inputDiscrepancy (f : Fin 6) : Statement (.inputDiscrepancy f) := of_desc
theorem discrepancyClear (f : Fin 6) : Statement (.discrepancyClear f) := of_desc
theorem twoHandTimeout (f : Fin 6) (inA inB : Bool) : Statement (.twoHandTimeout f inA inB) := of_desc
theorem safetyResetRequest (v : Word) : Statement (.safetyResetRequest v) := of_desc
theorem safetyRestart (v : Word) : Statement (.safetyRestart v) := of_desc
theorem startTestsComplete (pass : Bool) : Statement (.startTestsComplete pass) := of_desc
theorem loadSafetyConfiguration (d : Desc) : Statement (.loadSafetyConfiguration d) := of_desc
theorem confirmSafetyConfiguration (d : Desc) : Statement (.confirmSafetyConfiguration d) := of_desc
theorem safetyConfigTimeout : Statement (.safetyConfigTimeout) := of_desc
theorem hostLinkReset : Statement (.hostLinkReset) := of_desc
theorem hostLinkUp (gen width : BitVec 2) : Statement (.hostLinkUp gen width) := of_desc
theorem linkRetrain (v : Word) : Statement (.linkRetrain v) := of_desc
theorem privLock (v : Word) : Statement (.privLock v) := of_desc
theorem spiFrame (bytes : List Byte) (readLen : Nat) (brokenByte : Bool) : Statement (.spiFrame bytes readLen brokenByte) := of_desc
theorem windowFrame (bytes : List Byte) : Statement (.windowFrame bytes) := of_desc
theorem queueEnable (q : RingQ) (v : Word) : Statement (.queueEnable q v) := of_desc
theorem queueDisable (q : RingQ) (v : Word) : Statement (.queueDisable q v) := of_desc
theorem sqDoorbell (n : Fin 16) (v : Word) (fetched : List (List Byte)) (failed : Bool) : Statement (.sqDoorbell n v fetched failed) := of_desc
theorem cqDoorbell (n : Fin 16) (v : Word) : Statement (.cqDoorbell n v) := of_desc
theorem eqDoorbell (e : Fin 4) (v : Word) : Statement (.eqDoorbell e v) := of_desc
theorem commandDispatch (n : Fin 16) : Statement (.commandDispatch n) := of_desc
theorem commandResult (writeFails : Bool) : Statement (.commandResult writeFails) := of_desc
theorem hostCompletionTimeout (q : RingQ) : Statement (.hostCompletionTimeout q) := of_desc
theorem coalescingTimeout (q : RingQ) : Statement (.coalescingTimeout q) := of_desc
theorem dataPortAccess (off : Word) (op : DpOp) : Statement (.dataPortAccess off op) := of_desc
theorem queueOffer (i : Fin 35) (unit_ type_ : Byte) (body : List Dword) (mismatch : Bool) : Statement (.queueOffer i unit_ type_ body mismatch) := of_desc
theorem queueRelease (i : Fin 35) (mismatch : Bool) : Statement (.queueRelease i mismatch) := of_desc
theorem queStatRead (i : Fin 35) : Statement (.queStatRead i) := of_desc
theorem phyLinkUp (k : Fin 4) : Statement (.phyLinkUp k) := of_desc
theorem phyLinkDown (k : Fin 4) : Statement (.phyLinkDown k) := of_desc
theorem helloSend (k : Fin 4) : Statement (.helloSend k) := of_desc
theorem helloReceive (k : Fin 4) (frame : List Byte) : Statement (.helloReceive k frame) := of_desc
theorem helloTimeout (k : Fin 4) : Statement (.helloTimeout k) := of_desc
theorem linkStateAdvertReceive (port : Fin 5) (frame : List Byte) : Statement (.linkStateAdvertReceive port frame) := of_desc
theorem advertRepeat : Statement (.advertRepeat) := of_desc
theorem advertRefresh : Statement (.advertRefresh) := of_desc
theorem advertAgeOut (ident : BitVec 48) : Statement (.advertAgeOut ident) := of_desc
theorem addressClaimFinal : Statement (.addressClaimFinal) := of_desc
theorem linkCostUpdate (k : Fin 4) (badPerMille meanFill : Nat) : Statement (.linkCostUpdate k badPerMille meanFill) := of_desc
theorem linkSuppressionEnd (port : Fin 5) (j : Fin 32) : Statement (.linkSuppressionEnd port j) := of_desc
theorem routeRecompute : Statement (.routeRecompute) := of_desc
theorem routedFrameForward (port : Fin 5) (frame : List Byte) : Statement (.routedFrameForward port frame) := of_desc
theorem quarantineEnd (port : Fin 5) (j : Fin 32) : Statement (.quarantineEnd port j) := of_desc
theorem reportSpreadDue : Statement (.reportSpreadDue) := of_desc
theorem reportSend : Statement (.reportSend) := of_desc
theorem reportReceive (port : Fin 5) (payload : List Byte) (type_ : Byte) : Statement (.reportReceive port payload type_) := of_desc
theorem collectorStoreWrite : Statement (.collectorStoreWrite) := of_desc
theorem mmd5206Frame (k : Fin 4) (frame : List Byte) : Statement (.mmd5206Frame k frame) := of_desc
theorem fabricCommandReceive (payload : List Byte) : Statement (.fabricCommandReceive payload) := of_desc
theorem fabricCommandCompletion (payload : List Byte) : Statement (.fabricCommandCompletion payload) := of_desc
theorem ptpMessageReceive (k : Fin 4) (m : PtpMsg) : Statement (.ptpMessageReceive k m) := of_desc
theorem ptpSyncSend (k : Fin 4) : Statement (.ptpSyncSend k) := of_desc
theorem ptpAnnounceSend (k : Fin 4) : Statement (.ptpAnnounceSend k) := of_desc
theorem ptpPeerDelaySend (k : Fin 4) : Statement (.ptpPeerDelaySend k) := of_desc
theorem ptpAnnounceTimeout (k : Fin 4) : Statement (.ptpAnnounceTimeout k) := of_desc
theorem ptpLockAcquired : Statement (.ptpLockAcquired) := of_desc
theorem ptpSyncLoss : Statement (.ptpSyncLoss) := of_desc
theorem pairHeartbeatSend : Statement (.pairHeartbeatSend) := of_desc
theorem duplexMirror (m : MirrorItem) : Statement (.duplexMirror m) := of_desc
theorem pairReleaseReceive : Statement (.pairReleaseReceive) := of_desc
theorem pairHeartbeatLoss : Statement (.pairHeartbeatLoss) := of_desc
theorem pairLaneLoss (laneB : Bool) : Statement (.pairLaneLoss laneB) := of_desc
theorem pairLaneReturn (laneB : Bool) (partnerIdent : BitVec 48) (partnerBow : Bool) : Statement (.pairLaneReturn laneB partnerIdent partnerBow) := of_desc
theorem routeLookup (d : Desc) : Statement (.routeLookup d) := of_desc
theorem sendFabricCommand (d : Desc) : Statement (.sendFabricCommand d) := of_desc
theorem fabricCommandTimeout : Statement (.fabricCommandTimeout) := of_desc
theorem switchRole (d : Desc) : Statement (.switchRole d) := of_desc
theorem clearQuarantine (d : Desc) : Statement (.clearQuarantine d) := of_desc
theorem locateCollectorStore (d : Desc) : Statement (.locateCollectorStore d) := of_desc
theorem advanceKeyEpoch (d : Desc) : Statement (.advanceKeyEpoch d) := of_desc
theorem mtlDataFrame (rx : MtlRx) : Statement (.mtlDataFrame rx) := of_desc
theorem mtlAckSend : Statement (.mtlAckSend) := of_desc
theorem mtlAcknowledgement (rx : MtlRx) : Statement (.mtlAcknowledgement rx) := of_desc
theorem mtlAckTimeout : Statement (.mtlAckTimeout) := of_desc
theorem mtlBackoffSlot : Statement (.mtlBackoffSlot) := of_desc
theorem mtlTransmissionEnd : Statement (.mtlTransmissionEnd) := of_desc
theorem mtlTransmissionCutoff : Statement (.mtlTransmissionCutoff) := of_desc
theorem mtlBeaconSend : Statement (.mtlBeaconSend) := of_desc
theorem mtlBeacon (rx : MtlRx) : Statement (.mtlBeacon rx) := of_desc
theorem mtlRefreshSend : Statement (.mtlRefreshSend) := of_desc
theorem mtlRefreshList (rx : MtlRx) : Statement (.mtlRefreshList rx) := of_desc
theorem mtlWantedAdvertSend (orig : Half) : Statement (.mtlWantedAdvertSend orig) := of_desc
theorem mtlLinkTimeout (j : Fin 32) : Statement (.mtlLinkTimeout j) := of_desc
theorem mtlNeighbourFree (j : Fin 32) : Statement (.mtlNeighbourFree j) := of_desc
theorem mtlSegmentSetTimeout (j : Fin 32) : Statement (.mtlSegmentSetTimeout j) := of_desc
theorem lineDriverFault : Statement (.lineDriverFault) := of_desc
theorem lineDriverResume : Statement (.lineDriverResume) := of_desc
theorem lineNoiseMeasurement (d : Desc) (noise : List Byte) : Statement (.lineNoiseMeasurement d noise) := of_desc
theorem clearToneQuarantine (d : Desc) : Statement (.clearToneQuarantine d) := of_desc
theorem keyUseRequest (requester : Fin 21) (slot : BitVec 9) (use : Fin 7) (checkOk rebuildOk : Bool) : Statement (.keyUseRequest requester slot use checkOk rebuildOk) := of_desc
theorem writeKey (d : Desc) : Statement (.writeKey d) := of_desc
theorem deriveKey (d : Desc) : Statement (.deriveKey d) := of_desc
theorem destroyKey (d : Desc) : Statement (.destroyKey d) := of_desc
theorem keyStatement (d : Desc) : Statement (.keyStatement d) := of_desc
theorem attest (d : Desc) : Statement (.attest d) := of_desc
theorem setMeterIdentity (d : Desc) : Statement (.setMeterIdentity d) := of_desc
theorem enrolIntegratorKey (d : Desc) : Statement (.enrolIntegratorKey d) := of_desc
theorem selectDestructionModes (d : Desc) : Statement (.selectDestructionModes d) := of_desc
theorem debugPort (d : Desc) : Statement (.debugPort d) := of_desc
theorem debugKill (d : Desc) : Statement (.debugKill d) := of_desc
theorem tamperInput (n : Fin 4) : Statement (.tamperInput n) := of_desc
theorem sealChange (open_ : Bool) : Statement (.sealChange open_) := of_desc
theorem displayPowerOn (v : Word) : Statement (.displayPowerOn v) := of_desc
theorem displayPowerOff (v : Word) : Statement (.displayPowerOff v) := of_desc
theorem displaySequenceStep : Statement (.displaySequenceStep) := of_desc
theorem panelFault : Statement (.panelFault) := of_desc
theorem railFault : Statement (.railFault) := of_desc
theorem fastDischargeComplete : Statement (.fastDischargeComplete) := of_desc
theorem commonToggle : Statement (.commonToggle) := of_desc
theorem stressCount : Statement (.stressCount) := of_desc
theorem vcomTrimUpdate : Statement (.vcomTrimUpdate) := of_desc
theorem displayPassStart : Statement (.displayPassStart) := of_desc
theorem lineTransferComplete : Statement (.lineTransferComplete) := of_desc
theorem displayPassEnd : Statement (.displayPassEnd) := of_desc
theorem legalPageAdvance : Statement (.legalPageAdvance) := of_desc
theorem writeOpenLines (d : Desc) : Statement (.writeOpenLines d) := of_desc
theorem storeFrame (d : Desc) : Statement (.storeFrame d) := of_desc
theorem showStoredFrame (d : Desc) : Statement (.showStoredFrame d) := of_desc
theorem powerOnReset (straps : BitVec 2) (rtcUs : Nat) (oscStop : Bool) (healthOk : Bool) : Statement (.powerOnReset straps rtcUs oscStop healthOk) := of_desc
theorem islandStartComplete (i : Isl) : Statement (.islandStartComplete i) := of_desc
theorem nreset : Statement (.nreset) := of_desc
theorem resetModuleOrIsland (d : Desc) : Statement (.resetModuleOrIsland d) := of_desc
theorem moduleResetExecute : Statement (.moduleResetExecute) := of_desc
theorem receiveContainerPart (d : Desc) : Statement (.receiveContainerPart d) := of_desc
theorem stageContainer (d : Desc) (unwrapOk : Bool) : Statement (.stageContainer d unwrapOk) := of_desc
theorem activate (d : Desc) : Statement (.activate d) := of_desc
theorem updateStep (verified : Bool) : Statement (.updateStep verified) := of_desc
theorem engineRunningReport (e : Fin 20) : Statement (.engineRunningReport e) := of_desc
theorem updateStepTimeout : Statement (.updateStepTimeout) := of_desc
theorem healthReport (e : Fin 20) : Statement (.healthReport e) := of_desc
theorem confirmHealth (d : Desc) : Statement (.confirmHealth d) := of_desc
theorem catchWindowEnd : Statement (.catchWindowEnd) := of_desc
theorem revert (d : Desc) : Statement (.revert d) := of_desc
theorem shellTemperatureSample (degC : Int) (for1ms : Bool) : Statement (.shellTemperatureSample degC for1ms) := of_desc
theorem thermalRestart (degC : Int) : Statement (.thermalRestart degC) := of_desc
theorem mgTempRead : Statement (.mgTempRead) := of_desc
theorem i2cTransfer (d : Desc) (bus : I2cBus) : Statement (.i2cTransfer d bus) := of_desc
theorem shellSupplyFault : Statement (.shellSupplyFault) := of_desc
theorem rtcOscillatorStop : Statement (.rtcOscillatorStop) := of_desc
theorem pairUp (partnerIdent : BitVec 48) (partnerAddr : Half) (partnerPref : Bool) : Statement (.pairUp partnerIdent partnerAddr partnerPref) := of_desc
theorem mediumBusy : Statement (.mediumBusy) := of_desc
theorem mediumIdle (draw : Nat) : Statement (.mediumIdle draw) := of_desc
theorem airtimeLimitEnd : Statement (.airtimeLimitEnd) := of_desc
theorem lbusyRelease : Statement (.lbusyRelease) := of_desc
theorem tamperInputReturn (n : Fin 4) : Statement (.tamperInputReturn n) := of_desc
theorem switchCellOvertemperature (n : Fin 16) : Statement (.switchCellOvertemperature n) := of_desc

end Sys2Proof.Laws.Carried
end

