-- ==== Sys2Proof/Tests/Slice0.lean ====
section
/-! SUPPORT. Tests: the well-formedness checks refuse an ill-formed term each, single steps on small states with
results from the specification's text, and for every statement with hypotheses states and operands that meet them. -/

namespace Sys2Proof.Tests
open Sys2Proof.Machine

set_option maxRecDepth 20000
set_option Elab.async false
set_option linter.unusedVariables false

/-! ### Small states -/
/-- Every island runs, and the command sources may do everything. -/
def up : State := ((State.reset.set F.MG_ISLAND_STATE_STATE 0).set (F.HI_SQ_CFG_PRIV 0) 255)
def lit : State := (up.set F.LSW_CMD_ON 8).set (F.LSW_CH_STAT_ON 3) 1
def watched : State := lit.set (F.LSW_CH_LIM_OPEN 3) 5
def owned : State := up.set (F.LSW_CH_CFG_OWN 3) 1
/-- A descriptor of an opcode with its parameter bytes from byte 24 on. -/
def cmd (op : Nat) (params : List Byte) : Desc := ⟨.sq 0, padTo 64 (natLE 2 op ++ [0, 0] ++ zeros 20 ++ params)⟩
def tested : State := { up with saf := { up.saf with chA := { up.saf.chA with mode := .run }, chB := { up.saf.chB with mode := .run }, swA := 2 } }
def apart : State := { (up.set (F.SAF_FUNC_TYPE 0) 1).setLevel false 0 true with saf := { up.saf with chA := { up.saf.chA with mode := .run }, chB := { up.saf.chB with mode := .safeFault } } }
def discrep : State := { (up.set (F.SAF_FUNC_TYPE 0) 1) with saf := { up.saf with chA := { up.saf.chA with fns := up.saf.chA.fns.set 0 .discrepancy } } }
def hands : State := { (up.set (F.SAF_FUNC_TYPE 0) 3) with saf := { up.saf with chA := { up.saf.chA with mode := .run, hands := up.saf.chA.hands.set 0 ⟨false, some 5, none⟩ } } }
def cmdAt (op : Nat) (params : List Byte) (a n : Nat) : Desc := ⟨.sq 0, padTo 64 (natLE 2 op ++ [0, 0] ++ zeros 4 ++ natLE 8 a ++ natLE 4 n ++ zeros 4 ++ params)⟩
def safImage : List Byte := let b := natLE 4 0x43464153 ++ natLE 2 1 ++ zeros 98 ++ natLE 2 10 ++ zeros 6; b ++ natLE 4 (crc32 b)
def safStaged : State := up.store stagingBase safImage
def railed : State := up.set F.LDP_STATUS_RAIL 2
def smallPanel : State := (((up.set F.LDP_GEOM_WIDTH 8).set F.LDP_GEOM_HEIGHT 4).set F.LDP_GEOM_BPP 0).setReg R.LDP_LEGAL 0
def dirty : State := (smallPanel.set F.LDP_STATUS_RAIL 2).setDirty 2 true
def entry8 : List Byte := [8, 1] ++ zeros 10 ++ natLE 4 16 ++ zeros 48
def manifest8 : List Byte := natLE 4 0x464E414D ++ natLE 2 1 ++ natLE 2 1 ++ zeros 16 ++ entry8
def container8 : List Byte := natLE 4 0x43524144 ++ natLE 2 1 ++ natLE 2 0 ++ natLE 4 328 ++ natLE 4 88 ++ zeros 80 ++ manifest8
def slot5 (type_ : Nat) (use : Byte) (dest : BitVec 21) : KeySlot := ⟨5, .valid, type_, use, dest, none, false, 0, 1, zeros 32, []⟩
def staging : State := { ((up.store incomingBase container8).setReg R.UPD_INCOMING 328).set F.UPD_CFG_FLEET_SLOT 5 with upd := { up.upd with total := 328 }, key := { up.key with slots := [slot5 2 4 (BitVec.ofNat 21 (2 ^ 19))] } }
def stepping : State := { up.set F.UPD_STATUS_STATE 2 with upd := { up.upd with steps := [8], groups := 2, manifests := [(1, manifest8)] } }
def keyed : State := { up with key := { up.key with slots := [slot5 1 1 1] } }
def unsealed : State := up.set F.KEY_STATUS_SEAL_OPEN 1
def starting : State := ((up.set F.MG_RESET_CAUSE_START_SRC 1).set F.MG_BOOT_STATUS_READY 1).setIsl .vl 2 |>.setIsl .sf 2
def signer : State := { up with key := { up.key with root := some (zeros 32) } }
def slot1 : KeySlot := systemSlot 1 3 0x10 0x40 1 (derived (zeros 32) (ascii "MMD-RDG") (natBE 6 signer.identity) 3)
def frame82 : List Byte := let b := natLE 1 0xA5 ++ natLE 1 0x40 ++ natLE 2 5 ++ zeros 74; b ++ natLE 4 (crc32 b)
def closed0 : ClosedQ := ⟨7, [], 160, false, false, 3, none, [], [0, 0, 0, 0, 0, 0, 0, 0], 0, 4, false, false, 0, 0, 0, Vector.replicate 16 []⟩
def metering : State := up.setBit F.MET_STATUS_LINK_UP 1 true
def polling : State := (((((((up.set (F.MET_MB_FMT_EN 3) 1).set (F.MET_MB_FMT_PORT 3) 0).set (F.MET_FD_CFG_EN 0) 1).set (F.MET_MB_SRC_SLAVE 3) 5).set (F.MET_MB_FMT_FMT 3) 4).setReg (R.MET_MB_SCALE 3) 0x3F800000).setReg (R.MET_MB_MIN 3) 0).setReg (R.MET_MB_MAX 3) 0x42C80000
def totals : State := ((up.set (F.MET_MB_FMT_ROLE 4) 2).set (F.MET_MB_FMT_LINK 4) 3).setEntry 4 { up.met.entries[(4 : Fin 16)] with value := some (9, 5), totPrev := some (2, 1) }
def rec7 : QRec := ⟨1, 0, 7, 160, 4, [], 0, 0⟩
def faulty : State := { (up.set F.VOT_STATUS_CH_STATE 8).set F.VOT_CTRL_AUTO_REVER 1 with time := { up.time with quantum := 200 } }
def rejoining : State := { up.set F.VOT_STATUS_CH_STATE 16 with vot := { up.vot with rejoin := up.vot.rejoin.set 1 true } }
def tariff1 : List Byte := let b := natLE 4 0x54465253 ++ natLE 2 1 ++ natLE 2 1 ++ natLE 2 1 ++ zeros 390 ++ [1] ++ zeros 15; b ++ natLE 4 (crc32 b)
def timeKey : State := { up with key := { up.key with slots := [slot5 1 8 64] } }
def stepCmd (op : Nat) : Desc := cmd op (natLE 8 5000000 ++ natLE 2 5 ++ zeros 6 ++ (hmac256 (zeros 32) ((cmd op (natLE 8 5000000 ++ natLE 2 5)).bytes.take 40)).take 16)
def linked : State := { (((up.set (F.FAB_PORT_CFG_EN 1) 1).set F.FAB_KEY_CFG_LINK_SLOT 5).set F.FAB_KEY_CFG_CMD_SLOT 5) with fab := { up.fab with ports := up.fab.ports.set 1 { up.fab.ports[(1 : Fin 4)] with phy := true } }, key := { up.key with slots := [slot5 1 9 4096] } }
def linkedUp : State := ((linked.set (F.FAB_PORT_STATUS_UP 1) 1).set (F.FAB_PORT_STATUS_NEIGH 1) 0x0102).set (F.FAB_PORT_STATUS_COST 1) 1
/-- The frame that a state sent last. -/
def sentFrame (s : State) : List Byte := match s.out with
  | .fabric _ b :: _ => b
  | _ => []
def rx0 : RxFrame := ⟨.fp 1, 0, 0, 0, 0, [], []⟩
def helloFrame : List Byte := sentFrame (linked.sendFrame (.fp 1) 1 0 0xFFFF 0 [] (linked.helloPayload 1))
def helloTry : Option RxFrame × State := (State.modNb (linked.set (F.FAB_PORT_STATUS_NEIGH 1) (fld helloFrame 20 2)) (.fp 1) (fun x => { x with joined := (fld (helloFrame.drop 34) 11 1).testBit 0 })).rxFrame 1 helloFrame [0x01]
def twin : State := linkedUp.set64 R.KEY_IDENT_LO 9
def advFrame : List Byte := sentFrame (twin.sendFrame (.fp 1) 2 0 0xFFFF 0 [] (twin.ownAdvert.bytes 0))
def advTry : Option RxFrame × State := linkedUp.rxFrame 1 advFrame [0x02]
def routedFrame : List Byte := sentFrame (twin.sendFrame (.fp 1) 0x11 0 0x0102 0 [0, 0x0102] [1, 2])
def routedTry : Option RxFrame × State := linkedUp.rxFrame 1 routedFrame [0x10, 0x11, 0x12, 0x20, 0x21, 0x30]
def joined : State := (up.set F.FAB_STATUS_STATE 2).set F.FAB_COLL_CFG_COLL_A 7
def relayer : State := { (((linkedUp.set (F.FAB_PORT_CFG_M5206_EN 1) 1).set F.FAB_STATUS_STATE 2).set F.FAB_COLL_CFG_COLL_A 7) with fab := linked.fab }
def collector : State := up.set F.FAB_REP_CFG_IS_COLL 1
def commanded : State := { linked with key := { up.key with slots := [slot5 1 9 4096] } }
def fabCmd : List Byte := let b := natLE 2 7 ++ natLE 2 0 ++ natLE 8 5 ++ padTo 64 [1, 0]; b ++ (hmac256 (zeros 32) b).take 16
def waiting : State := { linked with fab := { linked.fab with remote := [⟨cmd 0x0902 [], 5, 7⟩] } }
def fabAnswer : List Byte := zeros 32 ++ (hmac256 (zeros 32) (zeros 32 ++ natLE 8 7)).take 16
def receiving : State := { linkedUp.set F.FAB_PTP_STATUS_ROLE 1 with fab := { linked.fab with ptp := { linked.fab.ptp with best := some ⟨1, 1, 1, 7, 0, 9, 1⟩ } } }
def paired : State := (((up.set F.FAB_STATUS_ROLE 1).set F.FAB_PAIR_STATUS_PARTNER 1).set F.FAB_PAIR_STATUS_LANE_A 1).set F.FAB_PAIR_STATUS_LANE_B 1
def standby : State := (up.set F.FAB_STATUS_ROLE 2).set F.FAB_PAIR_STATUS_PARTNER 1
def toned : State := (up.set F.MTL_CFG_EN 1).set F.FAB_STATUS_ADDR 10
def tx1 : MtlTx := ⟨1, 5, 0x0102, 1, zeros 24, 0, []⟩
def toneWaiting : State := { toned with mtl := { toned.mtl with queue := [tx1] } }
def toneUp : State := { ((((toned.set (F.MTL_NB_ID_VALID 3) 1).set (F.MTL_NB_ID_ADDR 3) 0x0102).set (F.MTL_NB_ID_UP 3) 1).set F.FAB_KEY_CFG_LINK_SLOT 5) with key := { up.key with slots := [slot5 1 9 8192] } }
/-- A sound received frame of the neighbour 0x0102. -/
def rxOf (kind : Nat) (fields : List Byte) : MtlRx := let b := toneBody fields; let h := natLE 1 (16 * kind + (toneWords b - 1)) ++ natLE 2 0x0102 ++ [7]; ⟨h, b ++ natLE 4 (crc32 (h ++ b)), (0, 0), List.replicate (toneWords b) (0, 0), 40⟩
/-- The same, its fields followed by their tag. -/
def rxTagged (kind : Nat) (fields : List Byte) : MtlRx := rxOf kind (fields ++ (hmac256 ((toneUp.segmentKey (toneUp.get F.FAB_KEY_EPOCH_EPOCH)).getD ([], toneUp)).1 ((rxOf kind (fields ++ zeros 16)).header ++ fields)).take 16)
def beacon1 : MtlRx := rxTagged 3 (natLE 2 0xFFFF ++ natLE 6 9 ++ natLE 4 1 ++ [1, 0, 0])
def refresh1 : MtlRx := rxTagged 4 (natLE 2 0xFFFF ++ natLE 4 1 ++ [0])
/-- A record of channel `c` with one AC block at point 2. -/
def acRec (c : Nat) (v : Int) : Arr := ⟨1, ⟨c, 0, 7, 160, 4, [(2, ⟨1, 0, 0, 0, [v, v, 0, 0], [0, 0, 0, 0]⟩)], 0, 0⟩, true⟩
def voted2 : List Arr := [acRec 0 5, acRec 1 7]
/-- A point 2 of single-phase AC with its inputs mapped, that asks the host. -/
def ac : State := ((((up.set (F.TPT_STATE_TYPE 2) 1).set (F.TPT_CFG_AUTH_EN 2) 4).set (F.MET_TPMAP_V_V1 2) 0).set (F.MET_TPMAP_I_I1 2) 3).set (F.MET_TPMAP_I_RCM 2) 6
/-- Point 2 in a state, with its partner present. -/
def at2 (st : Nat) : State := (ac.set (F.TPT_STATE_STATE 2) st).modSx 2 (fun x => { x with partner := true })
def dc2 (st : Nat) : State := (at2 st).set (F.TPT_STATE_TYPE 2) 3
def fluid2 (st : Nat) : State := (at2 st).set (F.TPT_STATE_TYPE 2) 4
def digital2 (st : Nat) : State := (at2 st).set (F.TPT_CFG_PROTO_EN 2) 15
/-- A command of point 2. -/
def cmd2 (op : Nat) (params : List Byte) : Desc := ⟨.sq 0, padTo 64 (natLE 2 op ++ [0, 2] ++ zeros 20 ++ params)⟩

/-! ### A calibration set in the staging buffer -/

/-- A byte string written in a memory in canonical form reads back. -/
theorem memRead_memWrite : ∀ (l : List Byte) (m : Mem) (a : Nat), Mem.wf m = true →
    memRead (memWrite m a l) a l.length = l
  | [], _, _, _ => rfl
  | b :: t, m, a, h => by
    have hg : memGet (memWrite m a (b :: t)) a = b := by
      rw [memGet_memWrite a (b :: t) m a h, if_pos (by simp)]; simp
    have := memRead_memWrite t (memPut m a b) (a + 1) (memPut_wf a b h)
    simp only [List.length_cons, memRead, hg]
    exact congrArg (b :: ·) this

/-- Entries of one value, 12 bytes each, read back one by one. -/
theorem slice_replicate (e tl : List Byte) (he : e.length = 12) : ∀ (n i : Nat), i < n →
    (((List.replicate n e).flatten ++ tl).drop (12 * i)).take 12 = e
  | 0, _, h => absurd h (by omega)
  | n + 1, 0, _ => by simp [List.replicate_succ, he]
  | n + 1, i + 1, h => by
    have := slice_replicate e tl he n i (by omega)
    rw [List.replicate_succ, List.flatten_cons, List.append_assoc, Nat.mul_succ, Nat.add_comm, ← List.drop_drop,
      List.drop_append_of_le_length (by omega), List.drop_of_length_le (by omega : e.length ≤ 12)]
    exact this

theorem crcBit_lt {c : Nat} (h : c < 2 ^ 32) : crcBit 0xEDB88320 c < 2 ^ 32 := by
  have h1 : c >>> 1 < 2 ^ 32 := by rw [Nat.shiftRight_eq_div_pow]; omega
  unfold crcBit
  split
  · exact Nat.xor_lt_two_pow h1 (by omega)
  · exact h1

theorem crcByte_lt {c : Nat} (b : Byte) (h : c < 2 ^ 32) : crcByte 0xEDB88320 c b < 2 ^ 32 := by
  have aux : ∀ (l : List Nat) (c : Nat), c < 2 ^ 32 → l.foldl (fun c _ => crcBit 0xEDB88320 c) c < 2 ^ 32 := by
    intro l
    induction l with
    | nil => exact fun _ h => h
    | cons a t ih => exact fun c h => ih _ (crcBit_lt h)
  have hb : b.toNat < 2 ^ 8 := b.isLt
  exact aux _ _ (Nat.xor_lt_two_pow h (by omega))

theorem crc32_lt (l : List Byte) : crc32 l < 2 ^ 32 := by
  have aux : ∀ (l : List Byte) (c : Nat), c < 2 ^ 32 → l.foldl (crcByte 0xEDB88320) c < 2 ^ 32 := by
    intro l
    induction l with
    | nil => exact fun _ h => h
    | cons a t ih => exact fun c h => ih _ (crcByte_lt a h)
  exact Nat.xor_lt_two_pow (aux l _ (by omega)) (by omega)

/-- The first 6928 bytes of a calibration set: the header, and 576 entries of gain 1.0 and no correction. -/
def calHead : List Byte := natLE 4 0x4C434D4D ++ natLE 2 1 ++ natLE 2 1 ++ natLE 2 576 ++ zeros 6
def calEntry : List Byte := natLE 4 0x40000000 ++ zeros 8
def calBody : List Byte := calHead ++ (List.replicate 576 calEntry).flatten
def cal1 : List Byte := calBody ++ natLE 4 (crc32 calBody)

theorem calBody_length : calBody.length = 6928 := by
  have : ∀ n, (List.replicate n calEntry).flatten.length = 12 * n := by
    intro n
    induction n with
    | zero => rfl
    | succ n ih =>
      have he : calEntry.length = 12 := rfl
      rw [List.replicate_succ, List.flatten_cons, List.length_append, ih, he]; omega
  have hh : calHead.length = 16 := rfl
  rw [calBody, List.length_append, this, hh]

theorem cal1_length : cal1.length = 6932 := by rw [cal1, List.length_append, calBody_length, length_natLE]

theorem cal1_entry (i : Nat) (h : i < 576) : slice cal1 (16 + 12 * i) 12 = calEntry := by
  have hd : calHead.drop 16 = [] := rfl
  have hl : calHead.length = 16 := rfl
  rw [slice, cal1, calBody, List.append_assoc, ← List.drop_drop, List.drop_append_of_le_length (by omega), hd,
    List.nil_append]
  exact slice_replicate calEntry _ rfl 576 i h

theorem leNat_natLE : ∀ (n v : Nat), v < 256 ^ n → leNat (natLE n v) = v
  | 0, v, h => by simp at h; simp [natLE, leNat, h]
  | n + 1, v, h => by
    rw [natLE, leNat, leNat_natLE n (v / 256) (by rw [Nat.pow_succ] at h; omega), BitVec.toNat_ofNat]
    omega

theorem cal1_crc : (fld cal1 6928 4 == crc32 (cal1.take 6928)) = true := by
  have h1 : cal1.take 6928 = calBody := by
    rw [cal1, List.take_append_of_le_length (by rw [calBody_length]), List.take_of_length_le (by rw [calBody_length])]
  have h2 : slice cal1 6928 4 = natLE 4 (crc32 calBody) := by
    rw [slice, cal1, List.drop_append_of_le_length (by rw [calBody_length]),
      List.drop_of_length_le (by rw [calBody_length]), List.nil_append, List.take_of_length_le (by rw [length_natLE])]
  rw [fld, h1, h2, leNat_natLE 4 _ (crc32_lt calBody)]
  exact beq_self_eq_true _

def calStaged : State := unsealed.store 0x100000 cal1

/-- The checks of R61 one by one. -/
theorem calBad_none {s : State} {b : List Byte} (h0 : (fld b 0 4 == 0x4C434D4D) = true) (h1 : (fld b 6 2 == 1) = true)
    (h2 : (fld b 8 2 == 576) = true) (h3 : (fld b 6928 4 == crc32 (b.take 6928)) = true)
    (h4 : decide (s.get F.MET_CAL_ID_SET_NO < fld b 4 2) = true) (h5 : (fld b 10 6 == 0) = true)
    (h6 : ∀ i, i < 576 → slice b (16 + 12 * i) 12 = calEntry) : s.calBad b = none := by
  unfold State.calBad
  refine Option.map_eq_none_iff.2 (firstFail_none fun c hc => ?_)
  simp only [List.mem_cons, List.not_mem_nil, or_false] at hc
  rcases hc with rfl | rfl | rfl | rfl | rfl | rfl
  · exact h0
  · exact h1
  · exact h2
  · exact h3
  · exact h4
  · refine Bool.and_eq_true_iff.2 ⟨h5, List.all_eq_true.2 fun i hi => ?_⟩
    simp only [h6 i (List.mem_range.1 hi)]
    decide +kernel

/-- The set passes every check of R61. -/
theorem cal1_good : calStaged.calBad cal1 = none :=
  calBad_none (by decide +kernel) (by decide +kernel) (by decide +kernel) cal1_crc (by decide +kernel)
    (by decide +kernel) cal1_entry

/-- What a staged load reads is what was stored. -/
theorem staged_of {s : State} {d : Desc} {m : Mem} {l : List Byte} (hm : s.mem = memWrite m (d.n 8 8) l)
    (hl : d.n 16 4 = l.length) (hw : Mem.wf m = true) : s.staged d = l := by
  rw [State.staged, hm, hl]
  exact memRead_memWrite l m _ hw

theorem store_mem (s : State) (a : Nat) (l : List Byte) : (s.store a l).mem = memWrite s.mem a l := rfl

theorem cal_bad_none : calStaged.calBad (calStaged.staged (cmdAt 0x0204 [] 0x100000 6932)) = none := by
  have h1 : (cmdAt 0x0204 [] 0x100000 6932).n 8 8 = 0x100000 := by decide +kernel
  have h2 : (cmdAt 0x0204 [] 0x100000 6932).n 16 4 = 6932 := by decide +kernel
  have hw : Mem.wf unsealed.mem = true := by decide +kernel
  have hm : calStaged.mem = memWrite unsealed.mem 0x100000 cal1 := store_mem _ _ _
  rw [staged_of (h1.symm ▸ hm) (h2.trans cal1_length.symm) hw]
  exact cal1_good

/-! ### Well-formedness: an ill-formed term for each check -/

theorem test_wf_descriptor : Instr.wellFormed (.noOperation ⟨.sq 0, zeros 63⟩) = false := by decide
theorem test_wf_size : Instr.wellFormed (.registerWrite 0 3 0) = false := by decide
theorem test_wf_value : Instr.wellFormed (.registerWrite 0 1 256) = false := by decide
theorem test_wf_crossing : Instr.wellFormed (.crossingStall .ma .ma true) = false := by decide
theorem test_wf_arrived_twice : Instr.wellFormed (.quantumRecordArrival [1, 1] []) = false := by decide
theorem test_wf_arrived_corrupt : Instr.wellFormed (.quantumRecordArrival [1] [1]) = false := by decide
theorem test_wf_pilot : Instr.wellFormed (.pilotStateChange 0 5 6 0) = false := by decide
theorem test_wf_can_frame : Instr.wellFormed (.stackStatusFrame 0 1 (zeros 65)) = false := by decide
theorem test_wf_link_gen : Instr.wellFormed (.hostLinkUp 0 1) = false := by decide
theorem test_wf_link_width : Instr.wellFormed (.hostLinkUp 1 3) = false := by decide
theorem test_wf_spi_length : Instr.wellFormed (.spiFrame [] 0x1001 false) = false := by decide
theorem test_wf_sq_entry : Instr.wellFormed (.sqDoorbell 0 1 [zeros 63] true) = false := by decide
theorem test_wf_read_none : Instr.wellFormed (.dataPortAccess 0 (.read 0)) = false := by decide
theorem test_wf_read_long : Instr.wellFormed (.dataPortAccess 0 (.read 0x1001)) = false := by decide
theorem test_wf_write_none : Instr.wellFormed (.dataPortAccess 0 (.write [])) = false := by decide
theorem test_wf_link_bad : Instr.wellFormed (.linkCostUpdate 0 1001 0) = false := by decide
theorem test_wf_tone_header : Instr.wellFormed (.mtlDataFrame ⟨zeros 3, zeros 28, (0, 0), [(0, 0)], 0⟩) = false := by decide
theorem test_wf_tone_body : Instr.wellFormed (.mtlDataFrame ⟨zeros 4, zeros 27, (0, 0), [(0, 0)], 0⟩) = false := by decide
theorem test_wf_tone_empty : Instr.wellFormed (.mtlBeacon ⟨zeros 4, [], (0, 0), [], 0⟩) = false := by decide
theorem test_wf_noise : Instr.wellFormed (.lineNoiseMeasurement ⟨.sq 0, zeros 64⟩ []) = false := by decide
theorem test_wf_good : Instr.wellFormed (.noOperation ⟨.sq 0, zeros 64⟩) = true := by decide

/-! ### Operations with results that the specification or a standard states -/

/-- R23: crossing 0x03 is MA to VL, and 0x53 HI to VL. -/
theorem test_crossing_ids : (crossingId .ma .vl, crossingId .hi .vl) = (0x03, 0x53) := by decide
/-- R182: the bands of the pilot's high level. -/
theorem test_pilot_codes : [120, 90, 60, 30, 0, 105].map pilotCode = [0, 1, 2, 3, 4, 15] := by decide
/-- R183: 6 A is offered by 10.0 %, 63 A by 89.2 %. -/
theorem test_duty : (dutyFor 60, dutyFor 630) = (100, 892) := by decide
/-- R122: the floor of half the sum of two, the median of three. -/
theorem test_set_values : (setValue [-2, -1], setValue [7, 1, 5]) = (-2, 5) := by decide
/-- FIPS 180-4: SHA-256 of "abc" begins BA 78 16 BF. -/
theorem test_sha256 : (sha256 (ascii "abc")).take 4 = [0xBA, 0x78, 0x16, 0xBF] := by decide +kernel
/-- RFC 4231, case 2: HMAC-SHA-256 begins 5B DC C1 46. -/
theorem test_hmac : (hmac256 (ascii "Jefe") (ascii "what do ya want for nothing?")).take 4 = [0x5B, 0xDC, 0xC1, 0x46] := by
  decide +kernel
/-- The check values of CRC-32 and of the Modbus CRC over "123456789". -/
theorem test_crcs : (crc32 (ascii "123456789"), crc16 (ascii "123456789")) = (0xCBF43926, 0x4B37) := by decide +kernel
/-- R119: with REL 20 and ABS 65,536 two counts of 2^-16 agree up to one register count apart. -/
theorem test_agree : (State.reset.agree 0 0 65536, State.reset.agree 0 0 65537) = (true, false) := by decide +kernel

/-! ### Single steps -/

/-- R419: at reset every island is held, and no queue waits. -/
theorem test_reset_held : (State.reset.islState .vl, State.reset.pending) = (3, []) := by decide +kernel
/-- R6: a write off a word boundary changes no register. -/
theorem test_misaligned : ∃ t, exec (.registerWrite 0x10402 4 0) up = .next t ∧ t.regs = up.regs :=
  ⟨_, rfl, by decide +kernel⟩
/-- R175: T_AUTH closes a session in Identified with reason 0x07. -/
theorem test_auth_timeout : ∃ t, exec (.authorisationTimeout 2) (at2 2) = .next t ∧ t.sess 2 = 7 := ⟨_, rfl, by decide +kernel⟩
/-- R260: a sender without privileges is told the bit that it lacks. -/
theorem test_privilege : ∃ t, exec (.startTest (cmd 0x0201 [4])) State.reset = .next t ∧
    t.host.results.map (fun r => (r.status, r.detail)) = [(3, 0)] := ⟨_, rfl, by decide +kernel⟩

/-! ### Witnesses -/

/-- What the clauses of IdleStep ask for is met. -/
theorem test_witness_IdleStep :
  ∃ s : State, s.pending = [] :=
  ⟨up, by decide⟩

/-- What the clauses of EveryStepSound ask for is met. -/
theorem test_witness_EveryStepSound :
  ∃ s t : State, s.Sound ∧ step s = .next t :=
  ⟨State.reset, _, ⟨rfl, rfl, fun n c => by revert n c; decide +kernel⟩, rfl⟩

/-- What the clauses of LegalLogGrows ask for is met. -/
theorem test_witness_LegalLogGrows :
  ∃ (c : Instr) (s t : State), exec c s = .next t ∧ chainedLog s.bil.log = true :=
  ⟨.noOperation (cmd 1 []), up, _, rfl, rfl⟩

/-- What the clauses of StoredBytes ask for is met. -/
theorem test_witness_StoredBytes :
  (∃ (s t : State) (d : Desc), Mem.wf s.mem = true ∧ exec (.storeFrame d) s = .next t) ∧
  (∃ (s t : State) (d : Desc), Mem.wf s.mem = true ∧ exec (.writeOpenLines d) s = .next t) ∧
  (∃ (s t : State) (d : Desc), Mem.wf s.mem = true ∧ exec (.showStoredFrame d) s = .next t) ∧
  (∃ (s t : State) (d : Desc), Mem.wf s.mem = true ∧ exec (.writeKey d) s = .next t) ∧
  (∃ (s t : State) (d : Desc), Mem.wf s.mem = true ∧ exec (.keyStatement d) s = .next t) ∧
  (∃ (s t : State) (d : Desc), Mem.wf s.mem = true ∧ s.pcie = true ∧ exec (.attest d) s = .next t) ∧
  (∃ (s t : State) (d : Desc), Mem.wf s.mem = true ∧ exec (.receiveContainerPart d) s = .next t) ∧
  (∃ (s t : State) (p : StorePkt) (rest : List StorePkt), Mem.wf s.mem = true ∧ s.bil.store = p :: rest ∧ exec
    .storeEntryWrite s = .next t) ∧
  (∃ (s t : State) (off : Word) (op : DpOp), Mem.wf s.mem = true ∧ s.pcie = true ∧ exec (.dataPortAccess off op) s =
    .next t) ∧
  (∃ (s t : State) (c : Instr), c ∈ [Instr.commonToggle, .displayPassStart, .displayPassEnd, .displaySequenceStep,
    .lbusyRelease, .lineTransferComplete] ∧ Mem.wf s.mem = true ∧ exec c s = .next t) :=
  ⟨⟨smallPanel, _, cmdAt 0x0B02 [3, 0] 0x100000 4, by decide +kernel, rfl⟩,
   ⟨smallPanel, _, cmdAt 0x0B01 [0, 0, 1, 0] 0x100000 1, by decide +kernel, rfl⟩,
   ⟨smallPanel, _, cmd 0x0B03 [3, 0], by decide +kernel, rfl⟩,
   ⟨up, _, cmdAt 0x0701 [5, 0, 1, 1, 1] 0x100000 32, by decide +kernel, rfl⟩,
   ⟨signer, _, cmdAt 0x0704 [1, 0] 0x100000 236, by decide +kernel, rfl⟩,
   ⟨keyed, _, cmdAt 0x0705 [5, 0, 16] 0x100000 96, by decide +kernel, by decide +kernel, rfl⟩,
   ⟨up, _, cmdAt 0x0801 (natLE 4 0 ++ natLE 4 328) 0x100000 328, by decide +kernel, rfl⟩,
   ⟨{ up with bil := { up.bil with store := [⟨2, 3, [1, 2]⟩] } }, _, ⟨2, 3, [1, 2]⟩, [], by decide +kernel, rfl, rfl⟩,
   ⟨up.set64 R.HI_DP_ADDR_LO stagingBase, _, 4, .write [1, 2, 3, 4], by decide +kernel, by decide +kernel, rfl⟩,
   ⟨dirty, _, .displayPassStart, by decide, by decide +kernel, rfl⟩⟩

/-- What the clauses of CommandChecks ask for is met. -/
theorem test_witness_CommandChecks :
  (∃ (c : Instr) (s : State) (d : Desc), c.desc = some d ∧ c ≠ .noOperation d ∧ s.privs d.src = 0) ∧
  (∃ (s : State) (d : Desc) (c : CmdSpec) (b : Nat), c.priv.toList.find? (fun b => !((s.privs d.src).testBit b)) =
    some b) ∧
  (∃ (s : State) (d : Desc) (c : CmdSpec), c.priv.toList.all (fun b => (s.privs d.src).testBit b) = true ∧ d.opcode
    ≠ c.opcode) ∧
  (∃ (s : State) (d : Desc) (c : CmdSpec) (ranges : List (Nat × Bool)) (k : Nat), c.priv.toList.all (fun b =>
    (s.privs d.src).testBit b) = true ∧ d.opcode = c.opcode ∧ badField d c ranges = some k) ∧
  (∃ (s : State) (d : Desc) (c : CmdSpec) (ranges : List (Nat × Bool)) (k : Nat), c.priv.toList.all (fun b =>
    (s.privs d.src).testBit b) = true ∧ d.opcode = c.opcode ∧ badField d c ranges = none ∧ stagedBad d c.staged =
    some k) ∧
  (∃ (s : State) (d : Desc) (c : CmdSpec) (ranges : List (Nat × Bool)), c.priv.toList.all (fun b => (s.privs
    d.src).testBit b) = true ∧ d.opcode = c.opcode ∧ badField d c ranges = none ∧ stagedBad d c.staged = none ∧
    s.takes c = false) ∧
  (∃ (s : State) (d : Desc) (c : CmdSpec) (ranges : List (Nat × Bool)), c.priv.toList.all (fun b => (s.privs
    d.src).testBit b) = true ∧ d.opcode = c.opcode ∧ badField d c ranges = none ∧ stagedBad d c.staged = none ∧
    s.takes c = true ∧ (c.load && s.loading) = true) ∧
  (∃ (s : State) (d : Desc) (c : CmdSpec) (ranges : List (Nat × Bool)), c.priv.toList.all (fun b => (s.privs
    d.src).testBit b) = true ∧ d.opcode = c.opcode ∧ badField d c ranges = none ∧ stagedBad d c.staged = none ∧
    s.takes c = true ∧ (c.load && s.loading) = false) :=
  ⟨⟨.startTest (cmd 0x0201 [4]), State.reset, cmd 0x0201 [4], rfl, by decide, by decide +kernel⟩,
   ⟨State.reset, cmd 0x0201 [4], { opcode := 0x0201, priv := some 0, isl := .vl }, 0, by decide +kernel⟩,
   ⟨up, cmd 0x0202 [4], { opcode := 0x0201, priv := some 0, isl := .vl }, by decide +kernel, by decide +kernel⟩,
   ⟨up, cmd 0x0201 [4], { opcode := 0x0201, priv := some 0, isl := .vl, params := [(24, 1)] }, [(24, true)], 24, by decide +kernel, by decide +kernel, by decide +kernel⟩,
   ⟨up, cmdAt 0x0205 [] 0x100000 0, { opcode := 0x0205, priv := some 2, isl := .vl, staged := .len 420 420 false }, [], 16, by decide +kernel, by decide +kernel, by decide +kernel, by decide +kernel⟩,
   ⟨up.setIsl .vl 2, cmd 0x0201 [4], { opcode := 0x0201, priv := some 0, isl := .vl, params := [(24, 1)] }, [], by decide +kernel, by decide +kernel, by decide +kernel, by decide +kernel, by decide +kernel⟩,
   ⟨{ up with host := { up.host with results := [⟨cmd 0x0801 [], 0, 0, []⟩] } }, cmdAt 0x0205 [] 0x100000 420, { opcode := 0x0205, priv := some 2, isl := .vl, staged := .len 0 0x80000 false, load := true }, [], by decide +kernel, by decide +kernel, by decide +kernel, by decide +kernel, by decide +kernel, by decide +kernel⟩,
   ⟨up, cmd 0x0201 [4], { opcode := 0x0201, priv := some 0, isl := .vl, params := [(24, 1)] }, [], by decide +kernel, by decide +kernel, by decide +kernel, by decide +kernel, by decide +kernel, by decide +kernel⟩⟩

/-- What the clauses of EventEntry ask for is met. -/
theorem test_witness_EventEntry :
  (∃ (s : State) (e : Ev) (n : Fin 4), s.evLimited e = false ∧ bitsOf (s.reg (R.HI_EV_MASK (e.src / 32))) (e.src %
    32) (e.src % 32) ≠ 0 ∧ bitsOf (s.reg (R.HI_EV_ROUTE (e.src / 16))) (2 * (e.src % 16) + 1) (2 * (e.src % 16)) =
    n.val ∧ s.get (RingQ.eq n).en ≠ 0 ∧ s.get (RingQ.eq n).err ≠ 1 ∧ s.pcie = true ∧ s.ringFull (.eq n) = false ∧
    (s.ring (.eq n)).gap = 0) ∧
  (∃ (s : State) (e : Ev), bitsOf (s.reg (R.HI_EV_MASK (e.src / 32))) (e.src % 32) (e.src % 32) = 0) :=
  ⟨⟨((up.set (RingQ.eq 0).en 1).set (RingQ.eq 0).size 16).set (RingQ.eq 0).err 0, { src := 37 }, 0, by decide +kernel⟩,
   ⟨up.setReg (R.HI_EV_MASK 1) 0, { src := 37 }, by decide +kernel⟩⟩

/-- What the clauses of VotedValue ask for is met. -/
theorem test_witness_VotedValue :
  ∃ (s : State) (p : Poll) (n ty k : Nat), k < usedSlots ty ∧ (s.heldMask p n ty).testBit k = false :=
  ⟨up, ⟨[], voted2, 3⟩, 2, 1, 0, by decide +kernel⟩

/-- What the clauses of AgreeingSet ask for is met. -/
theorem test_witness_AgreeingSet :
  (∃ (s : State) (kind : Nat) (votes : List Vote), ∀ p ∈ pairs votes, s.agree kind p.1.value p.2.value = true) ∧
  (∃ (s : State) (kind : Nat) (votes : List Vote), pairs votes ≠ [] ∧ ∀ p ∈ pairs votes, s.agree kind p.1.value
    p.2.value = false) ∧
  (∃ (s : State) (kind : Nat) (votes : List Vote), (∀ v ∈ votes, v.chan < 3) ∧ (∃ p ∈ pairs votes, s.agree kind
    p.1.value p.2.value = false) ∧ ∃ p ∈ pairs votes, s.agree kind p.1.value p.2.value = true) :=
  ⟨⟨up, 0, [⟨0, 5, 1⟩, ⟨1, 6, 1⟩, ⟨2, 7, 2⟩], by decide +kernel⟩,
   ⟨up, 0, [⟨0, 0, 1⟩, ⟨1, 1000000, 1⟩, ⟨2, 3000000, 2⟩], by decide +kernel⟩,
   ⟨up, 0, [⟨0, 5, 1⟩, ⟨1, 6, 1⟩, ⟨2, 3000000, 2⟩], by decide +kernel⟩⟩

/-- What the clauses of KeyDepth ask for is met. -/
theorem test_witness_KeyDepth :
  (∃ (s : State) (k : KeySlot), s.keySlot 0 = some k) ∧
  (∃ (s : State) (no : Nat) (k : KeySlot), 1 ≤ no ∧ no ≤ 4 ∧ s.keySlot no = some k) ∧
  (∃ (s : State) (d : Desc), s.admits d
    { opcode := 0x0701, priv := some 3, isl := .ks, params := [(24, 2), (26, 1), (27, 1), (28, 4), (32, 4), (36, 1)], staged := .len (materialLen (d.n 26 1)) (materialLen (d.n 26 1)) false }
    (attrRanges d) ∧ s.fillable (d.n 24 2) = true ∧ (d.n 26 1 < 3 ∨ (0 < beNat (s.staged d) ∧ beNat (s.staged d) <
    curveOrder (d.n 26 1)))) ∧
  (∃ (s : State) (d : Desc) (p : KeySlot), s.admits d
    { opcode := 0x0702, priv := some 3, isl := .ks, params := [(24, 2), (26, 1), (27, 1), (28, 4), (32, 4), (36, 1), (38, 2), (40, 1), (41, 1)], staged := .len (d.n 40 1 + d.n 41 1) (d.n 40 1 + d.n 41 1) false }
    (attrRanges d ++ [(38, decide (510 < d.n 38 2)), (40, d.n 40 1 == 0 || decide (64 < d.n 40 1)), (41, decide (64
    < d.n 41 1))]) ∧ s.fillable (d.n 24 2) = true ∧ s.keySlot (d.n 38 2) = some p ∧ p.valid = true ∧ p.type_ = 1 ∧
    p.use.toNat.testBit 0 = true ∧ p.no ≠ d.n 24 2 ∧ p.depth < 8 ∧ ((s.staged d).take (d.n 40 1)).take 4 ≠ ascii
    "MMD-") ∧
  (∃ (s : State) (d : Desc) (p : KeySlot), s.admits d
    { opcode := 0x0702, priv := some 3, isl := .ks, params := [(24, 2), (26, 1), (27, 1), (28, 4), (32, 4), (36, 1), (38, 2), (40, 1), (41, 1)], staged := .len (d.n 40 1 + d.n 41 1) (d.n 40 1 + d.n 41 1) false }
    (attrRanges d ++ [(38, decide (510 < d.n 38 2)), (40, d.n 40 1 == 0 || decide (64 < d.n 40 1)), (41, decide (64
    < d.n 41 1))]) ∧ s.fillable (d.n 24 2) = true ∧ s.keySlot (d.n 38 2) = some p ∧ p.valid = true ∧ p.type_ = 1 ∧
    p.use.toNat.testBit 0 = true ∧ p.no ≠ d.n 24 2 ∧ 8 < p.depth + 1) :=
  ⟨⟨signer, systemSlot 0 1 0x01 0 0 (zeros 32), by decide +kernel⟩,
   ⟨signer, 1, slot1, by decide +kernel⟩,
   ⟨up, cmdAt 0x0701 [5, 0, 1, 1, 1] 0x100000 32, by decide +kernel⟩,
   ⟨keyed, cmdAt 0x0702 [6, 0, 1, 1, 1, 0, 0, 0, 0, 0, 0, 0, 0, 0, 5, 0, 4, 0] 0x100000 4, slot5 1 1 1, by decide +kernel⟩,
   ⟨{ up with key := { up.key with slots := [{ slot5 1 1 1 with depth := 8 }] } }, cmdAt 0x0702 [6, 0, 1, 1, 1, 0, 0, 0, 0, 0, 0, 0, 0, 0, 5, 0, 4, 0] 0x100000 4, { slot5 1 1 1 with depth := 8 }, by decide +kernel⟩⟩

/-- What the clauses of IslandFaults ask for is met. -/
theorem test_witness_IslandFaults :
  (∃ (s : State) (snd rcv : Isl), s.open_ snd rcv = true ∧ s.isl.stalls = []) ∧
  (∃ (s : State) (snd rcv : Isl) (b : Bool), s.open_ snd rcv = false) ∧
  (∃ (s : State) (snd rcv : Isl), s.isl.fenced.contains (snd, rcv) = true ∧ s.running snd = true ∧ s.running rcv =
    true ∧ rcv ≠ .vl) ∧
  (∃ (s : State) (i : Isl), i ≠ .tb ∧ s.refFault = false) ∧
  (∃ (s : State) (i : Isl), i ≠ .tb ∧ s.refFault = true) ∧
  (∃ (s : State), s.running .tb = true ∧ s.refFault = false) ∧
  (∃ (s : State) (e : Fin 20), s.running (engineIsl e.val) = true ∧ engineIsl e.val ≠ .sf) ∧
  (∃ (s : State) (e : Fin 20), s.running .sf = true ∧ engineIsl e.val = .sf) ∧
  (∃ (s : State), s.running .vl = true) ∧
  (∃ (s : State) (i : Isl) (m : Fin 4) (word : BitVec 24) (legalCopy : Bool), s.running i = true) ∧
  (∃ (s : State) (i : Isl) (m : Fin 4) (word : BitVec 24), s.running i = true) ∧
  (∃ (s : State) (word : BitVec 24), s.running .vl = true) :=
  ⟨⟨up, .ma, .vl, by decide +kernel⟩,
   ⟨up, .ma, .mb, true, by decide +kernel⟩,
   ⟨{ up with isl := { up.isl with fenced := [(.ap, .hi)] } }, .ap, .hi, by decide +kernel⟩,
   ⟨up, .ks, by decide +kernel⟩,
   ⟨up.set F.MG_CLKMON_STATUS_REF_FAULT 1, .ks, by decide +kernel⟩,
   ⟨up, by decide +kernel⟩,
   ⟨up, 9, by decide +kernel⟩,
   ⟨up, 16, by decide +kernel⟩,
   ⟨up, by decide +kernel⟩,
   ⟨up, .ap, 1, 5, false, by decide +kernel⟩,
   ⟨up, .ks, 1, 5, by decide +kernel⟩,
   ⟨up, 5, by decide +kernel⟩⟩

/-- What the clauses of IslandStarts ask for is met. -/
theorem test_witness_IslandStarts :
  (∃ (s : State) (i : Isl), s.get F.MG_RESET_CAUSE_START_SRC ≠ 0 ∧ s.islState i = 2 ∧ s.get F.MG_BOOT_STATUS_READY =
    1) ∧
  (∃ (s : State), s.islState .vl = 2) ∧
  (∃ (s : State), s.get F.MG_RESET_CAUSE_START_SRC ≠ 0) ∧
  (∃ (s : State) (code : Nat), s.isl.resetPend = some code) ∧
  (∃ (s : State) (d : Desc) (n : Fin 16), s.admits d
    { opcode := 0x0C01, priv := some 1, isl := .mg, params := [(24, 1), (25, 1)] } [(24, decide (1 < d.n 24 1)),
    (25, (d.n 24 1 == 1) && (resetNamed (d.n 25 1)).isNone)] ∧ d.n 24 1 = 0 ∧ d.src = .sq n) ∧
  (∃ (s : State) (d : Desc) (i : Isl), s.admits d
    { opcode := 0x0C01, priv := some 1, isl := .mg, params := [(24, 1), (25, 1)] } [(24, decide (1 < d.n 24 1)),
    (25, (d.n 24 1 == 1) && (resetNamed (d.n 25 1)).isNone)] ∧ d.n 24 1 = 1 ∧ resetNamed (d.n 25 1) = some i) :=
  ⟨⟨starting, .sf, by decide +kernel⟩,
   ⟨starting, by decide +kernel⟩,
   ⟨up.set F.MG_RESET_CAUSE_START_SRC 1, by decide +kernel⟩,
   ⟨{ up with isl := { up.isl with resetPend := some 4 } }, 4, by decide +kernel⟩,
   ⟨up, cmd 0x0C01 [0, 0], 0, by decide +kernel⟩,
   ⟨up, cmd 0x0C01 [1, 4], .ap, by decide +kernel⟩⟩

/-- What the clauses of SupplyEvents ask for is met. -/
theorem test_witness_SupplyEvents :
  (∃ (s : State), s.running .tb = true ∧ s.isl.supply = .normal ∧ s.get F.MET_PFAIL_CFG_PIN_EN = 1) ∧
  (∃ (s : State), s.running .tb = true ∧ s.isl.supply = .normal ∧ s.get F.MET_PFAIL_CFG_VF_EN = 1) ∧
  (∃ (s : State), s.get F.MET_PFAIL_CFG_PIN_EN = 0) ∧
  (∃ (s : State), s.isl.supply = .warned) ∧
  (∃ (s : State), s.isl.supply = .saving) ∧
  (∃ (s : State), s.isl.supply = .saved ∧ s.isl.hotHold = false) ∧
  (∃ (s : State), s.isl.hotHold = true) ∧
  (∃ (s : State) (degC : Int) (b : Bool), degC < 120) ∧
  (∃ (s : State) (degC : Int) (b : Bool), 120 ≤ degC ∧ degC < 135) ∧
  (∃ (s : State) (degC : Int), s.isl.hotHold = true ∧ degC < 115 ∧ s.isl.supply ≠ .saved) ∧
  (∃ (s : State) (degC : Int), s.isl.hotHold = true ∧ degC < 115 ∧ s.isl.supply = .saved) ∧
  (∃ (s : State), s.running .hi = true ∧ s.running .mg = true) :=
  ⟨⟨up.set F.MET_PFAIL_CFG_PIN_EN 1, by decide +kernel⟩,
   ⟨up.set F.MET_PFAIL_CFG_VF_EN 1, by decide +kernel⟩,
   ⟨up.set F.MET_PFAIL_CFG_PIN_EN 0, by decide +kernel⟩,
   ⟨{ up with isl := { up.isl with supply := .warned } }, by decide +kernel⟩,
   ⟨{ up with isl := { up.isl with supply := .saving } }, by decide +kernel⟩,
   ⟨{ up with isl := { up.isl with supply := .saved } }, by decide +kernel⟩,
   ⟨{ up with isl := { up.isl with supply := .saved, hotHold := true } }, by decide +kernel⟩,
   ⟨up, 40, true, by decide +kernel⟩,
   ⟨up, 130, true, by decide +kernel⟩,
   ⟨{ up with isl := { up.isl with hotHold := true } }, 100, by decide +kernel⟩,
   ⟨{ up with isl := { up.isl with hotHold := true, supply := .saved } }, 100, by decide +kernel⟩,
   ⟨up, by decide +kernel⟩⟩

/-- What the clauses of HostLink ask for is met. -/
theorem test_witness_HostLink :
  (∃ (s : State) (v : Word), s.running .hi = true ∧ bitsOf v.toNat 5 4 ≠ 0 ∧ v.toNat.testBit 0 = false ∧
    v.toNat.testBit 6 = true ∧ s.get F.HI_STATUS_GEN ≠ 0) ∧
  (∃ (s : State) (v : Word), s.running .hi = true ∧ bitsOf v.toNat 5 4 ≠ 0 ∧ v.toNat.testBit 0 = true ∧
    v.toNat.testBit 6 = false) ∧
  (∃ (s : State) (v : Word), s.running .hi = true ∧ bitsOf v.toNat 5 4 = 0) :=
  ⟨⟨up.set F.HI_STATUS_GEN 1, 0x50, by decide +kernel⟩,
   ⟨up, 0x31, by decide +kernel⟩,
   ⟨up, 1, by decide +kernel⟩⟩

/-- What the clauses of HostQueues ask for is met. -/
theorem test_witness_HostQueues :
  (∃ (s : State) (q : RingQ) (v : Word), s.running .hi = true ∧ s.ringIdle q = true ∧ s.secondKeyadm q (s.newCfg q
    (putBit v.toNat 31 true)) = false ∧ s.mayEnable q (s.newCfg q (putBit v.toNat 31 true)) = true) ∧
  (∃ (s : State) (q : RingQ) (v : Word), s.running .hi = true ∧ s.ringIdle q = true ∧ s.mayEnable q (s.newCfg q
    (putBit v.toNat 31 true)) = false) ∧
  (∃ (s : State) (e : Fin 4) (v : Word), s.running .hi = true ∧ s.get (F.HI_EQ_CFG_EN e.val) = 1 ∧ s.sameCfg (.eq e)
    (putBit v.toNat 31 false) = true) ∧
  (∃ (s : State) (n : Fin 16) (v : Word), s.running .hi = true ∧ s.get (F.HI_SQ_CFG_EN n.val) = 1 ∧ s.sameCfg (.sq
    n) (putBit v.toNat 31 false) = true) ∧
  (∃ (s : State) (n : Fin 16) (v : Word) (fetched : List (List Byte)), s.running .hi = true ∧ s.pcie = true ∧ s.get
    (F.HI_SQ_CFG_EN n.val) = 1 ∧ s.get (F.HI_SQ_STATUS_ERR n.val) = 0 ∧ s.get (RingQ.sq n).err = 0 ∧ s.get (RingQ.sq
    n).index = 0 ∧ s.host.sq[n].host = 0 ∧ v.toNat = fetched.length ∧ (∀ e ∈ fetched, e.length = 64) ∧
    fetched.length < s.get (RingQ.sq n).size ∧ s.get (RingQ.sq n).size ≤ 4096) ∧
  (∃ (s : State) (n : Fin 16) (v : Word) (fetched : List (List Byte)) (failed : Bool), s.running .hi = true ∧ s.get
    (F.HI_SQ_CFG_EN n.val) = 1 ∧ s.get (RingQ.sq n).err = 0 ∧ s.get (RingQ.sq n).size ≤ bitsOf v.toNat 12 0) ∧
  (∃ (s : State) (n : Fin 16) (v : Word), s.running .hi = true ∧ s.get (RingQ.cq n).en = 1 ∧ s.get (RingQ.cq n).err
    = 0 ∧ bitsOf v.toNat 12 0 < s.get (RingQ.cq n).size ∧ (bitsOf v.toNat 12 0 + s.get (RingQ.cq n).size -
    s.host.cq[n].host) % s.get (RingQ.cq n).size ≤ (s.get (RingQ.cq n).index + s.get (RingQ.cq n).size -
    s.host.cq[n].host) % s.get (RingQ.cq n).size) ∧
  (∃ (s : State) (e : Fin 4) (v : Word), s.running .hi = true ∧ s.get (RingQ.eq e).en = 1 ∧ s.get (RingQ.eq e).err =
    0 ∧ bitsOf v.toNat 12 0 < s.get (RingQ.eq e).size ∧ (bitsOf v.toNat 12 0 + s.get (RingQ.eq e).size -
    s.host.eq[e].host) % s.get (RingQ.eq e).size ≤ (s.get (RingQ.eq e).index + s.get (RingQ.eq e).size -
    s.host.eq[e].host) % s.get (RingQ.eq e).size) ∧
  (∃ (s : State) (n : Fin 16) (d : Desc) (rest : List Desc), s.host.fetched[n] = d :: rest ∧ s.host.inFlight = [] ∧
    (opcodeIsl d.opcode).isSome = true) ∧
  (∃ (s : State) (n : Fin 16) (d : Desc) (rest : List Desc), s.host.fetched[n] = d :: rest ∧ s.host.inFlight = [] ∧
    opcodeIsl d.opcode = none) ∧
  (∃ (s : State) (q : RingQ), s.get q.en = 1 ∧ s.get q.err = 0) ∧
  (∃ (s : State) (e : Fin 4), s.get (RingQ.eq e).en = 1 ∧ bitsOf (s.reg ((RingQ.eq e).off + 8)) 30 30 = 1 ∧
    s.host.eq[e].unsig ≠ 0) ∧
  (∃ (s : State) (d : Desc), s.admits d { opcode := 0x0001, priv := none, isl := .hi }) :=
  ⟨⟨up, .cq 2, 0x80000004, by decide +kernel⟩,
   ⟨up, .cq 2, 0x80000001, by decide +kernel⟩,
   ⟨up.set (F.HI_EQ_CFG_EN 1) 1, 1, 0, by decide +kernel⟩,
   ⟨up.set (F.HI_SQ_CFG_EN 1) 1, 1, 0, by decide +kernel⟩,
   ⟨((up.set (F.HI_SQ_CFG_EN 0) 1).set (RingQ.sq 0).size 4), 0, 1, [zeros 64], by decide +kernel⟩,
   ⟨((up.set (F.HI_SQ_CFG_EN 0) 1).set (RingQ.sq 0).size 4), 0, 9, [], false, by decide +kernel⟩,
   ⟨(((up.set (RingQ.cq 0).en 1).set (RingQ.cq 0).size 4).set (RingQ.cq 0).index 2), 0, 1, by decide +kernel⟩,
   ⟨(((up.set (RingQ.eq 0).en 1).set (RingQ.eq 0).size 16).set (RingQ.eq 0).index 2), 0, 1, by decide +kernel⟩,
   ⟨{ up with host := { up.host with fetched := up.host.fetched.set 3 [cmd 1 []] } }, 3, cmd 1 [], [], by decide +kernel⟩,
   ⟨{ up with host := { up.host with fetched := up.host.fetched.set 3 [cmd 0xFFFF []] } }, 3, cmd 0xFFFF [], [], by decide +kernel⟩,
   ⟨up.set (RingQ.cq 2).en 1, .cq 2, by decide +kernel⟩,
   ⟨{ (up.setReg (R.HI_EQ_BASE_LO 1 + 8) 0xC0000010) with host := { up.host with eq := up.host.eq.set 1 { RingS.reset with unsig := 3 } } }, 1, by decide +kernel⟩,
   ⟨up, cmd 1 [], by decide +kernel⟩⟩

/-- What the clauses of RegisterAccess ask for is met. -/
theorem test_witness_RegisterAccess :
  (∃ (s : State) (off : Word) (size : Nat) (v : Word), s.running .hi = true ∧ ¬ (off.toNat % 4 = 0 ∧ size = 4 ∧
    assigned off.toNat = true ∧ s.serves off.toNat = true)) ∧
  (∃ (s : State) (off : Word) (size : Nat) (v : Word), s.running .hi = false) ∧
  (∃ (s : State) (k : Fin 8) (v : Word), s.running .hi = true) ∧
  (∃ (s : State) (v : Word), s.running .hi = true) ∧
  (∃ (s : State) (v : Word), s.running .hi = true ∧ s.running .mg = true) ∧
  (∃ (s : State) (v : Word), s.running .hi = true ∧ s.running .vl = true ∧ s.sealOpen = false ∧ 1 ≤ bitsOf v.toNat 7
    0 ∧ bitsOf v.toNat 7 0 ≤ 168 ∧ bitsOf v.toNat 7 0 ≠ s.get F.BIL_TIME_CFG_SYNC_MAX) ∧
  (∃ (s : State) (v : Word), s.running .hi = true ∧ s.running .vl = true ∧ s.sealOpen = true ∧ 1 ≤ bitsOf v.toNat 7
    0 ∧ bitsOf v.toNat 7 0 ≤ 168) ∧
  (∃ (s : State) (v : Word), s.running .hi = true ∧ s.running .vl = true ∧ (bitsOf v.toNat 7 0 = 0 ∨ 168 < bitsOf
    v.toNat 7 0)) ∧
  (∃ (s : State) (n : Fin 8) (v : Word), s.running .hi = true ∧ s.running .vl = true ∧ s.sealOpen = true ∧ busyState
    (s.sess n) = false) :=
  ⟨⟨up, 2, 4, 0, by decide +kernel⟩,
   ⟨up.setIsl .hi 2, 0, 4, 0, by decide +kernel⟩,
   ⟨up, 3, 5, by decide +kernel⟩,
   ⟨up.setReg R.HI_IRQ_PEND_LO 7, 5, by decide +kernel⟩,
   ⟨up, 5, by decide +kernel⟩,
   ⟨up.set F.KEY_STATUS_SEAL_OPEN 0, 5, by decide +kernel⟩,
   ⟨unsealed, 5, by decide +kernel⟩,
   ⟨unsealed, 200, by decide +kernel⟩,
   ⟨unsealed, 3, 0x00010002, by decide +kernel⟩⟩

/-- What the clauses of DataPort ask for is met. -/
theorem test_witness_DataPort :
  (∃ (s : State) (off : Word) (l : List Byte), s.running .hi = true ∧ off.toNat % 4 = 0 ∧ l.length % 4 = 0 ∧
    l.length ≤ 512 ∧ off.toNat + l.length ≤ 4096 ∧ s.get F.HI_DP_CTRL_MODE = 0 ∧ s.loading = false ∧ stagingBase ≤
    s.get64 R.HI_DP_ADDR_LO + off.toNat ∧ s.get64 R.HI_DP_ADDR_LO + off.toNat + l.length ≤ stagingBase + 0x80000) ∧
  (∃ (s : State) (off : Word) (n : Nat), s.running .hi = true ∧ off.toNat % 4 = 0 ∧ n % 4 = 0 ∧ n ≤ 512 ∧ off.toNat
    + n ≤ 4096 ∧ s.get F.HI_DP_CTRL_MODE = 0 ∧ stagingBase ≤ s.get64 R.HI_DP_ADDR_LO + off.toNat ∧ s.get64
    R.HI_DP_ADDR_LO + off.toNat + n ≤ stagingBase + 0x80000) ∧
  (∃ (s : State) (off : Word) (n : Nat), s.running .hi = true ∧ (off.toNat % 4 ≠ 0 ∨ n % 4 ≠ 0 ∨ 4096 < n ∨ 4096 <
    off.toNat + n)) ∧
  (∃ (s : State) (off : Word) (l : List Byte), s.running .hi = true ∧ s.get F.HI_DP_CTRL_MODE = 0 ∧ (s.get64
    R.HI_DP_ADDR_LO + off.toNat < stagingBase ∨ (stagingBase + 0x80000 < s.get64 R.HI_DP_ADDR_LO + off.toNat +
    l.length ∧ s.get64 R.HI_DP_ADDR_LO + off.toNat < 2 ^ 64))) ∧
  (∃ (s : State) (off : Word) (l : List Byte), s.running .hi = true ∧ s.loading = true) ∧
  (∃ (s : State) (off : Word) (op : DpOp), s.running .hi = false) :=
  ⟨⟨up.set64 R.HI_DP_ADDR_LO stagingBase, 4, [1, 2, 3, 4], by decide +kernel⟩,
   ⟨(up.set64 R.HI_DP_ADDR_LO stagingBase).store stagingBase [7, 8, 9, 10], 0, 4, by decide +kernel⟩,
   ⟨up, 2, 4, by decide +kernel⟩,
   ⟨up.set64 R.HI_DP_ADDR_LO 0x210000, 0, [1, 2, 3, 4], by decide +kernel⟩,
   ⟨{ up with host := { up.host with results := [⟨cmd 0x0801 [], 0, 0, []⟩] } }, 0, [1, 2, 3, 4], by decide +kernel⟩,
   ⟨up.setIsl .hi 2, 0, .read 4, by decide +kernel⟩⟩

/-- What the clauses of SpiFrames ask for is met. -/
theorem test_witness_SpiFrames :
  (∃ (s : State) (a : Nat) (l : List Byte), s.running .hi = true ∧ s.get F.HI_STATUS_PORT = 1 ∧ a + l.length ≤
    0x100000 ∧ l.length ≤ 4096) ∧
  (∃ (s : State) (a n : Nat), s.running .hi = true ∧ s.get F.HI_STATUS_PORT = 1 ∧ a + n ≤ 0x100000 ∧ n ≤ 4096) ∧
  (∃ (s : State) (a v : Nat), s.running .hi = true ∧ s.get F.HI_STATUS_PORT = 1 ∧ a < 2 ^ 32 ∧ v < 2 ^ 32) ∧
  (∃ (s : State) (a : Nat), s.running .hi = true ∧ s.get F.HI_STATUS_PORT = 1 ∧ a < 2 ^ 32) ∧
  (∃ (s : State) (op x : Byte) (rest : List Byte) (n : Nat) (b : Bool), s.running .hi = true ∧ s.get
    F.HI_STATUS_PORT = 1 ∧ x.toNat + op.toNat ≠ 255 ∧ b = false) ∧
  (∃ (s : State) (bytes : List Byte) (n : Nat) (b : Bool), s.get F.HI_STATUS_PORT ≠ 1) ∧
  (∃ (s : State) (a v : Nat), s.running .hi = true ∧ s.get F.HI_STATUS_PORT = 2 ∧ a < 0xFFFC ∧ v < 2 ^ 32 ∧ s.get
    F.HI_SPI_WIN_WIN < 14) ∧
  (∃ (s : State) (a : Nat), s.running .hi = true ∧ s.get F.HI_STATUS_PORT = 2 ∧ a < 0xFFFC ∧ s.get F.HI_SPI_WIN_WIN
    < 14) ∧
  (∃ (s : State) (v : Nat), s.running .hi = true ∧ s.get F.HI_STATUS_PORT = 2 ∧ v < 32) ∧
  (∃ (s : State) (bytes : List Byte), s.running .hi = true ∧ s.get F.HI_STATUS_PORT = 2 ∧ bytes.length < 3) :=
  ⟨⟨up.set F.HI_STATUS_PORT 1, 0x100, [1, 2], by decide +kernel⟩,
   ⟨up.set F.HI_STATUS_PORT 1, 0x100, 8, by decide +kernel⟩,
   ⟨up.set F.HI_STATUS_PORT 1, R.HI_EV_MASK 0, 5, by decide +kernel⟩,
   ⟨up.set F.HI_STATUS_PORT 1, R.MG_PART, by decide +kernel⟩,
   ⟨up.set F.HI_STATUS_PORT 1, 0x21, 0, [], 0, false, by decide +kernel⟩,
   ⟨up.set F.HI_STATUS_PORT 0, [0x22, 0xDD], 0, false, by decide +kernel⟩,
   ⟨(up.set F.HI_STATUS_PORT 2).set F.HI_SPI_WIN_WIN 1, 0x400, 5, by decide +kernel⟩,
   ⟨(up.set F.HI_STATUS_PORT 2).set F.HI_SPI_WIN_WIN 1, 0x400, by decide +kernel⟩,
   ⟨up.set F.HI_STATUS_PORT 2, 17, by decide +kernel⟩,
   ⟨up.set F.HI_STATUS_PORT 2, [0x80], by decide +kernel⟩⟩

/-- What the clauses of CommandResults ask for is met. -/
theorem test_witness_CommandResults :
  (∃ (s : State) (w : Bool) (r : Result) (rest : List Result) (n : Fin 16), s.host.results = r :: rest ∧ r.desc.src
    = .sq n ∧ s.running .hi = true) ∧
  (∃ (s : State) (w : Bool) (r : Result) (rest : List Result) (node : Half), s.host.results = r :: rest ∧ r.desc.src
    = .fabric node ∧ s.running .cm = true) ∧
  (∃ (s : State) (w : Bool), (∀ r ∈ s.host.results, s.canPost r = false)) :=
  ⟨⟨{ up with host := { up.host with results := [⟨cmd 1 [], 0, 0, []⟩], inFlight := [cmd 1 []] } }, false, ⟨cmd 1 [], 0, 0, []⟩, [], 0, by decide +kernel⟩,
   ⟨{ up with host := { up.host with results := [⟨⟨.fabric 7, zeros 64⟩, 0, 0, []⟩] } }, false, ⟨⟨.fabric 7, zeros 64⟩, 0, 0, []⟩, [], 7, by decide +kernel⟩,
   ⟨up, false, by decide +kernel⟩⟩

/-- What the clauses of InternalQueues ask for is met. -/
theorem test_witness_InternalQueues :
  (∃ (s : State) (i : Fin 35) (unit_ type_ : Byte) (body : List Dword), s.running (queIsl i) = true ∧ s.spill i.val
    = false ∧ s.ques[i].gap = none ∧ body.length + 1 ≤ min 512 (queDepth i.val / 4) ∧ s.ques[i].fill + (body.length
    + 1) + 3 ≤ queDepth i.val) ∧
  (∃ (s : State) (i : Fin 35) (unit_ type_ : Byte) (body : List Dword), s.running (queIsl i) = true ∧ s.spill i.val
    = false ∧ s.ques[i].gap = none ∧ body.length + 1 ≤ min 512 (queDepth i.val / 4) ∧ queDepth i.val <
    s.ques[i].fill + (body.length + 1) + 3 ∧ 0x14 ≤ i.val) ∧
  (∃ (s : State) (i : Fin 35) (unit_ type_ : Byte) (body : List Dword), s.running (queIsl i) = false) ∧
  (∃ (s : State) (i : Fin 35) (unit_ type_ : Byte) (body : List Dword), s.running (queIsl i) = true ∧ body.length +
    1 ≤ min 512 (queDepth i.val / 4)) ∧
  (∃ (s : State) (i : Fin 35) (p : List Dword) (rest : List (List Dword)), s.running (queIsl i) = true ∧ s.spill
    i.val = false ∧ s.ques[i].gap = none ∧ s.ques[i].pkts = p :: rest) ∧
  (∃ (s : State) (i : Fin 35) (p : List Dword) (rest : List (List Dword)) (g : Gap), s.running (queIsl i) = true ∧
    s.spill i.val = false ∧ s.ques[i].gap = some g ∧ s.ques[i].pkts = p :: rest ∧ (rest.map List.length).sum + 6 ≤
    queDepth i.val) ∧
  (∃ (s : State) (i : Fin 35), s.running (queIsl i) = true) ∧
  (∃ (s : State) (i : Fin 35), s.running .hi = true ∧ s.running .mg = true) :=
  ⟨⟨up, 0x14, 3, 1, [5, 6], by decide +kernel⟩,
   ⟨{ up with ques := up.ques.set 0x20 { QueS.reset with pkts := [List.replicate 511 0] } }, 0x20, 3, 1, [5, 6], by decide +kernel⟩,
   ⟨up.setIsl .cm 2, 0x14, 3, 1, [5, 6], by decide +kernel⟩,
   ⟨up, 0x14, 3, 1, [5, 6], by decide +kernel⟩,
   ⟨{ up with ques := up.ques.set 0x20 { QueS.reset with pkts := [[1, 2]], w := 2 } }, 0x20, [1, 2], [], by decide +kernel⟩,
   ⟨{ up with ques := up.ques.set 0x20 { QueS.reset with pkts := [[1, 2]], w := 2, gap := some ⟨3, 2, 0, 5⟩ } }, 0x20, [1, 2], [], ⟨3, 2, 0, 5⟩, by decide +kernel⟩,
   ⟨up, 0x14, by decide +kernel⟩,
   ⟨up, 3, by decide +kernel⟩⟩

/-- What the clauses of AuxiliaryCommands ask for is met. -/
theorem test_witness_AuxiliaryCommands :
  (∃ (s : State) (r : ReadReq) (body : List Byte) (rest : List (ReadReq × List Byte)) (k : KeySlot), s.running .ks =
    true ∧ s.running .vl = true ∧ s.bil.signing = (r, body) :: rest ∧ s.keySlot 1 = some k ∧ r.cmd = none ∧ r.reason
    = 0) ∧
  (∃ (s : State) (r : ReadReq) (body : List Byte) (rest : List (ReadReq × List Byte)) (k : KeySlot) (d : Desc),
    s.running .ks = true ∧ s.running .vl = true ∧ s.bil.signing = (r, body) :: rest ∧ s.keySlot 1 = some k ∧ r.cmd =
    some d ∧ r.reason = 0) ∧
  (∃ (s : State) (d : Desc), s.admits d
    { opcode := 0x0206, priv := some 0, isl := .vl, params := [(24, 1), (25, 1), (28, 4)] } [(24, decide (2 < d.n 24
    1)), (25, d.n 25 1 == 0 || decide (64 < d.n 25 1)), (28, decide (2 ^ 24 ≤ d.n 28 4))] ∧ s.met.captures = []) ∧
  (∃ (s : State) (d : Desc) (bus : I2cBus), s.admits d
    { opcode := 0x0D01, priv := some 0, isl := .mg, params := [(24, 1), (25, 1), (26, 1), (28, min (d.n 25 1) 28)] }
    [(24, decide (127 < d.n 24 1)), (25, decide (28 < d.n 25 1)), (26, decide (16 < d.n 26 1))] ∧ s.flag
    F.MG_I2C_CFG_EN = false) ∧
  (∃ (s : State) (d : Desc) (read : List Byte), s.admits d
    { opcode := 0x0D01, priv := some 0, isl := .mg, params := [(24, 1), (25, 1), (26, 1), (28, min (d.n 25 1) 28)] }
    [(24, decide (127 < d.n 24 1)), (25, decide (28 < d.n 25 1)), (26, decide (16 < d.n 26 1))] ∧ s.flag
    F.MG_I2C_CFG_EN = true ∧ read.length = d.n 26 1) ∧
  (∃ (s : State) (d : Desc), s.admits d
    { opcode := 0x0D01, priv := some 0, isl := .mg, params := [(24, 1), (25, 1), (26, 1), (28, min (d.n 25 1) 28)] }
    [(24, decide (127 < d.n 24 1)), (25, decide (28 < d.n 25 1)), (26, decide (16 < d.n 26 1))] ∧ s.flag
    F.MG_I2C_CFG_EN = true) :=
  ⟨⟨{ signer with bil := { signer.bil with signing := [(⟨0, 0, 5, none⟩, zeros 160)] } }, ⟨0, 0, 5, none⟩, zeros 160, [], slot1, by decide +kernel⟩,
   ⟨{ signer with bil := { signer.bil with signing := [(⟨0, 0, 5, some (cmd 0x0201 [])⟩, zeros 160)] } }, ⟨0, 0, 5, some (cmd 0x0201 [])⟩, zeros 160, [], slot1, cmd 0x0201 [], by decide +kernel⟩,
   ⟨up, cmd 0x0206 [1, 4, 0, 0, 7], by decide +kernel⟩,
   ⟨up, cmd 0x0D01 [0x50, 0, 2], .ok [1, 2], by decide +kernel⟩,
   ⟨up.set F.MG_I2C_CFG_EN 1, cmd 0x0D01 [0x50, 0, 2], [1, 2], by decide +kernel⟩,
   ⟨up.set F.MG_I2C_CFG_EN 1, cmd 0x0D01 [0x50, 0, 2], by decide +kernel⟩⟩

/-- What the clauses of QuantumBoundary ask for is met. -/
theorem test_witness_QuantumBoundary :
  (∃ (s : State), s.running .tb = true) ∧
  (∃ (s : State), s.running .tb = false) :=
  ⟨⟨up, by decide +kernel⟩,
   ⟨up.setIsl .tb 2, by decide +kernel⟩⟩

/-- What the clauses of LinkFrames ask for is met. -/
theorem test_witness_LinkFrames :
  (∃ (s : State) (c : Fin 3) (frame : List Byte), s.running (chanIsl c) = true ∧ s.isl.supply = .normal ∧
    s.met.captures = [] ∧ frame.length = 82 ∧ fld frame 0 1 = 0xA5 ∧ fld frame 1 1 / 64 = c.val ∧ fld frame 78 4 =
    crc32 (frame.take 78) ∧ (s.met.chans[c].ctr = none ∨ s.met.chans[c].ctr = some (BitVec.ofNat 16 (fld frame 2
    2)))) ∧
  (∃ (s : State) (c : Fin 3) (frame : List Byte), s.running (chanIsl c) = true ∧ s.isl.supply = .normal ∧
    s.met.captures = [] ∧ (frame.length ≠ 82 ∨ fld frame 0 1 ≠ 0xA5 ∨ fld frame 1 1 / 64 ≠ c.val ∨ fld frame 78 4 ≠
    crc32 (frame.take 78))) ∧
  (∃ (s : State) (c : Fin 3) (frame : List Byte), s.running (chanIsl c) = false) ∧
  (∃ (s : State) (c : Fin 3), s.running (chanIsl c) = true) ∧
  (∃ (s : State) (c : Fin 3) (cl : ClosedQ), s.running (chanIsl c) = true ∧ s.bit F.MET_STATUS_LINK_UP c.val = true
    ∧ s.met.chans[c].fieldWait = false ∧ s.met.chans[c].closed = some cl) ∧
  (∃ (s : State) (c : Fin 3), s.met.chans[c].fieldWait = true) :=
  ⟨⟨up, 1, frame82, by decide +kernel⟩,
   ⟨up, 1, zeros 82, by decide +kernel⟩,
   ⟨up.setIsl .mb 2, 1, zeros 82, by decide +kernel⟩,
   ⟨up, 1, by decide +kernel⟩,
   ⟨{ metering with met := { metering.met with chans := metering.met.chans.set 1 { metering.met.chans[1] with closed := some closed0 } } }, 1, closed0, by decide +kernel⟩,
   ⟨{ up with met := { up.met with chans := up.met.chans.set 1 { up.met.chans[1] with fieldWait := true } } }, 1, by decide +kernel⟩⟩

/-- What the clauses of MeteringConditions ask for is met. -/
theorem test_witness_MeteringConditions :
  (∃ (s : State) (ab bc ca : Nat), 500 < ab ∧ 500 < ca ∧ bc ≤ 500 ∧ 2 ≤ s.met.suspRun[(0 : Fin 3)] ∧ s.bit
    F.MET_REFCHK_SUSPECT 0 = false) ∧
  (∃ (s : State) (c : Fin 3) (p : Fin 8) (k : Fin 3), s.running (chanIsl c) = true ∧ 5 ≤ (nth
    s.met.chans[c].condCnt[p] k.val (0, 0)).1) ∧
  (∃ (s : State) (c : Fin 3) (p : Fin 8) (k : Fin 3), (nth s.met.chans[c].condCnt[p] k.val (0, 0)).1 < 5) ∧
  (∃ (s : State) (c : Fin 3) (p : Fin 8) (k : Fin 3), s.running (chanIsl c) = true ∧ 50 ≤ (nth
    s.met.chans[c].condCnt[p] k.val (0, 0)).2) ∧
  (∃ (s : State) (c : Fin 3) (p : Fin 8) (row : Fin 5), s.running (chanIsl c) = true ∧ nth rcmNeed row.val 0 ≤ nth
    s.met.chans[c].rcmCnt[p] row.val 0) ∧
  (∃ (s : State) (d : Desc), s.admits d { opcode := 0x0108, priv := some 0, isl := .vl, point := true } ∧ s.sess
    d.pt ≠ 5) ∧
  (∃ (s : State) (d : Desc), s.admits d { opcode := 0x0108, priv := some 0, isl := .vl, point := true } ∧ s.sess
    d.pt = 5) :=
  ⟨⟨{ up with met := { up.met with suspRun := up.met.suspRun.set (0 : Fin 3) 2 } }, 600, 3, 700, by decide +kernel⟩,
   ⟨up.setChan 1 { up.met.chans[1] with condCnt := up.met.chans[1].condCnt.set 2 [(5, 0), (0, 0), (0, 0)] }, 1, 2, 0, by decide +kernel⟩,
   ⟨up, 1, 2, 0, by decide +kernel⟩,
   ⟨up.setChan 1 { up.met.chans[1] with condCnt := up.met.chans[1].condCnt.set 2 [(0, 50), (0, 0), (0, 0)] }, 1, 2, 0, by decide +kernel⟩,
   ⟨up.setChan 1 { up.met.chans[1] with rcmCnt := up.met.chans[1].rcmCnt.set 2 [0, 0, 0, 0, 2] }, 1, 2, 4, by decide +kernel⟩,
   ⟨up, ⟨.sq 0, padTo 64 (natLE 2 0x0108 ++ [0, 2])⟩, by decide +kernel⟩,
   ⟨up.set (F.TPT_STATE_STATE 2) 5, ⟨.sq 0, padTo 64 (natLE 2 0x0108 ++ [0, 2])⟩, by decide +kernel⟩⟩

/-- What the clauses of StartTests ask for is met. -/
theorem test_witness_StartTests :
  (∃ (s : State) (v : Word), s.running .hi = true ∧ s.running .vl = true) ∧
  (∃ (s : State) (d : Desc), s.admits d { opcode := 0x0201, priv := some 0, isl := .vl, params := [(24, 1)] }) ∧
  (∃ (s : State) (p : Fin 8), s.bit F.MET_STEST_CTRL_PENDING p.val = true ∧ s.met.testQ[p] = none ∧ s.testMayRun p =
    true ∧ s.time.usInQ = 0 ∧ s.isl.supply = .normal) ∧
  (∃ (s : State) (p : Fin 8), s.testMayRun p = false) ∧
  (∃ (s : State) (p : Fin 8) (q0 : Nat), s.running .vl = true ∧ s.met.testQ[p] = some q0 ∧ q0 + 100 ≤
    s.time.quantum) ∧
  (∃ (s : State) (p : Fin 8), s.met.testQ[p] = none) :=
  ⟨⟨up.set (F.TPT_STATE_TYPE 2) 1, 0xFF, by decide +kernel⟩,
   ⟨up.set (F.TPT_STATE_TYPE 2) 1, cmd 0x0201 [4], by decide +kernel⟩,
   ⟨(up.set (F.TPT_STATE_TYPE 2) 1).setBit F.MET_STEST_CTRL_PENDING 2 true, 2, by decide +kernel⟩,
   ⟨(up.set (F.TPT_STATE_TYPE 2) 1).set (F.TPT_STATE_STATE 2) 5, 2, by decide +kernel⟩,
   ⟨{ up.set (F.TPT_STATE_TYPE 2) 1 with met := { up.met with testQ := up.met.testQ.set 2 (some 7) }, time := { up.time with quantum := 107 } }, 2, 7, by decide +kernel⟩,
   ⟨up, 2, by decide +kernel⟩⟩

/-- What the clauses of FieldBus ask for is met. -/
theorem test_witness_FieldBus :
  (∃ (s : State) (e : Fin 16) (k : Fin 4), s.running .ap = true ∧ s.entryPort e = k ∧ s.entryDue e = true ∧
    s.met.busy[k] = none ∧ (∀ j : Fin 16, j.val < e.val → s.entryPort j = k → s.entryDue j = false)) ∧
  (∃ (s : State) (port : Fin 4) (e : Fin 16) (r : Nat), s.running .ap = true ∧ s.met.busy[port] = some (e, r) ∧ 0 <
    r) ∧
  (∃ (s : State) (port : Fin 4) (e : Fin 16), s.running .ap = true ∧ s.met.busy[port] = some (e, 0)) ∧
  (∃ (s : State) (port : Fin 4), s.met.busy[port] = none) ∧
  (∃ (s : State) (port : Fin 4) (e : Fin 16) (r : Nat) (data b : List Byte) (v k lo hi : Rat), s.running .ap = true
    ∧ s.met.busy[port] = some (e, r) ∧ b = natLE 1 (s.now (F.MET_MB_SRC_SLAVE e.val)) ++ natLE 1 (s.entryFunc e) ++
    natLE 1 (2 * fmtRegs (s.now (F.MET_MB_FMT_FMT e.val))) ++ data ∧ data.length = 2 * fmtRegs (s.now
    (F.MET_MB_FMT_FMT e.val)) ∧ s.now (F.MET_MB_FMT_ROLE e.val) ≠ 1 ∧ fmtValue (s.now (F.MET_MB_FMT_FMT e.val))
    (rawValue data (s.now (F.MET_MB_FMT_WSWAP e.val) == 1)) = some v ∧ f32 (s.inForce (R.MET_MB_SCALE e.val)) = some
    k ∧ f32 (s.inForce (R.MET_MB_MIN e.val)) = some lo ∧ f32 (s.inForce (R.MET_MB_MAX e.val)) = some hi ∧ lo ≤ v * k
    ∧ v * k ≤ hi) ∧
  (∃ (s : State) (port : Fin 4) (frame : List Byte) (gap : Bool), s.running .ap = true ∧ s.met.busy[port] = none) ∧
  (∃ (s : State) (e : Fin 16), s.running .ap = true ∧ s.entryOn e = true ∧ s.entryStale e = true) ∧
  (∃ (s : State) (e g : Fin 16) (v p : Rat × Nat), s.running .ap = true ∧ s.now (F.MET_MB_FMT_ROLE e.val) = 2 ∧
    Fin.ofNat 16 (s.now (F.MET_MB_FMT_LINK e.val)) = g ∧ g ≠ e ∧ s.met.entries[e].value = some v ∧
    s.met.entries[e].totPrev = some p ∧ s.met.entries[e].skip = false ∧ s.met.entries[g].skip = false) ∧
  (∃ (s : State) (c : Fin 3) (r : FieldRec), s.running (chanIsl c) = true ∧ s.met.fieldOut[c] = some r ∧
    s.met.chans[c].fieldLate = false) ∧
  (∃ (s : State) (c : Fin 3), s.running (chanIsl c) = true ∧ s.met.chans[c].fieldWait = true) ∧
  (∃ (s : State) (c : Fin 3), s.met.chans[c].fieldWait = false) :=
  ⟨⟨polling, 3, 0, by decide +kernel⟩,
   ⟨polling.setBusy 0 (some (3, 2)), 0, 3, 2, by decide +kernel⟩,
   ⟨polling.setBusy 0 (some (3, 0)), 0, 3, by decide +kernel⟩,
   ⟨polling, 0, by decide +kernel⟩,
   ⟨polling.setBusy 0 (some (3, 2)), 0, 3, 2, [0, 7], [5, 3, 2, 0, 7], 7, 1, 0, 100, by decide +kernel⟩,
   ⟨polling, 0, [1], false, by decide +kernel⟩,
   ⟨polling, 3, by decide +kernel⟩,
   ⟨totals, 4, 3, (9, 5), (2, 1), by decide +kernel⟩,
   ⟨{ up with met := { up.met with fieldOut := up.met.fieldOut.set 1 (some ⟨5, []⟩) } }, 1, ⟨5, []⟩, by decide +kernel⟩,
   ⟨{ up with met := { up.met with chans := up.met.chans.set 1 { up.met.chans[1] with fieldWait := true } } }, 1, by decide +kernel⟩,
   ⟨up, 1, by decide +kernel⟩⟩

/-- What the clauses of VoterCommands ask for is met. -/
theorem test_witness_VoterCommands :
  (∃ (s : State) (c : Fin 3) (r : QRec) (rest : List QRec), s.running .vl = true ∧ s.refFault = true ∧ s.open_
    (chanIsl c) .vl = true ∧ s.met.chans[c].kept = r :: rest ∧ s.met.chans[c].offered = 0 ∧ s.nextQ ≤ r.q) ∧
  (∃ (s : State) (arrived corrupt : List (Fin 3)) (u : State), s.running .vl = true ∧ (u = (chans.filter (fun c =>
    arrived.contains c)).foldl (fun s c => s.receive corrupt c) (s.modVot (fun v => { v with tick := v.tick + 1 })))
    ∧ u.refFault = false) ∧
  (∃ (s : State) (arrived corrupt : List (Fin 3)), s.running .vl = false) ∧
  (∃ (s : State), s.running .vl = true ∧ s.refFault = false ∧ s.isl.supply = .normal ∧ s.vot.catchUp = false ∧ 3 ≤
    s.time.quantum) ∧
  (∃ (s : State), s.refFault = true) ∧
  (∃ (s : State) (c : Fin 3), s.running .vl = true ∧ s.chState c = 1 ∧ s.flag F.VOT_CTRL_AUTO_REVER = true ∧
    s.vot.qf[c] + 100 ≤ s.time.quantum ∧ s.testOwed c = false ∧ (s.rejoins c).length < 4 ∧ s.logRefusing = false) ∧
  (∃ (s : State) (c : Fin 3), s.chState c ≠ 1) ∧
  (∃ (s : State) (v : Word) (c : Fin 3), s.running .hi = true ∧ s.running .vl = true ∧ s.sealOpen = false ∧ bitsOf
    v.toNat 6 4 = 1 <<< c.val ∧ bitsOf v.toNat 10 8 = s.get F.VOT_CTRL_FORCE_OUT ∧ bitsOf v.toNat 0 0 = s.get
    F.VOT_CTRL_AUTO_REVER ∧ s.chState c = 1 ∧ s.testOwed c = false ∧ s.logRefusing = false) ∧
  (∃ (s : State) (v : Word) (c : Fin 3), s.running .hi = true ∧ s.running .vl = true ∧ s.sealOpen = true ∧
    s.logRefusing = false ∧ s.get F.VOT_CTRL_FORCE_OUT = 0 ∧ bitsOf v.toNat 10 8 = 1 <<< c.val ∧ bitsOf v.toNat 6 4
    = 0 ∧ (∀ k : Fin 3, s.chState k = 0)) ∧
  (∃ (s : State) (v : Word), s.running .hi = true ∧ s.running .vl = true ∧ s.sealOpen = true ∧ s.get
    F.VOT_CTRL_FORCE_OUT = 0 ∧ bitsOf v.toNat 10 8 = 3) ∧
  (∃ (s : State) (c : Fin 3), s.running .vl = true ∧ s.chState c = 2 ∧ s.vot.rejoin[c] = true ∧ s.time.usInQ = 0 ∧
    s.logRefusing = false) ∧
  (∃ (s : State) (c : Fin 3), s.vot.rejoin[c] = false) ∧
  (∃ (s : State) (k : Fin 8) (v : Word), s.running .hi = true ∧ s.running .vl = true ∧ (20 < bitsOf v.toNat 31 24 ∨
    bitsOf v.toNat 16 0 = 0 ∨ 65536 < bitsOf v.toNat 16 0)) ∧
  (∃ (s : State) (k : Fin 8) (v : Word) (new : Nat), s.running .hi = true ∧ s.running .vl = true ∧ bitsOf v.toNat 31
    24 ≤ 20 ∧ 1 ≤ bitsOf v.toNat 16 0 ∧ bitsOf v.toNat 16 0 ≤ 65536 ∧ s.sealOpen = true ∧ s.logRefusing = false ∧
    new = putBits (putBits (s.reg (R.VOT_TOL k.val)) 31 24 (bitsOf v.toNat 31 24)) 16 0 (bitsOf v.toNat 16 0) ∧ new
    ≠ s.reg (R.VOT_TOL k.val)) ∧
  (∃ (s : State) (k : Fin 8) (v : Word), s.running .hi = true ∧ s.running .vl = true ∧ bitsOf v.toNat 31 24 ≤ 20 ∧ 1
    ≤ bitsOf v.toNat 16 0 ∧ bitsOf v.toNat 16 0 ≤ 65536 ∧ s.sealOpen = false ∧ putBits (putBits (s.reg (R.VOT_TOL
    k.val)) 31 24 (bitsOf v.toNat 31 24)) 16 0 (bitsOf v.toNat 16 0) ≠ s.reg (R.VOT_TOL k.val)) ∧
  (∃ (s : State) (p : Fin 8), s.running .ap = true ∧ s.sess p = 5 ∧ s.get (F.MET_FL_LIM_SUB_STOP p.val) ≠ 0 ∧ 100 *
    s.get (F.MET_FL_LIM_SUB_STOP p.val) ≤ s.met.subRun[p]) ∧
  (∃ (s : State) (p : Fin 8), s.get (F.MET_FL_LIM_SUB_STOP p.val) = 0) :=
  ⟨⟨{ up.set F.MG_CLKMON_STATUS_REF_FAULT 1 with met := { up.met with chans := up.met.chans.set 1 { up.met.chans[1] with kept := [rec7] } } }, 1, rec7, [], by decide +kernel⟩,
   ⟨up, [], [], up.modVot (fun v => { v with tick := v.tick + 1 }), by decide +kernel⟩,
   ⟨up.setIsl .vl 2, [0], [], by decide +kernel⟩,
   ⟨{ up with time := { up.time with quantum := 4 } }, by decide +kernel⟩,
   ⟨up.set F.MG_CLKMON_STATUS_REF_FAULT 1, by decide +kernel⟩,
   ⟨faulty, 1, by decide +kernel⟩,
   ⟨up, 1, by decide +kernel⟩,
   ⟨faulty, 0x21, 1, by decide +kernel⟩,
   ⟨unsealed, 0x200, 1, by decide +kernel⟩,
   ⟨unsealed, 0x300, by decide +kernel⟩,
   ⟨rejoining, 1, by decide +kernel⟩,
   ⟨up, 1, by decide +kernel⟩,
   ⟨unsealed, 3, 0, by decide +kernel⟩,
   ⟨unsealed, 3, 0x05000007, 0x05000007, by decide +kernel⟩,
   ⟨up.set F.KEY_STATUS_SEAL_OPEN 0, 3, 0x05000007, by decide +kernel⟩,
   ⟨{ (up.set (F.TPT_STATE_STATE 2) 5).set (F.MET_FL_LIM_SUB_STOP 2) 1 with met := { up.met with subRun := up.met.subRun.set 2 100 } }, 2, by decide +kernel⟩,
   ⟨up.set (F.MET_FL_LIM_SUB_STOP 2) 0, 2, by decide +kernel⟩⟩

/-- What the clauses of CalibrationAndTariff ask for is met. -/
theorem test_witness_CalibrationAndTariff :
  (∃ (s : State) (d : Desc), s.admits d
    { opcode := 0x0204, priv := some 2, isl := .vl, staged := .len 6932 6932 false, load := true } ∧ s.sealOpen =
    true ∧ s.logRefusing = false ∧ s.isl.supply = .normal ∧ s.key.badFuses = 0 ∧ s.noTransfer = true ∧ 0 < s.get
    F.KEY_CHG_LEFT_CAL ∧ s.calBad (s.staged d) = none) ∧
  (∃ (s : State) (d : Desc) (k : Nat), s.admits d
    { opcode := 0x0204, priv := some 2, isl := .vl, staged := .len 6932 6932 false, load := true } ∧ s.sealOpen =
    true ∧ s.logRefusing = false ∧ s.noTransfer = true ∧ 0 < s.get F.KEY_CHG_LEFT_CAL ∧ s.calBad (s.staged d) = some
    k) ∧
  (∃ (s : State) (d : Desc), s.admits d
    { opcode := 0x0204, priv := some 2, isl := .vl, staged := .len 6932 6932 false, load := true } ∧ s.sealOpen =
    true ∧ s.logRefusing = false ∧ s.noTransfer = false ∧ 0 < s.get F.KEY_CHG_LEFT_CAL) ∧
  (∃ (s : State) (d : Desc), s.admits d
    { opcode := 0x0205, priv := some 2, isl := .vl, staged := .len 0 0x80000 false, load := true } ∧ s.sealOpen =
    true ∧ s.logRefusing = false ∧ s.isl.supply = .normal ∧ s.key.badFuses = 0 ∧ s.noTransfer = true ∧ 0 < s.get
    F.KEY_CHG_LEFT_TARIFF ∧ s.tariffBad (s.staged d) = none) ∧
  (∃ (s : State) (d : Desc) (k : Nat), s.admits d
    { opcode := 0x0205, priv := some 2, isl := .vl, staged := .len 0 0x80000 false, load := true } ∧ s.sealOpen =
    true ∧ s.logRefusing = false ∧ s.noTransfer = true ∧ 0 < s.get F.KEY_CHG_LEFT_TARIFF ∧ s.tariffBad (s.staged d)
    = some k) ∧
  (∃ (s : State) (d : Desc), s.admits d
    { opcode := 0x0205, priv := some 2, isl := .vl, staged := .len 0 0x80000 false, load := true } ∧ s.sealOpen =
    false) :=
  ⟨⟨calStaged, cmdAt 0x0204 [] 0x100000 6932, by decide +kernel, by decide +kernel, by decide +kernel, by decide +kernel, by decide +kernel, by decide +kernel, by decide +kernel, cal_bad_none⟩,
   ⟨unsealed, cmdAt 0x0204 [] 0x100000 6932, 5, by decide +kernel⟩,
   ⟨unsealed.set (F.TPT_STATE_STATE 2) 5, cmdAt 0x0204 [] 0x100000 6932, by decide +kernel⟩,
   ⟨unsealed.store 0x100000 tariff1, cmdAt 0x0205 [] 0x100000 420, by decide +kernel⟩,
   ⟨unsealed, cmdAt 0x0205 [] 0x100000 420, 5, by decide +kernel⟩,
   ⟨up, cmdAt 0x0205 [] 0x100000 420, by decide +kernel⟩⟩

/-- What the clauses of BillingCommands ask for is met. -/
theorem test_witness_BillingCommands :
  (∃ (s : State) (d : Desc), s.admits d { opcode := 0x0203, priv := some 1, isl := .vl }) ∧
  (∃ (s : State) (d : Desc), s.admits d
    { opcode := 0x0202, priv := some 0, isl := .vl, point := true, params := [(24, 1)] } [(24, d.n 24 1 != 4 && d.n
    24 1 != 5)] ∧ d.n 24 1 = 4) ∧
  (∃ (s : State) (d : Desc), s.cmdFail d
    { opcode := 0x0202, priv := some 0, isl := .vl, point := true, params := [(24, 1)] } [0, 2] [(24, d.n 24 1 != 4
    && d.n 24 1 != 5)] = none ∧ d.n 24 1 = 5 ∧ s.sealOpen = false) ∧
  (∃ (s : State) (d : Desc), s.cmdFail d
    { opcode := 0x0202, priv := some 0, isl := .vl, point := true, params := [(24, 1)] } [0, 2] [(24, d.n 24 1 != 4
    && d.n 24 1 != 5)] = none ∧ d.n 24 1 = 5 ∧ s.sealOpen = true) ∧
  (∃ (s : State) (p : StorePkt) (rest : List StorePkt), s.bil.store = p :: rest ∧ s.running .ap = true) ∧
  (∃ (s : State), s.bil.store = []) ∧
  (∃ (s : State) (d : Desc), s.admits d
    { opcode := 0x0601, priv := some 0, isl := .ap, point := decide (d.n 24 1 = 2), params := [(24, 1)] } [(24,
    decide (3 < d.n 24 1))]) :=
  ⟨⟨up, cmd 0x0203 [], by decide +kernel⟩,
   ⟨up, cmd 0x0202 [4], by decide +kernel⟩,
   ⟨up, cmd 0x0202 [5], by decide +kernel⟩,
   ⟨unsealed, cmd 0x0202 [5], by decide +kernel⟩,
   ⟨{ up with bil := { up.bil with store := [⟨2, 3, [1, 2]⟩] } }, ⟨2, 3, [1, 2]⟩, [], by decide +kernel⟩,
   ⟨up, by decide +kernel⟩,
   ⟨up, cmd 0x0601 [2], by decide +kernel⟩⟩

/-- What the clauses of TimeCommands ask for is met. -/
theorem test_witness_TimeCommands :
  (∃ (s : State) (d : Desc), s.admits d
    { opcode := 0x0501, priv := some 1, isl := .vl, params := [(24, 8), (32, 2), (40, 16)] } ∧ s.time.stepPend =
    none ∧ (sfld d.bytes 24 8).natAbs ≤ 2000000 ∧ d.n 32 2 = 0xFFFF ∧ s.logRefusing = false) ∧
  (∃ (s : State) (d : Desc), s.admits d
    { opcode := 0x0501, priv := some 1, isl := .vl, params := [(24, 8), (32, 2), (40, 16)] } ∧ s.time.stepPend =
    none ∧ 2000000 < (sfld d.bytes 24 8).natAbs ∧ (s.checkTag (d.n 32 2) (d.bytes.take 40) (slice d.bytes 40
    16)).isSome = true ∧ s.logRefusing = false) ∧
  (∃ (s : State) (d : Desc), s.admits d
    { opcode := 0x0501, priv := some 1, isl := .vl, params := [(24, 8), (32, 2), (40, 16)] } ∧ s.time.stepPend =
    none ∧ 2000000 < (sfld d.bytes 24 8).natAbs ∧ s.checkTag (d.n 32 2) (d.bytes.take 40) (slice d.bytes 40 16) =
    none) ∧
  (∃ (s : State) (d : Desc), s.admits d
    { opcode := 0x0501, priv := some 1, isl := .vl, params := [(24, 8), (32, 2), (40, 16)] } ∧
    s.time.stepPend.isSome = true) ∧
  (∃ (s : State) (d : Desc), s.admits d
    { opcode := 0x0502, priv := some 1, isl := .vl, params := [(24, 8), (32, 2), (40, 16)] } ∧ s.time.stepPend =
    none ∧ (s.checkTag (d.n 32 2) (d.bytes.take 40) (slice d.bytes 40 16)).isSome = true ∧ s.logRefusing = false) ∧
  (∃ (s : State) (d : Desc), s.admits d
    { opcode := 0x0502, priv := some 1, isl := .vl, params := [(24, 8), (32, 2), (40, 16)] } ∧ s.time.stepPend =
    none ∧ s.checkTag (d.n 32 2) (d.bytes.take 40) (slice d.bytes 40 16) = none) ∧
  (∃ (s : State), s.time.slewLeft = 0) ∧
  (∃ (s : State), s.time.slewLeft ≠ 0) ∧
  (∃ (s : State), s.running .vl = true ∧ monthOf s.devTime ≠ s.bil.servoMonth) ∧
  (∃ (s : State), monthOf s.devTime = s.bil.servoMonth) ∧
  (∃ (s : State), s.running .vl = true ∧ s.quality = 0) ∧
  (∃ (s : State), s.quality ≠ 0) ∧
  (∃ (s : State), s.running .vl = true ∧ s.fab.ptp.apart ≠ none ∧ s.quality ≠ 2) ∧
  (∃ (s : State), s.fab.ptp.apart = none) :=
  ⟨⟨up, cmd 0x0501 (natLE 8 1000 ++ [0xFF, 0xFF]), by decide +kernel⟩,
   ⟨timeKey, stepCmd 0x0501, by decide +kernel⟩,
   ⟨up, stepCmd 0x0501, by decide +kernel⟩,
   ⟨{ up with time := { up.time with stepPend := some (5, false) } }, stepCmd 0x0501, by decide +kernel⟩,
   ⟨timeKey, stepCmd 0x0502, by decide +kernel⟩,
   ⟨up, stepCmd 0x0502, by decide +kernel⟩,
   ⟨up, by decide +kernel⟩,
   ⟨{ up with time := { up.time with slewLeft := 5 } }, by decide +kernel⟩,
   ⟨{ up with bil := { up.bil with servoMonth := 3 } }, by decide +kernel⟩,
   ⟨{ up with bil := { up.bil with servoMonth := monthOf up.devTime } }, by decide +kernel⟩,
   ⟨up.set F.BIL_TIME_STATUS_QUALITY 0, by decide +kernel⟩,
   ⟨up.set F.BIL_TIME_STATUS_QUALITY 2, by decide +kernel⟩,
   ⟨{ up.set F.BIL_TIME_STATUS_QUALITY 1 with fab := { up.fab with ptp := { up.fab.ptp with apart := some 5 } } }, by decide +kernel⟩,
   ⟨up, by decide +kernel⟩⟩

/-- What the clauses of SessionLimits ask for is met. -/
theorem test_witness_SessionLimits :
  (∃ (s : State) (p : Fin 8), s.running .ap = true ∧ s.sess p = 1 ∧ (s.sx p).partner = true) ∧
  (∃ (s : State) (p : Fin 8), s.sess p ≠ 1 ∧ (s.sx p).adopted = false) ∧
  (∃ (s : State) (p : Fin 8), s.running .ap = true ∧ s.sess p = 2 ∧ (s.sx p).partner = true) ∧
  (∃ (s : State) (p : Fin 8), s.sess p ≠ 2) ∧
  (∃ (s : State) (p : Fin 8), s.running .ap = true ∧ s.sess p = 4 ∧ (s.sx p).partner = true) ∧
  (∃ (s : State) (p : Fin 8), s.sess p ≠ 4) ∧
  (∃ (s : State) (p : Fin 8), s.running .ap = true ∧ s.sess p = 5 ∧ isElec (s.type_ p) = true ∧ (s.sx p).partner =
    true) ∧
  (∃ (s : State) (p : Fin 8), s.sess p ≠ 5) ∧
  (∃ (s : State) (p : Fin 8), s.running .ap = true ∧ s.running .pw = true ∧ (s.sx p).waitSafe = true ∧ s.pointSafe p
    = true ∧ (s.sx p).waitEnd = false ∧ s.sess p = 6 ∧ (s.sx p).partner = true) ∧
  (∃ (s : State) (p : Fin 8), (s.sx p).waitSafe = false) ∧
  (∃ (s : State) (p : Fin 8), s.running .ap = true ∧ (s.sx p).waitSafe = true ∧ (s.sx p).qs = none ∧ s.sess p = 6 ∧
    (s.sx p).partner = true) ∧
  (∃ (s : State) (p : Fin 8), (s.sx p).waitSafe = false) ∧
  (∃ (s : State) (p : Fin 8), s.running .ap = true ∧ s.type_ p = 3 ∧ (s.sx p).waitSafe = true) ∧
  (∃ (s : State) (p : Fin 8), (s.sx p).waitSafe = false) :=
  ⟨⟨at2 1, 2, by decide +kernel⟩,
   ⟨at2 2, 2, by decide +kernel⟩,
   ⟨at2 2, 2, by decide +kernel⟩,
   ⟨at2 3, 2, by decide +kernel⟩,
   ⟨at2 4, 2, by decide +kernel⟩,
   ⟨at2 5, 2, by decide +kernel⟩,
   ⟨at2 5, 2, by decide +kernel⟩,
   ⟨at2 4, 2, by decide +kernel⟩,
   ⟨((at2 6).modSx 2 (fun x => { x with waitSafe := true })).set (F.TPT_STATE_LAST_REASON 2) 2, 2, by decide +kernel⟩,
   ⟨at2 6, 2, by decide +kernel⟩,
   ⟨(at2 6).modSx 2 (fun x => { x with waitSafe := true }), 2, by decide +kernel⟩,
   ⟨at2 6, 2, by decide +kernel⟩,
   ⟨(dc2 6).modSx 2 (fun x => { x with waitSafe := true }), 2, by decide +kernel⟩,
   ⟨dc2 6, 2, by decide +kernel⟩⟩

/-- What the clauses of SessionCommands ask for is met. -/
theorem test_witness_SessionCommands :
  (∃ (s : State) (d : Desc), s.admits d
    { opcode := 0x0101, priv := some 0, isl := .ap, point := true, params := [(24, 1), (26, 30)] } [(24, decide (30
    < d.n 24 1))] ∧ d.n 24 1 ≠ 0 ∧ s.sess d.pt = 1 ∧ s.get (F.TPT_CFG_AUTH_EN d.pt.val) = 4 ∧ s.tpt.counter.toNat +
    1 < 4294967296) ∧
  (∃ (s : State) (d : Desc), s.admits d
    { opcode := 0x0101, priv := some 0, isl := .ap, point := true, params := [(24, 1), (26, 30)] } [(24, decide (30
    < d.n 24 1))] ∧ d.n 24 1 ≠ 0 ∧ s.sess d.pt ≠ 1) ∧
  (∃ (s : State) (d : Desc), s.admits d
    { opcode := 0x0102, priv := some 0, isl := .ap, point := true, params := [(24, 1), (28, 4), (32, 4), (40, 8)] }
    [(24, decide (1 < d.n 24 1))] ∧ s.sess d.pt = 2 ∧ s.numberOk d = true ∧ (s.sx d.pt).hostAsked = true ∧ d.n 24 1
    = 1) ∧
  (∃ (s : State) (d : Desc), s.admits d
    { opcode := 0x0102, priv := some 0, isl := .ap, point := true, params := [(24, 1), (28, 4), (32, 4), (40, 8)] }
    [(24, decide (1 < d.n 24 1))] ∧ s.sess d.pt = 2 ∧ s.numberOk d = true ∧ (s.sx d.pt).hostAsked = true ∧ (s.sx
    d.pt).partner = true ∧ d.n 24 1 = 0) ∧
  (∃ (s : State) (d : Desc), s.admits d
    { opcode := 0x0102, priv := some 0, isl := .ap, point := true, params := [(24, 1), (28, 4), (32, 4), (40, 8)] }
    [(24, decide (1 < d.n 24 1))] ∧ (s.sess d.pt ≠ 2 ∨ s.numberOk d = false)) ∧
  (∃ (s : State) (d : Desc), s.admits d
    { opcode := 0x0103, priv := some 0, isl := .ap, point := true, params := [(24, 1), (28, 4)] } [(24, decide (2 <
    d.n 24 1))] ∧ s.sess d.pt = 2 ∧ s.numberOk d = true ∧ (s.sx d.pt).certWait = true ∧ d.n 24 1 = 0) ∧
  (∃ (s : State) (d : Desc), s.admits d
    { opcode := 0x0103, priv := some 0, isl := .ap, point := true, params := [(24, 1), (28, 4)] } [(24, decide (2 <
    d.n 24 1))] ∧ s.sess d.pt = 2 ∧ s.numberOk d = true ∧ (s.sx d.pt).certWait = false) ∧
  (∃ (s : State) (d : Desc), s.admits d
    { opcode := 0x0104, priv := some 0, isl := .ap, point := true, params := [(28, 4)] } ∧ s.numberOk d = true ∧ 2 ≤
    s.sess d.pt ∧ s.sess d.pt ≤ 4 ∧ (s.sx d.pt).partner = true) ∧
  (∃ (s : State) (d : Desc), s.admits d
    { opcode := 0x0104, priv := some 0, isl := .ap, point := true, params := [(28, 4)] } ∧ s.numberOk d = true ∧
    s.sess d.pt = 5) ∧
  (∃ (s : State) (d : Desc), s.admits d
    { opcode := 0x0104, priv := some 0, isl := .ap, point := true, params := [(28, 4)] } ∧ s.numberOk d = false) ∧
  (∃ (s : State) (d : Desc), s.admits d { opcode := 0x0105, priv := some 0, isl := .ap, point := true } ∧ s.sess
    d.pt = 15 ∧ (s.sx d.pt).partner = false ∧ (s.sx d.pt).recDue = false ∧ (s.sx d.pt).weldCmd = none ∧
    s.tpt.latched[d.pt] ≠ 0x12) ∧
  (∃ (s : State) (d : Desc), s.admits d { opcode := 0x0105, priv := some 0, isl := .ap, point := true } ∧ s.sess
    d.pt = 15 ∧ (s.sx d.pt).partner = false ∧ (s.sx d.pt).recDue = false ∧ (s.sx d.pt).weldCmd = none ∧
    s.tpt.latched[d.pt] = 0x12) ∧
  (∃ (s : State) (d : Desc), s.admits d { opcode := 0x0105, priv := some 0, isl := .ap, point := true } ∧ (s.sess
    d.pt ≠ 15 ∨ (s.sx d.pt).partner = true)) ∧
  (∃ (s : State) (p : Fin 8) (passed : Bool) (d : Desc), s.running .ap = true ∧ (s.sx p).weldCmd = some d ∧ passed =
    true ∧ 5 ≤ (s.sx p).weldQ) ∧
  (∃ (s : State) (p : Fin 8) (passed : Bool) (d : Desc), s.running .ap = true ∧ (s.sx p).weldCmd = some d ∧ passed =
    false) ∧
  (∃ (s : State) (p : Fin 8) (passed : Bool), (s.sx p).weldCmd = none) ∧
  (∃ (s : State) (d : Desc), s.admits d
    { opcode := 0x0106, priv := some 0, isl := .ap, point := true, params := [(24, 1)] } [(24, decide (1 < d.n 24
    1))] ∧ restState (s.sess d.pt) = true) ∧
  (∃ (s : State) (d : Desc), s.admits d
    { opcode := 0x0106, priv := some 0, isl := .ap, point := true, params := [(24, 1)] } [(24, decide (1 < d.n 24
    1))] ∧ restState (s.sess d.pt) = false) ∧
  (∃ (s : State) (d : Desc), s.admits d
    { opcode := 0x0107, priv := some 0, isl := .ap, point := true, params := [(24, 2)] } [(24, d.n 24 2 != 0xFFFF &&
    (decide (d.n 24 2 < 60) || decide (630 < d.n 24 2)))]) ∧
  (∃ (s : State) (d : Desc), s.cmdFail d
    { opcode := 0x0107, priv := some 0, isl := .ap, point := true, params := [(24, 2)] } [0] [(24, d.n 24 2 !=
    0xFFFF && (decide (d.n 24 2 < 60) || decide (630 < d.n 24 2)))] = some (0x0002, 24)) ∧
  (∃ (s : State) (d : Desc), s.admits d
    { opcode := 0x0109, priv := some 2, isl := .ap, point := true, params := [(24, 1)] } [(24, decide (6 < d.n 24
    1))] ∧ s.sealOpen = true ∧ s.sess d.pt = 0 ∧ 0 < s.get F.KEY_CHG_LEFT_TYPE ∧ s.logRefusing = false ∧
    s.isl.supply = .normal ∧ s.key.badFuses = 0 ∧ s.met.typePend[d.pt] = none ∧ d.n 24 1 ≠ s.type_ d.pt) ∧
  (∃ (s : State) (d : Desc), s.admits d
    { opcode := 0x0109, priv := some 2, isl := .ap, point := true, params := [(24, 1)] } [(24, decide (6 < d.n 24
    1))] ∧ s.sealOpen = true ∧ s.sess d.pt = 0 ∧ 0 < s.get F.KEY_CHG_LEFT_TYPE ∧ s.logRefusing = false ∧
    s.met.typePend[d.pt] = none ∧ d.n 24 1 = s.type_ d.pt) ∧
  (∃ (s : State) (d : Desc), s.admits d
    { opcode := 0x0109, priv := some 2, isl := .ap, point := true, params := [(24, 1)] } [(24, decide (6 < d.n 24
    1))] ∧ s.sealOpen = false) ∧
  (∃ (s : State) (d : Desc), s.admits d
    { opcode := 0x010A, priv := some 1, isl := .ap, params := [(24, 2)], staged := .len 65536 65536 false, load := true }) :=
  ⟨⟨at2 1, cmd2 0x0101 [2, 0, 0x41, 0x42], by decide +kernel⟩,
   ⟨at2 2, cmd2 0x0101 [2, 0, 0x41, 0x42], by decide +kernel⟩,
   ⟨(at2 2).modSx 2 (fun x => { x with hostAsked := true }), cmd2 0x0102 [1], by decide +kernel⟩,
   ⟨(at2 2).modSx 2 (fun x => { x with hostAsked := true }), cmd2 0x0102 [0], by decide +kernel⟩,
   ⟨at2 1, cmd2 0x0102 [1], by decide +kernel⟩,
   ⟨(at2 2).modSx 2 (fun x => { x with certWait := true }), cmd2 0x0103 [0], by decide +kernel⟩,
   ⟨at2 2, cmd2 0x0103 [0], by decide +kernel⟩,
   ⟨at2 2, cmd2 0x0104 [], by decide +kernel⟩,
   ⟨at2 5, cmd2 0x0104 [], by decide +kernel⟩,
   ⟨at2 5, cmd2 0x0104 [0, 0, 0, 0, 9], by decide +kernel⟩,
   ⟨(at2 15).modSx 2 (fun x => { x with partner := false }), cmd2 0x0105 [], by decide +kernel⟩,
   ⟨State.latchWeld ((at2 15).modSx 2 (fun x => { x with partner := false })) 2 0x12, cmd2 0x0105 [], by decide +kernel⟩,
   ⟨at2 15, cmd2 0x0105 [], by decide +kernel⟩,
   ⟨(at2 15).modSx 2 (fun x => { x with weldCmd := some (cmd2 0x0105 []), weldQ := 5 }), 2, true, cmd2 0x0105 [], by decide +kernel⟩,
   ⟨(at2 15).modSx 2 (fun x => { x with weldCmd := some (cmd2 0x0105 []) }), 2, false, cmd2 0x0105 [], by decide +kernel⟩,
   ⟨at2 15, 2, true, by decide +kernel⟩,
   ⟨at2 0, cmd2 0x0106 [1], by decide +kernel⟩,
   ⟨at2 5, cmd2 0x0106 [1], by decide +kernel⟩,
   ⟨at2 0, cmd2 0x0107 [100, 0], by decide +kernel⟩,
   ⟨at2 0, cmd2 0x0107 [59, 0], by decide +kernel⟩,
   ⟨unsealed, cmd2 0x0109 [1], by decide +kernel⟩,
   ⟨unsealed, cmd2 0x0109 [0], by decide +kernel⟩,
   ⟨up, cmd2 0x0109 [1], by decide +kernel⟩,
   ⟨up, cmdAt 0x010A [3, 0] 0x100000 65536, by decide +kernel⟩⟩

/-- What the clauses of PilotEvents ask for is met. -/
theorem test_witness_PilotEvents :
  (∃ (s : State) (p : Fin 8) (high low : Int) (ohms : Nat), s.running .pt = true ∧ s.running .ap = true ∧ isElec
    (s.type_ p) = true ∧ s.flag (F.TPT_CFG_PP_MODE p.val) = true ∧ s.pilotF p = false ∧ s.get (F.PTN_CP_DUTY p.val)
    = 0 ∧ 80 ≤ high ∧ high ≤ 100 ∧ (s.sx p).bcChanges = [] ∧ (s.sx p).partner = false ∧ s.mayConnect p = true) ∧
  (∃ (s : State) (p : Fin 8) (high low : Int) (ohms : Nat), s.running .pt = false) ∧
  (∃ (s : State) (p : Fin 8) (offered : BitVec 3), s.running .pt = true ∧ s.running .ap = true ∧ isElec (s.type_ p)
    = true ∧ s.digitalOn p = true ∧ s.sess p = 1 ∧ s.get (F.TPT_STATE_PROTO p.val) ≠ 1 ∧ s.chooseProto p offered ≠
    0) ∧
  (∃ (s : State) (p : Fin 8) (name : List Byte) (cert : Bool), s.running .pt = true ∧ s.running .ap = true ∧ isElec
    (s.type_ p) = true ∧ s.digitalOn p = true ∧ s.sess p = 1 ∧ 2 ≤ s.get (F.TPT_STATE_PROTO p.val) ∧ name ≠ [] ∧
    s.get (F.TPT_CFG_AUTH_EN p.val) = 4) ∧
  (∃ (s : State) (p : Fin 8), s.running .pt = true ∧ s.running .ap = true ∧ isElec (s.type_ p) = true ∧ s.digitalOn
    p = true ∧ s.sess p = 5) ∧
  (∃ (s : State) (p : Fin 8), s.running .pt = true ∧ s.running .ap = true ∧ isElec (s.type_ p) = true ∧ s.digitalOn
    p = true ∧ s.sess p = 5 ∧ (s.sx p).partner = true) ∧
  (∃ (s : State) (p : Fin 8) (m : VehMsg), s.sess p = 0) ∧
  (∃ (s : State) (p : Fin 8), s.running .pt = true ∧ s.running .ap = true ∧ isElec (s.type_ p) = true ∧ s.digitalOn
    p = true ∧ s.get (F.TPT_STATE_PROTO p.val) = 0 ∧ s.sess p = 1 ∧ isAc (s.type_ p) = true ∧ (s.get
    (F.TPT_CFG_PROTO_EN p.val)).testBit 0 = true) ∧
  (∃ (s : State) (p : Fin 8), s.running .pt = true ∧ (s.sx p).fallbackF = true) ∧
  (∃ (s : State) (p : Fin 8), (s.sx p).fallbackF = false) ∧
  (∃ (s : State) (p : Fin 8), s.running .pt = true ∧ s.running .ap = true ∧ isElec (s.type_ p) = true ∧ 2 ≤ s.get
    (F.TPT_STATE_PROTO p.val) ∧ 1 ≤ s.sess p ∧ s.sess p ≤ 5 ∧ (s.sx p).partner = true) ∧
  (∃ (s : State) (p : Fin 8), s.get (F.TPT_STATE_PROTO p.val) < 2) :=
  ⟨⟨ac.set (F.TPT_CFG_PP_MODE 2) 1, 2, 90, -120, 5000, by decide +kernel⟩,
   ⟨up.setIsl .pt 2, 2, 90, -120, 5000, by decide +kernel⟩,
   ⟨digital2 1, 2, 7, by decide +kernel⟩,
   ⟨(digital2 1).set (F.TPT_STATE_PROTO 2) 3, 2, [0x41], true, by decide +kernel⟩,
   ⟨digital2 5, 2, by decide +kernel⟩,
   ⟨digital2 5, 2, by decide +kernel⟩,
   ⟨digital2 0, 2, .ready, by decide +kernel⟩,
   ⟨digital2 1, 2, by decide +kernel⟩,
   ⟨(digital2 1).modSx 2 (fun x => { x with fallbackF := true }), 2, by decide +kernel⟩,
   ⟨digital2 1, 2, by decide +kernel⟩,
   ⟨(digital2 5).set (F.TPT_STATE_PROTO 2) 3, 2, by decide +kernel⟩,
   ⟨digital2 5, 2, by decide +kernel⟩⟩

/-- What the clauses of CouplingEvents ask for is met. -/
theorem test_witness_CouplingEvents :
  (∃ (s : State) (p : Fin 8) (loop : Nat), s.running .pt = true ∧ s.running .ap = true ∧ isFluid (s.type_ p) = true
    ∧ 80 ≤ loop ∧ loop ≤ 120 ∧ 1 ≤ s.sess p) ∧
  (∃ (s : State) (p : Fin 8) (loop : Nat), s.running .pt = true ∧ s.running .ap = true ∧ isFluid (s.type_ p) = true
    ∧ (loop < 80 ∨ 120 < loop) ∧ s.sess p = 1) ∧
  (∃ (s : State) (p : Fin 8), s.running .pt = true ∧ s.running .ap = true ∧ isFluid (s.type_ p) = true ∧ (s.sx
    p).adopted = false ∧ s.sess p = 1 ∧ s.minGen p < (s.sx p).trying ∧ 1 < (s.sx p).trying) ∧
  (∃ (s : State) (p : Fin 8), s.running .pt = true ∧ s.running .ap = true ∧ isFluid (s.type_ p) = true ∧ (s.sx
    p).adopted = false ∧ s.sess p = 1 ∧ (s.sx p).trying ≠ 0 ∧ (s.sx p).trying ≤ s.minGen p ∧ (s.sx p).partner =
    true) ∧
  (∃ (s : State) (p : Fin 8) (name : List Byte), s.running .pt = true ∧ s.running .ap = true ∧ isFluid (s.type_ p) =
    true ∧ s.sess p = 1 ∧ (s.sx p).trying = 2 ∧ 1 ≤ name.length ∧ name.length ≤ 32 ∧ s.get (F.TPT_CFG_AUTH_EN p.val)
    = 4) ∧
  (∃ (s : State) (p : Fin 8) (frame : List Byte), s.sess p ≠ 1) ∧
  (∃ (s : State) (p : Fin 8) (seq : Dword) (ready stop : Bool), s.running .pt = true ∧ s.running .ap = true ∧
    isFluid (s.type_ p) = true ∧ s.get (F.PTN_COUP_GEN p.val) = 3 ∧ 1 ≤ s.sess p ∧ s.sess p ≤ 5 ∧ (s.sx p).partner =
    true) ∧
  (∃ (s : State) (p : Fin 8) (seq : Dword), s.running .pt = true ∧ s.running .ap = true ∧ isFluid (s.type_ p) = true
    ∧ s.get (F.PTN_COUP_GEN p.val) = 3 ∧ s.sess p = 5 ∧ (s.sx p).coupSeq.toNat ≤ seq.toNat) ∧
  (∃ (s : State) (p : Fin 8), s.running .pt = true ∧ s.running .ap = true ∧ isFluid (s.type_ p) = true ∧ 2 ≤ s.get
    (F.PTN_COUP_GEN p.val) ∧ 1 ≤ s.sess p ∧ s.sess p ≤ 5 ∧ (s.sx p).partner = true) ∧
  (∃ (s : State) (p : Fin 8), s.get (F.PTN_COUP_GEN p.val) < 2) :=
  ⟨⟨fluid2 1, 2, 100, by decide +kernel⟩,
   ⟨fluid2 1, 2, 20, by decide +kernel⟩,
   ⟨(fluid2 1).modSx 2 (fun x => { x with trying := 3 }) |>.set (F.TPT_CFG_MIN_GEN 2) 1, 2, by decide +kernel⟩,
   ⟨(fluid2 1).modSx 2 (fun x => { x with trying := 3 }) |>.set (F.TPT_CFG_MIN_GEN 2) 3, 2, by decide +kernel⟩,
   ⟨(fluid2 1).modSx 2 (fun x => { x with trying := 2 }), 2, [0x41, 0x42], by decide +kernel⟩,
   ⟨fluid2 2, 2, [1], by decide +kernel⟩,
   ⟨(fluid2 5).set (F.PTN_COUP_GEN 2) 3, 2, 7, true, false, by decide +kernel⟩,
   ⟨(fluid2 5).set (F.PTN_COUP_GEN 2) 3, 2, 7, by decide +kernel⟩,
   ⟨(fluid2 5).set (F.PTN_COUP_GEN 2) 2, 2, by decide +kernel⟩,
   ⟨fluid2 5, 2, by decide +kernel⟩⟩

/-- What the clauses of StackEvents ask for is met. -/
theorem test_witness_StackEvents :
  (∃ (s : State) (p : Fin 8), s.running .pt = true ∧ s.running .ap = true ∧ s.type_ p = 3 ∧ s.get (F.TPT_LINK_NODE
    p.val) ≠ 0 ∧ s.flag (F.PTN_CAN_CFG_EN (s.get (F.TPT_LINK_CAN p.val))) = true) ∧
  (∃ (s : State) (p : Fin 8), s.type_ p ≠ 3) ∧
  (∃ (s : State) (port : Fin 2) (ident : BitVec 11) (frame : List Byte) (p : Fin 8), s.running .pt = true ∧
    s.running .ap = true ∧ s.flag (F.PTN_CAN_CFG_EN port.val) = true ∧ (points.filter (fun p => s.type_ p == 3 &&
    s.get (F.TPT_LINK_CAN p.val) == port.val && s.get (F.TPT_LINK_NODE p.val) != 0 && 0x280 + s.get (F.TPT_LINK_NODE
    p.val) == ident.toNat) = [p]) ∧ frame.length = 8 ∧ nth frame 0 0 = (s.sx p).stackSeq ∧ fld frame 6 2 = 0 ∧ (s.sx
    p).waitSafe = false) ∧
  (∃ (s : State) (port : Fin 2) (ident : BitVec 11) (frame : List Byte) (p : Fin 8), s.running .pt = true ∧
    s.running .ap = true ∧ s.flag (F.PTN_CAN_CFG_EN port.val) = true ∧ (points.filter (fun p => s.type_ p == 3 &&
    s.get (F.TPT_LINK_CAN p.val) == port.val && s.get (F.TPT_LINK_NODE p.val) != 0 && 0x280 + s.get (F.TPT_LINK_NODE
    p.val) == ident.toNat) = [p]) ∧ frame.length = 8 ∧ nth frame 0 0 = (s.sx p).stackSeq ∧ fld frame 6 2 ≠ 0 ∧
    s.sess p = 5 ∧ (s.sx p).partner = true) ∧
  (∃ (s : State) (port : Fin 2) (ident : BitVec 11) (frame : List Byte), s.flag (F.PTN_CAN_CFG_EN port.val) = false) ∧
  (∃ (s : State) (p : Fin 8), s.running .pt = true ∧ s.running .ap = true ∧ s.type_ p = 3 ∧ 3 ≤ s.sess p ∧ s.sess p
    ≤ 5 ∧ (s.sx p).partner = true) ∧
  (∃ (s : State) (p : Fin 8), s.type_ p ≠ 3) ∧
  (∃ (s : State) (p : Fin 8), s.running .pt = true ∧ s.running .ap = true ∧ s.type_ p = 3 ∧ s.sess p = 5 ∧ 100 ≤
    (s.sx p).stackMis ∧ (s.sx p).partner = true) ∧
  (∃ (s : State) (p : Fin 8), (s.sx p).stackMis < 100) :=
  ⟨⟨((dc2 5).set (F.TPT_LINK_NODE 2) 4).set (F.PTN_CAN_CFG_EN 0) 1, 2, by decide +kernel⟩,
   ⟨at2 5, 2, by decide +kernel⟩,
   ⟨((dc2 5).set (F.TPT_LINK_NODE 2) 4).set (F.PTN_CAN_CFG_EN 0) 1, 0, 0x284, zeros 8, 2, by decide +kernel⟩,
   ⟨((dc2 5).set (F.TPT_LINK_NODE 2) 4).set (F.PTN_CAN_CFG_EN 0) 1, 0, 0x284, zeros 6 ++ [1, 0], 2, by decide +kernel⟩,
   ⟨(dc2 5).set (F.PTN_CAN_CFG_EN 0) 0, 0, 5, [1], by decide +kernel⟩,
   ⟨dc2 3, 2, by decide +kernel⟩,
   ⟨at2 5, 2, by decide +kernel⟩,
   ⟨(dc2 5).modSx 2 (fun x => { x with stackMis := 100 }), 2, by decide +kernel⟩,
   ⟨dc2 5, 2, by decide +kernel⟩⟩

/-- What the clauses of CheckEvents ask for is met. -/
theorem test_witness_CheckEvents :
  (∃ (s : State) (p : Fin 8), s.running .ap = true ∧ s.checking p = true ∧ s.vot.holds[p] = none ∧ checkRows.all
    (s.rowMet p) = true ∧ s.partnerReady p = false) ∧
  (∃ (s : State) (p : Fin 8), checkRows.all (s.rowMet p) = false) ∧
  (∃ (s : State) (p : Fin 8) (k : CheckKind), s.running .ap = true ∧ s.checking p = true ∧ s.rowMet p k = false ∧
    (s.sx p).partner = true) ∧
  (∃ (s : State) (p : Fin 8) (k : CheckKind), s.rowMet p k = true ∧ s.vot.holds[p] = none) ∧
  (∃ (s : State) (p : Fin 8), s.running .ap = true ∧ (s.sx p).rcmTesting = true ∧ (s.sx p).rcmSeen = false ∧ s.sess
    p = 3 ∧ (s.sx p).partner = true) ∧
  (∃ (s : State) (p : Fin 8), s.running .ap = true ∧ (s.sx p).rcmTesting = true ∧ (s.sx p).rcmSeen = true) ∧
  (∃ (s : State) (p : Fin 8), (s.sx p).rcmTesting = false) ∧
  (∃ (s : State) (c : Fin 2) (kohm : Nat) (p : Fin 8), s.running .ap = true ∧ s.flag (F.TPT_IM_BUSY c.val) = true ∧
    s.get (F.TPT_IM_OWNER c.val) = p.val ∧ s.sess p = 5 ∧ kohm < s.get (F.TPT_LIMIT_R_FAULT p.val) ∧ 1 ≤ (s.sx
    p).isoBad ∧ (s.sx p).partner = true) ∧
  (∃ (s : State) (c : Fin 2) (kohm : Nat), s.flag (F.TPT_IM_BUSY c.val) = false) ∧
  (∃ (s : State) (p : Fin 8), s.running .ap = true ∧ s.checking p = true ∧ (s.sx p).leak = .filling) ∧
  (∃ (s : State) (p : Fin 8), (s.sx p).leak ≠ .filling) ∧
  (∃ (s : State) (p : Fin 8), s.running .ap = true ∧ s.checking p = true ∧ (s.sx p).leak = .settling) ∧
  (∃ (s : State) (p : Fin 8), (s.sx p).leak ≠ .settling) ∧
  (∃ (s : State) (p : Fin 8), s.running .ap = true ∧ s.checking p = true ∧ (s.sx p).leak = .testing ∧ (s.sx
    p).leakP0 - s.linePressure p ≤ (s.get (F.TPT_LEAK_DECAY_MAX p.val) : Int)) ∧
  (∃ (s : State) (p : Fin 8), s.running .ap = true ∧ s.checking p = true ∧ (s.sx p).leak = .testing ∧ (s.get
    (F.TPT_LEAK_DECAY_MAX p.val) : Int) < (s.sx p).leakP0 - s.linePressure p ∧ (s.sx p).partner = true) ∧
  (∃ (s : State) (p : Fin 8), (s.sx p).leak ≠ .testing) :=
  ⟨⟨((at2 3).setReg (R.MET_TPCOND 2) 128).modSx 2 (fun x => { x with weldQ := 5 }), 2, by decide +kernel⟩,
   ⟨at2 3, 2, by decide +kernel⟩,
   ⟨at2 3, 2, .startTest, by decide +kernel⟩,
   ⟨at2 3, 2, .residual, by decide +kernel⟩,
   ⟨(at2 3).modSx 2 (fun x => { x with rcmTesting := true }), 2, by decide +kernel⟩,
   ⟨(at2 3).modSx 2 (fun x => { x with rcmTesting := true, rcmSeen := true }), 2, by decide +kernel⟩,
   ⟨at2 3, 2, by decide +kernel⟩,
   ⟨(((dc2 5).set (F.TPT_IM_BUSY 0) 1).set (F.TPT_IM_OWNER 0) 2).modSx 2 (fun x => { x with isoBad := 1 }), 0, 5, 2, by decide +kernel⟩,
   ⟨dc2 5, 0, 5, by decide +kernel⟩,
   ⟨(fluid2 3).modSx 2 (fun x => { x with leak := .filling }), 2, by decide +kernel⟩,
   ⟨fluid2 3, 2, by decide +kernel⟩,
   ⟨(fluid2 3).modSx 2 (fun x => { x with leak := .settling }), 2, by decide +kernel⟩,
   ⟨fluid2 3, 2, by decide +kernel⟩,
   ⟨(fluid2 3).modSx 2 (fun x => { x with leak := .testing }), 2, by decide +kernel⟩,
   ⟨(fluid2 3).modSx 2 (fun x => { x with leak := .testing, leakP0 := 70000 }), 2, by decide +kernel⟩,
   ⟨fluid2 3, 2, by decide +kernel⟩⟩

/-- What the clauses of LoadSwitchFaults ask for is met. -/
theorem test_witness_LoadSwitchFaults :
  (∃ (s : State) (n : Fin 16), s.lsOn n = true) ∧
  (∃ (s : State) (n : Fin 16), s.lsOn n = true) ∧
  (∃ (s : State) (n : Fin 16), s.lsOn n = true) ∧
  (∃ (s : State) (n : Fin 16), s.get (F.LSW_CH_STAT_PAUSE n.val) = 1) ∧
  (∃ (s : State) (n : Fin 16), s.lsOn n = true) ∧
  (∃ (s : State) (n : Fin 16), s.openWatched n = true) ∧
  (∃ (s : State) (n : Fin 16), s.openWatched n = true) :=
  ⟨⟨lit, 3, by decide +kernel⟩,
   ⟨lit, 3, by decide +kernel⟩,
   ⟨lit, 3, by decide +kernel⟩,
   ⟨up.set (F.LSW_CH_STAT_PAUSE 3) 1, 3, by decide +kernel⟩,
   ⟨lit, 3, by decide +kernel⟩,
   ⟨watched, 3, by decide +kernel⟩,
   ⟨watched, 3, by decide +kernel⟩⟩

/-- What the clauses of LoadSwitchSupply ask for is met. -/
theorem test_witness_LoadSwitchSupply :
  (∃ (s : State) (mean inst : Nat), (((if s.get F.MG_PART_ORDER = 0x54 then 1200 else 2400) < mean ∨ (if s.get
    F.MG_PART_ORDER = 0x54 then 4000 else 6000) < inst))) ∧
  (∃ (s : State) (mean : Nat), s.lsw.shedCur = true ∧ s.lsw.shedTemp = false ∧ (if s.get F.MG_PART_ORDER = 0x54 then
    1200 else 2400) ≤ mean) ∧
  (∃ (s : State) (mean : Nat), mean < s.returnLimit ∧ s.lsw.shedCur = false) ∧
  (∃ (s : State) (n : Fin 16), s.lsw.shedCur = false ∧ s.lsw.shedTemp = false ∧ s.nextReturn = some n) ∧
  (∃ (s : State) (degC : Int), 140 ≤ degC ∧ degC < 150 ∧ s.arrayTemp < 140 ∧ s.lsw.shedTemp = false) ∧
  (∃ (s : State) (g : Fin 8), (∀ n : Fin 16, s.get (F.LSW_CH_CFG_PWM_EN n.val) = 0)) ∧
  (∃ (s : State) (v : Nat), s.get F.LSW_STATUS_UV_OFF = 0 ∧ 450 ≤ v ∧ v < 550) ∧
  (∃ (s : State) (v : Nat), v < 450 ∧ s.get F.LSW_STATUS_UV_OFF = 0 ∧ s.rail = 0) ∧
  (∃ (s : State) (v : Nat), 600 ≤ v) ∧
  (∃ (s : State) (n : Fin 16), s.running .pw = true ∧ s.get (F.LSW_CH_STAT_HELD n.val) = 1 ∧ s.pointOwned n = false) ∧
  (∃ (s : State) (l : List (Fin 16)), (lsChans.filter (fun n => s.leader n == n && (s.members n).any (fun m =>
    s.flag (F.LSW_CH_STAT_HELD m.val))) = l) ∧ l ≠ []) :=
  ⟨⟨up, 2401, 0, by decide +kernel⟩,
   ⟨{ up with lsw := { up.lsw with shedCur := true } }, 2400, by decide +kernel⟩,
   ⟨up, 5, by decide +kernel⟩,
   ⟨{ up with lsw := { up.lsw with returning := true, shedOrder := [(3, false)] } }, 3, by decide +kernel⟩,
   ⟨up, 145, by decide +kernel⟩,
   ⟨up, 2, by decide +kernel⟩,
   ⟨up, 500, by decide +kernel⟩,
   ⟨up, 100, by decide +kernel⟩,
   ⟨up, 700, by decide +kernel⟩,
   ⟨up.set (F.LSW_CH_STAT_HELD 3) 1, 3, by decide +kernel⟩,
   ⟨up.set (F.LSW_CH_STAT_HELD 3) 1, [3], by decide +kernel⟩⟩

/-- What the clauses of LoadSwitchCommands ask for is met. -/
theorem test_witness_LoadSwitchCommands :
  (∃ (s : State) (v : Word) (n : Fin 16), s.running .hi = true ∧ s.running .pw = true ∧ v.toNat.testBit n.val ≠
    s.commanded n ∧ s.pointOwned n = true) ∧
  (∃ (s : State) (v : Word), s.running .hi = true ∧ s.running .pw = true ∧ (∀ n : Fin 16, v.toNat.testBit n.val ≠
    s.commanded n → s.hostMay n = true)) ∧
  (∃ (s : State) (v : Word), s.running .hi = true ∧ s.running .pw = true ∧ (∀ n : Fin 16, v.toNat.testBit n.val =
    true → s.commanded n = false)) ∧
  (∃ (s : State) (v : Word) (n : Fin 16), s.running .hi = true ∧ s.running .pw = true ∧ v.toNat.testBit n.val = true
    ∧ s.commanded n = true) ∧
  (∃ (s : State), s.running .hi = true ∧ s.running .pw = true) ∧
  (∃ (s : State) (d : Desc), s.admits d
    { opcode := 0x0301, priv := some 0, isl := .pw, params := [(24, 2), (26, 2)] } ∧ (∀ n : Fin 16, (d.n 24
    2).testBit n.val = true → s.hostMay n = true)) ∧
  (∃ (s : State) (d : Desc), s.admits d { opcode := 0x0302, priv := some 0, isl := .pw, params := [(24, 2)] } ∧ (∀ n
    : Fin 16, (d.n 24 2).testBit n.val = true → s.commanded n = false)) :=
  ⟨⟨owned, 8, 3, by decide +kernel⟩,
   ⟨up, 8, by decide +kernel⟩,
   ⟨up, 8, by decide +kernel⟩,
   ⟨lit, 8, 3, by decide +kernel⟩,
   ⟨up, by decide +kernel⟩,
   ⟨up, cmd 0x0301 [8, 0, 8], by decide +kernel⟩,
   ⟨up, cmd 0x0302 [8], by decide +kernel⟩⟩

/-- What the clauses of SafetyChannels ask for is met. -/
theorem test_witness_SafetyChannels :
  (∃ (s : State) (i : Fin 12) (level : Bool) (tA tB : Nat), s.running .sf = true) ∧
  (∃ (s : State), s.running .sf = true ∧ s.saf.chA.mode = .run ∧ s.saf.chB.mode = .safeFault) ∧
  (∃ (s : State) (n : Fin 4), (s.get F.SAF_OUT_OUT).testBit (4 * n.val) ≠ (s.get F.SAF_OUT_OUT).testBit (4 * n.val +
    1)) ∧
  (∃ (s : State) (out : Option (Fin 4)), s.levels false ≠ s.levels true) ∧
  (∃ (s : State) (out : Fin 4) (swB : Bool), s.saf.chB.mode = .run ∧ s.swOn out swB = true ∧
    s.saf.testB.toNat.testBit out.val = swB) ∧
  (∃ (s : State) (out : Fin 4) (swB on : Bool), s.swOn out swB ≠ on) ∧
  (∃ (s : State) (f : Fin 6), s.running .sf = true ∧ s.fnActive f = true ∧ s.saf.chA.mode = .run ∧ s.saf.chB.mode =
    .safeFault ∧ (s.pairs false f).contains 2 = true ∧ s.saf.chA.fns[f] ≠ .discrepancy) ∧
  (∃ (s : State) (f : Fin 6), s.running .sf = true ∧ s.fnActive f = true ∧ s.saf.chA.fns[f] = .discrepancy ∧
    (s.pairs false f).all (· == 0) = true ∧ s.saf.chB.fns[f] ≠ .discrepancy) ∧
  (∃ (s : State) (f : Fin 6), s.running .sf = true ∧ s.fnType f = 3 ∧ s.saf.chA.mode = .run ∧
    s.saf.chA.hands[f].first.isSome = true) ∧
  (∃ (s : State), s.running .sf = true ∧ s.saf.chA.mode = .startTests) ∧
  (∃ (s : State), s.running .sf = true ∧ s.saf.chA.mode = .startTests ∧ s.safConfigured = false) ∧
  (∃ (s : State), s.running .sf = true) :=
  ⟨⟨up, 3, true, 0, 0, by decide +kernel⟩,
   ⟨{ up with saf := { up.saf with chA := { up.saf.chA with mode := .run }, chB := { up.saf.chB with mode := .safeFault } } }, by decide +kernel⟩,
   ⟨up.set F.SAF_OUT_OUT 0x10, 1, by decide +kernel⟩,
   ⟨up.setLevel false 3 true, none, by decide +kernel⟩,
   ⟨tested, 1, false, by decide +kernel⟩,
   ⟨up, 1, false, true, by decide +kernel⟩,
   ⟨apart, 0, by decide +kernel⟩,
   ⟨discrep, 0, by decide +kernel⟩,
   ⟨hands, 0, by decide +kernel⟩,
   ⟨{ up with saf := { up.saf with chA := { up.saf.chA with mode := .startTests } } }, by decide +kernel⟩,
   ⟨{ up with saf := { up.saf with chA := { up.saf.chA with mode := .startTests } } }, by decide +kernel⟩,
   ⟨up, by decide +kernel⟩⟩

/-- What the clauses of SafetyCommands ask for is met. -/
theorem test_witness_SafetyCommands :
  (∃ (s : State) (v : Word), s.running .hi = true ∧ s.running .sf = true ∧ bitsOf v.toNat 31 8 = 0xA5C300) ∧
  (∃ (s : State) (v : Word), s.running .hi = true ∧ s.running .sf = true ∧ (bitsOf v.toNat 31 16 ≠ 0xA5C3 ∨ bitsOf
    v.toNat 15 9 ≠ 0)) ∧
  (∃ (s : State) (v : Word), s.running .hi = true ∧ s.running .sf = true ∧ v = 0xA5C30100 ∧ s.refFault = false) ∧
  (∃ (s : State) (d : Desc), s.admits d
    { opcode := 0x0401, priv := some 1, isl := .sf, staged := .len 116 116 false, load := true } ∧ s.safBad
    (s.staged d) = none) ∧
  (∃ (s : State) (d : Desc) (b : List Byte), s.admits d
    { opcode := 0x0402, priv := some 1, isl := .sf, params := [(24, 4)] } ∧ s.saf.staged = some b ∧ fld b 112 4 =
    d.n 24 4 ∧ s.refFault = false) ∧
  (∃ (s : State) (d : Desc) (b : List Byte), s.admits d
    { opcode := 0x0402, priv := some 1, isl := .sf, params := [(24, 4)] } ∧ s.saf.staged = some b ∧ fld b 112 4 ≠
    d.n 24 4) :=
  ⟨⟨up, 0xA5C30001, by decide +kernel⟩,
   ⟨up, 1, by decide +kernel⟩,
   ⟨up, 0xA5C30100, by decide +kernel⟩,
   ⟨safStaged, cmdAt 0x0401 [] 0x100000 116, by decide +kernel⟩,
   ⟨{ up with saf := { up.saf with staged := some (zeros 116) } }, cmd 0x0402 [], zeros 116, by decide +kernel⟩,
   ⟨{ up with saf := { up.saf with staged := some (zeros 116) } }, cmd 0x0402 [1], zeros 116, by decide +kernel⟩⟩

/-- What the clauses of FabricLinks ask for is met. -/
theorem test_witness_FabricLinks :
  (∃ (s : State) (k : Fin 4), s.running .cm = true ∧ s.flag (F.FAB_PORT_CFG_EN k.val) = true) ∧
  (∃ (s : State) (k : Fin 4), s.flag (F.FAB_PORT_CFG_EN k.val) = false) ∧
  (∃ (s : State) (k : Fin 4), s.running .cm = true ∧ s.get (F.FAB_PORT_STATUS_UP k.val) = 1) ∧
  (∃ (s : State) (k : Fin 4), s.running .cm = true ∧ s.get (F.FAB_PORT_STATUS_UP k.val) = 0) ∧
  (∃ (s : State) (k : Fin 4), s.running .cm = true ∧ s.flag (F.FAB_PORT_CFG_EN k.val) = true ∧ s.fab.ports[k].phy =
    true) ∧
  (∃ (s : State) (k : Fin 4), s.fab.ports[k].phy = false) ∧
  (∃ (s : State) (k : Fin 4) (frame : List Byte) (f : RxFrame) (u : State), s.running .cm = true ∧ ((State.modNb
    (s.set (F.FAB_PORT_STATUS_NEIGH k.val) (fld frame 20 2)) (.fp k) (fun x =>
    { x with joined := (fld (frame.drop 34) 11 1).testBit 0 })).rxFrame (Fin.ofNat 5 k.val) frame [0x01] = (some f,
    u))) ∧
  (∃ (s : State) (k : Fin 4), s.running .cm = true ∧ s.get (F.FAB_PORT_STATUS_UP k.val) = 1) ∧
  (∃ (s : State) (k : Fin 4), s.get (F.FAB_PORT_STATUS_UP k.val) = 0) ∧
  (∃ (s : State) (k : Fin 4) (bad fill c : Nat), s.running .cm = true ∧ c = min 255 (s.get (F.FAB_PORT_CFG_BASE
    k.val) + min 100 bad + 100 * fill / 8192) ∧ s.get (F.FAB_PORT_STATUS_UP k.val) = 1 ∧ s.get
    (F.FAB_PORT_STATUS_SUPPR k.val) = 0 ∧ s.fab.ports[k].nb.costAt = none ∧ 8 ≤ ((c : Int) - (s.get
    (F.FAB_PORT_STATUS_COST k.val) : Int)).natAbs) ∧
  (∃ (s : State) (k : Fin 4) (bad fill : Nat), s.get (F.FAB_PORT_STATUS_UP k.val) = 0) ∧
  (∃ (s : State) (port : Fin 5) (j : Fin 32), s.running .cm = true ∧ s.flag (linkSupprF (linkNamed port j)) = true ∧
    s.flag (linkUpF (linkNamed port j)) = false) ∧
  (∃ (s : State) (port : Fin 5) (j : Fin 32), s.flag (linkSupprF (linkNamed port j)) = false) ∧
  (∃ (s : State) (port : Fin 5) (j : Fin 32), s.running .cm = true ∧ s.flag (linkQuarF (linkNamed port j)) = true) ∧
  (∃ (s : State) (port : Fin 5) (j : Fin 32), s.flag (linkQuarF (linkNamed port j)) = false) ∧
  (∃ (s : State) (d : Desc), s.admits d { opcode := 0x0904, priv := some 1, isl := .cm, params := [(24, 1)] } [(24,
    decide (3 < d.n 24 1))]) ∧
  (∃ (s : State) (d : Desc), s.admits d { opcode := 0x0906, priv := some 1, isl := .cm }) :=
  ⟨⟨up.set (F.FAB_PORT_CFG_EN 1) 1, 1, by decide +kernel⟩,
   ⟨up.set (F.FAB_PORT_CFG_EN 1) 0, 1, by decide +kernel⟩,
   ⟨linkedUp, 1, by decide +kernel⟩,
   ⟨up, 1, by decide +kernel⟩,
   ⟨linked, 1, by decide +kernel⟩,
   ⟨up, 1, by decide +kernel⟩,
   ⟨linked, 1, helloFrame, (helloTry.1.getD rx0), helloTry.2, by decide +kernel⟩,
   ⟨linkedUp, 1, by decide +kernel⟩,
   ⟨up, 1, by decide +kernel⟩,
   ⟨linkedUp, 1, 100, 0, min 255 (linkedUp.get (F.FAB_PORT_CFG_BASE 1) + min 100 100 + 100 * 0 / 8192), by decide +kernel⟩,
   ⟨up, 1, 50, 0, by decide +kernel⟩,
   ⟨up.set (F.FAB_PORT_STATUS_SUPPR 1) 1, 1, 0, by decide +kernel⟩,
   ⟨up, 1, 0, by decide +kernel⟩,
   ⟨up.set (F.FAB_PORT_STATUS_QUAR 1) 1, 1, 0, by decide +kernel⟩,
   ⟨up, 1, 0, by decide +kernel⟩,
   ⟨up.set (F.FAB_PORT_STATUS_QUAR 1) 1, cmd 0x0904 [1], by decide +kernel⟩,
   ⟨up, cmd 0x0906 [], by decide +kernel⟩⟩

/-- What the clauses of FabricAdverts ask for is met. -/
theorem test_witness_FabricAdverts :
  (∃ (s : State) (port : Fin 5) (frame : List Byte) (f : RxFrame) (a : Advert) (u : State), s.running .cm = true ∧
    port.val < 4 ∧ s.rxFrame port frame [0x02] = (some f, u) ∧ u.readAdvert f.payload = some a ∧ (u.nb
    f.link).advRate = [] ∧ a.ident.toNat ≠ s.identity ∧ s.fab.db = []) ∧
  (∃ (s : State) (port : Fin 5) (frame : List Byte), s.running .cm = true ∧ port.val < 4 ∧ s.flag (F.FAB_PORT_CFG_EN
    port.val) = true ∧ s.fab.ports[Fin.ofNat 4 port.val].phy = true ∧ derquan port frame = none) ∧
  (∃ (s : State), s.running .cm = true ∧ s.fab.repeats ≠ 0) ∧
  (∃ (s : State), s.fab.repeats = 0) ∧
  (∃ (s : State), s.running .cm = true) ∧
  (∃ (s : State) (ident : BitVec 48), s.running .cm = true) ∧
  (∃ (s : State), s.running .cm = true ∧ s.get F.FAB_STATUS_STATE = 1) ∧
  (∃ (s : State), s.get F.FAB_STATUS_STATE ≠ 1) ∧
  (∃ (s : State), s.running .cm = true) ∧
  (∃ (s : State) (d : Desc), s.admits d { opcode := 0x0901, priv := some 1, isl := .cm, params := [(24, 2)] }) :=
  ⟨⟨linkedUp, 1, advFrame, (advTry.1.getD rx0), ((advTry.2.readAdvert (advTry.1.getD rx0).payload).getD linkedUp.ownAdvert), advTry.2, by decide +kernel⟩,
   ⟨linkedUp, 1, [1, 2], by decide +kernel⟩,
   ⟨{ up with fab := { up.fab with repeats := 2 } }, by decide +kernel⟩,
   ⟨up, by decide +kernel⟩,
   ⟨up, by decide +kernel⟩,
   ⟨up, 5, by decide +kernel⟩,
   ⟨up.set F.FAB_STATUS_STATE 1, by decide +kernel⟩,
   ⟨up, by decide +kernel⟩,
   ⟨up, by decide +kernel⟩,
   ⟨up, cmd 0x0901 [5, 0], by decide +kernel⟩⟩

/-- What the clauses of FabricReports ask for is met. -/
theorem test_witness_FabricReports :
  (∃ (s : State) (r : Report), s.running .cm = true ∧ s.fab.reports = [r] ∧ r.seq = none ∧ r.due ≤ s.time.now ∧
    s.joined = true ∧ s.stroke = false) ∧
  (∃ (s : State), s.fab.reports = []) ∧
  (∃ (s : State) (r : Report) (rest : List Report), s.running .cm = true ∧ s.fab.reports = r :: rest ∧ r.seq.isSome
    = true ∧ s.joined = true ∧ s.stroke = false) ∧
  (∃ (s : State), s.joined = false) ∧
  (∃ (s : State) (port : Fin 5) (p : List Byte) (type_ : Byte), s.running .cm = true ∧ (type_ = 0x10 ∨ type_ = 0x11
    ∨ type_ = 0x12) ∧ s.flag F.FAB_REP_CFG_IS_COLL = true ∧ 24 ≤ p.length ∧ s.fab.dups = []) ∧
  (∃ (s : State) (port : Fin 5) (p : List Byte) (type_ : Byte) (e : DupEntry), s.running .cm = true ∧ (type_ = 0x10
    ∨ type_ = 0x11 ∨ type_ = 0x12) ∧ s.flag F.FAB_REP_CFG_IS_COLL = true ∧ 24 ≤ p.length ∧ s.fab.dups = [e] ∧ e.src
    = BitVec.ofNat 16 (fld p 10 2) ∧ e.newest = BitVec.ofNat 32 (fld p 0 4) ∧ e.bits.toNat.testBit 0 = true) ∧
  (∃ (s : State) (port : Fin 5) (p : List Byte) (type_ : Byte), s.flag F.FAB_REP_CFG_IS_COLL = false) ∧
  (∃ (s : State) (pkt : List Dword) (rest : List (List Dword)), s.running .cm = true ∧ s.ques[(0x19 : Fin 35)].pkts
    = pkt :: rest) ∧
  (∃ (s : State), s.ques[(0x19 : Fin 35)].pkts = []) ∧
  (∃ (s : State) (d : Desc), s.admits d { opcode := 0x0905, priv := some 0, isl := .cm }) ∧
  (∃ (s : State) (k : Fin 4) (frame f : List Byte), s.running .cm = true ∧ s.flag (F.FAB_PORT_CFG_EN k.val) = true ∧
    s.fab.ports[k].phy = true ∧ derquan (Fin.ofNat 5 k.val) frame = some f ∧ s.flag (F.FAB_PORT_CFG_M5206_EN k.val)
    = true ∧ fld f 0 1 = 1 ∧ s.fab.ports[k].rate5206 = [] ∧ s.joined = true ∧ s.stroke = false ∧ s.collectors ≠ []) ∧
  (∃ (s : State) (k : Fin 4) (frame : List Byte), s.running .cm = true ∧ s.flag (F.FAB_PORT_CFG_EN k.val) = true ∧
    s.fab.ports[k].phy = true ∧ s.flag (F.FAB_PORT_CFG_M5206_EN k.val) = false) ∧
  (∃ (s : State) (port : Fin 5) (frame : List Byte) (f : RxFrame) (u : State) (h : Half) (l : Lnk), s.running .cm =
    true ∧ port.val < 4 ∧ s.rxFrame port frame [0x10, 0x11, 0x12, 0x20, 0x21, 0x30] = (some f, u) ∧
    f.route[f.index]? = some (BitVec.ofNat 16 u.ownAddr) ∧ f.route[f.index + 1]? = some h ∧ u.linkTo h none = some
    l) ∧
  (∃ (s : State) (port : Fin 5) (frame : List Byte), s.running .cm = true ∧ port.val < 4 ∧ s.flag (F.FAB_PORT_CFG_EN
    port.val) = true ∧ s.fab.ports[Fin.ofNat 4 port.val].phy = true ∧ derquan port frame = none) :=
  ⟨⟨{ joined with fab := { joined.fab with reports := [⟨0x11, [1], 0, none⟩] } }, ⟨0x11, [1], 0, none⟩, by decide +kernel⟩,
   ⟨up, by decide +kernel⟩,
   ⟨{ joined with fab := { joined.fab with reports := [⟨0x11, [1], 0, some 1⟩] } }, ⟨0x11, [1], 0, some 1⟩, [], by decide +kernel⟩,
   ⟨up, by decide +kernel⟩,
   ⟨collector, 1, zeros 40, 0x11, by decide +kernel⟩,
   ⟨{ collector with fab := { collector.fab with dups := [⟨0, 0, 1, 0⟩] } }, 1, zeros 40, 0x11, ⟨0, 0, 1, 0⟩, by decide +kernel⟩,
   ⟨up, 1, zeros 40, 0x11, by decide +kernel⟩,
   ⟨{ up with ques := up.ques.set 0x19 { QueS.reset with pkts := [[1, 2, 3, 4]], w := 4 } }, [1, 2, 3, 4], [], by decide +kernel⟩,
   ⟨up, by decide +kernel⟩,
   ⟨up, cmd 0x0905 [], by decide +kernel⟩,
   ⟨relayer, 1, [0x03, 0x4F, 0x46, 0, 0, 1, 0, 0, 0, 0, 0, 0, 0x88, 0xB6, 1, 7], [1, 7], by decide +kernel⟩,
   ⟨linkedUp, 1, [1], by decide +kernel⟩,
   ⟨linkedUp, 1, routedFrame, (routedTry.1.getD rx0), routedTry.2, 0x0102, .fp 1, by decide +kernel⟩,
   ⟨linkedUp, 1, [1, 2], by decide +kernel⟩⟩

/-- What the clauses of FabricCommands ask for is met. -/
theorem test_witness_FabricCommands :
  (∃ (s : State) (p key : List Byte) (u : State), s.running .cm = true ∧ p.length = 92 ∧ fld p 2 2 = s.ownAddr ∧
    s.commandKey = some (key, u) ∧ (hmac256 key (p.take 76)).take 16 = p.drop 76 ∧ s.fab.counters = [] ∧
    ((opcodePrivs ⟨.fabric (BitVec.ofNat 16 (fld p 0 2)), slice p 12 64⟩).all (fun b => (u.privs (.fabric
    (BitVec.ofNat 16 (fld p 0 2)))).testBit b) = true) ∧ u.host.inFlight.length < 256) ∧
  (∃ (s : State) (p : List Byte), s.running .cm = true ∧ p.length = 92 ∧ fld p 2 2 = s.ownAddr ∧ s.commandKey =
    none) ∧
  (∃ (s : State) (p key : List Byte) (u : State) (r : RemoteCmd), s.running .cm = true ∧ p.length = 48 ∧
    s.commandKey = some (key, u) ∧ u.fab.remote = [r] ∧ (hmac256 key (p.take 32 ++ natLE 8 r.counter.toNat)).take 16
    = p.drop 32) ∧
  (∃ (s : State) (p : List Byte), s.commandKey = none) ∧
  (∃ (s : State) (d : Desc), s.admits d
    { opcode := 0x0902, priv := some 1, isl := .cm, params := [(24, 2)], staged := .len 64 64 false }) ∧
  (∃ (s : State) (r : RemoteCmd) (rest : List RemoteCmd), s.running .cm = true ∧ s.fab.remote = r :: rest) ∧
  (∃ (s : State), s.fab.remote = []) :=
  ⟨⟨commanded, fabCmd, zeros 32, ((commanded.commandKey).getD ([], commanded)).2, by decide +kernel⟩,
   ⟨up, padTo 92 [], by decide +kernel⟩,
   ⟨waiting, fabAnswer, zeros 32, ((waiting.commandKey).getD ([], waiting)).2, ⟨cmd 0x0902 [], 5, 7⟩, by decide +kernel⟩,
   ⟨up, [], by decide +kernel⟩,
   ⟨up, cmdAt 0x0902 [5] 0x100000 64, by decide +kernel⟩,
   ⟨waiting, ⟨cmd 0x0902 [], 5, 7⟩, [], by decide +kernel⟩,
   ⟨up, by decide +kernel⟩⟩

/-- What the clauses of FabricClock ask for is met. -/
theorem test_witness_FabricClock :
  (∃ (s : State) (k : Fin 4) (o : Int), s.running .cm = true ∧ s.usable (.fp k) = true ∧ s.timePort k = true ∧
    o.natAbs < 2 ^ 31 ∧ s.flag F.FAB_PTP_STATUS_LOCK = false) ∧
  (∃ (s : State) (k : Fin 4) (domain : Byte) (gm : Half) (p1 cl p2 : Byte) (ident : BitVec 48) (steps : Nat) (utc :
    Int) (valid : Bool), s.running .cm = true ∧ domain.toNat ≠ s.get F.FAB_PTP_CFG_DOMAIN) ∧
  (∃ (s : State) (k : Fin 4) (domain : Byte) (gm : Half) (p1 cl p2 : Byte) (ident : BitVec 48) (steps : Nat) (utc :
    Int), s.running .cm = true ∧ s.usable (.fp k) = true ∧ domain.toNat = s.get F.FAB_PTP_CFG_DOMAIN ∧
    s.fab.ptp.best = none) ∧
  (∃ (s : State) (k : Fin 4), s.running .cm = true ∧ s.masterPort k = true) ∧
  (∃ (s : State) (k : Fin 4), s.masterPort k = false) ∧
  (∃ (s : State) (k : Fin 4), s.running .cm = true ∧ s.masterPort k = true) ∧
  (∃ (s : State) (k : Fin 4), s.running .cm = true ∧ s.usable (.fp k) = true) ∧
  (∃ (s : State) (k : Fin 4) (m : PtpMaster), s.running .cm = true ∧ s.fab.ptp.best = some m ∧ m.port = k.val) ∧
  (∃ (s : State) (k : Fin 4), s.fab.ptp.best = none) ∧
  (∃ (s : State), s.running .cm = true ∧ s.get F.FAB_PTP_STATUS_ROLE = 1 ∧ s.flag F.FAB_PTP_STATUS_LOCK = false ∧
    s.fab.ptp.within ≠ none ∧ s.open_ .cm .vl = false) ∧
  (∃ (s : State), s.running .cm = true ∧ s.get F.FAB_PTP_STATUS_ROLE = 1 ∧ s.flag F.FAB_PTP_STATUS_LOCK = false ∧
    s.fab.ptp.within ≠ none ∧ s.open_ .cm .vl = true ∧ s.quality ≠ 2) ∧
  (∃ (s : State), s.running .cm = true) :=
  ⟨⟨receiving, 1, 5000, by decide +kernel⟩,
   ⟨up.set F.FAB_PTP_CFG_DOMAIN 0, 1, 5, 0, 0, 0, 0, 0, 0, 0, false, by decide +kernel⟩,
   ⟨linkedUp, 1, BitVec.ofNat 8 (linkedUp.get F.FAB_PTP_CFG_DOMAIN), 9, 1, 1, 1, 7, 0, 37, by decide +kernel⟩,
   ⟨linkedUp.set F.FAB_PTP_STATUS_ROLE 2, 1, by decide +kernel⟩,
   ⟨up, 1, by decide +kernel⟩,
   ⟨linkedUp.set F.FAB_PTP_STATUS_ROLE 2, 1, by decide +kernel⟩,
   ⟨linkedUp, 1, by decide +kernel⟩,
   ⟨receiving, 1, ⟨1, 1, 1, 7, 0, 9, 1⟩, by decide +kernel⟩,
   ⟨up, 1, by decide +kernel⟩,
   ⟨{ receiving.setIsl .vl 2 with fab := { receiving.fab with ptp := { receiving.fab.ptp with within := some 0 } } }, by decide +kernel⟩,
   ⟨{ receiving.set F.BIL_TIME_STATUS_QUALITY 1 with fab := { receiving.fab with ptp := { receiving.fab.ptp with within := some 0 } } }, by decide +kernel⟩,
   ⟨receiving, by decide +kernel⟩⟩

/-- What the clauses of DuplexPairs ask for is met. -/
theorem test_witness_DuplexPairs :
  (∃ (s : State) (pid : BitVec 48) (paddr : Half) (ppref : Bool), s.running .cm = true ∧ s.flag F.FAB_PAIR_CFG_EN =
    true ∧ s.flag F.FAB_PAIR_CFG_PREF_BOW = ppref ∧ s.identity < pid.toNat) ∧
  (∃ (s : State) (pid : BitVec 48) (paddr : Half) (ppref : Bool), s.flag F.FAB_PAIR_CFG_EN = false) ∧
  (∃ (s : State), s.running .cm = true ∧ s.bow = true ∧ s.flag F.FAB_PAIR_STATUS_PARTNER = true) ∧
  (∃ (s : State), s.bow = false) ∧
  (∃ (s : State) (on : Half), s.running .cm = true ∧ s.flag F.FAB_PAIR_STATUS_PARTNER = true ∧ s.stroke = true) ∧
  (∃ (s : State) (seq : Word) (type_ : Byte) (body : List Byte), s.running .cm = true ∧ s.flag
    F.FAB_PAIR_STATUS_PARTNER = true ∧ s.stroke = true) ∧
  (∃ (s : State) (m : MirrorItem), s.flag F.FAB_PAIR_STATUS_PARTNER = false) ∧
  (∃ (s : State), s.running .cm = true ∧ s.stroke = true ∧ s.running .vl = true ∧ s.running .ap = true ∧ s.running
    .pt = true ∧ s.running .pw = true ∧ s.get F.VOT_STATUS_MODE ≠ 2 ∧ s.fab.pair.mirrorAt = some s.time.now) ∧
  (∃ (s : State), s.running .cm = true ∧ s.stroke = true ∧ s.fab.pair.mirrorAt = none) ∧
  (∃ (s : State), s.stroke = false) ∧
  (∃ (s : State), s.running .cm = true ∧ s.stroke = true) ∧
  (∃ (s : State), s.running .cm = true ∧ s.flag F.FAB_PAIR_STATUS_LANE_A = true) ∧
  (∃ (s : State), s.running .cm = true ∧ s.flag F.FAB_PAIR_STATUS_LANE_B = true) ∧
  (∃ (s : State) (pid : BitVec 48) (pbow : Bool), s.running .cm = true ∧ s.flag F.FAB_PAIR_STATUS_PARTNER = true ∧
    (s.bow = false ∨ pbow = false ∨ s.identity ≤ pid.toNat)) ∧
  (∃ (s : State) (pid : BitVec 48), s.running .cm = true ∧ s.flag F.FAB_PAIR_STATUS_PARTNER = true ∧ s.bow = true ∧
    pid.toNat < s.identity) ∧
  (∃ (s : State) (d : Desc), s.admits d { opcode := 0x0903, priv := some 1, isl := .cm } ∧ s.bow = true ∧ s.flag
    F.FAB_PAIR_STATUS_PARTNER = true) ∧
  (∃ (s : State) (d : Desc), s.admits d { opcode := 0x0903, priv := some 1, isl := .cm } ∧ s.bow = false) :=
  ⟨⟨up.set F.FAB_PAIR_CFG_EN 1, 9, 7, false, by decide +kernel⟩,
   ⟨up, 9, 7, false, by decide +kernel⟩,
   ⟨paired, by decide +kernel⟩,
   ⟨standby, by decide +kernel⟩,
   ⟨standby, 5, by decide +kernel⟩,
   ⟨standby, 5, 0x11, [1], by decide +kernel⟩,
   ⟨up, .channels 5, by decide +kernel⟩,
   ⟨{ standby with fab := { standby.fab with pair := { standby.fab.pair with mirrorAt := some standby.time.now } } }, by decide +kernel⟩,
   ⟨standby, by decide +kernel⟩,
   ⟨up, by decide +kernel⟩,
   ⟨standby, by decide +kernel⟩,
   ⟨paired, by decide +kernel⟩,
   ⟨paired, by decide +kernel⟩,
   ⟨paired, 9, true, by decide +kernel⟩,
   ⟨paired.set64 R.KEY_IDENT_LO 12, 9, by decide +kernel⟩,
   ⟨paired, cmd 0x0903 [], by decide +kernel⟩,
   ⟨standby, cmd 0x0903 [], by decide +kernel⟩⟩

/-- What the clauses of ToneMedium ask for is met. -/
theorem test_witness_ToneMedium :
  (∃ (s : State), s.running .cm = true ∧ s.flag F.MTL_CFG_EN = true) ∧
  (∃ (s : State), s.flag F.MTL_CFG_EN = false) ∧
  (∃ (s : State) (draw : Nat) (x : MtlTx), s.running .cm = true ∧ s.flag F.MTL_CFG_EN = true ∧ s.toneIdle = true ∧
    s.nextTone = some x ∧ s.mtl.slots = none ∧ draw % x.window ≠ 0) ∧
  (∃ (s : State) (draw : Nat), s.running .cm = true ∧ s.flag F.MTL_CFG_EN = true ∧ s.nextTone = none) ∧
  (∃ (s : State) (r : Nat), s.running .cm = true ∧ s.flag F.MTL_CFG_EN = true ∧ s.mtl.counting = true ∧ s.mtl.slots
    = some r ∧ 2 ≤ r) ∧
  (∃ (s : State) (x : MtlTx), s.running .cm = true ∧ s.flag F.MTL_CFG_EN = true ∧ s.mtl.counting = true ∧
    s.mtl.slots = some 1 ∧ s.toneIdle = true ∧ s.nextTone = some x ∧ s.airUsed + toneTime (toneWords x.body) ≤ s.get
    F.MTL_TX_AIR_MAX * 600000) ∧
  (∃ (s : State), s.mtl.counting = false) ∧
  (∃ (s : State), s.running .cm = true ∧ s.flag F.MTL_CFG_EN = true ∧ s.airUsed < s.get F.MTL_TX_AIR_MAX * 600000) ∧
  (∃ (s : State) (dest : Half) (number result : Byte) (snr : Int) (erased : Nat), s.running .cm = true ∧ s.flag
    F.MTL_CFG_EN = true ∧ s.mtl.ack = some (dest, number, result, snr, erased) ∧ s.driverOn = true ∧ s.mtl.sending =
    none) ∧
  (∃ (s : State), s.mtl.ack = none) ∧
  (∃ (s : State) (x : MtlTx), s.running .cm = true ∧ s.flag F.MTL_CFG_EN = true ∧ s.mtl.sending = some x ∧ x.kind =
    1) ∧
  (∃ (s : State), s.mtl.sending = none) ∧
  (∃ (s : State) (x : MtlTx), s.running .cm = true ∧ s.flag F.MTL_CFG_EN = true ∧ s.mtl.sending = some x ∧ x.kind ≠
    1) ∧
  (∃ (s : State), s.mtl.sending = none) ∧
  (∃ (s : State) (x : MtlTx), s.running .cm = true ∧ s.flag F.MTL_CFG_EN = true ∧ s.mtl.awaiting = some x ∧ x.tries
    + 1 < s.get F.MTL_CFG_MAX_TRY ∧ s.mtl.plan = s.get F.MTL_CFG_PLAN) ∧
  (∃ (s : State) (x : MtlTx), s.running .cm = true ∧ s.flag F.MTL_CFG_EN = true ∧ s.mtl.awaiting = some x ∧ s.get
    F.MTL_CFG_MAX_TRY ≤ x.tries + 1) ∧
  (∃ (s : State), s.running .cm = true ∧ s.flag F.MTL_CFG_EN = true ∧ s.mtl.sending = none) ∧
  (∃ (s : State), s.running .cm = true) :=
  ⟨⟨toned, by decide +kernel⟩,
   ⟨up.set F.MTL_CFG_EN 0, by decide +kernel⟩,
   ⟨toneWaiting, 3, tx1, by decide +kernel⟩,
   ⟨toned, 3, by decide +kernel⟩,
   ⟨{ toned with mtl := { toned.mtl with counting := true, slots := some 5 } }, 5, by decide +kernel⟩,
   ⟨{ toneWaiting with mtl := { toneWaiting.mtl with counting := true, slots := some 1 } }, tx1, by decide +kernel⟩,
   ⟨toned, by decide +kernel⟩,
   ⟨toned, by decide +kernel⟩,
   ⟨{ toned with mtl := { toned.mtl with ack := some (7, 8, 0, 40, 0) } }, 7, 8, 0, 40, 0, by decide +kernel⟩,
   ⟨toned, by decide +kernel⟩,
   ⟨{ toned with mtl := { toned.mtl with sending := some tx1 } }, tx1, by decide +kernel⟩,
   ⟨toned, by decide +kernel⟩,
   ⟨{ toned with mtl := { toned.mtl with sending := some { tx1 with kind := 3 } } }, { tx1 with kind := 3 }, by decide +kernel⟩,
   ⟨toned, by decide +kernel⟩,
   ⟨{ (toned.set F.MTL_CFG_MAX_TRY 4) with mtl := { toned.mtl with awaiting := some tx1 } }, tx1, by decide +kernel⟩,
   ⟨{ (toned.set F.MTL_CFG_MAX_TRY 1) with mtl := { toned.mtl with awaiting := some tx1 } }, tx1, by decide +kernel⟩,
   ⟨toned, by decide +kernel⟩,
   ⟨toned, by decide +kernel⟩⟩

/-- What the clauses of ToneFrames ask for is met. -/
theorem test_witness_ToneFrames :
  (∃ (s : State) (rx : MtlRx), s.running .cm = true ∧ s.flag F.MTL_CFG_EN = true ∧ rx.decodes = false) ∧
  (∃ (s : State) (rx : MtlRx) (j : Fin 32), s.running .cm = true ∧ s.flag F.MTL_CFG_EN = true ∧ rx.decodes = true ∧
    rx.sender ≠ 0 ∧ rx.sender ≠ 0xFFFF ∧ s.toneEntry rx.sender = some j ∧ rx.kind = 1 ∧ fld rx.body 0 2 = s.ownAddr
    ∧ s.usable (.tl j) = true ∧ s.mtl.nbs[j].frames.contains (BitVec.ofNat 8 (fld rx.header 3 1)) = false) ∧
  (∃ (s : State) (rx : MtlRx) (j : Fin 32), s.running .cm = true ∧ s.flag F.MTL_CFG_EN = true ∧ rx.decodes = true ∧
    rx.sender ≠ 0 ∧ rx.sender ≠ 0xFFFF ∧ s.toneEntry rx.sender = some j ∧ rx.kind = 1 ∧ fld rx.body 0 2 = s.ownAddr
    ∧ s.usable (.tl j) = true ∧ s.mtl.nbs[j].frames.contains (BitVec.ofNat 8 (fld rx.header 3 1)) = true) ∧
  (∃ (s : State) (rx : MtlRx), s.running .cm = true ∧ s.flag F.MTL_CFG_EN = true ∧ rx.decodes = false) ∧
  (∃ (s : State) (rx : MtlRx) (j : Fin 32) (x : MtlTx), s.running .cm = true ∧ s.flag F.MTL_CFG_EN = true ∧
    rx.decodes = true ∧ rx.sender ≠ 0 ∧ rx.sender ≠ 0xFFFF ∧ s.toneEntry rx.sender = some j ∧ rx.kind = 2 ∧ fld
    rx.body 0 2 = s.ownAddr ∧ s.mtl.awaiting = some x ∧ x.dest.toNat = rx.sender ∧ x.number.toNat = fld rx.body 2 1) ∧
  (∃ (s : State) (rx : MtlRx), s.running .cm = true ∧ s.flag F.MTL_CFG_EN = true ∧ rx.decodes = false) ∧
  (∃ (s : State) (rx : MtlRx) (j : Fin 32) (len : Nat), s.running .cm = true ∧ s.flag F.MTL_CFG_EN = true ∧
    rx.decodes = true ∧ rx.sender ≠ 0 ∧ rx.sender ≠ 0xFFFF ∧ s.toneEntry rx.sender = some j ∧ rx.kind = 3 ∧ len = 15
    + 3 * fld rx.body 13 1 + 2 * fld rx.body (14 + 3 * fld rx.body 13 1) 1 ∧ len + 20 ≤ rx.body.length ∧ s.toneTagOk
    rx len = some true ∧ s.mtl.nbs[j].counter = none) ∧
  (∃ (s : State) (rx : MtlRx), s.running .cm = true ∧ s.flag F.MTL_CFG_EN = true ∧ rx.decodes = false) ∧
  (∃ (s : State) (rx : MtlRx) (j : Fin 32), s.running .cm = true ∧ s.flag F.MTL_CFG_EN = true ∧ rx.decodes = true ∧
    rx.sender ≠ 0 ∧ rx.sender ≠ 0xFFFF ∧ s.toneEntry rx.sender = some j ∧ rx.kind = 4 ∧ 7 + 9 * fld rx.body 6 1 + 20
    ≤ rx.body.length ∧ s.toneTagOk rx (7 + 9 * fld rx.body 6 1) = some true ∧ s.mtl.nbs[j].counter = none) ∧
  (∃ (s : State) (x : List Byte × State), s.running .cm = true ∧ s.flag F.MTL_CFG_EN = true ∧ s.segmentKey (s.get
    F.FAB_KEY_EPOCH_EPOCH) = some x ∧ s.mtl.lowCnt ≠ 0xFFFF) ∧
  (∃ (s : State), s.running .cm = true ∧ s.flag F.MTL_CFG_EN = true) ∧
  (∃ (s : State) (orig : Half), s.running .cm = true ∧ s.flag F.MTL_CFG_EN = true) :=
  ⟨⟨toned, ⟨[], [], (0, 0), [], 0⟩, by decide +kernel⟩,
   ⟨toneUp, rxOf 1 (natLE 2 10 ++ [0, 1] ++ natLE 2 2 ++ [5, 6]), 3, by decide +kernel⟩,
   ⟨{ toneUp with mtl := { toneUp.mtl with nbs := toneUp.mtl.nbs.set 3 { toneUp.mtl.nbs[(3 : Fin 32)] with frames := [7] } } }, rxOf 1 (natLE 2 10 ++ [0, 1] ++ natLE 2 2 ++ [5, 6]), 3, by decide +kernel⟩,
   ⟨toned, ⟨[], [], (0, 0), [], 0⟩, by decide +kernel⟩,
   ⟨{ toneUp with mtl := { toneUp.mtl with awaiting := some tx1 } }, rxOf 2 (natLE 2 10 ++ [1, 0] ++ natLE 2 40 ++ natLE 2 0), 3, tx1, by decide +kernel⟩,
   ⟨toned, ⟨[], [], (0, 0), [], 0⟩, by decide +kernel⟩,
   ⟨toneUp, beacon1, 3, 15, by decide +kernel⟩,
   ⟨toned, ⟨[], [], (0, 0), [], 0⟩, by decide +kernel⟩,
   ⟨toneUp, refresh1, 3, by decide +kernel⟩,
   ⟨toneUp, ((toneUp.segmentKey (toneUp.get F.FAB_KEY_EPOCH_EPOCH)).getD ([], toneUp)), by decide +kernel⟩,
   ⟨toned, by decide +kernel⟩,
   ⟨toned, 5, by decide +kernel⟩⟩

/-- What the clauses of ToneTable ask for is met. -/
theorem test_witness_ToneTable :
  (∃ (s : State) (j : Fin 32), s.running .cm = true ∧ s.get (F.MTL_NB_ID_UP j.val) = 1) ∧
  (∃ (s : State) (j : Fin 32), s.get (F.MTL_NB_ID_UP j.val) = 0) ∧
  (∃ (s : State) (j : Fin 32), s.running .cm = true ∧ s.flag (F.MTL_NB_ID_VALID j.val) = true ∧ s.flag
    (F.MTL_NB_ID_UP j.val) = false) ∧
  (∃ (s : State) (j : Fin 32), s.flag (F.MTL_NB_ID_UP j.val) = true) ∧
  (∃ (s : State) (j : Fin 32), s.running .cm = true) ∧
  (∃ (s : State) (d : Desc) (noise : List Byte), s.admits d { opcode := 0x0A01, priv := some 1, isl := .cm } ∧
    noise.length = 4) ∧
  (∃ (s : State) (d : Desc) (j : Fin 32), s.admits d
    { opcode := 0x0A02, priv := some 1, isl := .cm, params := [(24, 2)] } ∧ s.toneEntry (d.n 24 2) = some j) ∧
  (∃ (s : State) (d : Desc), s.admits d { opcode := 0x0A02, priv := some 1, isl := .cm, params := [(24, 2)] } ∧
    s.toneEntry (d.n 24 2) = none) :=
  ⟨⟨toneUp, 3, by decide +kernel⟩,
   ⟨up, 3, by decide +kernel⟩,
   ⟨toneUp.set (F.MTL_NB_ID_UP 3) 0, 3, by decide +kernel⟩,
   ⟨toneUp, 3, by decide +kernel⟩,
   ⟨toneUp, 3, by decide +kernel⟩,
   ⟨up, cmd 0x0A01 [], [1, 2, 3, 4], by decide +kernel⟩,
   ⟨toneUp, cmd 0x0A02 [2, 1], 3, by decide +kernel⟩,
   ⟨up, cmd 0x0A02 [2, 1], by decide +kernel⟩⟩

/-- What the clauses of KeySlots ask for is met. -/
theorem test_witness_KeySlots :
  (∃ (s : State) (d : Desc), s.admits d
    { opcode := 0x0701, priv := some 3, isl := .ks, params := [(24, 2), (26, 1), (27, 1), (28, 4), (32, 4), (36, 1)], staged := .len (materialLen (d.n 26 1)) (materialLen (d.n 26 1)) false }
    (attrRanges d) ∧ s.fillable (d.n 24 2) = true ∧ d.n 26 1 < 3 ∧ s.zeroising = false) ∧
  (∃ (s : State) (d : Desc), s.admits d
    { opcode := 0x0701, priv := some 3, isl := .ks, params := [(24, 2), (26, 1), (27, 1), (28, 4), (32, 4), (36, 1)], staged := .len (materialLen (d.n 26 1)) (materialLen (d.n 26 1)) false }
    (attrRanges d) ∧ s.fillable (d.n 24 2) = true ∧ d.n 26 1 < 3 ∧ s.zeroising = true) ∧
  (∃ (s : State) (d : Desc), s.admits d
    { opcode := 0x0701, priv := some 3, isl := .ks, params := [(24, 2), (26, 1), (27, 1), (28, 4), (32, 4), (36, 1)], staged := .len (materialLen (d.n 26 1)) (materialLen (d.n 26 1)) false }
    (attrRanges d) ∧ s.fillable (d.n 24 2) = true ∧ 3 ≤ d.n 26 1 ∧ beNat (s.staged d) = 0) ∧
  (∃ (s : State) (d : Desc) (p : KeySlot), s.admits d
    { opcode := 0x0702, priv := some 3, isl := .ks, params := [(24, 2), (26, 1), (27, 1), (28, 4), (32, 4), (36, 1), (38, 2), (40, 1), (41, 1)], staged := .len (d.n 40 1 + d.n 41 1) (d.n 40 1 + d.n 41 1) false }
    (attrRanges d ++ [(38, decide (510 < d.n 38 2)), (40, d.n 40 1 == 0 || decide (64 < d.n 40 1)), (41, decide (64
    < d.n 41 1))]) ∧ s.fillable (d.n 24 2) = true ∧ s.keySlot (d.n 38 2) = some p ∧ p.valid = true ∧ p.type_ = 1 ∧
    p.use.toNat.testBit 0 = true ∧ p.depth < 8 ∧ p.no ≠ d.n 24 2 ∧ ((s.staged d).take (d.n 40 1)).take 4 ≠ ascii
    "MMD-" ∧ s.zeroising = false) ∧
  (∃ (s : State) (d : Desc) (k : KeySlot), s.admits d
    { opcode := 0x0703, priv := some 3, isl := .ks, params := [(24, 2)] } [(24, decide (d.n 24 2 < 5) || decide (510
    < d.n 24 2))] ∧ s.keySlot (d.n 24 2) = some k ∧ k.valid = true ∧ (s.get F.KEY_LIFE_DESTROY_PARENT = 1 ∨
    descendants s.key.slots (d.n 24 2) = [])) ∧
  (∃ (s : State) (r : Fin 21) (slot : BitVec 9) (use : Fin 7) (rebuildOk : Bool) (k : KeySlot), s.mayUse r.val
    slot.toNat use.val = some k) ∧
  (∃ (s : State) (r : Fin 21) (slot : BitVec 9) (use : Fin 7) (rebuildOk : Bool) (k : KeySlot), s.mayUse r.val
    slot.toNat use.val = some k ∧ 5 ≤ k.no) :=
  ⟨⟨up, cmdAt 0x0701 [5, 0, 1, 1, 1] 0x100000 32, by decide +kernel⟩,
   ⟨{ up with key := { up.key with zeroAt := some up.time.now } }, cmdAt 0x0701 [5, 0, 1, 1, 1] 0x100000 32, by decide +kernel⟩,
   ⟨up, cmdAt 0x0701 [5, 0, 3, 32, 1] 0x100000 (materialLen 3), by decide +kernel⟩,
   ⟨keyed, cmdAt 0x0702 [6, 0, 1, 1, 1, 0, 0, 0, 0, 0, 0, 0, 0, 0, 5, 0, 4, 0] 0x100000 4, slot5 1 1 1, by decide +kernel⟩,
   ⟨keyed, cmd 0x0703 [5], slot5 1 1 1, by decide +kernel⟩,
   ⟨keyed, 0, 5, 0, true, slot5 1 1 1, by decide +kernel⟩,
   ⟨keyed, 0, 5, 0, true, slot5 1 1 1, by decide +kernel⟩⟩

/-- What the clauses of KeyEvidence ask for is met. -/
theorem test_witness_KeyEvidence :
  (∃ (s : State) (d : Desc) (k : KeySlot) (body : List Byte), s.admits d
    { opcode := 0x0704, priv := some 0, isl := .ks, params := [(24, 2)], staged := .len 236 0x80000 false } [(24,
    decide (510 < d.n 24 2))] ∧ s.keySlot (d.n 24 2) = some k ∧ k.valid = true ∧ 3 ≤ k.type_ ∧ body = natLE 4
    0x54534B4D ++ natLE 2 1 ++ natLE 2 k.no ++ natLE 6 s.identity ++ natLE 1 k.type_ ++ [k.use] ++ natLE 4
    k.dest.toNat ++ keyId (Config.ecPublic k.type_ k.material) ++ natLE 8 s.devTime ++ natLE 4 (s.reg R.KEY_LIFE) ++
    natLE 4 (s.reg R.KEY_CHG_LEFT) ++ padTo 97 (Config.ecPublic k.type_ k.material) ++ zeros 3) ∧
  (∃ (s : State) (d : Desc) (k : KeySlot) (body : List Byte), s.admits d
    { opcode := 0x0705, priv := some 0, isl := .ks, params := [(24, 2), (26, 1)], staged := .len 96 0x80000 false }
    [(24, decide (510 < d.n 24 2)), (26, decide (d.n 26 1 < 16) || decide (64 < d.n 26 1) || d.n 26 1 % 4 != 0)] ∧
    s.mayUse 20 (d.n 24 2) 6 = some k ∧ k.type_ = 1 ∧ body = natLE 4 0x54414B4D ++ natLE 2 1 ++ natLE 2 k.no ++
    natLE 6 s.identity ++ natLE 1 s.sealOpen.toNat ++ natLE 1 (d.n 26 1) ++ natLE 4 (s.reg R.KEY_LIFE) ++ natLE 4
    (s.reg R.KEY_CHG_LEFT) ++ s.readingKid ++ natLE 2 (s.get F.MET_CAL_ID_SET_NO) ++ natLE 2 (s.get
    F.BIL_TAR_ID_STRUCT_NO) ++ natLE 8 s.resolved ++ natLE 8 s.devTime ++ zeros 16) ∧
  (∃ (s : State) (n : Fin 4), s.running .ks = true ∧ s.bit F.KEY_TMP_CFG_EN n.val = true ∧ s.key.spent.toNat.testBit
    n.val = false) ∧
  (∃ (s : State) (n : Fin 4), s.bit F.KEY_TMP_CFG_EN n.val = false) ∧
  (∃ (s : State), s.sealOpen = false) ∧
  (∃ (s : State), s.sealOpen = true) ∧
  (∃ (s : State) (d : Desc), s.admits d { opcode := 0x0709, priv := some 3, isl := .ks, params := [(24, 1)] } [(24,
    decide (1 < d.n 24 1))] ∧ s.get F.KEY_LIFE_DEBUG_KILL = 0 ∧ (s.sealOpen = true ∨ d.n 24 1 = 0)) ∧
  (∃ (s : State) (d : Desc), s.admits d { opcode := 0x0709, priv := some 3, isl := .ks, params := [(24, 1)] } [(24,
    decide (1 < d.n 24 1))] ∧ s.get F.KEY_LIFE_DEBUG_KILL = 0 ∧ s.sealOpen = false ∧ d.n 24 1 = 1) :=
  ⟨⟨{ keyed with key := { keyed.key with slots := [slot5 3 32 1] } }, cmdAt 0x0704 [5] 0x100000 236, slot5 3 32 1, _, by decide +kernel, by decide +kernel, by decide +kernel, by decide +kernel, rfl⟩,
   ⟨{ keyed with key := { keyed.key with slots := [slot5 1 64 (BitVec.ofNat 21 (2 ^ 20))] } }, cmdAt 0x0705 [5, 0, 16] 0x100000 96, slot5 1 64 (BitVec.ofNat 21 (2 ^ 20)), _, by decide +kernel, by decide +kernel, by decide +kernel, rfl⟩,
   ⟨up.set F.KEY_TMP_CFG_EN 15, 1, by decide +kernel⟩,
   ⟨up, 1, by decide +kernel⟩,
   ⟨up, by decide +kernel⟩,
   ⟨unsealed, by decide +kernel⟩,
   ⟨unsealed, cmd 0x0709 [1], by decide +kernel⟩,
   ⟨up, cmd 0x0709 [1], by decide +kernel⟩⟩

/-- What the clauses of LimitedChanges ask for is met. -/
theorem test_witness_LimitedChanges :
  (∃ (s : State) (d : Desc), s.admits d { opcode := 0x0706, priv := some 3, isl := .ks, params := [(24, 6)] } [(24,
    d.n 24 6 == 0 || d.n 24 6 == 2 ^ 48 - 1 || d.n 24 6 == s.identity)] ∧ s.sealOpen = true ∧ s.logRefusing = false
    ∧ s.isl.supply = .normal ∧ s.key.badFuses = 0 ∧ 0 < s.get F.KEY_CHG_LEFT_IDENT ∧ s.noTransfer = true) ∧
  (∃ (s : State) (d : Desc), s.admits d { opcode := 0x0706, priv := some 3, isl := .ks, params := [(24, 6)] } [(24,
    d.n 24 6 == 0 || d.n 24 6 == 2 ^ 48 - 1 || d.n 24 6 == s.identity)] ∧ s.sealOpen = false) ∧
  (∃ (s : State) (d : Desc), s.admits d { opcode := 0x0707, priv := some 3, isl := .mg, staged := .len 97 97 false }
    ∧ s.sealOpen = true ∧ s.logRefusing = false ∧ s.isl.supply = .normal ∧ s.key.badFuses = 0 ∧ 0 < s.get
    F.KEY_CHG_LEFT_INTEG) ∧
  (∃ (s : State) (d : Desc), s.admits d { opcode := 0x070A, priv := some 3, isl := .ks, params := [(24, 1)] } [(24,
    d.n 24 1 != 0x5A)] ∧ s.sealOpen = true ∧ s.logRefusing = false ∧ s.isl.supply = .normal ∧ s.key.badFuses = 0 ∧ 0
    < s.get F.KEY_CHG_LEFT_DBG) ∧
  (∃ (s : State) (d : Desc), s.admits d { opcode := 0x070A, priv := some 3, isl := .ks, params := [(24, 1)] } [(24,
    d.n 24 1 != 0x5A)] ∧ s.sealOpen = true ∧ s.get F.KEY_CHG_LEFT_DBG = 0) ∧
  (∃ (s : State) (d : Desc), s.admits d { opcode := 0x0708, priv := some 3, isl := .ks, params := [(24, 1)] } [(24,
    decide (3 < d.n 24 1))] ∧ s.get F.KEY_LIFE_DESTROY_PARENT = 0 ∧ s.get F.KEY_LIFE_DESTROY_TAMPER = 0 ∧ d.n 24 1 ≠
    0 ∧ s.sealOpen = true ∧ s.logRefusing = false ∧ s.isl.supply = .normal) ∧
  (∃ (s : State) (d : Desc), s.admits d { opcode := 0x0708, priv := some 3, isl := .ks, params := [(24, 1)] } [(24,
    decide (3 < d.n 24 1))] ∧ s.get F.KEY_LIFE_DESTROY_PARENT = 1 ∧ (d.n 24 1).testBit 0 = false) :=
  ⟨⟨unsealed, cmd 0x0706 [1, 2, 3], by decide +kernel⟩,
   ⟨up, cmd 0x0706 [1, 2, 3], by decide +kernel⟩,
   ⟨unsealed, cmdAt 0x0707 [] 0x100000 97, by decide +kernel⟩,
   ⟨unsealed, cmd 0x070A [0x5A], by decide +kernel⟩,
   ⟨unsealed.set F.KEY_CHG_LEFT_DBG 0, cmd 0x070A [0x5A], by decide +kernel⟩,
   ⟨unsealed, cmd 0x0708 [3], by decide +kernel⟩,
   ⟨up.set F.KEY_LIFE_DESTROY_PARENT 1, cmd 0x0708 [2], by decide +kernel⟩⟩

/-- What the clauses of DisplayPower ask for is met. -/
theorem test_witness_DisplayPower :
  (∃ (s : State) (v : Word), s.running .hi = true ∧ s.running .vl = true ∧ 4 ≤ bitsOf v.toNat 30 24 ∧ bitsOf v.toNat
    30 24 ≤ 99 ∧ 1 ≤ bitsOf v.toNat 14 8 ∧ bitsOf v.toNat 14 8 ≤ 100 ∧ 2 ≤ bitsOf v.toNat 7 4 ∧ bitsOf v.toNat 7 4 ≤
    10 ∧ s.ldp.seq = none ∧ s.ldp.discharging = false ∧ s.flag F.LSW_STATUS_UV_OFF = false) ∧
  (∃ (s : State) (v : Word), s.running .hi = true ∧ s.running .vl = true ∧ 4 ≤ bitsOf v.toNat 30 24 ∧ bitsOf v.toNat
    30 24 ≤ 99 ∧ 1 ≤ bitsOf v.toNat 14 8 ∧ bitsOf v.toNat 14 8 ≤ 100 ∧ 2 ≤ bitsOf v.toNat 7 4 ∧ bitsOf v.toNat 7 4 ≤
    10 ∧ s.flag F.LSW_STATUS_UV_OFF = true) ∧
  (∃ (s : State) (v : Word), s.running .hi = true ∧ s.running .vl = true ∧ 4 ≤ bitsOf v.toNat 30 24 ∧ bitsOf v.toNat
    30 24 ≤ 99 ∧ 1 ≤ bitsOf v.toNat 14 8 ∧ bitsOf v.toNat 14 8 ≤ 100 ∧ 2 ≤ bitsOf v.toNat 7 4 ∧ bitsOf v.toNat 7 4 ≤
    10 ∧ s.ldp.seq = none ∧ s.ldp.discharging = false) ∧
  (∃ (s : State) (v : Word), s.running .hi = true ∧ s.running .vl = true ∧ (bitsOf v.toNat 30 24 < 4 ∨ 99 < bitsOf
    v.toNat 30 24)) ∧
  (∃ (s : State) (n : Nat), s.running .vl = true ∧ s.ldp.seq = some (true, n)) ∧
  (∃ (s : State) (n : Nat), s.running .vl = true ∧ s.ldp.seq = some (false, n)) ∧
  (∃ (s : State), s.running .vl = true ∧ s.rail ≠ 0) ∧
  (∃ (s : State), s.running .vl = true ∧ s.rail ≠ 0) ∧
  (∃ (s : State), s.running .vl = true) ∧
  (∃ (s : State), s.running .vl = true ∧ s.rail = 2) ∧
  (∃ (s : State), s.running .vl = true ∧ s.rail = 2 ∧ toSigned 16 (s.get F.LDP_VCOM_NOW_TRIM) < s.targetTrim) ∧
  (∃ (s : State), s.running .vl = true ∧ s.rail = 2 ∧ s.targetTrim < toSigned 16 (s.get F.LDP_VCOM_NOW_TRIM)) ∧
  (∃ (s : State), s.running .vl = true) :=
  ⟨⟨up, 0x84000120, by decide +kernel⟩,
   ⟨up.set F.LSW_STATUS_UV_OFF 1, 0x84000120, by decide +kernel⟩,
   ⟨up, 0x04000120, by decide +kernel⟩,
   ⟨up, 0x80000120, by decide +kernel⟩,
   ⟨{ up with ldp := { up.ldp with seq := some (true, 0) } }, 0, by decide +kernel⟩,
   ⟨{ up with ldp := { up.ldp with seq := some (false, 0) } }, 0, by decide +kernel⟩,
   ⟨railed, by decide +kernel⟩,
   ⟨railed, by decide +kernel⟩,
   ⟨railed, by decide +kernel⟩,
   ⟨railed, by decide +kernel⟩,
   ⟨railed.set F.LDP_VCOM_NOW_TRIM 0xFF00, by decide +kernel⟩,
   ⟨railed.set F.LDP_VCOM_NOW_TRIM 300, by decide +kernel⟩,
   ⟨up, by decide +kernel⟩⟩

/-- What the clauses of DisplayPasses ask for is met. -/
theorem test_witness_DisplayPasses :
  (∃ (s : State), s.panelReady = true ∧ s.ldp.pass_ = none ∧ s.dirtyLines ≠ []) ∧
  (∃ (s : State) (p : Pass), s.panelReady = true ∧ s.ldp.pass_ = some p ∧ p.at_ ≠ 4 ∧ p.at_ ≠ 2) ∧
  (∃ (s : State) (p : Pass), s.ldp.pass_ = some p ∧ p.at_ = 4 ∧ p.legal = [] ∧ p.open_ = [] ∧ s.get
    F.LDP_STATUS_GROUP = 0) ∧
  (∃ (s : State), s.running .vl = true ∧ s.rail = 2 ∧ s.ldp.discharging = false) ∧
  (∃ (s : State) (d : Desc), (s.admits d
    { opcode := 0x0B01, priv := some 0, isl := .vl, params := [(24, 2), (26, 2)], staged := .len (d.n 26 2 * s.lineBytes) (d.n 26 2 * s.lineBytes) false, load := true }
    [(24, decide (s.get F.LDP_GEOM_HEIGHT < d.n 24 2 + d.n 26 2) || (List.range (min (d.n 26 2) 256)).any (fun i =>
    s.legalLine (d.n 24 2 + i)))])) ∧
  (∃ (s : State) (d : Desc), s.admits d
    { opcode := 0x0B02, priv := some 0, isl := .vl, params := [(24, 2)], staged := .len (s.get F.LDP_GEOM_HEIGHT * s.lineBytes) (s.get F.LDP_GEOM_HEIGHT * s.lineBytes) false, load := true }
    [(24, decide (511 < d.n 24 2))]) ∧
  (∃ (s : State) (d : Desc), s.admits d { opcode := 0x0B03, priv := some 0, isl := .vl, params := [(24, 2)] } [(24,
    decide (511 < d.n 24 2))]) :=
  ⟨⟨dirty, by decide +kernel⟩,
   ⟨{ railed with ldp := { railed.ldp with pass_ := some ⟨[], [1], 1, []⟩ } }, ⟨[], [1], 1, []⟩, by decide +kernel⟩,
   ⟨{ railed with ldp := { railed.ldp with pass_ := some ⟨[], [], 4, []⟩ } }, ⟨[], [], 4, []⟩, by decide +kernel⟩,
   ⟨railed, by decide +kernel⟩,
   ⟨smallPanel, cmdAt 0x0B01 [1, 0, 1, 0] 0x100000 1, by decide +kernel⟩,
   ⟨smallPanel, cmdAt 0x0B02 [1] 0x100000 4, by decide +kernel⟩,
   ⟨smallPanel, cmd 0x0B03 [1], by decide +kernel⟩⟩

/-- What the clauses of UpdateCommands ask for is met. -/
theorem test_witness_UpdateCommands :
  (∃ (s : State) (d : Desc), s.admits d
    { opcode := 0x0801, priv := some 4, isl := .mg, params := [(24, 4), (28, 4)], staged := .len 4 524288 false, load := true }
    [(28, decide (0x800000 < d.n 28 4))] ∧ d.n 24 4 = 0 ∧ d.n 16 4 ≤ d.n 28 4) ∧
  (∃ (s : State) (d : Desc), s.admits d
    { opcode := 0x0801, priv := some 4, isl := .mg, params := [(24, 4), (28, 4)], staged := .len 4 524288 false, load := true }
    [(28, decide (0x800000 < d.n 28 4))] ∧ d.n 24 4 ≠ 0 ∧ d.n 24 4 = s.reg R.UPD_INCOMING ∧ d.n 24 4 + d.n 16 4 ≤
    s.upd.total) ∧
  (∃ (s : State) (d : Desc), s.admits d
    { opcode := 0x0801, priv := some 4, isl := .mg, params := [(24, 4), (28, 4)], staged := .len 4 524288 false, load := true }
    [(28, decide (0x800000 < d.n 28 4))] ∧ d.n 24 4 ≠ 0 ∧ d.n 24 4 ≠ s.reg R.UPD_INCOMING) ∧
  (∃ (s : State) (d : Desc) (m : List Byte) (gs : List Nat), s.admits d
    { opcode := 0x0802, priv := some 4, isl := .mg, load := true } ∧ m = memRead s.mem (incomingBase + 96) (min
    (manifestLen (memRead s.mem (incomingBase + 96) 24) + 296) 0x800000) ∧ (gs = groupList.filter (fun g =>
    (manifestEntries m).any (fun e => groupOf e.1.val == g))) ∧ s.reg R.UPD_INCOMING ≠ 0 ∧ s.reg R.UPD_INCOMING =
    s.upd.total ∧ containerOk (memRead s.mem incomingBase 96 ++ m) s.upd.total = true ∧ enginesOk m = true ∧
    s.updating = false ∧ s.groupsServed gs = true ∧ (((s.mayUse 19 (s.get F.UPD_CFG_FLEET_SLOT) 2).filter (fun k =>
    k.type_ == 2)).isSome = true)) ∧
  (∃ (s : State) (d : Desc), s.admits d { opcode := 0x0803, priv := some 4, isl := .mg, params := [(24, 1)] } [(24,
    d.n 24 1 == 0 || (d.n 24 1).testBit 0)] ∧ s.activateFail (maskGroups (d.n 24 1)) 1 = none) ∧
  (∃ (s : State) (d : Desc), s.admits d { opcode := 0x0803, priv := some 4, isl := .mg, params := [(24, 1)] } [(24,
    d.n 24 1 == 0 || (d.n 24 1).testBit 0)] ∧ s.updating = true) ∧
  (∃ (s : State) (d : Desc), s.admits d { opcode := 0x0805, priv := some 4, isl := .mg, params := [(24, 1)] } [(24,
    d.n 24 1 == 0 || (d.n 24 1).testBit 0)] ∧ s.activateFail (maskGroups (d.n 24 1)) 4 = none ∧ (∀ e ∈ s.plan
    (maskGroups (d.n 24 1)), s.get (F.UPD_ENG_STAT_SEC_FLOOR e.1.val) ≤ fld e.2 8 2)) ∧
  (∃ (s : State) (d : Desc), s.admits d { opcode := 0x0804, priv := some 4, isl := .mg } ∧ s.get F.UPD_STATUS_STATE
    = 3) ∧
  (∃ (s : State) (d : Desc), s.admits d { opcode := 0x0804, priv := some 4, isl := .mg } ∧ s.get F.UPD_STATUS_STATE
    ≠ 3) :=
  ⟨⟨up, cmdAt 0x0801 [0, 0, 0, 0, 9] 0x100000 4, by decide +kernel⟩,
   ⟨{ up.setReg R.UPD_INCOMING 4 with upd := { up.upd with total := 9 } }, cmdAt 0x0801 [4] 0x100000 4, by decide +kernel⟩,
   ⟨up, cmdAt 0x0801 [4] 0x100000 4, by decide +kernel⟩,
   ⟨staging, cmd 0x0802 [], memRead staging.mem (incomingBase + 96) (min (manifestLen (memRead staging.mem (incomingBase + 96) 24) + 296) 0x800000), [1], by decide +kernel⟩,
   ⟨up.set (F.UPD_SLOT_STATE_B 1) 1, cmd 0x0803 [2], by decide +kernel⟩,
   ⟨up.set F.UPD_STATUS_STATE 2, cmd 0x0803 [2], by decide +kernel⟩,
   ⟨up.set (F.UPD_SLOT_STATE_B 1) 4, cmd 0x0805 [2], by decide +kernel⟩,
   ⟨up.set F.UPD_STATUS_STATE 3, cmd 0x0804 [], by decide +kernel⟩,
   ⟨up, cmd 0x0804 [], by decide +kernel⟩⟩

/-- What the clauses of UpdateSteps ask for is met. -/
theorem test_witness_UpdateSteps :
  (∃ (s : State) (e : Fin 20), s.mgUp = true ∧ s.get F.UPD_STATUS_STATE = 2 ∧ s.upd.done.length = s.upd.at_ ∧
    s.upd.steps[s.upd.at_]? = some e ∧ (s.noteReset 0x0C (engineIsl e.val)).prefixOk ((s.noteReset 0x0C (engineIsl
    e.val)).planRows (maskGroups s.upd.groups.toNat)) ((s.plan (maskGroups s.upd.groups.toNat)).take (s.upd.at_ +
    1)) = true ∧ (s.noteReset 0x0C (engineIsl e.val)).loadable e (1 - s.activeSlot (groupOf e.val)) = true) ∧
  (∃ (s : State) (e : Fin 20), s.mgUp = true ∧ s.get F.UPD_STATUS_STATE = 2 ∧ s.upd.done.length = s.upd.at_ ∧
    s.upd.steps[s.upd.at_]? = some e ∧ (s.noteReset 0x0C (engineIsl e.val)).prefixOk ((s.noteReset 0x0C (engineIsl
    e.val)).planRows (maskGroups s.upd.groups.toNat)) ((s.plan (maskGroups s.upd.groups.toNat)).take (s.upd.at_ +
    1)) = true) ∧
  (∃ (s : State) (e : Fin 20), s.mgUp = true ∧ s.get F.UPD_STATUS_STATE = 2 ∧ s.upd.done.head? = some e ∧
    s.upd.done.length = s.upd.at_ + 1 ∧ s.upd.at_ + 1 < s.upd.steps.length) ∧
  (∃ (s : State), s.mgUp = true ∧ s.get F.UPD_STATUS_STATE = 2 ∧ s.upd.done.length = s.upd.at_ + 1) ∧
  (∃ (s : State) (e : Fin 20), s.mgUp = true ∧ 8 ≤ e.val ∧ (s.get (F.UPD_ENG_STAT_BOOT e.val) = 1 ∨ s.get
    (F.UPD_ENG_STAT_BOOT e.val) = 3)) ∧
  (∃ (s : State), s.mgUp = true ∧ s.get F.UPD_STATUS_STATE = 3) :=
  ⟨⟨stepping, 8, by decide +kernel⟩,
   ⟨stepping, 8, by decide +kernel⟩,
   ⟨{ stepping with upd := { stepping.upd with done := [8], steps := [8, 9] } }, 8, by decide +kernel⟩,
   ⟨{ stepping with upd := { stepping.upd with done := [8] } }, by decide +kernel⟩,
   ⟨up.set (F.UPD_ENG_STAT_BOOT 8) 1, 8, by decide +kernel⟩,
   ⟨up.set F.UPD_STATUS_STATE 3, by decide +kernel⟩⟩

end Sys2Proof.Tests
end

section
/-! SUPPORT. A register write of the host: the gate, the checks of the settings tables and the plain effect of R7. -/

namespace Sys2Proof.Machine

/-! ### The gate of a write (R6, R22) -/

/-- A register's word offset: its row of the register table, served by the row's island. -/
abbrev RegisterAt (off : Nat) (d : RegDesc) : Prop :=
  off < 2 ^ 32 ∧ off % 4 = 0 ∧ regAt off = some d ∧ islAt off = d.isl

theorem State.serves_of_running {s : State} {off : Nat} {i : Isl} (h : islAt off = i) (hr : s.running i = true) :
    s.serves off = true := by
  by_cases hm : i = .mg
  · subst hm; exact State.serves_mg h hr
  · exact State.serves_of h hm hr

/-- An aligned word access to a register whose island runs takes the register's own action. -/
theorem registerWrite_registerAt {s : State} {off : Nat} {d : RegDesc} (h : RegisterAt off d) (v : Word)
    (hi : s.running .hi = true) (hr : s.running d.isl = true) :
    exec (.registerWrite (BitVec.ofNat 32 off) 4 v) s = .next (s.hostWrite off v.toNat) := by
  obtain ⟨hlt, h4, hrow, hisl⟩ := h
  have hoff : (BitVec.ofNat 32 off).toNat = off := by rw [BitVec.toNat_ofNat, Nat.mod_eq_of_lt hlt]
  have ha : assigned off = true := by rw [assigned, hrow, Option.isSome_some, Bool.true_or, Bool.true_or]
  show execRegisterWrite _ 4 v s = _
  unfold execRegisterWrite
  rw [hoff, State.guard_ok hi h4 ha (State.serves_of_running hisl hr)]

theorem registerWrite_refused {s : State} {off : Word} {size : Nat} (v : Word) (hi : s.running .hi = true)
    (h : ¬ (off.toNat % 4 = 0 ∧ size = 4 ∧ assigned off.toNat = true ∧ s.serves off.toNat = true)) :
    exec (.registerWrite off size v) s = .next (s.accessError off.toNat) :=
  congrArg Host.Outcome.next (State.guard_refused hi h)

theorem registerWrite_hiDown {s : State} (off : Word) (size : Nat) (v : Word) (hi : s.running .hi = false) :
    exec (.registerWrite off size v) s = .next s :=
  congrArg Host.Outcome.next (State.guard_hiDown hi)

/-! ### Fields by their access types (R7, R10) -/

/-- A word-wide field written leaves nothing of the old word. -/
theorem putBits_word {x v : Nat} (hx : x < 2 ^ 32) (hv : v < 2 ^ 32) : putBits x 31 0 v = v := by
  rw [putBits_eq]
  omega

/-- The two halves of a word written one after the other make up the word. -/
theorem putBits_halves {x v : Nat} (hx : x < 2 ^ 32) (hv : v < 2 ^ 32) :
    putBits (putBits x 31 16 (bitsOf v 31 16)) 15 0 (bitsOf v 15 0) = v := by
  simp only [putBits_eq, bitsOf, Nat.shiftRight_eq_div_pow]
  omega

theorem bitsOf_word {x : Nat} (hx : x < 2 ^ 32) : bitsOf x 31 0 = x := by
  rw [bitsOf, Nat.shiftRight_zero, Nat.mod_eq_of_lt hx]

theorem applyFields_rwWord (b : Bool) {old v : Nat} (ho : old < 2 ^ 32) (hv : v < 2 ^ 32) :
    applyFields b [⟨31, 0, .rw⟩] old v = (v, false) := by
  show (putBits old 31 0 (bitsOf v 31 0), false) = _
  rw [bitsOf_word hv, putBits_word ho hv]

theorem applyFields_w1cWord (b : Bool) {old : Nat} (v : Nat) (ho : old < 2 ^ 32) (hv : v < 2 ^ 32) :
    applyFields b [⟨31, 0, .w1c⟩] old v = (old - (old &&& v), false) := by
  show (putBits old 31 0 (bitsOf old 31 0 - (bitsOf old 31 0 &&& bitsOf v 31 0)), false) = _
  rw [bitsOf_word hv, bitsOf_word ho, putBits_word ho (by omega)]

theorem applyFields_sealedHalves {old v : Nat} (ho : old < 2 ^ 32) (hv : v < 2 ^ 32) :
    applyFields true [⟨31, 16, .rws⟩, ⟨15, 0, .rws⟩] old v = (v, false) := by
  show (putBits (putBits old 31 16 (bitsOf v 31 16)) 15 0 (bitsOf v 15 0), false) = _
  rw [putBits_halves ho hv]

/-- A sealed field takes its value while the seal is open. -/
theorem applyFields_unsealed (hi lo old v : Nat) :
    applyFields true [⟨hi, lo, .rws⟩] old v = (putBits old hi lo (bitsOf v hi lo), false) := rfl

/-- A sealed field that would change while the seal is closed keeps its value, and the write counts as refused. -/
theorem applyFields_sealed {hi lo old v : Nat} (h : bitsOf v hi lo ≠ bitsOf old hi lo) :
    applyFields false [⟨hi, lo, .rws⟩] old v = (old, true) := by
  show (old, false || bitsOf v hi lo != bitsOf old hi lo) = _
  rw [Bool.false_or, bne_iff_ne.2 h]

/-- A plain write of a register, by what its fields make of the word. -/
theorem State.plainWrite_eq {s : State} {off v w : Nat} {refused : Bool} {d : RegDesc} (h : RegisterAt off d)
    (hw : applyFields s.sealOpen d.fields (s.reg off) v = (w, refused)) :
    s.plainWrite off v = if refused then (s.setReg off w).raise { src := 1 } else s.setReg off w := by
  obtain ⟨-, -, hrow, -⟩ := h
  unfold State.plainWrite
  rw [hrow]
  simp only [hw]

/-- A boundary setting waits with what its fields make of the word. -/
theorem State.boundaryWrite_eq {s : State} {off v w : Nat} {refused : Bool} {d : RegDesc} (h : RegisterAt off d)
    (hw : applyFields s.sealOpen d.fields (s.reg off) v = (w, refused)) :
    s.boundaryWrite off v = if refused then (s.setWaiting off w).raise { src := 1 } else s.setWaiting off w := by
  obtain ⟨-, -, hrow, -⟩ := h
  unfold State.boundaryWrite
  rw [hrow]
  simp only [hw]

/-! ### The checks of the settings tables -/

/-- The checks of the tables and rules that a write of an offset has to pass. -/
def checksAt (off : Nat) : List (State → Nat → Bool) :=
  writeRules.filterMap (fun r => (idxOf off r.base r.stride r.count).map (fun n s v => r.ok s n v))

theorem writeOk_eq_checksAt (s : State) (off v : Nat) : s.writeOk off v = (checksAt off).all (fun ok => ok s v) := by
  unfold State.writeOk checksAt
  induction writeRules with
  | nil => rfl
  | cons r t ih =>
    rw [List.all_cons, ih, List.filterMap_cons]
    unfold WriteRule.admits
    cases idxOf off r.base r.stride r.count <;> rfl

/-! ### Writes without an action of their own -/

/-- Offsets outside HI and SF that no rule gives an action of their own: the checks of the tables and the plain effect
of R7, or the wait for the boundary (R48), are all that a write does at first. -/
abbrev PlainOffset (off : Nat) : Prop :=
  blockOf off ≠ 1 ∧ blockOf off ≠ 7 ∧
    off ∉ [R.MET_STEST_CTRL, R.VOT_CTRL, R.LSW_CMD, R.LSW_LATCH, R.SAF_RESET_REQ, R.LDP_CTRL] ∧
    idxOf off (R.VOT_TOL 0) 4 8 = none

theorem State.hostWrite_plainOffset {off : Nat} (h : PlainOffset off) (s : State) (v : Nat) :
    s.hostWrite off v =
      if s.writeOk off v = false then s.discard
      else if isBoundarySetting off then s.boundaryWrite off v
      else ((s.plainWrite off v).afterWrite off (s.reg off)).redraw off := by
  obtain ⟨hHi, hSf, hList, hTol⟩ := h
  simp only [List.mem_cons, List.not_mem_nil, or_false, not_or] at hList
  obtain ⟨h1, h2, h3, h4, h5, h6⟩ := hList
  unfold State.hostWrite
  rw [if_neg hHi, if_neg h1, if_neg h2, if_neg h3, if_neg h4, if_neg h5, if_neg hSf, if_neg h6, hTol]

/-- Offsets whose new value nothing else follows. -/
abbrev NoSequel (off : Nat) : Prop :=
  idxOf off (R.TPT_CFG 0) 64 8 = none ∧ idxOf off (R.TPT_LIMIT 0) 64 8 = none ∧
    idxOf off (R.FAB_PORT_CFG 0) 16 4 = none ∧
    off ∉ [R.FAB_COLL_CFG, R.FAB_KEY_CFG, R.FAB_PTP_CFG, R.FAB_PAIR_CFG, R.MTL_CFG, R.MTL_TX, R.FAB_ID_CFG, R.FAB_ADDR_CFG]

theorem State.redraw_afterWrite_noSequel {off : Nat} (h : NoSequel off) (s : State) (old : Nat) :
    (s.afterWrite off old).redraw off = s := by
  obtain ⟨hCfg, hLimit, hPort, hList⟩ := h
  simp only [List.mem_cons, List.not_mem_nil, or_false, not_or] at hList
  obtain ⟨hColl, hKey, hPtp, hPair, hMtl, hTx, hId, hAddr⟩ := hList
  have ha : s.afterWrite off old = s := by
    unfold State.afterWrite
    simp only [hCfg, hLimit, hPort, hColl, hKey, hPtp, hPair, hMtl, hTx, if_false, ite_self]
  rw [ha, State.redraw, if_neg (by simp only [hId, hAddr, hKey, or_self, not_false_iff])]

/-- An admitted write of a register without an action or a sequel has the plain effect of R7 alone. -/
theorem State.hostWrite_plainWrite {s : State} {off v : Nat} (h : PlainOffset off) (hn : NoSequel off)
    (hok : s.writeOk off v = true) (hb : isBoundarySetting off = false) : s.hostWrite off v = s.plainWrite off v := by
  rw [State.hostWrite_plainOffset h, if_neg (by rw [hok]; decide), if_neg (by rw [hb]; decide),
    State.redraw_afterWrite_noSequel hn]

/-- An admitted write of a boundary setting waits for the boundary (R48). -/
theorem State.hostWrite_boundaryWrite {s : State} {off v : Nat} (h : PlainOffset off) (hok : s.writeOk off v = true)
    (hb : isBoundarySetting off = true) : s.hostWrite off v = s.boundaryWrite off v := by
  rw [State.hostWrite_plainOffset h, if_neg (by rw [hok]; decide), if_pos hb]

/-- A write that a table does not admit is discarded. -/
theorem State.hostWrite_discard {s : State} {off v : Nat} (h : PlainOffset off) (hok : s.writeOk off v = false) :
    s.hostWrite off v = s.discard := by
  rw [State.hostWrite_plainOffset h, if_pos hok]

/-- Offsets of the HI block without an action of their own: neither HI_CTRL nor a register of a ring queue, a
doorbell, a word of the MSI-X table or a register of the data port. -/
abbrev PlainHiOffset (off : Nat) : Prop :=
  blockOf off = 1 ∧ off ≠ R.HI_CTRL ∧ ringOf off = none ∧ ¬ (0x11000 ≤ off ∧ off < 0x11090) ∧ inMsixTable off = false ∧
    ¬ (R.HI_DP_ADDR_LO ≤ off ∧ off ≤ R.HI_DP_STRIDE)

theorem State.hostWrite_plainHiOffset {off : Nat} (h : PlainHiOffset off) (s : State) (v : Nat) :
    s.hostWrite off v = s.plainWrite off v := by
  obtain ⟨hHi, hCtrl, hRing, hBell, hMsix, hDp⟩ := h
  unfold State.hostWrite State.writeHi
  rw [if_pos hHi, if_neg hCtrl, hRing]
  simp only [if_neg hBell, hMsix, Bool.false_eq_true, if_false, if_neg hDp]

/-! ### Single registers -/

theorem registerAt_HI_EV_MASK (k : Fin 8) :
    RegisterAt (R.HI_EV_MASK k.val) ⟨0x10400, 0x4, 8, .hi, 0xFFFFFFFF, [⟨31, 0, .rw⟩]⟩ := by
  revert k; decide

theorem registerAt_HI_IRQ_PEND_LO : RegisterAt R.HI_IRQ_PEND_LO ⟨0x10604, 0x0, 1, .hi, 0, [⟨31, 0, .w1c⟩]⟩ := by decide

theorem registerAt_MG_PART : RegisterAt R.MG_PART ⟨0x0000C, 0x0, 1, .mg, 0x45, []⟩ := by decide

theorem registerAt_BIL_TIME_CFG : RegisterAt R.BIL_TIME_CFG ⟨0x31018, 0x0, 1, .vl, 0x18, [⟨7, 0, .rws⟩]⟩ := by decide

theorem registerAt_MET_FL_EXP (n : Fin 8) :
    RegisterAt (R.MET_FL_EXP n.val) ⟨0x20310, 0x40, 8, .vl, 0x3E803E80, [⟨31, 16, .rws⟩, ⟨15, 0, .rws⟩]⟩ := by
  revert n; decide

theorem plainHiOffset_HI_EV_MASK (k : Fin 8) : PlainHiOffset (R.HI_EV_MASK k.val) := by revert k; decide

theorem plainOffset_MET_FL_EXP (n : Fin 8) :
    PlainOffset (R.MET_FL_EXP n.val) ∧ isBoundarySetting (R.MET_FL_EXP n.val) = true := by revert n; decide

theorem writeOk_MG_PART (s : State) (v : Nat) : s.writeOk R.MG_PART v = true := by
  rw [writeOk_eq_checksAt, show checksAt R.MG_PART = [] from rfl, List.all_nil]

theorem writeOk_BIL_TIME_CFG (s : State) (v : Nat) : s.writeOk R.BIL_TIME_CFG v = within v 7 0 1 168 := by
  rw [writeOk_eq_checksAt, show checksAt R.BIL_TIME_CFG = [fun _ v => within v 7 0 1 168] from rfl, List.all_cons,
    List.all_nil, Bool.and_true]

/-- MET_FL_EXP_n is checked against the point's session alone (R82). -/
theorem writeOk_MET_FL_EXP (s : State) (n : Fin 8) (v : Nat) :
    s.writeOk (R.MET_FL_EXP n.val) v = !(busyState (s.sess n)) := by
  have hc : checksAt (R.MET_FL_EXP n.val) = [fun s _ => !(s.locked n.val)] := by fin_cases n <;> rfl
  rw [writeOk_eq_checksAt, hc]
  simp [State.locked]

theorem within_iff {v hi lo least most : Nat} :
    within v hi lo least most = true ↔ least ≤ bitsOf v hi lo ∧ bitsOf v hi lo ≤ most := by
  rw [within, Bool.and_eq_true, decide_eq_true_iff, decide_eq_true_iff]

/-! ### The register accesses of the statement -/

section
variable {s : State} (v : Word) (hi : s.running .hi = true)
include hi

/-- An RW register takes the word (R7). -/
theorem registerWrite_HI_EV_MASK (k : Fin 8) :
    exec (.registerWrite (BitVec.ofNat 32 (R.HI_EV_MASK k.val)) 4 v) s = .next (s.setReg (R.HI_EV_MASK k.val) v.toNat) := by
  rw [registerWrite_registerAt (registerAt_HI_EV_MASK k) v hi hi,
    State.hostWrite_plainHiOffset (plainHiOffset_HI_EV_MASK k),
    State.plainWrite_eq (registerAt_HI_EV_MASK k) (applyFields_rwWord _ (s.reg_lt _) v.isLt), if_neg Bool.false_ne_true]

/-- A W1C register clears the bits written as 1 (R7). -/
theorem registerWrite_HI_IRQ_PEND_LO :
    exec (.registerWrite (BitVec.ofNat 32 R.HI_IRQ_PEND_LO) 4 v) s =
      .next (s.setReg R.HI_IRQ_PEND_LO (s.reg R.HI_IRQ_PEND_LO - (s.reg R.HI_IRQ_PEND_LO &&& v.toNat))) := by
  rw [registerWrite_registerAt registerAt_HI_IRQ_PEND_LO v hi hi, State.hostWrite_plainHiOffset (by decide),
    State.plainWrite_eq registerAt_HI_IRQ_PEND_LO (applyFields_w1cWord _ _ (s.reg_lt _) v.isLt), if_neg Bool.false_ne_true]

/-- A register that is read-only in all its fields is written with its own value (R7). -/
theorem registerWrite_MG_PART (hm : s.running .mg = true) :
    exec (.registerWrite (BitVec.ofNat 32 R.MG_PART) 4 v) s = .next (s.setReg R.MG_PART (s.reg R.MG_PART)) := by
  rw [registerWrite_registerAt registerAt_MG_PART v hi hm,
    State.hostWrite_plainWrite (by decide) (by decide) (writeOk_MG_PART _ _) (by decide),
    State.plainWrite_eq (w := s.reg R.MG_PART) (refused := false) registerAt_MG_PART rfl, if_neg Bool.false_ne_true]

/-- An admitted write of BIL_TIME_CFG has the plain effect of R7 and R10. -/
theorem registerWrite_BIL_TIME_CFG (hv : s.running .vl = true) (h : within v.toNat 7 0 1 168 = true) :
    exec (.registerWrite (BitVec.ofNat 32 R.BIL_TIME_CFG) 4 v) s = .next (s.plainWrite R.BIL_TIME_CFG v.toNat) := by
  rw [registerWrite_registerAt registerAt_BIL_TIME_CFG v hi hv,
    State.hostWrite_plainWrite (by decide) (by decide) ((writeOk_BIL_TIME_CFG _ _).trans h) (by decide)]

theorem registerWrite_BIL_TIME_CFG_discard (hv : s.running .vl = true) (h : within v.toNat 7 0 1 168 = false) :
    exec (.registerWrite (BitVec.ofNat 32 R.BIL_TIME_CFG) 4 v) s = .next s.discard := by
  rw [registerWrite_registerAt registerAt_BIL_TIME_CFG v hi hv,
    State.hostWrite_discard (by decide) ((writeOk_BIL_TIME_CFG _ _).trans h)]

/-- A boundary setting under the open seal waits for the boundary with the whole word (R10, R48, R82). -/
theorem registerWrite_MET_FL_EXP (n : Fin 8) (hv : s.running .vl = true) (ho : s.sealOpen = true)
    (hb : busyState (s.sess n) = false) :
    exec (.registerWrite (BitVec.ofNat 32 (R.MET_FL_EXP n.val)) 4 v) s =
      .next (s.setWaiting (R.MET_FL_EXP n.val) v.toNat) := by
  obtain ⟨hplain, hboundary⟩ := plainOffset_MET_FL_EXP n
  have hok : s.writeOk (R.MET_FL_EXP n.val) v.toNat = true := by rw [writeOk_MET_FL_EXP, hb, Bool.not_false]
  rw [registerWrite_registerAt (registerAt_MET_FL_EXP n) v hi hv, State.hostWrite_boundaryWrite hplain hok hboundary,
    State.boundaryWrite_eq (registerAt_MET_FL_EXP n) (ho ▸ applyFields_sealedHalves (s.reg_lt _) v.isLt),
    if_neg Bool.false_ne_true]

end

/-- A register written with its own value reads as before, as every other does. -/
theorem State.reg_setReg_own (s : State) (o off : Nat) : (s.setReg o (s.reg o)).reg off = s.reg off := by
  rw [State.reg_setReg, Nat.mod_eq_of_lt (s.reg_lt o)]
  split
  · next h => rw [h]
  · rfl

/-- Settles O19: the gate of R6 and R22, then for each kind of register the plain effect of R7, the seal of R10, the
discard of a value out of range, and the wait of R48. -/
theorem registerAccess : Obligations.RegisterAccess := by
  unfold Obligations.RegisterAccess
  refine ⟨fun s off size v hi h => registerWrite_refused v hi h, fun s off size v hi => registerWrite_hiDown off size v hi,
    fun s k v hi => registerWrite_HI_EV_MASK v hi k, fun s v hi => registerWrite_HI_IRQ_PEND_LO v hi, ?readOnly,
    ?sealed, ?unsealed, ?outOfRange, fun s n v hi hv ho hb => registerWrite_MET_FL_EXP v hi n hv ho hb⟩
  case readOnly =>
    intro s v hi hm
    exact ⟨_, registerWrite_MG_PART v hi hm, s.reg_setReg_own _, rfl, rfl⟩
  case sealed =>
    intro s v hi hv hc h1 h168 hne
    rw [registerWrite_BIL_TIME_CFG v hi hv (within_iff.2 ⟨h1, h168⟩),
      State.plainWrite_eq registerAt_BIL_TIME_CFG (hc ▸ applyFields_sealed hne), if_pos rfl]
    rfl
  case unsealed =>
    intro s v hi hv ho h1 h168
    rw [registerWrite_BIL_TIME_CFG v hi hv (within_iff.2 ⟨h1, h168⟩),
      State.plainWrite_eq registerAt_BIL_TIME_CFG (ho ▸ applyFields_unsealed ..), if_neg Bool.false_ne_true]
    rfl
  case outOfRange =>
    intro s v hi hv h
    refine registerWrite_BIL_TIME_CFG_discard v hi hv (Bool.eq_false_iff.2 fun hw => ?_)
    obtain ⟨h1, h168⟩ := within_iff.1 hw
    omega

end Sys2Proof.Machine
end

section
/-! SUPPORT. The quantum boundary: device time enters the next quantum, and nothing waits any more. -/

namespace Sys2Proof.Machine

/-! ### Device time (R15, R160) -/

/-- What a synchronisation does to the clock: the newest one is now (R159). -/
theorem State.synced_time (s : State) (authentic : Bool) :
    (s.synced authentic).time = { s.time with lastSync := some s.time.now } := by
  unfold State.synced
  extract_lets clock stamped
  split
  · rfl
  · exact (stamped.setQuality_keeps 0).time rfl

/-- The slew that a quantum takes of what is left, 10 µs at most (R160). -/
def TimeS.slewStep (t : TimeS) : Int := max (-10) (min 10 t.slewLeft)

/-- The servo's whole microseconds of a quantum (R160; log 29). -/
def TimeS.servoStep (t : TimeS) : Int := Int.tdiv (t.servoFrac + 10000 * t.servoPpm) 1000000

/-- Device time of the next quantum's start. -/
def TimeS.nextStart (t : TimeS) : Nat :=
  ((t.qStart : Int) + 10000 + t.slewStep + t.servoStep + (t.stepPend.getD (0, false)).1).toNat

/-- The clock in the next quantum. -/
def TimeS.nextQuantum (t : TimeS) : TimeS :=
  { t with
    quantum := t.quantum + 1
    qStart := t.nextStart
    usInQ := 0
    slewLeft := t.slewLeft - t.slewStep
    stepPend := none
    servoFrac := t.servoFrac + 10000 * t.servoPpm - 1000000 * t.servoStep
    starts := ((t.quantum + 1, t.nextStart) :: t.starts).take 130
    lastSync := if t.stepPend.any (fun x => x.2) then some t.now else t.lastSync }

theorem State.advanceTime_time (s : State) : s.advanceTime.time = s.time.nextQuantum := by
  unfold State.advanceTime TimeS.nextQuantum
  by_cases h : s.time.stepPend.any (fun x => x.2) = true
  · simp only [h, if_true, State.synced_time]; rfl
  · simp only [h]; rfl

/-- The clock at the end of its quantum. -/
def TimeS.atEnd (t : TimeS) : TimeS := { t with now := t.now + (10000 - t.usInQ), usInQ := 10000 }

/-- What happens at a boundary before device time advances: the quantum ends in the channels. -/
def State.endQuantum (s : State) : State :=
  chans.foldl (fun s c => s.chanBoundary c) { s with time := s.time.atEnd }.captureGap

theorem State.endQuantum_time (s : State) : s.endQuantum.time = s.time.atEnd :=
  foldl_of (Q := fun x : State => x.time = s.time.atEnd) ((State.captureGap_keeps _).time rfl) fun x c _ hx => ((x.chanBoundary_keeps c).time rfl).trans hx

theorem State.boundary_eq (s : State) :
    s.boundary = ((s.endQuantum.advanceTime.sendField s.time.quantum).applySettings).captureDone.voterBoundary := rfl

theorem State.boundary_time (s : State) : s.boundary.time = s.time.atEnd.nextQuantum := by
  rw [State.boundary_eq, (State.voterBoundary_keeps _).time rfl, (State.captureDone_keeps _).time rfl,
    (State.applySettings_keeps _).time rfl, (State.sendField_keeps _ _).time rfl, State.advanceTime_time,
    State.endQuantum_time]

/-! ### Settings that take effect (R48, R61) -/

theorem State.applyType_waiting (s : State) (n : Fin 8) : (s.applyType n).met.waiting = s.met.waiting := by
  unfold State.applyType
  split
  · rfl
  · dsimp only
    rw [(State.showPilot_keeps _ n).met rfl]
    dsimp only
    split <;> rfl

/-- After a boundary's settings have taken effect none waits, and no calibration set does. -/
theorem State.applySettings_waiting (s : State) :
    s.applySettings.met.waiting = [] ∧ s.applySettings.met.calPend = none := by
  unfold State.applySettings
  extract_lets written types met emptied cal typed shown
  have htyped : typed.met.waiting = [] :=
    foldl_of (Q := fun x : State => x.met.waiting = []) rfl fun x n _ hx => (x.applyType_waiting n).trans hx
  have hshown : shown.met.waiting = [] :=
    ite_of (Q := fun x : State => x.met.waiting = []) htyped
      ((congrArg MetS.waiting (typed.showRate_keeps.met rfl)).trans htyped)
  exact ⟨hshown, rfl⟩

/-- A capture that completes leaves settings and calibration set as they are. -/
theorem State.captureDone_waiting (s : State) :
    s.captureDone.met.waiting = s.met.waiting ∧ s.captureDone.met.calPend = s.met.calPend := by
  unfold State.captureDone
  split
  · exact ⟨rfl, rfl⟩
  · split <;> exact ⟨rfl, rfl⟩

theorem State.boundary_waiting (s : State) : s.boundary.met.waiting = [] ∧ s.boundary.met.calPend = none := by
  obtain ⟨hwait, hcal⟩ := (s.endQuantum.advanceTime.sendField s.time.quantum).applySettings_waiting
  obtain ⟨kwait, kcal⟩ := (s.endQuantum.advanceTime.sendField s.time.quantum).applySettings.captureDone_waiting
  rw [State.boundary_eq, (State.voterBoundary_keeps _).met rfl]
  exact ⟨kwait.trans hwait, kcal.trans hcal⟩

/-- Settles O25: the clock after a boundary is that of the next quantum, and nothing waits. -/
theorem quantumBoundary : Obligations.QuantumBoundary := by
  unfold Obligations.QuantumBoundary
  refine ⟨fun s h => ⟨s.boundary, congrArg Host.Outcome.next (if_pos h), ?_⟩,
    fun s h => congrArg Host.Outcome.next (if_neg (by rw [h]; decide))⟩
  obtain ⟨hwait, hcal⟩ := s.boundary_waiting
  rw [State.boundary_time]
  exact ⟨rfl, rfl, rfl, rfl, rfl, rfl, hwait, hcal⟩

end Sys2Proof.Machine
end

section
/-! SUPPORT. The module at reset: what the register lines state, islands held, load switches off. -/

namespace Sys2Proof.Machine

/-- At reset a register reads what its line states (R422). -/
theorem State.reset_reg (off : Nat) : State.reset.reg off = (resetAt off).toNat := rfl

theorem State.reset_islState (i : Isl) : State.reset.islState i = 3 := by
  cases i <;> decide

theorem State.reset_lsOn (n : Fin 16) : State.reset.lsOn n = false := by
  revert n; decide

/-- Settles O3: the register lines are finitely many, each read from the table; islands and load switches are fields
of registers. -/
theorem resetValues : Obligations.ResetValues := by
  unfold Obligations.ResetValues
  simp only [State.reset_reg]
  iterate 55 refine And.intro (by decide) ?_
  exact ⟨State.reset_islState, rfl, rfl, State.reset_lsOn⟩

end Sys2Proof.Machine
end

section
/-! SUPPORT. What stays readable through an operation: from the rows that it keeps (Laws/Keeps.lean) to fields and
flags, and what the shared records hold after a write. -/

namespace Sys2Proof.Machine

theorem Keeps.get {P B : Nat} {s t : State} (h : Keeps P B s t) (f : Fld) (hb : B.testBit (rowOf f.off) = false) :
    t.get f = s.get f := by rw [State.get, h.reg _ hb, State.get]

theorem Keeps.flag {P B : Nat} {s t : State} (h : Keeps P B s t) (f : Fld) (hb : B.testBit (rowOf f.off) = false) :
    t.flag f = s.flag f := by rw [State.flag, h.get f hb, State.flag]

theorem Keeps.refFault {P B : Nat} {s t : State} (h : Keeps P B s t)
    (hb : B.testBit (rowOf R.MG_CLKMON_STATUS) = false) : t.refFault = s.refFault := h.flag _ hb

/-! ### The fault record (R43) and time quality (R159) -/

theorem State.get_fault_class (s : State) (cls : Nat) (i : Isl) :
    (s.fault cls i).get F.MG_FAULT_LAST_CLASS = cls % 2 ^ (F.MG_FAULT_LAST_CLASS.hi + 1 - F.MG_FAULT_LAST_CLASS.lo) := by
  unfold State.fault State.wrap
  rw [State.get_set_ne _ _ (by decide) (by decide), State.get_set_ne _ _ (by decide) (by decide),
    State.get_set_self _ _ _ (by decide)]

theorem State.get_fault_island (s : State) (cls : Nat) (i : Isl) :
    (s.fault cls i).get F.MG_FAULT_LAST_ISLAND = i.code := by
  unfold State.fault State.wrap
  rw [State.get_set_ne _ _ (by decide) (by decide), State.get_set_of_lt _ (by decide) (by cases i <;> decide)]

/-- A change of time quality shows, whether or not its log entry and event find room. -/
theorem State.setQuality_quality (s : State) {v : Nat} (hv : v < 4) : (s.setQuality v).quality = v := by
  unfold State.setQuality
  extract_lets old changed
  split
  next h => exact h.symm
  next =>
    calc ((changed.log _).raise _).quality = (changed.log _).quality := (State.raise_keeps _ _).get _ (by decide)
      _ = changed.quality := (State.log_keeps _ _).get _ (by decide)
      _ = v := State.get_set_of_lt _ (by decide) hv

end Sys2Proof.Machine
end

section
/-! SUPPORT. Faults of islands (R29 to R43): what each does when it is judged. -/

namespace Sys2Proof.Machine

/-! ### Crossings -/

/-- The first stall for a millisecond fences its crossing alone. -/
theorem State.stall_first (s : State) (snd rcv : Isl) (hs : s.isl.stalls = []) :
    s.stall snd rcv true =
      { ((((s.count F.MG_XING_STALL_COUNT 1).set F.MG_XING_STALL_LAST_ID (crossingId snd rcv)).raise
          { src := 2, unit_ := rcv.code }).fault 4 rcv).raise { src := 3, unit_ := rcv.code } with
        isl := { s.isl with fenced := s.isl.fenced ++ [(snd, rcv)], stalls := [(rcv, s.time.now)] } } := by
  have hisl : ∀ e e' : Ev, ((((s.count F.MG_XING_STALL_COUNT 1).set F.MG_XING_STALL_LAST_ID (crossingId snd rcv)).raise
      e).fault 4 rcv |>.raise e').isl = s.isl := fun e e' =>
    ((State.raise_keeps _ e').isl rfl).trans ((State.raise_keeps _ e).isl rfl)
  have htime : ∀ e e' : Ev, ((((s.count F.MG_XING_STALL_COUNT 1).set F.MG_XING_STALL_LAST_ID (crossingId snd rcv)).raise
      e).fault 4 rcv |>.raise e').time = s.time := fun e e' =>
    ((State.raise_keeps _ e').time rfl).trans ((State.raise_keeps _ e).time rfl)
  simp only [State.stall, if_true, hisl, htime, hs, List.filter_nil, List.any_nil, Bool.false_eq_true, if_false]

theorem State.reopen_fenced {s : State} {snd rcv : Isl} (hf : s.isl.fenced.contains (snd, rcv) = true)
    (hs : s.running snd = true) (hr : s.running rcv = true) (hv : rcv ≠ .vl) :
    s.reopen snd rcv = { s with isl := { s.isl with fenced := s.isl.fenced.filter (fun c => c != (snd, rcv)) } } := by
  simp only [State.reopen, hf, hs, hr, Bool.and_self, if_true, if_neg hv]

/-! ### Clocks -/

/-- A clock fault that is judged; whether it fences waits for the reference alone (R38, R39). -/
theorem execClockMonitorFault_local {s : State} {i : Isl} (hi : i ≠ .tb) :
    execClockMonitorFault i false s = .next
      (if s.refFault then ((s.setBit F.MG_CLKMON_STATUS_LOCAL i.code true).raise { src := 6, unit_ := i.code }).fault 3 i
       else (((s.setBit F.MG_CLKMON_STATUS_LOCAL i.code true).raise { src := 6, unit_ := i.code }).fault 3 i).fenceIsland
         i 7) := by
  have href : (((s.setBit F.MG_CLKMON_STATUS_LOCAL i.code true).raise { src := 6, unit_ := i.code }).fault 3 i).refFault =
      s.refFault := by
    rw [(State.fault_keeps _ _ _).refFault (by decide), (State.raise_keeps _ _).refFault (by decide), State.refFault,
      State.flag, State.setBit, State.get_set_ne _ _ (by decide) (by decide), State.refFault, State.flag]
  simp only [execClockMonitorFault, hi, Bool.false_eq_true, false_and, or_self, if_false, href]

/-- A reference fault, up to the quality of time. -/
def State.referenceLost (s : State) : State :=
  (((s.set F.MG_CLKMON_STATUS_REF_FAULT 1).fault 3 .tb).raise { src := 11 }).setQuality 2

/-- What a reference fault stops leaves the fault record, the clock monitors and time quality as they are. -/
theorem State.referenceFault_keeps_record (s : State) :
    Keeps 99824 0x800000000100000000250588030000000000000000000000018088800000 s.referenceLost s.referenceFault := by
  unfold State.referenceFault
  extract_lets recorded degraded chA heldA chB heldB settled dark
  have hsettled : Keeps 99824 0x800000000100000000250588030000000000000000000000018088800000 s.referenceLost settled :=
    .app (State.safSettle_keeps _) rfl rfl <| .app (State.drive_keeps _ _) rfl rfl <|
      .app (State.setCh_keeps _ _ _) rfl rfl <| .app (State.setCh_keeps _ _ _) rfl rfl .rfl
  have hdark : Keeps 99824 0x800000000100000000250588030000000000000000000000018088800000 s.referenceLost dark :=
    foldl_of hsettled fun _ _ _ h => .app (State.turnOff_keeps _ _) rfl rfl h
  exact State.ap_keeps rfl rfl hdark fun _ h =>
    foldl_of h fun _ _ _ h => .app (State.sessSafety_keeps _ _) rfl rfl h

/-- Under a reference fault REF_FAULT stands, the fault record names TB's clock and time has no quality (R39). -/
theorem State.referenceFault_record (s : State) :
    s.referenceFault.get F.MG_CLKMON_STATUS_REF_FAULT = 1 ∧ s.referenceFault.get F.MG_FAULT_LAST_CLASS = 3 ∧
      s.referenceFault.get F.MG_FAULT_LAST_ISLAND = Isl.code .tb ∧ s.referenceFault.quality = 2 := by
  have hlost := s.referenceFault_keeps_record
  have hquality := (((s.set F.MG_CLKMON_STATUS_REF_FAULT 1).fault 3 .tb).raise { src := 11 }).setQuality_keeps 2
  have hraise := ((s.set F.MG_CLKMON_STATUS_REF_FAULT 1).fault 3 .tb).raise_keeps { src := 11 }
  refine ⟨?_, ?_, ?_, ?_⟩
  · rw [hlost.get _ (by decide), State.referenceLost, hquality.get _ (by decide), hraise.get _ (by decide),
      (State.fault_keeps _ _ _).get _ (by decide), State.get_set_of_lt _ (by decide) (by decide)]
  · rw [hlost.get _ (by decide), State.referenceLost, hquality.get _ (by decide), hraise.get _ (by decide),
      State.get_fault_class]
    rfl
  · rw [hlost.get _ (by decide), State.referenceLost, hquality.get _ (by decide), hraise.get _ (by decide),
      State.get_fault_island]
  · rw [State.quality, hlost.get _ (by decide)]
    exact State.setQuality_quality _ (by decide)

/-! ### Errors of memory -/

/-- A single-bit error is counted, with EV009 at most once a second (R42). -/
theorem execScrubRead_single {s : State} {i : Isl} (h : s.running i = true) (m : Fin 4) (word : BitVec 24) (b : Bool) :
    execScrubRead i m word .single b s = .next
      (((s.setReg R.MG_ECC_LAST (i.code <<< 27 + m.val <<< 24 + word.toNat)).count F.MG_ECC_COUNT_CORR 1).raise
        { src := 9, unit_ := i.code, every := 1000000, whole := true }) := by
  simp only [execScrubRead, h, Bool.true_eq_false, if_false, Nat.zero_shiftLeft, Nat.zero_add]

/-- A double-bit error is recorded; all but one in VL's legal copies fence the island (R42). -/
theorem execScrubRead_double {s : State} {i : Isl} (h : s.running i = true) (m : Fin 4) (word : BitVec 24) (b : Bool) :
    execScrubRead i m word .double b s = .next
      (if b = true ∧ i = .vl ∧ m = 3 then
        (((s.setReg R.MG_ECC_LAST (1 <<< 31 + i.code <<< 27 + m.val <<< 24 + word.toNat)).count F.MG_ECC_COUNT_UNCORR
          1).raise { src := 10, unit_ := i.code }).fault 6 i
       else ((((s.setReg R.MG_ECC_LAST (1 <<< 31 + i.code <<< 27 + m.val <<< 24 + word.toNat)).count
          F.MG_ECC_COUNT_UNCORR 1).raise { src := 10, unit_ := i.code }).fault 6 i).fenceIsland i 8) := by
  simp only [execScrubRead, h, Bool.true_eq_false, if_false]

/-! ### The statement -/

/-- Settles O14: each fault by the equation of its command; that a stall leaves the time and the list of stalls to be
read, and that the reference stays judged as it was, follow from what raising an event keeps. -/
theorem islandFaults : Obligations.IslandFaults := by
  unfold Obligations.IslandFaults
  refine ⟨?stall, ?closed, ?reopen, ?clock, ?clockUnderReference, ?reference, ?watchdog, ?watchdogSf, ?lockstep, ?single,
    ?double, ?legalCopy⟩
  case stall =>
    intro s snd rcv hopen hs
    exact congrArg Host.Outcome.next ((if_pos hopen).trans (s.stall_first snd rcv hs))
  case closed =>
    intro s snd rcv b hopen
    exact congrArg Host.Outcome.next (if_neg (by simp [hopen]))
  case reopen =>
    intro s snd rcv hf hs hr hv
    exact congrArg (fun x : State => Host.Outcome.next x.restarted) (State.reopen_fenced hf hs hr hv)
  case clock =>
    intro s i hi href
    exact (execClockMonitorFault_local hi).trans (congrArg Host.Outcome.next (if_neg (by simp [href])))
  case clockUnderReference =>
    intro s i hi href
    exact (execClockMonitorFault_local hi).trans (congrArg Host.Outcome.next (if_pos href))
  case reference =>
    intro s htb href
    exact ⟨_, congrArg Host.Outcome.next (if_neg (by simp [htb, href])), s.referenceFault_record⟩
  case watchdog =>
    intro s e hrun hsf
    simp only [exec, execWatchdogExpiry, hrun, hsf, Bool.true_eq_false, if_false]
  case watchdogSf =>
    intro s e hrun hsf
    simp only [exec, execWatchdogExpiry, hrun, hsf, Bool.true_eq_false, if_false, if_true]
  case lockstep =>
    intro s hrun
    exact congrArg Host.Outcome.next (if_neg (by simp [hrun]))
  case single =>
    intro s i m word b hrun
    exact execScrubRead_single hrun m word b
  case double =>
    intro s i m word hrun
    exact (execScrubRead_double hrun m word false).trans (congrArg Host.Outcome.next (if_neg (by simp)))
  case legalCopy =>
    intro s word hrun
    exact (execScrubRead_double hrun 3 word true).trans (congrArg Host.Outcome.next (if_pos ⟨rfl, rfl, rfl⟩))

end Sys2Proof.Machine
end

section
/-! SUPPORT. Starts and resets of islands and of the module (R41, R385 to R388). -/

namespace Sys2Proof.Machine

/-- An island's start in state 0b10 completes while nothing holds it back (R388). -/
theorem execIslandStartComplete_starting {s : State} {i : Isl} (hsrc : s.get F.MG_RESET_CAUSE_START_SRC ≠ 0)
    (hi : s.islState i = 2) (hready : s.flag F.MG_BOOT_STATUS_READY = true) :
    execIslandStartComplete i s = .next (s.startIsland i).checkReady := by
  refine congrArg Host.Outcome.next (if_neg ?_)
  rintro (h | ⟨h, -⟩ | ⟨h, -⟩ | ⟨h, -⟩)
  · exact hsrc h
  · exact h hi
  · exact Bool.noConfusion (hready.symm.trans h)
  · exact absurd (hi.symm.trans h) (by decide)

/-- The row of command 0x0C01 in the catalogue (R266). -/
abbrev resetSpec : CmdSpec := { opcode := 0x0C01, priv := some 1, isl := .mg, params := [(24, 1), (25, 1)] }

/-- The parameters of command 0x0C01 that lie outside their ranges (R387). -/
abbrev resetRanges (d : Desc) : List (Nat × Bool) :=
  [(24, decide (1 < d.n 24 1)), (25, d.n 24 1 == 1 && (resetNamed (d.n 25 1)).isNone)]

/-- The module's reset waits for 1 ms after the command's own completion (R387). -/
theorem execResetModuleOrIsland_module {s : State} {d : Desc} {n : Fin 16} (h : s.admits d resetSpec (resetRanges d))
    (hmodule : d.n 24 1 = 0) (hsrc : d.src = .sq n) :
    execResetModuleOrIsland d s = .next (({ s with isl := { s.isl with resetPend := some 4 } } : State).ok d []) := by
  have hone : (d.n 24 1 == 1) = false := by rw [hmodule]; rfl
  refine congrArg Host.Outcome.next ((State.command_ok h).trans ?_)
  simp only [hone, hsrc, Bool.false_eq_true, if_false]

/-- An island's reset is at once; the command completes when the island has started (R387). -/
theorem execResetModuleOrIsland_island {s : State} {d : Desc} {i : Isl} (h : s.admits d resetSpec (resetRanges d))
    (hisland : d.n 24 1 = 1) (hi : resetNamed (d.n 25 1) = some i) :
    execResetModuleOrIsland d s = .next ((State.lostCommands
      { s with isl := { s.isl with resetCmd := s.isl.resetCmd ++ [(i, d)] } } i).islandReset i 0x0A) := by
  have hone : (d.n 24 1 == 1) = true := by rw [hisland]; rfl
  refine congrArg Host.Outcome.next ((State.command_ok h).trans ?_)
  simp only [hone, if_true, hi]

/-- Settles O15: each start and reset by the equation of its command. -/
theorem islandStarts : Obligations.IslandStarts := by
  unfold Obligations.IslandStarts
  refine ⟨?start, ?vl, ?nreset, ?execute, ?module, ?island⟩
  case start =>
    intro s i hsrc hi hready
    exact execIslandStartComplete_starting hsrc hi (beq_iff_eq.2 hready)
  case vl =>
    intro s hvl
    exact congrArg Host.Outcome.next (if_neg (not_not_intro hvl))
  case nreset =>
    intro s hsrc
    exact congrArg Host.Outcome.next (if_neg hsrc)
  case execute =>
    intro s code hpend
    simp only [exec, execModuleResetExecute, hpend]
  case module =>
    intro s d n h hmodule hsrc
    exact execResetModuleOrIsland_module h hmodule hsrc
  case island =>
    intro s d i h hisland hi
    exact execResetModuleOrIsland_island h hisland hi

end Sys2Proof.Machine
end

section
/-! SUPPORT. Link frames and channel records (R54, R55, R65, R91): what a frame, a missing link and a finished
computation leave in their channel. -/

namespace Sys2Proof.Machine

@[simp] theorem State.chans_setChan_self (s : State) (c : Fin 3) (x : ChanS) : (s.setChan c x).met.chans[c] = x :=
  Vector.getElem_set_self ..

/-! ### Frames -/

/-- The checks of R54 that make a frame sound for a channel. -/
def SoundFrame (c : Fin 3) (frame : List Byte) : Prop :=
  frame.length = 82 ∧ fld frame 0 1 = 0xA5 ∧ fld frame 1 1 / 64 = c.val ∧ fld frame 78 4 = crc32 (frame.take 78)

theorem State.captureRow_idle {s : State} (h : s.met.captures = []) (c : Fin 3) (row : Nat) (codes : Option (List Int)) :
    s.captureRow c row codes = s := by
  unfold State.captureRow
  rw [h]

/-- A frame with the expected counter skips no sample instant. -/
theorem no_skip (ctr : Nat) : (ctr + 65536 - (BitVec.ofNat 16 ctr).toNat) % 65536 = 0 := by
  rw [BitVec.toNat_ofNat]
  omega

/-- A sound frame that skips nothing is taken. -/
theorem execLinkFrame_good {s : State} {c : Fin 3} {frame : List Byte} (hrun : s.running (chanIsl c) = true)
    (hsupply : s.isl.supply = .normal) (hsound : SoundFrame c frame)
    (hctr : s.met.chans[c].ctr = none ∨ s.met.chans[c].ctr = some (BitVec.ofNat 16 (fld frame 2 2))) :
    execLinkFrame c frame s = .next (s.goodFrame c frame) := by
  obtain ⟨hlen, hsync, hchan, hcrc⟩ := hsound
  unfold execLinkFrame
  rw [if_neg (by simp [hrun, hsupply])]
  extract_lets x sound ctr skip
  rw [if_neg (by simp [sound, hlen, hsync, hchan, hcrc])]
  have hskip : skip = 0 := by
    subst skip
    obtain h | h := hctr
    · simp only [x, h]
    · simp only [x, h]
      exact no_skip ctr
  rw [hskip, State.badFrames, if_pos rfl, if_pos rfl, ite_self]

/-- A frame that a check of R54 does not admit counts as bad. -/
theorem execLinkFrame_bad {s : State} {c : Fin 3} {frame : List Byte} (hrun : s.running (chanIsl c) = true)
    (hsupply : s.isl.supply = .normal) (hbad : ¬ SoundFrame c frame) :
    execLinkFrame c frame s = .next (s.badFrames c 1) := by
  have hsound : (frame.length == 82 && fld frame 0 1 == 0xA5 && fld frame 1 1 / 64 == c.val &&
      fld frame 78 4 == crc32 (frame.take 78)) = false := by
    simpa only [SoundFrame, ← Bool.not_eq_true, Bool.and_eq_true, beq_iff_eq, and_assoc] using hbad
  unfold execLinkFrame
  rw [if_neg (by simp [hrun, hsupply])]
  exact if_pos hsound

/-- While no capture runs a bad frame is counted, and nothing else (R55). -/
theorem State.badFrames_one {s : State} (h : s.met.captures = []) (c : Fin 3) :
    s.badFrames c 1 = ((s.setChan c { s.met.chans[c] with badN := s.met.chans[c].badN + 1 }).count
      (F.MET_CH_LINKERR_BADF c.val) 1).raise { src := 13, unit_ := c.val, every := 1000000 } := by
  simp only [State.badFrames, one_ne_zero, if_false, List.range_one, List.foldl_cons, List.foldl_nil,
    State.captureRow_idle h]

/-- A good frame's samples are the newest, the counter after its own is expected, and the link is up (R54, R55). -/
theorem State.goodFrame_chan (s : State) (c : Fin 3) (frame : List Byte) :
    (s.goodFrame c frame).met.chans[c].rows = frameCodes frame :: s.met.chans[c].rows ∧
      (s.goodFrame c frame).met.chans[c].ctr = some (BitVec.ofNat 16 (fld frame 2 2 + 1)) ∧
      (s.goodFrame c frame).met.chans[c].badN = s.met.chans[c].badN ∧
      (s.goodFrame c frame).bit F.MET_STATUS_LINK_UP c.val = true := by
  unfold State.goodFrame
  extract_lets before codes captured full ctr aux taken warmed held flagged shown
  have hmet : (shown.setBit F.MET_STATUS_LINK_UP c.val true).met.chans[c] = warmed := by
    have hshown : shown.met = held.met := by
      subst shown
      split <;> rfl
    rw [State.setBit_met, hshown, State.chans_setChan_self]
  obtain ⟨hrows, hctr, hbad⟩ : warmed.rows = taken.rows ∧ warmed.ctr = taken.ctr ∧ warmed.badN = taken.badN := by
    subst warmed
    split <;> exact ⟨rfl, rfl, rfl⟩
  rw [hmet]
  exact ⟨hrows, hctr, hbad, State.bit_setBit_self _ _ _ _ (by decide) c.isLt⟩

/-! ### Records -/

theorem kept_applyConds (x : ChanS) (n : Fin 8) : (applyConds x n).kept = x.kept := rfl

/-- The conditions applied at the end of a quantum leave the records that wait for VL. -/
theorem kept_foldl_applyConds (x : ChanS) (l : List (Fin 8)) : (l.foldl applyConds x).kept = x.kept :=
  foldl_of (Q := fun y : ChanS => y.kept = x.kept) rfl fun y n _ h => (kept_applyConds y n).trans h

/-- A closed quantum becomes the newest record of its channel, of which 64 are kept, and the channel runs (R37, R65). -/
theorem State.completeChan_record {s : State} {c : Fin 3} {cl : ClosedQ} (h : s.met.chans[c].closed = some cl) :
    (s.completeChan c).met.chans[c].closed = none ∧
      (∃ r : QRec, (s.completeChan c).met.chans[c].kept =
          (s.met.chans[c].kept ++ [r]).drop (s.met.chans[c].kept.length + 1 - 64) ∧
        r.q = cl.q ∧ r.chan = c.val ∧ r.band = cl.band ∧ r.gen = cl.gen.toNat) ∧
      (s.completeChan c).bit F.MET_STATUS_CH_RUN c.val = true := by
  have hrun : ∀ t : State, (t.setBit F.MET_STATUS_CH_RUN c.val true).bit F.MET_STATUS_CH_RUN c.val = true :=
    fun t => State.bit_setBit_self _ _ _ _ (by decide) c.isLt
  unfold State.completeChan
  simp only [h, State.setBit_met, State.chans_setChan_self, kept_foldl_applyConds, List.length_append,
    List.length_singleton, hrun, and_true, true_and]
  exact ⟨_, rfl, rfl, rfl, rfl, rfl⟩

/-- Settles O26: a frame is judged by the checks of R54, and a computation that may finish makes its record. -/
theorem linkFrames : Obligations.LinkFrames := by
  unfold Obligations.LinkFrames
  refine ⟨?good, ?bad, ?down, ?timeout, ?record, ?waits⟩
  case good =>
    intro s c frame hrun hsupply _ hlen hsync hchan hcrc hctr
    exact ⟨_, execLinkFrame_good hrun hsupply ⟨hlen, hsync, hchan, hcrc⟩ hctr, s.goodFrame_chan c frame⟩
  case bad =>
    intro s c frame hrun hsupply hcap hbad
    have hunsound : ¬ SoundFrame c frame := by
      rintro ⟨hlen, hsync, hchan, hcrc⟩
      simp [hlen, hsync, hchan, hcrc] at hbad
    exact (execLinkFrame_bad hrun hsupply hunsound).trans (congrArg Host.Outcome.next (State.badFrames_one hcap c))
  case down =>
    intro s c frame hrun
    exact if_pos (.inl hrun)
  case timeout =>
    intro s c hrun
    exact if_neg (by simp [hrun])
  case record =>
    intro s c cl hrun hlink hwait hclosed
    exact ⟨_, if_neg (by rw [hrun, hlink, hwait]; decide), State.completeChan_record hclosed⟩
  case waits =>
    intro s c hwait
    exact if_pos (.inr (.inr hwait))

end Sys2Proof.Machine
end

section
/-! SUPPORT. The states of the voter's channels (R118, R124, R128): what VOT_STATUS and VOT_DISAG read after a change,
and what keeps them. -/

namespace Sys2Proof.Machine

/-- A field below a bound is read from the low bits alone. -/
theorem bitsOf_mod_two_pow {x n hi lo : Nat} (h : hi < n) : bitsOf (x % 2 ^ n) hi lo = bitsOf x hi lo := by
  apply Nat.eq_of_testBit_eq
  intro i
  rw [testBit_bitsOf, testBit_bitsOf, Nat.testBit_mod_two_pow]
  by_cases hi2 : i < hi + 1 - lo
  · rw [decide_eq_true hi2, decide_eq_true (by omega : lo + i < n), Bool.true_and]
  · rw [decide_eq_false hi2, Bool.false_and, Bool.false_and]

theorem State.get_setReg_self (s : State) (off v : Nat) (f : Fld) (hoff : f.off = off) (hhi : f.hi < 32) :
    (s.setReg off v).get f = bitsOf v f.hi f.lo := by
  rw [State.get, hoff, State.reg_setReg_self, bitsOf_mod_two_pow hhi]

/-! ### What keeps a channel's state -/

theorem Keeps.chState {P B : Nat} {s t : State} (h : Keeps P B s t) (c : Fin 3)
    (hb : B.testBit (rowOf R.VOT_STATUS) = false) : t.chState c = s.chState c := by
  rw [State.chState, h.get _ hb, State.chState]

theorem Keeps.consec {P B : Nat} {s t : State} (h : Keeps P B s t) (c : Fin 3)
    (hb : B.testBit (rowOf R.VOT_DISAG) = false) : t.consec c = s.consec c := by
  rw [State.consec, h.get _ hb, State.consec]

theorem Keeps.resolved {P B : Nat} {s t : State} (h : Keeps P B s t) (hlo : B.testBit (rowOf R.VOT_CONFQ_LO) = false)
    (hhi : B.testBit (rowOf (R.VOT_CONFQ_LO + 4)) = false) : t.resolved = s.resolved :=
  congrArg₂ (fun lo hi => lo + hi <<< 32) (h.reg R.VOT_CONFQ_LO hlo) (h.reg (R.VOT_CONFQ_LO + 4) hhi)

theorem Keeps.logRefusing {P B : Nat} {s t : State} (h : Keeps P B s t)
    (hb : B.testBit (rowOf R.BIL_LOG_STATUS) = false) : t.logRefusing = s.logRefusing := by
  rw [State.logRefusing, h.get _ hb, State.logRefusing]

theorem Keeps.sealOpen {P B : Nat} {s t : State} (h : Keeps P B s t)
    (hb : B.testBit (rowOf R.KEY_STATUS) = false) : t.sealOpen = s.sealOpen :=
  h.flag F.KEY_STATUS_SEAL_OPEN hb

/-- Whether a start test is owed depends on the voter's part and the points' types. -/
theorem Keeps.testOwed {P B : Nat} {s t : State} (h : Keeps P B s t) (c : Fin 3) (hp : P.testBit 3 = false)
    (hb : ∀ n : Fin 8, B.testBit (rowOf (R.TPT_STATE n.val)) = false) : t.testOwed c = s.testOwed c := by
  have htype : ∀ n, t.type_ n = s.type_ n := fun n => h.get _ (hb n)
  simp only [State.testOwed, State.elecPoints, h.vot hp, htype]

/-! ### A channel's state changed -/

theorem State.chState_showMode (s : State) (c : Fin 3) : s.showMode.chState c = s.chState c := by
  rw [State.chState, State.showMode, State.get_set_ne _ _ (by decide) (by decide), State.chState]

/-- VOT_STATUS.MODE by the number of voting channels (R118). -/
def voteMode (voting : Nat) : Nat := if voting = 3 then 0 else if voting = 2 then 1 else 2

theorem State.get_mode_showMode (s : State) :
    s.showMode.get F.VOT_STATUS_MODE = voteMode (chans.filter (fun c => s.chState c == 0)).length := by
  refine State.get_set_of_lt _ (by decide) ?_
  split
  · decide
  · split <;> decide

/-- The three bits of a channel written into VOT_STATUS.CH_STATE. -/
theorem State.chState_put (s : State) (c k : Fin 3) {new : Nat} (hnew : new < 8) :
    (s.set F.VOT_STATUS_CH_STATE (putBits (s.get F.VOT_STATUS_CH_STATE) (3 * c.val + 2) (3 * c.val) new)).chState k =
      if k = c then new else s.chState k := by
  rw [State.chState, State.get_set_self _ _ _ (by decide), bitsOf_mod_two_pow (by show _ < 9; omega)]
  split
  next h => rw [h, bitsOf_putBits_of_lt (by rwa [show 3 * c.val + 2 + 1 - 3 * c.val = 3 by omega])]
  next h => rw [bitsOf_putBits_apart (by have := Fin.val_ne_of_ne h; omega), State.chState]

/-- A change of a channel's state shows in that channel alone. -/
theorem State.chState_setChState (s : State) (c k : Fin 3) {new : Nat} (hnew : new < 8) :
    (s.setChState c new).chState k = if k = c then new else s.chState k := by
  unfold State.setChState
  extract_lets old logged put cleared
  have hcleared : cleared.chState k = put.chState k := by
    rw [State.chState, State.get_set_ne _ _ (by show 8 * c.val + 6 < 32; omega)
      (.inl (by show R.VOT_STATUS ≠ R.VOT_REVER; decide)), State.chState]
  rw [State.chState_showMode, show (State.modVot cleared _).chState k = cleared.chState k from rfl, hcleared,
    State.chState_put _ _ _ hnew, (State.log_keeps s _).chState k (by decide)]

theorem State.get_mode_setChState (s : State) (c : Fin 3) (new : Nat) :
    (s.setChState c new).get F.VOT_STATUS_MODE =
      voteMode (chans.filter (fun k => (s.setChState c new).chState k == 0)).length := by
  unfold State.setChState
  simp only [State.get_mode_showMode, State.chState_showMode]

theorem State.consec_setConsec (s : State) (c : Fin 3) {v : Nat} (hv : v < 4) : (s.setConsec c v).consec c = v := by
  rw [State.consec, State.setConsec, State.get_set_self _ _ _ (by decide), bitsOf_mod_two_pow (by show _ < 6; omega),
    bitsOf_putBits_of_lt (by rwa [show 2 * c.val + 1 + 1 - 2 * c.val = 2 by omega])]

/-! ### The channels one after another -/

/-- A step over the channels that acts on one channel alone. -/
theorem foldl_chans_only {f : State → Fin 3 → State} {c : Fin 3} (h : ∀ s k, k ≠ c → f s k = s) (s : State) :
    chans.foldl f s = f s c := by
  have hchans : chans = [0, 1, 2] := rfl
  rw [hchans, List.foldl_cons, List.foldl_cons, List.foldl_cons, List.foldl_nil]
  fin_cases c
  · rw [h _ 2 (by decide), h _ 1 (by decide)]; rfl
  · rw [h _ 2 (by decide), h _ 0 (by decide)]; rfl
  · rw [h s 0 (by decide), h s 1 (by decide)]; rfl

/-- A step over the channels that acts on none. -/
theorem foldl_chans_none {f : State → Fin 3 → State} (h : ∀ s k, f s k = s) (s : State) : chans.foldl f s = s :=
  foldl_of (Q := fun x : State => x = s) rfl fun x k _ hx => (h x k).trans hx

theorem filter_chans_eq {p : Fin 3 → Bool} {c : Fin 3} (h : ∀ k, p k = decide (k = c)) : chans.filter p = [c] := by
  rw [show p = fun k => decide (k = c) from funext h]
  clear h
  revert c
  decide

/-- Channels but one that are counted. -/
theorem length_filter_chans_ne {p : Fin 3 → Bool} {c : Fin 3} (h : ∀ k, p k = decide (k ≠ c)) :
    (chans.filter p).length = 2 := by
  rw [show p = fun k => decide (k ≠ c) from funext h]
  clear h
  revert c
  decide

/-! ### Re-verification begins (R128) -/

/-- A channel that begins re-verification is in state 2, its run begins with the quantum in progress, and no start
test is owed any more. -/
theorem State.startRev_channel (s : State) (c : Fin 3) :
    (s.startRev c).chState c = 2 ∧ (s.startRev c).vot.revNext[c] = s.time.quantum ∧
      (s.startRev c).vot.owed[c] = none := by
  unfold State.startRev
  extract_lets q moved begun
  have hstate : begun.chState c = 2 :=
    ((State.setConsec_keeps (s.setChState c 2) c 0).chState c (by decide)).trans
      ((s.chState_setChState c c (by decide)).trans (if_pos rfl))
  have hraise := begun.raise_keeps { src := 44, unit_ := c.val, q := some q }
  rw [hraise.chState c (by decide), hraise.vot rfl]
  exact ⟨hstate, Vector.getElem_set_self .., Vector.getElem_set_self ..⟩

end Sys2Proof.Machine
end

section
/-! SUPPORT. The voter's records and deadlines (R25, R39, R117, R126): a record taken over its crossing waits with the
others of its quantum. -/

namespace Sys2Proof.Machine

theorem Keeps.nextQ {P B : Nat} {s t : State} (h : Keeps P B s t) (hp : P.testBit 3 = false)
    (hlo : B.testBit (rowOf R.VOT_CONFQ_LO) = false) (hhi : B.testBit (rowOf (R.VOT_CONFQ_LO + 4)) = false) :
    t.nextQ = s.nextQ :=
  congrArg₂ (fun resolved (v : VotS) => max (resolved + 1) v.firstQ) (h.resolved hlo hhi) (h.vot hp)

theorem State.nextQ_modVot (s : State) {f : VotS → VotS} (hf : (f s.vot).firstQ = s.vot.firstQ) :
    (s.modVot f).nextQ = s.nextQ :=
  congrArg (max (s.resolved + 1)) hf

theorem filter_chans_single (c : Fin 3) : chans.filter (fun k => [c].contains k) = [c] :=
  filter_chans_eq fun k => by simp

/-- The state in which VL has taken a channel's oldest record, never offered before. -/
def State.recordTaken (s : State) (c : Fin 3) (r : QRec) (rest : List QRec) : State :=
  (s.setChan c { s.met.chans[c] with kept := rest, offered := 0 }).set64 (R.MET_CH_LASTQ_LO c.val) r.q

/-- VL takes a record over an open crossing, oldest first (R25, R37). -/
theorem State.takeRecord_first {s : State} {c : Fin 3} {r : QRec} {rest : List QRec}
    (hopen : s.open_ (chanIsl c) .vl = true) (hkept : s.met.chans[c].kept = r :: rest) (hnew : s.met.chans[c].offered = 0) :
    s.takeRecord c = some (r, s.recordTaken c r rest) := by
  simp only [State.takeRecord, hkept, hopen, hnew, lt_irrefl, if_true, if_false, Nat.zero_sub, State.recordTaken]

/-- A channel's record received in time and with a sound CRC: the newest quantum of its channel is brought up, and the
record waits with those that have arrived. -/
def VotS.withRecord (v : VotS) (c : Fin 3) (r : QRec) : VotS :=
  { v with newest := v.newest.set c (max v.newest[c] r.q), arrived := v.arrived ++ [⟨v.tick, r, true⟩] }

/-- A record that comes in time leaves its channel's list and waits with the others; nothing is resolved by it. -/
theorem State.receive_first {s : State} {c : Fin 3} {r : QRec} {rest : List QRec}
    (hopen : s.open_ (chanIsl c) .vl = true) (hkept : s.met.chans[c].kept = r :: rest) (hnew : s.met.chans[c].offered = 0)
    (hq : s.nextQ ≤ r.q) :
    (s.receive [] c).vot = s.vot.withRecord c r ∧ (s.receive [] c).met.chans[c].kept = rest ∧
      (s.receive [] c).resolved = s.resolved := by
  have htaken := State.takeRecord_first hopen hkept hnew
  have hkeeps : Keeps 4 0x60000000000000000000000000 s (s.recordTaken c r rest) := (s.takeRecord_keeps c).of_eq htaken
  have hnext : ∀ f : VotS → VotS, (f (s.recordTaken c r rest).vot).firstQ = (s.recordTaken c r rest).vot.firstQ →
      ¬ r.q < ((s.recordTaken c r rest).modVot f).nextQ := by
    intro f hf
    rw [State.nextQ_modVot _ hf, hkeeps.nextQ rfl (by decide) (by decide)]
    exact not_lt.2 hq
  have hreceive : s.receive [] c = (s.recordTaken c r rest).modVot (fun v => v.withRecord c r) := by
    unfold State.receive
    rw [htaken]
    exact if_neg (hnext _ rfl)
  rw [hreceive]
  exact ⟨rfl, congrArg ChanS.kept (s.chans_setChan_self c _), hkeeps.resolved (by decide) (by decide)⟩

/-- The state at the start of a tick in which records arrive. -/
def State.ticked (s : State) : State := s.modVot (fun v => { v with tick := v.tick + 1 })

/-- While the reference is at fault records are taken and nothing else is done (R39). -/
theorem execQuantumRecordArrival_held {s : State} (c : Fin 3) (hrun : s.running .vl = true) (href : s.refFault = true) :
    execQuantumRecordArrival [c] [] s = .next (s.ticked.receive [] c) := by
  have hreceived : (s.ticked.receive [] c).refFault = true :=
    ((s.ticked.receive_keeps [] c).refFault (by decide)).trans href
  unfold execQuantumRecordArrival
  rw [if_neg (by rw [hrun]; decide), filter_chans_single]
  exact if_pos hreceived

/-- Without a reference fault every quantum that can be resolved is (R121, R126). -/
theorem execQuantumRecordArrival_resolves {s u : State} {arrived corrupt : List (Fin 3)} (hrun : s.running .vl = true)
    (hu : u = (chans.filter (fun c => arrived.contains c)).foldl (fun s c => s.receive corrupt c) s.ticked)
    (href : u.refFault = false) :
    execQuantumRecordArrival arrived corrupt s = .next (u.advanceAll.publishAll u.firstRecords).lagCheck := by
  subst hu
  unfold execQuantumRecordArrival
  rw [if_neg (by rw [hrun]; decide)]
  exact if_neg (by rw [← State.ticked, href]; decide)

/-- At its deadline a quantum is resolved whatever has arrived (R126). -/
theorem execResolutionDeadline_resolves {s : State} (hrun : s.running .vl = true) (href : s.refFault = false)
    (hsupply : s.isl.supply = .normal) (hcatch : s.vot.catchUp = false) (hq : 3 ≤ s.time.quantum) :
    execResolutionDeadline s = .next ((s.resolveTo (s.time.quantum - 3) (s.time.quantum - s.resolved)).lagCheck) := by
  unfold execResolutionDeadline
  rw [if_neg (by rw [hrun, href, hsupply]; decide), if_neg (by rw [hcatch]; decide)]
  extract_lets last
  rw [if_pos hq]

end Sys2Proof.Machine
end

section
/-! SUPPORT. The voter's writes and rejoin (R10, R118, R119, R128): VOT_CTRL, VOT_TOL and the boundary at which a channel
takes part again. -/

namespace Sys2Proof.Machine

theorem State.guard_registerAt {s : State} {off : Nat} {d : RegDesc} {body : State → State} (h : RegisterAt off d)
    (hi : s.running .hi = true) (hr : s.running d.isl = true) : s.guard off 4 body = body s := by
  obtain ⟨-, h4, hrow, hisl⟩ := h
  have ha : assigned off = true := by rw [assigned, hrow, Option.isSome_some, Bool.true_or, Bool.true_or]
  exact State.guard_ok hi h4 ha (State.serves_of_running hisl hr)

theorem registerAt_VOT_CTRL :
    RegisterAt R.VOT_CTRL ⟨0x30000, 0x0, 1, .vl, 1, [⟨10, 8, .rws⟩, ⟨6, 4, .w1s⟩, ⟨0, 0, .rws⟩]⟩ := by decide

theorem registerAt_VOT_TOL (k : Fin 8) :
    RegisterAt (R.VOT_TOL k.val) ⟨0x30040, 0x4, 8, .vl, 0x14010000, [⟨31, 24, .rws⟩, ⟨16, 0, .rws⟩]⟩ := by
  revert k; decide

theorem testBit_one_shiftLeft (c k : Fin 3) : (1 <<< c.val).testBit k.val = decide (k = c) := by
  rw [Nat.one_shiftLeft, Nat.testBit_two_pow]
  exact decide_eq_decide.2 (by rw [Fin.ext_iff, eq_comm])

/-! ### The write of VOT_CTRL -/

/-- The word that a write of VOT_CTRL gives to its plain fields: REVERIFY acts and is not held. -/
def State.votCtrlWritten (s : State) (v : Nat) : State := s.plainWrite R.VOT_CTRL (putBits v 6 4 0)

theorem State.votCtrlWritten_keeps (s : State) (v : Nat) :
    Keeps 98560 0x800000000000000000000000000000000400000000000000018088800000 s (s.votCtrlWritten v) :=
  State.plainWrite_keeps rfl rfl (.of rfl in_VOT_CTRL) .rfl

/-- Under the open seal FORCE_OUT takes its value. -/
theorem State.get_force_votCtrlWritten {s : State} (v : Nat) (h : s.sealOpen = true) :
    (s.votCtrlWritten v).get F.VOT_CTRL_FORCE_OUT = bitsOf v 10 8 := by
  have hfields : applyFields s.sealOpen [⟨10, 8, .rws⟩, ⟨6, 4, .w1s⟩, ⟨0, 0, .rws⟩] (s.reg R.VOT_CTRL)
      (putBits v 6 4 0) = (putBits (putBits (putBits (s.reg R.VOT_CTRL) 10 8 (bitsOf (putBits v 6 4 0) 10 8)) 6 4
        (bitsOf (s.reg R.VOT_CTRL) 6 4 ||| bitsOf (putBits v 6 4 0) 6 4)) 0 0 (bitsOf (putBits v 6 4 0) 0 0), false) := by
    rw [h]; rfl
  rw [State.votCtrlWritten, State.plainWrite_eq registerAt_VOT_CTRL hfields, if_neg Bool.false_ne_true]
  refine (State.get_setReg_self s _ _ F.VOT_CTRL_FORCE_OUT rfl (by decide)).trans ?_
  show bitsOf _ 10 8 = _
  rw [bitsOf_putBits_apart (by omega), bitsOf_putBits_apart (by omega), bitsOf_putBits_of_lt (bitsOf_lt _ _ _),
    bitsOf_putBits_apart (by omega)]

/-- What REVERIFY does to a channel (R128): nothing to one that it does not name. -/
def State.reverifyNamed (act : Nat) (s : State) (c : Fin 3) : State :=
  if act.testBit c.val && s.chState c == 1 && !(s.testOwed c) && !s.logRefusing then s.startRev c else s

theorem State.reverifyNamed_unnamed {act : Nat} {c : Fin 3} (h : act.testBit c.val = false) (s : State) :
    s.reverifyNamed act c = s := if_neg (by simp [h])

/-- Under the closed seal a write of VOT_CTRL acts by REVERIFY alone. -/
theorem State.writeVotCtrl_sealed {s : State} (v : Nat) (h : s.sealOpen = false) :
    s.writeVotCtrl v = chans.foldl (State.reverifyNamed (bitsOf v 6 4)) (s.votCtrlWritten v) := by
  have hwritten : (s.votCtrlWritten v).sealOpen = false := ((s.votCtrlWritten_keeps v).sealOpen (by decide)).trans h
  unfold State.writeVotCtrl
  extract_lets old new left added act written forced
  have hforced : forced = s.votCtrlWritten v := if_neg (by rw [show written.sealOpen = false from hwritten]; decide)
  rw [if_neg (by rw [h]; exact Bool.false_ne_true), hforced]
  rfl

/-- REVERIFY of a faulty channel that no start test bars begins its re-verification (R128). -/
theorem State.writeVotCtrl_reverify {s : State} {v : Nat} {c : Fin 3} (hseal : s.sealOpen = false)
    (hact : bitsOf v 6 4 = 1 <<< c.val) (hc : s.chState c = 1) (howed : s.testOwed c = false)
    (hlog : s.logRefusing = false) : s.writeVotCtrl v = (s.votCtrlWritten v).startRev c := by
  have hkeeps := s.votCtrlWritten_keeps v
  have hbit : ∀ k : Fin 3, (bitsOf v 6 4).testBit k.val = decide (k = c) := fun k => hact ▸ testBit_one_shiftLeft c k
  have hnamed : ((bitsOf v 6 4).testBit c.val && (s.votCtrlWritten v).chState c == 1 &&
      !((s.votCtrlWritten v).testOwed c) && !(s.votCtrlWritten v).logRefusing) = true := by
    rw [hbit, hkeeps.chState c (by decide), hkeeps.testOwed c rfl (by decide), hkeeps.logRefusing (by decide), hc, howed,
      hlog, decide_eq_true rfl]
    rfl
  rw [State.writeVotCtrl_sealed v hseal, foldl_chans_only (c := c)
    (fun t k hk => State.reverifyNamed_unnamed (by rw [hbit, decide_eq_false hk]) t)]
  exact if_pos hnamed

/-- The channels that a write of FORCE_OUT would leave voting (R118). -/
def State.leftVoting (s : State) (new : Nat) : List (Fin 3) :=
  chans.filter (fun c => s.chState c == 0 && !(new.testBit c.val))

/-- The first channel forced out of three that vote (R118). -/
theorem State.writeVotCtrl_force {s : State} {v : Nat} {c : Fin 3} (hseal : s.sealOpen = true)
    (hlog : s.logRefusing = false) (hold : s.get F.VOT_CTRL_FORCE_OUT = 0) (hnew : bitsOf v 10 8 = 1 <<< c.val)
    (hact : bitsOf v 6 4 = 0) (hvote : ∀ k : Fin 3, s.chState k = 0) :
    s.writeVotCtrl v = (s.votCtrlWritten v).setChState c 3 := by
  have hkeeps := s.votCtrlWritten_keeps v
  have hbit : ∀ k : Fin 3, (bitsOf v 10 8).testBit k.val = decide (k = c) := fun k => hnew ▸ testBit_one_shiftLeft c k
  have hleft : (s.leftVoting (bitsOf v 10 8)).length = 2 :=
    length_filter_chans_ne (c := c) fun k => by rw [hvote, hbit, decide_not]; rfl
  have hadded : chans.filter (fun k =>
      (bitsOf v 10 8).testBit k.val && !((s.get F.VOT_CTRL_FORCE_OUT).testBit k.val)) = [c] :=
    filter_chans_eq fun k => by rw [hold, Nat.zero_testBit, hbit, Bool.not_false, Bool.and_true]
  have hforced : (s.votCtrlWritten v).forceChan c = (s.votCtrlWritten v).setChState c 3 := by
    have h0 : (s.votCtrlWritten v).chState c = 0 := (hkeeps.chState c (by decide)).trans (hvote c)
    unfold State.forceChan
    simp only [h0, OfNat.zero_ne_ofNat, if_false]
  have hopen : (s.votCtrlWritten v).sealOpen = true := (hkeeps.sealOpen (by decide)).trans hseal
  unfold State.writeVotCtrl
  extract_lets old new left added act written forced
  have hadmitted : ¬ ((s.sealOpen && new != old && (s.logRefusing || (added != [] && decide (left < 2)))) = true) := by
    rw [hlog, show left = 2 from hleft]
    simp
  have hf : forced = (s.votCtrlWritten v).setChState c 3 := by
    rw [show forced = added.foldl (fun s c => s.forceChan c) written from if_pos hopen, show added = [c] from hadded]
    exact hforced
  rw [if_neg hadmitted, hf]
  exact foldl_chans_none (fun t k => State.reverifyNamed_unnamed (act := act)
    (by rw [show act = 0 from hact, Nat.zero_testBit]) t) _

/-- A forced-out channel is in state 3, FORCE_OUT shows it, and two channels vote on (R118). -/
theorem State.writeVotCtrl_force_shows {s : State} {v : Nat} {c : Fin 3} (hseal : s.sealOpen = true)
    (hvote : ∀ k : Fin 3, s.chState k = 0) :
    ((s.votCtrlWritten v).setChState c 3).chState c = 3 ∧
      ((s.votCtrlWritten v).setChState c 3).get F.VOT_CTRL_FORCE_OUT = bitsOf v 10 8 ∧
      ((s.votCtrlWritten v).setChState c 3).get F.VOT_STATUS_MODE = 1 := by
  have hstate : ∀ k, ((s.votCtrlWritten v).setChState c 3).chState k = if k = c then 3 else 0 := by
    intro k
    rw [State.chState_setChState _ _ _ (by decide), (s.votCtrlWritten_keeps v).chState k (by decide), hvote]
  refine ⟨(hstate c).trans (if_pos rfl), ?_, ?_⟩
  · exact ((State.setChState_keeps _ _ _).get _ (by decide)).trans (State.get_force_votCtrlWritten v hseal)
  · rw [State.get_mode_setChState, length_filter_chans_ne (c := c)]
    · rfl
    · intro k
      rw [hstate]
      by_cases h : k = c <;> simp [h]

/-- Two of three channels cannot be forced out: the write is discarded (R118). -/
theorem State.writeVotCtrl_forceTwo {s : State} {v : Nat} (hseal : s.sealOpen = true)
    (hold : s.get F.VOT_CTRL_FORCE_OUT = 0) (hnew : bitsOf v 10 8 = 3) : s.writeVotCtrl v = s.discard := by
  have hleft : (s.leftVoting 3).length < 2 := by
    have hsub : (s.leftVoting 3).length ≤ (chans.filter (fun c => !(Nat.testBit 3 c.val))).length :=
      (List.monotone_filter_right _ fun c h => (Bool.and_eq_true_iff.1 h).2).length_le
    exact lt_of_le_of_lt hsub (by decide)
  unfold State.writeVotCtrl
  extract_lets old new left added
  refine if_pos ?_
  have hn : new = 3 := hnew
  have ho : old = 0 := hold
  have ha : added = [0, 1] := by
    subst added
    rw [hn, ho]
    decide
  have hl : left < 2 := by
    subst left
    rw [hn]
    exact hleft
  rw [hseal, hn, ho, ha, decide_eq_true hl]
  cases s.logRefusing <;> rfl

/-! ### Rejoin (R128) -/

/-- The voter's counts leave the quanta from which channels take part. -/
theorem State.join_showVoterCounts (s : State) : s.showVoterCounts.vot.join = s.vot.join :=
  foldl_of (Q := fun x : State => x.vot.join = s.vot.join) rfl fun _ _ _ h => h

/-- A complete run lets its channel take part from the quantum that begins, with no disagreement counted. -/
theorem execChannelRejoin_rejoins {s : State} {c : Fin 3} (hrun : s.running .vl = true) (hc : s.chState c = 2)
    (hrejoin : s.vot.rejoin[c] = true) (hus : s.time.usInQ = 0) (hlog : s.logRefusing = false) :
    ∃ t, execChannelRejoin c s = .next t ∧ t.chState c = 0 ∧ t.vot.join[c] = s.time.quantum ∧ t.consec c = 0 := by
  unfold execChannelRejoin
  rw [if_neg (by rw [hrun, hc, hrejoin, hus]; decide), if_neg (by rw [hlog]; decide)]
  extract_lets q settled joined
  refine ⟨_, rfl, ?_, ?_, ?_⟩
  · rw [(State.raise_keeps _ _).chState c (by decide), (State.showVoterCounts_keeps _).chState c (by decide)]
    calc joined.chState c = (s.setChState c 0).chState c := (State.setConsec_keeps _ _ _).chState c (by decide)
      _ = 0 := (s.chState_setChState c c (by decide)).trans (if_pos rfl)
  · rw [(State.raise_keeps _ _).vot rfl, State.join_showVoterCounts]
    exact Vector.getElem_set_self ..
  · rw [(State.raise_keeps _ _).consec c (by decide), (State.showVoterCounts_keeps _).consec c (by decide)]
    exact State.consec_setConsec _ c (by decide)

/-! ### Tolerances (R119) -/

/-- What VOT_TOL_k would hold after a write. -/
def State.votTolNew (s : State) (k : Fin 8) (v : Nat) : Nat :=
  putBits (putBits (s.reg (R.VOT_TOL k.val)) 31 24 (bitsOf v 31 24)) 16 0 (bitsOf v 16 0)

/-- A write of VOT_TOL_k that changes a tolerance within its range asks for the seal, then for the log. -/
theorem State.writeVotTol_change {s : State} {k : Fin 8} {v : Nat} (hrel : bitsOf v 31 24 ≤ 20)
    (hmin : 1 ≤ bitsOf v 16 0) (hmax : bitsOf v 16 0 ≤ 65536) (hne : s.votTolNew k v ≠ s.reg (R.VOT_TOL k.val)) :
    s.writeVotTol k v =
      if s.sealOpen = false then s.raise { src := 1 }
      else if s.logRefusing then s.discard
      else (s.setWaiting (R.VOT_TOL k.val) (s.votTolNew k v)).log
        { type_ := 0x0023, sub := k.val, q := some (s.time.quantum + 1),
          payload := natLE 4 (s.reg (R.VOT_TOL k.val)) ++ natLE 4 (s.votTolNew k v) } := by
  have hwaiting : (s.setWaiting (R.VOT_TOL k.val) (s.votTolNew k v)).time = s.time :=
    (State.setWaiting_keeps (P := 4) (B := 0x80000000000000000000000000000) rfl rfl
      (.of rfl (in_VOT_TOL k.val k.isLt)) .rfl).time rfl
  unfold State.writeVotTol
  extract_lets old rel abs new waiting
  rw [if_neg (by omega), if_neg (show ¬ new = old from hne), show waiting.time = s.time from hwaiting]
  rfl

/-! ### The statement -/

/-- Settles O30: arrivals and deadlines by the reference and the supply, re-verification and forcing out by what a write
of VOT_CTRL leaves in VOT_STATUS, tolerances by the seal and the log. -/
theorem voterCommands : Obligations.VoterCommands := by
  unfold Obligations.VoterCommands
  refine ⟨?held, ?resolves, ?down, ?deadline, ?deadlineHeld, ?begins, ?notFaulty, ?reverify, ?force, ?forceTwo, ?rejoins,
    ?incomplete, ?tolRange, ?tolChange, ?tolSealed, ?subStop, ?subOff⟩
  case held =>
    intro s c r rest hrun href hopen hkept hnew hq
    obtain ⟨hvot, hgone, hresolved⟩ := State.receive_first (s := s.ticked) hopen hkept hnew hq
    refine ⟨_, execQuantumRecordArrival_held c hrun href, ?_⟩
    rw [hvot]
    exact ⟨rfl, hgone, Vector.getElem_set_self .., hresolved, rfl⟩
  case resolves =>
    intro s arrived corrupt u hrun hu href
    exact execQuantumRecordArrival_resolves hrun hu href
  case down =>
    intro s arrived corrupt hrun
    exact if_pos hrun
  case deadline =>
    intro s hrun href hsupply hcatch hq
    exact execResolutionDeadline_resolves hrun href hsupply hcatch hq
  case deadlineHeld =>
    intro s href
    exact if_pos (.inr (.inl href))
  case begins =>
    intro s c hrun hc hauto hq howed hrejoins hlog
    refine if_neg ?_
    simp only [hrun, hc, hauto, howed, hlog, Nat.not_lt.2 hq, Nat.not_le.2 hrejoins, reduceCtorEq, ne_eq,
      not_true_eq_false, or_self, not_false_eq_true]
  case notFaulty =>
    intro s c hc
    exact if_pos (.inr (.inl hc))
  case reverify =>
    intro s v c hhi hvl hseal hact _ _ hc howed hlog
    have hkeeps := s.votCtrlWritten_keeps v.toNat
    refine ⟨_, congrArg Host.Outcome.next ((State.guard_registerAt registerAt_VOT_CTRL hhi hvl).trans
      (State.writeVotCtrl_reverify hseal hact hc howed hlog)), ?_⟩
    rw [← hkeeps.time rfl]
    exact State.startRev_channel _ c
  case force =>
    intro s v c hhi hvl hseal hlog hold hnew hact hvote
    refine ⟨_, congrArg Host.Outcome.next ((State.guard_registerAt registerAt_VOT_CTRL hhi hvl).trans
      (State.writeVotCtrl_force hseal hlog hold hnew hact hvote)), ?_⟩
    rw [← hnew]
    exact State.writeVotCtrl_force_shows hseal hvote
  case forceTwo =>
    intro s v hhi hvl hseal hold hnew
    exact congrArg Host.Outcome.next ((State.guard_registerAt registerAt_VOT_CTRL hhi hvl).trans
      (State.writeVotCtrl_forceTwo hseal hold hnew))
  case rejoins =>
    intro s c hrun hc hrejoin hus hlog
    exact execChannelRejoin_rejoins hrun hc hrejoin hus hlog
  case incomplete =>
    intro s c hrejoin
    exact if_pos (.inr (.inr (.inl hrejoin)))
  case tolRange =>
    intro s k v hhi hvl hrange
    refine congrArg Host.Outcome.next ((State.guard_registerAt (registerAt_VOT_TOL k) hhi hvl).trans (if_pos ?_))
    omega
  case tolChange =>
    intro s k v new hhi hvl hrel hmin hmax hseal hlog hnew hne
    subst hnew
    refine congrArg Host.Outcome.next ((State.guard_registerAt (registerAt_VOT_TOL k) hhi hvl).trans ?_)
    rw [State.writeVotTol_change hrel hmin hmax hne, if_neg (by rw [hseal]; decide), if_neg (by rw [hlog]; decide)]
    rfl
  case tolSealed =>
    intro s k v hhi hvl hrel hmin hmax hseal hne
    refine congrArg Host.Outcome.next ((State.guard_registerAt (registerAt_VOT_TOL k) hhi hvl).trans ?_)
    rw [State.writeVotTol_change hrel hmin hmax hne, if_pos hseal]
  case subStop =>
    intro s p hrun hsess hset hlong
    refine if_neg ?_
    simp only [hrun, hsess, hset, Nat.not_lt.2 hlong, reduceCtorEq, ne_eq, not_true_eq_false, or_self, not_false_eq_true]
  case subOff =>
    intro s p hset
    exact if_pos (.inr (.inr (.inl hset)))

end Sys2Proof.Machine
end

section
/-! SUPPORT. The supply (R74 to R77, R408): the warning, the restart after a save, Shell's temperature. -/

namespace Sys2Proof.Machine

theorem State.running_set (s : State) {f : Fld} (v : Nat) (i : Isl) (h : f.hi < 32) (hoff : R.MG_ISLAND_STATE ≠ f.off) :
    (s.set f v).running i = s.running i := by
  rw [State.running, State.islState, State.get_set_ne s v h (.inl hoff), State.running, State.islState]

/-! ### The warning (R74) -/

/-- The bit of MET_PFAIL_STATUS that shows a warning source. -/
def pfailLow : WarnSrc → Fld
  | .nPfail => F.MET_PFAIL_STATUS_PIN_LOW
  | .fieldSupply => F.MET_PFAIL_STATUS_VF_LOW

theorem execSupplyLossWarning_eq (src : WarnSrc) (s : State) :
    execSupplyLossWarning src s = .next (if s.running .tb = true ∧ s.isl.supply = .normal ∧ s.warnOn src = true then
      ((s.set (pfailLow src) 1).fault 2 .pw).warn else s.set (pfailLow src) 1) := by
  have hrun : (s.set (pfailLow src) 1).running .tb = s.running .tb := by
    cases src <;> exact s.running_set 1 .tb (by decide) (by decide)
  have hon : (s.set (pfailLow src) 1).warnOn src = s.warnOn src := by
    cases src <;> exact congrArg (· == 1) (s.get_set_ne 1 (by decide) (by decide))
  rw [← hrun, ← hon]
  cases src <;> rfl

theorem registerAt_MG_TEMP : RegisterAt R.MG_TEMP ⟨0x00010, 0x0, 1, .mg, 0x00000000, []⟩ := by decide

theorem State.readRow_registerAt {s : State} {off : Nat} {d : RegDesc} {side : State → State} (h : RegisterAt off d)
    (hi : s.running .hi = true) (hr : s.running d.isl = true) :
    s.readRow off side = { side s with host := { (side s).host with readData := natLE 4 (s.reg off) } } := by
  obtain ⟨-, h4, hrow, hisl⟩ := h
  have ha : assigned off = true := by rw [assigned, hrow, Option.isSome_some, Bool.true_or, Bool.true_or]
  exact State.readRow_ok hi h4 ha (State.serves_of_running hisl hr)

/-- What a temperature sample shows: the value and the peak. -/
def State.tempShown (s : State) (degC : Int) : State :=
  (s.set F.MG_TEMP_SHELL (ofSigned 9 degC)).set F.MG_TEMP_PEAK (ofSigned 9 (max (toSigned 9 (s.get F.MG_TEMP_PEAK)) degC))

/-- Below 135 degrees a sample asks for no warning; at 120 and above it raises EV137 (R408). -/
theorem execShellTemperatureSample_mild (s : State) {degC : Int} (b : Bool) (h : degC < 135) :
    execShellTemperatureSample degC b s = .next
      (if 120 ≤ degC then ((s.tempShown degC).set F.MG_TEMP_HOT 1).raise { src := 137, every := 60000000 }
       else (s.tempShown degC).set F.MG_TEMP_HOT 0) := by
  have hwarn : ¬ (135 ≤ degC) := not_le.2 h
  simp only [execShellTemperatureSample, hwarn, false_and, if_false]
  by_cases h120 : 120 ≤ degC
  · rw [if_pos h120, if_pos h120, decide_eq_true h120]; rfl
  · rw [if_neg h120, if_neg h120, decide_eq_false h120]; rfl

/-- Settles O16: the warning by its source's enable, the save and the restart by the state of the supply, samples by
their temperature. -/
theorem supplyEvents : Obligations.SupplyEvents := by
  unfold Obligations.SupplyEvents
  refine ⟨?pinWarns, ?fieldWarns, ?pinMasked, ?save, ?saved, ?restart, ?withheld, ?cool, ?hot, ?released, ?restarts,
    ?read, fun s => rfl, fun s => rfl, fun s straps rtcUs osc health => rfl⟩
  case pinWarns =>
    intro s htb hsupply hen
    exact (execSupplyLossWarning_eq .nPfail s).trans
      (congrArg Host.Outcome.next (if_pos ⟨htb, hsupply, beq_iff_eq.2 hen⟩))
  case fieldWarns =>
    intro s htb hsupply hen
    exact (execSupplyLossWarning_eq .fieldSupply s).trans
      (congrArg Host.Outcome.next (if_pos ⟨htb, hsupply, beq_iff_eq.2 hen⟩))
  case pinMasked =>
    intro s hen
    have hoff : s.warnOn .nPfail = false := by rw [State.warnOn, State.flag, hen]; rfl
    exact (execSupplyLossWarning_eq .nPfail s).trans (congrArg Host.Outcome.next (if_neg (by simp [hoff])))
  case save =>
    intro s hsupply
    exact congrArg Host.Outcome.next (if_pos hsupply)
  case saved =>
    intro s hsupply
    exact congrArg Host.Outcome.next (if_pos hsupply)
  case restart =>
    intro s hsupply hhold
    exact congrArg Host.Outcome.next (if_pos ⟨hsupply, hhold⟩)
  case withheld =>
    intro s hhold
    exact congrArg Host.Outcome.next (if_neg (by simp [hhold]))
  case cool =>
    intro s degC b hcool
    exact (execShellTemperatureSample_mild s b (by omega)).trans (congrArg Host.Outcome.next (if_neg (not_le.2 hcool)))
  case hot =>
    intro s degC b hhot hlimit
    exact (execShellTemperatureSample_mild s b hlimit).trans (congrArg Host.Outcome.next (if_pos hhot))
  case released =>
    intro s degC hhold hcool hsupply
    exact congrArg Host.Outcome.next ((if_neg (by simp [hhold, hcool])).trans (if_neg hsupply))
  case restarts =>
    intro s degC hhold hcool hsupply
    exact congrArg Host.Outcome.next ((if_neg (by simp [hhold, hcool])).trans (if_pos hsupply))
  case read =>
    intro s hi hmg
    exact congrArg Host.Outcome.next (State.readRow_registerAt registerAt_MG_TEMP hi hmg)

end Sys2Proof.Machine
end

section
/-! SUPPORT. Bits of fields: what a bit reads after a bit of the same or of another field is written. -/

namespace Sys2Proof.Machine

/-- Every bit of a field after one of them is written. -/
theorem State.bit_setBit (s : State) {f : Fld} {i j : Nat} (b : Bool) (h : f.hi < 32) (hj : j < f.hi + 1 - f.lo) :
    (s.setBit f i b).bit f j = if j = i then b else s.bit f j := by
  rw [State.bit, State.setBit, State.get_set_self _ _ _ h, Nat.testBit_mod_two_pow, decide_eq_true hj, Bool.true_and,
    testBit_putBit, State.bit]

theorem State.bit_of_get {s t : State} {f : Fld} (h : t.get f = s.get f) (i : Nat) : t.bit f i = s.bit f i := by
  rw [State.bit, h, State.bit]

/-- A field of another register, or one apart in the same register, keeps its bits. -/
theorem State.bit_set_ne (s : State) {f g : Fld} (v i : Nat) (h : f.hi < 32)
    (hg : g.off ≠ f.off ∨ g.hi < f.lo ∨ f.hi < g.lo) : (s.set f v).bit g i = s.bit g i :=
  State.bit_of_get (s.get_set_ne v h hg) i

theorem State.bit_setBit_ne (s : State) {f g : Fld} (i j : Nat) (b : Bool) (h : f.hi < 32)
    (hg : g.off ≠ f.off ∨ g.hi < f.lo ∨ f.hi < g.lo) : (s.setBit f i b).bit g j = s.bit g j :=
  s.bit_set_ne _ j h hg

theorem Keeps.bit {P B : Nat} {s t : State} (h : Keeps P B s t) (f : Fld) (i : Nat)
    (hb : B.testBit (rowOf f.off) = false) : t.bit f i = s.bit f i :=
  State.bit_of_get (h.get f hb) i

end Sys2Proof.Machine
end

section
/-! SUPPORT. The reference comparison (R56) and the conditions of a point (R70, R72, R73). -/

namespace Sys2Proof.Machine

/-! ### A bank's suspicion shown -/

/-- A bank shown as suspect, or as trusted again. -/
def State.showSuspect (s : State) (b : Fin 3) (v : Bool) : State :=
  (s.setBit F.MET_REFCHK_SUSPECT b.val v).setBit F.MET_STATUS_REF_SUSPECT b.val v

theorem State.refchk_showSuspect (s : State) (b k : Fin 3) (v : Bool) :
    (s.showSuspect b v).bit F.MET_REFCHK_SUSPECT k.val = if k = b then v else s.bit F.MET_REFCHK_SUSPECT k.val := by
  rw [State.showSuspect, State.bit_setBit_ne _ _ _ _ (by decide) (by decide), State.bit_setBit _ _ (by decide) k.isLt]
  simp only [Fin.ext_iff]

theorem State.status_showSuspect (s : State) (b k : Fin 3) (v : Bool) :
    (s.showSuspect b v).bit F.MET_STATUS_REF_SUSPECT k.val =
      if k = b then v else s.bit F.MET_STATUS_REF_SUSPECT k.val := by
  rw [State.showSuspect, State.bit_setBit _ _ (by decide) k.isLt, State.bit_setBit_ne _ _ _ _ (by decide) (by decide)]
  simp only [Fin.ext_iff]

/-- A bank is suspect in both registers that show it. -/
def State.Suspect (s : State) (k : Fin 3) : Prop :=
  s.bit F.MET_REFCHK_SUSPECT k.val = true ∧ s.bit F.MET_STATUS_REF_SUSPECT k.val = true

theorem State.suspect_showSuspect_self (s : State) (b : Fin 3) : (s.showSuspect b true).Suspect b :=
  ⟨(s.refchk_showSuspect b b true).trans (if_pos rfl), (s.status_showSuspect b b true).trans (if_pos rfl)⟩

theorem State.Suspect.showSuspect_ne {s : State} {k b : Fin 3} (h : s.Suspect k) (hne : k ≠ b) (v : Bool) :
    (s.showSuspect b v).Suspect k := by
  rw [State.Suspect, State.refchk_showSuspect, State.status_showSuspect, if_neg hne, if_neg hne]
  exact h

theorem Keeps.suspect {P B : Nat} {s t : State} {k : Fin 3} (h : Keeps P B s t)
    (hchk : B.testBit (rowOf R.MET_REFCHK) = false) (hstatus : B.testBit (rowOf R.MET_STATUS) = false)
    (hs : s.Suspect k) : t.Suspect k :=
  ⟨(h.bit F.MET_REFCHK_SUSPECT k.val hchk).trans hs.1, (h.bit F.MET_STATUS_REF_SUSPECT k.val hstatus).trans hs.2⟩

/-! ### A bank compared (R56) -/

/-- A bank's run of comparisons in which both its pairs alone differ. -/
def MetS.nextSusp (m : MetS) (b : Fin 3) (mine rest : Bool) : Nat := if mine && !rest then m.suspRun[b] + 1 else 0

/-- A bank's run of comparisons in which none of its pairs differs. -/
def MetS.nextClean (m : MetS) (b : Fin 3) (some_ : Bool) : Nat := if some_ then 0 else m.cleanRun[b] + 1

/-- A bank's runs brought up by a comparison. -/
def State.bankCompared (s : State) (b : Fin 3) (mine some_ rest : Bool) : State :=
  { s with met := { s.met with
      suspRun := s.met.suspRun.set b (s.met.nextSusp b mine rest)
      cleanRun := s.met.cleanRun.set b (s.met.nextClean b some_) } }

theorem State.suspRun_bankCompared (s : State) (b k : Fin 3) (mine some_ rest : Bool) :
    (s.bankCompared b mine some_ rest).met.suspRun[k] =
      if k = b then s.met.nextSusp b mine rest else s.met.suspRun[k] := by
  split
  next h => rw [h]; exact Vector.getElem_set_self ..
  next h => exact Vector.getElem_set_ne b.isLt k.isLt (fun e => h (Fin.ext e.symm))

theorem State.allRun_bankCompared (s : State) (b : Fin 3) (mine some_ rest : Bool) :
    (s.bankCompared b mine some_ rest).met.allRun = s.met.allRun := rfl

/-- A bank compared: it becomes suspect with EV012 after three differences, its own or of all banks, and trusted again
after 100 comparisons without one. -/
theorem State.refBank_eq (s : State) (b : Fin 3) (mine some_ rest : Bool) :
    s.refBank b mine some_ rest =
      if s.bit F.MET_REFCHK_SUSPECT b.val = false ∧ (3 ≤ s.met.nextSusp b mine rest ∨ 3 ≤ s.met.allRun) then
        ((s.bankCompared b mine some_ rest).showSuspect b true).raise { src := 12, unit_ := b.val }
      else if s.bit F.MET_REFCHK_SUSPECT b.val = true ∧ 100 ≤ s.met.nextClean b some_ then
        ((s.bankCompared b mine some_ rest).showSuspect b false).dueTests
      else s.bankCompared b mine some_ rest := rfl

theorem State.refBank_met (s : State) (b : Fin 3) (mine some_ rest : Bool) :
    (s.refBank b mine some_ rest).met = (s.bankCompared b mine some_ rest).met := by
  rw [State.refBank_eq]
  split
  · exact (State.raise_keeps _ _).met rfl
  · split <;> rfl

theorem State.refBank_becomes_suspect {s : State} {b : Fin 3} {mine rest : Bool} (some_ : Bool)
    (htrusted : s.bit F.MET_REFCHK_SUSPECT b.val = false)
    (hthird : 3 ≤ s.met.nextSusp b mine rest ∨ 3 ≤ s.met.allRun) : (s.refBank b mine some_ rest).Suspect b := by
  rw [State.refBank_eq, if_pos ⟨htrusted, hthird⟩]
  exact (State.raise_keeps _ _).suspect (by decide) (by decide) (State.suspect_showSuspect_self _ b)

/-- The comparison of another bank leaves a suspect one suspect. -/
theorem State.Suspect.refBank_ne {s : State} {k b : Fin 3} (h : s.Suspect k) (hne : k ≠ b) (mine some_ rest : Bool) :
    (s.refBank b mine some_ rest).Suspect k := by
  have hruns : (s.bankCompared b mine some_ rest).Suspect k := h
  rw [State.refBank_eq]
  split
  · exact (State.raise_keeps _ _).suspect (by decide) (by decide) (hruns.showSuspect_ne hne true)
  · split
    · exact (State.dueTests_keeps _).suspect (by decide) (by decide) (hruns.showSuspect_ne hne false)
    · exact hruns

/-! ### The comparison -/

/-- What a comparison records before it judges the banks: the run of all three differences, and the largest one of the
last second. -/
def State.referencesCompared (s : State) (ab bc ca : Nat) : State :=
  let recent := (s.time.now, max ab (max bc ca)) :: s.met.worst.filter (fun w => decide (s.time.now < w.1 + 1000000))
  ({ s with met := { s.met with
      allRun := if decide (500 < ab) && decide (500 < bc) && decide (500 < ca) then s.met.allRun + 1 else 0
      worst := recent } } : State).setSat F.MET_REFCHK_WORST_PPM (recent.foldl (fun a w => max a w.2) 0)

/-- Bank A has the pairs A–B and C–A, bank B A–B and B–C, bank C B–C and C–A. -/
theorem execReferenceComparison_eq (ab bc ca : Nat) (s : State) :
    execReferenceComparison ab bc ca s = .next
      ((((s.referencesCompared ab bc ca).refBank 0 (decide (500 < ab) && decide (500 < ca))
        (decide (500 < ab) || decide (500 < ca)) (decide (500 < bc))).refBank 1 (decide (500 < ab) && decide (500 < bc))
        (decide (500 < ab) || decide (500 < bc)) (decide (500 < ca))).refBank 2 (decide (500 < bc) && decide (500 < ca))
        (decide (500 < bc) || decide (500 < ca)) (decide (500 < ab))) := rfl

theorem State.refchk_referencesCompared (s : State) (ab bc ca k : Nat) :
    (s.referencesCompared ab bc ca).bit F.MET_REFCHK_SUSPECT k = s.bit F.MET_REFCHK_SUSPECT k :=
  State.bit_set_ne _ _ k (by decide) (by decide)

/-- Settles O27: each bank by its own runs, which the other banks' leave alone; conditions and trips by their counts;
command 0x0108 by the session. -/
theorem meteringConditions : Obligations.MeteringConditions := by
  unfold Obligations.MeteringConditions
  refine ⟨?runs, ?suspect, ?set, ?notYet, ?cleared, ?trip, ?clearTrip, ?transferring⟩
  case runs =>
    intro s ab bc ca
    refine ⟨_, execReferenceComparison_eq ab bc ca s, ?_⟩
    have hsusp : (s.referencesCompared ab bc ca).met.suspRun = s.met.suspRun := rfl
    have hall : (s.referencesCompared ab bc ca).met.allRun =
        if decide (500 < ab) && decide (500 < bc) && decide (500 < ca) then s.met.allRun + 1 else 0 := rfl
    simp only [State.refBank_met, State.suspRun_bankCompared, State.allRun_bankCompared, MetS.nextSusp, hsusp, hall]
    simp [and_assoc]
  case suspect =>
    intro s ab bc ca hab hca hbc hrun htrusted
    refine ⟨_, execReferenceComparison_eq ab bc ca s, ?_⟩
    have hthird : 3 ≤ (s.referencesCompared ab bc ca).met.nextSusp 0 (decide (500 < ab) && decide (500 < ca))
        (decide (500 < bc)) := by
      rw [decide_eq_true hab, decide_eq_true hca, decide_eq_false (not_lt.2 hbc)]
      exact Nat.succ_le_succ hrun
    have hbecomes := State.refBank_becomes_suspect (decide (500 < ab) || decide (500 < ca))
      ((s.refchk_referencesCompared ab bc ca 0).trans htrusted) (.inl hthird)
    exact (hbecomes.refBank_ne (by decide) _ _ _).refBank_ne (by decide) _ _ _
  case set =>
    intro s c p k hrun hcount
    exact if_neg (not_or.2 ⟨ne_false_of_eq_true hrun, not_lt.2 hcount⟩)
  case notYet =>
    intro s c p k hcount
    exact if_pos (.inr hcount)
  case cleared =>
    intro s c p k hrun hcount
    exact if_neg (not_or.2 ⟨ne_false_of_eq_true hrun, not_lt.2 hcount⟩)
  case trip =>
    intro s c p row hrun hcount
    exact if_neg (not_or.2 ⟨ne_false_of_eq_true hrun, not_lt.2 hcount⟩)
  case clearTrip =>
    intro s d hadmits hsess
    exact congrArg Host.Outcome.next ((State.command_ok hadmits).trans (if_neg hsess))
  case transferring =>
    intro s d hadmits hsess
    exact congrArg Host.Outcome.next ((State.command_ok hadmits).trans (if_pos hsess))

end Sys2Proof.Machine
end

section
/-! SUPPORT. Start tests (R68, R69): requested, begun, and judged bank by bank. -/

namespace Sys2Proof.Machine

theorem registerAt_MET_STEST_CTRL :
    RegisterAt R.MET_STEST_CTRL ⟨0x20040, 0x0, 1, .vl, 0x00000000, [⟨7, 0, .w1s⟩]⟩ := by
  decide

/-- A request leaves a point under test out of the pending ones (R68). -/
theorem State.requestTests_eq (s : State) (mask : Nat) :
    s.requestTests mask = (s.set F.MET_STEST_CTRL_REQ (s.get F.MET_STEST_CTRL_REQ ||| (mask &&& s.elecMask))).set
      F.MET_STEST_CTRL_PENDING (s.get F.MET_STEST_CTRL_PENDING |||
        ((mask &&& s.elecMask) - ((mask &&& s.elecMask) &&& s.get F.MET_STEST_CTRL_BUSY))) := by
  unfold State.requestTests
  extract_lets m requested
  rw [show requested.get F.MET_STEST_CTRL_PENDING = s.get F.MET_STEST_CTRL_PENDING from
      s.get_set_ne _ (by decide) (by decide),
    show requested.get F.MET_STEST_CTRL_BUSY = s.get F.MET_STEST_CTRL_BUSY from s.get_set_ne _ (by decide) (by decide)]

/-! ### A point switched to the test sources and back -/

/-- The masks of MET_STEST_CTRL, a bit for each point: REQ, BUSY and PENDING. -/
def stestMask (k : Fin 3) : Fld := ⟨R.MET_STEST_CTRL, 8 * k.val + 7, 8 * k.val⟩

/-- A point's bit in two of the masks written, and its TEST_ACTIVE. -/
def State.testSwitched (s : State) (p : Fin 8) (j k : Fin 3) (a b : Bool) (v : Nat) : State :=
  ((s.setBit (stestMask j) p.val a).setBit (stestMask k) p.val b).set (F.MET_TPCOND_TEST_ACTIVE p.val) v

theorem stestCtrl_ne_tpcond (p : Fin 8) : R.MET_STEST_CTRL ≠ R.MET_TPCOND p.val := by revert p; decide

theorem stestResult_ne_tpcond (p : Fin 8) : R.MET_STEST_RESULT ≠ R.MET_TPCOND p.val := by revert p; decide

theorem rowOf_MET_TPCOND (p : Fin 8) : rowOf (R.MET_TPCOND p.val) = 58 := by revert p; decide

theorem stestMask_hi (k : Fin 3) : (stestMask k).hi < 32 := by revert k; decide

theorem stestMask_apart {j k : Fin 3} (h : j ≠ k) :
    (stestMask j).hi < (stestMask k).lo ∨ (stestMask k).hi < (stestMask j).lo := by
  revert j k; decide

theorem State.bit_setBit_stestMask (s : State) (p : Fin 8) (k : Fin 3) (b : Bool) :
    (s.setBit (stestMask k) p.val b).bit (stestMask k) p.val = b :=
  State.bit_setBit_self _ _ _ _ (stestMask_hi k) (by show p.val < 8 * k.val + 7 + 1 - 8 * k.val; omega)

theorem State.testSwitched_shows (s : State) (p : Fin 8) {j k : Fin 3} (hjk : j ≠ k) (a b : Bool) {v : Nat}
    (hv : v < 2) :
    (s.testSwitched p j k a b v).bit (stestMask j) p.val = a ∧
      (s.testSwitched p j k a b v).bit (stestMask k) p.val = b ∧
      (s.testSwitched p j k a b v).get (F.MET_TPCOND_TEST_ACTIVE p.val) = v := by
  have hactive : ∀ (x : State) (i : Fin 3), (x.set (F.MET_TPCOND_TEST_ACTIVE p.val) v).bit (stestMask i) p.val =
      x.bit (stestMask i) p.val := fun x i =>
    x.bit_set_ne v p.val (by decide : 6 < 32) (.inl (stestCtrl_ne_tpcond p))
  refine ⟨?_, ?_, State.get_set_of_lt _ (by decide : 6 < 32) hv⟩
  · rw [State.testSwitched, hactive, State.bit_setBit_ne _ _ _ _ (stestMask_hi k) (.inr (stestMask_apart hjk)),
      State.bit_setBit_stestMask]
  · rw [State.testSwitched, hactive, State.bit_setBit_stestMask]

/-- The lands of a point switched to the test sources (R68): PENDING cleared, BUSY set, its accumulators cleared. -/
def State.testBegun (s : State) (p : Fin 8) : State :=
  { s.testSwitched p 2 1 false true 1 with met := { s.met with
    testQ := s.met.testQ.set p (some s.time.quantum)
    chans := s.met.chans.map (fun x => { x with testAcc := x.testAcc.set p 0 }) } }

theorem execStartTestBegin_begins {s : State} {p : Fin 8} (hpending : s.bit F.MET_STEST_CTRL_PENDING p.val = true)
    (hidle : s.met.testQ[p] = none) (hmay : s.testMayRun p = true) (hus : s.time.usInQ = 0)
    (hsupply : s.isl.supply = .normal) : execStartTestBegin p s = .next (s.testBegun p) := by
  refine if_neg ?_
  simp only [hpending, hidle, hmay, hus, hsupply, Option.isSome_none, Bool.true_eq_false, Bool.false_eq_true,
    ne_eq, not_true_eq_false, or_self, not_false_eq_true]

/-! ### The banks judged (R68, R69) -/

/-- Whether a bank measured the test energy `e` of a point to within a tenth. -/
def State.bankPasses (s : State) (p : Fin 8) (e : Rat) (c : Fin 3) : Bool :=
  decide (9 / 10 * e ≤ s.met.chans[c].testAcc[p]) && decide (s.met.chans[c].testAcc[p] ≤ 11 / 10 * e)

/-- The result of one bank recorded. -/
def State.judgeBank (p : Fin 8) (e : Rat) (s : State) (c : Fin 3) : State := s.testResult p c (s.bankPasses p e c)

/-- A bank's result stands in its own bit of MET_STEST_RESULT. -/
theorem State.pass_testResult (s : State) (p : Fin 8) (c k : Fin 3) (pass : Bool) :
    (s.testResult p c pass).bit F.MET_STEST_RESULT_PASS (3 * p.val + k.val) =
      if k = c then pass else s.bit F.MET_STEST_RESULT_PASS (3 * p.val + k.val) := by
  have hkeeps : Keeps 98584 0x800000000000000000000000000080002800000000000000018088802000
      (s.setBit F.MET_STEST_RESULT_PASS (3 * p.val + c.val) pass) (s.testResult p c pass) := by
    unfold State.testResult
    extract_lets shown raised failed
    split
    · exact Keeps.vot_ rfl .rfl
    · exact .app (State.failChan_keeps _ _ _) rfl rfl (.vot_ rfl (.app (State.raise_keeps _ _) rfl rfl .rfl))
  rw [hkeeps.bit _ _ (by decide), State.bit_setBit _ _ (by decide) (by show _ < 24; omega)]
  simp only [Fin.ext_iff, Nat.add_left_cancel_iff]

theorem State.judgeBank_keeps (p : Fin 8) (e : Rat) (s : State) (c : Fin 3) :
    Keeps 98584 0x800000000000000000000000000080002800000000000008018088802000 s (s.judgeBank p e c) :=
  s.testResult_keeps p c _

theorem State.bankPasses_judgeBank (p : Fin 8) (e : Rat) (s : State) (c k : Fin 3) :
    (s.judgeBank p e c).bankPasses p e k = s.bankPasses p e k := by
  rw [State.bankPasses, (State.judgeBank_keeps p e s c).met rfl, State.bankPasses]

theorem State.pass_judgeBank (p : Fin 8) (e : Rat) (s : State) (c k : Fin 3) :
    (s.judgeBank p e c).bit F.MET_STEST_RESULT_PASS (3 * p.val + k.val) =
      if k = c then s.bankPasses p e c else s.bit F.MET_STEST_RESULT_PASS (3 * p.val + k.val) :=
  s.pass_testResult p c k _

/-- The results of the three banks recorded. -/
def State.banksJudged (s : State) (p : Fin 8) (e : Rat) : State := chans.foldl (State.judgeBank p e) s

theorem State.banksJudged_keeps (s : State) (p : Fin 8) (e : Rat) :
    Keeps 98584 0x800000000000000000000000000080002800000000000008018088802000 s (s.banksJudged p e) :=
  foldl_of .rfl fun x c _ h => .app (State.judgeBank_keeps p e x c) rfl rfl h

theorem State.pass_banksJudged (s : State) (p : Fin 8) (e : Rat) (k : Fin 3) :
    (s.banksJudged p e).bit F.MET_STEST_RESULT_PASS (3 * p.val + k.val) = s.bankPasses p e k := by
  have hchans : chans = [0, 1, 2] := rfl
  simp only [State.banksJudged, hchans, List.foldl_cons, List.foldl_nil, State.pass_judgeBank,
    State.bankPasses_judgeBank]
  fin_cases k <;> rfl

/-! ### A test ends -/

/-- The lands of a point switched back: BUSY and REQ cleared. -/
def State.testStopped (s : State) (p : Fin 8) : State :=
  ({ s with met := { s.met with testQ := s.met.testQ.set p none } } : State).testSwitched p 1 0 false false 0

/-- TEST_OK by the banks that passed, EV017, and the checks of a point that waited for the test (R69, R194). -/
def State.testConcluded (s : State) (p : Fin 8) : State :=
  ((s.set (F.MET_TPCOND_TEST_OK p.val)
    (decide (2 ≤ ones (s.get F.MET_STEST_RESULT_PASS >>> (3 * p.val)) 3)).toNat).raise { src := 17, point := p.val }).ap (fun s => s.beginChecks p)

theorem execStartTestEnd_due {s : State} {p : Fin 8} {q0 : Nat} (hrun : s.running .vl = true)
    (hq : s.met.testQ[p] = some q0) (hdue : q0 + 100 ≤ s.time.quantum) :
    execStartTestEnd p s = .next (((s.testStopped p).banksJudged p (s.testEnergy p)).testConcluded p) := by
  unfold execStartTestEnd
  rw [hq]
  exact if_neg (not_or.2 ⟨ne_false_of_eq_true hrun, not_lt.2 hdue⟩)

/-- What follows the entry of TEST_OK leaves metering and its registers alone. -/
theorem State.testConcluded_keeps (s : State) (p : Fin 8) :
    Keeps 98656 0x800000000000000000010580000000000000000000000000018088800000
      (s.set (F.MET_TPCOND_TEST_OK p.val) (decide (2 ≤ ones (s.get F.MET_STEST_RESULT_PASS >>> (3 * p.val)) 3)).toNat)
      (s.testConcluded p) :=
  State.ap_keeps rfl rfl (.app (State.raise_keeps _ _) rfl rfl .rfl) fun x h => .app (x.beginChecks_keeps p) rfl rfl h

/-- A field apart from TEST_OK reads as before when a test is concluded. -/
theorem State.get_testConcluded (s : State) (p : Fin 8) {f : Fld}
    (hrow : (0x800000000000000000010580000000000000000000000000018088800000 : Nat).testBit (rowOf f.off) = false)
    (hapart : f.off ≠ R.MET_TPCOND p.val ∨ f.hi < 7 ∨ 7 < f.lo) : (s.testConcluded p).get f = s.get f :=
  ((s.testConcluded_keeps p).get f hrow).trans (s.get_set_ne _ (by decide : 7 < 32) hapart)

/-- Settles O28: a request by its masks, the begin and the end of a test by what each writes; between end and conclusion
the banks are judged, each in its own bit. -/
theorem startTests : Obligations.StartTests := by
  unfold Obligations.StartTests
  refine ⟨?requested, ?command, ?begins, ?rests, ?ends, ?idle⟩
  case requested =>
    intro s v hi hvl
    exact congrArg Host.Outcome.next ((State.guard_registerAt registerAt_MET_STEST_CTRL hi hvl).trans
      (s.requestTests_eq _))
  case command =>
    intro s d hadmits
    exact congrArg Host.Outcome.next (State.command_ok hadmits)
  case begins =>
    intro s p hpending hidle hmay hus hsupply
    obtain ⟨hpend, hbusy, hactive⟩ :=
      s.testSwitched_shows p (j := 2) (k := 1) (by decide) false true (v := 1) (by decide)
    exact ⟨_, execStartTestBegin_begins hpending hidle hmay hus hsupply, rfl, hpend, hbusy, hactive,
      fun c => Vector.getElem_map ..⟩
  case rests =>
    intro s p hmay
    exact if_pos (.inr (.inr (.inl hmay)))
  case ends =>
    intro s p q0 hrun hq hdue
    refine ⟨_, execStartTestEnd_due hrun hq hdue, ?_⟩
    obtain ⟨hbusy, hreq, hactive⟩ :=
      State.testSwitched_shows { s with met := { s.met with testQ := s.met.testQ.set p none } } p (j := 1) (k := 0) (by decide) false false (v := 0) (by decide)
    have hjudged := (s.testStopped p).banksJudged_keeps p (s.testEnergy p)
    have hctrl := stestCtrl_ne_tpcond p
    refine ⟨?_, ?_, ?_, ?_, fun c => ?_⟩
    · rw [(State.testConcluded_keeps _ p).met rfl, State.set_met, hjudged.met rfl]
      rfl
    · exact (State.bit_of_get (State.get_testConcluded _ p (by decide) (.inl hctrl)) _).trans
        ((hjudged.bit F.MET_STEST_CTRL_BUSY _ (by decide)).trans hbusy)
    · exact (State.bit_of_get (State.get_testConcluded _ p (by decide) (.inl hctrl)) _).trans
        ((hjudged.bit F.MET_STEST_CTRL_REQ _ (by decide)).trans hreq)
    · rw [State.get_testConcluded _ p ((congrArg _ (rowOf_MET_TPCOND p)).trans (by decide))
          (.inr (.inl (by show 6 < 7; decide))),
        hjudged.get _ ((congrArg _ (rowOf_MET_TPCOND p)).trans (by decide))]
      exact hactive
    · exact (State.bit_of_get (State.get_testConcluded _ p (by decide) (.inl (stestResult_ne_tpcond p))) _).trans
        (State.pass_banksJudged _ p _ c)
  case idle =>
    intro s p hq
    show execStartTestEnd p s = _
    rw [execStartTestEnd, hq]

end Sys2Proof.Machine
end

section
/-! SUPPORT. Results that wait for the host (R258): ring entries, events and the legal log add none. -/

namespace Sys2Proof.Machine

theorem State.results_setRing (s : State) (q : RingQ) (r : RingS) : (s.setRing q r).host.results = s.host.results := by
  cases q <;> rfl

theorem State.results_signal (s : State) {v : Nat} (h : v < 64) : (s.signal v).host.results = s.host.results :=
  congrArg HostS.results ((s.signal_keeps v h).host rfl)

theorem State.results_coalesce (s : State) (q : RingQ) : (s.coalesce q).host.results = s.host.results := by
  unfold State.coalesce
  extract_lets cfg r
  split
  · rfl
  · split
    · rw [State.results_signal _ (bitsOf_lt cfg 29 24), State.results_setRing]
    · exact State.results_setRing ..

theorem State.results_putEntry (s : State) (q : RingQ) (entry : Nat → List Byte) :
    (s.putEntry q entry).host.results = s.host.results := by
  unfold State.putEntry
  extract_lets r size tail next written moved turned
  rw [State.results_coalesce, State.results_setRing, State.set_host, (State.toHost_keeps s _ _).host rfl]

theorem State.results_offerEntry (s : State) (q : RingQ) (entry : Nat → List Byte) :
    (s.offerEntry q entry).host.results = s.host.results := by
  unfold State.offerEntry
  split
  · rfl
  · split
    · unfold State.ringDrop
      rw [State.set_host, State.count_host, State.results_setRing]
    · exact State.results_putEntry ..

theorem State.results_raise (s : State) (e : Ev) : (s.raise e).host.results = s.host.results := by
  unfold State.raise
  extract_lets before limited n q r t qn counted
  have hlimited : limited.host.results = s.host.results := by
    subst limited
    split <;> rfl
  split
  · rfl
  · split
    · exact hlimited
    · split
      · exact hlimited
      · rw [State.results_offerEntry, State.results_setRing, hlimited]

/-- A part of the state that no event, no register write and no log entry touches is kept by the legal log. -/
theorem State.log_same {α : Type} {part : State → α} (s : State) (e : LogE)
    (hraise : ∀ (x : State) (v : Ev), part (x.raise v) = part x)
    (hset : ∀ (x : State) (f : Fld) (v : Nat), part (x.set f v) = part x)
    (hlog : ∀ l : List (List Byte), part { s with bil := { s.bil with log := l } } = part s) :
    part (s.log e) = part s := by
  unfold State.log
  extract_lets used bil entered counted warned
  have hcounted : part counted = part s := (hset entered _ _).trans (hlog _)
  have hwarned : part warned = part s :=
    ite_of (Q := fun x : State => part x = part s) ((hraise _ _).trans hcounted) hcounted
  split
  · exact (hraise _ _).trans (hset _ _ _)
  · split
    · exact (hraise _ _).trans ((hset _ _ _).trans hwarned)
    · exact hwarned

theorem State.results_log (s : State) (e : LogE) : (s.log e).host.results = s.host.results :=
  State.log_same (part := fun x => x.host.results) s e State.results_raise (fun _ _ _ => rfl) fun _ => rfl

theorem State.tariffPend_log (s : State) (e : LogE) : (s.log e).bil.tariffPend = s.bil.tariffPend :=
  State.log_same (part := fun x => x.bil.tariffPend) s e
    (fun x v => congrArg BilS.tariffPend ((x.raise_keeps v).bil rfl)) (fun _ _ _ => rfl) fun _ => rfl

end Sys2Proof.Machine
end

section
/-! SUPPORT. Loading a calibration set and a tariff structure (R60, R61, R152, R358): the checks in their order, the
change fuse, and what a load that passes leaves. -/

namespace Sys2Proof.Machine

/-! ### Fields of records (R11) -/

theorem leNat_lt (l : List Byte) : leNat l < 256 ^ l.length := by
  induction l with
  | nil => exact Nat.one_pos
  | cons b t ih =>
    have hb : b.toNat < 256 := b.isLt
    rw [leNat, List.length_cons, pow_succ]
    omega

theorem fld_lt (l : List Byte) (off n : Nat) : fld l off n < 256 ^ n :=
  (leNat_lt _).trans_le (Nat.pow_le_pow_right (by decide) (List.length_take_le _ _))

/-! ### Limited changes (R358) -/

/-- A fuse that verifies at its first attempt is one change less; then the change is made. -/
theorem State.limited_ok {s : State} {f : Fld} (d : Desc) (change : State → State) (hsupply : s.isl.supply = .normal)
    (hfuses : s.key.badFuses = 0) (hleft : 0 < s.get f) : s.limited d f change = change (s.set f (s.get f - 1)) := by
  have hkey : ({ s with key := { s.key with badFuses := 0 } } : State) = s := by rw [← hfuses]
  have hblow : s.blowFuse f = (true, s.set f (s.get f - 1)) := by
    unfold State.blowFuse
    extract_lets left bad
    rw [hkey, show bad = 0 from hfuses, if_pos hleft, Nat.sub_zero]
  unfold State.limited
  rw [if_neg (not_not_intro hsupply), hblow]

/-- A limited load: the checks of every limited change and of the points, the checks of the contents, then the fuse and
the change. -/
def State.limitedLoad (s : State) (d : Desc) (f : Fld) (bad : Option Nat) (change : State → State) : State :=
  match firstFail (s.limitedChecks f ++ [(s.noTransfer, 0x0007, 5)]) with
  | some (st, det) => s.complete d st det []
  | none =>
    match bad with
    | some k => s.complete d 0x0008 k []
    | none => s.limited d f change

theorem State.limitedLoad_sealed {s : State} (d : Desc) (f : Fld) (bad : Option Nat) (change : State → State)
    (hseal : s.sealOpen = false) : s.limitedLoad d f bad change = s.complete d 0x0004 0 [] := by
  have hfail : firstFail (s.limitedChecks f ++ [(s.noTransfer, 0x0007, 5)]) = some (0x0004, 0) := by
    simp [firstFail, State.limitedChecks, hseal]
  unfold State.limitedLoad
  rw [hfail]

section
variable {s : State} {f : Fld} (d : Desc) (change : State → State) (hseal : s.sealOpen = true)
  (hlog : s.logRefusing = false) (hleft : 0 < s.get f)
include hseal hlog hleft

theorem State.limitedLoad_transferring (bad : Option Nat) (htransfer : s.noTransfer = false) :
    s.limitedLoad d f bad change = s.complete d 0x0007 5 [] := by
  have hfail : firstFail (s.limitedChecks f ++ [(s.noTransfer, 0x0007, 5)]) = some (0x0007, 5) := by
    simp [firstFail, State.limitedChecks, hseal, hlog, hleft, htransfer]
  unfold State.limitedLoad
  rw [hfail]

theorem State.limitedLoad_checked (bad : Option Nat) (hrest : s.noTransfer = true) :
    s.limitedLoad d f bad change = match bad with
      | some k => s.complete d 0x0008 k []
      | none => s.limited d f change := by
  have hpass : firstFail (s.limitedChecks f ++ [(s.noTransfer, 0x0007, 5)]) = none :=
    firstFail_none (by simp [State.limitedChecks, hseal, hlog, hleft, hrest])
  unfold State.limitedLoad
  rw [hpass]

theorem State.limitedLoad_ok (hrest : s.noTransfer = true) (hsupply : s.isl.supply = .normal)
    (hfuses : s.key.badFuses = 0) : s.limitedLoad d f none change = change (s.set f (s.get f - 1)) :=
  (State.limitedLoad_checked d change hseal hlog hleft none hrest).trans
    (State.limited_ok d change hsupply hfuses hleft)

end

/-- The fuse blown shows in the number of changes left. -/
theorem State.get_fuse (s : State) {f : Fld} (hf : f.hi < 32) : (s.set f (s.get f - 1)).get f = s.get f - 1 :=
  State.get_set_of_lt s hf ((Nat.sub_le _ _).trans_lt (s.get_lt f))

/-! ### A calibration set (R61) -/

/-- A calibration set that waits for the boundary, its number and CRC shown. -/
def State.calShown (s : State) (b : List Byte) : State :=
  (({ s with met := { s.met with calPend := some b } } : State).set F.MET_CAL_ID_SET_NO (fld b 4 2)).set F.MET_CAL_CRC_CRC
    (fld b 6928 4)

/-- The load logged, with EV123. -/
def State.calLogged (s : State) (d : Desc) (b : List Byte) : State :=
  ((s.calShown b).log
    { type_ := 0x0030, src := d.logSrc, payload := natLE 2 (s.get F.MET_CAL_ID_SET_NO) ++ natLE 2 (fld b 4 2) ++
        natLE 4 (fld b 6928 4) ++ natLE 1 (s.get F.KEY_CHG_LEFT_CAL) }).raise { src := 123 }

/-- A calibration set loaded, its fuse blown before. -/
def loadCal (d : Desc) (b : List Byte) (s : State) : State := (s.calLogged d b).ok d (natLE 1 (s.get F.KEY_CHG_LEFT_CAL))

/-- The row of command 0x0204 in the catalogue (R266). -/
abbrev calSpec : CmdSpec := { opcode := 0x0204, priv := some 2, isl := .vl, staged := .len 6932 6932 false, load := true }

theorem execLoadCalibrationSet_eq {s : State} {d : Desc} (h : s.admits d calSpec) :
    execLoadCalibrationSet d s = .next
      (s.limitedLoad d F.KEY_CHG_LEFT_CAL (s.calBad (s.staged d)) (loadCal d (s.staged d))) :=
  congrArg Host.Outcome.next (State.command_ok h)

theorem State.calLogged_keeps (s : State) (d : Desc) (b : List Byte) :
    Keeps 98576 0x800000000000000000000000000080000000000000000000018088800000 (s.calShown b) (s.calLogged d b) :=
  .app (State.raise_keeps _ _) rfl rfl (.app (State.log_keeps _ _) rfl rfl .rfl)

theorem State.results_calLogged (s : State) (d : Desc) (b : List Byte) :
    (s.calLogged d b).host.results = s.host.results :=
  (State.results_raise _ _).trans (State.results_log _ _)

theorem loadCal_shows (d : Desc) (b : List Byte) (s : State) :
    (loadCal d b s).met.calPend = some b ∧ (loadCal d b s).get F.MET_CAL_ID_SET_NO = fld b 4 2 ∧
      (loadCal d b s).get F.MET_CAL_CRC_CRC = fld b 6928 4 ∧
      (loadCal d b s).get F.KEY_CHG_LEFT_CAL = s.get F.KEY_CHG_LEFT_CAL := by
  have hkeeps := s.calLogged_keeps d b
  refine ⟨congrArg MetS.calPend (hkeeps.met rfl), ?_, ?_, ?_⟩
  · calc (loadCal d b s).get F.MET_CAL_ID_SET_NO = (s.calShown b).get F.MET_CAL_ID_SET_NO := hkeeps.get _ (by decide)
      _ = State.get (State.set _ F.MET_CAL_ID_SET_NO (fld b 4 2)) F.MET_CAL_ID_SET_NO :=
        State.get_set_ne _ _ (by decide) (by decide)
      _ = fld b 4 2 := State.get_set_of_lt _ (by decide) (fld_lt b 4 2)
  · calc (loadCal d b s).get F.MET_CAL_CRC_CRC = (s.calShown b).get F.MET_CAL_CRC_CRC := hkeeps.get _ (by decide)
      _ = fld b 6928 4 := State.get_set_of_lt _ (by decide) (fld_lt b 6928 4)
  · calc (loadCal d b s).get F.KEY_CHG_LEFT_CAL = (s.calShown b).get F.KEY_CHG_LEFT_CAL := hkeeps.get _ (by decide)
      _ = State.get (State.set _ F.MET_CAL_ID_SET_NO (fld b 4 2)) F.KEY_CHG_LEFT_CAL :=
        State.get_set_ne _ _ (by decide) (by decide)
      _ = s.get F.KEY_CHG_LEFT_CAL := State.get_set_ne _ _ (by decide) (by decide)

theorem results_loadCal (d : Desc) (b : List Byte) (s : State) :
    (loadCal d b s).host.results = s.host.results ++ [⟨d, 0, 0, natLE 1 (s.get F.KEY_CHG_LEFT_CAL)⟩] :=
  congrArg (· ++ [_]) (s.results_calLogged d b)

/-! ### A tariff structure (R152) -/

/-- A tariff structure that waits for the next rate commitment, its number and default rate shown. -/
def State.tariffShown (s : State) (b : List Byte) : State :=
  ((({ s with bil := { s.bil with tariffPend := some (s.time.quantum + 1, b) } } : State).set F.BIL_TAR_ID_STRUCT_NO
    (fld b 4 2)).set F.BIL_TAR_ID_DEFAULT_RATE (fld b 10 1)).bumpSeq 2

/-- The load logged, with EV059 and EV123. -/
def State.tariffLogged (s : State) (d : Desc) (b : List Byte) : State :=
  (((s.tariffShown b).log
    { type_ := 0x0031, src := d.logSrc, payload := natLE 2 (s.get F.BIL_TAR_ID_STRUCT_NO) ++ natLE 2 (fld b 4 2) ++
        natLE 4 (fld b (400 + 16 * fld b 8 2) 4) ++ natLE 1 (s.get F.KEY_CHG_LEFT_TARIFF) }).raise { src := 59 }).raise
    { src := 123 }

/-- BIL_NEXT_BOUND brought up from a structure, while AP runs. -/
def State.showNextBound (s : State) (b : List Byte) : State :=
  if s.running .ap then
    s.set64 R.BIL_NEXT_BOUND_LO (match nextBoundary (some b) (s.devTime : Int) with
      | some t => t.toNat
      | none => 2 ^ 64 - 1)
  else s

/-- A tariff structure loaded, its fuse blown before. -/
def loadTariff (d : Desc) (b : List Byte) (s : State) : State :=
  ((s.tariffLogged d b).showNextBound b).ok d (natLE 1 (s.get F.KEY_CHG_LEFT_TARIFF))

/-- The row of command 0x0205 in the catalogue (R266). -/
abbrev tariffSpec : CmdSpec :=
  { opcode := 0x0205, priv := some 2, isl := .vl, staged := .len 0 0x80000 false, load := true }

theorem execLoadTariffStructure_eq {s : State} {d : Desc} (h : s.admits d tariffSpec) :
    execLoadTariffStructure d s = .next
      (s.limitedLoad d F.KEY_CHG_LEFT_TARIFF (s.tariffBad (s.staged d)) (loadTariff d (s.staged d))) :=
  congrArg Host.Outcome.next (State.command_ok h)

theorem State.showNextBound_keeps (s : State) (b : List Byte) :
    Keeps 0 0x3000000000000000000000000000000 s (s.showNextBound b) :=
  ite_of (Q := Keeps 0 0x3000000000000000000000000000000 s)
    (.set64 (.of rfl in_BIL_NEXT_BOUND_LO) (.of rfl in_BIL_NEXT_BOUND_HI) .rfl) .rfl

theorem State.showNextBound_tariffLogged_keeps (s : State) (d : Desc) (b : List Byte) :
    Keeps 98576 0x800000000000000000000000000083000000000000000000018088800000 (s.tariffShown b)
      ((s.tariffLogged d b).showNextBound b) :=
  .app (State.showNextBound_keeps _ b) rfl rfl (.app (State.raise_keeps _ _) rfl rfl (.app (State.raise_keeps _ _) rfl rfl
    (.app (State.log_keeps _ _) rfl rfl .rfl)))

theorem State.tariffPend_tariffLogged (s : State) (d : Desc) (b : List Byte) :
    (s.tariffLogged d b).bil.tariffPend = some (s.time.quantum + 1, b) := by
  rw [State.tariffLogged, (State.raise_keeps _ _).bil rfl, (State.raise_keeps _ _).bil rfl, State.tariffPend_log]
  rfl

theorem State.results_tariffLogged (s : State) (d : Desc) (b : List Byte) :
    (s.tariffLogged d b).host.results = s.host.results :=
  (State.results_raise _ _).trans ((State.results_raise _ _).trans (State.results_log _ _))

theorem firstFail_eq_none {l : List (Bool × Nat × Nat)} (h : firstFail l = none) : ∀ c ∈ l, c.1 = true := by
  unfold firstFail at h
  split at h
  · cases h
  · next hfind => simpa using List.find?_eq_none.1 hfind

/-- A structure that passes its checks names a default rate of 0 to 15 (R152). -/
theorem State.defaultRate_lt {s : State} {b : List Byte} (h : s.tariffBad b = none) : fld b 10 1 < 16 := by
  have hhead := firstFail_eq_none (Option.map_eq_none_iff.1 h)
    (headOk b && (calEntries (some b)).all entryOk, 10, 0) (by simp)
  obtain ⟨hok, -⟩ := Bool.and_eq_true_iff.1 hhead
  simp only [headOk, Bool.and_eq_true, decide_eq_true_eq] at hok
  obtain ⟨⟨⟨⟨⟨⟨hrate, -⟩, -⟩, -⟩, -⟩, -⟩, -⟩ := hok
  exact Nat.lt_succ_of_le hrate

theorem loadTariff_shows (d : Desc) {b : List Byte} (s : State) (hrate : fld b 10 1 < 16) :
    (loadTariff d b s).bil.tariffPend = some (s.time.quantum + 1, b) ∧
      (loadTariff d b s).get F.BIL_TAR_ID_STRUCT_NO = fld b 4 2 ∧
      (loadTariff d b s).get F.BIL_TAR_ID_DEFAULT_RATE = fld b 10 1 ∧
      (loadTariff d b s).get F.KEY_CHG_LEFT_TARIFF = s.get F.KEY_CHG_LEFT_TARIFF := by
  have hkeeps := s.showNextBound_tariffLogged_keeps d b
  refine ⟨?_, ?_, ?_, ?_⟩
  · exact (congrArg BilS.tariffPend ((State.showNextBound_keeps _ b).bil rfl)).trans (s.tariffPend_tariffLogged d b)
  · calc (loadTariff d b s).get F.BIL_TAR_ID_STRUCT_NO = (s.tariffShown b).get F.BIL_TAR_ID_STRUCT_NO :=
        hkeeps.get _ (by decide)
      _ = State.get (State.set _ F.BIL_TAR_ID_STRUCT_NO (fld b 4 2)) F.BIL_TAR_ID_STRUCT_NO :=
        State.get_set_ne _ _ (by decide) (by decide)
      _ = fld b 4 2 := State.get_set_of_lt _ (by decide) (fld_lt b 4 2)
  · calc (loadTariff d b s).get F.BIL_TAR_ID_DEFAULT_RATE = (s.tariffShown b).get F.BIL_TAR_ID_DEFAULT_RATE :=
        hkeeps.get _ (by decide)
      _ = fld b 10 1 := State.get_set_of_lt _ (by decide) hrate
  · calc (loadTariff d b s).get F.KEY_CHG_LEFT_TARIFF = (s.tariffShown b).get F.KEY_CHG_LEFT_TARIFF :=
        hkeeps.get _ (by decide)
      _ = State.get (State.set _ F.BIL_TAR_ID_STRUCT_NO (fld b 4 2)) F.KEY_CHG_LEFT_TARIFF :=
        State.get_set_ne _ _ (by decide) (by decide)
      _ = s.get F.KEY_CHG_LEFT_TARIFF := State.get_set_ne _ _ (by decide) (by decide)

theorem results_loadTariff (d : Desc) (b : List Byte) (s : State) :
    (loadTariff d b s).host.results = s.host.results ++ [⟨d, 0, 0, natLE 1 (s.get F.KEY_CHG_LEFT_TARIFF)⟩] :=
  congrArg (· ++ [_]) ((congrArg HostS.results ((State.showNextBound_keeps _ b).host rfl)).trans
    (s.results_tariffLogged d b))

/-! ### The statement -/

/-- Settles O31: both loads are the limited load of their contents, so its checks answer in their order; a load that
passes is read off after the fuse. -/
theorem calibrationAndTariff : Obligations.CalibrationAndTariff := by
  unfold Obligations.CalibrationAndTariff
  refine ⟨?cal, ?calContents, ?calTransferring, ?tariff, ?tariffContents, ?tariffSealed⟩
  case cal =>
    intro s d hadmits hseal hlog hsupply hfuses hrest hleft hsound
    refine ⟨_, (execLoadCalibrationSet_eq hadmits).trans (congrArg Host.Outcome.next (hsound ▸
      State.limitedLoad_ok d _ hseal hlog hleft hrest hsupply hfuses)), ?_⟩
    have hfuse := s.get_fuse (f := F.KEY_CHG_LEFT_CAL) (by decide)
    obtain ⟨hpend, hno, hcrc, hshown⟩ := loadCal_shows d (s.staged d)
      (s.set F.KEY_CHG_LEFT_CAL (s.get F.KEY_CHG_LEFT_CAL - 1))
    exact ⟨hpend, hno, hcrc, hshown.trans hfuse, (results_loadCal d _ _).trans (by rw [hfuse]; rfl)⟩
  case calContents =>
    intro s d k hadmits hseal hlog hrest hleft hbad
    exact (execLoadCalibrationSet_eq hadmits).trans (congrArg Host.Outcome.next (hbad ▸
      State.limitedLoad_checked d _ hseal hlog hleft (some k) hrest))
  case calTransferring =>
    intro s d hadmits hseal hlog htransfer hleft
    exact (execLoadCalibrationSet_eq hadmits).trans (congrArg Host.Outcome.next
      (State.limitedLoad_transferring d _ hseal hlog hleft _ htransfer))
  case tariff =>
    intro s d hadmits hseal hlog hsupply hfuses hrest hleft hsound
    refine ⟨_, (execLoadTariffStructure_eq hadmits).trans (congrArg Host.Outcome.next (hsound ▸
      State.limitedLoad_ok d _ hseal hlog hleft hrest hsupply hfuses)), ?_⟩
    have hfuse := s.get_fuse (f := F.KEY_CHG_LEFT_TARIFF) (by decide)
    obtain ⟨hpend, hno, hrate, hshown⟩ := loadTariff_shows d
      (s.set F.KEY_CHG_LEFT_TARIFF (s.get F.KEY_CHG_LEFT_TARIFF - 1)) (State.defaultRate_lt hsound)
    exact ⟨hpend, hno, hrate, hshown.trans hfuse, (results_loadTariff d _ _).trans (by rw [hfuse]; rfl)⟩
  case tariffContents =>
    intro s d k hadmits hseal hlog hrest hleft hbad
    exact (execLoadTariffStructure_eq hadmits).trans (congrArg Host.Outcome.next (hbad ▸
      State.limitedLoad_checked d _ hseal hlog hleft (some k) hrest))
  case tariffSealed =>
    intro s d hadmits hseal
    exact (execLoadTariffStructure_eq hadmits).trans (congrArg Host.Outcome.next
      (State.limitedLoad_sealed d _ _ _ hseal))

end Sys2Proof.Machine
end

section
/-! SUPPORT. Field ports (R86 to R90): the bytes of a sound response, and what a poll, an accepted value and a
totaliser comparison leave in their entry. -/

namespace Sys2Proof.Machine

/-! ### Checked bytes -/

theorem leNat_natLE (n v : Nat) : leNat (natLE n v) = v % 256 ^ n := by
  induction n generalizing v with
  | zero => exact (Nat.mod_one v).symm
  | succ n ih =>
    rw [natLE, leNat, ih, BitVec.toNat_ofNat, pow_succ' 256 n]
    exact Nat.mod_mul.symm

theorem crcBit_lt {poly c n : Nat} (hpoly : poly < 2 ^ n) (hc : c < 2 ^ n) : crcBit poly c < 2 ^ n := by
  have hshift : c >>> 1 < 2 ^ n := (Nat.shiftRight_le c 1).trans_lt hc
  exact ite_of (Q := fun x => x < 2 ^ n) (Nat.xor_lt_two_pow hshift hpoly) hshift

theorem crcByte_lt {poly c n : Nat} (hn : 8 ≤ n) (hpoly : poly < 2 ^ n) (hc : c < 2 ^ n) (b : Byte) :
    crcByte poly c b < 2 ^ n :=
  foldl_of (Q := fun x => x < 2 ^ n)
    (Nat.xor_lt_two_pow hc (b.isLt.trans_le (Nat.pow_le_pow_right (by decide) hn))) fun _ _ _ => crcBit_lt hpoly

theorem crc16_lt (l : List Byte) : crc16 l < 256 ^ 2 :=
  foldl_of (Q := fun x => x < 2 ^ 16) (by decide) fun _ b _ hx => crcByte_lt (by decide) (by decide) hx b

/-- A frame with its CRC after its body (R86). -/
def withCrc (b : List Byte) : List Byte := b ++ natLE 2 (crc16 b)

theorem length_withCrc (b : List Byte) : (withCrc b).length = b.length + 2 := by
  rw [withCrc, List.length_append, length_natLE]

theorem take_withCrc (b : List Byte) : (withCrc b).take ((withCrc b).length - 2) = b := by
  rw [length_withCrc]; exact List.take_left' rfl

theorem crc_withCrc (b : List Byte) : leNat ((withCrc b).drop ((withCrc b).length - 2)) = crc16 b := by
  rw [length_withCrc, withCrc, Nat.add_sub_cancel, List.drop_left, leNat_natLE, Nat.mod_eq_of_lt (crc16_lt b)]

/-! ### Entries and transactions -/

@[simp] theorem State.entries_setEntry_self (s : State) (e : Fin 16) (x : MbEntry) :
    (s.setEntry e x).met.entries[e] = x :=
  Vector.getElem_set_self ..

theorem State.entries_setEntry_ne (s : State) {e g : Fin 16} (x : MbEntry) (h : e ≠ g) :
    (s.setEntry e x).met.entries[g] = s.met.entries[g] :=
  Vector.getElem_set_ne e.isLt g.isLt fun he => h (Fin.ext he)

/-- The lowest of the due entries of a free port is polled (R87). -/
theorem execModbusPollDue_first {s : State} {e : Fin 16} {k : Fin 4} (hrun : s.running .ap = true)
    (hport : s.entryPort e = k) (hdue : s.entryDue e = true) (hfree : s.met.busy[k] = none)
    (hlowest : ∀ j : Fin 16, j.val < e.val → s.entryPort j = k → s.entryDue j = false) :
    execModbusPollDue e s = .next (((s.setEntry e
      { s.met.entries[e] with polled := some s.time.now, readNow := false }).setBusy k (some (e, s.now
      (F.MET_FD_CFG_RETRY k.val)))).emit (.modbus k.val (s.request e))) := by
  subst hport
  have hlower : (List.finRange 16).any (fun j => decide (j.val < e.val) && s.entryPort j == s.entryPort e &&
      s.entryDue j) = false := by
    rw [List.any_eq_false]
    intro j _ h
    simp only [Bool.and_eq_true, decide_eq_true_eq, beq_iff_eq] at h
    obtain ⟨⟨hlt, hsame⟩, hother⟩ := h
    exact Bool.false_ne_true ((hlowest j hlt hsame).symm.trans hother)
  exact if_neg (by rw [hrun, hdue, hfree, hlower]; decide)

theorem State.pollRetry_repeats {s : State} {k : Fin 4} {e : Fin 16} {r : Nat} (hbusy : s.met.busy[k] = some (e, r))
    (hr : 0 < r) : s.pollRetry k = (s.setBusy k (some (e, r - 1))).emit (.modbus k.val (s.request e)) := by
  unfold State.pollRetry
  rw [hbusy]
  exact if_pos hr

theorem State.pollRetry_fails {s : State} {k : Fin 4} {e : Fin 16} (hbusy : s.met.busy[k] = some (e, 0)) :
    s.pollRetry k = (s.setBusy k none).raise { src := 28, unit_ := e.val, every := 1000000 } := by
  unfold State.pollRetry
  rw [hbusy]
  exact if_neg (Nat.lt_irrefl 0)

theorem execModbusTimeout_busy {s : State} {port : Fin 4} {x : Fin 16 × Nat} (hrun : s.running .ap = true)
    (hbusy : s.met.busy[port] = some x) : execModbusTimeout port s = .next ((s.fdCount port 0).pollRetry port) :=
  if_neg (by simp [hrun, hbusy])

theorem State.fdErr_fdCount_timeout (s : State) (k : Fin 4) :
    (s.fdCount k 0).met.fdErr[k].1 = min 0xFFF (s.met.fdErr[k].1 + 1) :=
  congrArg Prod.fst (Vector.getElem_set_self ..)

/-! ### Responses -/

/-- A response to an entry's request, without its CRC: slave, function, byte count and data (R87). -/
def State.response (s : State) (e : Fin 16) (data : List Byte) : List Byte :=
  natLE 1 (s.now (F.MET_MB_SRC_SLAVE e.val)) ++ natLE 1 (s.entryFunc e) ++
    natLE 1 (2 * fmtRegs (s.now (F.MET_MB_FMT_FMT e.val))) ++ data

theorem fmtRegs_le (f : Nat) : fmtRegs f ≤ 4 :=
  ite_of (Q := (· ≤ 4)) le_rfl (ite_of (Q := (· ≤ 4)) (by decide) (by decide))

theorem State.entryFunc_lt (s : State) (e : Fin 16) : s.entryFunc e < 256 :=
  ite_of (Q := (· < 256)) (by decide) (by decide)

theorem State.length_response (s : State) (e : Fin 16) (data : List Byte) :
    (s.response e data).length = 3 + data.length := by
  simp only [State.response, List.length_append, length_natLE]

/-- The first three bytes of a response read back as they were written. -/
theorem State.fld_response (s : State) (e : Fin 16) (data : List Byte) :
    fld (withCrc (s.response e data)) 0 1 = s.now (F.MET_MB_SRC_SLAVE e.val) ∧
      fld (withCrc (s.response e data)) 1 1 = s.entryFunc e ∧
      fld (withCrc (s.response e data)) 2 1 = 2 * fmtRegs (s.now (F.MET_MB_FMT_FMT e.val)) := by
  have hslave : s.now (F.MET_MB_SRC_SLAVE e.val) < 256 := bitsOf_lt _ 7 0
  have hqty := fmtRegs_le (s.now (F.MET_MB_FMT_FMT e.val))
  exact ⟨(leNat_natLE 1 _).trans (Nat.mod_eq_of_lt hslave),
    (leNat_natLE 1 _).trans (Nat.mod_eq_of_lt (s.entryFunc_lt e)),
    (leNat_natLE 1 _).trans (Nat.mod_eq_of_lt (by omega))⟩

theorem State.slice_response (s : State) (e : Fin 16) {data : List Byte} {n : Nat} (h : data.length = n) :
    slice (withCrc (s.response e data)) 3 n = data :=
  List.take_left' h

/-- A sound response ends its transaction, and its data are accepted (R87). -/
theorem execModbusResponse_sound {s : State} {port : Fin 4} {e : Fin 16} {r : Nat} {data : List Byte}
    (hrun : s.running .ap = true) (hbusy : s.met.busy[port] = some (e, r))
    (hlen : data.length = 2 * fmtRegs (s.now (F.MET_MB_FMT_FMT e.val))) :
    execModbusResponse port (withCrc (s.response e data)) false s = .next ((s.setBusy port none).accept e data) := by
  obtain ⟨hslave, hfunc, hcount⟩ := s.fld_response e data
  have hn : (withCrc (s.response e data)).length = 5 + 2 * fmtRegs (s.now (F.MET_MB_FMT_FMT e.val)) := by
    rw [length_withCrc, State.length_response, hlen]; omega
  unfold execModbusResponse
  rw [if_neg (by simp [hrun]), hbusy]
  dsimp only
  rw [take_withCrc, crc_withCrc, hslave, hfunc, hcount, hn, State.slice_response s e hlen]
  rw [if_neg (by omega), if_pos (by simp)]

theorem execModbusResponse_unasked {s : State} {port : Fin 4} (frame : List Byte) (gap : Bool)
    (hrun : s.running .ap = true) (hfree : s.met.busy[port] = none) :
    execModbusResponse port frame gap s = .next (s.fdCount port 1) := by
  unfold execModbusResponse
  rw [if_neg (by simp [hrun]), hfree]

/-- A value other than an identity that lies within its range becomes its entry's newest valid value (R88). -/
theorem State.accept_valid {s : State} {e : Fin 16} {data : List Byte} {v k lo hi : Rat}
    (hrole : s.now (F.MET_MB_FMT_ROLE e.val) ≠ 1)
    (hraw : fmtValue (s.now (F.MET_MB_FMT_FMT e.val)) (rawValue data (s.now (F.MET_MB_FMT_WSWAP e.val) == 1)) = some v)
    (hscale : f32 (s.inForce (R.MET_MB_SCALE e.val)) = some k) (hmin : f32 (s.inForce (R.MET_MB_MIN e.val)) = some lo)
    (hmax : f32 (s.inForce (R.MET_MB_MAX e.val)) = some hi) (hlo : lo ≤ v * k) (hhi : v * k ≤ hi) :
    s.accept e data = s.setEntry e
      { s.met.entries[e].held s.time.now with value := some (v * k, s.time.now), impl := false } := by
  unfold State.accept
  rw [if_neg hrole]
  simp [hraw, hscale, hmin, hmax, hlo, hhi]

/-! ### The totaliser comparison (R90) -/

theorem MbEntry.skip_held (x : MbEntry) (now : Nat) : (x.held now).skip = x.skip := by
  unfold MbEntry.held
  split <;> rfl

/-- A window that restarts: the integral of the rate entry `g` from 0, the totaliser `e` from its value. -/
def State.windowRestarted (s : State) (e g : Fin 16) (v : Option (Rat × Nat)) : State :=
  (s.setEntry g { s.met.entries[g].held s.time.now with integral := 0, skip := false }).setEntry e
    { s.met.entries[e] with totPrev := v, skip := false }

/-- Whether the increment of the totaliser from `p` to `v` and the integral of the rate entry `g` differ by more than
the tolerance of the totaliser `e`. -/
def State.totalsDiffer (s : State) (e g : Fin 16) (v p : Rat × Nat) : Bool :=
  decide ((s.now (F.MET_MB_AGE_TOTTOL e.val) : Rat) / 10000 * max (ratAbs
    ((s.met.entries[g].held s.time.now).integral / 3600000000)) (s.entryQref g / 400) < ratAbs (v.1 - p.1 -
    (s.met.entries[g].held s.time.now).integral / 3600000000))

/-- The window restarted, with its comparison shown in the rate entry. -/
def State.windowCompared (s : State) (e g : Fin 16) (v p : Rat × Nat) : State :=
  let t := s.windowRestarted e g (some v)
  t.setEntry g { t.met.entries[g] with totMis := s.totalsDiffer e g v p }

/-- The window compared, with EV032 where its totals differ. -/
def State.windowReported (s : State) (e g : Fin 16) (v p : Rat × Nat) : State :=
  if s.totalsDiffer e g v p then (s.windowCompared e g v p).raise { src := 32, unit_ := g.val, every := 1000000 }
  else s.windowCompared e g v p

theorem State.met_windowReported (s : State) (e g : Fin 16) (v p : Rat × Nat) :
    (s.windowReported e g v p).met = (s.windowCompared e g v p).met :=
  ite_of (Q := fun t : State => t.met = (s.windowCompared e g v p).met) ((State.raise_keeps _ _).met rfl) rfl

theorem execTotaliserCheck_compares {s : State} {e g : Fin 16} {v p : Rat × Nat} (hrun : s.running .ap = true)
    (hrole : s.now (F.MET_MB_FMT_ROLE e.val) = 2) (hlink : Fin.ofNat 16 (s.now (F.MET_MB_FMT_LINK e.val)) = g)
    (hvalue : s.met.entries[e].value = some v) (hprev : s.met.entries[e].totPrev = some p)
    (hskip : s.met.entries[e].skip = false) (hskipRate : s.met.entries[g].skip = false) :
    execTotaliserCheck e s = .next (s.windowReported e g v p) := by
  subst hlink
  unfold execTotaliserCheck
  rw [if_neg (by rw [hrun, hrole]; decide), hvalue, hprev]
  dsimp only
  rw [if_neg (by rw [hskip, MbEntry.skip_held, hskipRate]; decide)]
  rfl

theorem State.windowCompared_entries (s : State) {e g : Fin 16} (v p : Rat × Nat) (h : g ≠ e) :
    (s.windowCompared e g v p).met.entries[e].totPrev = some v ∧
      (s.windowCompared e g v p).met.entries[g].integral = 0 ∧
      (s.windowCompared e g v p).met.entries[g].totMis = s.totalsDiffer e g v p := by
  have hrate : (s.windowRestarted e g (some v)).met.entries[g].integral = 0 := by
    rw [State.windowRestarted, State.entries_setEntry_ne _ _ h.symm, State.entries_setEntry_self]
  refine ⟨?_, ?_, ?_⟩
  · rw [State.windowCompared, State.entries_setEntry_ne _ _ h, State.windowRestarted, State.entries_setEntry_self]
  · rw [State.windowCompared, State.entries_setEntry_self]
    exact hrate
  · rw [State.windowCompared, State.entries_setEntry_self]

end Sys2Proof.Machine
end

section
/-! SUPPORT. Pulses and field records (R83, R91), and the statement on the field bus. -/

namespace Sys2Proof.Machine

theorem State.chans_setChan_ne (s : State) {c k : Fin 3} (x : ChanS) (h : c ≠ k) :
    (s.setChan c x).met.chans[k] = s.met.chans[k] :=
  Vector.getElem_set_ne c.isLt k.isLt fun he => h (Fin.ext he)

/-- A pulse edge in one channel, which stamps it with its own tick while it runs (R83). -/
def State.stampEdge (n : Fin 16) (tick : Fin 3 → Nat) (s : State) (c : Fin 3) : State :=
  if s.running (chanIsl c) then
    s.setChan c { s.met.chans[c] with edges := s.met.chans[c].edges.set n (tick c :: s.met.chans[c].edges[n]) }
  else s

section
variable (n : Fin 16) (tick : Fin 3 → Nat) (s : State)

theorem State.edges_stampEdge (c : Fin 3) :
    (s.stampEdge n tick c).met.chans[c].edges =
      if s.running (chanIsl c) = true then s.met.chans[c].edges.set n (tick c :: s.met.chans[c].edges[n])
      else s.met.chans[c].edges := by
  unfold State.stampEdge
  split
  · rw [State.chans_setChan_self]
  · rfl

theorem State.chans_stampEdge_ne {k c : Fin 3} (h : k ≠ c) : (s.stampEdge n tick k).met.chans[c] = s.met.chans[c] :=
  ite_of (Q := fun t : State => t.met.chans[c] = s.met.chans[c]) (s.chans_setChan_ne _ h) rfl

theorem State.running_stampEdge (c : Fin 3) (i : Isl) : (s.stampEdge n tick c).running i = s.running i :=
  ite_of (Q := fun t : State => t.running i = s.running i) rfl rfl

/-- Each channel in turn stamps the edge in its own part, so it adds to the edges that it had before. -/
theorem State.edges_foldl_stampEdge (c : Fin 3) :
    (chans.foldl (State.stampEdge n tick) s).met.chans[c].edges =
      if s.running (chanIsl c) = true then s.met.chans[c].edges.set n (tick c :: s.met.chans[c].edges[n])
      else s.met.chans[c].edges := by
  have hchans : chans = [0, 1, 2] := rfl
  rw [hchans, List.foldl_cons, List.foldl_cons, List.foldl_cons, List.foldl_nil]
  match c with
  | 0 => rw [State.chans_stampEdge_ne _ _ _ (by decide), State.chans_stampEdge_ne _ _ _ (by decide),
      State.edges_stampEdge]
  | 1 => rw [State.chans_stampEdge_ne _ _ _ (by decide), State.edges_stampEdge, State.running_stampEdge,
      State.chans_stampEdge_ne _ _ _ (by decide)]
  | 2 => rw [State.edges_stampEdge, State.running_stampEdge, State.running_stampEdge,
      State.chans_stampEdge_ne _ _ _ (by decide), State.chans_stampEdge_ne _ _ _ (by decide)]

end

theorem execPulseEdge_eq (n : Fin 16) (tickA tickB tickC : Nat) (s : State) :
    execPulseEdge n tickA tickB tickC s =
      .next (chans.foldl (State.stampEdge n fun c => nth [tickA, tickB, tickC] c.val 0) s) := by
  unfold execPulseEdge
  extract_lets tick
  have htick : tick = fun c => nth [tickA, tickB, tickC] c.val 0 := by
    funext c
    fin_cases c <;> rfl
  rw [htick]
  rfl

/-- A record that finds its channel not past its deadline is held for its quantum (R91). -/
theorem execFieldRecordArrival_inTime {s : State} {c : Fin 3} {r : FieldRec} (hrun : s.running (chanIsl c) = true)
    (hout : s.met.fieldOut[c] = some r) (hlate : s.met.chans[c].fieldLate = false) :
    execFieldRecordArrival c s = .next (State.setChan
      { s with met := { s.met with fieldOut := s.met.fieldOut.set c none } } c
      { s.met.chans[c] with field := some r, fieldWait := false }) := by
  unfold execFieldRecordArrival
  rw [hout]
  refine (if_neg (ne_false_of_eq_true hrun)).trans (if_neg ?_)
  rw [hlate]
  exact Bool.false_ne_true

/-- Settles O29: each channel's stamp touches its own edges alone; a poll, its timeout and its response by the
transaction of the port; the totaliser by the window compared; field records by the channel's deadline. -/
theorem fieldBus : Obligations.FieldBus := by
  unfold Obligations.FieldBus
  refine ⟨?pulse, ?poll, ?repeated, ?failed, ?noPoll, ?value, ?unasked, ?stale, ?totals, ?record, ?late, ?notAwaited⟩
  case pulse =>
    intro s n tickA tickB tickC
    exact ⟨_, execPulseEdge_eq n tickA tickB tickC s, s.edges_foldl_stampEdge n _⟩
  case poll =>
    intro s e k hrun hport hdue hfree hlowest
    exact execModbusPollDue_first hrun hport hdue hfree hlowest
  case repeated =>
    intro s port e r hrun hbusy hleft
    exact ⟨_, (execModbusTimeout_busy hrun hbusy).trans (congrArg Host.Outcome.next
      (State.pollRetry_repeats (s := s.fdCount port 0) hbusy hleft)), rfl, rfl, s.fdErr_fdCount_timeout port⟩
  case failed =>
    intro s port e hrun hbusy
    exact (execModbusTimeout_busy hrun hbusy).trans (congrArg Host.Outcome.next
      (State.pollRetry_fails (s := s.fdCount port 0) hbusy))
  case noPoll =>
    intro s port hfree
    exact if_pos (.inr (by rw [hfree]; rfl))
  case value =>
    rintro s port e r data b v k lo hi hrun hbusy rfl hlen hrole hraw hscale hmin hmax hlo hhi
    refine ⟨_, (execModbusResponse_sound hrun hbusy hlen).trans (congrArg Host.Outcome.next
      (State.accept_valid (s := s.setBusy port none) hrole hraw hscale hmin hmax hlo hhi)), ?_, ?_, rfl⟩
    · rw [State.entries_setEntry_self]; rfl
    · rw [State.entries_setEntry_self]
  case unasked =>
    intro s port frame gap hrun hfree
    exact execModbusResponse_unasked frame gap hrun hfree
  case stale =>
    intro s e hrun hon hstale
    exact if_neg (by simp [hrun, hon, hstale])
  case totals =>
    intro s e g v p hrun hrole hlink hne hvalue hprev hskip hskipRate
    refine ⟨_, execTotaliserCheck_compares hrun hrole hlink hvalue hprev hskip hskipRate, ?_⟩
    rw [State.met_windowReported]
    exact s.windowCompared_entries v p hne
  case record =>
    intro s c r hrun hout hlate
    exact execFieldRecordArrival_inTime hrun hout hlate
  case late =>
    intro s c hrun hwait
    exact if_neg (by rw [hrun, hwait]; decide)
  case notAwaited =>
    intro s c hwait
    exact if_pos (.inr hwait)

end Sys2Proof.Machine
end

section
/-! SUPPORT. The agreeing set of a slot (R119, R120): the tolerance as a ceiling, and the first agreeing pair by
difference, arrival and letters. -/

namespace Sys2Proof.Machine

/-! ### Tolerance (R119) -/

/-- The division that the model rounds up by hand is the ceiling of the relative tolerance. -/
theorem ceil_relative (rel m : Nat) : ⌈(rel : Rat) / 100000 * (m : Nat)⌉.toNat = (rel * m + 99999) / 100000 := by
  rw [Int.ceil_toNat]
  refine eq_of_forall_ge_iff (fun n => ?_)
  calc ⌈(rel : Rat) / 100000 * (m : Nat)⌉₊ ≤ n ↔ (rel : Rat) * m / 100000 ≤ n := by
        rw [Nat.ceil_le, div_mul_eq_mul_div]
    _ ↔ rel * m ≤ n * 100000 := by rw [div_le_iff₀ (by norm_num)]; exact_mod_cast Iff.rfl
    _ ↔ (rel * m + 99999) / 100000 ≤ n := by omega

theorem State.agree_iff (s : State) (kind : Nat) (x y : Int) : s.agree kind x y = true ↔
    (x - y).natAbs ≤ max (⌈(s.now (F.VOT_TOL_REL kind) : Rat) / 100000 * (max x.natAbs y.natAbs : Nat)⌉.toNat)
      (s.now (F.VOT_TOL_ABS kind)) := by
  rw [ceil_relative, State.agree, decide_eq_true_iff, State.tolerance]

/-! ### The order of pairs (R120) -/

/-- What R120 compares of a pair: its difference, the arrival of its later record, its letters. -/
def pairKey (p : Vote × Vote) : Nat ×ₗ Nat ×ₗ Nat :=
  toLex ((p.1.value - p.2.value).natAbs, toLex (max p.1.tick p.2.tick, 3 * p.1.chan + p.2.chan))

theorem pairBefore_iff (a b : Vote × Vote) : pairBefore a b = true ↔ pairKey a < pairKey b := by
  simp [pairBefore, pairKey, Prod.Lex.toLex_lt_toLex]

/-- One pass that keeps the pair that comes before. -/
def firstOf (p : Vote × Vote) (t : List (Vote × Vote)) : Vote × Vote :=
  t.foldl (fun b p => if pairBefore p b then p else b) p

theorem firstOf_argmin (p : Vote × Vote) (t : List (Vote × Vote)) :
    List.argmin pairKey (p :: t) = some (firstOf p t) := by
  have hpass : ∀ (l : List (Vote × Vote)) (b : Vote × Vote),
      l.foldl (List.argAux fun b c => pairKey b < pairKey c) (some b) = some (firstOf b l) := by
    intro l
    induction l with
    | nil => intro b; rfl
    | cons x l ih =>
      intro b
      by_cases h : pairKey x < pairKey b
      · simpa [List.argAux, firstOf, pairBefore_iff, h] using ih x
      · simpa [List.argAux, firstOf, pairBefore_iff, h] using ih b
  exact hpass t p

theorem firstOf_mem (p : Vote × Vote) (t : List (Vote × Vote)) : firstOf p t ∈ p :: t :=
  List.argmin_mem (firstOf_argmin p t)

theorem firstOf_le {p r : Vote × Vote} {t : List (Vote × Vote)} (h : r ∈ p :: t) : pairKey (firstOf p t) ≤ pairKey r :=
  List.le_of_mem_argmin h (firstOf_argmin p t)

theorem chan_of_mem_pairs {votes : List Vote} (h : ∀ v ∈ votes, v.chan < 3) {p : Vote × Vote} (hp : p ∈ pairs votes) :
    p.2.chan < 3 := by
  induction votes with
  | nil => exact absurd hp List.not_mem_nil
  | cons v t ih =>
    rcases List.mem_append.1 hp with hhead | htail
    · obtain ⟨w, hw, rfl⟩ := List.mem_map.1 hhead
      exact h w (List.mem_cons_of_mem _ hw)
    · exact ih (fun w hw => h w (List.mem_cons_of_mem _ hw)) htail

/-- With three letters the key's last number says which letters come first. -/
theorem pairKey_le {p r : Vote × Vote} (hp : p.2.chan < 3) (hr : r.2.chan < 3) (h : pairKey p ≤ pairKey r) :
    (p.1.value - p.2.value).natAbs < (r.1.value - r.2.value).natAbs ∨
      ((p.1.value - p.2.value).natAbs = (r.1.value - r.2.value).natAbs ∧
        (max p.1.tick p.2.tick < max r.1.tick r.2.tick ∨ (max p.1.tick p.2.tick = max r.1.tick r.2.tick ∧
          (p.1.chan < r.1.chan ∨ (p.1.chan = r.1.chan ∧ p.2.chan ≤ r.2.chan))))) := by
  simp only [pairKey, Prod.Lex.toLex_le_toLex] at h
  exact h.imp_right (And.imp_right (Or.imp_right (And.imp_right (fun hletters => by omega))))

/-! ### The set (R120) -/

/-- The pairs of a list of votes that agree. -/
def State.agreeing (s : State) (kind : Nat) (votes : List Vote) : List (Vote × Vote) :=
  (Machine.pairs votes).filter (fun p => s.agree kind p.1.value p.2.value)

theorem State.mem_agreeing {s : State} {kind : Nat} {votes : List Vote} {p : Vote × Vote} :
    p ∈ s.agreeing kind votes ↔ p ∈ Machine.pairs votes ∧ s.agree kind p.1.value p.2.value = true := List.mem_filter

theorem State.agreeing_all_iff (s : State) (kind : Nat) (votes : List Vote) :
    (s.agreeing kind votes).length = (Machine.pairs votes).length ↔
      ∀ p ∈ Machine.pairs votes, s.agree kind p.1.value p.2.value = true := List.length_filter_eq_length_iff

theorem State.agreeingSet_all {s : State} {kind : Nat} {votes : List Vote}
    (h : ∀ p ∈ Machine.pairs votes, s.agree kind p.1.value p.2.value = true) : s.agreeingSet kind votes = votes :=
  if_pos ((s.agreeing_all_iff kind votes).2 h)

theorem State.agreeingSet_none {s : State} {kind : Nat} {votes : List Vote} (hsome : Machine.pairs votes ≠ [])
    (h : ∀ p ∈ Machine.pairs votes, s.agree kind p.1.value p.2.value = false) : s.agreeingSet kind votes = [] := by
  have hnil : s.agreeing kind votes = [] := List.filter_eq_nil_iff.2 (fun p hp => by simp [h p hp])
  have hlen : ¬ (s.agreeing kind votes).length = (Machine.pairs votes).length := by
    rw [hnil]; exact fun e => hsome (List.length_eq_zero_iff.1 e.symm)
  refine (if_neg hlen).trans ?_
  unfold State.agreeing at hnil
  rw [hnil]

theorem State.agreeingSet_first {s : State} {kind : Nat} {votes : List Vote} {p : Vote × Vote} {t : List (Vote × Vote)}
    (hsome : ∃ p ∈ Machine.pairs votes, s.agree kind p.1.value p.2.value = false) (h : s.agreeing kind votes = p :: t) :
    s.agreeingSet kind votes = [(firstOf p t).1, (firstOf p t).2] := by
  obtain ⟨r, hr, hdiffer⟩ := hsome
  have hlen : ¬ (s.agreeing kind votes).length = (Machine.pairs votes).length := fun e =>
    absurd ((s.agreeing_all_iff kind votes).1 e r hr) (by simp [hdiffer])
  refine (if_neg hlen).trans ?_
  unfold State.agreeing at h
  rw [h]
  rfl

/-- Settles O12: the tolerance as a ceiling; all, none, or the least agreeing pair by R120's order. -/
theorem agreeingSet : Obligations.AgreeingSet := by
  unfold Obligations.AgreeingSet
  refine ⟨State.agree_iff, fun s kind votes => State.agreeingSet_all, fun s kind votes => State.agreeingSet_none, ?_⟩
  intro s kind votes hchan hdiffer hagree
  obtain ⟨a, ha⟩ := hagree
  obtain ⟨p, t, hlist⟩ := List.exists_cons_of_ne_nil (List.ne_nil_of_mem (State.mem_agreeing.2 ha))
  have hfirst := firstOf_mem p t
  rw [← hlist, State.mem_agreeing] at hfirst
  obtain ⟨hmem, hok⟩ := hfirst
  refine ⟨firstOf p t, hmem, hok, State.agreeingSet_first hdiffer hlist, ?_⟩
  intro r hr hrok
  have hle : pairKey (firstOf p t) ≤ pairKey r := firstOf_le (hlist ▸ State.mem_agreeing.2 ⟨hr, hrok⟩)
  exact pairKey_le (chan_of_mem_pairs hchan hmem) (chan_of_mem_pairs hchan hr) hle

end Sys2Proof.Machine
end

section
/-! SUPPORT. The values of a confirmed block (R122): its slots by their agreeing sets, and the flag of a record
confirmed from two values. -/

namespace Sys2Proof.Machine

/-! ### The value of a set -/

theorem median3_mem (a b c : Int) : median3 a b c = a ∨ median3 a b c = b ∨ median3 a b c = c := by
  unfold median3; omega

/-- Of three values two at least are no greater than the median, two at least no smaller. -/
theorem median3_two_on_each_side (a b c : Int) :
    2 ≤ ([a, b, c].filter (fun x => decide (x ≤ median3 a b c))).length ∧
      2 ≤ ([a, b, c].filter (fun x => decide (median3 a b c ≤ x))).length := by
  simp only [← List.countP_eq_length_filter, List.countP_cons, List.countP_nil, decide_eq_true_eq]
  unfold median3
  constructor <;> split_ifs <;> omega

theorem setValue_two (a b : Int) : setValue [a, b] = ⌊((a : Rat) + b) / 2⌋ := by
  have h := Rat.floor_intCast_div_natCast (a + b) 2
  push_cast at h
  exact h.symm

/-! ### The slots of a confirmed block -/

/-- The set that a slot of a confirmed block takes its value from: none for a held slot. -/
def State.confSet (s : State) (p : Poll) (n ty k : Nat) : List Vote :=
  if (s.heldMask p n ty).testBit k then [] else s.slotSet p n ty k

theorem State.confSet_unheld {s : State} {p : Poll} {n ty k : Nat} (h : (s.heldMask p n ty).testBit k = false) :
    s.confSet p n ty k = s.slotSet p n ty k := if_neg (by simp [h])

theorem State.confSet_two_iff (s : State) (p : Poll) (n ty k : Nat) : (s.confSet p n ty k).length = 2 ↔
    (s.heldMask p n ty).testBit k = false ∧ (s.slotSet p n ty k).length = 2 := by
  unfold State.confSet
  cases (s.heldMask p n ty).testBit k <;> simp

theorem State.confBlock_slots (s : State) (p : Poll) (n ty : Nat) : (s.confBlock p n ty).1.slots =
    ((List.range (usedSlots ty)).map (s.confSet p n ty)).map (fun l => setValue (l.map Vote.value)) := rfl

theorem State.confBlock_two (s : State) (p : Poll) (n ty : Nat) : (s.confBlock p n ty).2 =
    ((List.range (usedSlots ty)).map (s.confSet p n ty)).any (fun l => l.length == 2) := rfl

theorem State.confBlock_slot {s : State} {p : Poll} {n ty k : Nat} (hk : k < usedSlots ty)
    (h : (s.heldMask p n ty).testBit k = false) :
    nth (s.confBlock p n ty).1.slots k 0 = setValue ((s.slotSet p n ty k).map Vote.value) := by
  simp [nth, State.confBlock_slots, hk, State.confSet_unheld h]

theorem State.confBlock_two_iff (s : State) (p : Poll) (n ty : Nat) : (s.confBlock p n ty).2 = true ↔
    ∃ k < usedSlots ty, (s.heldMask p n ty).testBit k = false ∧ (s.slotSet p n ty k).length = 2 := by
  simp [State.confBlock_two, State.confSet_two_iff]

/-! ### VOTED2 -/

/-- Bit 5 of a record's flags, apart from bits 2, 3 and 6. -/
theorem voted2_bit (a b two c : Bool) :
    (BitVec.ofNat 8 (4 * a.toNat + 8 * b.toNat + 32 * two.toNat + 64 * c.toNat)).toNat.testBit 5 = two := by
  revert a b two c; decide

theorem State.confRecord_voted2 (s : State) (q : Nat) (p : Poll) (noProv : Bool) :
    (s.confRecord q p noProv).flags.toNat.testBit 5 = (s.pollTypes p).any (fun nt => (s.confBlock p nt.1 nt.2).2) :=
  (voted2_bit _ _ _ _).trans List.any_map

/-- Settles O11: a slot's value is that of its set; the median and the floor of the mean; VOTED2 by the sets of two. -/
theorem votedValue : Obligations.VotedValue := by
  unfold Obligations.VotedValue
  refine ⟨fun s p n ty k => State.confBlock_slot, fun a b c => ⟨?_, median3_two_on_each_side a b c⟩, setValue_two, ?_⟩
  · exact List.mem_cons.2 ((median3_mem a b c).imp_right (by simp [setValue]))
  · intro s q p noProv
    simp only [State.confRecord_voted2, List.any_eq_true, State.confBlock_two_iff]

end Sys2Proof.Machine
end

section
/-! SUPPORT. A point's session read after the operations of AP (R175): what each leaves of it, what a change of state
shows, and what a failed session shows. -/

namespace Sys2Proof.Machine

/-! ### The session of a point -/

@[simp] theorem State.sx_modSx_self (s : State) (p : Fin 8) (f : Sess → Sess) : (s.modSx p f).sx p = f (s.sx p) := by
  simp [State.sx]

theorem State.sx_modSx_ne (s : State) {k p : Fin 8} (f : Sess → Sess) (h : k ≠ p) : (s.modSx k f).sx p = s.sx p := by
  simp [State.sx, Fin.val_ne_of_ne h]

@[simp] theorem State.sess_modSx (s : State) (p k : Fin 8) (f : Sess → Sess) : (s.modSx p f).sess k = s.sess k := rfl

@[simp] theorem State.sx_set (s : State) (f : Fld) (v : Nat) (p : Fin 8) : (s.set f v).sx p = s.sx p := rfl

theorem Keeps.sx {P B : Nat} {s t : State} (h : Keeps P B s t) (hp : P.testBit 5 = false) (p : Fin 8) :
    t.sx p = s.sx p := by rw [State.sx, h.tpt hp, State.sx]

theorem rowOf_TPT_STATE (p : Fin 8) : rowOf (R.TPT_STATE p.val) = 137 := by revert p; decide

theorem rowOf_TPT_IM (c : Fin 2) : rowOf (R.TPT_IM c.val) = 136 := by revert c; decide

theorem Keeps.sess {P B : Nat} {s t : State} (h : Keeps P B s t) (hb : B.testBit 137 = false) (p : Fin 8) :
    t.sess p = s.sess p := h.get _ ((congrArg B.testBit (rowOf_TPT_STATE p)).trans hb)

theorem State.ap_run {s : State} (h : s.running .ap = true) (body : State → State) : s.ap body = body s := if_pos h

/-- What changes nothing where AP runs changes nothing where it does not. -/
theorem State.ap_same {s : State} {body : State → State} (h : body s = s) : s.ap body = s := by
  unfold State.ap
  split
  · exact h
  · rfl

/-! ### Insulation channels (R196) -/

theorem State.sx_claimIm_ne (s : State) {k p : Fin 8} (h : k ≠ p) : (s.claimIm k).sx p = s.sx p := by
  unfold State.claimIm
  extract_lets c
  split
  · exact State.sx_modSx_ne _ _ h
  · rfl

/-- A channel given up by a point goes to another one, whose session alone is touched. -/
theorem State.sx_releaseIm (s : State) (p : Fin 8) : (s.releaseIm p).sx p = s.sx p := by
  unfold State.releaseIm
  extract_lets c freed
  split
  · split
    next k hk =>
      have hother := List.find?_some hk
      simp only [Bool.and_eq_true, bne_iff_ne] at hother
      obtain ⟨⟨⟨hne, -⟩, -⟩, -⟩ := hother
      exact freed.sx_claimIm_ne hne
    next => rfl
  · rfl

theorem State.get_R_ISO_claimIm (s : State) (p : Fin 8) (c : Nat) :
    (s.claimIm p).get (F.TPT_IM_R_ISO c) = s.get (F.TPT_IM_R_ISO c) := by
  unfold State.claimIm
  extract_lets i
  split
  · rw [State.modSx_get,
      State.get_set_ne (f := F.TPT_IM_OWNER i) _ _ (by decide : 19 < 32) (.inr (.inl (by decide : 15 < 17))),
      State.get_set_ne (f := F.TPT_IM_BUSY i) _ _ (by decide : 16 < 32) (.inr (.inl (by decide : 15 < 16)))]
  · rfl

/-- Who holds an insulation channel is apart from what it measured. -/
theorem State.get_R_ISO_releaseIm (s : State) (p : Fin 8) (c : Nat) :
    (s.releaseIm p).get (F.TPT_IM_R_ISO c) = s.get (F.TPT_IM_R_ISO c) := by
  unfold State.releaseIm
  extract_lets i freed
  have hfreed : freed.get (F.TPT_IM_R_ISO c) = s.get (F.TPT_IM_R_ISO c) :=
    State.get_set_ne (f := F.TPT_IM_BUSY i) _ _ (by decide : 16 < 32) (.inr (.inl (by decide : 15 < 16)))
  split
  · split
    next k hk => exact (freed.get_R_ISO_claimIm k c).trans hfreed
    next => exact hfreed
  · rfl

/-! ### A change of state (R175) -/

/-- A session in a new state: timers of the checks end, and a stack's command with them where none is due. -/
def Sess.entered (x : Sess) (now new : Nat) : Sess :=
  { x with actedAt := some now, rcmTesting := false, leak := .idle,
           stackCmd := (if x.waitSafe || holdsIm new then x.stackCmd else 0) }

/-- What the checks of a point drive is opened as it leaves Authorised. -/
def State.drivesEnded (s : State) (p : Fin 8) : State :=
  if s.sess p = 3 ∧ ((s.sx p).rcmTesting = true ∨ (s.sx p).leak = .filling) then s.openPoint p else s

/-- TPT_STATE with a new state and, where there is one, its reason. -/
def State.showState (s : State) (p : Fin 8) (new reason : Nat) : State :=
  let s := s.set (F.TPT_STATE_STATE p.val) new
  if reason = 0 then s else s.set (F.TPT_STATE_LAST_REASON p.val) reason

/-- A point's session in a new state, and the state recorded (R386). -/
def State.sessEntered (s : State) (p : Fin 8) (new : Nat) : State :=
  State.modSx { s with tpt := { s.tpt with recorded := s.tpt.recorded.set p (BitVec.ofNat 4 new) } } p
    (fun x => x.entered s.time.now new)

/-- A change of state up to its event. -/
def State.stateShown (s : State) (p : Fin 8) (new reason : Nat) : State :=
  ((s.drivesEnded p).showState p new reason).sessEntered p new

/-- What follows a change of state: its event, an insulation channel given up, the pilot, the mirror. -/
def State.stateTold (s : State) (p : Fin 8) (old new reason : Nat) : State :=
  let s := s.raise { src := 61, point := p.val, detail := new + old <<< 8 + reason <<< 16 }
  let s := if holdsIm old && !(holdsIm new) then s.releaseIm p else s
  (s.showPilot p).mirrored

theorem State.enter_eq (s : State) (p : Fin 8) (new reason : Nat) :
    s.enter p new reason = (s.stateShown p new reason).stateTold p (s.sess p) new reason := rfl

theorem State.drivesEnded_keeps (s : State) (p : Fin 8) :
    Keeps 64 0x10580000000000000000000000000000000000000 s (s.drivesEnded p) :=
  ite_of (s.openPoint_keeps p) Keeps.rfl

@[simp] theorem State.get_sessEntered (s : State) (p : Fin 8) (new : Nat) (f : Fld) :
    (s.sessEntered p new).get f = s.get f := rfl

theorem State.sx_sessEntered (s : State) (p : Fin 8) (new : Nat) :
    (s.sessEntered p new).sx p = (s.sx p).entered s.time.now new := State.sx_modSx_self _ _ _

theorem State.showState_other_parts (s : State) (p : Fin 8) (new reason : Nat) :
    (s.showState p new reason).tpt = s.tpt ∧ (s.showState p new reason).time = s.time := by
  unfold State.showState
  split <;> exact ⟨rfl, rfl⟩

section
variable (s : State) (p : Fin 8) (new reason : Nat)

/-- A field of another register, and one of TPT_STATE that is neither state nor reason, stays as it was. -/
theorem State.get_showState {f : Fld} (h : f.off ≠ R.TPT_STATE p.val ∨ 3 < f.lo ∧ f.hi < 24) :
    (s.showState p new reason).get f = s.get f := by
  have hstate : (s.set (F.TPT_STATE_STATE p.val) new).get f = s.get f :=
    State.get_set_ne _ _ (by decide : 3 < 32) (h.imp_right fun x => .inr x.1)
  unfold State.showState
  split
  · exact hstate
  · exact (State.get_set_ne _ _ (by decide : 31 < 32) (h.imp_right fun x => .inl x.2)).trans hstate

theorem State.sess_showState {new : Nat} (hnew : new < 16) : (s.showState p new reason).sess p = new := by
  have hstate : (s.set (F.TPT_STATE_STATE p.val) new).sess p = new :=
    State.get_set_of_lt (f := F.TPT_STATE_STATE p.val) _ (by decide : 3 < 32) hnew
  unfold State.showState
  split
  · exact hstate
  · exact (State.get_set_ne _ _ (by decide : 31 < 32) (.inr (.inl (by decide : 3 < 24)))).trans hstate

theorem State.reason_showState {reason : Nat} (hne : reason ≠ 0) (hlt : reason < 256) :
    (s.showState p new reason).get (F.TPT_STATE_LAST_REASON p.val) = reason := by
  unfold State.showState
  rw [if_neg hne]
  exact State.get_set_of_lt _ (by decide : 31 < 32) hlt

theorem State.sx_stateShown : (s.stateShown p new reason).sx p = (s.sx p).entered s.time.now new := by
  obtain ⟨htpt, htime⟩ := (s.drivesEnded p).showState_other_parts p new reason
  have hdrives := s.drivesEnded_keeps p
  rw [State.stateShown, State.sx_sessEntered, htime, hdrives.time rfl, State.sx, htpt, ← State.sx, hdrives.sx rfl]

theorem State.get_stateShown {f : Fld}
    (hrow : (0x10580000000000000000000000000000000000000).testBit (rowOf f.off) = false)
    (h : f.off ≠ R.TPT_STATE p.val ∨ 3 < f.lo ∧ f.hi < 24) : (s.stateShown p new reason).get f = s.get f := by
  rw [State.stateShown, State.get_sessEntered, State.get_showState _ _ _ _ h, (s.drivesEnded_keeps p).get f hrow]

variable (old : Nat)

theorem State.sx_stateTold : (s.stateTold p old new reason).sx p = s.sx p := by
  unfold State.stateTold
  extract_lets told left
  have htold : told.sx p = s.sx p := (s.raise_keeps _).sx rfl p
  have hleft : left.sx p = told.sx p := ite_of (Q := fun x => State.sx x p = told.sx p) (told.sx_releaseIm p) rfl
  calc (left.showPilot p).mirrored.sx p = (left.showPilot p).sx p := (State.mirrored_keeps _).sx rfl p
    _ = left.sx p := (left.showPilot_keeps p).sx rfl p
    _ = s.sx p := hleft.trans htold

theorem State.get_stateTold {f : Fld}
    (hrow : (0x800000000000000000000008010000000000000000000000018088800000).testBit (rowOf f.off) = false) :
    (s.stateTold p old new reason).get f = s.get f := by
  have hkeeps : Keeps 98592 0x800000000000000000000008010000000000000000000000018088800000 s
      (s.stateTold p old new reason) := by
    unfold State.stateTold
    refine Keeps.app (State.mirrored_keeps _) rfl rfl (Keeps.app (State.showPilot_keeps _ _) rfl rfl ?_)
    have htold := Keeps.app (P := 98592) (B := 0x800000000000000000000008010000000000000000000000018088800000)
      (s.raise_keeps { src := 61, point := p.val, detail := new + old <<< 8 + reason <<< 16 }) rfl rfl Keeps.rfl
    exact ite_of (Keeps.app (State.releaseIm_keeps _ _) rfl rfl htold) htold
  exact hkeeps.get f hrow

theorem State.get_R_ISO_stateTold (c : Fin 2) :
    (s.stateTold p old new reason).get (F.TPT_IM_R_ISO c.val) = s.get (F.TPT_IM_R_ISO c.val) := by
  have hrow : ∀ {B : Nat}, B.testBit 136 = false → B.testBit (rowOf (F.TPT_IM_R_ISO c.val).off) = false :=
    fun hb => (congrArg _ (rowOf_TPT_IM c)).trans hb
  unfold State.stateTold
  extract_lets told left
  have htold : told.get (F.TPT_IM_R_ISO c.val) = s.get (F.TPT_IM_R_ISO c.val) := (s.raise_keeps _).get _ (hrow rfl)
  have hleft : left.get (F.TPT_IM_R_ISO c.val) = told.get (F.TPT_IM_R_ISO c.val) :=
    ite_of (Q := fun x => State.get x (F.TPT_IM_R_ISO c.val) = told.get (F.TPT_IM_R_ISO c.val))
      (told.get_R_ISO_releaseIm p c) rfl
  calc (left.showPilot p).mirrored.get (F.TPT_IM_R_ISO c.val) = (left.showPilot p).get (F.TPT_IM_R_ISO c.val) :=
        (State.mirrored_keeps _).get _ (hrow rfl)
    _ = left.get (F.TPT_IM_R_ISO c.val) := (left.showPilot_keeps p).get _ (hrow rfl)
    _ = s.get (F.TPT_IM_R_ISO c.val) := hleft.trans htold

/-! ### A point enters a state -/

theorem State.sx_enter : (s.enter p new reason).sx p = (s.sx p).entered s.time.now new := by
  rw [State.enter_eq, State.sx_stateTold, State.sx_stateShown]

theorem State.sess_enter {new : Nat} (hnew : new < 16) : (s.enter p new reason).sess p = new := by
  rw [State.enter_eq, State.sess, State.get_stateTold _ _ _ _ _ ((congrArg _ (rowOf_TPT_STATE p)).trans (by decide))]
  exact State.sess_showState _ _ _ hnew

theorem State.reason_enter {reason : Nat} (hne : reason ≠ 0) (hlt : reason < 256) :
    (s.enter p new reason).get (F.TPT_STATE_LAST_REASON p.val) = reason := by
  rw [State.enter_eq, State.get_stateTold _ _ _ _ _ ((congrArg _ (rowOf_TPT_STATE p)).trans (by decide))]
  exact State.reason_showState _ _ _ hne hlt

theorem State.get_R_ISO_enter (c : Fin 2) :
    (s.enter p new reason).get (F.TPT_IM_R_ISO c.val) = s.get (F.TPT_IM_R_ISO c.val) := by
  rw [State.enter_eq, State.get_R_ISO_stateTold]
  refine State.get_stateShown _ _ _ _ ((congrArg _ (rowOf_TPT_IM c)).trans (by decide)) (.inl ?_)
  revert c p; decide

end

/-! ### A failed session (R175, R180) -/

/-- What is read of a point whose session has failed with its partner present. -/
structure State.Faulted (t : State) (p : Fin 8) (reason : Nat) : Prop where
  state : t.sess p = 15
  reason : t.get (F.TPT_STATE_LAST_REASON p.val) = reason
  partner : (t.sx p).partner = true
  testEnded : (t.sx p).rcmTesting = false

theorem State.faulted_enter {s : State} {p : Fin 8} {reason : Nat} (hpartner : (s.sx p).partner = true)
    (hne : reason ≠ 0) (hlt : reason < 256) : (s.enter p 15 reason).Faulted p reason where
  state := s.sess_enter p reason (by decide)
  reason := s.reason_enter p 15 hne hlt
  partner := by rw [State.sx_enter]; exact hpartner
  testEnded := by rw [State.sx_enter]; rfl

theorem State.sx_writeRecord (s : State) (p : Fin 8) : (s.writeRecord p).sx p = { s.sx p with recDue := false } := by
  rw [State.writeRecord, (State.raise_keeps _ _).sx rfl, State.sx_modSx_self, (State.toStore_keeps _ _ _ _).sx rfl]

section
variable {s : State} {p : Fin 8} {reason : Nat}

theorem State.Faulted.modSx (h : s.Faulted p reason) {f : Sess → Sess} (hpartner : ∀ x, (f x).partner = x.partner)
    (htest : ∀ x, (f x).rcmTesting = x.rcmTesting) : (s.modSx p f).Faulted p reason where
  state := h.state
  reason := h.reason
  partner := by rw [State.sx_modSx_self, hpartner, h.partner]
  testEnded := by rw [State.sx_modSx_self, htest, h.testEnded]

theorem State.Faulted.writeRecord (h : s.Faulted p reason) : (s.writeRecord p).Faulted p reason where
  state := ((s.writeRecord_keeps p).sess rfl p).trans h.state
  reason := ((s.writeRecord_keeps p).get _ ((congrArg _ (rowOf_TPT_STATE p)).trans (by decide))).trans h.reason
  partner := by rw [State.sx_writeRecord]; exact h.partner
  testEnded := by rw [State.sx_writeRecord]; exact h.testEnded

/-- A point whose partner is present stays where it is. -/
theorem State.leaveIfAbsent_present (h : (s.sx p).partner = true) : s.leaveIfAbsent p = s := if_pos h

theorem State.partner_sessFlag (bit : Nat) : ((s.sessFlag p bit).sx p).partner = (s.sx p).partner := by
  rw [State.sessFlag, State.sx_modSx_self]

theorem State.partner_sessOpen : ((s.sessOpen p).sx p).partner = (s.sx p).partner := by
  unfold State.sessOpen
  extract_lets opened
  have hopened : Keeps 64 0x10580000000000000000000000000000000000000 s opened := ite_of Keeps.rfl (s.openPoint_keeps p)
  rw [State.sx_modSx_self, hopened.sx rfl]

theorem State.sx_latchWeld (reason : Nat) : (s.latchWeld p reason).sx p = s.sx p := by
  unfold State.latchWeld
  split <;> rfl

end

/-- A session before it fails: the flag of a provisional value, and the switches ordered open (R175, R178). -/
def State.faultBegun (s : State) (p : Fin 8) (reason : Nat) (prov : Bool) : State :=
  let old := s.sess p
  let s := if prov then s.sessFlag p 0 else s
  (if 4 ≤ old ∧ old ≤ 6 then s.sessOpen p else s).latchWeld p reason

/-- The record of a failed session, at once or with its end reading (R180). -/
def State.faultRecorded (s : State) (p : Fin 8) (old : Nat) : State :=
  if old = 5 then s.modSx p (fun x => { x with waitEnd := true, recDue := true })
  else if old = 6 ∧ (s.sx p).waitEnd = true then s.modSx p (fun x => { x with recDue := true })
  else if 2 ≤ old ∧ old ≤ 6 then s.writeRecord p
  else s

theorem State.sessFault_eq (s : State) (p : Fin 8) (reason : Nat) (prov : Bool) : s.sessFault p reason prov =
    (((s.faultBegun p reason prov).enter p 15 reason).faultRecorded p (s.sess p)).leaveIfAbsent p := rfl

theorem State.partner_faultBegun (s : State) (p : Fin 8) (reason : Nat) (prov : Bool) :
    ((s.faultBegun p reason prov).sx p).partner = (s.sx p).partner := by
  unfold State.faultBegun
  extract_lets old flagged
  have hflagged : (flagged.sx p).partner = (s.sx p).partner :=
    ite_of (Q := fun x => (State.sx x p).partner = (s.sx p).partner) (State.partner_sessFlag 0) rfl
  rw [State.sx_latchWeld]
  split
  · exact State.partner_sessOpen.trans hflagged
  · exact hflagged

theorem State.faultBegun_keeps (s : State) (p : Fin 8) (reason : Nat) (prov : Bool) :
    Keeps 96 0x10580020000000000000000000000000000000000 s (s.faultBegun p reason prov) := by
  unfold State.faultBegun
  extract_lets old flagged
  have hflagged : Keeps 96 0x10580020000000000000000000000000000000000 s flagged :=
    ite_of (Keeps.app (s.sessFlag_keeps p 0) rfl rfl Keeps.rfl) Keeps.rfl
  exact Keeps.app (State.latchWeld_keeps _ _ _) rfl rfl
    (ite_of (Keeps.app (flagged.sessOpen_keeps p) rfl rfl hflagged) hflagged)

theorem State.Faulted.faultRecorded {s : State} {p : Fin 8} {reason : Nat} (h : s.Faulted p reason) (old : Nat) :
    (s.faultRecorded p old).Faulted p reason := by
  unfold State.faultRecorded
  split_ifs
  · exact h.modSx (fun _ => rfl) (fun _ => rfl)
  · exact h.modSx (fun _ => rfl) (fun _ => rfl)
  · exact h.writeRecord
  · exact h

theorem State.faultRecorded_keeps (s : State) (p : Fin 8) (old : Nat) :
    Keeps 99632 0x800000000100000000000000000000000000000000000000018088800000 s (s.faultRecorded p old) :=
  ite_of (Keeps.app (s.modSx_keeps p _) rfl rfl Keeps.rfl)
    (ite_of (Keeps.app (s.modSx_keeps p _) rfl rfl Keeps.rfl) (ite_of (s.writeRecord_keeps p) Keeps.rfl))

section
variable {s : State} {p : Fin 8} {reason : Nat} (hpartner : (s.sx p).partner = true) (hne : reason ≠ 0)
  (hlt : reason < 256)
include hpartner hne hlt

/-- A session with its partner present fails from any state, and the partner's presence keeps it in Faulted. -/
theorem State.sessFault_present (prov : Bool) :
    s.sessFault p reason prov = ((s.faultBegun p reason prov).enter p 15 reason).faultRecorded p (s.sess p) ∧
      (s.sessFault p reason prov).Faulted p reason := by
  have hrecorded := (State.faulted_enter ((s.partner_faultBegun p reason prov).trans hpartner) hne hlt).faultRecorded
    (s.sess p)
  rw [State.sessFault_eq, State.leaveIfAbsent_present hrecorded.partner]
  exact ⟨rfl, hrecorded⟩

/-- What an insulation channel measured outlives the session that failed on it. -/
theorem State.get_R_ISO_sessFault (prov : Bool) (c : Fin 2) :
    (s.sessFault p reason prov).get (F.TPT_IM_R_ISO c.val) = s.get (F.TPT_IM_R_ISO c.val) := by
  have hrow : ∀ {B : Nat}, B.testBit 136 = false → B.testBit (rowOf (F.TPT_IM_R_ISO c.val).off) = false :=
    fun hb => (congrArg _ (rowOf_TPT_IM c)).trans hb
  rw [(State.sessFault_present hpartner hne hlt prov).1, (State.faultRecorded_keeps _ _ _).get _ (hrow rfl),
    State.get_R_ISO_enter, (State.faultBegun_keeps _ _ _ _).get _ (hrow rfl)]

theorem State.faulted_checkFailed : (s.checkFailed p reason).Faulted p reason := by
  unfold State.checkFailed
  extract_lets failed welded
  have hfailed : failed.sx p = s.sx p := (s.raise_keeps _).sx rfl p
  have hwelded : welded.sx p = failed.sx p :=
    ite_of (Q := fun x => State.sx x p = failed.sx p) ((failed.raise_keeps _).sx rfl p) rfl
  exact (State.sessFault_present (by rw [hwelded, hfailed, hpartner]) hne hlt false).2

end

end Sys2Proof.Machine
end

section
/-! SUPPORT. The checks before a transfer (R194 to R197): a partner that is not ready, the end of a residual-current
drive, a bad insulation value; and the statement. -/

namespace Sys2Proof.Machine

/-! ### Registers apart -/

theorem rowOf_TPT_CFG (p : Fin 8) : rowOf (R.TPT_CFG p.val) = 139 := by revert p; decide

theorem rowOf_PTN_CP (p : Fin 8) : rowOf (R.PTN_CP p.val) = 147 := by revert p; decide

theorem ptnCp_ne_tptState (p : Fin 8) : R.PTN_CP p.val ≠ R.TPT_STATE p.val := by revert p; decide

theorem tptCfg_ne_tptState (p : Fin 8) : R.TPT_CFG p.val ≠ R.TPT_STATE p.val := by revert p; decide

theorem tptState_ne_tptIm (p : Fin 8) (c : Fin 2) : R.TPT_STATE p.val ≠ R.TPT_IM c.val := by revert p c; decide

theorem tptLimit_ne_tptIm (p : Fin 8) (c : Fin 2) : R.TPT_LIMIT p.val ≠ R.TPT_IM c.val := by revert p c; decide

theorem islandState_ne_tptIm (c : Fin 2) : R.MG_ISLAND_STATE ≠ R.TPT_IM c.val := by revert c; decide

/-! ### A partner that is not ready (R175, R185) -/

theorem State.partnerReady_modSx (s : State) (p : Fin 8) (f : Sess → Sess) (h : ∀ x, (f x).ready = x.ready) :
    (s.modSx p f).partnerReady p = s.partnerReady p := by
  unfold State.partnerReady
  rw [State.sx_modSx_self, h]
  rfl

section
variable (s : State) (p : Fin 8) (new reason : Nat)

/-- A change of state leaves a field alone that is of another row, or of TPT_STATE and neither state nor reason. -/
theorem State.get_enter {f : Fld}
    (hrow : (0x800000000000000000010588010000000000000000000000018088800000).testBit (rowOf f.off) = false)
    (h : f.off ≠ R.TPT_STATE p.val ∨ 3 < f.lo ∧ f.hi < 24) : (s.enter p new reason).get f = s.get f := by
  rw [State.enter_eq, State.get_stateTold _ _ _ _ _ (bit_of_sub rfl hrow),
    State.get_stateShown _ _ _ _ (bit_of_sub rfl hrow) h]

/-- The pilot stays in its state, or is held at state F (R183). -/
theorem State.cpState_showPilot : (s.showPilot p).get (F.PTN_CP_CP_STATE p.val) = s.get (F.PTN_CP_CP_STATE p.val) ∨
    (s.showPilot p).get (F.PTN_CP_CP_STATE p.val) = 5 := by
  unfold State.showPilot
  extract_lets driven
  split
  · exact .inr (State.get_set_of_lt _ (by decide : 31 < 32) (by decide : 5 < 2 ^ 4))
  · exact .inl (State.get_set_ne _ _ (by decide : 27 < 32) (.inr (.inr (by decide : 27 < 28))))

theorem State.cpState_enter : (s.enter p new reason).get (F.PTN_CP_CP_STATE p.val) = s.get (F.PTN_CP_CP_STATE p.val) ∨
    (s.enter p new reason).get (F.PTN_CP_CP_STATE p.val) = 5 := by
  have hrow : ∀ {B : Nat}, B.testBit 147 = false → B.testBit (rowOf (F.PTN_CP_CP_STATE p.val).off) = false :=
    fun hb => (congrArg _ (rowOf_PTN_CP p)).trans hb
  rw [State.enter_eq]
  unfold State.stateTold
  extract_lets told left
  have hshown : (s.stateShown p new reason).get (F.PTN_CP_CP_STATE p.val) = s.get (F.PTN_CP_CP_STATE p.val) :=
    State.get_stateShown _ _ _ _ (hrow (by decide)) (.inl (ptnCp_ne_tptState p))
  have htold : told.get (F.PTN_CP_CP_STATE p.val) = s.get (F.PTN_CP_CP_STATE p.val) :=
    ((State.raise_keeps _ _).get _ (hrow (by decide))).trans hshown
  have hleft : left.get (F.PTN_CP_CP_STATE p.val) = s.get (F.PTN_CP_CP_STATE p.val) :=
    ite_of (Q := fun x => State.get x (F.PTN_CP_CP_STATE p.val) = s.get (F.PTN_CP_CP_STATE p.val))
      (((told.releaseIm_keeps p).get _ (hrow (by decide))).trans htold) htold
  rw [(State.mirrored_keeps _).get _ (hrow (by decide)), ← hleft]
  exact left.cpState_showPilot p

/-- No change of state makes a partner ready. -/
theorem State.partnerReady_enter (h : s.partnerReady p = false) : (s.enter p new reason).partnerReady p = false := by
  have htype : (s.enter p new reason).type_ p = s.type_ p :=
    s.get_enter p new reason ((congrArg _ (rowOf_TPT_STATE p)).trans (by decide))
      (.inr ⟨(by decide : 3 < 4), (by decide : 7 < 24)⟩)
  have hproto : (s.enter p new reason).get (F.TPT_STATE_PROTO p.val) = s.get (F.TPT_STATE_PROTO p.val) :=
    s.get_enter p new reason ((congrArg _ (rowOf_TPT_STATE p)).trans (by decide))
      (.inr ⟨(by decide : 3 < 16), (by decide : 23 < 24)⟩)
  have hvent : (s.enter p new reason).flag (F.TPT_CFG_VENT_OK p.val) = s.flag (F.TPT_CFG_VENT_OK p.val) :=
    congrArg (· == 1) (s.get_enter p new reason ((congrArg _ (rowOf_TPT_CFG p)).trans (by decide))
      (.inl (tptCfg_ne_tptState p)))
  have hready : ((s.enter p new reason).sx p).ready = (s.sx p).ready := by rw [State.sx_enter]; rfl
  simp only [State.partnerReady, htype, hproto, hvent, hready] at h ⊢
  rcases s.cpState_enter p new reason with hcp | hcp
  · rw [hcp]; exact h
  · rw [hcp]
    cases helec : isElec (s.type_ p)
    · simpa [helec] using h
    · rfl

end

theorem State.tryStart_unready {s : State} {p : Fin 8} (h : s.partnerReady p = false) : s.tryStart p = s :=
  if_neg (by simp [h])

/-- With all rows met a point is in Checked and waits for its partner. -/
theorem execChecksPassed_unready {s : State} {p : Fin 8} (hrun : s.running .ap = true) (hchecking : s.checking p = true)
    (hunheld : s.vot.holds[p] = none) (hmet : checkRows.all (s.rowMet p) = true) (hready : s.partnerReady p = false) :
    execChecksPassed p s = .next ((s.modSx p (fun x => { x with stackCmd := 2 })).enter p 4 0) := by
  have hunready := (s.partnerReady_modSx p (fun x => { x with stackCmd := 2 }) fun _ => rfl).trans hready
  have hholds : (s.vot.holds[p]).isNone = true := by rw [hunheld]; rfl
  exact congrArg Host.Outcome.next ((State.ap_run hrun _).trans ((if_pos ⟨hchecking, hholds, hmet⟩).trans
    (State.tryStart_unready (State.partnerReady_enter _ p 4 0 hunready))))

/-! ### The residual-current test (R195) -/

/-- The channel that drives a point's residual-current test, off again. -/
def State.rcmDriveOff (s : State) (p : Fin 8) : State :=
  let n : Fin 16 := Fin.ofNat 16 (s.get (F.TPT_LINK_RCM_LS p.val))
  if s.pointOwned n = true ∧ s.ownerPoint n = p then s.commandChan n false else s

/-- The test ended, done where its trip was seen. -/
def State.rcmTestEnded (s : State) (p : Fin 8) (seen : Bool) : State :=
  (s.rcmDriveOff p).modSx p (fun x => { x with rcmTesting := false, rcmDone := seen })

theorem State.rcmDriveOff_keeps (s : State) (p : Fin 8) :
    Keeps 64 0x10580000000000000000000000000000000000000 s (s.rcmDriveOff p) :=
  ite_of (s.commandChan_keeps _ _) Keeps.rfl

theorem State.sx_rcmTestEnded (s : State) (p : Fin 8) (seen : Bool) :
    (s.rcmTestEnded p seen).sx p = { s.sx p with rcmTesting := false, rcmDone := seen } := by
  rw [State.rcmTestEnded, State.sx_modSx_self, (s.rcmDriveOff_keeps p).sx rfl]

theorem State.sess_rcmTestEnded (s : State) (p : Fin 8) (seen : Bool) : (s.rcmTestEnded p seen).sess p = s.sess p :=
  (s.rcmDriveOff_keeps p).sess rfl p

theorem execRcmTestTimeout_testing {s : State} {p : Fin 8} (hrun : s.running .ap = true)
    (h : (s.sx p).rcmTesting = true) : execRcmTestTimeout p s = .next (if (s.sx p).rcmSeen = true then
      (s.rcmTestEnded p (s.sx p).rcmSeen).clearRcm p else (s.rcmTestEnded p (s.sx p).rcmSeen).checkFailed p 0x10) := by
  rw [← (s.rcmDriveOff_keeps p).sx rfl p]
  exact congrArg Host.Outcome.next ((State.ap_run hrun _).trans (if_neg (ne_false_of_eq_true h)))

/-- A trip cleared shows at once, whatever the channels' newest samples are (R72). -/
theorem State.rcmTrip_clearRcm (s : State) (p : Fin 8) : (s.clearRcm p).get (F.MET_TPCOND_RCM_TRIP p.val) = 0 :=
  calc (s.clearRcm p).get (F.MET_TPCOND_RCM_TRIP p.val)
      = ((s.set (F.MET_TPCOND_RCM_TRIP p.val) 0).set (F.MET_TPCOND_RCM_SENS p.val) 0).get
          (F.MET_TPCOND_RCM_TRIP p.val) := rfl
    _ = (s.set (F.MET_TPCOND_RCM_TRIP p.val) 0).get (F.MET_TPCOND_RCM_TRIP p.val) :=
        State.get_set_ne _ _ (by decide : 4 < 32) (.inr (.inl (by decide : 3 < 4)))
    _ = 0 := State.get_set_of_lt _ (by decide : 3 < 32) (by decide : 0 < 2 ^ 1)

/-! ### Insulation values (R196) -/

/-- EV071 of a value below its warning limit. -/
def State.insulationWarned (s : State) (p : Fin 8) (kohm : Nat) : State :=
  if kohm < s.get (F.TPT_LEAK_R_WARN p.val) then s.raise { src := 71, point := p.val, every := 60000000 } else s

/-- A value judged in Transferring: the event, and the count of bad values in a row. -/
def State.insulationCounted (s : State) (p : Fin 8) (kohm : Nat) (bad : Bool) : State :=
  (s.insulationWarned p kohm).modSx p (fun x => { x with isoBad := (if bad then x.isoBad + 1 else 0) })

theorem State.insulationWarned_keeps (s : State) (p : Fin 8) (kohm : Nat) :
    Keeps 98560 0x800000000000000000000000000000000000000000000000018088800000 s (s.insulationWarned p kohm) :=
  ite_of (s.raise_keeps _) Keeps.rfl

theorem State.sx_insulationCounted (s : State) (p : Fin 8) (kohm : Nat) (bad : Bool) :
    (s.insulationCounted p kohm bad).sx p = { s.sx p with isoBad := (if bad then (s.sx p).isoBad + 1 else 0) } := by
  rw [State.insulationCounted, State.sx_modSx_self, (s.insulationWarned_keeps p kohm).sx rfl]

theorem State.get_R_ISO_insulationCounted (s : State) (p : Fin 8) (kohm : Nat) (bad : Bool) (c : Fin 2) :
    (s.insulationCounted p kohm bad).get (F.TPT_IM_R_ISO c.val) = s.get (F.TPT_IM_R_ISO c.val) :=
  (s.insulationWarned_keeps p kohm).get _ ((congrArg _ (rowOf_TPT_IM c)).trans (by decide))

/-- A derived value as TPT_IM shows it. -/
def State.isoShown (s : State) (c : Fin 2) (kohm : Nat) : State :=
  s.set (F.TPT_IM_R_ISO c.val) (if 10000 < kohm then 0xFFFF else kohm)

theorem State.get_isoShown_ne (s : State) {c : Fin 2} (kohm : Nat) {f : Fld} (h : f.off ≠ R.TPT_IM c.val) :
    (s.isoShown c kohm).get f = s.get f := State.get_set_ne _ _ (by decide : 15 < 32) (.inl h)

theorem State.get_R_ISO_isoShown (s : State) (c : Fin 2) (kohm : Nat) :
    (s.isoShown c kohm).get (F.TPT_IM_R_ISO c.val) = if 10000 < kohm then 0xFFFF else kohm :=
  State.get_set_of_lt _ (by decide : 15 < 32) (by
    show (if 10000 < kohm then 0xFFFF else kohm) < 2 ^ 16
    split <;> omega)

/-- The second bad value in a row faults a session in Transferring. -/
theorem execInsulationMeasurement_second {s : State} {c : Fin 2} {kohm : Nat} {p : Fin 8} (hrun : s.running .ap = true)
    (hbusy : s.flag (F.TPT_IM_BUSY c.val) = true) (howner : s.get (F.TPT_IM_OWNER c.val) = p.val) (hsess : s.sess p = 5)
    (hbad : kohm < s.get (F.TPT_LIMIT_R_FAULT p.val)) (hfirst : 1 ≤ (s.sx p).isoBad) :
    execInsulationMeasurement c kohm s =
      .next (((s.isoShown c kohm).insulationCounted p kohm true).sessFault p 0x11 false) := by
  have hp : (Fin.ofNat 8 (s.get (F.TPT_IM_OWNER c.val)) : Fin 8) = p := by rw [howner]; exact Fin.ofNat_val_eq_self p
  have hrun' : (s.isoShown c kohm).running .ap = true :=
    (s.running_set _ _ (by decide : 15 < 32) (islandState_ne_tptIm c)).trans hrun
  have hsess' : (s.isoShown c kohm).sess p = 5 :=
    (s.get_isoShown_ne kohm (tptState_ne_tptIm p c)).trans hsess
  have hlimit : (s.isoShown c kohm).get (F.TPT_LIMIT_R_FAULT p.val) = s.get (F.TPT_LIMIT_R_FAULT p.val) :=
    s.get_isoShown_ne kohm (tptLimit_ne_tptIm p c)
  have hbad' : decide (kohm < (s.isoShown c kohm).get (F.TPT_LIMIT_R_FAULT p.val)) = true := by
    rw [hlimit]; exact decide_eq_true hbad
  have hsecond : 2 ≤ (((s.isoShown c kohm).insulationCounted p kohm true).sx p).isoBad := by
    rw [State.sx_insulationCounted]; exact Nat.succ_le_succ hfirst
  unfold execInsulationMeasurement
  rw [if_neg (ne_false_of_eq_true hbusy), hp]
  refine congrArg Host.Outcome.next ((State.ap_run hrun' _).trans ?_)
  rw [hbad']
  exact (if_neg (by rw [hsess']; decide)).trans ((if_pos hsess').trans (if_pos hsecond))

/-! ### The statement -/

theorem checkReason_range (k : CheckKind) : checkReason k ≠ 0 ∧ checkReason k < 256 := by cases k <;> decide

/-- Settles O39: a partner not ready leaves a checked point in Checked; a failed check, drive or value faults the
session with its reason; the phases of the leak test one after another. -/
theorem checkEvents : Obligations.CheckEvents := by
  unfold Obligations.CheckEvents
  refine ⟨?passed, ?unmet, ?limit, ?met, ?unseen, ?seen, ?noTest, ?insulation, ?unused, ?filled, ?notFilling, ?settled,
    ?notSettling, ?tight, ?leaks, ?notTesting⟩
  case passed =>
    intro s p hrun hchecking hunheld hmet hready
    refine ⟨_, execChecksPassed_unready hrun hchecking hunheld hmet hready, State.sess_enter _ p 0 (by decide), ?_⟩
    rw [State.sx_enter, State.sx_modSx_self]
    exact if_pos (Bool.or_true _)
  case unmet =>
    intro s p hunmet
    exact congrArg Host.Outcome.next (State.ap_same (if_neg (by simp [hunmet])))
  case limit =>
    intro s p k hrun hchecking hunmet hpartner
    obtain ⟨hne, hlt⟩ := checkReason_range k
    have hfault := State.faulted_checkFailed hpartner hne hlt
    exact ⟨_, congrArg Host.Outcome.next ((State.ap_run hrun _).trans (if_pos ⟨hchecking, .inl hunmet⟩)),
      hfault.state, hfault.reason⟩
  case met =>
    intro s p k hmet hunheld
    exact congrArg Host.Outcome.next (State.ap_same (if_neg (by simp [hmet, hunheld])))
  case unseen =>
    intro s p hrun htesting hunseen _ hpartner
    have hfault : ((s.rcmTestEnded p (s.sx p).rcmSeen).checkFailed p 0x10).Faulted p 0x10 :=
      State.faulted_checkFailed (by rw [State.sx_rcmTestEnded]; exact hpartner) (by decide) (by decide)
    exact ⟨_, (execRcmTestTimeout_testing hrun htesting).trans
      (congrArg Host.Outcome.next (if_neg (ne_true_of_eq_false hunseen))), hfault.state, hfault.reason,
      hfault.testEnded⟩
  case seen =>
    intro s p hrun htesting hseen
    let u := s.rcmTestEnded p (s.sx p).rcmSeen
    have hsx : (u.clearRcm p).sx p = { s.sx p with rcmTesting := false, rcmDone := (s.sx p).rcmSeen } :=
      ((u.clearRcm_keeps p).sx rfl p).trans (s.sx_rcmTestEnded p _)
    refine ⟨u.clearRcm p, (execRcmTestTimeout_testing hrun htesting).trans
      (congrArg Host.Outcome.next (if_pos hseen)), ?_, ?_, ?_, u.rcmTrip_clearRcm p⟩
    · rw [hsx]
    · rw [hsx]; exact hseen
    · exact ((u.clearRcm_keeps p).sess rfl p).trans (s.sess_rcmTestEnded p _)
  case noTest =>
    intro s p hnone
    exact congrArg Host.Outcome.next (State.ap_same (if_pos hnone))
  case insulation =>
    intro s c kohm p hrun hbusy howner hsess hbad hfirst hpartner
    have hpartner' : (((s.isoShown c kohm).insulationCounted p kohm true).sx p).partner = true := by
      rw [State.sx_insulationCounted]; exact hpartner
    have hfault := (State.sessFault_present hpartner' (by decide : 0x11 ≠ 0) (by decide) false).2
    refine ⟨_, execInsulationMeasurement_second hrun hbusy howner hsess hbad hfirst, hfault.state, hfault.reason, ?_⟩
    rw [State.get_R_ISO_sessFault hpartner' (by decide) (by decide), State.get_R_ISO_insulationCounted,
      State.get_R_ISO_isoShown]
  case unused =>
    intro s c kohm hfree
    exact if_pos hfree
  case filled =>
    intro s p hrun hchecking hphase
    exact congrArg Host.Outcome.next ((State.ap_run hrun _).trans (if_pos ⟨hchecking, hphase⟩))
  case notFilling =>
    intro s p hphase
    exact congrArg Host.Outcome.next (State.ap_same (if_neg (fun h => hphase h.2)))
  case settled =>
    intro s p hrun hchecking hphase
    exact congrArg Host.Outcome.next ((State.ap_run hrun _).trans (if_pos ⟨hchecking, hphase⟩))
  case notSettling =>
    intro s p hphase
    exact congrArg Host.Outcome.next (State.ap_same (if_neg (fun h => hphase h.2)))
  case tight =>
    intro s p hrun hchecking hphase hdecay
    exact congrArg Host.Outcome.next ((State.ap_run hrun _).trans ((if_pos ⟨hchecking, hphase⟩).trans (if_pos hdecay)))
  case leaks =>
    intro s p hrun hchecking hphase hdecay hpartner
    have hfault := State.faulted_checkFailed hpartner (by decide : 0x13 ≠ 0) (by decide)
    exact ⟨_, congrArg Host.Outcome.next ((State.ap_run hrun _).trans ((if_pos ⟨hchecking, hphase⟩).trans
      (if_neg (not_le.2 hdecay)))), hfault.state, hfault.reason⟩
  case notTesting =>
    intro s p hphase
    exact congrArg Host.Outcome.next (State.ap_same (if_neg (fun h => hphase h.2)))

end Sys2Proof.Machine
end

section
/-! SUPPORT. What every command keeps (R142, R166, R167): by the lemma of its meaning, memory stays in canonical form,
the legal log only grows and stays a chain, and the totals stay the sums of their rate registers. -/

namespace Sys2Proof.Machine

/-- Every command stays within some bounds of `Keeps`: one lemma for each (Laws/Keeps.lean). -/
theorem exec_keeps (c : Instr) (s : State) : ∃ P B, KeepsO P B s (exec c s) :=
  match c with
  | .registerWrite off size v => ⟨_, _, execRegisterWrite_keeps off size v s⟩
  | .quantumBoundary => ⟨_, _, execQuantumBoundary_keeps s⟩
  | .crossingStall snd rcv blameReceiver => ⟨_, _, execCrossingStall_keeps snd rcv blameReceiver s⟩
  | .crossingReopen snd rcv => ⟨_, _, execCrossingReopen_keeps snd rcv s⟩
  | .clockMonitorFault i1 remote => ⟨_, _, execClockMonitorFault_keeps i1 remote s⟩
  | .referenceFault => ⟨_, _, execReferenceFault_keeps s⟩
  | .watchdogExpiry engine => ⟨_, _, execWatchdogExpiry_keeps engine s⟩
  | .lockstepError => ⟨_, _, execLockstepError_keeps s⟩
  | .vlRestart => ⟨_, _, execVlRestart_keeps s⟩
  | .scrubRead i1 mem word err legalCopy => ⟨_, _, execScrubRead_keeps i1 mem word err legalCopy s⟩
  | .linkFrame c frame => ⟨_, _, execLinkFrame_keeps c frame s⟩
  | .linkTimeout c => ⟨_, _, execLinkTimeout_keeps c s⟩
  | .referenceComparison ab bc ca => ⟨_, _, execReferenceComparison_keeps ab bc ca s⟩
  | .channelRecordComplete c => ⟨_, _, execChannelRecordComplete_keeps c s⟩
  | .phaseConditionSet c p k => ⟨_, _, execPhaseConditionSet_keeps c p k s⟩
  | .phaseConditionClear c p k => ⟨_, _, execPhaseConditionClear_keeps c p k s⟩
  | .rcmTrip c p row => ⟨_, _, execRcmTrip_keeps c p row s⟩
  | .startTestRequest v => ⟨_, _, execStartTestRequest_keeps v s⟩
  | .startTest d => ⟨_, _, execStartTest_keeps d s⟩
  | .startTestBegin p => ⟨_, _, execStartTestBegin_keeps p s⟩
  | .startTestEnd p => ⟨_, _, execStartTestEnd_keeps p s⟩
  | .supplyLossWarning src => ⟨_, _, execSupplyLossWarning_keeps src s⟩
  | .supplyLossSave => ⟨_, _, execSupplyLossSave_keeps s⟩
  | .saveComplete => ⟨_, _, execSaveComplete_keeps s⟩
  | .supplyLossRestart => ⟨_, _, execSupplyLossRestart_keeps s⟩
  | .pulseEdge n tickA tickB tickC => ⟨_, _, execPulseEdge_keeps n tickA tickB tickC s⟩
  | .modbusPollDue e => ⟨_, _, execModbusPollDue_keeps e s⟩
  | .modbusResponse port frame gap => ⟨_, _, execModbusResponse_keeps port frame gap s⟩
  | .modbusTimeout port => ⟨_, _, execModbusTimeout_keeps port s⟩
  | .modbusValueStale e => ⟨_, _, execModbusValueStale_keeps e s⟩
  | .totaliserCheck e => ⟨_, _, execTotaliserCheck_keeps e s⟩
  | .fieldRecordArrival c => ⟨_, _, execFieldRecordArrival_keeps c s⟩
  | .fieldRecordLate c => ⟨_, _, execFieldRecordLate_keeps c s⟩
  | .substitutionStop p => ⟨_, _, execSubstitutionStop_keeps p s⟩
  | .quantumRecordArrival arrived corrupt => ⟨_, _, execQuantumRecordArrival_keeps arrived corrupt s⟩
  | .resolutionDeadline => ⟨_, _, execResolutionDeadline_keeps s⟩
  | .reverificationBegin c => ⟨_, _, execReverificationBegin_keeps c s⟩
  | .reverify v => ⟨_, _, execReverify_keeps v s⟩
  | .forceOut v => ⟨_, _, execForceOut_keeps v s⟩
  | .channelRejoin c => ⟨_, _, execChannelRejoin_keeps c s⟩
  | .votTolWrite k v => ⟨_, _, execVotTolWrite_keeps k v s⟩
  | .signatureComplete => ⟨_, _, execSignatureComplete_keeps s⟩
  | .storeEntryWrite => ⟨_, _, execStoreEntryWrite_keeps s⟩
  | .slewComplete => ⟨_, _, execSlewComplete_keeps s⟩
  | .servoMonth => ⟨_, _, execServoMonth_keeps s⟩
  | .timeQualityExpiry => ⟨_, _, execTimeQualityExpiry_keeps s⟩
  | .fabricTimeMismatch => ⟨_, _, execFabricTimeMismatch_keeps s⟩
  | .loadCalibrationSet d => ⟨_, _, execLoadCalibrationSet_keeps d s⟩
  | .loadTariffStructure d => ⟨_, _, execLoadTariffStructure_keeps d s⟩
  | .closeBillingPeriod d => ⟨_, _, execCloseBillingPeriod_keeps d s⟩
  | .takeReading d => ⟨_, _, execTakeReading_keeps d s⟩
  | .timeCorrection d => ⟨_, _, execTimeCorrection_keeps d s⟩
  | .timeSet d => ⟨_, _, execTimeSet_keeps d s⟩
  | .waveformCapture d => ⟨_, _, execWaveformCapture_keeps d s⟩
  | .noOperation d => ⟨_, _, execNoOperation_keeps d s⟩
  | .locateStore d => ⟨_, _, execLocateStore_keeps d s⟩
  | .assignPointType d => ⟨_, _, execAssignPointType_keeps d s⟩
  | .identify d => ⟨_, _, execIdentify_keeps d s⟩
  | .authorise d => ⟨_, _, execAuthorise_keeps d s⟩
  | .revocationStatus d => ⟨_, _, execRevocationStatus_keeps d s⟩
  | .stopSession d => ⟨_, _, execStopSession_keeps d s⟩
  | .clearFault d => ⟨_, _, execClearFault_keeps d s⟩
  | .weldCheckEnd p passed => ⟨_, _, execWeldCheckEnd_keeps p passed s⟩
  | .serviceState d => ⟨_, _, execServiceState_keeps d s⟩
  | .hostCurrentLimit d => ⟨_, _, execHostCurrentLimit_keeps d s⟩
  | .clearRcmTrip d => ⟨_, _, execClearRcmTrip_keeps d s⟩
  | .loadContractTable d => ⟨_, _, execLoadContractTable_keeps d s⟩
  | .pilotStateChange p high low ohms => ⟨_, _, execPilotStateChange_keeps p high low ohms s⟩
  | .handshakeTimeout p => ⟨_, _, execHandshakeTimeout_keeps p s⟩
  | .authorisationTimeout p => ⟨_, _, execAuthorisationTimeout_keeps p s⟩
  | .readyTimeout p => ⟨_, _, execReadyTimeout_keeps p s⟩
  | .checksPassed p => ⟨_, _, execChecksPassed_keeps p s⟩
  | .checkTimeout p k => ⟨_, _, execCheckTimeout_keeps p k s⟩
  | .overcurrentViolation p => ⟨_, _, execOvercurrentViolation_keeps p s⟩
  | .vehicleMessage p m => ⟨_, _, execVehicleMessage_keeps p m s⟩
  | .seccDiscoveryTimeout p => ⟨_, _, execSeccDiscoveryTimeout_keeps p s⟩
  | .fallbackPilotFEnd p => ⟨_, _, execFallbackPilotFEnd_keeps p s⟩
  | .vehicleMessageTimeout p => ⟨_, _, execVehicleMessageTimeout_keeps p s⟩
  | .couplingDetect p loop => ⟨_, _, execCouplingDetect_keeps p loop s⟩
  | .couplingAbsent p loop => ⟨_, _, execCouplingAbsent_keeps p loop s⟩
  | .couplingAttemptTimeout p => ⟨_, _, execCouplingAttemptTimeout_keeps p s⟩
  | .couplingIdentityFrame p frame => ⟨_, _, execCouplingIdentityFrame_keeps p frame s⟩
  | .couplingMessage p m => ⟨_, _, execCouplingMessage_keeps p m s⟩
  | .couplingHeartbeatLost p => ⟨_, _, execCouplingHeartbeatLost_keeps p s⟩
  | .stackCommandSend p => ⟨_, _, execStackCommandSend_keeps p s⟩
  | .stackStatusFrame port ident frame => ⟨_, _, execStackStatusFrame_keeps port ident frame s⟩
  | .stackStatusTimeout p => ⟨_, _, execStackStatusTimeout_keeps p s⟩
  | .stackCurrentMismatch p => ⟨_, _, execStackCurrentMismatch_keeps p s⟩
  | .rcmTestTimeout p => ⟨_, _, execRcmTestTimeout_keeps p s⟩
  | .insulationMeasurement c kohm => ⟨_, _, execInsulationMeasurement_keeps c kohm s⟩
  | .leakTestFillEnd p => ⟨_, _, execLeakTestFillEnd_keeps p s⟩
  | .leakTestSettleEnd p => ⟨_, _, execLeakTestSettleEnd_keeps p s⟩
  | .leakTestEnd p => ⟨_, _, execLeakTestEnd_keeps p s⟩
  | .safeStateReport p => ⟨_, _, execSafeStateReport_keeps p s⟩
  | .switchConfirmTimeout p => ⟨_, _, execSwitchConfirmTimeout_keeps p s⟩
  | .dcContactorOpenTimeout p => ⟨_, _, execDcContactorOpenTimeout_keeps p s⟩
  | .shortDetected n => ⟨_, _, execShortDetected_keeps n s⟩
  | .overcurrent n => ⟨_, _, execOvercurrent_keeps n s⟩
  | .retryPauseEnd n => ⟨_, _, execRetryPauseEnd_keeps n s⟩
  | .retrySequenceReset n => ⟨_, _, execRetrySequenceReset_keeps n s⟩
  | .inrushEnd n => ⟨_, _, execInrushEnd_keeps n s⟩
  | .openLoad n => ⟨_, _, execOpenLoad_keeps n s⟩
  | .openLoadClear n => ⟨_, _, execOpenLoadClear_keeps n s⟩
  | .aggregateOverload mean1s inst => ⟨_, _, execAggregateOverload_keeps mean1s inst s⟩
  | .shedStep mean10ms => ⟨_, _, execShedStep_keeps mean10ms s⟩
  | .shedReturn mean1s => ⟨_, _, execShedReturn_keeps mean1s s⟩
  | .shedRestoreStep => ⟨_, _, execShedRestoreStep_keeps s⟩
  | .arrayTemperature degC => ⟨_, _, execArrayTemperature_keeps degC s⟩
  | .pwmPeriodStart g => ⟨_, _, execPwmPeriodStart_keeps g s⟩
  | .vfieldDip v10mV => ⟨_, _, execVfieldDip_keeps v10mV s⟩
  | .uvOff v10mV => ⟨_, _, execUvOff_keeps v10mV s⟩
  | .uvRecovery v10mV => ⟨_, _, execUvRecovery_keeps v10mV s⟩
  | .channelReclaim n => ⟨_, _, execChannelReclaim_keeps n s⟩
  | .holdExpiry => ⟨_, _, execHoldExpiry_keeps s⟩
  | .lswCmdWrite v => ⟨_, _, execLswCmdWrite_keeps v s⟩
  | .latchClear v => ⟨_, _, execLatchClear_keeps v s⟩
  | .lswAggRead => ⟨_, _, execLswAggRead_keeps s⟩
  | .switchHostChannels d => ⟨_, _, execSwitchHostChannels_keeps d s⟩
  | .clearLatches d => ⟨_, _, execClearLatches_keeps d s⟩
  | .safetyInputFiltered i1 level inA inB tA tB =>
    ⟨_, _, execSafetyInputFiltered_keeps i1 level inA inB tA tB s⟩
  | .sfScan => ⟨_, _, execSfScan_keeps s⟩
  | .safetyDiscrepancy k out => ⟨_, _, execSafetyDiscrepancy_keeps k out s⟩
  | .outputTest out swB fell => ⟨_, _, execOutputTest_keeps out swB fell s⟩
  | .switchStuck out swB on => ⟨_, _, execSwitchStuck_keeps out swB on s⟩
  | .inputDiscrepancy f => ⟨_, _, execInputDiscrepancy_keeps f s⟩
  | .discrepancyClear f => ⟨_, _, execDiscrepancyClear_keeps f s⟩
  | .twoHandTimeout f inA inB => ⟨_, _, execTwoHandTimeout_keeps f inA inB s⟩
  | .safetyResetRequest v => ⟨_, _, execSafetyResetRequest_keeps v s⟩
  | .safetyRestart v => ⟨_, _, execSafetyRestart_keeps v s⟩
  | .startTestsComplete pass => ⟨_, _, execStartTestsComplete_keeps pass s⟩
  | .loadSafetyConfiguration d => ⟨_, _, execLoadSafetyConfiguration_keeps d s⟩
  | .confirmSafetyConfiguration d => ⟨_, _, execConfirmSafetyConfiguration_keeps d s⟩
  | .safetyConfigTimeout => ⟨_, _, execSafetyConfigTimeout_keeps s⟩
  | .hostLinkReset => ⟨_, _, execHostLinkReset_keeps s⟩
  | .hostLinkUp gen width => ⟨_, _, execHostLinkUp_keeps gen width s⟩
  | .linkRetrain v => ⟨_, _, execLinkRetrain_keeps v s⟩
  | .privLock v => ⟨_, _, execPrivLock_keeps v s⟩
  | .spiFrame bytes readLen brokenByte => ⟨_, _, execSpiFrame_keeps bytes readLen brokenByte s⟩
  | .windowFrame bytes => ⟨_, _, execWindowFrame_keeps bytes s⟩
  | .queueEnable q v => ⟨_, _, execQueueEnable_keeps q v s⟩
  | .queueDisable q v => ⟨_, _, execQueueDisable_keeps q v s⟩
  | .sqDoorbell n v fetched failed => ⟨_, _, execSqDoorbell_keeps n v fetched failed s⟩
  | .cqDoorbell n v => ⟨_, _, execCqDoorbell_keeps n v s⟩
  | .eqDoorbell e v => ⟨_, _, execEqDoorbell_keeps e v s⟩
  | .commandDispatch n => ⟨_, _, execCommandDispatch_keeps n s⟩
  | .commandResult writeFails => ⟨_, _, execCommandResult_keeps writeFails s⟩
  | .hostCompletionTimeout q => ⟨_, _, execHostCompletionTimeout_keeps q s⟩
  | .coalescingTimeout q => ⟨_, _, execCoalescingTimeout_keeps q s⟩
  | .dataPortAccess off op => ⟨_, _, execDataPortAccess_keeps off op s⟩
  | .queueOffer i1 unit_ type_ body mismatch =>
    ⟨_, _, execQueueOffer_keeps i1 unit_ type_ body mismatch s⟩
  | .queueRelease i1 mismatch => ⟨_, _, execQueueRelease_keeps i1 mismatch s⟩
  | .queStatRead i1 => ⟨_, _, execQueStatRead_keeps i1 s⟩
  | .phyLinkUp k => ⟨_, _, execPhyLinkUp_keeps k s⟩
  | .phyLinkDown k => ⟨_, _, execPhyLinkDown_keeps k s⟩
  | .helloSend k => ⟨_, _, execHelloSend_keeps k s⟩
  | .helloReceive k frame => ⟨_, _, execHelloReceive_keeps k frame s⟩
  | .helloTimeout k => ⟨_, _, execHelloTimeout_keeps k s⟩
  | .linkStateAdvertReceive port frame => ⟨_, _, execLinkStateAdvertReceive_keeps port frame s⟩
  | .advertRepeat => ⟨_, _, execAdvertRepeat_keeps s⟩
  | .advertRefresh => ⟨_, _, execAdvertRefresh_keeps s⟩
  | .advertAgeOut ident => ⟨_, _, execAdvertAgeOut_keeps ident s⟩
  | .addressClaimFinal => ⟨_, _, execAddressClaimFinal_keeps s⟩
  | .linkCostUpdate k badPerMille meanFill => ⟨_, _, execLinkCostUpdate_keeps k badPerMille meanFill s⟩
  | .linkSuppressionEnd port j => ⟨_, _, execLinkSuppressionEnd_keeps port j s⟩
  | .routeRecompute => ⟨_, _, execRouteRecompute_keeps s⟩
  | .routedFrameForward port frame => ⟨_, _, execRoutedFrameForward_keeps port frame s⟩
  | .quarantineEnd port j => ⟨_, _, execQuarantineEnd_keeps port j s⟩
  | .reportSpreadDue => ⟨_, _, execReportSpreadDue_keeps s⟩
  | .reportSend => ⟨_, _, execReportSend_keeps s⟩
  | .reportReceive port payload type_ => ⟨_, _, execReportReceive_keeps port payload type_ s⟩
  | .collectorStoreWrite => ⟨_, _, execCollectorStoreWrite_keeps s⟩
  | .mmd5206Frame k frame => ⟨_, _, execMmd5206Frame_keeps k frame s⟩
  | .fabricCommandReceive payload => ⟨_, _, execFabricCommandReceive_keeps payload s⟩
  | .fabricCommandCompletion payload => ⟨_, _, execFabricCommandCompletion_keeps payload s⟩
  | .ptpMessageReceive k m => ⟨_, _, execPtpMessageReceive_keeps k m s⟩
  | .ptpSyncSend k => ⟨_, _, execPtpSyncSend_keeps k s⟩
  | .ptpAnnounceSend k => ⟨_, _, execPtpAnnounceSend_keeps k s⟩
  | .ptpPeerDelaySend k => ⟨_, _, execPtpPeerDelaySend_keeps k s⟩
  | .ptpAnnounceTimeout k => ⟨_, _, execPtpAnnounceTimeout_keeps k s⟩
  | .ptpLockAcquired => ⟨_, _, execPtpLockAcquired_keeps s⟩
  | .ptpSyncLoss => ⟨_, _, execPtpSyncLoss_keeps s⟩
  | .pairHeartbeatSend => ⟨_, _, execPairHeartbeatSend_keeps s⟩
  | .duplexMirror m => ⟨_, _, execDuplexMirror_keeps m s⟩
  | .pairReleaseReceive => ⟨_, _, execPairReleaseReceive_keeps s⟩
  | .pairHeartbeatLoss => ⟨_, _, execPairHeartbeatLoss_keeps s⟩
  | .pairLaneLoss laneB => ⟨_, _, execPairLaneLoss_keeps laneB s⟩
  | .pairLaneReturn laneB partnerIdent partnerBow =>
    ⟨_, _, execPairLaneReturn_keeps laneB partnerIdent partnerBow s⟩
  | .routeLookup d => ⟨_, _, execRouteLookup_keeps d s⟩
  | .sendFabricCommand d => ⟨_, _, execSendFabricCommand_keeps d s⟩
  | .fabricCommandTimeout => ⟨_, _, execFabricCommandTimeout_keeps s⟩
  | .switchRole d => ⟨_, _, execSwitchRole_keeps d s⟩
  | .clearQuarantine d => ⟨_, _, execClearQuarantine_keeps d s⟩
  | .locateCollectorStore d => ⟨_, _, execLocateCollectorStore_keeps d s⟩
  | .advanceKeyEpoch d => ⟨_, _, execAdvanceKeyEpoch_keeps d s⟩
  | .mtlDataFrame rx => ⟨_, _, execMtlDataFrame_keeps rx s⟩
  | .mtlAckSend => ⟨_, _, execMtlAckSend_keeps s⟩
  | .mtlAcknowledgement rx => ⟨_, _, execMtlAcknowledgement_keeps rx s⟩
  | .mtlAckTimeout => ⟨_, _, execMtlAckTimeout_keeps s⟩
  | .mtlBackoffSlot => ⟨_, _, execMtlBackoffSlot_keeps s⟩
  | .mtlTransmissionEnd => ⟨_, _, execMtlTransmissionEnd_keeps s⟩
  | .mtlTransmissionCutoff => ⟨_, _, execMtlTransmissionCutoff_keeps s⟩
  | .mtlBeaconSend => ⟨_, _, execMtlBeaconSend_keeps s⟩
  | .mtlBeacon rx => ⟨_, _, execMtlBeacon_keeps rx s⟩
  | .mtlRefreshSend => ⟨_, _, execMtlRefreshSend_keeps s⟩
  | .mtlRefreshList rx => ⟨_, _, execMtlRefreshList_keeps rx s⟩
  | .mtlWantedAdvertSend orig => ⟨_, _, execMtlWantedAdvertSend_keeps orig s⟩
  | .mtlLinkTimeout j => ⟨_, _, execMtlLinkTimeout_keeps j s⟩
  | .mtlNeighbourFree j => ⟨_, _, execMtlNeighbourFree_keeps j s⟩
  | .mtlSegmentSetTimeout j => ⟨_, _, execMtlSegmentSetTimeout_keeps j s⟩
  | .lineDriverFault => ⟨_, _, execLineDriverFault_keeps s⟩
  | .lineDriverResume => ⟨_, _, execLineDriverResume_keeps s⟩
  | .lineNoiseMeasurement d noise => ⟨_, _, execLineNoiseMeasurement_keeps d noise s⟩
  | .clearToneQuarantine d => ⟨_, _, execClearToneQuarantine_keeps d s⟩
  | .keyUseRequest requester slot use checkOk rebuildOk =>
    ⟨_, _, execKeyUseRequest_keeps requester slot use checkOk rebuildOk s⟩
  | .writeKey d => ⟨_, _, execWriteKey_keeps d s⟩
  | .deriveKey d => ⟨_, _, execDeriveKey_keeps d s⟩
  | .destroyKey d => ⟨_, _, execDestroyKey_keeps d s⟩
  | .keyStatement d => ⟨_, _, execKeyStatement_keeps d s⟩
  | .attest d => ⟨_, _, execAttest_keeps d s⟩
  | .setMeterIdentity d => ⟨_, _, execSetMeterIdentity_keeps d s⟩
  | .enrolIntegratorKey d => ⟨_, _, execEnrolIntegratorKey_keeps d s⟩
  | .selectDestructionModes d => ⟨_, _, execSelectDestructionModes_keeps d s⟩
  | .debugPort d => ⟨_, _, execDebugPort_keeps d s⟩
  | .debugKill d => ⟨_, _, execDebugKill_keeps d s⟩
  | .tamperInput n => ⟨_, _, execTamperInput_keeps n s⟩
  | .sealChange open_ => ⟨_, _, execSealChange_keeps open_ s⟩
  | .displayPowerOn v => ⟨_, _, execDisplayPowerOn_keeps v s⟩
  | .displayPowerOff v => ⟨_, _, execDisplayPowerOff_keeps v s⟩
  | .displaySequenceStep => ⟨_, _, execDisplaySequenceStep_keeps s⟩
  | .panelFault => ⟨_, _, execPanelFault_keeps s⟩
  | .railFault => ⟨_, _, execRailFault_keeps s⟩
  | .fastDischargeComplete => ⟨_, _, execFastDischargeComplete_keeps s⟩
  | .commonToggle => ⟨_, _, execCommonToggle_keeps s⟩
  | .stressCount => ⟨_, _, execStressCount_keeps s⟩
  | .vcomTrimUpdate => ⟨_, _, execVcomTrimUpdate_keeps s⟩
  | .displayPassStart => ⟨_, _, execDisplayPassStart_keeps s⟩
  | .lineTransferComplete => ⟨_, _, execLineTransferComplete_keeps s⟩
  | .displayPassEnd => ⟨_, _, execDisplayPassEnd_keeps s⟩
  | .legalPageAdvance => ⟨_, _, execLegalPageAdvance_keeps s⟩
  | .writeOpenLines d => ⟨_, _, execWriteOpenLines_keeps d s⟩
  | .storeFrame d => ⟨_, _, execStoreFrame_keeps d s⟩
  | .showStoredFrame d => ⟨_, _, execShowStoredFrame_keeps d s⟩
  | .powerOnReset straps rtcUs oscStop healthOk =>
    ⟨_, _, execPowerOnReset_keeps straps rtcUs oscStop healthOk s⟩
  | .islandStartComplete i1 => ⟨_, _, execIslandStartComplete_keeps i1 s⟩
  | .nreset => ⟨_, _, execNreset_keeps s⟩
  | .resetModuleOrIsland d => ⟨_, _, execResetModuleOrIsland_keeps d s⟩
  | .moduleResetExecute => ⟨_, _, execModuleResetExecute_keeps s⟩
  | .receiveContainerPart d => ⟨_, _, execReceiveContainerPart_keeps d s⟩
  | .stageContainer d unwrapOk => ⟨_, _, execStageContainer_keeps d unwrapOk s⟩
  | .activate d => ⟨_, _, execActivate_keeps d s⟩
  | .updateStep verified => ⟨_, _, execUpdateStep_keeps verified s⟩
  | .engineRunningReport e => ⟨_, _, execEngineRunningReport_keeps e s⟩
  | .updateStepTimeout => ⟨_, _, execUpdateStepTimeout_keeps s⟩
  | .healthReport e => ⟨_, _, execHealthReport_keeps e s⟩
  | .confirmHealth d => ⟨_, _, execConfirmHealth_keeps d s⟩
  | .catchWindowEnd => ⟨_, _, execCatchWindowEnd_keeps s⟩
  | .revert d => ⟨_, _, execRevert_keeps d s⟩
  | .shellTemperatureSample degC for1ms => ⟨_, _, execShellTemperatureSample_keeps degC for1ms s⟩
  | .thermalRestart degC => ⟨_, _, execThermalRestart_keeps degC s⟩
  | .mgTempRead => ⟨_, _, execMgTempRead_keeps s⟩
  | .i2cTransfer d bus => ⟨_, _, execI2cTransfer_keeps d bus s⟩
  | .shellSupplyFault => ⟨_, _, execShellSupplyFault_keeps s⟩
  | .rtcOscillatorStop => ⟨_, _, execRtcOscillatorStop_keeps s⟩
  | .pairUp partnerIdent partnerAddr partnerPref =>
    ⟨_, _, execPairUp_keeps partnerIdent partnerAddr partnerPref s⟩
  | .mediumBusy => ⟨_, _, execMediumBusy_keeps s⟩
  | .mediumIdle draw => ⟨_, _, execMediumIdle_keeps draw s⟩
  | .airtimeLimitEnd => ⟨_, _, execAirtimeLimitEnd_keeps s⟩
  | .lbusyRelease => ⟨_, _, execLbusyRelease_keeps s⟩
  | .tamperInputReturn n => ⟨_, _, execTamperInputReturn_keeps n s⟩
  | .switchCellOvertemperature n => ⟨_, _, execSwitchCellOvertemperature_keeps n s⟩

/-- Soundness is kept wherever `Keeps` holds, whatever its bounds. -/
theorem State.Sound.of_keeps {P B : Nat} {s t : State} (hs : s.Sound) (h : Keeps P B s t) : t.Sound where
  mem := h.wf hs.mem
  log := h.ext.chain hs.log
  sums := h.ext.sums hs.sums

/-- Settles O5: a step is the idle microsecond or a command on the queue's rest, and both stay within `Keeps`, which
holds the three parts of soundness. -/
theorem everyStepSound : Obligations.EveryStepSound := by
  unfold Obligations.EveryStepSound
  intro s t hs hstep
  unfold step at hstep
  split at hstep
  next => exact Host.Outcome.next.inj hstep ▸ hs.of_keeps s.idle_keeps
  next c rest _ =>
    obtain ⟨P, B, hkeeps⟩ := exec_keeps c { s with pending := rest }
    have hrest : State.Sound { s with pending := rest } := ⟨hs.mem, hs.log, hs.sums⟩
    exact hrest.of_keeps (hkeeps t hstep)

/-- Settles O6: the log's part of what every command keeps. -/
theorem legalLogGrows : Obligations.LegalLogGrows := by
  unfold Obligations.LegalLogGrows
  intro c s t hexec
  obtain ⟨P, B, hkeeps⟩ := exec_keeps c s
  obtain ⟨hsuffix, hchain, -⟩ := (hkeeps t hexec).ext
  exact ⟨hsuffix, hchain⟩

/-- Settles O4: at reset memory and log are empty, and every block is blank. -/
theorem resetSound : Obligations.ResetSound := by
  unfold Obligations.ResetSound
  exact { mem := rfl, log := rfl, sums := by unfold BilS.sums; decide }

end Sys2Proof.Machine
end

section
/-! SUPPORT. Where commands store bytes (R150, R264, R340, R351, R353, R365, R379, R393): what an operation writes in
memory as a set of addresses, for each storing operation. -/

namespace Sys2Proof.Machine

/-! ### Writes within a set of addresses -/

/-- Memory stays in canonical form, and every byte whose address is not in the set reads as before. -/
structure State.WritesIn (A : Set Nat) (s t : State) : Prop where
  wf : Mem.wf s.mem = true → Mem.wf t.mem = true
  other : Mem.wf s.mem = true → ∀ a ∉ A, memGet t.mem a = memGet s.mem a

section
variable {A : Set Nat} {s t u : State}

theorem State.WritesIn.of_mem_eq (h : t.mem = s.mem) : s.WritesIn A t :=
  ⟨fun hwf => h ▸ hwf, fun _ _ _ => by rw [h]⟩

theorem State.WritesIn.trans (h : s.WritesIn A t) (k : t.WritesIn A u) : s.WritesIn A u :=
  ⟨fun hwf => k.wf (h.wf hwf), fun hwf a ha => (k.other (h.wf hwf) a ha).trans (h.other hwf a ha)⟩

/-- Parts besides memory changed before the writes. -/
theorem State.WritesIn.of_start (h : t.WritesIn A u) (e : t.mem = s.mem) : s.WritesIn A u := .trans (.of_mem_eq e) h

theorem State.WritesIn.of_end (h : s.WritesIn A t) (e : u.mem = t.mem) : s.WritesIn A u := h.trans (.of_mem_eq e)

theorem Keeps.writesIn {P B : Nat} (h : Keeps P B s t) (hp : P.testBit 15 = false) : s.WritesIn A t :=
  .of_mem_eq (h.mem hp)

theorem Keeps.writesIn_pcie {P B : Nat} (h : Keeps P B s t) (hp : P.testBit 18 = false) (hpcie : s.pcie = true) :
    s.WritesIn A t :=
  .of_mem_eq (h.pmem hp hpcie).1

theorem State.WritesIn.store {a : Nat} {l : List Byte} (h : Set.Ico a (a + l.length) ⊆ A) :
    s.WritesIn A (s.store a l) where
  wf := State.store_wf a l
  other hwf c hc := (memGet_memWrite c l s.mem a hwf).trans (if_neg fun hin => hc (h hin))

/-- A command stores where its body does: a check that fails stores nothing. -/
theorem State.WritesIn.command {d : Desc} {c : CmdSpec} {ranges : List (Nat × Bool)} {body : State → State}
    (h : s.WritesIn A (body s)) : s.WritesIn A (s.command d c ranges body) := by
  unfold State.command
  split
  · exact .of_mem_eq rfl
  · exact h

/-- A command's answer stores nothing. -/
theorem State.WritesIn.ok (h : s.WritesIn A t) {d : Desc} {bytes : List Byte} : s.WritesIn A (t.ok d bytes) :=
  h.of_end (State.ok_mem ..)

/-- A command's frame of memory, as the statement reads it. -/
theorem State.WritesIn.outside {lo hi : Nat} (h : s.WritesIn (Set.Ico lo hi) t) (hwf : Mem.wf s.mem = true) :
    ∀ a, a < lo ∨ hi ≤ a → memGet t.mem a = memGet s.mem a :=
  fun a ha => h.other hwf a fun hin => ha.elim hin.1.not_gt hin.2.not_ge

theorem State.WritesIn.below {lo : Nat} (h : s.WritesIn (Set.Ici lo) t) (hwf : Mem.wf s.mem = true) :
    ∀ a, a < lo → memGet t.mem a = memGet s.mem a :=
  fun a ha => h.other hwf a fun hin => ha.not_ge hin

end

/-! ### Lengths of what is stored -/

@[simp] theorem length_memRead (m : Mem) (a n : Nat) : (memRead m a n).length = n := by
  induction n generalizing a with
  | zero => rfl
  | succ n ih => rw [memRead, List.length_cons, ih]

@[simp] theorem State.length_staged (s : State) (d : Desc) : (s.staged d).length = d.n 16 4 := length_memRead ..

@[simp] theorem length_hmac256 (key m : List Byte) : (hmac256 key m).length = 32 := length_sha256 _

@[simp] theorem length_keyId (pub : List Byte) : (keyId pub).length = 4 := by simp [keyId]

@[simp] theorem State.length_readingKid (s : State) : s.readingKid.length = 4 := by
  unfold State.readingKid
  split
  · exact length_keyId _
  · exact length_zeros 4

theorem length_slice_le (l : List Byte) (off n : Nat) : (slice l off n).length ≤ n := List.length_take_le ..

/-! ### Open lines (R379) -/

/-- A line cut from bytes lies among the lines counted, and is no longer than a line. -/
theorem mem_cutLines {n first count : Nat} {bytes : List Byte} {x : Nat × List Byte}
    (h : x ∈ cutLines n first bytes count) : first ≤ x.1 ∧ x.1 < first + count ∧ x.2.length ≤ n := by
  obtain ⟨i, hi, rfl⟩ := List.mem_map.1 h
  have hlt := List.mem_range.1 hi
  exact ⟨Nat.le_add_right .., Nat.add_lt_add_left hlt _, length_slice_le ..⟩

theorem State.WritesIn.putOpen {A : Set Nat} {s : State} {lines : List (Nat × List Byte)}
    (h : ∀ x ∈ lines, Set.Ico (frameLine x.1) (frameLine x.1 + x.2.length) ⊆ A) :
    s.WritesIn A (s.putOpen lines) := by
  have hstore : s.WritesIn A (lines.foldl (fun (s : State) x => s.store (frameLine x.1) x.2) s) :=
    foldl_of (Q := s.WritesIn A) (.of_mem_eq rfl) fun t x hx ht => ht.trans (.store (h x hx))
  unfold State.putOpen
  exact ite_of (hstore.trans ((State.markLines_keeps _ _).writesIn rfl)) hstore

/-- Lines cut from bytes store from the first line's address to a line's length behind the last's. -/
theorem State.WritesIn.putOpen_cutLines {s : State} {n first count : Nat} {bytes : List Byte}
    {lines : List (Nat × List Byte)} (h : lines ⊆ cutLines n first bytes count) :
    s.WritesIn (Set.Ico (frameLine first) (frameLine (first + count) + n)) (s.putOpen lines) := by
  refine .putOpen fun x hx a ha => ?_
  obtain ⟨hfirst, hlast, hlen⟩ := mem_cutLines (h hx)
  obtain ⟨hlo, hhi⟩ := ha
  unfold frameLine at *
  exact ⟨by omega, by omega⟩

/-! ### The data port (R263, R264) -/

theorem dpRegion_staging {a n : Nat} (h : dpRegion a n = some 0) :
    stagingBase ≤ a ∧ a + n ≤ stagingBase + 0x80000 := by
  obtain ⟨_, hfirst, -⟩ := List.findIdx?_eq_some_iff_getElem.1 h
  rwa [Bool.and_eq_true, decide_eq_true_iff, decide_eq_true_iff] at hfirst

theorem State.WritesIn.storeParts {A : Set Nat} : ∀ {parts : List (Nat × Nat)} {s : State} {l : List Byte},
    (∀ p ∈ parts, Set.Ico p.1 (p.1 + p.2) ⊆ A) → s.WritesIn A (s.storeParts parts l)
  | [], _, _, _ => .of_mem_eq rfl
  | p :: t, s, l, h => by
    have hpart : Set.Ico p.1 (p.1 + (l.take p.2).length) ⊆ A :=
      (Set.Ico_subset_Ico_right (Nat.add_le_add_left (List.length_take_le ..) _)).trans (h p List.mem_cons_self)
    exact State.WritesIn.trans (.store hpart) (.storeParts fun q hq => h q (List.mem_cons_of_mem _ hq))

/-- A write through the data port stores in the staging buffer alone. -/
theorem State.WritesIn.dpWrite {s : State} (off : Nat) (l : List Byte) (hpcie : s.pcie = true) :
    s.WritesIn (Set.Ico stagingBase (stagingBase + 0x80000)) (s.dpWrite off l) := by
  have hrefuse : s.WritesIn (Set.Ico stagingBase (stagingBase + 0x80000)) s.dpRefuse :=
    s.dpRefuse_keeps.writesIn_pcie rfl hpcie
  unfold State.dpWrite
  split
  next => exact hrefuse
  next parts u hparts =>
    split
    next => exact hrefuse
    next hin =>
      rw [not_or] at hin
      obtain ⟨-, hall⟩ := hin
      have hset : s.WritesIn (Set.Ico stagingBase (stagingBase + 0x80000)) u :=
        ((s.dpParts_keeps off l.length).of_eq hparts).writesIn rfl
      refine hset.trans (.storeParts fun p hp => ?_)
      have hrow : dpRegion p.1 p.2 = some 0 := by
        by_contra hne
        exact hall (List.any_eq_true.2 ⟨p, hp, bne_iff_ne.2 hne⟩)
      obtain ⟨hlo, hhi⟩ := dpRegion_staging hrow
      exact Set.Ico_subset_Ico hlo hhi

/-! ### The panel (R366 to R377) -/

theorem memGet_filter {p : Nat × Byte → Bool} {a : Nat} (h : ∀ x, p (a, x) = true) :
    ∀ m : Mem, memGet (m.filter p) a = memGet m a
  | [] => rfl
  | (b, x) :: t => by
    rw [List.filter_cons]
    by_cases hb : b = a
    · rw [if_pos (hb ▸ h x), memGet, memGet, if_pos hb, if_pos hb]
    · rw [memGet, if_neg hb]
      split
      · rw [memGet, if_neg hb, memGet_filter h t]
      · exact memGet_filter h t

section
variable (s : State)

/-- The panel's own memory blanked. -/
theorem State.WritesIn.panelWhite : s.WritesIn (Set.Ici panelBase) s.panelWhite where
  wf := memFilter_wf _
  other _ a ha := memGet_filter (fun _ => by
    rw [Bool.or_eq_true, decide_eq_true_iff]; exact .inl (not_le.1 ha)) s.mem

theorem State.WritesIn.writeLine (l : Nat) (bytes : List Byte) :
    s.WritesIn (Set.Ici panelBase) (s.writeLine l bytes) := by
  have hpanel : s.WritesIn (Set.Ici panelBase) ((s.set F.LDP_STATUS_LINE l).panel 0x01 (natBE 2 l ++ bytes)) :=
    .of_start ((State.panel_keeps (s.set F.LDP_STATUS_LINE l) _ _).writesIn rfl) rfl
  exact hpanel.trans (.store fun a ha => (Nat.le_add_right ..).trans ha.1)

theorem State.WritesIn.nextTransfer (p : Pass) : s.WritesIn (Set.Ici panelBase) (s.nextTransfer p) := by
  have hline : ∀ (l x : Nat) (q : Pass) (bytes : List Byte), s.WritesIn (Set.Ici panelBase)
      (((s.rewritten l).modLdp (fun y => { y with pass_ := some q })).writeLine x bytes) := fun l x q bytes =>
    ((s.rewritten_keeps l).writesIn rfl).trans
      (.of_start (.writeLine ((s.rewritten l).modLdp (fun y => { y with pass_ := some q })) x bytes) rfl)
  have hpanel : ∀ code, s.WritesIn (Set.Ici panelBase) (s.panel code []) := fun code =>
    (s.panel_keeps code []).writesIn rfl
  unfold State.nextTransfer
  dsimp only
  split
  · split
    · exact hline ..
    · exact (hpanel 0x03).of_end rfl
  · split
    · exact (hpanel 0x04).of_end rfl
    · split
      · exact hline ..
      · exact .of_mem_eq rfl

theorem State.WritesIn.panelNext : s.WritesIn (Set.Ici panelBase) s.panelNext := by
  unfold State.panelNext
  dsimp only
  refine ite_of (.of_mem_eq rfl) (ite_of (s.toggle_keeps.writesIn rfl) ?_)
  split
  · exact .nextTransfer s _
  · exact .of_mem_eq rfl

theorem State.WritesIn.startPass : s.WritesIn (Set.Ici panelBase) s.startPass := by
  have hclear : s.WritesIn (Set.Ici panelBase) (s.dirtyLines.foldl (fun (s : State) x => s.setDirty x false) s) :=
    foldl_of (Q := s.WritesIn _) (.of_mem_eq rfl) fun t x _ ht => ht.trans ((t.setDirty_keeps x false).writesIn rfl)
  unfold State.startPass
  dsimp only
  exact ite_of (.of_mem_eq rfl) (hclear.trans (.of_start (.panelNext _) rfl))

/-- A step of the power-on sequence whitens the panel at most (R369). -/
theorem State.WritesIn.onStep (n : Nat) : s.WritesIn (Set.Ici panelBase) (s.onStep n) := by
  have hwhite : s.WritesIn (Set.Ici panelBase) (s.panel 0x05 []).panelWhite :=
    ((s.panel_keeps 0x05 []).writesIn rfl).trans (.panelWhite _)
  unfold State.onStep
  dsimp only
  refine ite_of (.of_mem_eq rfl) (ite_of (.of_mem_eq rfl) (ite_of ?_ (ite_of (.of_mem_eq rfl) ?_)))
  · exact hwhite.trans (.of_start ((State.markLines_keeps _ _).writesIn rfl) rfl)
  · exact .of_start ((State.seqDone_keeps (s.set F.LDP_STATUS_RAIL 2)).writesIn rfl) rfl

/-- A step of the power-off sequence whitens the panel at most (R369). -/
theorem State.WritesIn.offStep (n : Nat) : s.WritesIn (Set.Ici panelBase) (s.offStep n) := by
  have hwhite : s.WritesIn (Set.Ici panelBase) (s.dropPass.panel 0x05 []).panelWhite :=
    (s.dropPass_keeps.writesIn rfl).trans (((State.panel_keeps _ 0x05 []).writesIn rfl).trans (.panelWhite _))
  unfold State.offStep
  dsimp only
  refine ite_of ?_ (ite_of (.of_mem_eq rfl) ?_)
  · exact hwhite.trans (((State.panel_keeps _ 0x02 []).writesIn rfl).trans
      (((State.panel_keeps _ 0x02 []).writesIn rfl).of_end rfl))
  · exact .of_start ((State.seqDone_keeps (s.set F.LDP_STATUS_RAIL 0)).writesIn rfl) rfl

end

/-! ### The commands -/

/-- An outcome whose next state, if it is one, differs from the state only in bytes of the set. -/
def WritesO (A : Set Nat) (s : State) (o : Host.Outcome State Fault Refusal) : Prop :=
  ∀ t, o = .next t → s.WritesIn A t

theorem WritesO.next {A : Set Nat} {s t : State} (h : s.WritesIn A t) : WritesO A s (.next t) :=
  fun _ e => Host.Outcome.next.inj e ▸ h

section
variable (s : State) (d : Desc)

theorem execStoreFrame_writes :
    WritesO (Set.Ico (frameSlot (d.n 24 2)) (frameSlot (d.n 24 2) + (s.staged d).length)) s (execStoreFrame d s) :=
  .next (.command (.ok (.store subset_rfl)))

theorem execWriteOpenLines_writes :
    WritesO (Set.Ico (frameLine (d.n 24 2)) (frameLine (d.n 24 2 + d.n 26 2) + s.lineBytes)) s
      (execWriteOpenLines d s) :=
  .next (.command (.ok (.putOpen_cutLines (List.Subset.refl _))))

theorem execShowStoredFrame_writes :
    WritesO (Set.Ico (frameLine 0) (frameLine (s.get F.LDP_GEOM_HEIGHT) + s.lineBytes)) s
      (execShowStoredFrame d s) := by
  have hput := State.WritesIn.putOpen_cutLines (s := s) (n := s.lineBytes) (first := 0)
    (count := s.get F.LDP_GEOM_HEIGHT)
    (bytes := memRead s.mem (frameSlot (d.n 24 2)) (s.lineBytes * s.get F.LDP_GEOM_HEIGHT))
    (List.filter_subset_self (p := fun x => !(s.legalLine x.1)) _)
  rw [Nat.zero_add] at hput
  exact .next (.command hput.ok)

theorem execWriteKey_writes :
    WritesO (Set.Ico (d.n 8 8) (d.n 8 8 + materialLen (d.n 26 1))) s (execWriteKey d s) := by
  have hstore : ∀ t : State, t.mem = s.mem → s.WritesIn (Set.Ico (d.n 8 8) (d.n 8 8 + materialLen (d.n 26 1)))
      (t.store (d.n 8 8) (zeros (materialLen (d.n 26 1)))) := fun t ht =>
    .of_start (.store (by rw [length_zeros])) ht
  refine .next (.command (ite_of (.of_mem_eq rfl) (ite_of (.of_mem_eq rfl) (ite_of (.of_mem_eq rfl) ?_))))
  exact (hstore _ ((State.setSlots_keeps s _).mem rfl)).ok

theorem execKeyStatement_writes : WritesO (Set.Ico (d.n 8 8) (d.n 8 8 + 236)) s (execKeyStatement d s) := by
  refine .next (.command ?_)
  split
  next => exact .of_mem_eq rfl
  next k _ =>
    refine ite_of (.of_mem_eq rfl) ?_
    extract_lets pub body
    have hbody : body.length = 140 := by
      simp only [body, List.length_append, length_natLE, length_padTo, length_keyId, length_zeros,
        List.length_singleton]
    split
    next sig u hsign =>
      have hstore : u.WritesIn (Set.Ico (d.n 8 8) (d.n 8 8 + 236)) (u.store (d.n 8 8) (body ++ padTo 96 sig)) :=
        .store (by rw [List.length_append, hbody, length_padTo])
      exact (hstore.of_start (((s.signWith_keeps k body).of_eq hsign).mem rfl)).ok

theorem execAttest_writes (hpcie : s.pcie = true) :
    WritesO (Set.Ico (d.n 8 8) (d.n 8 8 + 96)) s (execAttest d s) := by
  refine .next (.command ?_)
  split
  next => exact .of_mem_eq rfl
  next k _ =>
    refine ite_of (.of_mem_eq rfl) (.ok (t := State.countUse _ k.no)
      (.trans (.store (Eq.subset ?_)) ((State.countUse_keeps _ k.no).writesIn_pcie rfl hpcie)))
    simp only [List.length_append, length_natLE, length_hmac256, State.length_readingKid, length_zeros]

theorem execReceiveContainerPart_writes :
    WritesO (Set.Ico (incomingBase + d.n 24 4) (incomingBase + d.n 24 4 + d.n 16 4)) s
      (execReceiveContainerPart d s) := by
  refine .next (.command (ite_of (.of_mem_eq rfl) (ite_of (.of_mem_eq rfl) ?_)))
  dsimp only
  refine .ok ?_
  refine .of_end (t := State.store _ (incomingBase + d.n 24 4) (s.staged d)) ?_ (State.setReg_mem ..)
  refine .of_start (.store (Eq.subset ?_)) (State.modUpd_mem ..)
  rw [State.length_staged]

end

theorem execStoreEntryWrite_writes {s : State} {p : StorePkt} {rest : List StorePkt} (h : s.bil.store = p :: rest) :
    WritesO (Set.Ico (boathouseBase + ringAt p.kind p.point + s.storePos p.kind p.point p.bytes.length)
      (boathouseBase + ringAt p.kind p.point + s.storePos p.kind p.point p.bytes.length + p.bytes.length))
      s (execStoreEntryWrite s) := by
  unfold execStoreEntryWrite
  rw [h]
  dsimp only
  refine ite_of (Q := WritesO _ s) (.next (.of_mem_eq rfl)) (.next ?_)
  exact State.WritesIn.of_start (.store subset_rfl) rfl

theorem execDataPortAccess_writes (s : State) (off : Word) (op : DpOp) (hpcie : s.pcie = true) :
    WritesO (Set.Ico stagingBase (stagingBase + 0x80000)) s (execDataPortAccess off op s) := by
  refine .next (ite_of (.of_mem_eq rfl) ?_)
  cases op with
  | read n =>
    have hread : s.WritesIn (Set.Ico stagingBase (stagingBase + 0x80000)) (s.dpRead off.toNat n).2 :=
      (s.dpRead_keeps off.toNat n).snd.writesIn_pcie rfl hpcie
    exact hread.of_end rfl
  | write l => exact .dpWrite off.toNat l hpcie

/-! ### The commands of the display interface -/

section
variable (s : State)

theorem execCommonToggle_writes : WritesO (Set.Ici panelBase) s (execCommonToggle s) :=
  .next (ite_of (.of_start (.panelNext _) rfl) (.of_mem_eq rfl))

theorem execLbusyRelease_writes : WritesO (Set.Ici panelBase) s (execLbusyRelease s) :=
  .next (.of_start (.panelNext _) rfl)

theorem execDisplayPassStart_writes : WritesO (Set.Ici panelBase) s (execDisplayPassStart s) := .next (.startPass s)

theorem execDisplayPassEnd_writes : WritesO (Set.Ici panelBase) s (execDisplayPassEnd s) := by
  refine .next ?_
  split
  next => exact .of_mem_eq rfl
  next p _ => exact ite_of (.of_mem_eq rfl) (.of_start (.startPass _) rfl)

theorem execLineTransferComplete_writes : WritesO (Set.Ici panelBase) s (execLineTransferComplete s) := by
  refine .next ?_
  split
  next => exact .of_mem_eq rfl
  next p _ =>
    dsimp only
    refine ite_of (.of_mem_eq rfl) (.of_start (.panelNext _) ?_)
    split <;> rfl

theorem execDisplaySequenceStep_writes : WritesO (Set.Ici panelBase) s (execDisplaySequenceStep s) := by
  refine .next ?_
  split
  next n _ _ => exact .onStep s n
  next n _ _ => exact .offStep s n
  next => exact .of_mem_eq rfl

theorem displayInterface_writes {c : Instr} (hc : c ∈ [Instr.commonToggle, .displayPassStart, .displayPassEnd,
    .displaySequenceStep, .lbusyRelease, .lineTransferComplete]) : WritesO (Set.Ici panelBase) s (exec c s) := by
  simp only [List.mem_cons, List.not_mem_nil, or_false] at hc
  obtain rfl | rfl | rfl | rfl | rfl | rfl := hc
  · exact execCommonToggle_writes s
  · exact execDisplayPassStart_writes s
  · exact execDisplayPassEnd_writes s
  · exact execDisplaySequenceStep_writes s
  · exact execLbusyRelease_writes s
  · exact execLineTransferComplete_writes s

end

/-! ### The statement -/

/-- Settles O8: each command writes within one interval of addresses, the display interface at and above the panel's
memory; what it does besides leaves memory alone. -/
theorem storedBytes : Obligations.StoredBytes := by
  unfold Obligations.StoredBytes
  refine ⟨?storeFrame, ?openLines, ?showFrame, ?writeKey, ?keyStatement, ?attest, ?container, ?storeEntry, ?dataPort,
    ?display⟩
  case storeFrame => exact fun s t d hwf h => (execStoreFrame_writes s d t h).outside hwf
  case openLines => exact fun s t d hwf h => (execWriteOpenLines_writes s d t h).outside hwf
  case showFrame => exact fun s t d hwf h => (execShowStoredFrame_writes s d t h).outside hwf
  case writeKey => exact fun s t d hwf h => (execWriteKey_writes s d t h).outside hwf
  case keyStatement => exact fun s t d hwf h => (execKeyStatement_writes s d t h).outside hwf
  case attest => exact fun s t d hwf hpcie h => (execAttest_writes s d hpcie t h).outside hwf
  case container => exact fun s t d hwf h => (execReceiveContainerPart_writes s d t h).outside hwf
  case storeEntry => exact fun s t p rest hwf hstore h => (execStoreEntryWrite_writes hstore t h).outside hwf
  case dataPort => exact fun s t off op hwf hpcie h => (execDataPortAccess_writes s off op hpcie t h).outside hwf
  case display => exact fun s t c hc hwf h => (displayInterface_writes s hc t h).below hwf

end Sys2Proof.Machine
end

section
/-! SUPPORT. Billing commands and readings (R150, R151, R163): a reading asked for by the host, whose reason 5 needs a
second privilege and the open seal. -/

namespace Sys2Proof.Machine

/-- The row of command 0x0202 in the catalogue (R266). -/
abbrev takeReadingSpec : CmdSpec := { opcode := 0x0202, priv := some 0, isl := .vl, point := true, params := [(24, 1)] }

/-- The range of its reason. -/
abbrev takeReadingRanges (d : Desc) : List (Nat × Bool) := [(24, d.n 24 1 != 4 && d.n 24 1 != 5)]

/-- A reading with reason 4 that passes its checks waits for the next resolution (R163). -/
theorem execTakeReading_host {s : State} {d : Desc} (h : s.admits d takeReadingSpec (takeReadingRanges d))
    (hreason : d.n 24 1 = 4) : execTakeReading d s = .next (s.wantReading 4 d.pt (s.resolved + 1) (some d)) := by
  have h5 : d.n 24 1 ≠ 5 := by omega
  have hpass : s.cmdFail d takeReadingSpec (if d.n 24 1 = 5 then [0, 2] else [0]) (takeReadingRanges d) = none :=
    (if_neg h5).symm ▸ h
  unfold execTakeReading
  dsimp only
  rw [hpass]
  exact congrArg Host.Outcome.next ((if_neg fun hseal => h5 hseal.1).trans (by rw [hreason]; rfl))

/-- A reading with reason 5 that passes its checks, with both its privileges, turns on the seal (R163). -/
theorem execTakeReading_sealed {s : State} {d : Desc}
    (h : s.cmdFail d takeReadingSpec [0, 2] (takeReadingRanges d) = none) (hreason : d.n 24 1 = 5) :
    execTakeReading d s = .next (if s.sealOpen = false then s.complete d 0x0004 0 []
      else s.wantReading 5 d.pt (s.resolved + 1) (some d)) := by
  have hpass : s.cmdFail d takeReadingSpec (if d.n 24 1 = 5 then [0, 2] else [0]) (takeReadingRanges d) = none :=
    (if_pos hreason).symm ▸ h
  unfold execTakeReading
  dsimp only
  rw [hpass]
  simp only [hreason, true_and]
  rfl

/-- Settles O32: a command that passes its checks takes its own effect; a reading's reason decides between the two forms
of its checks; the store's oldest entry is written while AP runs. -/
theorem billingCommands : Obligations.BillingCommands := by
  unfold Obligations.BillingCommands
  refine ⟨?close, ?host, ?sealedClosed, ?sealedOpen, ?store, ?storeEmpty, ?locate⟩
  case close => exact fun s d hadmits => congrArg Host.Outcome.next (State.command_ok hadmits)
  case host => exact fun s d hadmits hreason => execTakeReading_host hadmits hreason
  case sealedClosed =>
    exact fun s d hpass hreason hseal =>
      (execTakeReading_sealed hpass hreason).trans (congrArg Host.Outcome.next (if_pos hseal))
  case sealedOpen =>
    exact fun s d hpass hreason hseal =>
      (execTakeReading_sealed hpass hreason).trans (congrArg Host.Outcome.next (if_neg (ne_false_of_eq_true hseal)))
  case store =>
    intro s p rest hstore hrun
    show execStoreEntryWrite s = _
    unfold execStoreEntryWrite
    rw [hstore]
    exact if_neg (ne_false_of_eq_true hrun)
  case storeEmpty =>
    intro s hstore
    show execStoreEntryWrite s = _
    unfold execStoreEntryWrite
    rw [hstore]
  case locate => exact fun s d hadmits => congrArg Host.Outcome.next (State.command_ok hadmits)

end Sys2Proof.Machine
end

section
/-! SUPPORT. Signatures of readings, waveform captures and the I2C port (R163, R264, R416, R417). -/

namespace Sys2Proof.Machine

/-! ### A reading's signature (R163) -/

/-- A signed reading on its way to its store, with EV051. -/
def State.readingStored (s : State) (r : ReadReq) (body : List Byte) (rest : List (ReadReq × List Byte)) (k : KeySlot) :
    State :=
  (State.toStore { (s.signWith k body).2 with bil := { s.bil with signing := rest } } 0 r.point.val
    (body ++ (s.signWith k body).1)).raise { src := 51, point := r.point.val }

/-- The answer to the command that asked for a reading: its sequence number and its place in the store. -/
def State.readingPlace (s : State) (r : ReadReq) (body : List Byte) (rest : List (ReadReq × List Byte)) (k : KeySlot) :
    List Byte :=
  natLE 8 (fld body 16 8) ++ natLE 8 (ringAt 0 r.point.val +
    State.nextPos { s with bil := { s.bil with signing := rest } } 0 r.point.val (body ++ (s.signWith k body).1).length)

section
variable {s : State} {r : ReadReq} {body : List Byte} {rest : List (ReadReq × List Byte)} {k : KeySlot}

/-- The signature of a reading that belongs to no session (R163, R178). -/
theorem execSignatureComplete_signed (hks : s.running .ks = true) (hvl : s.running .vl = true)
    (hsigning : s.bil.signing = (r, body) :: rest) (hkey : s.keySlot 1 = some k) (hreason : r.reason = 0) :
    execSignatureComplete s = .next (match r.cmd with
      | some d => (s.readingStored r body rest k).ok d (s.readingPlace r body rest k)
      | none => s.readingStored r body rest k) := by
  have hnone : ∀ (t : State) (seq : Nat), t.readingSigned r seq = t := fun t seq =>
    (if_neg (by rw [hreason]; decide)).trans (if_neg (by rw [hreason]; decide))
  refine congrArg Host.Outcome.next ((if_pos ⟨hks, hvl⟩).trans ?_)
  unfold State.signed
  rw [hsigning, hkey]
  dsimp only
  rw [hnone]
  rfl

theorem State.readingStored_shows :
    (s.readingStored r body rest k).host.results = s.host.results ∧
      (s.readingStored r body rest k).bil.signing = rest := by
  let u : State := { (s.signWith k body).2 with bil := { s.bil with signing := rest } }
  let bytes := body ++ (s.signWith k body).1
  let stored : State := { u with bil := { u.bil with store := u.bil.store ++ [⟨0, r.point.val, bytes⟩] } }
  have hoffer := stored.offerReport_keeps 0 (Fin.ofNat 8 r.point.val) bytes
  constructor
  · exact (State.results_raise _ _).trans (congrArg HostS.results (hoffer.host rfl))
  · exact (congrArg BilS.signing ((State.raise_keeps _ _).bil rfl)).trans (congrArg BilS.signing (hoffer.bil rfl))

end

/-! ### The I2C port (R416, R417) -/

/-- The row of command 0x0D01 in the catalogue (R266). -/
abbrev i2cSpec (d : Desc) : CmdSpec :=
  { opcode := 0x0D01, priv := some 0, isl := .mg, params := [(24, 1), (25, 1), (26, 1), (28, min (d.n 25 1) 28)] }

/-- The ranges of its parameters. -/
abbrev i2cRanges (d : Desc) : List (Nat × Bool) :=
  [(24, decide (127 < d.n 24 1)), (25, decide (28 < d.n 25 1)), (26, decide (16 < d.n 26 1))]

section
variable {s : State} {d : Desc} (h : s.admits d (i2cSpec d) (i2cRanges d))
include h

theorem execI2cTransfer_off (bus : I2cBus) (hoff : s.flag F.MG_I2C_CFG_EN = false) :
    execI2cTransfer d bus s = .next (s.complete d 0x0007 0 []) :=
  congrArg Host.Outcome.next ((State.command_ok h).trans (if_pos hoff))

theorem execI2cTransfer_acknowledged (read : List Byte) (hon : s.flag F.MG_I2C_CFG_EN = true) :
    execI2cTransfer d (.ok read) s = .next ((((s.emit (.i2c (d.n 24 1) (slice d.bytes 28 (d.n 25 1)) (d.n 26 1))).set
      F.MG_I2C_STAT_STUCK 0).set F.MG_I2C_STAT_SDA 1).ok d (padTo (d.n 26 1) read)) :=
  congrArg Host.Outcome.next ((State.command_ok h).trans (if_neg (ne_false_of_eq_true hon)))

theorem execI2cTransfer_addrNack (hon : s.flag F.MG_I2C_CFG_EN = true) :
    execI2cTransfer d .addrNack s = .next ((s.emit (.i2c (d.n 24 1) (slice d.bytes 28 (d.n 25 1)) (d.n 26 1))).complete d
      0x000D 1 []) :=
  congrArg Host.Outcome.next ((State.command_ok h).trans (if_neg (ne_false_of_eq_true hon)))

end

theorem padTo_length_eq {n : Nat} {l : List Byte} (h : l.length = n) : padTo n l = l := by
  rw [padTo, h, Nat.sub_self, List.replicate_zero, List.append_nil, List.take_of_length_le h.le]

/-! ### The statement -/

/-- Settles O24: the signature of a reading without a session ends with its store and its command's answer; a first
capture starts at the next quantum; a transfer by what the bus answers. -/
theorem auxiliaryCommands : Obligations.AuxiliaryCommands := by
  unfold Obligations.AuxiliaryCommands
  refine ⟨?unasked, ?asked, ?capture, ?off, ?acknowledged, ?addrNack⟩
  case unasked =>
    intro s r body rest k hks hvl hsigning hkey hcmd hreason
    refine (execSignatureComplete_signed hks hvl hsigning hkey hreason).trans ?_
    rw [hcmd]
    rfl
  case asked =>
    intro s r body rest k d hks hvl hsigning hkey hcmd hreason
    obtain ⟨hresults, hrest⟩ := State.readingStored_shows (s := s) (r := r) (body := body) (rest := rest) (k := k)
    refine ⟨(s.readingStored r body rest k).ok d (s.readingPlace r body rest k), ?_, ?_, hrest⟩
    · refine (execSignatureComplete_signed hks hvl hsigning hkey hreason).trans ?_
      rw [hcmd]
    · exact congrArg (· ++ [⟨d, 0, 0, s.readingPlace r body rest k⟩]) hresults
  case capture =>
    intro s d hadmits hidle
    refine congrArg Host.Outcome.next ((State.command_ok hadmits).trans ?_)
    rw [hidle]
    rfl
  case off => exact fun s d bus hadmits hoff => execI2cTransfer_off hadmits bus hoff
  case acknowledged =>
    intro s d read hadmits hon hlen
    exact (execI2cTransfer_acknowledged hadmits read hon).trans (by rw [padTo_length_eq hlen])
  case addrNack => exact fun s d hadmits hon => execI2cTransfer_addrNack hadmits hon

end Sys2Proof.Machine
end

section
/-! SUPPORT. Time corrections, time sets and time quality (R159, R160): what the check of a tag leaves alone, what an
accepted step leaves behind, and the cases of both commands. -/

namespace Sys2Proof.Machine

/-! ### The check of a tag (R354) -/

theorem State.results_destroySlot (s : State) (no : Nat) : (s.destroySlot no).1.host.results = s.host.results := by
  unfold State.destroySlot
  extract_lets desc hit slots wiped cached
  exact (State.results_raise _ _).trans (congrArg HostS.results ((s.setSlots_keeps slots).host rfl))

theorem State.results_countUse (s : State) (no : Nat) : (s.countUse no).host.results = s.host.results := by
  have hset : ∀ l, (s.setSlots l).host.results = s.host.results := fun l =>
    congrArg HostS.results ((s.setSlots_keeps l).host rfl)
  unfold State.countUse
  split
  · rfl
  · split
    · rfl
    · split
      · rfl
      · dsimp only
        split
        · exact (State.results_destroySlot _ no).trans (hset _)
        · exact hset _

theorem State.results_checkTag {s u : State} {slot : Nat} {body tag : List Byte}
    (h : s.checkTag slot body tag = some u) : u.host.results = s.host.results := by
  unfold State.checkTag at h
  split at h
  next => cases h
  next k _ =>
    split at h
    next => cases h
    next =>
      obtain rfl := Option.some.inj h
      exact (State.results_countUse _ _).trans (congrArg HostS.results ((s.setSlots_keeps _).host rfl))

/-- A good tag leaves the time, the results and the legal log's refusal alone. -/
theorem State.checkTag_some {s u : State} {slot : Nat} {body tag : List Byte} (h : s.checkTag slot body tag = some u) :
    u.time = s.time ∧ u.host.results = s.host.results ∧ u.logRefusing = s.logRefusing := by
  have hkeeps := (s.checkTag_keeps slot body tag).of_eq h
  exact ⟨hkeeps.time rfl, State.results_checkTag h, hkeeps.logRefusing (by decide)⟩

/-! ### An accepted step (R160) -/

/-- The step waits for the boundary, and a slew in progress is dropped. -/
def State.stepWaiting (s : State) (size : Int) (timeSet : Bool) : State :=
  ({ s with time := { s.time with stepPend := some (size, timeSet), slewLeft := 0, slewTotal := 0 } } : State).set
    F.BIL_TIME_STATUS_SLEWING 0

/-- A branch pair opens for a step, except under the default rate. -/
def State.branchOpened (s : State) : State :=
  if s.quality = 2 ∨ s.setback = true then s else s.set F.BIL_TIME_STATUS_BRANCH_OPEN 1

/-- The step logged with the device times before and after it, with EV052. -/
def State.stepLogged (s : State) (d : Desc) (next size : Int) (slot : Nat) : State :=
  (s.log { type_ := 0x0010, src := d.logSrc, q := some (s.time.quantum + 1),
           payload := natLE 8 next.toNat ++ natLE 8 (next + size).toNat ++ natLE 2 slot }).raise { src := 52 }

theorem State.acceptStep_eq (s : State) (d : Desc) (size : Int) (slot : Nat) (timeSet : Bool) :
    s.acceptStep d size slot timeSet =
      ((s.stepWaiting size timeSet).branchOpened.stepLogged d ((s.time.qStart : Int) + 10000) size slot).ap
        State.nextBound := rfl

theorem State.branchOpened_keeps (s : State) : Keeps 0 0x4000000000000000000000000000000 s s.branchOpened :=
  ite_of (Q := Keeps 0 0x4000000000000000000000000000000 s) .rfl (.set (.of rfl in_BIL_TIME_STATUS) .rfl)

section
variable (s : State) (d : Desc) (size : Int) (slot : Nat) (timeSet : Bool)

theorem State.ap_nextBound_keeps : Keeps 0 0x3000000000000000000000000000000 s (s.ap State.nextBound) :=
  ite_of (Q := Keeps 0 0x3000000000000000000000000000000 s) s.nextBound_keeps .rfl

theorem State.acceptStep_keeps_waiting :
    Keeps 98576 0x800000000000000000000000000083000000000000000000018088800000
      (s.stepWaiting size timeSet).branchOpened (s.acceptStep d size slot timeSet) := by
  rw [State.acceptStep_eq]
  exact .app (State.ap_nextBound_keeps _) rfl rfl
    (.app (State.raise_keeps _ _) rfl rfl (.app (State.log_keeps _ _) rfl rfl .rfl))

theorem State.time_acceptStep : (s.acceptStep d size slot timeSet).time =
    { s.time with stepPend := some (size, timeSet), slewLeft := 0, slewTotal := 0 } :=
  ((s.acceptStep_keeps_waiting d size slot timeSet).time rfl).trans ((State.branchOpened_keeps _).time rfl)

theorem State.slewing_acceptStep : (s.acceptStep d size slot timeSet).get F.BIL_TIME_STATUS_SLEWING = 0 := by
  have hwaiting : (s.stepWaiting size timeSet).get F.BIL_TIME_STATUS_SLEWING = 0 :=
    State.get_set_of_lt _ (by decide) (by decide)
  have hopened : (s.stepWaiting size timeSet).branchOpened.get F.BIL_TIME_STATUS_SLEWING = 0 :=
    ite_of (Q := fun t : State => t.get F.BIL_TIME_STATUS_SLEWING = 0) hwaiting
      ((State.get_set_ne _ _ (by decide) (by decide)).trans hwaiting)
  exact ((s.acceptStep_keeps_waiting d size slot timeSet).get _ (by decide)).trans hopened

theorem State.results_acceptStep : (s.acceptStep d size slot timeSet).host.results = s.host.results := by
  rw [State.acceptStep_eq]
  exact (congrArg HostS.results ((State.ap_nextBound_keeps _).host rfl)).trans ((State.results_raise _ _).trans
    ((State.results_log _ _).trans (congrArg HostS.results ((State.branchOpened_keeps _).host rfl))))

end

/-! ### The commands (R160) -/

/-- The rows of commands 0x0501 and 0x0502 in the catalogue (R266), apart from their opcodes. -/
abbrev timeSpec (opcode : Nat) : CmdSpec :=
  { opcode := opcode, priv := some 1, isl := .vl, params := [(24, 8), (32, 2), (40, 16)] }

/-- The tag of a time command. -/
abbrev State.timeTag (s : State) (d : Desc) : Option State :=
  s.checkTag (d.n 32 2) (d.bytes.take 40) (slice d.bytes 40 16)

section
variable {s : State} {d : Desc}

theorem execTimeCorrection_waiting (h : s.admits d (timeSpec 0x0501)) (hpend : s.time.stepPend.isSome = true) :
    execTimeCorrection d s = .next (s.refuseTime d 0x0007 0) :=
  congrArg Host.Outcome.next ((State.command_ok h).trans (if_pos hpend))

/-- A small correction without a key slot slews at once. -/
theorem execTimeCorrection_slews (h : s.admits d (timeSpec 0x0501)) (hpend : s.time.stepPend = none)
    (hsmall : (sfld d.bytes 24 8).natAbs ≤ 2000000) (hslot : d.n 32 2 = 0xFFFF) (hlog : s.logRefusing = false) :
    execTimeCorrection d s = .next ((State.ap (((State.set
      { s with time := { s.time with slewLeft := sfld d.bytes 24 8, slewTotal := sfld d.bytes 24 8 } }
      F.BIL_TIME_STATUS_SLEWING (sfld d.bytes 24 8 != 0).toNat).log
      { type_ := 0x0011, src := d.logSrc,
        payload := natLE 8 (ofSigned 64 (sfld d.bytes 24 8)) ++ natLE 4 (sfld d.bytes 24 8).natAbs }).raise
      { src := 52 }) State.nextBound).ok d (natLE 1 0)) := by
  refine congrArg Host.Outcome.next ((State.command_ok h).trans ?_)
  simp only [hpend, hsmall, hslot, hlog, Option.isSome_none, Bool.false_eq_true, decide_true, and_self, if_true,
    if_false]
  rfl

/-- A larger correction is checked by its tag. -/
theorem execTimeCorrection_tagged (h : s.admits d (timeSpec 0x0501)) (hpend : s.time.stepPend = none)
    (hlarge : 2000000 < (sfld d.bytes 24 8).natAbs) :
    execTimeCorrection d s = .next (match s.timeTag d with
      | none => s.refuseTime d 0x0009 0
      | some u => if u.logRefusing then u.refuseTime d 0x0006 0
        else (u.acceptStep d (sfld d.bytes 24 8) (d.n 32 2) false).ok d (natLE 1 1)) := by
  refine congrArg Host.Outcome.next ((State.command_ok h).trans ?_)
  simp only [hpend, not_le.2 hlarge, Option.isSome_none, Bool.false_eq_true, decide_false, false_and, if_false] <;> rfl

theorem execTimeSet_tagged (h : s.admits d (timeSpec 0x0502)) (hpend : s.time.stepPend = none) :
    execTimeSet d s = .next (match s.timeTag d with
      | none => s.refuseTime d 0x0009 0
      | some u => if u.logRefusing then u.refuseTime d 0x0006 0
        else (u.acceptStep d ((d.n 24 8 : Int) - (u.devTime : Int)) (d.n 32 2) true).ok d []) :=
  congrArg Host.Outcome.next ((State.command_ok h).trans (if_neg (by rw [hpend]; decide)))

end

/-! ### Time quality (R159) -/

theorem State.setQuality_change {s : State} {v : Nat} (h : v ≠ s.quality) :
    s.setQuality v = ((s.set F.BIL_TIME_STATUS_QUALITY v).log
      { type_ := 0x0013, sub := v, payload := natLE 1 s.quality }).raise { src := 54 } := if_neg h

/-! ### The statement -/

/-- Settles O33: the commands by their checks in order; an accepted step by what it leaves, on a state in which a good
tag has left time, log and results alone. -/
theorem timeCommands : Obligations.TimeCommands := by
  unfold Obligations.TimeCommands
  refine ⟨?slews, ?steps, ?badTag, ?waiting, ?set, ?setBadTag, ?slewed, ?slewing, ?month, ?sameMonth, ?expires, ?expired,
    ?mismatch, ?together⟩
  case slews =>
    exact fun s d hadmits hpend hsmall hslot hlog => execTimeCorrection_slews hadmits hpend hsmall hslot hlog
  case steps =>
    intro s d hadmits hpend hlarge htag hlog
    obtain ⟨u, hu⟩ := Option.isSome_iff_exists.1 htag
    obtain ⟨-, hresults, hrefusing⟩ := State.checkTag_some hu
    let t := u.acceptStep d (sfld d.bytes 24 8) (d.n 32 2) false
    have htime := u.time_acceptStep d (sfld d.bytes 24 8) (d.n 32 2) false
    refine ⟨t.ok d (natLE 1 1), ?_, congrArg TimeS.stepPend htime, congrArg TimeS.slewLeft htime,
      u.slewing_acceptStep d _ _ _, ?_⟩
    · refine (execTimeCorrection_tagged hadmits hpend hlarge).trans ?_
      rw [State.timeTag, hu]
      exact congrArg Host.Outcome.next (if_neg (by rw [hrefusing, hlog]; decide))
    · exact congrArg (· ++ [_]) ((u.results_acceptStep d _ _ _).trans hresults)
  case badTag =>
    intro s d hadmits hpend hlarge htag
    refine (execTimeCorrection_tagged hadmits hpend hlarge).trans ?_
    rw [State.timeTag, htag]
    rfl
  case waiting => exact fun s d hadmits hpend => execTimeCorrection_waiting hadmits hpend
  case set =>
    intro s d hadmits hpend htag hlog
    obtain ⟨u, hu⟩ := Option.isSome_iff_exists.1 htag
    obtain ⟨hsame, hresults, hrefusing⟩ := State.checkTag_some hu
    have hdev : u.devTime = s.devTime := by rw [State.devTime, State.devTime, hsame]
    let t := u.acceptStep d ((d.n 24 8 : Int) - (u.devTime : Int)) (d.n 32 2) true
    have htime := u.time_acceptStep d ((d.n 24 8 : Int) - (u.devTime : Int)) (d.n 32 2) true
    refine ⟨t.ok d [], ?_, (congrArg TimeS.stepPend htime).trans (by rw [hdev]), congrArg TimeS.slewLeft htime, ?_⟩
    · refine (execTimeSet_tagged hadmits hpend).trans ?_
      rw [State.timeTag, hu]
      exact congrArg Host.Outcome.next (if_neg (by rw [hrefusing, hlog]; decide))
    · exact congrArg (· ++ [_]) ((u.results_acceptStep d _ _ _).trans hresults)
  case setBadTag =>
    intro s d hadmits hpend htag
    refine (execTimeSet_tagged hadmits hpend).trans ?_
    rw [State.timeTag, htag]
    rfl
  case slewed => exact fun s hdone => if_neg (not_not_intro hdone)
  case slewing => exact fun s hleft => if_pos hleft
  case month =>
    exact fun s hrun hmonth => if_neg (not_or.2 ⟨ne_false_of_eq_true hrun, hmonth⟩)
  case sameMonth => exact fun s hmonth => if_pos (.inr hmonth)
  case expires =>
    intro s hrun hquality
    refine (if_neg (not_or.2 ⟨ne_false_of_eq_true hrun, not_not_intro hquality⟩)).trans
      (congrArg Host.Outcome.next ?_)
    rw [State.setQuality_change (by rw [hquality]; decide), hquality]
  case expired => exact fun s hquality => if_pos (.inr hquality)
  case mismatch =>
    intro s hrun hapart hquality
    refine (if_neg (not_or.2 ⟨ne_false_of_eq_true hrun, hapart⟩)).trans (congrArg Host.Outcome.next ?_)
    exact State.setQuality_change hquality.symm
  case together => exact fun s htogether => if_pos (.inr htogether)

end Sys2Proof.Machine
end

section
/-! SUPPORT. A point's session after it is stopped, closed, failed, granted, identified or detected (R175, R198): the
fields that a change of state leaves alone, and what each of these shows. -/

namespace Sys2Proof.Machine

/-! ### Registers by their rows -/

theorem rowOf_TPT_SESSION (p : Fin 8) : rowOf (R.TPT_SESSION p.val) = 138 := by revert p; decide

theorem rowOf_PTN_COUP (p : Fin 8) : rowOf (R.PTN_COUP p.val) = 149 := by revert p; decide

theorem testBit_rowOf {B off r : Nat} (h : rowOf off = r) (hb : B.testBit r = false) : B.testBit (rowOf off) = false :=
  (congrArg B.testBit h).trans hb

/-- Registers of different rows are different. -/
theorem ne_of_rowOf {a b i k : Nat} (ha : rowOf a = i) (hb : rowOf b = k) (h : i ≠ k) : a ≠ b :=
  fun e => h (ha.symm.trans ((congrArg rowOf e).trans hb))

theorem Keeps.running {P B : Nat} {s t : State} (h : Keeps P B s t) (hb : B.testBit (rowOf R.MG_ISLAND_STATE) = false)
    (i : Isl) : t.running i = s.running i :=
  congrArg (fun n => bitsOf n (2 * i.code + 1) (2 * i.code) == 0) (h.get F.MG_ISLAND_STATE_STATE hb)

theorem Keeps.type_ {P B : Nat} {s t : State} (h : Keeps P B s t) (hb : B.testBit 137 = false) (p : Fin 8) :
    t.type_ p = s.type_ p := h.get _ (testBit_rowOf (rowOf_TPT_STATE p) hb)

/-! ### Events of AP through PT -/

theorem State.ptap_run {s : State} (hpt : s.running .pt = true) (hap : s.running .ap = true) (body : State → State) :
    s.ptap body = body s := if_pos ⟨hpt, hap⟩

/-- What changes nothing where PT and AP run changes nothing where they do not. -/
theorem State.ptap_same {s : State} {body : State → State} (h : body s = s) : s.ptap body = s := by
  unfold State.ptap
  split
  · exact h
  · rfl

/-! ### What a change of state leaves alone -/

theorem State.latched_claimIm (s : State) (p : Fin 8) : (s.claimIm p).tpt.latched = s.tpt.latched := by
  unfold State.claimIm
  extract_lets c
  split <;> rfl

theorem State.latched_releaseIm (s : State) (p : Fin 8) : (s.releaseIm p).tpt.latched = s.tpt.latched := by
  unfold State.releaseIm
  extract_lets c freed
  split
  · split
    · exact freed.latched_claimIm _
    · rfl
  · rfl

/-- A change of state up to the pilot: its event, and an insulation channel given up. -/
def State.stateRaised (s : State) (p : Fin 8) (old new reason : Nat) : State :=
  let s := s.raise { src := 61, point := p.val, detail := new + old <<< 8 + reason <<< 16 }
  if holdsIm old && !(holdsIm new) then s.releaseIm p else s

theorem State.stateTold_eq (s : State) (p : Fin 8) (old new reason : Nat) :
    s.stateTold p old new reason = ((s.stateRaised p old new reason).showPilot p).mirrored := rfl

section
variable (s : State) (p : Fin 8) (old new reason : Nat)

theorem State.stateRaised_keeps : Keeps 98592 0x800000000000000000000000010000000000000000000000018088800000 s
    (s.stateRaised p old new reason) := by
  have hraised := Keeps.app (P := 98592) (B := 0x800000000000000000000000010000000000000000000000018088800000)
    (s.raise_keeps { src := 61, point := p.val, detail := new + old <<< 8 + reason <<< 16 }) rfl rfl Keeps.rfl
  exact ite_of (Keeps.app (State.releaseIm_keeps _ _) rfl rfl hraised) hraised

theorem State.sx_stateRaised : (s.stateRaised p old new reason).sx p = s.sx p := by
  unfold State.stateRaised
  extract_lets raised
  have hraised : raised.sx p = s.sx p := (s.raise_keeps _).sx rfl p
  exact ite_of (Q := fun x => State.sx x p = s.sx p) ((raised.sx_releaseIm p).trans hraised) hraised

theorem State.results_stateTold : (s.stateTold p old new reason).host.results = s.host.results := by
  rw [State.stateTold_eq, (State.mirrored_keeps _).host rfl, (State.showPilot_keeps _ p).host rfl]
  unfold State.stateRaised
  extract_lets raised
  have hraised : raised.host.results = s.host.results := State.results_raise _ _
  exact ite_of (Q := fun x : State => x.host.results = s.host.results)
    ((congrArg HostS.results ((raised.releaseIm_keeps p).host rfl)).trans hraised) hraised

theorem State.latched_stateTold : (s.stateTold p old new reason).tpt.latched = s.tpt.latched := by
  rw [State.stateTold_eq, (State.mirrored_keeps _).tpt rfl, (State.showPilot_keeps _ p).tpt rfl]
  unfold State.stateRaised
  extract_lets raised
  have hraised : raised.tpt.latched = s.tpt.latched := congrArg TptS.latched ((s.raise_keeps _).tpt rfl)
  exact ite_of (Q := fun x : State => x.tpt.latched = s.tpt.latched) ((raised.latched_releaseIm p).trans hraised) hraised

theorem State.results_stateShown : (s.stateShown p new reason).host.results = s.host.results := by
  have hshown : ((s.drivesEnded p).showState p new reason).host = (s.drivesEnded p).host :=
    ite_of (Q := fun x : State => x.host = (s.drivesEnded p).host) rfl rfl
  exact congrArg HostS.results (hshown.trans ((s.drivesEnded_keeps p).host rfl))

theorem State.latched_stateShown : (s.stateShown p new reason).tpt.latched = s.tpt.latched :=
  calc (s.stateShown p new reason).tpt.latched = ((s.drivesEnded p).showState p new reason).tpt.latched := rfl
    _ = s.tpt.latched := congrArg TptS.latched
      (((s.drivesEnded p).showState_other_parts p new reason).1.trans ((s.drivesEnded_keeps p).tpt rfl))

/-- A change of state answers no command. -/
theorem State.results_enter : (s.enter p new reason).host.results = s.host.results := by
  rw [State.enter_eq, State.results_stateTold, State.results_stateShown]

theorem State.latched_enter : (s.enter p new reason).tpt.latched = s.tpt.latched := by
  rw [State.enter_eq, State.latched_stateTold, State.latched_stateShown]

/-- A change of state leaves alone a field of a row that it does not write. -/
theorem State.get_enter_row {f : Fld} {r : Nat} (hr : rowOf f.off = r)
    (hb : (0x800000000000000000010588010000000000000000000000018088800000).testBit r = false) (hne : r ≠ 137) :
    (s.enter p new reason).get f = s.get f :=
  s.get_enter p new reason (testBit_rowOf hr hb) (.inl (ne_of_rowOf hr (rowOf_TPT_STATE p) hne))

/-- A change of state leaves alone a field of TPT_STATE that is neither state nor reason. -/
theorem State.get_enter_tptState {f : Fld} (hoff : f.off = R.TPT_STATE p.val) (hlo : 3 < f.lo) (hhi : f.hi < 24) :
    (s.enter p new reason).get f = s.get f :=
  s.get_enter p new reason (testBit_rowOf (hoff ▸ rowOf_TPT_STATE p) rfl) (.inr ⟨hlo, hhi⟩)

end

/-! ### Stopped and closed sessions (R175) -/

section
variable (s : State) (p : Fin 8) (reason : Nat)

theorem State.sx_sessOpen : (s.sessOpen p).sx p = { s.sx p with waitSafe := true, stackCmd := 4 } := by
  unfold State.sessOpen
  extract_lets opened
  have hopened : Keeps 64 0x10580000000000000000000000000000000000000 s opened := ite_of Keeps.rfl (s.openPoint_keeps p)
  rw [State.sx_modSx_self, hopened.sx rfl]

/-- A stopped session waits in Ending for its switches and its end reading. -/
theorem State.sx_sessStop : (s.sessStop p reason false).sx p =
    Sess.entered { s.sx p with waitSafe := true, stackCmd := 4, waitEnd := true } (s.sessOpen p).time.now 6 := by
  rw [State.sessStop, State.sx_enter, State.sx_modSx_self]
  exact congrArg (fun x => Sess.entered { x with waitEnd := true } (s.sessOpen p).time.now 6) (s.sx_sessOpen p)

theorem State.sess_sessStop (prov : Bool) : (s.sessStop p reason prov).sess p = 6 :=
  State.sess_enter _ p reason (by decide)

variable {reason}

theorem State.reason_sessStop (prov : Bool) (hne : reason ≠ 0) (hlt : reason < 256) :
    (s.sessStop p reason prov).get (F.TPT_STATE_LAST_REASON p.val) = reason :=
  State.reason_enter _ p 6 hne hlt

variable {s p}

theorem State.sessStopBy_transferring (h : s.sess p = 5) : s.sessStopBy p reason = s.sessStop p reason false := by
  simp only [State.sessStopBy, h]

/-- Before Transferring a stop closes the session. -/
theorem State.sessStopBy_early (h2 : 2 ≤ s.sess p) (h4 : s.sess p ≤ 4) :
    s.sessStopBy p reason = s.sessClose p reason := by
  obtain h | h | h : s.sess p = 2 ∨ s.sess p = 3 ∨ s.sess p = 4 := by omega
  all_goals simp only [State.sessStopBy, h]

/-- A partner that asks to stop during the transfer ends it. -/
theorem State.sessPartnerStop_transferring (h : s.sess p = 5) :
    s.sessPartnerStop p = (s.modSx p (fun x => { x with ready := false })).sessStop p 1 false :=
  (if_pos (by rw [h]; decide)).trans (State.sessStopBy_transferring h)

/-- A closed session stays closed while its partner is present. -/
theorem State.sessClose_present (hpartner : (s.sx p).partner = true) (hne : reason ≠ 0) (hlt : reason < 256) :
    (s.sessClose p reason).sess p = 7 ∧ (s.sessClose p reason).get (F.TPT_STATE_LAST_REASON p.val) = reason := by
  have hpresent : (((s.enter p 7 reason).writeRecord p).sx p).partner = true := by
    rw [State.sx_writeRecord, State.sx_enter]; exact hpartner
  have hrecord := (s.enter p 7 reason).writeRecord_keeps p
  rw [State.sessClose, State.leaveIfAbsent_present hpresent, hrecord.sess rfl,
    hrecord.get _ (testBit_rowOf (rowOf_TPT_STATE p) rfl)]
  exact ⟨s.sess_enter p reason (by decide), s.reason_enter p 7 hne hlt⟩

/-! ### Failed sessions (R181) -/

/-- An event that leaves the session alone faults it from Connected to Transferring. -/
theorem Keeps.sessFaultLive {P B : Nat} {t : State} (h : Keeps P B s t) (hp : P.testBit 5 = false)
    (hb : B.testBit 137 = false) (h1 : 1 ≤ s.sess p) (h5 : s.sess p ≤ 5) :
    t.sx p = s.sx p ∧ t.sessFaultLive p reason = t.sessFault p reason false := by
  refine ⟨h.sx hp p, if_pos ?_⟩
  rw [h.sess hb]
  exact ⟨h1, h5⟩

theorem Keeps.faulted_sessFaultLive {P B : Nat} {t : State} (h : Keeps P B s t) (hp : P.testBit 5 = false)
    (hb : B.testBit 137 = false) (h1 : 1 ≤ s.sess p) (h5 : s.sess p ≤ 5) (hpartner : (s.sx p).partner = true)
    (hne : reason ≠ 0) (hlt : reason < 256) : (t.sessFaultLive p reason).Faulted p reason := by
  obtain ⟨hsx, hfault⟩ := h.sessFaultLive (reason := reason) hp hb h1 h5
  rw [hfault]
  exact (State.sessFault_present (by rw [hsx]; exact hpartner) hne hlt false).2

theorem State.faulted_heartbeatLost (h1 : 1 ≤ s.sess p) (h5 : s.sess p ≤ 5) (hpartner : (s.sx p).partner = true) :
    (s.heartbeatLost p).Faulted p 0x23 := by
  have hlost : Keeps 98560 0x800000000000000000000040000000000000000000000000018088800000 s
      ((s.count (F.PTN_ERR_HB_LOST p.val) 1).raise { src := 67, point := p.val }) :=
    Keeps.app (State.raise_keeps _ _) rfl rfl (Keeps.count (.of rfl (in_PTN_ERR _ p.isLt)) .rfl)
  exact hlost.faulted_sessFaultLive rfl rfl h1 h5 hpartner (by decide) (by decide)

theorem State.faulted_stackFault (h1 : 1 ≤ s.sess p) (h5 : s.sess p ≤ 5) (hpartner : (s.sx p).partner = true) :
    (s.stackFault p).Faulted p 0x24 :=
  (s.raise_keeps _).faulted_sessFaultLive rfl rfl h1 h5 hpartner (by decide) (by decide)

theorem State.faulted_couplingBad (h1 : 1 ≤ s.sess p) (h5 : s.sess p ≤ 5) (hpartner : (s.sx p).partner = true) :
    (s.couplingBad p).Faulted p 0x28 :=
  (s.raise_keeps _).faulted_sessFaultLive rfl rfl h1 h5 hpartner (by decide) (by decide)

theorem State.weld_latchWeld (h : reason = 0x12 ∨ reason = 0x28) :
    (s.latchWeld p reason).get (F.TPT_STATE_WELD p.val) = 1 := by
  unfold State.latchWeld
  rw [if_pos h]
  exact State.get_set_of_lt (f := F.TPT_STATE_WELD p.val) s (by decide : 10 < 32) (by decide : 1 < 2 ^ 1)

/-- A reason that latches shows in WELD (R181). -/
theorem State.weld_sessFault (hpartner : (s.sx p).partner = true) (hlatch : reason = 0x12 ∨ reason = 0x28) :
    (s.sessFault p reason false).get (F.TPT_STATE_WELD p.val) = 1 := by
  have hrange : reason ≠ 0 ∧ reason < 256 := by omega
  obtain ⟨hne, hlt⟩ := hrange
  rw [(State.sessFault_present hpartner hne hlt false).1,
    (State.faultRecorded_keeps _ _ _).get _ (testBit_rowOf (rowOf_TPT_STATE p) rfl),
    State.get_enter_tptState _ p 15 reason (f := F.TPT_STATE_WELD p.val) rfl (by decide : 3 < 10) (by decide : 10 < 24)]
  exact State.weld_latchWeld hlatch

end

/-! ### Granted sessions (R198) -/

/-- A session granted, up to its change of state: the source of authorisation, the prepaid limit, fresh checks. -/
def State.grantShown (s : State) (p : Fin 8) (src prepaid : Nat) : State :=
  ((s.set (F.TPT_STATE_AUTH_SRC p.val) src).modSx p (fun x =>
    { x with prepaid := BitVec.ofNat 64 prepaid, certWait := false, hostAsked := false })).modSx p (fun x =>
    { x with weldQ := 0, rcmDone := false, rcmSeen := false, stackCmd := 1 })

theorem State.sessGrant_eq (s : State) (p : Fin 8) (src prepaid : Nat) :
    s.sessGrant p src prepaid = (((s.grantShown p src prepaid).enter p 3 0).claimIm p).beginChecks p := rfl

theorem State.sx_claimIm (s : State) (p : Fin 8) :
    ∃ good bad, (s.claimIm p).sx p = { s.sx p with isoGood := good, isoBad := bad } := by
  unfold State.claimIm
  extract_lets c
  split
  · exact ⟨0, 0, State.sx_modSx_self _ _ _⟩
  · exact ⟨(s.sx p).isoGood, (s.sx p).isoBad, rfl⟩

theorem State.sx_beginChecks (s : State) (p : Fin 8) :
    ∃ testing leak, (s.beginChecks p).sx p = { s.sx p with rcmTesting := testing, leak := leak } := by
  have hsame : ∃ testing leak, s.sx p = { s.sx p with rcmTesting := testing, leak := leak } :=
    ⟨(s.sx p).rcmTesting, (s.sx p).leak, rfl⟩
  unfold State.beginChecks
  split
  · exact hsame
  · split
    · split
      · extract_lets n aux
        refine ⟨true, (s.sx p).leak, ?_⟩
        have hdriven : Keeps 64 0x10580000000000000000000000000000000000000 s
            (if aux = true then s.commandChan n true else s) := ite_of (s.commandChan_keeps n true) Keeps.rfl
        rw [State.sx_modSx_self, hdriven.sx rfl]
      · exact hsame
    · split
      · refine ⟨(s.sx p).rcmTesting, .filling, ?_⟩
        rw [State.sx_modSx_self, (s.closePoint_keeps p).sx rfl]
      · exact hsame

section
variable (s : State) (p : Fin 8) (prepaid : Nat)

/-- What a granted session shows: its state, its source, its limit, and no answer awaited. -/
theorem State.sessGrant_shows {src : Nat} (hsrc : src < 4) :
    (s.sessGrant p src prepaid).sess p = 3 ∧ (s.sessGrant p src prepaid).get (F.TPT_STATE_AUTH_SRC p.val) = src ∧
      ((s.sessGrant p src prepaid).sx p).prepaid = BitVec.ofNat 64 prepaid ∧
      ((s.sessGrant p src prepaid).sx p).certWait = false := by
  let entered := (s.grantShown p src prepaid).enter p 3 0
  have hkeeps : Keeps 96 0x10580010000000000000000000000000000000000 entered ((entered.claimIm p).beginChecks p) :=
    .app (State.beginChecks_keeps _ p) rfl rfl (.app (entered.claimIm_keeps p) rfl rfl .rfl)
  obtain ⟨good, bad, hclaim⟩ := entered.sx_claimIm p
  obtain ⟨testing, leak, hchecks⟩ := (entered.claimIm p).sx_beginChecks p
  have hgrant : ((s.grantShown p src prepaid).sx p).prepaid = BitVec.ofNat 64 prepaid ∧
      ((s.grantShown p src prepaid).sx p).certWait = false := by
    rw [State.grantShown, State.sx_modSx_self, State.sx_modSx_self]
    exact ⟨rfl, rfl⟩
  have hsource : entered.get (F.TPT_STATE_AUTH_SRC p.val) = src :=
    (State.get_enter_tptState _ p 3 0 rfl (by decide : 3 < 12) (by decide : 13 < 24)).trans
      (State.get_set_of_lt s (by decide : 13 < 32) hsrc)
  rw [State.sessGrant_eq, hchecks, hclaim, State.sx_enter, hkeeps.sess rfl,
    hkeeps.get _ (testBit_rowOf (rowOf_TPT_STATE p) rfl)]
  exact ⟨State.sess_enter _ p 0 (by decide), hsource, hgrant⟩

end

/-! ### Identified sessions (R175, R177, R198) -/

/-- The number of the next session; 0 is never one (R177). -/
def State.nextSession (s : State) : Nat :=
  let n := (s.tpt.counter.toNat + 1) % 2 ^ 32
  if n = 0 then 1 else n

theorem State.nextSession_eq {s : State} (h : s.tpt.counter.toNat + 1 < 4294967296) :
    s.nextSession = s.tpt.counter.toNat + 1 := by
  have hmod : (s.tpt.counter.toNat + 1) % 2 ^ 32 = s.tpt.counter.toNat + 1 := Nat.mod_eq_of_lt h
  unfold State.nextSession
  dsimp only
  rw [hmod]
  exact if_neg (Nat.succ_ne_zero _)

/-- The session number counted and shown. -/
def State.sessNumbered (s : State) (p : Fin 8) : State :=
  State.set { s with tpt := { s.tpt with counter := BitVec.ofNat 32 s.nextSession } } (F.TPT_SESSION_NUMBER p.val)
    s.nextSession

/-- A session with its identity and what the contract table says of it, up to its change of state. -/
def State.identityTaken (s : State) (p : Fin 8) (ident : List Byte) (cert : Bool) : State :=
  let c := (s.sessNumbered p).contract p ident
  ((s.sessNumbered p).modSx p (fun x =>
    { x with ident := ident, certValid := cert, certWait := false, hostAsked := false })).modSx p (fun x =>
    { x with contractIdx := BitVec.ofNat 16 ((c.map Prod.fst).getD 0xFFFF),
             prepaid := BitVec.ofNat 64 ((c.map Prod.snd).getD 0) })

theorem State.sessIdentify_eq (s : State) (p : Fin 8) (ident : List Byte) (cert : Bool) :
    s.sessIdentify p ident cert = ((s.identityTaken p ident cert).enter p 2 0).authorise p := rfl

/-- Where the host alone authorises, it is asked (EV062). -/
theorem State.authorise_host {s : State} {p : Fin 8} (h : s.get (F.TPT_CFG_AUTH_EN p.val) = 4) :
    s.authorise p = (s.modSx p (fun x => { x with hostAsked := true })).raise { src := 62, point := p.val } := by
  simp [State.authorise, State.authTable, h, Nat.testBit]

section
variable {s : State} {p : Fin 8} (hauth : s.get (F.TPT_CFG_AUTH_EN p.val) = 4) (ident : List Byte) (cert : Bool)
include hauth

theorem State.sessIdentify_host : s.sessIdentify p ident cert =
    (((s.identityTaken p ident cert).enter p 2 0).modSx p (fun x => { x with hostAsked := true })).raise
      { src := 62, point := p.val } := by
  rw [State.sessIdentify_eq, State.authorise_host]
  rw [State.get_enter_row _ p 2 0 (rowOf_TPT_CFG p) rfl (by decide)]
  exact (State.get_set_ne s _ (by decide : 31 < 32)
    (.inl (ne_of_rowOf (rowOf_TPT_CFG p) (rowOf_TPT_SESSION p) (by decide)))).trans hauth

theorem State.sess_sessIdentify : (s.sessIdentify p ident cert).sess p = 2 := by
  rw [State.sessIdentify_host hauth, (State.raise_keeps _ _).sess rfl]
  exact State.sess_enter _ p 0 (by decide)

/-- An identified session holds its identity, and the host has been asked. -/
theorem State.sx_sessIdentify : ∃ idx limit now, (s.sessIdentify p ident cert).sx p =
    Sess.entered { s.sx p with ident := ident, certValid := cert, certWait := false, hostAsked := true,
                               contractIdx := idx, prepaid := limit } now 2 := by
  rw [State.sessIdentify_host hauth, (State.raise_keeps _ _).sx rfl, State.sx_modSx_self, State.sx_enter,
    State.identityTaken, State.sx_modSx_self, State.sx_modSx_self]
  exact ⟨_, _, _, rfl⟩

theorem State.results_sessIdentify : (s.sessIdentify p ident cert).host.results = s.host.results := by
  rw [State.sessIdentify_host hauth, State.results_raise, State.modSx_host, State.results_enter]
  rfl

theorem State.number_sessIdentify :
    (s.sessIdentify p ident cert).get (F.TPT_SESSION_NUMBER p.val) = s.nextSession := by
  have hlt : s.nextSession < 2 ^ 32 := by
    unfold State.nextSession
    dsimp only
    split <;> omega
  rw [State.sessIdentify_host hauth, (State.raise_keeps _ _).get _ (testBit_rowOf (rowOf_TPT_SESSION p) rfl),
    State.modSx_get, State.get_enter_row _ p 2 0 (rowOf_TPT_SESSION p) rfl (by decide)]
  exact State.get_set_of_lt _ (by decide : 31 < 32) hlt

/-- An identification leaves alone a field of another row than its own, and one of TPT_STATE that is no state. -/
theorem State.get_sessIdentify {f : Fld} {r : Nat} (hr : rowOf f.off = r)
    (hb : (0x800000000000000000010588050000000000000000000000018088800000).testBit r = false)
    (hne : f.off ≠ R.TPT_STATE p.val ∨ 3 < f.lo ∧ f.hi < 24) : (s.sessIdentify p ident cert).get f = s.get f := by
  have hrow := testBit_rowOf hr hb
  have hsession : f.off ≠ R.TPT_SESSION p.val := by
    refine ne_of_rowOf hr (rowOf_TPT_SESSION p) ?_
    rintro rfl
    exact absurd hb (by decide)
  rw [State.sessIdentify_host hauth, (State.raise_keeps _ _).get _ (bit_of_sub rfl hrow), State.modSx_get,
    State.get_enter _ p 2 0 (bit_of_sub rfl hrow) hne]
  exact State.get_set_ne _ _ (by decide : 31 < 32) (.inl hsession)

end

/-! ### Detected partners (R175) -/

/-- A partner of a point that may not leave Idle is noted. -/
theorem State.sessDetect_busy {s : State} {p : Fin 8} (h : s.sess p ≠ 0) :
    s.sessDetect p = s.modSx p (fun x => { x with partner := true }) := by
  have hstays : (s.modSx p (fun x => { x with partner := true })).mayConnect p = false := by
    simp only [State.mayConnect, State.sess_modSx, beq_false_of_ne h, Bool.false_and]
  exact if_pos hstays

end Sys2Proof.Machine
end

section
/-! SUPPORT. Power stacks (R181, R193): the command frame, the status frame of the one point that it names, and the
statement. -/

namespace Sys2Proof.Machine

/-- The points whose stack answers with an identifier on a CAN FD port (R193). -/
def State.stacksAt (s : State) (port : Fin 2) (ident : BitVec 11) : List (Fin 8) :=
  points.filter (fun p => s.type_ p == 3 && s.get (F.TPT_LINK_CAN p.val) == port.val &&
    s.get (F.TPT_LINK_NODE p.val) != 0 && 0x280 + s.get (F.TPT_LINK_NODE p.val) == ident.toNat)

section
variable {s : State} {p : Fin 8} (hpt : s.running .pt = true) (hap : s.running .ap = true)
include hpt hap

/-- The command frame to a stack: the next sequence number and the command, then the setpoints. -/
theorem execStackCommandSend_enabled (htype : s.type_ p = 3) (hnode : s.get (F.TPT_LINK_NODE p.val) ≠ 0)
    (hen : s.flag (F.PTN_CAN_CFG_EN (s.get (F.TPT_LINK_CAN p.val))) = true) :
    execStackCommandSend p s = .next ((s.fresh.2.modSx p (fun x => { x with stackSeq := (s.sx p).stackSeq + 1 })).emit
      (.can (s.get (F.TPT_LINK_CAN p.val)) (0x200 + s.get (F.TPT_LINK_NODE p.val))
        ([(s.sx p).stackSeq + 1, (s.sx p).stackCmd] ++
          padTo 6 (Config.stackSetpoints (s.sx p).stackCmd.toNat s.free)))) :=
  congrArg Host.Outcome.next ((State.ptap_run hpt hap _).trans (if_neg (by simp [htype, hnode, hen])))

theorem execStackStatusFrame_one {port : Fin 2} {ident : BitVec 11} (frame : List Byte)
    (hen : s.flag (F.PTN_CAN_CFG_EN port.val) = true) (hone : s.stacksAt port ident = [p]) :
    execStackStatusFrame port ident frame s = .next (s.stackStatus p frame) := by
  refine congrArg Host.Outcome.next ((State.ptap_run hpt hap _).trans ((if_neg (ne_false_of_eq_true hen)).trans ?_))
  exact congrArg (List.foldl (fun s p => s.stackStatus p frame) s) hone

end

section
variable {s : State} {p : Fin 8} {frame : List Byte} (hlen : frame.length = 8)
  (hseq : nth frame 0 0 = (s.sx p).stackSeq)
include hlen hseq

/-- A status frame that matches and names no fault brings the stack's current. -/
theorem State.stackStatus_sound (hflags : fld frame 6 2 = 0) (hwait : (s.sx p).waitSafe = false) :
    s.stackStatus p frame = s.modSx p (fun x => { x with stackAmps := sfld frame 4 2 }) := by
  unfold State.stackStatus
  rw [if_neg (not_or.2 ⟨not_not_intro hlen, not_not_intro hseq⟩)]
  extract_lets amps shown judged
  have hjudged : judged = shown := if_neg (not_not_intro hflags)
  rw [hjudged]
  refine if_neg fun h => ?_
  rw [State.sx_modSx_self, hwait] at h
  exact Bool.noConfusion h.1

/-- A status frame with a fault flag faults the session; opening the contactor leaves the fault to be read. -/
theorem State.stackStatus_fault (hflags : fld frame 6 2 ≠ 0) (h1 : 1 ≤ s.sess p) (h5 : s.sess p ≤ 5)
    (hpartner : (s.sx p).partner = true) :
    (s.stackStatus p frame).sess p = 15 ∧ (s.stackStatus p frame).get (F.TPT_STATE_LAST_REASON p.val) = 0x24 := by
  unfold State.stackStatus
  rw [if_neg (not_or.2 ⟨not_not_intro hlen, not_not_intro hseq⟩)]
  extract_lets amps shown judged
  have hfault : (shown.stackFault p).Faulted p 0x24 :=
    State.faulted_stackFault h1 h5 (by rw [State.sx_modSx_self]; exact hpartner)
  have hjudged : judged = shown.stackFault p := if_pos hflags
  have hopened : Keeps 64 0x10580000000000000000000000000000000000000 judged
      (if (judged.sx p).waitSafe = true ∧ amps.natAbs < 50 then judged.openPoint p else judged) :=
    ite_of (judged.openPoint_keeps p) Keeps.rfl
  rw [hopened.sess rfl, hopened.get _ (testBit_rowOf (rowOf_TPT_STATE p) rfl), hjudged]
  exact ⟨hfault.state, hfault.reason⟩

end

/-- Settles O38: a command frame and a status frame by their equations; each fault by the common fault of a stack, from
Connected to Transferring. -/
theorem stackEvents : Obligations.StackEvents := by
  unfold Obligations.StackEvents
  refine ⟨?command, ?noStack, ?status, ?flagged, ?portOff, ?silent, ?noStackSilent, ?differs, ?agrees⟩
  case command =>
    intro s p hpt hap htype hnode hen
    refine ⟨_, execStackCommandSend_enabled hpt hap htype hnode hen, ?_, _, rfl⟩
    exact congrArg Sess.stackSeq
      (State.sx_modSx_self s.fresh.2 p (fun x => { x with stackSeq := (s.sx p).stackSeq + 1 }))
  case noStack =>
    intro s p htype
    exact congrArg Host.Outcome.next (State.ptap_same (if_pos (.inl htype)))
  case status =>
    intro s port ident frame p hpt hap hen hone hlen hseq hflags hwait
    exact (execStackStatusFrame_one hpt hap frame hen hone).trans
      (congrArg Host.Outcome.next (State.stackStatus_sound hlen hseq hflags hwait))
  case flagged =>
    intro s port ident frame p hpt hap hen hone hlen hseq hflags hsess hpartner
    exact ⟨_, execStackStatusFrame_one hpt hap frame hen hone,
      State.stackStatus_fault hlen hseq hflags (by omega) hsess.le hpartner⟩
  case portOff =>
    intro s port ident frame hoff
    exact congrArg Host.Outcome.next (State.ptap_same (if_pos hoff))
  case silent =>
    intro s p hpt hap htype h3 h5 hpartner
    have hfault := State.faulted_stackFault (by omega) h5 hpartner
    exact ⟨_, congrArg Host.Outcome.next ((State.ptap_run hpt hap _).trans (if_pos ⟨htype, h3, h5⟩)),
      hfault.state, hfault.reason⟩
  case noStackSilent =>
    intro s p htype
    exact congrArg Host.Outcome.next (State.ptap_same (if_neg fun h => htype h.1))
  case differs =>
    intro s p hpt hap htype hsess hcount hpartner
    have hfault := State.faulted_stackFault (by omega) hsess.le hpartner
    exact ⟨_, congrArg Host.Outcome.next ((State.ptap_run hpt hap _).trans (if_pos ⟨htype, hsess, hcount⟩)),
      hfault.state, hfault.reason⟩
  case agrees =>
    intro s p hcount
    exact congrArg Host.Outcome.next (State.ptap_same (if_neg fun h => absurd h.2.2 (not_le.2 hcount)))

end Sys2Proof.Machine
end

section
/-! SUPPORT. The coupling link of a fluid skid (R190, R191): a generation 2 frame read back, the link settled, a partner
absent, and the statement. -/

namespace Sys2Proof.Machine

/-! ### A generation 2 frame (R190) -/

/-- Length and identity of a generation 2 frame, which its CRC covers (log 24). -/
def coupBody (name : List Byte) : List Byte := [BitVec.ofNat 8 name.length] ++ name

/-- A generation 2 frame: its mark, its body and the body's CRC. -/
def coupFrame (name : List Byte) : List Byte := 0x7E :: withCrc (coupBody name)

section
variable {name : List Byte} (hlen : name.length ≤ 32)

theorem length_coupFrame : (coupFrame name).length = name.length + 4 := by
  rw [coupFrame, List.length_cons, length_withCrc, coupBody]
  simp only [List.length_append, List.length_singleton]
  omega

theorem slice_coupFrame_body : slice (coupFrame name) 1 (name.length + 1) = coupBody name :=
  List.take_left' (by rw [coupBody, List.length_append, List.length_singleton, Nat.add_comm])

theorem slice_coupFrame_name : slice (coupFrame name) 2 name.length = name := List.take_left' rfl

theorem fld_coupFrame_crc : fld (coupFrame name) (name.length + 2) 2 = crc16 (coupBody name) := by
  have hdrop : (coupFrame name).drop (name.length + 2) = natLE 2 (crc16 (coupBody name)) := by
    have hbody : (coupBody name).length = name.length + 1 := by
      rw [coupBody, List.length_append, List.length_singleton, Nat.add_comm]
    rw [coupFrame, List.drop_succ_cons, ← hbody]
    exact List.drop_left
  rw [fld, slice, hdrop, List.take_of_length_le (length_natLE _ _).le, leNat_natLE, Nat.mod_eq_of_lt (crc16_lt _)]

include hlen in
theorem fld_coupFrame_length : fld (coupFrame name) 1 1 = name.length := by
  show (BitVec.ofNat 8 name.length).toNat + 256 * 0 = name.length
  rw [BitVec.toNat_ofNat, Nat.mod_eq_of_lt (by omega)]
  rfl

end

/-! ### The link settled (R190) -/

section
variable {s : State} {p : Fin 8}

/-- A link settled in generation 2, up to its event. -/
def State.settledTwo (s : State) (p : Fin 8) : State :=
  (((s.set (F.TPT_STATE_PROTO p.val) 0x12).set (F.PTN_COUP_GEN p.val) 2).modSx p
    (fun x => { x with trying := 0, coupSeq := 0, replays := [] })).sessFlag p 5

theorem State.settle_two (s : State) (p : Fin 8) :
    s.settle p 2 = (s.settledTwo p).raise { src := 68, point := p.val } := rfl

theorem State.sx_settle_two (s : State) (p : Fin 8) : (s.settle p 2).sx p =
    { s.sx p with trying := 0, coupSeq := 0, replays := [],
                  flags := BitVec.ofNat 32 (putBit (s.sx p).flags.toNat 5 true) } := by
  rw [State.settle_two, (State.raise_keeps _ _).sx rfl, State.settledTwo, State.sessFlag, State.sx_modSx_self,
    State.sx_modSx_self]
  rfl

/-- A settled link shows its protocol and its generation. -/
theorem State.settle_two_shows (s : State) (p : Fin 8) :
    (s.settle p 2).get (F.TPT_STATE_PROTO p.val) = 0x12 ∧ (s.settle p 2).get (F.PTN_COUP_GEN p.val) = 2 := by
  have hraise := (s.settledTwo p).raise_keeps { src := 68, point := p.val }
  have hapart : (F.TPT_STATE_PROTO p.val).off ≠ (F.PTN_COUP_GEN p.val).off :=
    ne_of_rowOf (rowOf_TPT_STATE p) (rowOf_PTN_COUP p) (by decide)
  rw [State.settle_two, hraise.get _ (testBit_rowOf (rowOf_TPT_STATE p) rfl),
    hraise.get _ (testBit_rowOf (rowOf_PTN_COUP p) rfl)]
  constructor
  · exact (State.get_set_ne _ _ (by decide : 31 < 32) (.inl hapart)).trans
      (State.get_set_of_lt s (by decide : 23 < 32) (by decide : 0x12 < 2 ^ 8))
  · exact State.get_set_of_lt _ (by decide : 31 < 32) (by decide : 2 < 2 ^ 2)

/-- Bit 5 set in the flags of the record (R180). -/
theorem ofNat_putBit_five (x : Word) : BitVec.ofNat 32 (putBit x.toNat 5 true) = x ||| 32 := by
  apply BitVec.eq_of_getLsbD_eq
  intro i hi
  have h32 : (32 : Word).getLsbD i = decide (i = 5) := by
    revert i; decide
  rw [BitVec.getLsbD_ofNat, testBit_putBit, BitVec.getLsbD_or, h32, BitVec.getLsbD]
  by_cases h : i = 5 <;> simp [h, hi]

/-- An identity in a sound frame of generation 2 settles the link and identifies the session. -/
theorem execCouplingIdentityFrame_two {name : List Byte} (hpt : s.running .pt = true) (hap : s.running .ap = true)
    (hfluid : isFluid (s.type_ p) = true) (hsess : s.sess p = 1) (htrying : (s.sx p).trying = 2)
    (h1 : 1 ≤ name.length) (h32 : name.length ≤ 32) :
    execCouplingIdentityFrame p (coupFrame name) s = .next ((s.settle p 2).sessIdentify p name false) := by
  refine congrArg Host.Outcome.next ((State.ptap_run hpt hap _).trans ((if_neg (by simp [hsess, hfluid])).trans
    ((if_pos htrying).trans ?_)))
  dsimp only
  rw [fld_coupFrame_length h32, slice_coupFrame_body, fld_coupFrame_crc, slice_coupFrame_name, length_coupFrame]
  exact if_pos ⟨rfl, h1, h32, rfl, rfl⟩

/-! ### Detection and absence (R190) -/

/-- A loop current shown leaves the session and its point as they are. -/
theorem State.loopShown_keeps (s : State) (p : Fin 8) (loop : Nat) :
    Keeps 0 0x20000000000000000000000000000000000000 s (s.setSat (F.PTN_COUP_LOOP p.val) loop) :=
  .setSat (.of rfl (in_PTN_COUP _ p.isLt)) .rfl

theorem State.loop_loopShown (s : State) (p : Fin 8) {loop : Nat} (h : loop < 256) :
    (s.setSat (F.PTN_COUP_LOOP p.val) loop).get (F.PTN_COUP_LOOP p.val) = loop :=
  (State.get_setSat_self s (F.PTN_COUP_LOOP p.val) loop (by decide : 23 < 32)).trans
    (Nat.min_eq_left (Nat.le_sub_one_of_lt (show loop < 2 ^ 8 from h)))

theorem inBand_iff {loop : Nat} : inBand loop = true ↔ 80 ≤ loop ∧ loop ≤ 120 := by
  rw [inBand, Bool.and_eq_true, decide_eq_true_iff, decide_eq_true_iff]

/-- A partner that goes absent in Connected leaves its point in Idle. -/
theorem State.sessAbsent_connected (h : s.sess p = 1) :
    s.sessAbsent p = (s.modSx p (fun x => { x with partner := false, ready := false })).enter p 0 0 := by
  simp only [State.sessAbsent, State.sess_modSx, h]

theorem execCouplingDetect_coupled {loop : Nat} (hpt : s.running .pt = true) (hap : s.running .ap = true)
    (hfluid : isFluid (s.type_ p) = true) (hband : 80 ≤ loop ∧ loop ≤ 120) (hsess : 1 ≤ s.sess p) :
    execCouplingDetect p loop s =
      .next ((s.setSat (F.PTN_COUP_LOOP p.val) loop).modSx p (fun x => { x with partner := true })) := by
  have hshown := s.loopShown_keeps p loop
  have hfluid' := (congrArg isFluid (hshown.type_ rfl p)).trans hfluid
  have hbusy : (s.setSat (F.PTN_COUP_LOOP p.val) loop).sess p ≠ 0 := by rw [hshown.sess rfl]; omega
  refine congrArg Host.Outcome.next ((State.ptap_run hpt hap _).trans ((if_neg (by
    simp [hfluid', inBand_iff.2 hband])).trans ?_))
  rw [State.sessDetect_busy hbusy]
  exact if_neg fun h => hbusy (beq_iff_eq.1 h.1)

theorem execCouplingAbsent_connected {loop : Nat} (hpt : s.running .pt = true) (hap : s.running .ap = true)
    (hfluid : isFluid (s.type_ p) = true) (hband : loop < 80 ∨ 120 < loop) (hsess : s.sess p = 1) :
    execCouplingAbsent p loop s = .next ((((s.setSat (F.PTN_COUP_LOOP p.val) loop).modSx p
      (fun x => { x with partner := false, ready := false })).enter p 0 0).set (F.PTN_COUP_GEN p.val) 0) := by
  have hshown := s.loopShown_keeps p loop
  have hfluid' := (congrArg isFluid (hshown.type_ rfl p)).trans hfluid
  have hout : inBand loop = false := Bool.eq_false_iff.2 fun h => by have := inBand_iff.1 h; omega
  refine congrArg Host.Outcome.next ((State.ptap_run hpt hap _).trans ((if_neg (by simp [hfluid', hout])).trans ?_))
  rw [State.sessAbsent_connected ((hshown.sess rfl p).trans hsess)]

/-! ### Attempts and messages (R190, R191) -/

/-- An attempt that expires while a generation is tried, by what is left to try. -/
theorem execCouplingAttemptTimeout_trying (hpt : s.running .pt = true) (hap : s.running .ap = true)
    (hfluid : isFluid (s.type_ p) = true) (hadopted : (s.sx p).adopted = false) (hsess : s.sess p = 1)
    (htrying : (s.sx p).trying ≠ 0) :
    execCouplingAttemptTimeout p s = .next (if (s.sx p).trying ≤ s.minGen p ∨ (s.sx p).trying = 1 then
      s.sessFault p 0x09 false
    else s.modSx p (fun x => { x with trying := (s.sx p).trying - 1, gen1 := none })) :=
  congrArg Host.Outcome.next ((State.ptap_run hpt hap _).trans ((if_neg (by simp [hadopted])).trans
    (if_neg (by simp [hsess, hfluid, htrying]))))

theorem execCouplingMessage_three (hpt : s.running .pt = true) (hap : s.running .ap = true)
    (hfluid : isFluid (s.type_ p) = true) (hgen : s.get (F.PTN_COUP_GEN p.val) = 3) (seq : Dword)
    (authentic ready stop : Bool) :
    execCouplingMessage p (.data seq authentic ready stop) s = .next
      (if authentic = false then s.couplingBad p
       else if seq.toNat < (s.sx p).coupSeq.toNat then
        let l := s.time.now :: (s.sx p).replays.filter (fun t => decide (s.time.now < t + 10000000))
        let s := (s.count (F.PTN_COUP_REPLAY p.val) 1).modSx p (fun x => { x with replays := l })
        if 3 ≤ l.length then s.couplingBad p else s
       else (s.modSx p (fun x => { x with coupSeq := seq + 1 })).skidState p ready stop) :=
  congrArg Host.Outcome.next ((State.ptap_run hpt hap _).trans ((if_pos hfluid).trans
    ((if_neg (by rw [hgen]; decide)).trans (if_neg (not_not_intro hgen)))))

/-- A skid that asks to stop during the transfer ends it, and keeps its place in the sequence. -/
theorem State.skidState_stop (hsess : s.sess p = 5) :
    (s.skidState p false true).sess p = 6 ∧ (s.skidState p false true).get (F.TPT_STATE_LAST_REASON p.val) = 1 ∧
      ((s.skidState p false true).sx p).coupSeq = (s.sx p).coupSeq := by
  let told := s.modSx p (fun x => { x with ready := false })
  have hstop : s.skidState p false true =
      (told.modSx p (fun x => { x with ready := false })).sessStop p 1 false :=
    State.sessPartnerStop_transferring (s := told) hsess
  rw [hstop, State.sx_sessStop, State.sx_modSx_self, State.sx_modSx_self]
  exact ⟨State.sess_sessStop _ p 1 false, State.reason_sessStop _ p false (by decide) (by decide), rfl⟩

end

/-! ### The statement -/

/-- Settles O37: detection and absence by the loop current; an attempt by what is left to try; an identity frame read
back; messages of generation 3 by their tag and their wish to stop; a lost heartbeat as any other. -/
theorem couplingEvents : Obligations.CouplingEvents := by
  unfold Obligations.CouplingEvents
  refine ⟨?detect, ?absent, ?lower, ?lowest, ?identity, ?unexpected, ?badTag, ?stop, ?heartbeat, ?noHeartbeat⟩
  case detect =>
    intro s p loop hpt hap hfluid hlow hhigh hsess
    have hshown := s.loopShown_keeps p loop
    refine ⟨_, execCouplingDetect_coupled hpt hap hfluid ⟨hlow, hhigh⟩ hsess, s.loop_loopShown p (by omega), ?_,
      hshown.sess rfl p⟩
    rw [State.sx_modSx_self]
  case absent =>
    intro s p loop hpt hap hfluid hband hsess
    refine ⟨_, execCouplingAbsent_connected hpt hap hfluid hband hsess, ?_,
      State.get_set_of_lt _ (by decide : 31 < 32) (by decide : 0 < 2 ^ 2), ?_⟩
    · exact (State.get_set_ne _ _ (by decide : 31 < 32)
        (.inl (ne_of_rowOf (rowOf_TPT_STATE p) (rowOf_PTN_COUP p) (by decide)))).trans
        (State.sess_enter _ p 0 (by decide))
    · rw [State.sx_set, State.sx_enter, State.sx_modSx_self]
      rfl
  case lower =>
    intro s p hpt hap hfluid hadopted hsess hmin hone
    exact (execCouplingAttemptTimeout_trying hpt hap hfluid hadopted hsess (by omega)).trans
      (congrArg Host.Outcome.next (if_neg (by omega)))
  case lowest =>
    intro s p hpt hap hfluid hadopted hsess htrying hmin hpartner
    have hfault := (State.sessFault_present hpartner (by decide : 9 ≠ 0) (by decide) false).2
    exact ⟨_, (execCouplingAttemptTimeout_trying hpt hap hfluid hadopted hsess htrying).trans
      (congrArg Host.Outcome.next (if_pos (.inl hmin))), hfault.state, hfault.reason⟩
  case identity =>
    intro s p name hpt hap hfluid hsess htrying h1 h32 hauth
    have hauth' : (s.settle p 2).get (F.TPT_CFG_AUTH_EN p.val) = 4 :=
      ((s.settle_keeps p 2).get _ (testBit_rowOf (rowOf_TPT_CFG p) rfl)).trans hauth
    obtain ⟨hproto, hgen⟩ := s.settle_two_shows p
    obtain ⟨idx, limit, now, hsx⟩ := State.sx_sessIdentify hauth' name false
    refine ⟨_, execCouplingIdentityFrame_two hpt hap hfluid hsess htrying h1 h32,
      State.sess_sessIdentify hauth' name false, by rw [hsx]; rfl, ?_, ?_, ?_⟩
    · exact (State.get_sessIdentify hauth' name false (rowOf_PTN_COUP p) rfl
        (.inl (ne_of_rowOf (rowOf_PTN_COUP p) (rowOf_TPT_STATE p) (by decide)))).trans hgen
    · exact (State.get_sessIdentify hauth' name false (rowOf_TPT_STATE p) rfl
        (.inr ⟨(by decide : 3 < 16), (by decide : 23 < 24)⟩)).trans hproto
    · rw [hsx, s.sx_settle_two]
      exact ofNat_putBit_five _
  case unexpected =>
    intro s p frame hsess
    exact congrArg Host.Outcome.next (State.ptap_same (if_pos (.inl hsess)))
  case badTag =>
    intro s p seq ready stop hpt hap hfluid hgen h1 h5 hpartner
    have hfault := State.faulted_couplingBad h1 h5 hpartner
    have hraised := s.raise_keeps { src := 69, point := p.val }
    obtain ⟨hsx, hbad⟩ := hraised.sessFaultLive (reason := 0x28) rfl rfl h1 h5
    refine ⟨_, (execCouplingMessage_three hpt hap hfluid hgen seq false ready stop).trans
      (congrArg Host.Outcome.next (if_pos rfl)), hfault.state, hfault.reason, ?_⟩
    rw [State.couplingBad, hbad]
    exact State.weld_sessFault (by rw [hsx]; exact hpartner) (.inr rfl)
  case stop =>
    intro s p seq hpt hap hfluid hgen hsess hseq
    obtain ⟨hstate, hreason, hnext⟩ :=
      State.skidState_stop (s := s.modSx p (fun x => { x with coupSeq := seq + 1 })) hsess
    refine ⟨_, (execCouplingMessage_three hpt hap hfluid hgen seq true false true).trans
      (congrArg Host.Outcome.next ((if_neg (by decide)).trans (if_neg (not_lt.2 hseq)))), hstate, hreason, ?_⟩
    rw [hnext, State.sx_modSx_self]
  case heartbeat =>
    intro s p hpt hap hfluid hgen h1 h5 hpartner
    have hfault := State.faulted_heartbeatLost h1 h5 hpartner
    exact ⟨_, congrArg Host.Outcome.next ((State.ptap_run hpt hap _).trans
      (if_pos ⟨hfluid, hgen, h1, h5.trans (by decide)⟩)), hfault.state, hfault.reason⟩
  case noHeartbeat =>
    intro s p hgen
    exact congrArg Host.Outcome.next (State.ptap_same (if_neg fun h => absurd h.2.1 (not_le.2 hgen)))

end Sys2Proof.Machine
end

section
/-! SUPPORT. The control pilot and the vehicle (R175, R182 to R185, R187 to R189): what the pilot shows, a vehicle in
state B that connects, the messages of a vehicle, and the statement. -/

namespace Sys2Proof.Machine

/-! ### The pilot as it is shown (R183) -/

theorem Keeps.pilotF {P B : Nat} {s t : State} (h : Keeps P B s t) (hb : B.testBit 137 = false) {p : Fin 8}
    (hheld : (t.sx p).fallbackF = (s.sx p).fallbackF) : t.pilotF p = s.pilotF p := by
  rw [State.pilotF, h.flag _ (testBit_rowOf (rowOf_TPT_STATE p) hb), h.type_ hb, h.sess hb, hheld, State.pilotF]

section
variable {s : State} {p : Fin 8}

/-- The pilot with its duty brought up. -/
def State.dutyShown (s : State) (p : Fin 8) : State := s.set (F.PTN_CP_DUTY p.val) (s.pilotDuty p)

theorem State.showPilot_eq (s : State) (p : Fin 8) :
    s.showPilot p = if s.pilotF p then (s.dutyShown p).set (F.PTN_CP_CP_STATE p.val) 5 else s.dutyShown p := by
  have hduty : Keeps 0 0x8000000000000000000000000000000000000 s (s.dutyShown p) :=
    .set (.of rfl (in_PTN_CP _ p.isLt)) .rfl
  rw [← hduty.pilotF rfl (p := p) rfl]
  rfl

theorem State.get_dutyShown {f : Fld} (h : 27 < f.lo ∨ f.hi < 18) : (s.dutyShown p).get f = s.get f :=
  State.get_set_ne s _ (by decide : 27 < 32) (.inr h.symm)

/-- A point that the module does not hold at state F shows the pilot state that it was in. -/
theorem State.cpState_showPilot_free (h : s.pilotF p = false) :
    (s.showPilot p).get (F.PTN_CP_CP_STATE p.val) = s.get (F.PTN_CP_CP_STATE p.val) := by
  rw [State.showPilot_eq, if_neg (ne_true_of_eq_false h)]
  exact State.get_dutyShown (.inl (by decide : 27 < 28))

theorem State.cpState_showPilot_held (h : s.pilotF p = true) :
    (s.showPilot p).get (F.PTN_CP_CP_STATE p.val) = 5 := by
  rw [State.showPilot_eq, if_pos h]
  exact State.get_set_of_lt _ (by decide : 31 < 32) (by decide : 5 < 2 ^ 4)

/-- Levels and the diode flag stand below what the module drives. -/
theorem State.get_showPilot_low {f : Fld} (h : f.hi < 18) : (s.showPilot p).get f = s.get f := by
  have hduty : (s.dutyShown p).get f = s.get f := State.get_dutyShown (.inr h)
  rw [State.showPilot_eq]
  split
  · exact (State.get_set_ne _ _ (by decide : 31 < 32) (.inr (.inl (h.trans (by decide : 18 < 28))))).trans hduty
  · exact hduty

/-- A change of state up to the pilot leaves all of PTN_CP alone. -/
theorem State.get_stateRaised_ptnCp (new reason : Nat) {f : Fld} (hoff : f.off = R.PTN_CP p.val) :
    ((s.stateShown p new reason).stateRaised p (s.sess p) new reason).get f = s.get f := by
  have hrow : rowOf f.off = 147 := hoff ▸ rowOf_PTN_CP p
  rw [(State.stateRaised_keeps _ _ _ _ _).get _ (testBit_rowOf hrow (by decide)),
    State.get_stateShown _ _ _ _ (testBit_rowOf hrow (by decide)) (.inl (hoff ▸ ptnCp_ne_tptState p))]

theorem State.enter_told (s : State) (p : Fin 8) (new reason : Nat) : s.enter p new reason =
    (((s.stateShown p new reason).stateRaised p (s.sess p) new reason).showPilot p).mirrored := rfl

theorem State.diode_enter (new reason : Nat) :
    (s.enter p new reason).get (F.PTN_CP_DIODE_FAIL p.val) = s.get (F.PTN_CP_DIODE_FAIL p.val) := by
  rw [State.enter_told, (State.mirrored_keeps _).get _ (Nat.zero_testBit _),
    State.get_showPilot_low (by decide : 17 < 18)]
  exact State.get_stateRaised_ptnCp new reason rfl

/-- In a state in which the module does not hold the pilot, it shows what it showed. -/
theorem State.cpState_enter_free {new reason : Nat} (h : (s.enter p new reason).pilotF p = false) :
    (s.enter p new reason).get (F.PTN_CP_CP_STATE p.val) = s.get (F.PTN_CP_CP_STATE p.val) := by
  let raised := (s.stateShown p new reason).stateRaised p (s.sess p) new reason
  have htold : Keeps 65536 0x8000000000000000000000000000000000000 raised (raised.showPilot p).mirrored :=
    .app (State.mirrored_keeps _) rfl rfl (.app (raised.showPilot_keeps p) rfl rfl .rfl)
  have hfree : raised.pilotF p = false := (htold.pilotF rfl (congrArg Sess.fallbackF (htold.sx rfl p))).symm.trans h
  rw [State.enter_told, (State.mirrored_keeps _).get _ (Nat.zero_testBit _), State.cpState_showPilot_free hfree]
  exact State.get_stateRaised_ptnCp new reason rfl

end

/-! ### A vehicle in state B (R175, R182) -/

theorem rowOf_MET_TPMAP_V (p : Fin 8) : rowOf (R.MET_TPMAP_V p.val) ≠ 147 := by revert p; decide

theorem rowOf_MET_TPMAP_I (p : Fin 8) : rowOf (R.MET_TPMAP_I p.val) ≠ 147 := by revert p; decide

/-- The inputs that a point's electrical mapping names are no part of its pilot. -/
theorem elecMap_congr {get get' : Fld → Nat} {p : Fin 8} (h : ∀ f : Fld, rowOf f.off ≠ 147 → get' f = get f) :
    elecMap get' p.val = elecMap get p.val := by
  have hV := fun (f : Fld) (hoff : f.off = R.MET_TPMAP_V p.val) => h f (hoff ▸ rowOf_MET_TPMAP_V p)
  have hI := fun (f : Fld) (hoff : f.off = R.MET_TPMAP_I p.val) => h f (hoff ▸ rowOf_MET_TPMAP_I p)
  simp only [elecMap, hV (F.MET_TPMAP_V_V1 p.val) rfl, hV (F.MET_TPMAP_V_V2 p.val) rfl,
    hV (F.MET_TPMAP_V_V3 p.val) rfl, hV (F.MET_TPMAP_V_VNE p.val) rfl, hI (F.MET_TPMAP_I_I1 p.val) rfl,
    hI (F.MET_TPMAP_I_I2 p.val) rfl, hI (F.MET_TPMAP_I_I3 p.val) rfl, hI (F.MET_TPMAP_I_IN p.val) rfl,
    hI (F.MET_TPMAP_I_RCM p.val) rfl]

/-- Whether an electrical point may leave Idle does not depend on its pilot. -/
theorem State.mayConnect_of_keeps {P : Nat} {s t : State} (h : Keeps P 0x8000000000000000000000000000000000000 s t)
    {p : Fin 8} (helec : isElec (s.type_ p) = true) : t.mayConnect p = s.mayConnect p := by
  have hget : ∀ f : Fld, rowOf f.off ≠ 147 → t.get f = s.get f := fun f hf =>
    h.get f (Nat.testBit_two_pow_of_ne (n := 147) hf.symm)
  have hready : t.elecReady p = s.elecReady p := by
    simp only [State.elecReady, elecMap_congr hget, h.type_ rfl]
  have helec' : isElec (t.type_ p) = true := (congrArg isElec (h.type_ rfl p)).trans helec
  have hstate : ∀ f : Fld, f.off = R.TPT_STATE p.val → t.flag f = s.flag f := fun f hoff =>
    h.flag f (testBit_rowOf (hoff ▸ rowOf_TPT_STATE p) rfl)
  simp only [State.mayConnect, helec, helec', if_true, hready, h.sess rfl, hstate (F.TPT_STATE_OOS p.val) rfl,
    hstate (F.TPT_STATE_WELD p.val) rfl, hget F.FAB_STATUS_ROLE (by decide), hget F.UPD_STATUS_STATE (by decide)]

section
variable {s : State} {p : Fin 8}

/-- A session that begins, up to its change of state. -/
def State.sessOffered (s : State) (p : Fin 8) : State :=
  let old := s.sx p
  let new : Sess := { Sess.reset with partner := true, ready := old.ready, hostLimit := old.hostLimit }
  let s := s.modSx p (fun _ => { new with bcChanges := old.bcChanges })
  let s := if isFluid (s.type_ p) then s.modSx p (fun x => { x with trying := 3 }) else s
  let proto := if isElec (s.type_ p) && !(s.digitalOn p) then 1 else 0
  ((s.set (F.TPT_STATE_PROTO p.val) proto).set (F.TPT_STATE_AUTH_SRC p.val) 0).set (F.PTN_COUP_GEN p.val) 0

/-- A partner that appears at a point which may leave Idle connects it. -/
theorem State.sessDetect_connects (h : (s.modSx p (fun x => { x with partner := true })).mayConnect p = true) :
    s.sessDetect p = ((s.modSx p (fun x => { x with partner := true })).sessOffered p).enter p 1 0 :=
  if_neg (ne_false_of_eq_true h)

theorem State.sx_sessOffered (s : State) (p : Fin 8) :
    ((s.sessOffered p).sx p).partner = true ∧ ((s.sessOffered p).sx p).fallbackF = false := by
  unfold State.sessOffered
  extract_lets old fresh new begun typed proto
  have hbegun : (begun.sx p).partner = true ∧ (begun.sx p).fallbackF = false := by
    rw [State.sx_modSx_self]; exact ⟨rfl, rfl⟩
  simp only [State.sx_set]
  refine ite_of (Q := fun x => (State.sx x p).partner = true ∧ (State.sx x p).fallbackF = false) ?_ hbegun
  rw [State.sx_modSx_self]
  exact hbegun

/-- A session that begins leaves alone a field below its source of authorisation, and every other register but GEN. -/
theorem State.get_sessOffered {f : Fld} (hstate : f.off ≠ R.TPT_STATE p.val ∨ f.hi < 12)
    (hcoup : f.off ≠ R.PTN_COUP p.val) : (s.sessOffered p).get f = s.get f := by
  unfold State.sessOffered
  extract_lets old fresh new begun typed proto
  have htyped : typed.get f = s.get f := ite_of (Q := fun x => State.get x f = s.get f) rfl rfl
  rw [State.get_set_ne _ _ (by decide : 31 < 32) (.inl hcoup),
    State.get_set_ne _ _ (by decide : 13 < 32) (hstate.imp_right .inl),
    State.get_set_ne _ _ (by decide : 23 < 32) (hstate.imp_right fun h => .inl (h.trans (by decide : 12 < 16)))]
  exact htyped

/-- What a point shows that connects: its partner, and the pilot as it was. -/
theorem State.sessDetect_shows (hconnects : s.mayConnect p = true) (helec : isElec (s.type_ p) = true)
    (hfree : s.pilotF p = false) :
    (s.sessDetect p).sess p = 1 ∧ ((s.sessDetect p).sx p).partner = true ∧
      (s.sessDetect p).get (F.PTN_CP_CP_STATE p.val) = s.get (F.PTN_CP_CP_STATE p.val) ∧
      (s.sessDetect p).get (F.PTN_CP_DIODE_FAIL p.val) = s.get (F.PTN_CP_DIODE_FAIL p.val) := by
  let noted := s.modSx p (fun x => { x with partner := true })
  let offered := noted.sessOffered p
  have hnoted : noted.mayConnect p = true := by
    have hkeeps : Keeps 32 0x8000000000000000000000000000000000000 s noted :=
      .app (s.modSx_keeps p _) rfl rfl .rfl
    exact (State.mayConnect_of_keeps hkeeps helec).trans hconnects
  have hstate : ∀ {f : Fld}, f.off = R.TPT_STATE p.val → 3 < f.lo → f.hi < 12 →
      (offered.enter p 1 0).get f = s.get f := fun {f} hoff hlo hhi =>
    (offered.get_enter_tptState p 1 0 hoff hlo (hhi.trans (by decide))).trans
      (State.get_sessOffered (.inr hhi) (hoff ▸ ne_of_rowOf (rowOf_TPT_STATE p) (rowOf_PTN_COUP p) (by decide)))
  have hpilot : ∀ {f : Fld}, f.off = R.PTN_CP p.val → offered.get f = s.get f := fun {f} hoff =>
    State.get_sessOffered (.inl (hoff ▸ ptnCp_ne_tptState p))
      (hoff ▸ ne_of_rowOf (rowOf_PTN_CP p) (rowOf_PTN_COUP p) (by decide))
  obtain ⟨hpartner, hheld⟩ := noted.sx_sessOffered p
  have hsess : (offered.enter p 1 0).sess p = 1 := State.sess_enter _ p 0 (by decide)
  have hfree' : (offered.enter p 1 0).pilotF p = false := by
    have hoos : (offered.enter p 1 0).flag (F.TPT_STATE_OOS p.val) = s.flag (F.TPT_STATE_OOS p.val) :=
      congrArg (· == 1) (hstate rfl (by decide : 3 < 11) (by decide : 11 < 12))
    have htype : (offered.enter p 1 0).type_ p = s.type_ p := hstate rfl (by decide : 3 < 4) (by decide : 7 < 12)
    simp only [State.pilotF, Bool.or_eq_false_iff] at hfree
    obtain ⟨⟨⟨hin, hnone⟩, -⟩, -⟩ := hfree
    rw [State.pilotF, hoos, hin, htype, hnone, hsess, State.sx_enter]
    exact hheld
  rw [State.sessDetect_connects hnoted, State.cpState_enter_free hfree', State.diode_enter, hpilot rfl, hpilot rfl,
    State.sx_enter]
  exact ⟨hsess, hpartner, rfl, rfl⟩

/-! ### A pilot state recognised (R182) -/

/-- The pilot as it is measured. -/
def State.pilotMeasured (s : State) (p : Fin 8) (cp : Nat) (diode : Bool) (high low : Int) : State :=
  (((s.set (F.PTN_CP_CP_STATE p.val) cp).set (F.PTN_CP_DIODE_FAIL p.val) diode.toNat).set (F.PTN_CP_HIGH p.val)
    (ofSigned 8 (max (-128) (min 127 high)))).set (F.PTN_CP_LOW p.val) (ofSigned 8 (max (-128) (min 127 low)))

/-- The recent changes between states B and C, with the newest (R185). -/
def State.bcCounted (s : State) (p : Fin 8) (cp : Nat) : List Nat :=
  let old := s.get (F.PTN_CP_CP_STATE p.val)
  let recent := (s.sx p).bcChanges.filter (fun t => decide (s.time.now < t + 60000000))
  if (old = 1 ∧ cp = 2) ∨ (old = 2 ∧ cp = 1) then s.time.now :: recent else recent

/-- A pilot state recognised, before its event. -/
def State.pilotRecognised (s : State) (p : Fin 8) (cp : Nat) (diode : Bool) (high low : Int) : State :=
  ((s.pilotMeasured p cp diode high low).modSx p (fun x => { x with bcChanges := s.bcCounted p cp })).showPilot p

theorem State.pilotMeasured_keeps (s : State) (p : Fin 8) (cp : Nat) (diode : Bool) (high low : Int) :
    Keeps 0 0x8000000000000000000000000000000000000 s (s.pilotMeasured p cp diode high low) :=
  have hrow : RowIn 0x8000000000000000000000000000000000000 (R.PTN_CP p.val) := .of rfl (in_PTN_CP _ p.isLt)
  .set hrow (.set hrow (.set hrow (.set hrow .rfl)))

theorem State.pilotRecognised_keeps (s : State) (p : Fin 8) (cp : Nat) (diode : Bool) (high low : Int) :
    Keeps 32 0x8000000000000000000000000000000000000 s (s.pilotRecognised p cp diode high low) :=
  .app (State.showPilot_keeps _ p) rfl rfl (.app (State.modSx_keeps _ p _) rfl rfl
    (.app (s.pilotMeasured_keeps p cp diode high low) rfl rfl .rfl))

theorem State.sx_pilotRecognised (s : State) (p : Fin 8) (cp : Nat) (diode : Bool) (high low : Int) :
    (s.pilotRecognised p cp diode high low).sx p = { s.sx p with bcChanges := s.bcCounted p cp } := by
  rw [State.pilotRecognised, (State.showPilot_keeps _ p).sx rfl, State.sx_modSx_self,
    (s.pilotMeasured_keeps p cp diode high low).sx rfl]

/-- A recognised pilot state and its diode flag show, where the module does not hold the pilot at state F. -/
theorem State.pilotRecognised_shows (hfree : s.pilotF p = false) {cp : Nat} (hcp : cp < 16) (diode : Bool)
    (high low : Int) :
    (s.pilotRecognised p cp diode high low).get (F.PTN_CP_CP_STATE p.val) = cp ∧
      (s.pilotRecognised p cp diode high low).get (F.PTN_CP_DIODE_FAIL p.val) = diode.toNat := by
  let counted := (s.pilotMeasured p cp diode high low).modSx p (fun x => { x with bcChanges := s.bcCounted p cp })
  have hcounted : Keeps 32 0x8000000000000000000000000000000000000 s counted :=
    .app (State.modSx_keeps _ p _) rfl rfl (.app (s.pilotMeasured_keeps p cp diode high low) rfl rfl .rfl)
  have hheld : (counted.sx p).fallbackF = (s.sx p).fallbackF := by
    rw [State.sx_modSx_self, (s.pilotMeasured_keeps p cp diode high low).sx rfl]
  have hapart : ∀ {x : State} {f : Fld} (v w : Nat), 15 < f.lo →
      ((x.set (F.PTN_CP_HIGH p.val) v).set (F.PTN_CP_LOW p.val) w).get f = x.get f := fun v w hlo =>
    (State.get_set_ne _ _ (by decide : 7 < 32) (.inr (.inr (lt_trans (by decide : 7 < 15) hlo)))).trans
      (State.get_set_ne _ _ (by decide : 15 < 32) (.inr (.inr hlo)))
  rw [State.pilotRecognised, State.cpState_showPilot_free ((hcounted.pilotF rfl hheld).trans hfree),
    State.get_showPilot_low (by decide : 17 < 18), State.modSx_get, State.modSx_get, State.pilotMeasured,
    hapart _ _ (by decide : 15 < 28), hapart _ _ (by decide : 15 < 17)]
  constructor
  · exact (State.get_set_ne _ _ (by decide : 17 < 32) (.inr (.inr (by decide : 17 < 28)))).trans
      (State.get_set_of_lt s (by decide : 31 < 32) hcp)
  · exact State.get_set_of_lt _ (by decide : 17 < 32) (Bool.toNat_lt diode)

/-- The pilot of a tethered point, recognised and then acted on. -/
theorem execPilotStateChange_tethered (hpt : s.running .pt = true) (hap : s.running .ap = true)
    (helec : isElec (s.type_ p) = true) (htethered : s.flag (F.TPT_CFG_PP_MODE p.val) = true)
    (hfree : s.pilotF p = false) (hduty : s.get (F.PTN_CP_DUTY p.val) = 0) (high low : Int) (ohms : Nat) :
    execPilotStateChange p high low ohms s = .next ((s.pilotRecognised p (pilotCode high) false high low).pilotEvent p
      (s.get (F.PTN_CP_CP_STATE p.val)) (pilotCode high) false) := by
  have hkeeps := s.pilotRecognised_keeps p (pilotCode high) false high low
  have hmeasured := s.pilotMeasured_keeps p (pilotCode high) false high low
  have hcable : (s.pilotMeasured p (pilotCode high) false high low).flag (F.TPT_CFG_PP_MODE p.val) = true :=
    (hmeasured.flag _ (testBit_rowOf (rowOf_TPT_CFG p) rfl)).trans htethered
  unfold execPilotStateChange
  rw [if_neg (ne_false_of_eq_true hpt)]
  extract_lets n old cp diode marked measured rated recent counted recognised
  have hcp : cp = pilotCode high := if_neg (ne_true_of_eq_false hfree)
  have hdiode : diode = false := by
    show (decide (0 < s.get (F.PTN_CP_DUTY p.val)) && _) = false
    rw [hduty]; rfl
  have hmeas : measured = s.pilotMeasured p (pilotCode high) false high low := by
    rw [← hcp, ← hdiode]; rfl
  have hrated : rated = s.pilotMeasured p (pilotCode high) false high low := by
    show (if measured.flag (F.TPT_CFG_PP_MODE p.val) then measured else _) = _
    rw [hmeas, if_pos hcable]
  have hbc : counted = s.bcCounted p (pilotCode high) := by
    rw [← hcp]
    show (if _ then rated.time.now :: List.filter _ (rated.sx p).bcChanges else
      List.filter _ (rated.sx p).bcChanges) = _
    rw [hrated]
    rfl
  have hrecognised : recognised = s.pilotRecognised p (pilotCode high) false high low := by
    show (rated.modSx p (fun x => { x with bcChanges := counted })).showPilot p = _
    rw [hrated, hbc]
    rfl
  rw [hrecognised, hcp, hdiode, if_pos ((congrArg isElec (hkeeps.type_ rfl p)).trans helec),
    State.ap_run ((hkeeps.running (by decide) .ap).trans hap)]

theorem pilotCode_B {high : Int} (hlow : 80 ≤ high) (hhigh : high ≤ 100) : pilotCode high = 1 :=
  (if_neg (by omega)).trans (if_pos ⟨hlow, hhigh⟩)

theorem State.length_bcCounted (h : (s.sx p).bcChanges = []) (cp : Nat) : (s.bcCounted p cp).length ≤ 1 := by
  unfold State.bcCounted
  rw [h]
  exact ite_of (Q := fun l : List Nat => l.length ≤ 1) le_rfl (Nat.zero_le 1)

/-- A vehicle that appears in state B at a tethered point is detected, and nothing else happens. -/
theorem State.pilotEvent_B (htethered : s.flag (F.TPT_CFG_PP_MODE p.val) = true)
    (hfew : (s.sx p).bcChanges.length ≤ 10) (habsent : (s.sx p).partner = false)
    (hconnected : (s.sessDetect p).sess p = 1) (old : Nat) : s.pilotEvent p old 1 false = s.sessDetect p := by
  unfold State.pilotEvent
  extract_lets tethered rated vent fault absent judged detected
  have hrated : rated = true := by
    show (tethered || _) = true
    rw [show tethered = true from htethered]; rfl
  have hfault : fault = false := by
    show (_ && (_ || decide (10 < (s.sx p).bcChanges.length) || _)) = false
    rw [decide_eq_false (not_lt.2 hfew)]
    rfl
  have hpresent : absent = false := by
    show (_ || (!tethered && _)) = false
    rw [show tethered = true from htethered]
    rfl
  have hjudged : judged = s := if_neg (ne_true_of_eq_false hfault)
  have hdetected : detected = s.sessDetect p := by
    show (if (judged.sx p).partner then judged else judged.sessDetect p) = _
    rw [hjudged]
    exact if_neg (ne_true_of_eq_false habsent)
  rw [hpresent, hfault, hrated, hdetected, hconnected]
  exact (if_neg (by decide)).trans ((if_neg (by decide)).trans ((if_neg (by omega)).trans
    (if_neg fun h => absurd (hconnected.symm.trans h.1) (by decide))))

/-! ### Messages of a vehicle (R187 to R189) -/

/-- A vehicle is heard from Connected to Ending, on an electrical point with a digital protocol. -/
theorem execVehicleMessage_heard (m : VehMsg) (hpt : s.running .pt = true) (hap : s.running .ap = true)
    (helec : isElec (s.type_ p) = true) (hdigital : s.digitalOn p = true) (h1 : 1 ≤ s.sess p) (h6 : s.sess p ≤ 6) :
    execVehicleMessage p m s = .next ((s.resumed p m).vehicle p m) :=
  congrArg Host.Outcome.next ((State.ptap_run hpt hap _).trans (if_pos ⟨helec, hdigital, h1, h6⟩))

theorem State.vehicle_violation (hsess : s.sess p = 5) :
    s.vehicle p .violation = (s.violation p).sessFault p 0x22 false :=
  if_pos (((s.violation_keeps p).sess rfl p).trans hsess)

/-- The fallback to basic charging: pilot state F at once (R187). -/
theorem State.fallback_basic (hsess : s.sess p = 1) (hac : isAc (s.type_ p) = true)
    (hbasic : (s.get (F.TPT_CFG_PROTO_EN p.val)).testBit 0 = true) : s.fallback p =
    ((s.set (F.TPT_STATE_PROTO p.val) 1).modSx p (fun x => { x with fallbackF := true })).showPilot p :=
  (if_neg (not_not_intro hsess)).trans (if_pos ⟨hac, hbasic⟩)

/-- In the fallback the point is in Connected with basic charging, its pilot held at state F. -/
theorem State.fallback_shows (hsess : s.sess p = 1) (hac : isAc (s.type_ p) = true)
    (hbasic : (s.get (F.TPT_CFG_PROTO_EN p.val)).testBit 0 = true) :
    (s.fallback p).get (F.TPT_STATE_PROTO p.val) = 1 ∧ ((s.fallback p).sx p).fallbackF = true ∧
      (s.fallback p).get (F.PTN_CP_CP_STATE p.val) = 5 ∧ (s.fallback p).sess p = 1 := by
  let chosen := (s.set (F.TPT_STATE_PROTO p.val) 1).modSx p (fun x => { x with fallbackF := true })
  have hshown := chosen.showPilot_keeps p
  have hheld : (chosen.sx p).fallbackF = true := by rw [State.sx_modSx_self]
  have hpilot : chosen.pilotF p = true := by rw [State.pilotF, hheld, Bool.or_true]
  rw [State.fallback_basic hsess hac hbasic, hshown.get _ (testBit_rowOf (rowOf_TPT_STATE p) rfl), hshown.sx rfl,
    State.cpState_showPilot_held hpilot, hshown.sess rfl]
  exact ⟨State.get_set_of_lt s (by decide : 23 < 32) (by decide : 1 < 2 ^ 8), hheld, rfl,
    (State.get_set_ne s _ (by decide : 23 < 32) (.inr (.inl (by decide : 3 < 16)))).trans hsess⟩

end

/-! ### The statement -/

/-- Settles O36: a pilot state is recognised and then acted on; each message of a vehicle by its own effect; the
fallback by what the pilot shows; silence as a lost heartbeat. -/
theorem pilotEvents : Obligations.PilotEvents := by
  unfold Obligations.PilotEvents
  refine ⟨?stateB, ?ptDown, ?protocol, ?identity, ?stop, ?violation, ?idle, ?discovery, ?fallbackEnd, ?noFallback,
    ?silent, ?noMessages⟩
  case stateB =>
    intro s p high low ohms hpt hap helec htethered hfree hduty hlow hhigh hchanges habsent hconnects
    have hcode := pilotCode_B hlow hhigh
    let seen := s.pilotRecognised p 1 false high low
    have hkeeps := s.pilotRecognised_keeps p 1 false high low
    have hsx := s.sx_pilotRecognised p 1 false high low
    obtain ⟨hcp, hdiode⟩ := State.pilotRecognised_shows hfree (by decide : 1 < 16) false high low
    obtain ⟨hsess, hpartner, hcp', hdiode'⟩ := State.sessDetect_shows (s := seen)
      ((State.mayConnect_of_keeps hkeeps helec).trans hconnects) ((congrArg isElec (hkeeps.type_ rfl p)).trans helec)
      ((hkeeps.pilotF rfl (by rw [hsx])).trans hfree)
    have hevent : seen.pilotEvent p (s.get (F.PTN_CP_CP_STATE p.val)) 1 false = seen.sessDetect p :=
      State.pilotEvent_B ((hkeeps.flag _ (testBit_rowOf (rowOf_TPT_CFG p) rfl)).trans htethered)
        (by rw [hsx]; exact (State.length_bcCounted hchanges 1).trans (by decide)) (by rw [hsx]; exact habsent) hsess _
    have hexec := execPilotStateChange_tethered hpt hap helec htethered hfree hduty high low ohms
    rw [hcode] at hexec
    exact ⟨_, hexec.trans (congrArg Host.Outcome.next hevent), hsess, hcp'.trans hcp, hdiode'.trans hdiode, hpartner⟩
  case ptDown => exact fun s p high low ohms hdown => if_pos hdown
  case protocol =>
    intro s p offered hpt hap helec hdigital hsess hproto hchosen
    refine (execVehicleMessage_heard _ hpt hap helec hdigital (by omega) (by omega)).trans ?_
    exact congrArg Host.Outcome.next ((if_neg (by simp [hsess, hproto, State.resumed])).trans (if_neg hchosen))
  case identity =>
    intro s p name cert hpt hap helec hdigital hsess hproto hname hauth
    let heard := s.modSx p (fun x => { x with adopted := false })
    obtain ⟨idx, limit, now, hsx⟩ := State.sx_sessIdentify (s := heard) hauth name cert
    refine ⟨heard.sessIdentify p name cert,
      (execVehicleMessage_heard _ hpt hap helec hdigital (by omega) (by omega)).trans
        (congrArg Host.Outcome.next (if_pos ⟨hsess, hproto, hname⟩)),
      State.sess_sessIdentify (s := heard) hauth name cert, ?_⟩
    rw [hsx, State.sx_modSx_self]
    exact ⟨rfl, rfl, rfl⟩
  case stop =>
    intro s p hpt hap helec hdigital hsess
    exact ⟨_, (execVehicleMessage_heard _ hpt hap helec hdigital (by omega) (by omega)).trans
      (congrArg Host.Outcome.next (State.sessPartnerStop_transferring hsess)), State.sess_sessStop _ p 1 false,
      State.reason_sessStop _ p false (by decide) (by decide)⟩
  case violation =>
    intro s p hpt hap helec hdigital hsess hpartner
    have hfault := (State.sessFault_present (s := s.violation p)
      (by rw [(s.violation_keeps p).sx rfl]; exact hpartner) (by decide : 0x22 ≠ 0) (by decide) false).2
    exact ⟨_, (execVehicleMessage_heard _ hpt hap helec hdigital (by omega) (by omega)).trans
      (congrArg Host.Outcome.next (State.vehicle_violation hsess)), hfault.state, hfault.reason⟩
  case idle =>
    intro s p m hsess
    exact congrArg Host.Outcome.next (State.ptap_same (if_neg fun h => by
      obtain ⟨-, -, h1, -⟩ := h
      omega))
  case discovery =>
    intro s p hpt hap helec hdigital hproto hsess hac hbasic
    exact ⟨_, congrArg Host.Outcome.next ((State.ptap_run hpt hap _).trans (if_pos ⟨helec, hdigital, hproto⟩)),
      State.fallback_shows hsess hac hbasic⟩
  case fallbackEnd =>
    intro s p hpt hheld
    let ended := s.modSx p (fun x => { x with fallbackF := false })
    have hshown := ended.showPilot_keeps p
    refine ⟨ended.showPilot p, if_neg (by simp [hpt, hheld]), ?_, hshown.sess rfl p⟩
    rw [hshown.sx rfl, State.sx_modSx_self]
  case noFallback => exact fun s p hfree => if_pos (.inr hfree)
  case silent =>
    intro s p hpt hap helec hproto h1 h5 hpartner
    have hfault := State.faulted_heartbeatLost h1 h5 hpartner
    exact ⟨_, congrArg Host.Outcome.next ((State.ptap_run hpt hap _).trans
      (if_pos ⟨helec, hproto, h1, h5.trans (by decide)⟩)), hfault.state, hfault.reason⟩
  case noMessages =>
    intro s p hproto
    exact congrArg Host.Outcome.next (State.ptap_same (if_neg fun h => absurd h.2.1 (not_le.2 hproto)))

end Sys2Proof.Machine
end

section
/-! SUPPORT. The host's session and point commands (R174, R175, R181, R183, R198, R199, R257, R266, R359): an identity
in the descriptor, a fault cleared, a type assigned, the contract table, and the statement. -/

namespace Sys2Proof.Machine

/-! ### Sessions (R175, R198) -/

/-- An answer to the host leaves a point's session as it is. -/
theorem State.sess_ok (s : State) (d : Desc) (bytes : List Byte) (p : Fin 8) : (s.ok d bytes).sess p = s.sess p := rfl

/-- The row of command 0x0101 in the catalogue, for an identity in the descriptor (R266). -/
abbrev identifySpec : CmdSpec :=
  { opcode := 0x0101, priv := some 0, isl := .ap, point := true, params := [(24, 1), (26, 30)] }

/-- An identity in the descriptor identifies a session in Connected, and its number is the answer. -/
theorem execIdentify_named {s : State} {d : Desc} (h : s.admits d identifySpec [(24, decide (30 < d.n 24 1))])
    (hnamed : d.n 24 1 ≠ 0) : execIdentify d s = .next (if s.sess d.pt ≠ 1 then s.wrongState d
      else (s.sessIdentify d.pt (slice d.bytes 26 (d.n 24 1)) false).ok d
        (natLE 4 ((s.sessIdentify d.pt (slice d.bytes 26 (d.n 24 1)) false).get (F.TPT_SESSION_NUMBER d.pt.val)))) := by
  unfold execIdentify
  simp only [if_neg hnamed]
  exact congrArg Host.Outcome.next (State.command_ok h)

/-- The row of command 0x0102 in the catalogue (R266). -/
abbrev authoriseSpec : CmdSpec :=
  { opcode := 0x0102, priv := some 0, isl := .ap, point := true, params := [(24, 1), (28, 4), (32, 4), (40, 8)] }

/-- The decision that the host was asked for: granted, or refused with reason 0x06. -/
theorem execAuthorise_asked {s : State} {d : Desc} (h : s.admits d authoriseSpec [(24, decide (1 < d.n 24 1))])
    (hsess : s.sess d.pt = 2) (hnumber : s.numberOk d = true) (hasked : (s.sx d.pt).hostAsked = true) :
    execAuthorise d s = .next (if d.n 24 1 = 1 then (s.sessGrant d.pt 3 (d.n 40 8)).ok d []
      else (s.sessClose d.pt 0x06).ok d []) :=
  congrArg Host.Outcome.next ((State.command_ok h).trans (if_neg (by simp [hsess, hnumber, hasked])))

/-- The row of command 0x0104 in the catalogue (R266). -/
abbrev stopSpec : CmdSpec := { opcode := 0x0104, priv := some 0, isl := .ap, point := true, params := [(28, 4)] }

theorem execStopSession_named {s : State} {d : Desc} (h : s.admits d stopSpec) (hnumber : s.numberOk d = true)
    (h2 : 2 ≤ s.sess d.pt) (h5 : s.sess d.pt ≤ 5) :
    execStopSession d s = .next ((s.sessStopBy d.pt 0x02).ok d []) :=
  congrArg Host.Outcome.next ((State.command_ok h).trans ((if_neg (ne_false_of_eq_true hnumber)).trans
    (if_pos ⟨h2, h5⟩)))

/-! ### A fault cleared (R181) -/

/-- The latch of a point ended, its session still in Faulted. -/
def State.latchEnded (s : State) (p : Fin 8) : State :=
  { s.set (F.TPT_STATE_WELD p.val) 0 with tpt := { s.tpt with latched := s.tpt.latched.set p 0 } }

/-- What a point shows whose fault is cleared. -/
theorem State.faultCleared_shows (s : State) (p : Fin 8) :
    (s.faultCleared p).sess p = 0 ∧ (s.faultCleared p).get (F.TPT_STATE_WELD p.val) = 0 ∧
      (s.faultCleared p).tpt.latched[p] = 0 ∧ ((s.faultCleared p).sx p).weldCmd = (s.sx p).weldCmd ∧
      (s.faultCleared p).host.results = s.host.results := by
  have hcleared : s.faultCleared p = (s.latchEnded p).enter p 0 0 := rfl
  rw [hcleared, State.sx_enter, State.results_enter, State.latched_enter,
    State.get_enter_tptState _ p 0 0 (f := F.TPT_STATE_WELD p.val) rfl (by decide : 3 < 10) (by decide : 10 < 24)]
  exact ⟨State.sess_enter _ p 0 (by decide),
    State.get_set_of_lt (f := F.TPT_STATE_WELD p.val) s (by decide : 10 < 32) (by decide : 0 < 2 ^ 1),
    Vector.getElem_set_self p.isLt, rfl, rfl⟩

/-- The row of command 0x0105 in the catalogue (R266). -/
abbrev clearFaultSpec : CmdSpec := { opcode := 0x0105, priv := some 0, isl := .ap, point := true }

/-- A faulted point with nothing pending is cleared at once, or after the weld row where a weld latched. -/
theorem execClearFault_faulted {s : State} {d : Desc} (h : s.admits d clearFaultSpec) (hsess : s.sess d.pt = 15)
    (habsent : (s.sx d.pt).partner = false) (hrecorded : (s.sx d.pt).recDue = false)
    (hidle : (s.sx d.pt).weldCmd = none) : execClearFault d s = .next (if s.tpt.latched[d.pt] = 0x12 then
      (s.openPoint d.pt).modSx d.pt (fun x => { x with weldQ := 0, weldCmd := some d })
    else (s.faultCleared d.pt).ok d []) :=
  congrArg Host.Outcome.next ((State.command_ok h).trans (if_neg (by simp [hsess, habsent, hrecorded, hidle])))

/-- The end of a weld row under way, passed over enough quanta or failed. -/
theorem execWeldCheckEnd_ended {s : State} {p : Fin 8} {passed : Bool} {d : Desc} (hrun : s.running .ap = true)
    (hcmd : (s.sx p).weldCmd = some d) (hquanta : passed = true → 5 ≤ (s.sx p).weldQ) :
    execWeldCheckEnd p passed s = .next (if passed then
      ((s.modSx p (fun x => { x with weldCmd := none })).faultCleared p).ok d []
    else (s.modSx p (fun x => { x with weldCmd := none })).complete d 0x0007 15 []) := by
  refine congrArg Host.Outcome.next ((State.ap_run hrun _).trans ?_)
  dsimp only
  rw [hcmd]
  exact if_neg fun h => absurd (hquanta h.1) (not_le.2 h.2)

/-! ### A point's type (R174, R359) -/

/-- The row of command 0x0109 in the catalogue (R266). -/
abbrev assignTypeSpec : CmdSpec := { opcode := 0x0109, priv := some 2, isl := .ap, point := true, params := [(24, 1)] }

/-- A type that waits for the next quantum boundary. -/
def State.typeWaiting (s : State) (p : Fin 8) (new : Nat) : State :=
  { s with met := { s.met with typePend := s.met.typePend.set p (some new) } }

/-- The assignment logged, with EV123. -/
def State.typeLogged (s : State) (d : Desc) (old : Nat) : State :=
  ((s.typeWaiting d.pt (d.n 24 1)).log
    { type_ := 0x0032, src := d.logSrc, point := d.point, sub := 4,
      payload := natLE 1 old ++ natLE 1 (d.n 24 1) ++ zeros 14 ++ natLE 1 (s.get F.KEY_CHG_LEFT_TYPE) }).raise
    { src := 123 }

/-- A type assigned, its fuse blown before. -/
def assignType (d : Desc) (old : Nat) (s : State) : State :=
  (s.typeLogged d old).ok d (natLE 1 (s.get F.KEY_CHG_LEFT_TYPE))

section
variable {s : State} {d : Desc} (h : s.admits d assignTypeSpec [(24, decide (6 < d.n 24 1))])
include h

theorem execAssignPointType_sealed (hseal : s.sealOpen = false) :
    execAssignPointType d s = .next (s.complete d 0x0004 0 []) := by
  refine congrArg Host.Outcome.next ((State.command_ok h).trans ?_)
  dsimp only
  rw [hseal]
  rfl

/-- Under the open seal an idle point takes a type for one change, where it has no other waiting. -/
theorem execAssignPointType_checked (hseal : s.sealOpen = true) (hsess : s.sess d.pt = 0)
    (hleft : 0 < s.get F.KEY_CHG_LEFT_TYPE) (hlog : s.logRefusing = false) (hnone : s.met.typePend[d.pt] = none) :
    execAssignPointType d s = .next (if d.n 24 1 = s.type_ d.pt then s.ok d (natLE 1 (s.get F.KEY_CHG_LEFT_TYPE))
      else s.limited d F.KEY_CHG_LEFT_TYPE (assignType d (s.type_ d.pt))) := by
  have hpass : firstFail [(s.sealOpen, 0x0004, 0), (s.sess d.pt == 0, 0x0007, s.sess d.pt),
      (decide (0 < s.get F.KEY_CHG_LEFT_TYPE), 0x0005, 0), (!s.logRefusing, 0x0006, 0)] = none :=
    firstFail_none (by simp [hseal, hsess, hleft, hlog])
  refine congrArg Host.Outcome.next ((State.command_ok h).trans ?_)
  dsimp only
  rw [hpass, hnone]
  rfl

end

theorem State.typeLogged_keeps (s : State) (d : Desc) (old : Nat) :
    Keeps 98576 0x800000000000000000000000000080000000000000000000018088800000 (s.typeWaiting d.pt (d.n 24 1))
      (s.typeLogged d old) :=
  .app (State.raise_keeps _ _) rfl rfl (.app (State.log_keeps _ _) rfl rfl .rfl)

theorem assignType_shows (d : Desc) (old : Nat) (s : State) :
    (assignType d old s).met.typePend = s.met.typePend.set d.pt (some (d.n 24 1)) ∧
      (assignType d old s).get F.KEY_CHG_LEFT_TYPE = s.get F.KEY_CHG_LEFT_TYPE ∧
      (assignType d old s).host.results = s.host.results ++ [⟨d, 0, 0, natLE 1 (s.get F.KEY_CHG_LEFT_TYPE)⟩] := by
  have hkeeps := s.typeLogged_keeps d old
  exact ⟨congrArg MetS.typePend (hkeeps.met rfl), hkeeps.get F.KEY_CHG_LEFT_TYPE (by decide),
    congrArg (· ++ [_]) ((State.results_raise _ _).trans (State.results_log _ _))⟩

/-! ### The contract table (R199) -/

/-- The contract table replaced, with the number of its valid entries and its version. -/
def State.contractsLoaded (s : State) (table : List Byte) (valid version : Nat) : State :=
  (State.set { s with tpt := { s.tpt with table := table } } F.TPT_CTAB_STATUS_COUNT valid).set
    F.TPT_CTAB_STATUS_VERSION version

theorem State.contractsLoaded_shows (s : State) (table : List Byte) (valid : Nat) {version : Nat}
    (hversion : version < 2 ^ 16) :
    (s.contractsLoaded table valid version).get F.TPT_CTAB_STATUS_COUNT = valid % 2 ^ 12 ∧
      (s.contractsLoaded table valid version).get F.TPT_CTAB_STATUS_VERSION = version :=
  ⟨(State.get_set_ne _ _ (by decide) (by decide)).trans (State.get_set_self _ _ _ (by decide)),
    State.get_set_of_lt _ (by decide) hversion⟩

/-! ### The statement -/

/-- Settles O35: each command by its checks and its own effect; what a granted, closed, stopped or cleared session shows
is that of the session machine. -/
theorem sessionCommands : Obligations.SessionCommands := by
  unfold Obligations.SessionCommands
  refine ⟨?identify, ?identifyState, ?grant, ?refuse, ?authoriseState, ?good, ?notAsked, ?stopEarly, ?stopTransfer,
    ?stopNumber, ?clear, ?clearWeld, ?clearState, ?weldPassed, ?weldFailed, ?noWeld, ?service, ?serviceState, ?limit,
    ?limitRange, ?assign, ?assignSame, ?assignSealed, ?contracts⟩
  case identify =>
    intro s d hadmits hnamed hsess hauth hcount
    let t := s.sessIdentify d.pt (slice d.bytes 26 (d.n 24 1)) false
    have hnumber : t.get (F.TPT_SESSION_NUMBER d.pt.val) = s.tpt.counter.toNat + 1 :=
      (State.number_sessIdentify hauth _ _).trans (State.nextSession_eq hcount)
    obtain ⟨idx, limit, now, hsx⟩ := State.sx_sessIdentify hauth (slice d.bytes 26 (d.n 24 1)) false
    have hexec := (execIdentify_named hadmits hnamed).trans (congrArg Host.Outcome.next (if_neg (not_not_intro hsess)))
    rw [hnumber] at hexec
    exact ⟨_, hexec, State.sess_sessIdentify hauth _ _, hnumber, congrArg Sess.ident hsx, congrArg Sess.hostAsked hsx,
      congrArg (· ++ [_]) (State.results_sessIdentify hauth _ _)⟩
  case identifyState =>
    intro s d hadmits hnamed hsess
    exact (execIdentify_named hadmits hnamed).trans (congrArg Host.Outcome.next (if_pos hsess))
  case grant =>
    intro s d hadmits hsess hnumber hasked hgranted
    obtain ⟨hstate, hsource, hprepaid, -⟩ := s.sessGrant_shows d.pt (d.n 40 8) (by decide : 3 < 4)
    refine ⟨_, (execAuthorise_asked hadmits hsess hnumber hasked).trans (congrArg Host.Outcome.next (if_pos hgranted)),
      ?_, ?_, hprepaid⟩
    · rw [State.sess_ok, hstate]
    · rw [State.ok_get, hsource]
  case refuse =>
    intro s d hadmits hsess hnumber hasked hpartner hrefused
    refine ⟨_, (execAuthorise_asked hadmits hsess hnumber hasked).trans
      (congrArg Host.Outcome.next (if_neg (by omega))), ?_⟩
    rw [State.sess_ok, State.ok_get]
    exact State.sessClose_present hpartner (by decide) (by decide)
  case authoriseState =>
    intro s d hadmits hwrong
    exact congrArg Host.Outcome.next ((State.command_ok hadmits).trans (if_pos (hwrong.imp_right .inl)))
  case good =>
    intro s d hadmits hsess hnumber hwait hgood
    obtain ⟨hstate, hsource, -, hanswered⟩ := s.sessGrant_shows d.pt 0 (by decide : 1 < 4)
    refine ⟨_, congrArg Host.Outcome.next ((State.command_ok hadmits).trans
      ((if_neg (by simp [hsess, hnumber, hwait])).trans (if_pos hgood))), ?_, ?_, hanswered⟩
    · rw [State.sess_ok, hstate]
    · rw [State.ok_get, hsource]
  case notAsked =>
    intro s d hadmits hsess hnumber hwait
    rw [← hsess]
    exact congrArg Host.Outcome.next ((State.command_ok hadmits).trans (if_pos (.inr (.inr hwait))))
  case stopEarly =>
    intro s d hadmits hnumber h2 h4 hpartner
    have hexec := execStopSession_named hadmits hnumber h2 (h4.trans (by decide))
    rw [State.sessStopBy_early h2 h4] at hexec
    refine ⟨_, hexec, ?_⟩
    rw [State.sess_ok, State.ok_get]
    exact State.sessClose_present hpartner (by decide) (by decide)
  case stopTransfer =>
    intro s d hadmits hnumber hsess
    have hexec := execStopSession_named hadmits hnumber (by omega) hsess.le
    rw [State.sessStopBy_transferring hsess] at hexec
    have hsx := s.sx_sessStop d.pt 2
    exact ⟨_, hexec, s.sess_sessStop d.pt 2 false, s.reason_sessStop d.pt false (by decide) (by decide),
      congrArg Sess.waitEnd hsx, congrArg Sess.waitSafe hsx⟩
  case stopNumber =>
    intro s d hadmits hnumber
    exact congrArg Host.Outcome.next ((State.command_ok hadmits).trans (if_pos hnumber))
  case clear =>
    intro s d hadmits hsess habsent hrecorded hidle hlatched
    obtain ⟨hstate, hweld, hnone, -, -⟩ := s.faultCleared_shows d.pt
    exact ⟨_, (execClearFault_faulted hadmits hsess habsent hrecorded hidle).trans
      (congrArg Host.Outcome.next (if_neg hlatched)), hstate, hweld, hnone⟩
  case clearWeld =>
    intro s d hadmits hsess habsent hrecorded hidle hlatched
    have hopened := s.openPoint_keeps d.pt
    refine ⟨_, (execClearFault_faulted hadmits hsess habsent hrecorded hidle).trans
      (congrArg Host.Outcome.next (if_pos hlatched)), (hopened.sess rfl d.pt).trans hsess, ?_, ?_,
      congrArg HostS.results (hopened.host rfl)⟩
    · rw [State.sx_modSx_self]
    · rw [State.sx_modSx_self]
  case clearState =>
    intro s d hadmits hwrong
    exact congrArg Host.Outcome.next ((State.command_ok hadmits).trans (if_pos (hwrong.imp_right .inl)))
  case weldPassed =>
    intro s p passed d hrun hcmd hpassed hquanta
    obtain ⟨hstate, hweld, -, hended, hresults⟩ :=
      (s.modSx p (fun x => { x with weldCmd := none })).faultCleared_shows p
    refine ⟨_, (execWeldCheckEnd_ended hrun hcmd fun _ => hquanta).trans (congrArg Host.Outcome.next (if_pos hpassed)),
      hstate, hweld, hended.trans ?_, congrArg (· ++ [_]) hresults⟩
    rw [State.sx_modSx_self]
  case weldFailed =>
    intro s p passed d hrun hcmd hfailed
    refine ⟨_, (execWeldCheckEnd_ended hrun hcmd fun h => absurd (hfailed.symm.trans h) (by decide)).trans
      (congrArg Host.Outcome.next (if_neg (ne_true_of_eq_false hfailed))), rfl, ?_, rfl⟩
    exact congrArg Sess.weldCmd (s.sx_modSx_self p (fun x => { x with weldCmd := none }))
  case noWeld =>
    intro s p passed hnone
    refine congrArg Host.Outcome.next (State.ap_same ?_)
    dsimp only
    rw [hnone]
  case service =>
    intro s d hadmits hrest
    exact congrArg Host.Outcome.next ((State.command_ok hadmits).trans (if_neg (ne_false_of_eq_true hrest)))
  case serviceState =>
    intro s d hadmits hbusy
    exact congrArg Host.Outcome.next ((State.command_ok hadmits).trans (if_pos hbusy))
  case limit =>
    intro s d hadmits
    let limited := s.modSx d.pt (fun x => { x with hostLimit := if d.n 24 2 = 0xFFFF then none else some (d.n 24 2) })
    have hshown := limited.showPilot_keeps d.pt
    refine ⟨_, congrArg Host.Outcome.next (State.command_ok hadmits), ?_,
      congrArg (· ++ [_]) (congrArg HostS.results (hshown.host rfl))⟩
    exact congrArg Sess.hostLimit ((hshown.sx rfl d.pt).trans (State.sx_modSx_self _ _ _))
  case limitRange => exact fun s d hfails => congrArg Host.Outcome.next (State.command_fails hfails)
  case assign =>
    intro s d hadmits hseal hsess hleft hlog hsupply hfuses hnone hnew
    obtain ⟨hpend, hshown, hresults⟩ := assignType_shows d (s.type_ d.pt)
      (s.set F.KEY_CHG_LEFT_TYPE (s.get F.KEY_CHG_LEFT_TYPE - 1))
    have hfuse := s.get_fuse (f := F.KEY_CHG_LEFT_TYPE) (by decide)
    rw [hfuse] at hshown hresults
    exact ⟨_, (execAssignPointType_checked hadmits hseal hsess hleft hlog hnone).trans
      (congrArg Host.Outcome.next ((if_neg hnew).trans (State.limited_ok d _ hsupply hfuses hleft))), hpend, hshown,
      hresults⟩
  case assignSame =>
    intro s d hadmits hseal hsess hleft hlog hnone hsame
    exact (execAssignPointType_checked hadmits hseal hsess hleft hlog hnone).trans
      (congrArg Host.Outcome.next (if_pos hsame))
  case assignSealed => exact fun s d hadmits hseal => execAssignPointType_sealed hadmits hseal
  case contracts =>
    intro s d hadmits
    exact ⟨_, congrArg Host.Outcome.next (State.command_ok hadmits), rfl,
      s.contractsLoaded_shows (s.staged d) _ (fld_lt d.bytes 24 2)⟩

end Sys2Proof.Machine
end

section
/-! SUPPORT. The load-switch channels (R205 to R217, R409): faults and their retries, shedding, generators, the field
supply, and holds. -/

namespace Sys2Proof.Machine

/-! ### Faults of a channel (R206 to R208) -/

/-- An over-current of a channel that is on counts and is a fault of the channel. -/
theorem State.overCurrent_on {s : State} {n : Fin 16} (h : s.lsOn n = true) :
    s.overCurrent n = (s.count (F.LSW_CH_CNT_OVERCUR n.val) 1).faultChan n 76 := if_pos h

/-- Settles O40: each event by the guard of its command, which asks for a channel that is on, paused or watched. -/
theorem loadSwitchFaults : Obligations.LoadSwitchFaults := by
  unfold Obligations.LoadSwitchFaults
  refine ⟨?short, ?overCurrent, ?hotCell, ?pauseEnds, ?sequenceEnds, fun s n => rfl, ?openLoad, ?loadBack⟩
  case short => exact fun s n hon => if_neg (ne_false_of_eq_true hon)
  case overCurrent => exact fun s n hon => congrArg Host.Outcome.next (State.overCurrent_on hon)
  case hotCell => exact fun s n hon => congrArg Host.Outcome.next (State.overCurrent_on hon)
  case pauseEnds => exact fun s n hpause => if_neg (ne_false_of_eq_true (beq_iff_eq.2 hpause))
  case sequenceEnds => exact fun s n hon => if_neg (ne_false_of_eq_true hon)
  case openLoad => exact fun s n hwatched => if_neg (ne_false_of_eq_true hwatched)
  case loadBack => exact fun s n hwatched => if_neg (ne_false_of_eq_true hwatched)

/-! ### The limits of the aggregate (R210, R409) -/

section
variable {P B : Nat} {s t : State} (h : Keeps P B s t) (hb : B.testBit (rowOf F.MG_PART_ORDER.off) = false)
include h hb

theorem Keeps.meanLimit : t.meanLimit = s.meanLimit :=
  congrArg (fun order => if order = 0x54 then 1200 else 2400) (h.get F.MG_PART_ORDER hb)

theorem Keeps.instLimit : t.instLimit = s.instLimit :=
  congrArg (fun order => if order = 0x54 then 4000 else 6000) (h.get F.MG_PART_ORDER hb)

theorem Keeps.returnLimit : t.returnLimit = s.returnLimit :=
  congrArg (fun order => if order = 0x54 then 1000 else 2000) (h.get F.MG_PART_ORDER hb)

end

/-- The limits are those of the part, whatever the aggregate shows. -/
theorem execAggregateOverload_eq (mean inst : Nat) (s : State) :
    execAggregateOverload mean inst s = if s.meanLimit < mean ∨ s.instLimit < inst then
      .next { s.showAgg mean inst with lsw := { s.lsw with shedCur := true, returning := false } }
    else .next (s.showAgg mean inst) := by
  have hkeeps := s.showAgg_keeps mean inst
  rw [← hkeeps.meanLimit (by decide), ← hkeeps.instLimit (by decide)]
  rfl

theorem execShedReturn_eq (mean : Nat) (s : State) :
    execShedReturn mean s = .next (if mean < s.returnLimit ∧ s.lsw.shedCur = false then
      { s.setSat F.LSW_AGG_MEAN mean with lsw := { s.lsw with returning := true } }
    else s.setSat F.LSW_AGG_MEAN mean) := by
  have hkeeps : Keeps 0 (2 ^ rowOf R.LSW_AGG) s (s.setSat F.LSW_AGG_MEAN mean) :=
    .setSat (.of (by decide) in_LSW_AGG) .rfl
  rw [← hkeeps.returnLimit (by decide)]
  rfl

/-! ### Shedding (R210, R211) -/

/-- A millisecond of shedding for the current alone, at or above the limit, sheds one more channel for the current. -/
theorem execShedStep_current {s : State} {mean : Nat} (hcur : s.lsw.shedCur = true) (htemp : s.lsw.shedTemp = false)
    (hmean : s.meanLimit ≤ mean) : execShedStep mean s =
      .next (State.shedOne { s with lsw := { s.lsw with shedCur := true, shedTemp := false } } false) := by
  have hcur' : (s.lsw.shedCur && decide (s.meanLimit ≤ mean)) = true := by rw [hcur, decide_eq_true hmean]; rfl
  have htemp' : (s.lsw.shedTemp && decide (145 ≤ s.arrayTemp)) = false := by rw [htemp]; rfl
  simp only [execShedStep, hcur', htemp']
  rfl

/-- A channel that may return does so while nothing is being shed. -/
theorem execShedRestoreStep_returns {s : State} {n : Fin 16} (hcur : s.lsw.shedCur = false)
    (htemp : s.lsw.shedTemp = false) (hnext : s.nextReturn = some n) : execShedRestoreStep s = .next (s.unshed n) := by
  refine (if_neg (by simp [hcur, htemp])).trans ?_
  rw [hnext]

/-! ### The array temperature (R211) -/

/-- What a sample of the array temperature shows: the value, and EV079 as it reaches 140 degrees. -/
def State.arrayTempShown (s : State) (degC : Int) : State :=
  if s.arrayTemp < 140 ∧ 140 ≤ degC then
    (s.set F.LSW_THERM_TEMP (ofSigned 9 (max (-256) (min 255 degC)))).raise { src := 79 }
  else s.set F.LSW_THERM_TEMP (ofSigned 9 (max (-256) (min 255 degC)))

theorem State.lsw_arrayTempShown (s : State) (degC : Int) : (s.arrayTempShown degC).lsw = s.lsw := by
  unfold State.arrayTempShown
  split
  · exact (State.raise_keeps _ _).lsw rfl
  · rfl

theorem State.shedTemp_same {s : State} {b : Bool} (h : s.lsw.shedTemp = b) :
    { s with lsw := { s.lsw with shedTemp := b } } = s := by subst h; rfl

/-- Below 150 degrees an array that sheds nothing for its temperature only shows it. -/
theorem execArrayTemperature_mild {s : State} {degC : Int} (h : degC < 150) (hshed : s.lsw.shedTemp = false) :
    execArrayTemperature degC s = .next (s.arrayTempShown degC) := by
  have hnone : (s.arrayTempShown degC).lsw.shedTemp = false := by rw [State.lsw_arrayTempShown, hshed]
  have hon : (decide (150 ≤ degC) || ((s.arrayTempShown degC).lsw.shedTemp && decide (145 ≤ degC))) = false := by
    rw [hnone, decide_eq_false (by omega : ¬ 150 ≤ degC)]; rfl
  calc execArrayTemperature degC s
    _ = .next { s.arrayTempShown degC with lsw := { (s.arrayTempShown degC).lsw with
          shedTemp := decide (150 ≤ degC) || ((s.arrayTempShown degC).lsw.shedTemp && decide (145 ≤ degC)) } } :=
      congrArg Host.Outcome.next (if_neg (by omega : ¬ 165 ≤ degC))
    _ = .next (s.arrayTempShown degC) := by rw [hon, State.shedTemp_same hnone]

/-- A temperature from 0 to 255 degrees is shown as it is. -/
theorem ofSigned_clamped {degC : Int} (h0 : 0 ≤ degC) (h255 : degC < 256) :
    ofSigned 9 (max (-256) (min 255 degC)) = degC.toNat := by
  have hclamp : max (-256) (min 255 degC) = degC := by omega
  rw [hclamp, ofSigned, Int.emod_eq_of_lt h0 (by omega)]

/-! ### Generators (R214) -/

/-- What a generator takes at the start of a period: its period, its duty and whether it runs. -/
def State.pwmTaken (s : State) (g : Fin 8) : State :=
  { s with lsw := { s.lsw with pwm := s.lsw.pwm.set g (s.get (F.LSW_PWM_PER_PERIOD g.val),
      s.get (F.LSW_PWM_DUTY_DUTY g.val), s.flag (F.LSW_PWM_DUTY_EN g.val)) } }

/-- The channels that follow a generator. -/
def State.pwmFollowers (s : State) (g : Fin 8) : List (Fin 16) :=
  lsChans.filter (fun n => s.flag (F.LSW_CH_CFG_PWM_EN (s.leader n).val) &&
    s.get (F.LSW_CH_CFG_GEN (s.leader n).val) == g.val)

theorem State.pwmFollowers_none {s : State} (h : ∀ n : Fin 16, s.get (F.LSW_CH_CFG_PWM_EN n.val) = 0) (g : Fin 8) :
    s.pwmFollowers g = [] :=
  List.filter_eq_nil_iff.2 fun n _ => by simp [State.flag, h]

theorem execPwmPeriodStart_static {s : State} {g : Fin 8} (h : (s.pwmTaken g).pwmFollowers g = []) :
    execPwmPeriodStart g s = .next (s.pwmTaken g) :=
  congrArg (fun mine => Host.Outcome.next (List.foldl _ (s.pwmTaken g) mine)) h

/-! ### The field supply (R212, R215, R233) -/

/-- Below 5.5 V but not below 4.5 V, outside an undervoltage, the channels see a dip. -/
theorem execVfieldDip_dips {s : State} {v : Nat} (huv : s.get F.LSW_STATUS_UV_OFF = 0) (hlow : 450 ≤ v)
    (hdip : v < 550) :
    execVfieldDip v s = .next ((s.setSat F.LSW_STATUS_VFIELD v).set F.LSW_STATUS_DIP 1) := by
  have hflag : (s.setSat F.LSW_STATUS_VFIELD v).flag F.LSW_STATUS_UV_OFF ≠ true := by
    rw [State.setSat, State.flag, State.get_set_ne _ _ (by decide) (by decide), huv]
    decide
  refine (if_neg hflag).trans ((if_neg (by omega : ¬ 600 ≤ v)).trans ?_)
  rw [decide_eq_true hlow, decide_eq_true hdip]
  rfl

/-- The points of the channels that an undervoltage switches off stop. -/
def State.uvStopped (s : State) (v : Nat) : State :=
  (s.uvOff v).2.foldl (fun (s : State) n => s.channelStop n 0x26) (s.uvOff v).1

/-- Neither the points nor the safety functions act on the display's rails. -/
theorem State.rail_uvStopped_safUv (s : State) (v : Nat) : (s.uvStopped v).safUv.rail = s.rail := by
  have hoff := KeepsF.fst (s.uvOff_keeps v)
  have hstop : Keeps 99696 0x800000000100000000010588030000000000000000000000018088800000 (s.uvOff v).1
      (s.uvStopped v) :=
    foldl_of .rfl fun t n _ h => .app (t.channelStop_keeps n 0x26) rfl rfl h
  calc (s.uvStopped v).safUv.rail
    _ = (s.uvStopped v).rail := (s.uvStopped v).safUv_keeps.get F.LDP_STATUS_RAIL (by decide)
    _ = (s.uvOff v).1.rail := hstop.get F.LDP_STATUS_RAIL (by decide)
    _ = s.rail := hoff.get F.LDP_STATUS_RAIL (by decide)

/-- With the rails off there is nothing to discharge. -/
theorem execUvOff_railsOff {s : State} {v : Nat} (hlow : v < 450) (huv : s.get F.LSW_STATUS_UV_OFF = 0)
    (hrail : s.rail = 0) : execUvOff v s = .next (s.uvStopped v).safUv := by
  have hnew : ¬ (450 ≤ v ∨ s.flag F.LSW_STATUS_UV_OFF = true) := by
    rw [State.flag, huv]
    simp [hlow]
  exact congrArg Host.Outcome.next ((if_neg hnew).trans (if_pos ((s.rail_uvStopped_safUv v).trans hrail)))

/-! ### Holds (R217) -/

/-- PW reclaims a held channel of the host as it is commanded. -/
theorem execChannelReclaim_host {s : State} {n : Fin 16} (hrun : s.running .pw = true)
    (hheld : s.flag (F.LSW_CH_STAT_HELD n.val) = true) (hown : s.pointOwned n = false) :
    execChannelReclaim n s = .next (s.commandChan n (s.commanded (s.leader n))) := by
  refine (if_neg (by simp [hrun, hheld])).trans ?_
  rw [hown, Bool.not_false, Bool.true_or, Bool.and_true]

/-- Settles O41: the limits are those of the part through what each event shows; a temperature below 150 degrees is only
shown; a generator that no channel follows changes itself alone; an undervoltage leaves the display's rails alone. -/
theorem loadSwitchSupply : Obligations.LoadSwitchSupply := by
  unfold Obligations.LoadSwitchSupply
  refine ⟨?overload, ?shedStep, ?mayReturn, ?returns, ?warm, ?generator, ?dip, ?undervoltage, ?recovery, ?reclaim,
    ?holdEnds⟩
  case overload => exact fun s mean inst hover => (execAggregateOverload_eq mean inst s).trans (if_pos hover)
  case shedStep => exact fun s mean hcur htemp hmean => execShedStep_current hcur htemp hmean
  case mayReturn =>
    exact fun s mean hmean hcur =>
      (execShedReturn_eq mean s).trans (congrArg Host.Outcome.next (if_pos ⟨hmean, hcur⟩))
  case returns => exact fun s n hcur htemp hnext => execShedRestoreStep_returns hcur htemp hnext
  case warm =>
    intro s degC hwarm hmild hold hshed
    rw [← ofSigned_clamped (by omega : 0 ≤ degC) (by omega)]
    exact (execArrayTemperature_mild hmild hshed).trans (congrArg Host.Outcome.next (if_pos ⟨hold, hwarm⟩))
  case generator => exact fun s g hstatic => execPwmPeriodStart_static (State.pwmFollowers_none hstatic g)
  case dip => exact fun s v huv hlow hdip => execVfieldDip_dips huv hlow hdip
  case undervoltage => exact fun s v hlow huv hrail => execUvOff_railsOff hlow huv hrail
  case recovery => exact fun s v hback => congrArg Host.Outcome.next (if_neg (not_lt.2 hback))
  case reclaim =>
    exact fun s n hrun hheld hown => execChannelReclaim_host hrun (beq_iff_eq.2 hheld) hown
  case holdEnds =>
    intro s l hheld hsome
    subst hheld
    exact if_neg hsome

end Sys2Proof.Machine
end

section
/-! SUPPORT. The safety function's resets and its configuration (R234, R235, R238): a write of SAF_RESET_REQ by its key
and its restart bit, and the two commands by their checks. -/

namespace Sys2Proof.Machine

/-! ### The written word (R234, R235) -/

/-- A field within a field. -/
theorem bitsOf_bitsOf {x hi lo hi' lo' : Nat} (h : lo + hi' ≤ hi) :
    bitsOf (bitsOf x hi lo) hi' lo' = bitsOf x (lo + hi') (lo + lo') := by
  apply Nat.eq_of_testBit_eq
  intro i
  simp only [testBit_bitsOf, Nat.add_assoc, ← Bool.and_assoc, ← Bool.decide_and]
  congr 2
  exact propext (by omega)

/-- The key, the reserved bits and FAULT_CLR of a word that may only ask for resets. -/
theorem safResetWord_fields {v : Nat} (h : bitsOf v 31 8 = 0xA5C300) :
    bitsOf v 31 16 = 0xA5C3 ∧ bitsOf v 15 9 = 0 ∧ v.testBit 8 = false := by
  have hkey : bitsOf (bitsOf v 31 8) 23 8 = bitsOf v 31 16 := bitsOf_bitsOf (by decide)
  have hzero : bitsOf (bitsOf v 31 8) 7 1 = bitsOf v 15 9 := bitsOf_bitsOf (by decide)
  have hclear : (bitsOf v 31 8).testBit 0 = v.testBit 8 := testBit_bitsOf v 31 8 0
  rw [h] at hkey hzero hclear
  exact ⟨hkey.symm, hzero.symm, hclear.symm⟩

/-! ### A write of SAF_RESET_REQ -/

/-- The functions that a written word names, each reset where host software resets it (R234). -/
def State.hostResets (s : State) (v : Nat) : State :=
  (fns.filter (fun f => v.testBit f.val)).foldl (fun s f =>
    s.resetFn f ([1, 2, 4].contains (s.fnType f) && s.get (F.SAF_FUNC_RESET_SRC f.val) == 0xF)) s

/-- A word that names no function resets none. -/
theorem State.hostResets_none (s : State) {v : Nat} (h : ∀ f : Fin 6, v.testBit f.val = false) :
    s.hostResets v = s := by
  rw [State.hostResets, List.filter_eq_nil_iff.2 fun f _ => by rw [h f]; exact Bool.false_ne_true, List.foldl_nil]

/-- Without the key, or with a reserved bit, a write is discarded. -/
theorem State.writeSafReset_refused (s : State) {v : Nat} (h : bitsOf v 31 16 ≠ 0xA5C3 ∨ bitsOf v 15 9 ≠ 0) :
    s.writeSafReset v = s.discard := if_pos h

/-- A write with the key restarts the safety function, where asked and without a reference fault, and then resets. -/
theorem State.writeSafReset_keyed (s : State) {v : Nat} (hkey : bitsOf v 31 16 = 0xA5C3) (hzero : bitsOf v 15 9 = 0) :
    s.writeSafReset v =
      ((if v.testBit 8 = true ∧ s.refFault = false then s.safRestart else s).hostResets v).safSettle :=
  if_neg (not_or.2 ⟨not_not_intro hkey, not_not_intro hzero⟩)

theorem registerAt_SAF_RESET_REQ :
    RegisterAt R.SAF_RESET_REQ ⟨0x70018, 0x0, 1, .sf, 0, [⟨31, 16, .wo⟩, ⟨15, 9, .wo⟩, ⟨8, 8, .wo⟩, ⟨7, 6, .wo⟩,
      ⟨5, 0, .wo⟩]⟩ := by decide

section
variable {s : State} (v : Word) (hi : s.running .hi = true) (hsf : s.running .sf = true)
include hi hsf

theorem execSafetyResetRequest_eq : execSafetyResetRequest v s = .next (s.writeSafReset v.toNat) :=
  congrArg Host.Outcome.next (State.guard_registerAt registerAt_SAF_RESET_REQ hi hsf)

theorem execSafetyRestart_eq : execSafetyRestart v s = .next (s.writeSafReset v.toNat) :=
  congrArg Host.Outcome.next (State.guard_registerAt registerAt_SAF_RESET_REQ hi hsf)

end

/-! ### A configuration (R238) -/

/-- The row of command 0x0401 in the catalogue (R266). -/
abbrev safLoadSpec : CmdSpec :=
  { opcode := 0x0401, priv := some 1, isl := .sf, staged := .len 116 116 false, load := true }

/-- A configuration that passes the checks of R238 is held for its confirmation, its CRC the answer. -/
theorem execLoadSafetyConfiguration_passes {s : State} {d : Desc} (h : s.admits d safLoadSpec)
    (hgood : s.safBad (s.staged d) = none) : execLoadSafetyConfiguration d s = .next
      (({ s with saf := { s.saf with staged := some (s.staged d) } } : State).ok d (slice (s.staged d) 112 4)) := by
  refine congrArg Host.Outcome.next ((State.command_ok h).trans ?_)
  dsimp only
  rw [hgood]

/-- A confirmed configuration in both channels, with EV090, the safety restart still to come. -/
def State.safConfirmed (s : State) (b : List Byte) : State := (s.allDemanded.storeSaf b).raise { src := 90 }

/-- A new configuration leaves the clock monitor's verdict as it was. -/
theorem State.refFault_safConfirmed (s : State) (b : List Byte) : (s.safConfirmed b).refFault = s.refFault :=
  calc (s.safConfirmed b).refFault
    _ = (s.allDemanded.storeSaf b).refFault := (State.raise_keeps _ _).refFault (by decide)
    _ = s.allDemanded.refFault := (State.storeSaf_keeps _ b).refFault (by decide)
    _ = s.refFault := s.allDemanded_keeps.refFault (by decide)

/-- The row of command 0x0402 in the catalogue (R266). -/
abbrev safConfirmSpec : CmdSpec := { opcode := 0x0402, priv := some 1, isl := .sf, params := [(24, 4)] }

/-- A confirmation is judged by the CRC of the configuration that waits for it. -/
theorem execConfirmSafetyConfiguration_staged {s : State} {d : Desc} {b : List Byte} (h : s.admits d safConfirmSpec)
    (hstaged : s.saf.staged = some b) : execConfirmSafetyConfiguration d s = .next
      (if fld b 112 4 ≠ d.n 24 4 then
        ({ s with saf := { s.saf with staged := none } } : State).complete d 0x0002 24 []
      else (if (s.safConfirmed b).refFault = true then (s.safConfirmed b).safSettle
        else (s.safConfirmed b).safRestart).ok d []) := by
  refine congrArg Host.Outcome.next ((State.command_ok h).trans ?_)
  dsimp only
  rw [hstaged]
  rfl

/-! ### The statement -/

/-- Settles O44: a write of SAF_RESET_REQ by its key, its restart bit and the functions it names; a configuration by the
checks of R238, and its confirmation by its CRC; the restart follows since storing it leaves the reference as it was. -/
theorem safetyCommands : Obligations.SafetyCommands := by
  unfold Obligations.SafetyCommands
  refine ⟨?resets, ?discarded, ?restart, ?loaded, ?confirmed, ?unmatched⟩
  case resets =>
    intro s v hi hsf hword
    obtain ⟨hkey, hzero, hclear⟩ := safResetWord_fields hword
    refine (execSafetyResetRequest_eq v hi hsf).trans (congrArg Host.Outcome.next ?_)
    rw [s.writeSafReset_keyed hkey hzero, if_neg fun h => Bool.false_ne_true (hclear.symm.trans h.1)]
    rfl
  case discarded =>
    exact fun s v hi hsf hword =>
      (execSafetyResetRequest_eq v hi hsf).trans (congrArg Host.Outcome.next (s.writeSafReset_refused hword))
  case restart =>
    intro s v hi hsf hword href
    subst hword
    refine (execSafetyRestart_eq _ hi hsf).trans (congrArg Host.Outcome.next ?_)
    rw [s.writeSafReset_keyed (by decide) (by decide), if_pos ⟨by decide, href⟩, State.hostResets_none _ (by decide)]
  case loaded => exact fun s d hadmits hgood => execLoadSafetyConfiguration_passes hadmits hgood
  case confirmed =>
    intro s d b hadmits hstaged hcrc href
    have hsound : (s.safConfirmed b).refFault = false := (s.refFault_safConfirmed b).trans href
    refine (execConfirmSafetyConfiguration_staged hadmits hstaged).trans (congrArg Host.Outcome.next ?_)
    rw [if_neg (not_not_intro hcrc), if_neg (ne_true_of_eq_false hsound)]
    rfl
  case unmatched =>
    exact fun s d b hadmits hstaged hcrc =>
      (execConfirmSafetyConfiguration_staged hadmits hstaged).trans (congrArg Host.Outcome.next (if_pos hcrc))

end Sys2Proof.Machine
end

section
/-! SUPPORT. The checks before a command takes effect (R258, R260, R265): what the first check that fails makes of a
command, and a sender without any privilege. -/

namespace Sys2Proof.Machine

/-! ### The checks in their order (R260) -/

section
variable {s : State} {d : Desc} {c : CmdSpec} {privs : List Nat} {ranges : List (Nat × Bool)}

theorem State.cmdFail_privilege {b : Nat} (h : privs.find? (fun b => !((s.privs d.src).testBit b)) = some b) :
    s.cmdFail d c privs ranges = some (0x0003, b) := by
  unfold State.cmdFail
  rw [h]

theorem find?_privilege_none (h : privs.all (fun b => (s.privs d.src).testBit b) = true) :
    privs.find? (fun b => !((s.privs d.src).testBit b)) = none :=
  List.find?_eq_none.2 fun b hb => by rw [List.all_eq_true.1 h b hb]; decide

variable (hpriv : privs.find? (fun b => !((s.privs d.src).testBit b)) = none)
include hpriv

theorem State.cmdFail_opcode (hop : d.opcode ≠ c.opcode) : s.cmdFail d c privs ranges = some (0x0001, 0) := by
  unfold State.cmdFail
  rw [hpriv]
  exact if_pos hop

variable (hop : d.opcode = c.opcode)
include hop

theorem State.cmdFail_field {k : Nat} (h : badField d c ranges = some k) :
    s.cmdFail d c privs ranges = some (0x0002, k) := by
  unfold State.cmdFail
  rw [hpriv, h]
  exact if_neg (not_not_intro hop)

variable (hfield : badField d c ranges = none)
include hfield

theorem State.cmdFail_staged {k : Nat} (h : stagedBad d c.staged = some k) :
    s.cmdFail d c privs ranges = some (0x0002, k) := by
  unfold State.cmdFail
  rw [hpriv, hfield, h]
  exact if_neg (not_not_intro hop)

/-- A command that passes the checks 1 to 4 turns on its island and on the staged load that runs. -/
theorem State.cmdFail_wellFormed (hstaged : stagedBad d c.staged = none) :
    s.cmdFail d c privs ranges =
      if !(s.takes c) then some (0x000A, c.isl.code) else if c.load && s.loading then some (0x000B, 0) else none := by
  unfold State.cmdFail
  rw [hpriv, hfield, hstaged]
  exact if_neg (not_not_intro hop)

end

/-! ### A sender without any privilege (R259) -/

section
variable {s : State} {d : Desc} (h : s.privs d.src = 0)
include h

/-- Whatever privileges a row needs, the first of them is missing. -/
theorem State.cmdFail_unprivileged (c : CmdSpec) (b : Nat) (privs : List Nat) (ranges : List (Nat × Bool)) :
    s.cmdFail d c (b :: privs) ranges = some (0x0003, b) :=
  State.cmdFail_privilege (List.find?_cons_of_pos (by rw [h, Nat.zero_testBit]; decide))

theorem State.command_unprivileged {c : CmdSpec} {b : Nat} (hc : c.priv = some b) (ranges : List (Nat × Bool))
    (body : State → State) : s.command d c ranges body = s.complete d 0x0003 b [] :=
  State.command_fails (hc ▸ State.cmdFail_unprivileged h c b [] ranges)

/-- A reading needs the privilege 0 with either reason. -/
theorem execTakeReading_unprivileged : execTakeReading d s = .next (s.complete d 0x0003 0 []) := by
  have hfail : s.cmdFail d takeReadingSpec (if d.n 24 1 = 5 then [0, 2] else [0]) (takeReadingRanges d) =
      some (0x0003, 0) :=
    ite_of (Q := fun privs => s.cmdFail d takeReadingSpec privs (takeReadingRanges d) = some (0x0003, 0))
      (State.cmdFail_unprivileged h _ 0 [2] _) (State.cmdFail_unprivileged h _ 0 [] _)
  unfold execTakeReading
  dsimp only
  rw [hfail]

/-- Every row of the catalogue but no-operation needs a privilege, and begins with its checks. -/
theorem exec_unprivileged {c : Instr} (hc : c.desc = some d) (hne : c ≠ .noOperation d) :
    ∃ b, exec c s = .next (s.complete d 0x0003 b []) := by
  cases c
  all_goals cases hc
  case noOperation => exact absurd rfl hne
  case takeReading => exact ⟨0, execTakeReading_unprivileged h⟩
  all_goals exact ⟨_, congrArg Host.Outcome.next (State.command_unprivileged h rfl _ _)⟩

end

/-! ### The statement -/

/-- Settles O9: each check answers only when those before it have passed, and a sender without privileges fails the first
check of every row that needs one. -/
theorem commandChecks : Obligations.CommandChecks := by
  unfold Obligations.CommandChecks
  refine ⟨fun s d c ranges body => ⟨fun b hb => State.command_fails (State.cmdFail_privilege hb), fun hall => ?_⟩,
    fun c s d hdesc hne hpriv => exec_unprivileged hpriv hdesc hne⟩
  have hpriv := find?_privilege_none hall
  refine ⟨fun hop => State.command_fails (State.cmdFail_opcode hpriv hop), fun hop =>
    ⟨fun k hk => State.command_fails (State.cmdFail_field hpriv hop hk), fun hfield =>
      ⟨fun k hk => State.command_fails (State.cmdFail_staged hpriv hop hfield hk), fun hstaged => ?_⟩⟩⟩
  have hstate := State.cmdFail_wellFormed hpriv hop hfield hstaged
  refine ⟨fun htakes => ?_, fun htakes hload => ?_, fun htakes hload => ?_⟩
  · exact State.command_fails (hstate.trans (if_pos (by rw [htakes]; rfl)))
  · exact State.command_fails (hstate.trans ((if_neg (by rw [htakes]; decide)).trans (if_pos hload)))
  · exact State.command_ok (hstate.trans ((if_neg (by rw [htakes]; decide)).trans (if_neg (by rw [hload]; decide))))

end Sys2Proof.Machine
end

section
/-! SUPPORT. The entry that an event writes (R250, R254, R255): its bytes, the event queue that takes it, and what stays
of the queue. -/

namespace Sys2Proof.Machine

/-! ### A ring's part of the state -/

@[simp] theorem State.ring_setRing_self (s : State) (q : RingQ) (r : RingS) : (s.setRing q r).ring q = r := by
  cases q <;> exact Vector.getElem_set_self _

@[simp] theorem State.get_setRing (s : State) (q : RingQ) (r : RingS) (f : Fld) : (s.setRing q r).get f = s.get f := by
  cases q <;> rfl

@[simp] theorem State.pcie_setRing (s : State) (q : RingQ) (r : RingS) : (s.setRing q r).pcie = s.pcie := by
  cases q <;> rfl

@[simp] theorem State.out_setRing (s : State) (q : RingQ) (r : RingS) : (s.setRing q r).out = s.out := by
  cases q <;> rfl

theorem State.ring_congr {s t : State} (h : t.host = s.host) (q : RingQ) : t.ring q = s.ring q := by
  cases q
  all_goals simp only [State.ring, h]

theorem State.ringFull_setRing (s : State) {q : RingQ} {r : RingS} (h : r.host = (s.ring q).host) :
    (s.setRing q r).ringFull q = s.ringFull q := by
  unfold State.ringFull
  rw [State.ring_setRing_self, State.get_setRing, State.get_setRing, h]

/-! ### An entry written over PCIe (R250, R261) -/

/-- A signal sends at most a message of its own, and leaves the rings as they are. -/
theorem State.signal_pcie {s : State} (h : s.pcie = true) (v : Nat) :
    (∃ rest, (s.signal v).out = rest ++ s.out) ∧ (s.signal v).host = s.host := by
  unfold State.signal
  rw [if_pos h]
  split
  · exact ⟨⟨[.msix v], rfl⟩, rfl⟩
  · exact ⟨⟨[], rfl⟩, rfl⟩

/-- Coalescing sends at most the signal, and counts no sequence number. -/
theorem State.coalesce_pcie {s : State} (h : s.pcie = true) (q : RingQ) :
    (∃ rest, (s.coalesce q).out = rest ++ s.out) ∧ ((s.coalesce q).ring q).seq = (s.ring q).seq := by
  unfold State.coalesce
  extract_lets cfg r
  split
  · exact ⟨⟨[], rfl⟩, rfl⟩
  · split
    · obtain ⟨⟨rest, hout⟩, hhost⟩ :=
        State.signal_pcie (s := s.setRing q { r with unsig := 0 }) ((s.pcie_setRing q _).trans h) (bitsOf cfg 29 24)
      refine ⟨⟨rest, hout.trans (congrArg _ (s.out_setRing q _))⟩, ?_⟩
      rw [State.ring_congr hhost, State.ring_setRing_self]
    · exact ⟨⟨[], s.out_setRing q _⟩, (congrArg RingS.seq (s.ring_setRing_self q _)).trans rfl⟩

theorem State.pcie_set_index (s : State) (q : RingQ) (v : Nat) : (s.set q.index v).pcie = s.pcie := by
  have hport : F.HI_STATUS_PORT.off ≠ q.index.off := (RingQ.in_12 q).2.symm
  simp only [State.pcie, State.set, State.get_setReg_ne _ hport]

/-- An entry goes to the tail of its ring in host memory. -/
theorem State.putEntry_pcie {s : State} (h : s.pcie = true) (q : RingQ) (entry : Nat → List Byte) :
    (∃ rest, (s.putEntry q entry).out =
      rest ++ .hostWrite (s.get64 q.off + 32 * s.get q.index) (padTo 32 (entry (s.ring q).phase.toNat)) :: s.out) ∧
    ((s.putEntry q entry).ring q).seq = (s.ring q).seq := by
  unfold State.putEntry
  extract_lets r size tail next written moved turned
  have hwritten : written = s.emit (.hostWrite (s.get64 q.off + 32 * tail) (padTo 32 (entry r.phase.toNat))) := if_pos h
  have hpcie : turned.pcie = true :=
    (State.pcie_setRing ..).trans ((State.pcie_set_index ..).trans (hwritten ▸ h))
  have hout : turned.out = written.out := (State.out_setRing ..).trans (State.set_out ..)
  obtain ⟨⟨rest, hrest⟩, hseq⟩ := State.coalesce_pcie hpcie q
  refine ⟨⟨rest, hrest.trans (congrArg _ (hout.trans (hwritten ▸ rfl)))⟩, hseq.trans ?_⟩
  rw [State.ring_setRing_self]

theorem State.offerEntry_room {s : State} {q : RingQ} (hen : s.get q.en ≠ 0) (herr : s.get q.err ≠ 1)
    (hroom : s.ringFull q = false) (hgap : (s.ring q).gap = 0) (entry : Nat → List Byte) :
    s.offerEntry q entry = s.putEntry q entry := by
  unfold State.offerEntry
  rw [if_neg (not_or.2 ⟨hen, herr⟩), if_neg (not_or.2 ⟨ne_true_of_eq_false hroom, not_not_intro hgap⟩)]

/-! ### The bytes of an entry (R254) -/

/-- The entry of an event with the sequence number and the phase bit given. -/
def State.evEntry (s : State) (e : Ev) (seq : Word) (ph : Nat) : List Byte :=
  natLE 1 e.src ++ natLE 1 (ph + 2 * e.p.toNat) ++ natLE 1 e.point ++ natLE 1 e.unit_ ++
    natLE 4 seq.toNat ++ natLE 8 (e.q.getD s.resolved) ++ natLE 8 s.devTime ++ natLE 8 e.detail

theorem State.length_evEntry (s : State) (e : Ev) (seq : Word) (ph : Nat) : (s.evEntry e seq ph).length = 32 := by
  simp only [State.evEntry, List.length_append, length_natLE]

/-- Every field of an entry reads back at its place. -/
theorem State.fld_evEntry (s : State) (e : Ev) (seq : Word) (ph : Bool) :
    fld (s.evEntry e seq ph.toNat) 0 1 = e.src % 2 ^ 8 ∧
    fld (s.evEntry e seq ph.toNat) 1 1 = ph.toNat + 2 * e.p.toNat ∧
    fld (s.evEntry e seq ph.toNat) 2 1 = e.point % 2 ^ 8 ∧ fld (s.evEntry e seq ph.toNat) 3 1 = e.unit_ % 2 ^ 8 ∧
    fld (s.evEntry e seq ph.toNat) 4 4 = seq.toNat ∧
    fld (s.evEntry e seq ph.toNat) 8 8 = (e.q.getD s.resolved) % 2 ^ 64 ∧
    fld (s.evEntry e seq ph.toNat) 16 8 = s.devTime % 2 ^ 64 ∧
    fld (s.evEntry e seq ph.toNat) 24 8 = e.detail % 2 ^ 64 := by
  have hbits : ph.toNat + 2 * e.p.toNat < 256 := by
    have := ph.toNat_lt
    have := e.p.toNat_lt
    omega
  exact ⟨leNat_natLE 1 _, (leNat_natLE 1 _).trans (Nat.mod_eq_of_lt hbits), leNat_natLE 1 _, leNat_natLE 1 _,
    (leNat_natLE 4 _).trans (Nat.mod_eq_of_lt seq.isLt), leNat_natLE 8 _, leNat_natLE 8 _, leNat_natLE 8 _⟩

/-! ### An event raised (R254, R255) -/

/-- The state with a limited event counted against its limit. -/
def State.evCounted (s : State) (e : Ev) : State :=
  if e.every = 0 then s else
    { s with host := { s.host with evLast := ((e.src, e.key, s.time.now) ::
      (s.host.evLast.filter (fun x => !(x.1 == e.src && x.2.1 == e.key)))) } }

/-- Whether the event's source is enabled in HI_EV_MASK. -/
def State.evEnabled (s : State) (e : Ev) : Prop :=
  bitsOf (s.reg (R.HI_EV_MASK (e.src / 32))) (e.src % 32) (e.src % 32) ≠ 0

/-- The event queue that HI_EV_ROUTE names for the event's source. -/
def State.evRoute (s : State) (e : Ev) : Nat :=
  bitsOf (s.reg (R.HI_EV_ROUTE (e.src / 16))) (2 * (e.src % 16) + 1) (2 * (e.src % 16))

theorem State.evCounted_of {Q : State → Prop} {s : State} (e : Ev) (h : Q s)
    (hnoted : ∀ l : List (Nat × Nat × Nat), Q { s with host := { s.host with evLast := l } }) : Q (s.evCounted e) :=
  ite_of h (hnoted _)

theorem State.raise_limited {s : State} {e : Ev} (h : s.evLimited e = true) : s.raise e = s := if_pos h

theorem State.reg_evCounted (s : State) (e : Ev) (off : Nat) : (s.evCounted e).reg off = s.reg off :=
  State.evCounted_of (Q := fun t => t.reg off = s.reg off) e rfl fun _ => rfl

/-- A masked event is counted against its limit, and nothing else. -/
theorem State.raise_masked {s : State} {e : Ev} (hlim : s.evLimited e = false) (hmask : ¬ s.evEnabled e) :
    s.raise e = s.evCounted e := by
  have hmask' : bitsOf ((s.evCounted e).reg (R.HI_EV_MASK (e.src / 32))) (e.src % 32) (e.src % 32) = 0 := by
    rw [State.reg_evCounted]
    exact not_not.1 hmask
  unfold State.raise
  exact (if_neg (ne_true_of_eq_false hlim)).trans (if_pos hmask')

/-- A ring with one more event counted (R254). -/
def RingS.numbered (r : RingS) : RingS := { r with seq := r.seq + 1 }

/-- The event offered to an event queue with the queue's next sequence number. -/
def State.evOffered (s : State) (e : Ev) (n : Fin 4) : State :=
  (s.setRing (.eq n) (s.ring (.eq n)).numbered).offerEntry (.eq n) (s.evEntry e (s.ring (.eq n)).seq)

/-- An enabled event goes to its event queue while that is enabled. -/
theorem State.raise_enabled {s : State} {e : Ev} {n : Fin 4} (hlim : s.evLimited e = false) (hmask : s.evEnabled e)
    (hroute : s.evRoute e = n.val) (hen : s.get (RingQ.eq n).en ≠ 0) :
    s.raise e = (s.evCounted e).evOffered e n := by
  unfold State.raise
  extract_lets before counted k q r t qn numbered
  have hreg : ∀ off, counted.reg off = s.reg off := s.reg_evCounted e
  have hq : q = .eq n := by
    have hk : k = n.val := by
      subst k
      rw [hreg]
      exact hroute
    exact congrArg RingQ.eq (Fin.ext ((congrArg (· % 4) hk).trans (Nat.mod_eq_of_lt n.isLt)))
  clear_value q
  subst hq
  rw [if_neg (ne_true_of_eq_false hlim), if_neg (by rw [hreg]; exact hmask), if_neg (by rw [State.get, hreg]; exact hen)]
  rfl

/-- The event offered to a queue that is enabled, sound and has room stands at the queue's tail (R250). -/
theorem State.evOffered_written {s : State} {n : Fin 4} (hen : s.get (RingQ.eq n).en ≠ 0)
    (herr : s.get (RingQ.eq n).err ≠ 1) (hpcie : s.pcie = true) (hroom : s.ringFull (.eq n) = false)
    (hgap : (s.ring (.eq n)).gap = 0) (e : Ev) :
    (∃ rest, (s.evOffered e n).out =
      rest ++ .hostWrite (s.get64 (RingQ.eq n).off + 32 * s.get (RingQ.eq n).index)
        (s.evEntry e (s.ring (.eq n)).seq (s.ring (.eq n)).phase.toNat) :: s.out) ∧
    ((s.evOffered e n).ring (.eq n)).seq = (s.ring (.eq n)).seq + 1 := by
  have hring := s.ring_setRing_self (.eq n) (s.ring (.eq n)).numbered
  have hroom' := (s.ringFull_setRing (q := .eq n) (r := (s.ring (.eq n)).numbered) rfl).trans hroom
  have hput := State.putEntry_pcie ((s.pcie_setRing (.eq n) (s.ring (.eq n)).numbered).trans hpcie) (.eq n)
    (s.evEntry e (s.ring (.eq n)).seq)
  unfold State.evOffered
  rw [State.offerEntry_room (s := s.setRing (.eq n) (s.ring (.eq n)).numbered) hen herr hroom'
    ((congrArg RingS.gap hring).trans hgap)]
  rwa [hring, padTo_length_eq (State.length_evEntry ..)] at hput

/-! ### The statement -/

/-- Settles O10: counting an event against its limit leaves registers, rings and what was sent as they were, so that the
entry is the one that its queue takes from the state before. -/
theorem eventEntry : Obligations.EventEntry := by
  unfold Obligations.EventEntry
  refine ⟨?written, ?masked⟩
  case written =>
    intro s e n hlim hmask hroute hen herr hpcie hroom hgap
    have hwritten := State.evCounted_of (s := s) (Q := fun t => (∃ rest, (t.evOffered e n).out = rest ++
        .hostWrite (s.get64 (RingQ.eq n).off + 32 * s.get (RingQ.eq n).index)
          (s.evEntry e (s.ring (.eq n)).seq (s.ring (.eq n)).phase.toNat) :: s.out) ∧
        ((t.evOffered e n).ring (.eq n)).seq = (s.ring (.eq n)).seq + 1) e
      (State.evOffered_written hen herr hpcie hroom hgap e)
      fun l => State.evOffered_written (s := { s with host := { s.host with evLast := l } }) hen herr hpcie hroom hgap e
    obtain ⟨⟨rest, hout⟩, hseq⟩ := hwritten
    obtain ⟨hsrc, hbits, hpoint, hunit, hnumber, hquantum, htime, hdetail⟩ :=
      s.fld_evEntry e (s.ring (.eq n)).seq (s.ring (.eq n)).phase
    rw [State.raise_enabled hlim hmask hroute hen]
    exact ⟨rest, _, hout, s.length_evEntry .., hsrc, hbits, hpoint, hunit, hnumber, hquantum, htime, hdetail, hseq⟩
  case masked =>
    intro s e hmask
    cases hlim : s.evLimited e with
    | true =>
      rw [State.raise_limited hlim]
      exact ⟨rfl, rfl, rfl⟩
    | false =>
      rw [State.raise_masked hlim (not_not_intro hmask)]
      exact State.evCounted_of (Q := fun t => t.out = s.out ∧ t.regs = s.regs ∧ t.host.eq = s.host.eq) e
        ⟨rfl, rfl, rfl⟩ fun _ => ⟨rfl, rfl, rfl⟩

end Sys2Proof.Machine
end

section
/-! SUPPORT. Ring queues (R248, R249, R251, R256, R260 to R262): the gate of their registers, a queue enabled and
disabled, the doorbells, dispatch and the time limits. -/

namespace Sys2Proof.Machine

/-! ### The registers of a ring queue -/

theorem RingQ.en_sq (n : Fin 16) : (RingQ.sq n).en = F.HI_SQ_CFG_EN n.val := by revert n; decide

theorem RingQ.en_eq (e : Fin 4) : (RingQ.eq e).en = F.HI_EQ_CFG_EN e.val := by revert e; decide

theorem RingQ.stopped_eq (e : Fin 4) : (RingQ.eq e).stopped = F.HI_EQ_STATUS_STOPPED e.val := by revert e; decide

/-- A register of the map that HI itself serves. -/
abbrev HiRegister (off : Nat) : Prop := off % 4 = 0 ∧ assigned off = true ∧ islAt off = .hi

theorem State.guard_hiRegister {s : State} {off : Nat} (h : HiRegister off) (hi : s.running .hi = true)
    (body : State → State) : s.guard off 4 body = body s := by
  obtain ⟨h4, ha, hisl⟩ := h
  exact State.guard_ok hi h4 ha (State.serves_of_running hisl hi)

theorem hiRegister_cfg (q : RingQ) : HiRegister (q.off + 8) := by
  cases q with
  | sq n => revert n; decide
  | cq n => revert n; decide
  | eq e => revert e; decide

theorem hiRegister_HI_DB_SQ (n : Fin 16) : HiRegister (R.HI_DB_SQ n.val) := by revert n; decide

theorem hiRegister_HI_DB_CQ (n : Fin 16) : HiRegister (R.HI_DB_CQ n.val) := by revert n; decide

theorem hiRegister_HI_DB_EQ (e : Fin 4) : HiRegister (R.HI_DB_EQ e.val) := by revert e; decide

/-! ### Enabling and disabling (R248) -/

theorem State.en_of_ringIdle {s : State} {q : RingQ} (h : s.ringIdle q = true) : s.get q.en = 0 :=
  eq_of_beq (Bool.and_eq_true_iff.1 h).1

section
variable {s : State} {q : RingQ} (v : Nat) (hidle : s.ringIdle q = true)
include hidle

theorem State.enableRing_idle (hkeyadm : s.secondKeyadm q (s.newCfg q v) = false)
    (hvalid : s.mayEnable q (s.newCfg q v) = true) :
    s.enableRing q v = (((s.setReg (q.off + 8) (s.newCfg q v)).set q.err 0).setReg (q.off + 12) 0).setRing q
      { RingS.reset with seq := (s.ring q).seq } := by
  have hen := State.en_of_ringIdle hidle
  have haccepted : ¬ (s.ringIdle q = false ∨ s.secondKeyadm q (s.newCfg q v) = true ∨
      s.mayEnable q (s.newCfg q v) = false) := by
    rw [hidle, hkeyadm, hvalid]
    decide
  unfold State.enableRing
  extract_lets cfg written sound started
  rw [if_neg (fun h => by omega), if_neg haccepted, State.ring_congr (s := s) (t := started) rfl]

theorem State.enableRing_invalid (hinvalid : s.mayEnable q (s.newCfg q v) = false) : s.enableRing q v = s.discard := by
  have hen := State.en_of_ringIdle hidle
  unfold State.enableRing
  exact (if_neg fun h => by omega).trans (if_pos (.inr (.inr hinvalid)))

end

/-- The write stops an enabled SQ once its last command has completed. -/
theorem State.disableRing_sq {s : State} {n : Fin 16} {v : Nat} (hen : s.get (RingQ.sq n).en = 1)
    (hsame : s.sameCfg (.sq n) v = true) : s.disableRing (.sq n) v = (s.set (RingQ.sq n).en 0).sqStop n := by
  unfold State.disableRing
  exact (if_neg fun h => ne_true_of_eq_false h.2 hsame).trans (if_pos hen)

theorem State.disableRing_eq {s : State} {e : Fin 4} {v : Nat} (hen : s.get (RingQ.eq e).en = 1)
    (hsame : s.sameCfg (.eq e) v = true) :
    s.disableRing (.eq e) v = (s.set (RingQ.eq e).en 0).set (RingQ.eq e).stopped 1 := by
  unfold State.disableRing
  exact (if_neg fun h => ne_true_of_eq_false h.2 hsame).trans (if_pos hen)

/-! ### Doorbells (R249, R256) -/

section
variable {s : State} {q : RingQ} (hen : s.get q.en = 1) (herr : s.get q.err = 0)
include hen herr

/-- A new head between the old one and the tail frees the slots up to it. -/
theorem State.headBell_frees {v : Nat} (hin : bitsOf v 12 0 < s.get q.size)
    (hwritten : (bitsOf v 12 0 + s.get q.size - (s.ring q).host) % s.get q.size ≤
      (s.get q.index + s.get q.size - (s.ring q).host) % s.get q.size) :
    s.headBell q v = (s.setRing q { s.ring q with host := bitsOf v 12 0 }).gapEntry q := by
  unfold State.headBell
  exact (if_neg (by omega)).trans ((if_neg (by omega)).trans (if_neg (by omega)))

end

theorem map_range_nth {α β : Type} (f : α → β) (l : List α) (d : α) :
    (List.range l.length).map (fun k => f (nth l k d)) = l.map f := by
  refine List.ext_getElem (by simp) fun k hk _ => ?_
  have hlt : k < l.length := by simpa using hk
  simp [nth, hlt]

/-- A new tail of an SQ with the commands that the walker has fetched up to it. -/
def State.sqAdvanced (s : State) (n : Fin 16) (tail : Nat) (ds : List Desc) : State :=
  let moved := (s.setRing (.sq n) { s.ring (.sq n) with host := tail }).set (RingQ.sq n).index tail
  { moved with host := { moved.host with fetched := moved.host.fetched.set n (moved.host.fetched[n] ++ ds) } }

section
variable {s : State} {n : Fin 16} {v : Nat} (entries : List (List Byte))
  (hen : s.get (RingQ.sq n).en = 1) (herr : s.get (RingQ.sq n).err = 0)
include hen herr

theorem State.sqBell_outside (failed : Bool) (hout : s.get (RingQ.sq n).size ≤ bitsOf v 12 0) :
    s.sqBell n v entries failed = s.ringError (.sq n) := by
  unfold State.sqBell
  exact (if_neg (by omega)).trans ((if_neg (by omega)).trans (if_pos (.inl hout)))

/-- The first doorbell of a ring over PCIe fetches the entries up to the new tail in their order. -/
theorem State.sqBell_first (hpcie : s.pcie = true) (hhead : s.get (RingQ.sq n).index = 0)
    (hhost : (s.ring (.sq n)).host = 0) (hlen : ∀ e ∈ entries, e.length = 64)
    (htail : bitsOf v 12 0 = entries.length) (hin : entries.length < s.get (RingQ.sq n).size) :
    s.sqBell n v entries false = s.sqAdvanced n (bitsOf v 12 0) (entries.map (fun e => ⟨.sq n, e⟩)) := by
  unfold State.sqBell
  extract_lets q idx size head r out more base fetched moved
  have hout : out = 0 := by
    show (r.host + size - head) % size = 0
    rw [show r.host = 0 from hhost, show head = 0 from hhead, Nat.zero_add, Nat.sub_zero, Nat.mod_self]
  have hmore : more = entries.length := by
    show (idx + size - r.host) % size = _
    rw [show r.host = 0 from hhost, show idx = _ from htail, Nat.sub_zero, Nat.add_mod_right, Nat.mod_eq_of_lt hin]
  have hfetched : fetched = entries.map (fun e => ⟨.sq n, e⟩) := by
    show (List.range (out + more)).map _ = _
    rw [hout, hmore, Nat.zero_add]
    simp only [hpcie, if_true]
    exact (map_range_nth (fun e => (⟨.sq n, padTo 64 e⟩ : Desc)) entries []).trans
      (List.map_congr_left fun e he => congrArg (Desc.mk (.sq n)) (padTo_length_eq (hlen e he)))
  have hinside : ¬ (size ≤ idx ∨ size - 1 < out + more) := by
    have hsize : entries.length < size := hin
    have hidx : idx = entries.length := htail
    omega
  rw [if_neg (fun h => by rw [hen] at h; omega), if_neg (fun h => by rw [herr] at h; omega), if_neg hinside,
    if_neg Bool.false_ne_true, hfetched]
  rfl

end

/-! ### Dispatch (R256) -/

/-- The front command of an SQ dispatched while nothing else is in flight. -/
def State.dispatchedAlone (s : State) (n : Fin 16) (d : Desc) (rest : List Desc) : State :=
  { s with host := { s.host with fetched := s.host.fetched.set n rest, inFlight := [d] } }

/-- With nothing in flight neither FENCE nor the limit of 256 holds a command; an opcode outside the catalogue is
answered at once (R260). -/
theorem State.dispatch_alone {s : State} {n : Fin 16} {d : Desc} {rest : List Desc}
    (hfetched : s.host.fetched[n] = d :: rest) (hflight : s.host.inFlight = []) :
    s.dispatch n = if (opcodeIsl d.opcode).isNone then (s.dispatchedAlone n d rest).complete d 0x0001 0 []
      else s.dispatchedAlone n d rest := by
  unfold State.dispatch
  rw [hfetched, hflight]
  exact if_neg (by simp)

/-! ### The time limits (R261, R262) -/

theorem execHostCompletionTimeout_enabled {s : State} {q : RingQ} (hen : s.get q.en = 1) (herr : s.get q.err = 0) :
    execHostCompletionTimeout q s = .next ((s.ringError q).raise { src := 93, unit_ := q.unit }) :=
  if_neg (by omega)

/-- Entries of an event queue that were not signalled are signalled when the time of coalescing has passed. -/
theorem execCoalescingTimeout_eq {s : State} {e : Fin 4} (hen : s.get (RingQ.eq e).en = 1)
    (hien : bitsOf (s.reg ((RingQ.eq e).off + 8)) 30 30 = 1) (hunsig : (s.ring (.eq e)).unsig ≠ 0) :
    execCoalescingTimeout (.eq e) s = .next ((s.setRing (.eq e) { s.ring (.eq e) with unsig := 0 }).signal
      (bitsOf (s.reg ((RingQ.eq e).off + 8)) 29 24)) :=
  if_neg (by omega)

/-! ### The statement -/

/-- Settles O18: each write of a queue's registers reaches its queue through HI's gate, and the queue's own state
decides: idle or enabled, inside or outside the ring, free to dispatch, waiting for a signal. -/
theorem hostQueues : Obligations.HostQueues := by
  unfold Obligations.HostQueues
  refine ⟨?enable, ?enableInvalid, ?disableEq, ?disableSq, ?sqInside, ?sqOutside, ?cq, ?eq, ?dispatched, ?unknown,
    ?completionTimeout, ?coalescing, ?noOperation⟩
  case enable =>
    exact fun s q v hi hidle hkeyadm hvalid => congrArg Host.Outcome.next
      ((State.guard_hiRegister (hiRegister_cfg q) hi _).trans (State.enableRing_idle _ hidle hkeyadm hvalid))
  case enableInvalid =>
    exact fun s q v hi hidle hinvalid => congrArg Host.Outcome.next
      ((State.guard_hiRegister (hiRegister_cfg q) hi _).trans (State.enableRing_invalid _ hidle hinvalid))
  case disableEq =>
    intro s e v hi hen hsame
    rw [← RingQ.en_eq] at hen
    rw [← RingQ.en_eq, ← RingQ.stopped_eq]
    exact congrArg Host.Outcome.next
      ((State.guard_hiRegister (hiRegister_cfg (.eq e)) hi _).trans (State.disableRing_eq hen hsame))
  case disableSq =>
    intro s n v hi hen hsame
    rw [← RingQ.en_sq] at hen
    rw [← RingQ.en_sq]
    exact congrArg Host.Outcome.next
      ((State.guard_hiRegister (hiRegister_cfg (.sq n)) hi _).trans (State.disableRing_sq hen hsame))
  case sqInside =>
    intro s n v fetched hi hpcie hen _ herr hhead hhost htail hlen hin hsize
    have hword : bitsOf v.toNat 12 0 = v.toNat := Nat.mod_eq_of_lt (show v.toNat < 2 ^ 13 by omega)
    have hbell := State.sqBell_first fetched ((congrArg s.get (RingQ.en_sq n)).trans hen) herr hpcie hhead hhost hlen
      (hword.trans htail) hin
    rw [hword] at hbell
    exact congrArg Host.Outcome.next ((State.guard_hiRegister (hiRegister_HI_DB_SQ n) hi _).trans hbell)
  case sqOutside =>
    exact fun s n v fetched failed hi hen herr hout => congrArg Host.Outcome.next
      ((State.guard_hiRegister (hiRegister_HI_DB_SQ n) hi _).trans
        (State.sqBell_outside fetched ((congrArg s.get (RingQ.en_sq n)).trans hen) herr failed hout))
  case cq =>
    exact fun s n v hi hen herr hin hwritten => congrArg Host.Outcome.next
      ((State.guard_hiRegister (hiRegister_HI_DB_CQ n) hi _).trans
        (State.headBell_frees (q := .cq n) hen herr hin hwritten))
  case eq =>
    exact fun s e v hi hen herr hin hwritten => congrArg Host.Outcome.next
      ((State.guard_hiRegister (hiRegister_HI_DB_EQ e) hi _).trans
        (State.headBell_frees (q := .eq e) hen herr hin hwritten))
  case dispatched =>
    exact fun s n d rest hfetched hflight hknown => congrArg Host.Outcome.next
      ((State.dispatch_alone hfetched hflight).trans
        (if_neg (ne_true_of_eq_false (Option.isNone_eq_false_iff.2 hknown))))
  case unknown =>
    exact fun s n d rest hfetched hflight hunknown => congrArg Host.Outcome.next
      ((State.dispatch_alone hfetched hflight).trans (if_pos (Option.isNone_iff_eq_none.2 hunknown)))
  case completionTimeout => exact fun s q hen herr => execHostCompletionTimeout_enabled hen herr
  case coalescing => exact fun s e hen hien hunsig => execCoalescingTimeout_eq hen hien hunsig
  case noOperation => exact fun s d hadmits => congrArg Host.Outcome.next (State.command_ok hadmits)

end Sys2Proof.Machine
end

section
/-! SUPPORT. The data port (R263 to R265): the one part of a transaction with MODE 0, where the staging buffer lies in
the map, and what is refused. -/

namespace Sys2Proof.Machine

theorem dpRegion_staging_iff {a n : Nat} :
    dpRegion a n = some 0 ↔ stagingBase ≤ a ∧ a + n ≤ stagingBase + 0x80000 := by
  refine ⟨dpRegion_staging, fun h => List.findIdx?_eq_some_iff_getElem.2 ⟨by decide, ?_, fun j hj => by omega⟩⟩
  exact Bool.and_eq_true_iff.2 ⟨decide_eq_true h.1, decide_eq_true h.2⟩

/-- A part of the staging buffer holds no byte that the spec leaves open. -/
theorem openPart_staging {a n : Nat} (h : a + n ≤ stagingBase + 0x80000) : openPart (a, n) = false := by
  have hopen : ¬ 0x228000 < a + n := by unfold stagingBase at h; omega
  have hslots : ¬ boathouseBase ≤ a := by unfold stagingBase at h; unfold boathouseBase; omega
  simp only [openPart, hopen, hslots, decide_false, Bool.and_false, Bool.false_and, Bool.or_false]

section
variable {s : State} {off n : Nat}

/-- A transaction off a word boundary, of no whole words, longer than 4 KiB or past the end of BAR2 has no parts. -/
theorem State.dpParts_misaligned (h : off % 4 ≠ 0 ∨ n % 4 ≠ 0 ∨ 4096 < n ∨ 4096 < off + n) :
    s.dpParts off n = none := by
  unfold State.dpParts
  refine if_pos ?_
  split <;> omega

variable (hmode : s.get F.HI_DP_CTRL_MODE = 0)
include hmode

/-- With MODE 0 a transaction that has parts at all has one, at CUR plus its offset. -/
theorem State.dpParts_fixed :
    s.dpParts off n = none ∨ s.dpParts off n = some ([((s.get64 R.HI_DP_ADDR_LO + off) % 2 ^ 64, n)], s) := by
  unfold State.dpParts
  extract_lets most cur
  split
  · exact .inl rfl
  · exact .inr rfl

variable (hoff : off % 4 = 0) (hn : n % 4 = 0) (hmost : n ≤ 512) (hend : off + n ≤ 4096)
  (hhigh : s.get64 R.HI_DP_ADDR_LO + off + n ≤ stagingBase + 0x80000)
include hoff hn hmost hend hhigh

/-- An aligned transaction in the staging buffer has the one part there. -/
theorem State.dpParts_staging : s.dpParts off n = some ([(s.get64 R.HI_DP_ADDR_LO + off, n)], s) := by
  have haddr : (s.get64 R.HI_DP_ADDR_LO + off) % 2 ^ 64 = s.get64 R.HI_DP_ADDR_LO + off :=
    Nat.mod_eq_of_lt (by unfold stagingBase at hhigh; omega)
  unfold State.dpParts
  extract_lets most cur
  have hwhole : ¬ (off % 4 ≠ 0 ∨ n % 4 ≠ 0 ∨ most < n ∨ 4096 < off + n) := by
    have : 512 ≤ most := ite_of (Q := (512 ≤ ·)) (by decide) (by decide)
    omega
  rw [if_neg hwhole, if_pos hmode, haddr]

theorem State.dpRead_staging (hlow : stagingBase ≤ s.get64 R.HI_DP_ADDR_LO + off) :
    s.dpRead off n = (memRead s.mem (s.get64 R.HI_DP_ADDR_LO + off) n, s) := by
  have hregion := dpRegion_staging_iff.2 ⟨hlow, hhigh⟩
  unfold State.dpRead
  rw [State.dpParts_staging hmode hoff hn hmost hend hhigh]
  simp only [List.any_cons, List.any_nil, hregion, openPart_staging hhigh, Option.isNone_some, Bool.or_self,
    Bool.false_eq_true, if_false, List.map_cons, List.map_nil, List.flatten_cons, List.flatten_nil, List.append_nil,
    Option.getD_some]
  rfl

end

/-- An aligned write in the staging buffer stores its bytes there. -/
theorem State.dpWrite_staging {s : State} {off : Nat} {l : List Byte} (hmode : s.get F.HI_DP_CTRL_MODE = 0)
    (hload : s.loading = false) (hoff : off % 4 = 0) (hn : l.length % 4 = 0) (hmost : l.length ≤ 512)
    (hend : off + l.length ≤ 4096) (hlow : stagingBase ≤ s.get64 R.HI_DP_ADDR_LO + off)
    (hhigh : s.get64 R.HI_DP_ADDR_LO + off + l.length ≤ stagingBase + 0x80000) :
    s.dpWrite off l = s.store (s.get64 R.HI_DP_ADDR_LO + off) l := by
  have hregion := dpRegion_staging_iff.2 ⟨hlow, hhigh⟩
  unfold State.dpWrite
  rw [State.dpParts_staging hmode hoff hn hmost hend hhigh]
  simp only [hload, List.any_cons, List.any_nil, hregion, bne_self_eq_false, Bool.or_self, Bool.false_eq_true, or_self,
    if_false, State.storeParts, List.take_length]

/-! ### Refused transactions (R264, R265) -/

theorem State.dpRead_misaligned {s : State} {off n : Nat}
    (h : off % 4 ≠ 0 ∨ n % 4 ≠ 0 ∨ 4096 < n ∨ 4096 < off + n) :
    s.dpRead off n = (List.replicate n 0xFF, s.dpRefuse) := by
  unfold State.dpRead
  rw [State.dpParts_misaligned h]

/-- No write is taken while a staged load runs, whatever its parts. -/
theorem State.dpWrite_loading {s : State} (off : Nat) (l : List Byte) (hload : s.loading = true) :
    s.dpWrite off l = s.dpRefuse := by
  unfold State.dpWrite
  split
  · rfl
  · exact if_pos (.inl hload)

/-- A write with MODE 0 that does not lie in the staging buffer is refused. -/
theorem State.dpWrite_outside {s : State} {off : Nat} {l : List Byte} (hmode : s.get F.HI_DP_CTRL_MODE = 0)
    (hout : dpRegion ((s.get64 R.HI_DP_ADDR_LO + off) % 2 ^ 64) l.length ≠ some 0) :
    s.dpWrite off l = s.dpRefuse := by
  unfold State.dpWrite
  rcases State.dpParts_fixed (off := off) (n := l.length) hmode with h | h
  · rw [h]
  · rw [h]
    exact if_pos (.inr (by simpa using hout))

/-! ### The statement -/

theorem execDataPortAccess_read {s : State} (off : Word) (n : Nat) (hi : s.running .hi = true) :
    execDataPortAccess off (.read n) s = .next ((s.dpRead off.toNat n).2.gave (s.dpRead off.toNat n).1) :=
  congrArg Host.Outcome.next (if_neg (ne_false_of_eq_true hi))

theorem execDataPortAccess_write {s : State} (off : Word) (l : List Byte) (hi : s.running .hi = true) :
    execDataPortAccess off (.write l) s = .next (s.dpWrite off.toNat l) :=
  congrArg Host.Outcome.next (if_neg (ne_false_of_eq_true hi))

/-- Settles O20: with MODE 0 a transaction has one part, which the map of R264 places in the staging buffer or
refuses. -/
theorem dataPort : Obligations.DataPort := by
  unfold Obligations.DataPort
  refine ⟨?write, ?read, ?misaligned, ?outside, ?loading, ?down⟩
  case write =>
    exact fun s off l hi hoff hn hmost hend hmode hload hlow hhigh => (execDataPortAccess_write off l hi).trans
      (congrArg Host.Outcome.next (State.dpWrite_staging hmode hload hoff hn hmost hend hlow hhigh))
  case read =>
    intro s off n hi hoff hn hmost hend hmode hlow hhigh
    refine (execDataPortAccess_read off n hi).trans ?_
    rw [State.dpRead_staging hmode hoff hn hmost hend hhigh hlow]
  case misaligned =>
    intro s off n hi hbad
    refine (execDataPortAccess_read off n hi).trans ?_
    rw [State.dpRead_misaligned hbad]
    rfl
  case outside =>
    intro s off l hi hmode hout
    refine (execDataPortAccess_write off l hi).trans
      (congrArg Host.Outcome.next (State.dpWrite_outside hmode fun hin => ?_))
    obtain ⟨hlow, hhigh⟩ := dpRegion_staging_iff.1 hin
    unfold stagingBase at hlow hhigh hout
    omega
  case loading =>
    exact fun s off l hi hload => (execDataPortAccess_write off l hi).trans
      (congrArg Host.Outcome.next (State.dpWrite_loading _ l hload))
  case down => exact fun s off op hi => congrArg Host.Outcome.next (if_pos hi)

end Sys2Proof.Machine
end

section
/-! SUPPORT. The host's serial ports (R246, R247): what the bytes of a frame name, what an octal-SPI frame does by its
opcode, and the window mode. -/

namespace Sys2Proof.Machine

/-! ### Numbers in frames -/

theorem beNat_natBE {n v : Nat} (h : v < 256 ^ n) : beNat (natBE n v) = v := by
  rw [beNat, natBE, List.reverse_reverse, leNat_natLE, Nat.mod_eq_of_lt h]

/-! ### Frames of the octal-SPI port (R246) -/

/-- A frame: the opcode with its complement, the address, the data. -/
abbrev octalFrame (op : Byte) (a : Nat) (l : List Byte) : List Byte := [op, ~~~op] ++ natBE 4 a ++ l

theorem execSpiFrame_selected {s : State} (bytes : List Byte) (n : Nat) (broken : Bool) (hi : s.running .hi = true)
    (hport : s.get F.HI_STATUS_PORT = 1) : execSpiFrame bytes n broken s = .next (s.spi bytes n broken) :=
  congrArg Host.Outcome.next (if_pos ⟨hi, hport⟩)

/-- A complement byte that does not match its opcode is a frame error. -/
theorem State.spi_complement {s : State} {op x : Byte} (h : x.toNat + op.toNat ≠ 255) (rest : List Byte) (n : Nat)
    (broken : Bool) : s.spi (op :: x :: rest) n broken = s.frameError :=
  if_pos ⟨by simp, .inl h⟩

section
variable {s : State} {op : Byte} {a : Nat} (hop : [0x11, 0x12, 0x21, 0x22, 0x31, 0x32].contains op.toNat = true)
  (ha : a < 2 ^ 32)
include hop ha

/-- A whole frame with a known opcode is a read or a write at its address. -/
theorem State.spi_octalFrame (l : List Byte) (n : Nat) : s.spi (octalFrame op a l) n false =
    if op.toNat % 16 = 1 then (s.spiRead op.toNat a (min n 4096)).2.gave (s.spiRead op.toNat a (min n 4096)).1
    else s.spiWrite op.toNat a (l.take 4096) false := by
  have hopcode : fld (octalFrame op a l) 0 1 = op.toNat := rfl
  have hcomplement : fld (octalFrame op a l) 1 1 = (~~~op).toNat := rfl
  have haddr : beNat (slice (octalFrame op a l) 2 4) = a := beNat_natBE (n := 4) ha
  have hlen : (octalFrame op a l).length = 6 + l.length := by simp [octalFrame]; omega
  have hdata : (octalFrame op a l).drop 6 = l := rfl
  have hsound : ¬ (2 ≤ (octalFrame op a l).length ∧
      ((~~~op).toNat + op.toNat ≠ 255 ∨ [0x11, 0x12, 0x21, 0x22, 0x31, 0x32].contains op.toNat = false)) := by
    rintro ⟨-, hbad | hunknown⟩
    · rw [BitVec.toNat_not] at hbad
      omega
    · exact ne_true_of_eq_false hunknown hop
  unfold State.spi
  simp only [hopcode, hcomplement, haddr, hdata, if_neg hsound, Bool.false_eq_true, if_false, false_and]
  rw [if_neg (by omega)]

/-- A read frame gives what its opcode reads at its address. -/
theorem execSpiFrame_read (n : Nat) (hi : s.running .hi = true) (hport : s.get F.HI_STATUS_PORT = 1)
    (hread : op.toNat % 16 = 1) : execSpiFrame (octalFrame op a []) n false s =
      .next ((s.spiRead op.toNat a (min n 4096)).2.gave (s.spiRead op.toNat a (min n 4096)).1) :=
  (execSpiFrame_selected _ n false hi hport).trans
    (congrArg Host.Outcome.next ((State.spi_octalFrame hop ha [] n).trans (if_pos hread)))

theorem execSpiFrame_write {l : List Byte} (hl : l.length ≤ 4096) (hi : s.running .hi = true)
    (hport : s.get F.HI_STATUS_PORT = 1) (hwrite : op.toNat % 16 ≠ 1) :
    execSpiFrame (octalFrame op a l) 0 false s = .next (s.spiWrite op.toNat a l false) := by
  rw [execSpiFrame_selected _ 0 false hi hport, State.spi_octalFrame hop ha l 0, if_neg hwrite,
    List.take_of_length_le hl]

end

/-! ### Registers and ring SRAM at an address -/

theorem State.writeWords_word (s : State) (off : Nat) {v : Nat} (hv : v < 2 ^ 32) :
    s.writeWords off (natLE 4 v) = s.guard off 4 (fun s => s.hostWrite off v) := by
  have hword : leNat (natLE 4 v) = v := (leNat_natLE 4 v).trans (Nat.mod_eq_of_lt hv)
  show s.guard off 4 (fun s => s.hostWrite off (leNat (natLE 4 v))) = _
  rw [hword]

theorem State.readWords_word (s : State) (off : Nat) :
    s.readWords off 4 = (natLE 4 (s.hostRead off).1, (s.hostRead off).2) := rfl

theorem inRing_iff {a n : Nat} : inRing a n = true ↔ a + n ≤ 0x100000 := decide_eq_true_iff

/-! ### Window frames (R247) -/

theorem execWindowFrame_selected {s : State} (bytes : List Byte) (hi : s.running .hi = true)
    (hport : s.get F.HI_STATUS_PORT = 2) : execWindowFrame bytes s = .next (s.window bytes) :=
  congrArg Host.Outcome.next (if_pos ⟨hi, hport⟩)

/-- A write frame of the window mode. -/
theorem State.window_write (s : State) {a v : Nat} (ha : a < 2 ^ 16) (hv : v < 2 ^ 32) :
    s.window ([0x00] ++ natBE 2 a ++ natBE 4 v) = s.windowWrite a v := by
  have haddr : beNat (slice ([0x00] ++ natBE 2 a ++ natBE 4 v) 1 2) = a := beNat_natBE (n := 2) ha
  have hword : beNat (slice ([0x00] ++ natBE 2 a ++ natBE 4 v) 3 4) = v := beNat_natBE (n := 4) hv
  have hcommand : fld ([0x00] ++ natBE 2 a ++ natBE 4 v) 0 1 = 0 := rfl
  have hlen : ([0x00] ++ natBE 2 a ++ natBE 4 v).length = 7 := by simp
  unfold State.window
  rw [haddr, hword, hcommand, hlen]
  rfl

/-- A read frame of the window mode. -/
theorem State.window_read (s : State) {a : Nat} (ha : a < 2 ^ 16) :
    s.window ([0x80] ++ natBE 2 a) = (s.windowRead a).2.gave (natBE 4 (s.windowRead a).1) := by
  have haddr : beNat (slice ([0x80] ++ natBE 2 a) 1 2) = a := beNat_natBE (n := 2) ha
  have hcommand : fld ([0x80] ++ natBE 2 a) 0 1 = 0x80 := rfl
  have hlen : ([0x80] ++ natBE 2 a).length = 3 := by simp
  unfold State.window
  rw [haddr, hcommand, hlen]
  rfl

/-- An access turns on what it does in the state that it finds. -/
theorem State.guard_congr {s : State} {body body' : State → State} (h : body s = body' s) (off size : Nat) :
    s.guard off size body = s.guard off size body' := by
  unfold State.guard
  rw [h]

section
variable {s : State} {a : Nat} (ha : a < 0xFFFC) (hwin : s.get F.HI_SPI_WIN_WIN < 14)
include ha hwin

/-- The windows below 14 show the blocks of BAR0. -/
theorem State.windowWrite_block (v : Nat) : s.windowWrite a v =
    s.guard (s.get F.HI_SPI_WIN_WIN * 0x10000 + a) 4
      (fun s => s.hostWrite (s.get F.HI_SPI_WIN_WIN * 0x10000 + a) v) := by
  unfold State.windowWrite
  dsimp only
  rw [if_neg (by omega), if_neg (by omega), if_pos (by omega)]
  apply State.guard_congr
  rfl

theorem State.windowRead_block : s.windowRead a = s.hostRead (s.get F.HI_SPI_WIN_WIN * 0x10000 + a) := by
  unfold State.windowRead
  exact (if_neg (by omega)).trans ((if_neg (by omega)).trans (if_pos (by omega)))

end

/-! ### HI_SPI_WIN -/

theorem registerAt_HI_SPI_WIN : RegisterAt R.HI_SPI_WIN ⟨0x10600, 0x0, 1, .hi, 0, [⟨4, 0, .rw⟩]⟩ := by decide

/-- A window number written to HI_SPI_WIN selects that window. -/
theorem State.hostWrite_HI_SPI_WIN (s : State) {v : Nat} (hv : v < 32) :
    s.hostWrite R.HI_SPI_WIN v = s.set F.HI_SPI_WIN_WIN v := by
  have hfield : bitsOf v 4 0 = v := Nat.mod_eq_of_lt (show v < 2 ^ 5 from hv)
  rw [State.hostWrite_plainHiOffset (by decide), State.plainWrite_eq registerAt_HI_SPI_WIN
    (w := putBits (s.reg R.HI_SPI_WIN) 4 0 (bitsOf v 4 0)) (refused := false) rfl, if_neg Bool.false_ne_true, hfield]
  rfl

theorem State.windowWrite_HI_SPI_WIN (s : State) {v : Nat} (hv : v < 32) :
    s.windowWrite 0xFFFC v = s.set F.HI_SPI_WIN_WIN v := by
  unfold State.windowWrite
  exact (if_pos rfl).trans (s.hostWrite_HI_SPI_WIN hv)

/-! ### The statement -/

/-- Settles O21: a frame's bytes read back as its opcode, address and data, and the opcode or the window says which of
the accesses it makes. -/
theorem spiFrames : Obligations.SpiFrames := by
  unfold Obligations.SpiFrames
  refine ⟨?ringWrite, ?ringRead, ?registerWrite, ?registerRead, ?complement, ?unselected, ?windowWrite, ?windowRead,
    ?window, ?short⟩
  case ringWrite =>
    intro s a l hi hport hin hl
    exact (execSpiFrame_write (op := 0x22) (a := a) rfl (by omega) hl hi hport (by decide)).trans
      (congrArg Host.Outcome.next (if_pos (inRing_iff.2 hin)))
  case ringRead =>
    intro s a n hi hport hin hn
    refine (execSpiFrame_read (op := 0x21) (a := a) rfl (by omega) n hi hport (by decide)).trans ?_
    rw [Nat.min_eq_left hn, show s.spiRead (0x21 : Byte).toNat a n = _ from if_pos (inRing_iff.2 hin)]
  case registerWrite =>
    exact fun s a v hi hport ha hv => (execSpiFrame_write (op := 0x12) rfl ha (by simp) hi hport (by decide)).trans
      (congrArg Host.Outcome.next (s.writeWords_word a hv))
  case registerRead =>
    intro s a hi hport ha
    refine (execSpiFrame_read (op := 0x11) rfl ha 4 hi hport (by decide)).trans ?_
    rw [show s.spiRead (0x11 : Byte).toNat a (min 4 4096) = _ from s.readWords_word a]
  case complement =>
    exact fun s op x rest n b hi hport hbad _ => (execSpiFrame_selected _ n b hi hport).trans
      (congrArg Host.Outcome.next (State.spi_complement hbad rest n b))
  case unselected => exact fun s bytes n b hport => congrArg Host.Outcome.next (if_neg fun h => hport h.2)
  case windowWrite =>
    exact fun s a v hi hport ha hv hwin => (execWindowFrame_selected _ hi hport).trans
      (congrArg Host.Outcome.next ((s.window_write (by omega) hv).trans (State.windowWrite_block ha hwin v)))
  case windowRead =>
    intro s a hi hport ha hwin
    rw [← State.windowRead_block ha hwin]
    exact (execWindowFrame_selected _ hi hport).trans (congrArg Host.Outcome.next (s.window_read (by omega)))
  case window =>
    exact fun s v hi hport hv => (execWindowFrame_selected _ hi hport).trans (congrArg Host.Outcome.next
      ((s.window_write (a := 0xFFFC) (by decide) (by omega)).trans (s.windowWrite_HI_SPI_WIN hv)))
  case short =>
    exact fun s bytes hi hport hlen => (execWindowFrame_selected bytes hi hport).trans
      (congrArg Host.Outcome.next (if_pos hlen))

end Sys2Proof.Machine
end

section
/-! SUPPORT. Results on their way to the senders (R253, R258, R303): the oldest that can be taken leaves the list. -/

namespace Sys2Proof.Machine

/-- A result goes to its sender: the completion entry, or the completion frame. -/
def State.sendResult (s : State) (r : Result) (writeFails : Bool) : State :=
  match r.desc.src with
  | .sq n => s.postResult n r (writeFails && s.pcie)
  | .fabric node => s.fabricAnswer node r

theorem State.sendResult_sq {s : State} {r : Result} {n : Fin 16} (h : r.desc.src = .sq n) (writeFails : Bool) :
    s.sendResult r writeFails = s.postResult n r (writeFails && s.pcie) := by
  unfold State.sendResult
  rw [h]

theorem State.sendResult_fabric {s : State} {r : Result} {node : Half} (h : r.desc.src = .fabric node)
    (writeFails : Bool) : s.sendResult r writeFails = s.fabricAnswer node r := by
  unfold State.sendResult
  rw [h]

theorem State.canPost_sq {s : State} {r : Result} {n : Fin 16} (h : r.desc.src = .sq n) :
    s.canPost r = s.running .hi := by
  unfold State.canPost
  rw [h]

theorem State.canPost_fabric {s : State} {r : Result} {node : Half} (h : r.desc.src = .fabric node) :
    s.canPost r = s.running .cm := by
  unfold State.canPost
  rw [h]

/-- The front result leaves the list when its receiver runs. -/
theorem execCommandResult_front {s : State} {r : Result} {rest : List Result} (hresults : s.host.results = r :: rest)
    (hpost : s.canPost r = true) (writeFails : Bool) : execCommandResult writeFails s =
    .next (State.sendResult { s with host := { s.host with results := rest } } r writeFails) := by
  unfold execCommandResult
  rw [hresults, List.find?_cons_of_pos hpost]
  dsimp only
  rw [List.erase_cons_head]
  rfl

theorem execCommandResult_waiting {s : State} (h : ∀ r ∈ s.host.results, s.canPost r = false) (writeFails : Bool) :
    execCommandResult writeFails s = .next s := by
  unfold execCommandResult
  rw [List.find?_eq_none.2 fun r hr => ne_true_of_eq_false (h r hr)]

/-- Settles O22: the sender of the front result says which island has to run and which answer it becomes. -/
theorem commandResults : Obligations.CommandResults := by
  unfold Obligations.CommandResults
  refine ⟨?sq, ?fabric, fun s w hwaiting => execCommandResult_waiting hwaiting w⟩
  case sq =>
    exact fun s w r rest n hresults hsrc hi =>
      (execCommandResult_front hresults ((State.canPost_sq hsrc).trans hi) w).trans
        (congrArg Host.Outcome.next (State.sendResult_sq hsrc w))
  case fabric =>
    exact fun s w r rest node hresults hsrc hcm =>
      (execCommandResult_front hresults ((State.canPost_fabric hsrc).trans hcm) w).trans
        (congrArg Host.Outcome.next (State.sendResult_fabric hsrc w))

end Sys2Proof.Machine
end

section
/-! SUPPORT. The internal queues (R270 to R277): what a commit, a release, a gap's marker and a drop make of a queue, and
which of them an offer or a release takes. -/

namespace Sys2Proof.Machine

/-! ### A queue's own operations -/

/-- Outside spill mode W advances by the packet's length (R272). -/
theorem QueS.commit_native (q : QueS) (depth : Nat) (pkt : List Dword) :
    q.commit depth false pkt = { q with pkts := q.pkts ++ [pkt], w := (q.w + pkt.length) % (2 * depth) } := rfl

/-- Outside spill mode R advances by the released packet's length (R272). -/
theorem QueS.release_native {q : QueS} {p : List Dword} {rest : List (List Dword)} (h : q.pkts = p :: rest)
    (depth : Nat) : q.release depth false = { q with pkts := rest, r := (q.r + p.length) % (2 * depth) } := by
  unfold QueS.release
  rw [h]
  rfl

theorem QueS.release_native_fill {q : QueS} {p : List Dword} {rest : List (List Dword)} (h : q.pkts = p :: rest)
    (depth : Nat) : (q.release depth false).fill = (rest.map List.length).sum := by
  rw [QueS.release_native h]
  rfl

/-- A release outside spill mode leaves the gap to the marker. -/
theorem QueS.release_native_gap (q : QueS) (depth : Nat) : (q.release depth false).gap = q.gap := by
  unfold QueS.release
  split <;> rfl

theorem QueS.mark_noGap {q : QueS} (h : q.gap = none) (cap depth : Nat) (spill : Bool) :
    q.mark cap depth spill = q := by
  unfold QueS.mark
  rw [h]

/-- With six words free a pending gap gets its marker (R274). -/
theorem QueS.mark_room {q : QueS} {g : Gap} {cap : Nat} (h : q.gap = some g) (hroom : q.fill + 6 ≤ cap) (depth : Nat)
    (spill : Bool) : q.mark cap depth spill =
      { q with gap := none }.commit depth spill (gapMarker g.seq g.lost (g.cause != 0) g.cause g.time) := by
  unfold QueS.mark
  rw [h]
  exact if_neg hroom.not_gt

/-- The first packet dropped opens the gap (R273). -/
theorem QueS.drop_noGap {q : QueS} (h : q.gap = none) (now : Nat) :
    q.drop now = { q with gap := some ⟨q.seq, 1, 0, now⟩, seq := q.seq + 1 } := by
  unfold QueS.drop
  rw [h]

@[simp] theorem State.ques_setQue_self (s : State) (i : Fin 35) (q : QueS) : (s.setQue i q).ques[i] = q :=
  Vector.getElem_set_self ..

theorem State.queCap_native {s : State} {i : Nat} (h : s.spill i = false) : s.queCap i = queDepth i := by
  rw [State.queCap, h]
  rfl

/-- Only the staging queues of the host rings pass their losses on (R275). -/
theorem State.stagingLoss_notStaging {s : State} {i : Fin 35} (h : 0x14 ≤ i.val) (n : Nat) : s.stagingLoss i n = s := by
  unfold State.stagingLoss
  dsimp only
  rw [if_neg (by omega), if_neg (by omega)]

/-! ### Offers (R273, R276, R277) -/

/-- A packet that the producer of a queue may offer: its owner runs, and the length is within the limit of LEN (R270). -/
abbrev State.Offerable (s : State) (i : Fin 35) (body : List Dword) : Prop :=
  s.running (queIsl i) = true ∧ body.length + 1 ≤ min 512 (queDepth i.val / 4)

/-- The queue as an offer's fit test finds it: with the marker of its gap, if that has room (R276). -/
def State.queMarked (s : State) (i : Fin 35) : QueS :=
  s.ques[i].mark (s.queCap i.val) (queDepth i.val) (s.spill i.val)

theorem State.queMarked_noGap {s : State} {i : Fin 35} (h : s.ques[i].gap = none) : s.queMarked i = s.ques[i] :=
  QueS.mark_noGap h ..

/-- The fit test of R273: no gap is left pending, and three words stay in reserve. -/
abbrev State.QueFits (s : State) (i : Fin 35) (body : List Dword) : Prop :=
  (s.queMarked i).gap = none ∧ (s.queMarked i).fill + (body.length + 1) + 3 ≤ s.queCap i.val

theorem State.queFits_iff {s : State} {i : Fin 35} {body : List Dword} (hsp : s.spill i.val = false)
    (hgap : s.ques[i].gap = none) :
    s.QueFits i body ↔ s.ques[i].fill + (body.length + 1) + 3 ≤ queDepth i.val := by
  rw [State.QueFits, State.queMarked_noGap hgap, State.queCap_native hsp]
  exact and_iff_right hgap

theorem State.Offerable.admitted {s : State} {i : Fin 35} {body : List Dword} (h : s.Offerable i body) :
    ¬ (s.running (queIsl i) = false ∨ min 512 (queDepth i.val / 4) < body.length + 1) := by
  obtain ⟨hrun, hlen⟩ := h
  rw [hrun, not_or]
  exact ⟨Bool.true_eq_false_eq_False, hlen.not_gt⟩

theorem State.queOffer_notRunning {s : State} {i : Fin 35} (h : s.running (queIsl i) = false) (unit_ type_ : Byte)
    (body : List Dword) (mismatch : Bool) : s.queOffer i unit_ type_ body mismatch = s :=
  if_pos (.inl h)

section
variable {s : State} {i : Fin 35} {body : List Dword} (h : s.Offerable i body) (unit_ type_ : Byte)
include h

/-- A pointer mismatch found at the offer resets the queue, the offered packet among the lost (R276, R277). -/
theorem State.queOffer_mismatch : s.queOffer i unit_ type_ body true = s.queMismatch i 1 :=
  (if_neg h.admitted).trans (if_pos rfl)

/-- A packet that fits takes the next sequence number and is committed (R270, R272). -/
theorem State.queOffer_fits (hfits : s.QueFits i body) : s.queOffer i unit_ type_ body false =
    s.setQue i ({ s.queMarked i with seq := (s.queMarked i).seq + 1 }.commit (queDepth i.val) (s.spill i.val)
      (queHeader (s.queMarked i).seq type_ unit_ (body.length + 1) :: body)) :=
  (if_neg h.admitted).trans ((if_neg Bool.false_ne_true).trans (if_pos hfits))

/-- A packet that does not fit is dropped and counted (R273). -/
theorem State.queOffer_dropped (hfull : ¬ s.QueFits i body) : s.queOffer i unit_ type_ body false =
    (((s.setQue i ((s.queMarked i).drop s.devTime)).count (F.QUE_DROP_DROPPED i.val) 1).raise
      { src := 99, unit_ := i.val, every := 1000000 }).stagingLoss i 1 :=
  (if_neg h.admitted).trans ((if_neg Bool.false_ne_true).trans (if_neg hfull))

end

/-! ### Releases (R272, R274, R277) -/

section
variable {s : State} {i : Fin 35} (hrun : s.running (queIsl i) = true)
include hrun

theorem State.queRelease_mismatch : s.queRelease i true = s.queMismatch i 0 :=
  (if_neg (by rw [hrun]; decide)).trans (if_pos rfl)

/-- A release outside spill mode: the first packet goes, then a pending gap's marker is due (R274). -/
theorem State.queRelease_native (hsp : s.spill i.val = false) : s.queRelease i false =
    s.setQue i ((s.ques[i].release (queDepth i.val) false).mark (queDepth i.val) (queDepth i.val) false) := by
  refine (if_neg (by rw [hrun]; decide)).trans ((if_neg Bool.false_ne_true).trans ?_)
  rw [State.queCap_native hsp, hsp]

end

/-! ### The status register -/

theorem registerAt_QUE_STAT (i : Fin 35) : RegisterAt (R.QUE_STAT i.val) ⟨0xC0108, 0x10, 35, .mg, 0, []⟩ := by
  revert i; decide

/-- Settles O23: each clause is one branch of an offer or a release, with the queue's own operations outside spill mode;
the read of QUE_STAT is that of a register served by MG. -/
theorem internalQueues : Obligations.InternalQueues := by
  unfold Obligations.InternalQueues
  refine ⟨?committed, ?dropped, fun s i unit_ type_ body hdown =>
      congrArg Host.Outcome.next (State.queOffer_notRunning hdown unit_ type_ body false),
    fun s i unit_ type_ body hrun hlen => congrArg Host.Outcome.next (State.queOffer_mismatch ⟨hrun, hlen⟩ unit_ type_),
    ?released, ?marked, fun s i hrun => congrArg Host.Outcome.next (State.queRelease_mismatch hrun),
    fun s i hi hmg => congrArg Host.Outcome.next (State.readRow_registerAt (registerAt_QUE_STAT i) hi hmg)⟩
  case committed =>
    intro s i unit_ type_ body hrun hsp hgap hlen hfit
    refine congrArg Host.Outcome.next ((State.queOffer_fits ⟨hrun, hlen⟩ unit_ type_
      ((State.queFits_iff hsp hgap).2 hfit)).trans ?_)
    rw [State.queMarked_noGap hgap, hsp, QueS.commit_native]
    rfl
  case dropped =>
    intro s i unit_ type_ body hrun hsp hgap hlen hfull hnotStaging
    refine congrArg Host.Outcome.next ((State.queOffer_dropped ⟨hrun, hlen⟩ unit_ type_
      fun hfits => hfull.not_ge ((State.queFits_iff hsp hgap).1 hfits)).trans ?_)
    rw [State.queMarked_noGap hgap, QueS.drop_noGap hgap, State.stagingLoss_notStaging hnotStaging]
  case released =>
    intro s i p rest hrun hsp hgap hpkts
    refine congrArg Host.Outcome.next ((State.queRelease_native hrun hsp).trans ?_)
    rw [QueS.mark_noGap ((QueS.release_native_gap _ _).trans hgap), QueS.release_native hpkts]
  case marked =>
    intro s i p rest g hrun hsp hgap hpkts hroom
    have hfree : (s.ques[i].release (queDepth i.val) false).fill + 6 ≤ queDepth i.val := by
      rwa [QueS.release_native_fill hpkts]
    refine ⟨_, congrArg Host.Outcome.next (State.queRelease_native hrun hsp), ?_⟩
    rw [State.ques_setQue_self, QueS.mark_room ((QueS.release_native_gap _ _).trans hgap) hfree, QueS.commit_native,
      QueS.release_native hpkts]
    exact ⟨rfl, rfl, rfl, rfl, rfl⟩

end Sys2Proof.Machine
end

section
/-! SUPPORT. What every command leaves alone (R21): each command answers a next state, and the bounds of its own
lemma (Laws/Keeps.lean) lie within what `mayChange` names for it. -/

namespace Sys2Proof.Machine

/-! ### Every command answers a next state -/

/-- An outcome that is a next state. -/
def Completes (o : Host.Outcome State Fault Refusal) : Prop := ∃ t, o = .next t

theorem Completes.next (t : State) : Completes (.next t) := ⟨t, rfl⟩

theorem Completes.ite {p : Prop} [Decidable p] {o o' : Host.Outcome State Fault Refusal} (h : Completes o)
    (h' : Completes o') : Completes (if p then o else o') := ite_of h h'

/-- Every command answers a next state: most are written as one, the others decide first whether they act. -/
theorem exec_completes (c : Instr) (s : State) : Completes (exec c s) := by
  cases c with
  | linkTimeout | channelRecordComplete | phaseConditionSet | phaseConditionClear | rcmTrip | startTestBegin |
  modbusPollDue | modbusTimeout | modbusValueStale | fieldRecordLate | substitutionStop | reverificationBegin |
  slewComplete | servoMonth | timeQualityExpiry | fabricTimeMismatch | pilotStateChange | fallbackPilotFEnd |
  insulationMeasurement | shortDetected | retryPauseEnd | retrySequenceReset | openLoad | openLoadClear |
  aggregateOverload | channelReclaim | holdExpiry | sfScan | outputTest | switchStuck | inputDiscrepancy |
  startTestsComplete | safetyConfigTimeout | hostCompletionTimeout | tamperInput | sealChange | updateStepTimeout |
  healthReport | catchWindowEnd =>
    exact .ite (.next _) (.next _)
  | resolutionDeadline | channelRejoin | vfieldDip | engineRunningReport | quantumRecordArrival =>
    exact .ite (.next _) (.ite (.next _) (.next _))
  | linkFrame => exact .ite (.next _) (.ite (.next _) (.ite (.next _) (.ite (.next _) (.next _))))
  | startTestEnd p =>
    show Completes (execStartTestEnd p s)
    unfold execStartTestEnd
    split
    · exact .next _
    · exact .ite (.next _) (.next _)
  | storeEntryWrite =>
    show Completes (execStoreEntryWrite s)
    unfold execStoreEntryWrite
    split
    · exact .next _
    · exact .ite (.next _) (.next _)
  | fieldRecordArrival c =>
    show Completes (execFieldRecordArrival c s)
    unfold execFieldRecordArrival
    split
    · exact .next _
    · exact .ite (.next _) (.ite (.next _) (.next _))
  | keyUseRequest r slot use checkOk rebuildOk =>
    show Completes (execKeyUseRequest r slot use checkOk rebuildOk s)
    unfold execKeyUseRequest
    split
    · exact .next _
    · exact .ite (.next _) (.ite (.next _) (.next _))
  | safetyDiscrepancy k out =>
    cases k with
    | demand | inputReading => exact .ite (.next _) (.next _)
    | configCrc => exact .next _
  | coalescingTimeout q =>
    cases q with
    | sq => exact .next _
    | cq | eq => exact .ite (.next _) (.next _)
  | shedRestoreStep =>
    refine .ite (.next _) ?_
    split <;> exact .next _
  | modbusResponse port frame gap =>
    refine .ite (.next _) ?_
    split
    · exact .next _
    · exact .ite (.next _) (.ite (.next _) (.next _))
  | totaliserCheck e =>
    refine .ite (.next _) ?_
    extract_lets
    split
    · exact .ite (.next _) (.next _)
    · exact .next _
  | updateStep verified =>
    refine .ite (.next _) ?_
    split
    · exact .next _
    · exact .ite (.next _) (.ite (.next _) (.next _))
  | registerWrite | quantumBoundary | crossingStall | crossingReopen | clockMonitorFault | referenceFault |
  watchdogExpiry | lockstepError | vlRestart | scrubRead | referenceComparison | startTestRequest | startTest |
  supplyLossWarning | supplyLossSave | saveComplete | supplyLossRestart | pulseEdge | reverify | forceOut |
  votTolWrite | signatureComplete | loadCalibrationSet | loadTariffStructure | closeBillingPeriod | takeReading |
  timeCorrection | timeSet | waveformCapture | noOperation | locateStore | assignPointType | identify | authorise |
  revocationStatus | stopSession | clearFault | weldCheckEnd | serviceState | hostCurrentLimit | clearRcmTrip |
  loadContractTable | handshakeTimeout | authorisationTimeout | readyTimeout | checksPassed | checkTimeout |
  overcurrentViolation | vehicleMessage | seccDiscoveryTimeout | vehicleMessageTimeout | couplingDetect |
  couplingAbsent | couplingAttemptTimeout | couplingIdentityFrame | couplingMessage | couplingHeartbeatLost |
  stackCommandSend | stackStatusFrame | stackStatusTimeout | stackCurrentMismatch | rcmTestTimeout | leakTestFillEnd |
  leakTestSettleEnd | leakTestEnd | safeStateReport | switchConfirmTimeout | dcContactorOpenTimeout | overcurrent |
  inrushEnd | shedStep | shedReturn | arrayTemperature | pwmPeriodStart | uvOff | uvRecovery | lswCmdWrite |
  latchClear | lswAggRead | switchHostChannels | clearLatches | safetyInputFiltered | discrepancyClear |
  twoHandTimeout | safetyResetRequest | safetyRestart | loadSafetyConfiguration | confirmSafetyConfiguration |
  hostLinkReset | hostLinkUp | linkRetrain | privLock | spiFrame | windowFrame | queueEnable | queueDisable |
  sqDoorbell | cqDoorbell | eqDoorbell | commandDispatch | commandResult | dataPortAccess | queueOffer | queueRelease
  | queStatRead | phyLinkUp | phyLinkDown | helloSend | helloReceive | helloTimeout | linkStateAdvertReceive |
  advertRepeat | advertRefresh | advertAgeOut | addressClaimFinal | linkCostUpdate | linkSuppressionEnd |
  routeRecompute | routedFrameForward | quarantineEnd | reportSpreadDue | reportSend | reportReceive |
  collectorStoreWrite | mmd5206Frame | fabricCommandReceive | fabricCommandCompletion | ptpMessageReceive |
  ptpSyncSend | ptpAnnounceSend | ptpPeerDelaySend | ptpAnnounceTimeout | ptpLockAcquired | ptpSyncLoss |
  pairHeartbeatSend | duplexMirror | pairReleaseReceive | pairHeartbeatLoss | pairLaneLoss | pairLaneReturn |
  routeLookup | sendFabricCommand | fabricCommandTimeout | switchRole | clearQuarantine | locateCollectorStore |
  advanceKeyEpoch | mtlDataFrame | mtlAckSend | mtlAcknowledgement | mtlAckTimeout | mtlBackoffSlot |
  mtlTransmissionEnd | mtlTransmissionCutoff | mtlBeaconSend | mtlBeacon | mtlRefreshSend | mtlRefreshList |
  mtlWantedAdvertSend | mtlLinkTimeout | mtlNeighbourFree | mtlSegmentSetTimeout | lineDriverFault | lineDriverResume
  | lineNoiseMeasurement | clearToneQuarantine | writeKey | deriveKey | destroyKey | keyStatement | attest |
  setMeterIdentity | enrolIntegratorKey | selectDestructionModes | debugPort | debugKill | displayPowerOn |
  displayPowerOff | displaySequenceStep | panelFault | railFault | fastDischargeComplete | commonToggle | stressCount
  | vcomTrimUpdate | displayPassStart | lineTransferComplete | displayPassEnd | legalPageAdvance | writeOpenLines |
  storeFrame | showStoredFrame | powerOnReset | islandStartComplete | nreset | resetModuleOrIsland |
  moduleResetExecute | receiveContainerPart | stageContainer | activate | confirmHealth | revert |
  shellTemperatureSample | thermalRestart | mgTempRead | i2cTransfer | shellSupplyFault | rtcOscillatorStop | pairUp |
  mediumBusy | mediumIdle | airtimeLimitEnd | lbusyRelease | tamperInputReturn | switchCellOvertemperature =>
    exact .next _

/-! ### Bounds within what `mayChange` names -/

/-- The rows in which registers at some offsets lie, as a mask. -/
def rowMask (offs : List Nat) : Nat := offs.foldr (fun off m => 1 <<< rowOf off ||| m) 0

theorem testBit_rowMask (offs : List Nat) (i : Nat) : (rowMask offs).testBit i = decide (i ∈ offs.map rowOf) := by
  induction offs with
  | nil => exact Nat.zero_testBit i
  | cons o t ih =>
    have hcons : rowMask (o :: t) = 1 <<< rowOf o ||| rowMask t := rfl
    have hbit : (1 <<< rowOf o).testBit i = decide (i = rowOf o) := by
      rw [Nat.one_shiftLeft, Nat.testBit_two_pow, decide_eq_decide]
      exact eq_comm
    rw [hcons, Nat.testBit_or, ih, hbit, List.map_cons, ← Bool.decide_or, decide_eq_decide, List.mem_cons]

/-- Whether the bounds `P` and `B` of `Keeps` name no more than some parts and, where they are given, some rows. -/
def boundsNamed (P B : Nat) (m : List Part × Option (List Nat)) : Bool :=
  partsNamed P m.1 && m.2.all (fun offs => B % 2 ^ 240 &&& rowMask offs == B % 2 ^ 240)

theorem rowsNamed_of_mask {B : Nat} {offs : List Nat} (h : B % 2 ^ 240 &&& rowMask offs = B % 2 ^ 240) :
    rowsNamed B (offs.map rowOf) = true := by
  unfold rowsNamed
  refine List.all_eq_true.2 (fun r hr => ?_)
  have hbit := congrArg (fun x => x.testBit r) h
  simp only [Nat.testBit_and, testBit_rowMask, Nat.testBit_mod_two_pow, List.mem_range.1 hr, decide_true,
    Bool.true_and] at hbit
  cases hB : B.testBit r
  · simp
  · simpa [hB] using hbit

theorem Keeps.withoutRegs {P B : Nat} {s t : State} (h : Keeps P B s t) : Keeps P 0 s { t with regs := s.regs } :=
  { h with reg := fun _ _ => Eq.refl _, pmem := fun x y => ⟨(h.pmem x y).1, y⟩ }

/-- A part that is not named is the same, whatever the registers. -/
theorem Keeps.part_same {P B : Nat} {s t : State} {parts : List Part} (h : Keeps P B s t)
    (hp : partsNamed P parts = true) {p : Part} (hn : p ∉ parts) : p.same s t := by
  have hframe : Frame parts [] s { t with regs := s.regs } := h.withoutRegs.frame hp (by decide +kernel)
  have hsame := hframe.part p hn
  cases p <;> exact hsame

/-- What is claimed of a command in a state. -/
def Framed (c : Instr) (s : State) : Prop :=
  ∃ t, exec c s = .next t ∧ t.pending = s.pending ∧ (∀ p, p ∉ (mayChange c).1 → p.same s t) ∧
    ∀ rows, (mayChange c).2 = some rows →
      ∀ off, rowOf off ≤ rowBase 14 → rowOf off ∉ rows.map rowOf → t.reg off = s.reg off

/-- A command stays within its frame when the bounds of its own lemma do; that they do is a closed computation. -/
theorem KeepsO.framed {P B : Nat} {c : Instr} {s : State} (h : KeepsO P B s (exec c s)) (hc : Completes (exec c s))
    (hb : boundsNamed P B (mayChange c) = true := by dsimp only [mayChange]; decide +kernel) : Framed c s := by
  obtain ⟨t, ht⟩ := hc
  obtain ⟨hparts, hmask⟩ := Bool.and_eq_true_iff.1 hb
  have hkeeps : Keeps P B s t := h t ht
  refine ⟨t, ht, hkeeps.pending, fun p hn => hkeeps.part_same hparts hn, fun rows hrows => ?_⟩
  rw [hrows, Option.all_some, beq_iff_eq] at hmask
  exact (hkeeps.frame hparts (rowsNamed_of_mask hmask)).reg

/-- Every command's bounds are within its frame. -/
theorem exec_framed (c : Instr) (s : State) : Framed c s :=
  have hc : Completes (exec c s) := exec_completes c s
  match c with
  | .registerWrite off size v => KeepsO.framed (execRegisterWrite_keeps off size v s) hc
  | .quantumBoundary => KeepsO.framed (execQuantumBoundary_keeps s) hc
  | .crossingStall snd rcv blameReceiver => KeepsO.framed (execCrossingStall_keeps snd rcv blameReceiver s) hc
  | .crossingReopen snd rcv => KeepsO.framed (execCrossingReopen_keeps snd rcv s) hc
  | .clockMonitorFault i1 remote => KeepsO.framed (execClockMonitorFault_keeps i1 remote s) hc
  | .referenceFault => KeepsO.framed (execReferenceFault_keeps s) hc
  | .watchdogExpiry engine => KeepsO.framed (execWatchdogExpiry_keeps engine s) hc
  | .lockstepError => KeepsO.framed (execLockstepError_keeps s) hc
  | .vlRestart => KeepsO.framed (execVlRestart_keeps s) hc
  | .scrubRead i1 mem word err legalCopy => KeepsO.framed (execScrubRead_keeps i1 mem word err legalCopy s) hc
  | .linkFrame c frame => KeepsO.framed (execLinkFrame_keeps c frame s) hc
  | .linkTimeout c => KeepsO.framed (execLinkTimeout_keeps c s) hc
  | .referenceComparison ab bc ca => KeepsO.framed (execReferenceComparison_keeps ab bc ca s) hc
  | .channelRecordComplete c => KeepsO.framed (execChannelRecordComplete_keeps c s) hc
  | .phaseConditionSet c p k => KeepsO.framed (execPhaseConditionSet_keeps c p k s) hc
  | .phaseConditionClear c p k => KeepsO.framed (execPhaseConditionClear_keeps c p k s) hc
  | .rcmTrip c p row => KeepsO.framed (execRcmTrip_keeps c p row s) hc
  | .startTestRequest v => KeepsO.framed (execStartTestRequest_keeps v s) hc
  | .startTest d => KeepsO.framed (execStartTest_keeps d s) hc
  | .startTestBegin p => KeepsO.framed (execStartTestBegin_keeps p s) hc
  | .startTestEnd p => KeepsO.framed (execStartTestEnd_keeps p s) hc
  | .supplyLossWarning src => KeepsO.framed (execSupplyLossWarning_keeps src s) hc
  | .supplyLossSave => KeepsO.framed (execSupplyLossSave_keeps s) hc
  | .saveComplete => KeepsO.framed (execSaveComplete_keeps s) hc
  | .supplyLossRestart => KeepsO.framed (execSupplyLossRestart_keeps s) hc
  | .pulseEdge n tickA tickB tickC => KeepsO.framed (execPulseEdge_keeps n tickA tickB tickC s) hc
  | .modbusPollDue e => KeepsO.framed (execModbusPollDue_keeps e s) hc
  | .modbusResponse port frame gap => KeepsO.framed (execModbusResponse_keeps port frame gap s) hc
  | .modbusTimeout port => KeepsO.framed (execModbusTimeout_keeps port s) hc
  | .modbusValueStale e => KeepsO.framed (execModbusValueStale_keeps e s) hc
  | .totaliserCheck e => KeepsO.framed (execTotaliserCheck_keeps e s) hc
  | .fieldRecordArrival c => KeepsO.framed (execFieldRecordArrival_keeps c s) hc
  | .fieldRecordLate c => KeepsO.framed (execFieldRecordLate_keeps c s) hc
  | .substitutionStop p => KeepsO.framed (execSubstitutionStop_keeps p s) hc
  | .quantumRecordArrival arrived corrupt => KeepsO.framed (execQuantumRecordArrival_keeps arrived corrupt s) hc
  | .resolutionDeadline => KeepsO.framed (execResolutionDeadline_keeps s) hc
  | .reverificationBegin c => KeepsO.framed (execReverificationBegin_keeps c s) hc
  | .reverify v => KeepsO.framed (execReverify_keeps v s) hc
  | .forceOut v => KeepsO.framed (execForceOut_keeps v s) hc
  | .channelRejoin c => KeepsO.framed (execChannelRejoin_keeps c s) hc
  | .votTolWrite k v => KeepsO.framed (execVotTolWrite_keeps k v s) hc
  | .signatureComplete => KeepsO.framed (execSignatureComplete_keeps s) hc
  | .storeEntryWrite => KeepsO.framed (execStoreEntryWrite_keeps s) hc
  | .slewComplete => KeepsO.framed (execSlewComplete_keeps s) hc
  | .servoMonth => KeepsO.framed (execServoMonth_keeps s) hc
  | .timeQualityExpiry => KeepsO.framed (execTimeQualityExpiry_keeps s) hc
  | .fabricTimeMismatch => KeepsO.framed (execFabricTimeMismatch_keeps s) hc
  | .loadCalibrationSet d => KeepsO.framed (execLoadCalibrationSet_keeps d s) hc
  | .loadTariffStructure d => KeepsO.framed (execLoadTariffStructure_keeps d s) hc
  | .closeBillingPeriod d => KeepsO.framed (execCloseBillingPeriod_keeps d s) hc
  | .takeReading d => KeepsO.framed (execTakeReading_keeps d s) hc
  | .timeCorrection d => KeepsO.framed (execTimeCorrection_keeps d s) hc
  | .timeSet d => KeepsO.framed (execTimeSet_keeps d s) hc
  | .waveformCapture d => KeepsO.framed (execWaveformCapture_keeps d s) hc
  | .noOperation d => KeepsO.framed (execNoOperation_keeps d s) hc
  | .locateStore d => KeepsO.framed (execLocateStore_keeps d s) hc
  | .assignPointType d => KeepsO.framed (execAssignPointType_keeps d s) hc
  | .identify d => KeepsO.framed (execIdentify_keeps d s) hc
  | .authorise d => KeepsO.framed (execAuthorise_keeps d s) hc
  | .revocationStatus d => KeepsO.framed (execRevocationStatus_keeps d s) hc
  | .stopSession d => KeepsO.framed (execStopSession_keeps d s) hc
  | .clearFault d => KeepsO.framed (execClearFault_keeps d s) hc
  | .weldCheckEnd p passed => KeepsO.framed (execWeldCheckEnd_keeps p passed s) hc
  | .serviceState d => KeepsO.framed (execServiceState_keeps d s) hc
  | .hostCurrentLimit d => KeepsO.framed (execHostCurrentLimit_keeps d s) hc
  | .clearRcmTrip d => KeepsO.framed (execClearRcmTrip_keeps d s) hc
  | .loadContractTable d => KeepsO.framed (execLoadContractTable_keeps d s) hc
  | .pilotStateChange p high low ohms => KeepsO.framed (execPilotStateChange_keeps p high low ohms s) hc
  | .handshakeTimeout p => KeepsO.framed (execHandshakeTimeout_keeps p s) hc
  | .authorisationTimeout p => KeepsO.framed (execAuthorisationTimeout_keeps p s) hc
  | .readyTimeout p => KeepsO.framed (execReadyTimeout_keeps p s) hc
  | .checksPassed p => KeepsO.framed (execChecksPassed_keeps p s) hc
  | .checkTimeout p k => KeepsO.framed (execCheckTimeout_keeps p k s) hc
  | .overcurrentViolation p => KeepsO.framed (execOvercurrentViolation_keeps p s) hc
  | .vehicleMessage p m => KeepsO.framed (execVehicleMessage_keeps p m s) hc
  | .seccDiscoveryTimeout p => KeepsO.framed (execSeccDiscoveryTimeout_keeps p s) hc
  | .fallbackPilotFEnd p => KeepsO.framed (execFallbackPilotFEnd_keeps p s) hc
  | .vehicleMessageTimeout p => KeepsO.framed (execVehicleMessageTimeout_keeps p s) hc
  | .couplingDetect p loop => KeepsO.framed (execCouplingDetect_keeps p loop s) hc
  | .couplingAbsent p loop => KeepsO.framed (execCouplingAbsent_keeps p loop s) hc
  | .couplingAttemptTimeout p => KeepsO.framed (execCouplingAttemptTimeout_keeps p s) hc
  | .couplingIdentityFrame p frame => KeepsO.framed (execCouplingIdentityFrame_keeps p frame s) hc
  | .couplingMessage p m => KeepsO.framed (execCouplingMessage_keeps p m s) hc
  | .couplingHeartbeatLost p => KeepsO.framed (execCouplingHeartbeatLost_keeps p s) hc
  | .stackCommandSend p => KeepsO.framed (execStackCommandSend_keeps p s) hc
  | .stackStatusFrame port ident frame => KeepsO.framed (execStackStatusFrame_keeps port ident frame s) hc
  | .stackStatusTimeout p => KeepsO.framed (execStackStatusTimeout_keeps p s) hc
  | .stackCurrentMismatch p => KeepsO.framed (execStackCurrentMismatch_keeps p s) hc
  | .rcmTestTimeout p => KeepsO.framed (execRcmTestTimeout_keeps p s) hc
  | .insulationMeasurement c kohm => KeepsO.framed (execInsulationMeasurement_keeps c kohm s) hc
  | .leakTestFillEnd p => KeepsO.framed (execLeakTestFillEnd_keeps p s) hc
  | .leakTestSettleEnd p => KeepsO.framed (execLeakTestSettleEnd_keeps p s) hc
  | .leakTestEnd p => KeepsO.framed (execLeakTestEnd_keeps p s) hc
  | .safeStateReport p => KeepsO.framed (execSafeStateReport_keeps p s) hc
  | .switchConfirmTimeout p => KeepsO.framed (execSwitchConfirmTimeout_keeps p s) hc
  | .dcContactorOpenTimeout p => KeepsO.framed (execDcContactorOpenTimeout_keeps p s) hc
  | .shortDetected n => KeepsO.framed (execShortDetected_keeps n s) hc
  | .overcurrent n => KeepsO.framed (execOvercurrent_keeps n s) hc
  | .retryPauseEnd n => KeepsO.framed (execRetryPauseEnd_keeps n s) hc
  | .retrySequenceReset n => KeepsO.framed (execRetrySequenceReset_keeps n s) hc
  | .inrushEnd n => KeepsO.framed (execInrushEnd_keeps n s) hc
  | .openLoad n => KeepsO.framed (execOpenLoad_keeps n s) hc
  | .openLoadClear n => KeepsO.framed (execOpenLoadClear_keeps n s) hc
  | .aggregateOverload mean1s inst => KeepsO.framed (execAggregateOverload_keeps mean1s inst s) hc
  | .shedStep mean10ms => KeepsO.framed (execShedStep_keeps mean10ms s) hc
  | .shedReturn mean1s => KeepsO.framed (execShedReturn_keeps mean1s s) hc
  | .shedRestoreStep => KeepsO.framed (execShedRestoreStep_keeps s) hc
  | .arrayTemperature degC => KeepsO.framed (execArrayTemperature_keeps degC s) hc
  | .pwmPeriodStart g => KeepsO.framed (execPwmPeriodStart_keeps g s) hc
  | .vfieldDip v10mV => KeepsO.framed (execVfieldDip_keeps v10mV s) hc
  | .uvOff v10mV => KeepsO.framed (execUvOff_keeps v10mV s) hc
  | .uvRecovery v10mV => KeepsO.framed (execUvRecovery_keeps v10mV s) hc
  | .channelReclaim n => KeepsO.framed (execChannelReclaim_keeps n s) hc
  | .holdExpiry => KeepsO.framed (execHoldExpiry_keeps s) hc
  | .lswCmdWrite v => KeepsO.framed (execLswCmdWrite_keeps v s) hc
  | .latchClear v => KeepsO.framed (execLatchClear_keeps v s) hc
  | .lswAggRead => KeepsO.framed (execLswAggRead_keeps s) hc
  | .switchHostChannels d => KeepsO.framed (execSwitchHostChannels_keeps d s) hc
  | .clearLatches d => KeepsO.framed (execClearLatches_keeps d s) hc
  | .safetyInputFiltered i1 level inA inB tA tB =>
    KeepsO.framed (execSafetyInputFiltered_keeps i1 level inA inB tA tB s) hc
  | .sfScan => KeepsO.framed (execSfScan_keeps s) hc
  | .safetyDiscrepancy k out => KeepsO.framed (execSafetyDiscrepancy_keeps k out s) hc
  | .outputTest out swB fell => KeepsO.framed (execOutputTest_keeps out swB fell s) hc
  | .switchStuck out swB on => KeepsO.framed (execSwitchStuck_keeps out swB on s) hc
  | .inputDiscrepancy f => KeepsO.framed (execInputDiscrepancy_keeps f s) hc
  | .discrepancyClear f => KeepsO.framed (execDiscrepancyClear_keeps f s) hc
  | .twoHandTimeout f inA inB => KeepsO.framed (execTwoHandTimeout_keeps f inA inB s) hc
  | .safetyResetRequest v => KeepsO.framed (execSafetyResetRequest_keeps v s) hc
  | .safetyRestart v => KeepsO.framed (execSafetyRestart_keeps v s) hc
  | .startTestsComplete pass => KeepsO.framed (execStartTestsComplete_keeps pass s) hc
  | .loadSafetyConfiguration d => KeepsO.framed (execLoadSafetyConfiguration_keeps d s) hc
  | .confirmSafetyConfiguration d => KeepsO.framed (execConfirmSafetyConfiguration_keeps d s) hc
  | .safetyConfigTimeout => KeepsO.framed (execSafetyConfigTimeout_keeps s) hc
  | .hostLinkReset => KeepsO.framed (execHostLinkReset_keeps s) hc
  | .hostLinkUp gen width => KeepsO.framed (execHostLinkUp_keeps gen width s) hc
  | .linkRetrain v => KeepsO.framed (execLinkRetrain_keeps v s) hc
  | .privLock v => KeepsO.framed (execPrivLock_keeps v s) hc
  | .spiFrame bytes readLen brokenByte => KeepsO.framed (execSpiFrame_keeps bytes readLen brokenByte s) hc
  | .windowFrame bytes => KeepsO.framed (execWindowFrame_keeps bytes s) hc
  | .queueEnable q v => KeepsO.framed (execQueueEnable_keeps q v s) hc
  | .queueDisable q v => KeepsO.framed (execQueueDisable_keeps q v s) hc
  | .sqDoorbell n v fetched failed => KeepsO.framed (execSqDoorbell_keeps n v fetched failed s) hc
  | .cqDoorbell n v => KeepsO.framed (execCqDoorbell_keeps n v s) hc
  | .eqDoorbell e v => KeepsO.framed (execEqDoorbell_keeps e v s) hc
  | .commandDispatch n => KeepsO.framed (execCommandDispatch_keeps n s) hc
  | .commandResult writeFails => KeepsO.framed (execCommandResult_keeps writeFails s) hc
  | .hostCompletionTimeout q => KeepsO.framed (execHostCompletionTimeout_keeps q s) hc
  | .coalescingTimeout q => KeepsO.framed (execCoalescingTimeout_keeps q s) hc
  | .dataPortAccess off op => KeepsO.framed (execDataPortAccess_keeps off op s) hc
  | .queueOffer i1 unit_ type_ body mismatch => KeepsO.framed (execQueueOffer_keeps i1 unit_ type_ body mismatch s) hc
  | .queueRelease i1 mismatch => KeepsO.framed (execQueueRelease_keeps i1 mismatch s) hc
  | .queStatRead i1 => KeepsO.framed (execQueStatRead_keeps i1 s) hc
  | .phyLinkUp k => KeepsO.framed (execPhyLinkUp_keeps k s) hc
  | .phyLinkDown k => KeepsO.framed (execPhyLinkDown_keeps k s) hc
  | .helloSend k => KeepsO.framed (execHelloSend_keeps k s) hc
  | .helloReceive k frame => KeepsO.framed (execHelloReceive_keeps k frame s) hc
  | .helloTimeout k => KeepsO.framed (execHelloTimeout_keeps k s) hc
  | .linkStateAdvertReceive port frame => KeepsO.framed (execLinkStateAdvertReceive_keeps port frame s) hc
  | .advertRepeat => KeepsO.framed (execAdvertRepeat_keeps s) hc
  | .advertRefresh => KeepsO.framed (execAdvertRefresh_keeps s) hc
  | .advertAgeOut ident => KeepsO.framed (execAdvertAgeOut_keeps ident s) hc
  | .addressClaimFinal => KeepsO.framed (execAddressClaimFinal_keeps s) hc
  | .linkCostUpdate k badPerMille meanFill => KeepsO.framed (execLinkCostUpdate_keeps k badPerMille meanFill s) hc
  | .linkSuppressionEnd port j => KeepsO.framed (execLinkSuppressionEnd_keeps port j s) hc
  | .routeRecompute => KeepsO.framed (execRouteRecompute_keeps s) hc
  | .routedFrameForward port frame => KeepsO.framed (execRoutedFrameForward_keeps port frame s) hc
  | .quarantineEnd port j => KeepsO.framed (execQuarantineEnd_keeps port j s) hc
  | .reportSpreadDue => KeepsO.framed (execReportSpreadDue_keeps s) hc
  | .reportSend => KeepsO.framed (execReportSend_keeps s) hc
  | .reportReceive port payload type_ => KeepsO.framed (execReportReceive_keeps port payload type_ s) hc
  | .collectorStoreWrite => KeepsO.framed (execCollectorStoreWrite_keeps s) hc
  | .mmd5206Frame k frame => KeepsO.framed (execMmd5206Frame_keeps k frame s) hc
  | .fabricCommandReceive payload => KeepsO.framed (execFabricCommandReceive_keeps payload s) hc
  | .fabricCommandCompletion payload => KeepsO.framed (execFabricCommandCompletion_keeps payload s) hc
  | .ptpMessageReceive k m => KeepsO.framed (execPtpMessageReceive_keeps k m s) hc
  | .ptpSyncSend k => KeepsO.framed (execPtpSyncSend_keeps k s) hc
  | .ptpAnnounceSend k => KeepsO.framed (execPtpAnnounceSend_keeps k s) hc
  | .ptpPeerDelaySend k => KeepsO.framed (execPtpPeerDelaySend_keeps k s) hc
  | .ptpAnnounceTimeout k => KeepsO.framed (execPtpAnnounceTimeout_keeps k s) hc
  | .ptpLockAcquired => KeepsO.framed (execPtpLockAcquired_keeps s) hc
  | .ptpSyncLoss => KeepsO.framed (execPtpSyncLoss_keeps s) hc
  | .pairHeartbeatSend => KeepsO.framed (execPairHeartbeatSend_keeps s) hc
  | .duplexMirror m => KeepsO.framed (execDuplexMirror_keeps m s) hc
  | .pairReleaseReceive => KeepsO.framed (execPairReleaseReceive_keeps s) hc
  | .pairHeartbeatLoss => KeepsO.framed (execPairHeartbeatLoss_keeps s) hc
  | .pairLaneLoss laneB => KeepsO.framed (execPairLaneLoss_keeps laneB s) hc
  | .pairLaneReturn laneB partnerIdent partnerBow =>
    KeepsO.framed (execPairLaneReturn_keeps laneB partnerIdent partnerBow s) hc
  | .routeLookup d => KeepsO.framed (execRouteLookup_keeps d s) hc
  | .sendFabricCommand d => KeepsO.framed (execSendFabricCommand_keeps d s) hc
  | .fabricCommandTimeout => KeepsO.framed (execFabricCommandTimeout_keeps s) hc
  | .switchRole d => KeepsO.framed (execSwitchRole_keeps d s) hc
  | .clearQuarantine d => KeepsO.framed (execClearQuarantine_keeps d s) hc
  | .locateCollectorStore d => KeepsO.framed (execLocateCollectorStore_keeps d s) hc
  | .advanceKeyEpoch d => KeepsO.framed (execAdvanceKeyEpoch_keeps d s) hc
  | .mtlDataFrame rx => KeepsO.framed (execMtlDataFrame_keeps rx s) hc
  | .mtlAckSend => KeepsO.framed (execMtlAckSend_keeps s) hc
  | .mtlAcknowledgement rx => KeepsO.framed (execMtlAcknowledgement_keeps rx s) hc
  | .mtlAckTimeout => KeepsO.framed (execMtlAckTimeout_keeps s) hc
  | .mtlBackoffSlot => KeepsO.framed (execMtlBackoffSlot_keeps s) hc
  | .mtlTransmissionEnd => KeepsO.framed (execMtlTransmissionEnd_keeps s) hc
  | .mtlTransmissionCutoff => KeepsO.framed (execMtlTransmissionCutoff_keeps s) hc
  | .mtlBeaconSend => KeepsO.framed (execMtlBeaconSend_keeps s) hc
  | .mtlBeacon rx => KeepsO.framed (execMtlBeacon_keeps rx s) hc
  | .mtlRefreshSend => KeepsO.framed (execMtlRefreshSend_keeps s) hc
  | .mtlRefreshList rx => KeepsO.framed (execMtlRefreshList_keeps rx s) hc
  | .mtlWantedAdvertSend orig => KeepsO.framed (execMtlWantedAdvertSend_keeps orig s) hc
  | .mtlLinkTimeout j => KeepsO.framed (execMtlLinkTimeout_keeps j s) hc
  | .mtlNeighbourFree j => KeepsO.framed (execMtlNeighbourFree_keeps j s) hc
  | .mtlSegmentSetTimeout j => KeepsO.framed (execMtlSegmentSetTimeout_keeps j s) hc
  | .lineDriverFault => KeepsO.framed (execLineDriverFault_keeps s) hc
  | .lineDriverResume => KeepsO.framed (execLineDriverResume_keeps s) hc
  | .lineNoiseMeasurement d noise => KeepsO.framed (execLineNoiseMeasurement_keeps d noise s) hc
  | .clearToneQuarantine d => KeepsO.framed (execClearToneQuarantine_keeps d s) hc
  | .keyUseRequest requester slot use checkOk rebuildOk =>
    KeepsO.framed (execKeyUseRequest_keeps requester slot use checkOk rebuildOk s) hc
  | .writeKey d => KeepsO.framed (execWriteKey_keeps d s) hc
  | .deriveKey d => KeepsO.framed (execDeriveKey_keeps d s) hc
  | .destroyKey d => KeepsO.framed (execDestroyKey_keeps d s) hc
  | .keyStatement d => KeepsO.framed (execKeyStatement_keeps d s) hc
  | .attest d => KeepsO.framed (execAttest_keeps d s) hc
  | .setMeterIdentity d => KeepsO.framed (execSetMeterIdentity_keeps d s) hc
  | .enrolIntegratorKey d => KeepsO.framed (execEnrolIntegratorKey_keeps d s) hc
  | .selectDestructionModes d => KeepsO.framed (execSelectDestructionModes_keeps d s) hc
  | .debugPort d => KeepsO.framed (execDebugPort_keeps d s) hc
  | .debugKill d => KeepsO.framed (execDebugKill_keeps d s) hc
  | .tamperInput n => KeepsO.framed (execTamperInput_keeps n s) hc
  | .sealChange open_ => KeepsO.framed (execSealChange_keeps open_ s) hc
  | .displayPowerOn v => KeepsO.framed (execDisplayPowerOn_keeps v s) hc
  | .displayPowerOff v => KeepsO.framed (execDisplayPowerOff_keeps v s) hc
  | .displaySequenceStep => KeepsO.framed (execDisplaySequenceStep_keeps s) hc
  | .panelFault => KeepsO.framed (execPanelFault_keeps s) hc
  | .railFault => KeepsO.framed (execRailFault_keeps s) hc
  | .fastDischargeComplete => KeepsO.framed (execFastDischargeComplete_keeps s) hc
  | .commonToggle => KeepsO.framed (execCommonToggle_keeps s) hc
  | .stressCount => KeepsO.framed (execStressCount_keeps s) hc
  | .vcomTrimUpdate => KeepsO.framed (execVcomTrimUpdate_keeps s) hc
  | .displayPassStart => KeepsO.framed (execDisplayPassStart_keeps s) hc
  | .lineTransferComplete => KeepsO.framed (execLineTransferComplete_keeps s) hc
  | .displayPassEnd => KeepsO.framed (execDisplayPassEnd_keeps s) hc
  | .legalPageAdvance => KeepsO.framed (execLegalPageAdvance_keeps s) hc
  | .writeOpenLines d => KeepsO.framed (execWriteOpenLines_keeps d s) hc
  | .storeFrame d => KeepsO.framed (execStoreFrame_keeps d s) hc
  | .showStoredFrame d => KeepsO.framed (execShowStoredFrame_keeps d s) hc
  | .powerOnReset straps rtcUs oscStop healthOk =>
    KeepsO.framed (execPowerOnReset_keeps straps rtcUs oscStop healthOk s) hc
  | .islandStartComplete i1 => KeepsO.framed (execIslandStartComplete_keeps i1 s) hc
  | .nreset => KeepsO.framed (execNreset_keeps s) hc
  | .resetModuleOrIsland d => KeepsO.framed (execResetModuleOrIsland_keeps d s) hc
  | .moduleResetExecute => KeepsO.framed (execModuleResetExecute_keeps s) hc
  | .receiveContainerPart d => KeepsO.framed (execReceiveContainerPart_keeps d s) hc
  | .stageContainer d unwrapOk => KeepsO.framed (execStageContainer_keeps d unwrapOk s) hc
  | .activate d => KeepsO.framed (execActivate_keeps d s) hc
  | .updateStep verified => KeepsO.framed (execUpdateStep_keeps verified s) hc
  | .engineRunningReport e => KeepsO.framed (execEngineRunningReport_keeps e s) hc
  | .updateStepTimeout => KeepsO.framed (execUpdateStepTimeout_keeps s) hc
  | .healthReport e => KeepsO.framed (execHealthReport_keeps e s) hc
  | .confirmHealth d => KeepsO.framed (execConfirmHealth_keeps d s) hc
  | .catchWindowEnd => KeepsO.framed (execCatchWindowEnd_keeps s) hc
  | .revert d => KeepsO.framed (execRevert_keeps d s) hc
  | .shellTemperatureSample degC for1ms => KeepsO.framed (execShellTemperatureSample_keeps degC for1ms s) hc
  | .thermalRestart degC => KeepsO.framed (execThermalRestart_keeps degC s) hc
  | .mgTempRead => KeepsO.framed (execMgTempRead_keeps s) hc
  | .i2cTransfer d bus => KeepsO.framed (execI2cTransfer_keeps d bus s) hc
  | .shellSupplyFault => KeepsO.framed (execShellSupplyFault_keeps s) hc
  | .rtcOscillatorStop => KeepsO.framed (execRtcOscillatorStop_keeps s) hc
  | .pairUp partnerIdent partnerAddr partnerPref =>
    KeepsO.framed (execPairUp_keeps partnerIdent partnerAddr partnerPref s) hc
  | .mediumBusy => KeepsO.framed (execMediumBusy_keeps s) hc
  | .mediumIdle draw => KeepsO.framed (execMediumIdle_keeps draw s) hc
  | .airtimeLimitEnd => KeepsO.framed (execAirtimeLimitEnd_keeps s) hc
  | .lbusyRelease => KeepsO.framed (execLbusyRelease_keeps s) hc
  | .tamperInputReturn n => KeepsO.framed (execTamperInputReturn_keeps n s) hc
  | .switchCellOvertemperature n => KeepsO.framed (execSwitchCellOvertemperature_keeps n s) hc

/-- Settles O7: every command answers a next state, and what its own lemma lets change is named. -/
theorem everyCommandFrame : Obligations.EveryCommandFrame := by
  unfold Obligations.EveryCommandFrame
  exact exec_framed

/-! ### Steps -/

/-- Settles O1: the front of the queue is taken, and putting the rest back gives the state itself. -/
theorem stepRunsFront : Obligations.StepRunsFront := by
  unfold Obligations.StepRunsFront
  exact fun _ _ => rfl

/-- Settles O2: the quantum's last microsecond is the boundary's. -/
theorem idleStep : Obligations.IdleStep := by
  unfold Obligations.IdleStep
  intro s hempty
  have hstep : step s = .next s.idle := by unfold step; rw [hempty]
  rw [hstep, State.idle]
  by_cases hin : s.time.usInQ < 9999
  · simp only [if_pos hin]
  · simp only [if_neg hin]

end Sys2Proof.Machine
end

section
/-! SUPPORT. Sending frames (R282, R283, R293, R323): what CM's records hold after frames were sent. A frame advances
the sequence number of its neighbour and, on the mains tone link, waits in the transmit queue; an advert may also be
due in the next refresh list. Every other record of CM is as it was. -/

namespace Sys2Proof.Machine

/-! ### The gates of CM and of the mains tone link -/

theorem State.cm_run {s : State} (h : s.running .cm = true) (body : State → State) : s.cm body = body s := if_pos h

theorem State.cm_same {s : State} {body : State → State} (h : body s = s) : s.cm body = s := by
  unfold State.cm
  rw [h]
  exact ite_self s

theorem State.tone_run {s : State} (hrun : s.running .cm = true) (hen : s.flag F.MTL_CFG_EN = true)
    (body : State → State) : s.tone body = body s := (State.cm_run hrun _).trans (if_pos hen)

theorem State.tone_same {s : State} {body : State → State} (h : body s = s) : s.tone body = s := by
  refine State.cm_same ?_
  rw [h]
  exact ite_self s

/-- A one-bit field that reads 1 is set. -/
theorem State.flag_of_one {s : State} {f : Fld} (h : s.get f = 1) : s.flag f = true := by rw [State.flag, h]; rfl

theorem State.flag_of_zero {s : State} {f : Fld} (h : s.get f = 0) : s.flag f = false := by rw [State.flag, h]; rfl

/-! ### Records without what sending advances -/

/-- What CM keeps of a neighbour, without the sequence number of the next frame to it. -/
def Neigh.unsent (n : Neigh) : Neigh := { n with txSeq := 0 }

/-- A port's records without that number. -/
def FabPort.unsent (p : FabPort) : FabPort := { p with nb := p.nb.unsent }

/-- A neighbour entry without that number. -/
def MtlNb.unsent (n : MtlNb) : MtlNb := { n with nb := n.nb.unsent }

/-- The fabric's records without the ports' sequence numbers. -/
def FabS.unsent (f : FabS) : FabS := { f with ports := f.ports.map FabPort.unsent }

/-- The mains tone link's records without sequence and frame numbers, the transmit queue, and what is due in refresh
lists. -/
def MtlS.unsent (m : MtlS) : MtlS :=
  { m with nbs := m.nbs.map MtlNb.unsent, queue := [], number := 0, setNo := 0, refresh := [], whole := [] }

/-- From the first state to the second CM has only sent frames. -/
structure State.Sent (s t : State) : Prop where
  fab : t.fab.unsent = s.fab.unsent
  mtl : t.mtl.unsent = s.mtl.unsent

section
variable {s t u : State}

theorem State.Sent.of_same (hfab : t.fab = s.fab) (hmtl : t.mtl = s.mtl) : s.Sent t :=
  ⟨congrArg FabS.unsent hfab, congrArg MtlS.unsent hmtl⟩

theorem State.Sent.refl (s : State) : s.Sent s := .of_same rfl rfl

theorem State.Sent.trans (h : s.Sent t) (k : t.Sent u) : s.Sent u := ⟨k.fab.trans h.fab, k.mtl.trans h.mtl⟩

theorem Keeps.sent {P B : Nat} (h : Keeps P B s t) (hfab : P.testBit 10 = false) (hmtl : P.testBit 11 = false) :
    s.Sent t := .of_same (h.fab hfab) (h.mtl hmtl)

/-- What a reading of the fabric's records that does not see sequence numbers gives. -/
theorem State.Sent.fab_eq {α : Type} (h : s.Sent t) (p : FabS → α) (hp : ∀ f, p f.unsent = p f) :
    p t.fab = p s.fab := by
  rw [← hp, h.fab, hp]

theorem State.Sent.mtl_eq {α : Type} (h : s.Sent t) (p : MtlS → α) (hp : ∀ m, p m.unsent = p m) :
    p t.mtl = p s.mtl := by
  rw [← hp, h.mtl, hp]

theorem State.Sent.port_eq {α : Type} (h : s.Sent t) (p : FabPort → α) (hp : ∀ x, p x.unsent = p x) (k : Fin 4) :
    p t.fab.ports[k] = p s.fab.ports[k] :=
  h.fab_eq (fun f => p f.ports[k]) (fun f => by simp [FabS.unsent, hp])

theorem State.Sent.entry_eq {α : Type} (h : s.Sent t) (p : MtlNb → α) (hp : ∀ x, p x.unsent = p x) (j : Fin 32) :
    p t.mtl.nbs[j] = p s.mtl.nbs[j] :=
  h.mtl_eq (fun m => p m.nbs[j]) (fun m => by simp [MtlS.unsent, hp])

end

/-! ### One frame -/

theorem map_set_of_eq {α β : Type} {n : Nat} (v : Vector α n) {i : Nat} (hi : i < n) {x : α} {f : α → β}
    (h : f x = f v[i]) : (v.set i x).map f = v.map f := by
  rw [Vector.map_set, h]
  ext k hk
  by_cases hik : i = k
  · subst hik; simp
  · simp [Vector.getElem_set_ne _ _ hik]

theorem State.Sent.modNb_txSeq (s : State) (l : Lnk) (n : Word) :
    s.Sent (s.modNb l (fun x => { x with txSeq := n })) := by
  cases l with
  | fp k =>
    have hports := map_set_of_eq s.fab.ports k.isLt (f := FabPort.unsent)
      (x := { s.fab.ports[k] with nb := { s.fab.ports[k].nb with txSeq := n } }) rfl
    exact ⟨congrArg (fun p => { s.fab with ports := p }) hports, rfl⟩
  | tl j =>
    have hnbs := map_set_of_eq s.mtl.nbs j.isLt (f := MtlNb.unsent)
      (x := { s.mtl.nbs[j] with nb := { s.mtl.nbs[j].nb with txSeq := n } }) rfl
    exact ⟨rfl, congrArg (fun p => { s.mtl.unsent with nbs := p }) hnbs⟩

theorem State.Sent.mtlSend (s : State) (j : Fin 32) (prio : Nat) (frame : List Byte) :
    s.Sent (s.mtlSend j prio frame) := by
  unfold State.mtlSend
  split
  · exact .refl s
  · extract_lets dest segs set_ bodies
    clear_value bodies
    cases bodies with
    | nil => exact .refl s
    | cons b rest => exact ⟨rfl, rfl⟩

/-- The frame leaves on its link, under whatever tag. -/
def State.putFrame (s : State) (l : Lnk) (type_ : Nat) (f : List Byte) : State :=
  match l with
  | .fp k => s.emit (.fabric k.val (s.ethHeader k ++ f))
  | .tl j => s.mtlSend j (if type_ = 2 then 4 else 5) f

theorem State.Sent.putFrame (s : State) (l : Lnk) (type_ : Nat) (f : List Byte) : s.Sent (s.putFrame l type_ f) := by
  cases l with
  | fp k => exact .of_same rfl rfl
  | tl j => exact .mtlSend ..

theorem State.Sent.sendFrame (s : State) (l : Lnk) (type_ flags dest index : Nat) (route : List Half)
    (payload : List Byte) : s.Sent (s.sendFrame l type_ flags dest index route payload) := by
  unfold State.sendFrame
  extract_lets seq s1 e head put
  have hseq : s.Sent s1 := .modNb_txSeq ..
  split
  next key u hkey =>
    have hu : Keeps _ _ s1 u := (State.linkKey_keeps s1 l e).of_eq hkey
    exact (hseq.trans (hu.sent (by decide) (by decide))).trans (.putFrame u l type_ _)
  next =>
    exact ite_of (Q := s.Sent) (hseq.trans (.putFrame s1 l type_ _)) hseq

theorem State.Sent.foldl {α : Type} {f : State → α → State} (hf : ∀ (u : State) x, u.Sent (f u x)) (s : State) (l :
    List α) :
    s.Sent (l.foldl f s) :=
  foldl_of (Q := s.Sent) (.refl s) (fun u x _ hu => hu.trans (hf u x))

/-! ### Adverts -/

theorem State.Sent.flood (s : State) (a : Advert) (age : Nat) (from_ : Option Lnk) (changed : Bool) :
    s.Sent (s.flood a age from_ changed) := by
  have hsend : ∀ (u : State) (l : Lnk), u.Sent (u.sendFrame l 2 0 0xFFFF 0 [] (a.bytes age)) := fun u l => .sendFrame ..
  unfold State.flood
  extract_lets to_ s1 m s2
  have h1 : s.Sent s1 := .foldl hsend s _
  refine ite_of (Q := s.Sent) h1 (ite_of (Q := s.Sent) ?_ (ite_of (Q := s.Sent) h1 (h1.trans ⟨rfl, rfl⟩)))
  exact (h1.trans ⟨rfl, rfl⟩ : s.Sent s2).trans (.foldl hsend s2 _)

/-- The module's own advert under its next sequence number, with two repeats due. -/
def State.advertNumbered (s : State) : State :=
  { s with fab := { s.fab with ownSeq := s.fab.ownSeq + 1, repeats := 2 } }

theorem State.Sent.advertise (s : State) : s.advertNumbered.Sent s.advertise := .flood ..

section
variable (s : State)

theorem State.port_advertise {α : Type} (p : FabPort → α) (hp : ∀ x, p x.unsent = p x) (k : Fin 4) :
    p s.advertise.fab.ports[k] = p s.fab.ports[k] := (State.Sent.advertise s).port_eq p hp k

theorem State.entry_advertise {α : Type} (p : MtlNb → α) (hp : ∀ x, p x.unsent = p x) (j : Fin 32) :
    p s.advertise.mtl.nbs[j] = p s.mtl.nbs[j] := (State.Sent.advertise s).entry_eq p hp j

end

end Sys2Proof.Machine
end

section
/-! SUPPORT. Fabric ports, hellos and link state (R282, R287, R291, R292). -/

namespace Sys2Proof.Machine

/-! ### The fields of a link -/

/-- Two fields that do not share a bit. -/
abbrev Fld.Apart (f g : Fld) : Prop := g.off ≠ f.off ∨ g.hi < f.lo ∨ f.hi < g.lo

/-- The count of a link's downs. -/
def linkDownsF : Lnk → Fld
  | .fp k => F.FAB_PORT_ERR_DOWNS k.val
  | .tl j => F.MTL_NB_CNT_DOWNS j.val

/-- A fact about the fields of a link, from finitely many cases. -/
theorem forall_lnk {p : Lnk → Prop} (hfp : ∀ k : Fin 4, p (.fp k)) (htl : ∀ j : Fin 32, p (.tl j)) (l : Lnk) : p l := by
  cases l with
  | fp k => exact hfp k
  | tl j => exact htl j

theorem linkUpF_bit (l : Lnk) : (linkUpF l).hi < 32 ∧ (linkUpF l).hi + 1 - (linkUpF l).lo = 1 :=
  forall_lnk (p := fun l => (linkUpF l).hi < 32 ∧ (linkUpF l).hi + 1 - (linkUpF l).lo = 1) (by decide) (by decide) l

theorem linkDownsF_width (l : Lnk) : (linkDownsF l).hi < 32 ∧ (linkDownsF l).hi + 1 - (linkDownsF l).lo = 16 :=
  forall_lnk (p := fun l => (linkDownsF l).hi < 32 ∧ (linkDownsF l).hi + 1 - (linkDownsF l).lo = 16)
    (by decide) (by decide) l

/-- What else a link that goes down writes is apart from UP and from the count of downs. -/
theorem linkFld_apart (l : Lnk) : ∀ f ∈ [linkSupprF l, linkCostF l],
    f.hi < 32 ∧ f.Apart (linkUpF l) ∧ f.Apart (linkDownsF l) :=
  forall_lnk (p := fun l => ∀ f ∈ [linkSupprF l, linkCostF l],
    f.hi < 32 ∧ f.Apart (linkUpF l) ∧ f.Apart (linkDownsF l)) (by decide) (by decide) l

/-- An event or an advert writes none of a link's registers. -/
theorem linkFld_row (l : Lnk) : ∀ f ∈ [linkUpF l, linkDownsF l],
    (0x800000084000000000000000000000000000000000000000018088800000 : Nat).testBit (rowOf f.off) = false :=
  forall_lnk (p := fun l => ∀ f ∈ [linkUpF l, linkDownsF l],
    (0x800000084000000000000000000000000000000000000000018088800000 : Nat).testBit (rowOf f.off) = false)
    (by decide) (by decide) l

theorem State.get_modNb (s : State) (l : Lnk) (f : Neigh → Neigh) (g : Fld) : (s.modNb l f).get g = s.get g :=
  (s.modNb_keeps l f).get g (Nat.zero_testBit _)

theorem State.get_toneDrop (s : State) (l : Lnk) (g : Fld) : (s.toneDrop l).get g = s.get g :=
  (s.toneDrop_keeps l).get g (Nat.zero_testBit _)

/-! ### UP -/

theorem State.up_set (s : State) (l : Lnk) (b : Bool) : (s.set (linkUpF l) b.toNat).get (linkUpF l) = b.toNat := by
  obtain ⟨hhi, hwidth⟩ := linkUpF_bit l
  refine State.get_set_of_lt _ hhi ?_
  rw [hwidth]
  exact b.toNat_lt

theorem State.up_setUp (s : State) (l : Lnk) (b : Bool) : (s.setUp l b).get (linkUpF l) = b.toNat := by
  cases l with
  | fp k => exact (State.get_set_ne _ _ (by decide) (.inl (by revert k; decide))).trans (s.up_set (.fp k) b)
  | tl j => exact (State.get_set_ne _ _ (by decide) (.inl (by revert j; decide))).trans (s.up_set (.tl j) b)

theorem State.downs_setUp (s : State) (l : Lnk) (b : Bool) : (s.setUp l b).get (linkDownsF l) = s.get (linkDownsF l) :=
  (s.setUp_keeps l b).get _ (forall_lnk
    (p := fun l => (0x800011040000000000000000000000000000000000000000000 :
      Nat).testBit (rowOf (linkDownsF l).off) = false)
    (by decide) (by decide) l)

/-- The count of a link's downs advanced; on a fabric port the neighbour is forgotten and the fault class recorded. -/
def State.downCounted (s : State) (l : Lnk) : State :=
  match l with
  | .fp k => ((s.count (F.FAB_PORT_ERR_DOWNS k.val) 1).set (F.FAB_PORT_STATUS_NEIGH k.val) 0).fault 0xC .cm
  | .tl j => s.count (F.MTL_NB_CNT_DOWNS j.val) 1

theorem State.up_downCounted (s : State) (l : Lnk) : (s.downCounted l).get (linkUpF l) = s.get (linkUpF l) := by
  cases l with
  | fp k =>
    refine ((State.fault_keeps _ _ _).get _ (by revert k; decide)).trans ?_
    exact (State.get_set_ne _ _ (by revert k; decide) (by revert k; decide)).trans
      (State.get_set_ne _ _ (by revert k; decide) (by revert k; decide))
  | tl j => exact State.get_set_ne _ _ (by revert j; decide) (by revert j; decide)

theorem State.downs_count (s : State) (l : Lnk) :
    (s.count (linkDownsF l) 1).get (linkDownsF l) = sat 16 (s.get (linkDownsF l) + 1) := by
  obtain ⟨hhi, hwidth⟩ := linkDownsF_width l
  rw [State.get_count_self _ _ _ hhi, hwidth, sat]

theorem State.downs_downCounted (s : State) (l : Lnk) :
    (s.downCounted l).get (linkDownsF l) = sat 16 (s.get (linkDownsF l) + 1) := by
  cases l with
  | fp k =>
    refine ((State.fault_keeps _ _ _).get _ (by revert k; decide)).trans ?_
    exact (State.get_set_ne _ _ (by revert k; decide) (by revert k; decide)).trans (s.downs_count (.fp k))
  | tl j => exact s.downs_count (.tl j)

/-! ### A link goes down (R291, R292, R326) -/

/-- The times of a link's downs within its window, with the present one. -/
def State.downTimes (s : State) (l : Lnk) : List Nat := s.time.now :: s.recent (supprWindow l) (s.nb l).downs

/-- A link is down and counted, and after the third down in its window suppressed. -/
def State.linkMarked (s : State) (l : Lnk) : State :=
  let v := s.setUp l false
  let u := (v.modNb l (fun x => { x with heardUs := false, downs := v.downTimes l })).downCounted l
  if 3 ≤ (v.downTimes l).length then (u.set (linkSupprF l) 1).set (linkCostF l) 255 else u

theorem State.linkDown_eq {s : State} {l : Lnk} (h : s.flag (linkUpF l) = true) : s.linkDown l =
    (((s.linkMarked l).toneDrop l).raise { src := 100, unit_ := linkPort l }).advertise := by
  cases l <;> exact if_neg (by rw [h]; decide)

theorem State.linkDown_down {s : State} {l : Lnk} (h : s.flag (linkUpF l) = false) : s.linkDown l = s := if_pos h

/-- An event and the module's advert keep what sending keeps. -/
theorem State.raise_advertise_keeps (s : State) (e : Ev) :
    Keeps 105728 0x800000084000000000000000000000000000000000000000018088800000 s (s.raise e).advertise :=
  (State.advertise_keeps _).app (by decide) (by decide) ((s.raise_keeps e).app (by decide) (by decide) Keeps.rfl)

theorem State.get_suppressed (s : State) {l : Lnk} {f : Fld} (hf : f ∈ [linkUpF l, linkDownsF l]) :
    ((s.set (linkSupprF l) 1).set (linkCostF l) 255).get f = s.get f := by
  have hsuppr := linkFld_apart l (linkSupprF l) (by simp)
  have hcost := linkFld_apart l (linkCostF l) (by simp)
  have hapart : ∀ g : Fld, g.Apart (linkUpF l) ∧ g.Apart (linkDownsF l) → g.Apart f := fun g hg => by
    simp only [List.mem_cons, List.not_mem_nil, or_false] at hf
    obtain rfl | rfl := hf
    · exact hg.1
    · exact hg.2
  rw [State.get_set_ne _ _ hcost.1 (hapart _ hcost.2), State.get_set_ne _ _ hsuppr.1 (hapart _ hsuppr.2)]

/-- Neither the end of a suppression nor the cost a link starts with changes UP. -/
theorem State.up_restarted (s : State) (l : Lnk) (v c : Nat) :
    ((s.set (linkSupprF l) v).set (linkCostF l) c).get (linkUpF l) = s.get (linkUpF l) := by
  have hsuppr := linkFld_apart l (linkSupprF l) (by simp)
  have hcost := linkFld_apart l (linkCostF l) (by simp)
  rw [State.get_set_ne _ _ hcost.1 hcost.2.1, State.get_set_ne _ _ hsuppr.1 hsuppr.2.1]

/-- A link that goes down keeps UP and its count as they were marked. -/
theorem State.get_linkMarked (s : State) {l : Lnk} {f : Fld} (hf : f ∈ [linkUpF l, linkDownsF l]) :
    (s.linkMarked l).get f = (((s.setUp l false).modNb l
      (fun x => { x with heardUs := false, downs := (s.setUp l false).downTimes l })).downCounted l).get f := by
  unfold State.linkMarked
  extract_lets v u
  split
  · exact u.get_suppressed hf
  · rfl

theorem State.get_linkDown {s : State} {l : Lnk} (h : s.flag (linkUpF l) = true) {f : Fld}
    (hf : f ∈ [linkUpF l, linkDownsF l]) : (s.linkDown l).get f = (s.linkMarked l).get f := by
  have hrow := linkFld_row l f hf
  rw [State.linkDown_eq h, (State.raise_advertise_keeps _ _).get f hrow, State.get_toneDrop]

theorem State.up_linkDown {s : State} {l : Lnk} (h : s.flag (linkUpF l) = true) :
    (s.linkDown l).get (linkUpF l) = 0 := by
  have hmem : linkUpF l ∈ [linkUpF l, linkDownsF l] := List.mem_cons_self
  rw [State.get_linkDown h hmem, State.get_linkMarked s hmem, State.up_downCounted, State.get_modNb, State.up_setUp]
  rfl

theorem State.downs_linkDown {s : State} {l : Lnk} (h : s.flag (linkUpF l) = true) :
    (s.linkDown l).get (linkDownsF l) = sat 16 (s.get (linkDownsF l) + 1) := by
  have hmem : linkDownsF l ∈ [linkUpF l, linkDownsF l] := by simp
  rw [State.get_linkDown h hmem, State.get_linkMarked s hmem, State.downs_downCounted, State.get_modNb,
    State.downs_setUp]

/-! ### The records of a link that goes down -/

/-- The PHY link of a port is not a record of its neighbour. -/
theorem State.phy_modNb (s : State) (l : Lnk) (f : Neigh → Neigh) (k : Fin 4) :
    (s.modNb l f).fab.ports[k].phy = s.fab.ports[k].phy := by
  cases l with
  | fp j =>
    by_cases hjk : j = k
    · subst hjk; simp [State.modNb]
    · simp [State.modNb, Vector.getElem_set_ne _ _ (fun e => hjk (Fin.ext e))]
  | tl j => rfl

theorem State.fab_setUp (s : State) (l : Lnk) (b : Bool) : (s.setUp l b).fab = s.fab :=
  (s.setUp_keeps l b).fab (Nat.zero_testBit _)

theorem State.fab_downCounted (s : State) (l : Lnk) : (s.downCounted l).fab = s.fab := by
  cases l with
  | fp k => exact (State.fault_keeps _ _ _).fab (Nat.zero_testBit _)
  | tl j => rfl

theorem State.fab_linkMarked (s : State) (l : Lnk) : (s.linkMarked l).fab = ((s.setUp l false).modNb l
    (fun x => { x with heardUs := false, downs := (s.setUp l false).downTimes l })).fab := by
  unfold State.linkMarked
  extract_lets v u
  have hu : u.fab = _ := State.fab_downCounted _ _
  split
  · exact hu
  · exact hu

theorem State.fab_toneDrop (s : State) (l : Lnk) : (s.toneDrop l).fab = s.fab := (s.toneDrop_keeps l).fab (by decide)

theorem State.phy_linkDown (s : State) (l : Lnk) (k : Fin 4) :
    (s.linkDown l).fab.ports[k].phy = s.fab.ports[k].phy := by
  by_cases h : s.flag (linkUpF l) = true
  · rw [State.linkDown_eq h, State.port_advertise _ FabPort.phy (fun _ => rfl), (State.raise_keeps _ _).fab (by decide),
      State.fab_toneDrop, State.fab_linkMarked, State.phy_modNb, State.fab_setUp]
  · rw [State.linkDown_down (Bool.eq_false_of_not_eq_true h)]

/-! ### Hellos (R291) -/

/-- What a hello says of a port's neighbour: its identity, and that it hears this module. -/
def FabPort.heard (p : FabPort) : BitVec 48 × Bool := (p.nb.ident, p.nb.heardUs)

/-- The neighbour after a hello. -/
def State.helloHeard (u : State) (k : Fin 4) (f : RxFrame) : State :=
  u.modNb (.fp k) (fun x => { x with
    ident := BitVec.ofNat 48 (fld f.payload 0 6),
    heardUs := x.heardUs || (fld f.payload 8 2 == u.ownAddr && u.ownAddr != 0) })

theorem State.heard_helloHeard (u : State) (k : Fin 4) (f : RxFrame) : (u.helloHeard k f).fab.ports[k].heard =
    (BitVec.ofNat 48 (fld f.payload 0 6),
      u.fab.ports[k].nb.heardUs || (fld f.payload 8 2 == u.ownAddr && u.ownAddr != 0)) := by
  simp [State.helloHeard, State.modNb, FabPort.heard]

theorem State.heard_advertise (s : State) (k : Fin 4) : s.advertise.fab.ports[k].heard = s.fab.ports[k].heard :=
  s.port_advertise FabPort.heard (fun _ => rfl) k

/-- A restarted replay window is no word of a hello. -/
theorem State.heard_modNb_replay (s : State) (k : Fin 4) (r : Replay) :
    (s.modNb (.fp k) (fun x => { x with replay := r })).fab.ports[k].heard = s.fab.ports[k].heard := by
  simp [State.modNb, FabPort.heard]

theorem State.heard_linkUp (s : State) (k : Fin 4) : (s.linkUp (.fp k)).fab.ports[k].heard = s.fab.ports[k].heard := by
  unfold State.linkUp
  rw [State.heard_advertise, (State.raise_keeps _ _).fab (by decide)]
  exact (State.heard_modNb_replay _ k _).trans (congrArg (fun f : FabS => f.ports[k].heard) (s.fab_setUp _ _))

theorem State.heard_tryUp (s : State) (k : Fin 4) : (s.tryUp (.fp k)).fab.ports[k].heard = s.fab.ports[k].heard := by
  unfold State.tryUp
  split
  · exact s.heard_linkUp k
  · rfl

theorem State.neigh_linkUp (s : State) (k : Fin 4) :
    (s.linkUp (.fp k)).get (F.FAB_PORT_STATUS_NEIGH k.val) = s.get (F.FAB_PORT_STATUS_NEIGH k.val) := by
  unfold State.linkUp
  refine ((State.raise_advertise_keeps _ _).get _ (by revert k; decide)).trans ?_
  refine (State.get_set_ne _ _ (by revert k; decide) (by revert k; decide)).trans ((State.get_modNb _ _ _ _).trans ?_)
  exact (State.get_set_ne _ _ (by decide) (.inl (by revert k; decide))).trans
    (State.get_set_ne _ _ (by revert k; decide) (by revert k; decide))

theorem State.neigh_tryUp (s : State) (k : Fin 4) :
    (s.tryUp (.fp k)).get (F.FAB_PORT_STATUS_NEIGH k.val) = s.get (F.FAB_PORT_STATUS_NEIGH k.val) := by
  unfold State.tryUp
  split
  · exact s.neigh_linkUp k
  · rfl

/-- The state in which CM checks a hello's tag: the neighbour's address and whether it has joined, as the hello says. -/
def State.helloNamed (s : State) (k : Fin 4) (frame : List Byte) : State :=
  (s.set (F.FAB_PORT_STATUS_NEIGH k.val) (fld frame 20 2)).modNb (.fp k)
    (fun x => { x with joined := (fld (frame.drop 34) 11 1).testBit 0 })

/-- A change of the neighbour's address is advertised; then the link may come up. -/
def State.helloActed (u : State) (k : Fin 4) (changed : Prop) [Decidable changed] : State :=
  (if changed then u.advertise else u).tryUp (.fp k)

theorem State.helloRx_accepted {s u : State} {k : Fin 4} {frame : List Byte} {f : RxFrame}
    (h : (s.helloNamed k frame).rxFrame (Fin.ofNat 5 k.val) frame [0x01] = (some f, u)) : s.helloRx k frame =
    (u.helloHeard k f).helloActed k
      (s.get (F.FAB_PORT_STATUS_NEIGH k.val) ≠ f.src ∧ (u.helloHeard k f).flag
        (F.FAB_PORT_STATUS_UP k.val) = true) := by
  unfold State.helloNamed at h
  simp only [State.helloRx, linkAddr, h]
  rfl

section
variable (u : State) (k : Fin 4) (changed : Prop) [Decidable changed]

theorem State.heard_helloActed : (u.helloActed k changed).fab.ports[k].heard = u.fab.ports[k].heard := by
  unfold State.helloActed
  rw [State.heard_tryUp]
  split
  · exact u.heard_advertise k
  · rfl

theorem State.neigh_helloActed :
    (u.helloActed k changed).get (F.FAB_PORT_STATUS_NEIGH k.val) = u.get (F.FAB_PORT_STATUS_NEIGH k.val) := by
  unfold State.helloActed
  rw [State.neigh_tryUp]
  split
  · exact u.advertise_keeps.get _ (by revert k; decide)
  · rfl

end

/-- What CM has done when a frame was accepted: keys were used, and the neighbour's records advanced. -/
theorem State.admitFrame_accepted {s u : State} {l : Lnk} {port : Fin 5} {b : List Byte} {f : RxFrame}
    (h : s.admitFrame l port b = (some f, u)) : ∃ (v : State) (g : Neigh → Neigh),
    Keeps 102656 0x800000084000000000000000000000000000000000000000018088800000 s v ∧ u = v.modNb l g := by
  unfold State.admitFrame at h
  extract_lets hello rate e body at h
  split at h
  next => simp at h
  next =>
    split at h
    next => simp at h
    next =>
      split at h
      next => simp at h
      next key v hkey =>
        split at h
        next => simp at h
        next =>
          split at h
          next => simp at h
          next => exact ⟨v, _, (State.linkKey_keeps s l e).of_eq hkey, (Prod.mk.inj h).2.symm⟩

theorem State.rxFrame_accepted {s u : State} {port : Fin 5} {frame : List Byte} {types : List Nat} {f : RxFrame}
    (h : s.rxFrame port frame types = (some f, u)) : (∃ x, derquan port frame = some x) ∧
    ∃ (v : State) (l : Lnk) (g : Neigh → Neigh),
      Keeps 102656 0x800000084000000000000000000000000000000000000000018088800000 s v ∧ u = v.modNb l g := by
  unfold State.rxFrame at h
  extract_lets on at h
  split at h
  next => simp at h
  next =>
    split at h
    next => simp at h
    next x hx =>
      split at h
      next => simp at h
      next =>
        split at h
        next => simp at h
        next l hl =>
          obtain ⟨v, g, hv, hu⟩ := State.admitFrame_accepted h
          exact ⟨⟨x, hx⟩, v, l, g, hv, hu⟩

/-- An accepted frame writes registers only where the use of a key does. -/
theorem State.rxFrame_reg {s u : State} {port : Fin 5} {frame : List Byte} {types : List Nat} {f : RxFrame}
    (h : s.rxFrame port frame types = (some f, u)) (off : Nat)
    (hoff : (0x800000084000000000000000000000000000000000000000018088800000 : Nat).testBit (rowOf off) = false) :
    u.reg off = s.reg off := by
  obtain ⟨-, v, l, m, hv, rfl⟩ := State.rxFrame_accepted h
  rw [(v.modNb_keeps l m).reg off (Nat.zero_testBit _), hv.reg off hoff]

theorem State.neigh_helloNamed (s : State) (k : Fin 4) (frame : List Byte) :
    (s.helloNamed k frame).get (F.FAB_PORT_STATUS_NEIGH k.val) = fld frame 20 2 :=
  (State.get_modNb _ _ _ _).trans (State.get_set_of_lt _ (by revert k; decide) (fld_lt frame 20 2))

/-- An accepted frame writes no register of its port. -/
theorem portNeigh_row (k : Fin 4) : (0x800000084000000000000000000000000000000000000000018088800000 : Nat).testBit
    (rowOf (F.FAB_PORT_STATUS_NEIGH k.val).off) = false := by revert k; decide

theorem State.helloReceive_accepted {s u : State} {k : Fin 4} {frame : List Byte} {f : RxFrame}
    (h : (s.helloNamed k frame).rxFrame (Fin.ofNat 5 k.val) frame [0x01] = (some f, u)) :
    (s.helloRx k frame).fab.ports[k].heard = (BitVec.ofNat 48 (fld f.payload 0 6),
      u.fab.ports[k].nb.heardUs || (fld f.payload 8 2 == u.ownAddr && u.ownAddr != 0)) ∧
    (s.helloRx k frame).get (F.FAB_PORT_STATUS_NEIGH k.val) = fld frame 20 2 := by
  rw [State.helloRx_accepted h]
  have hu : u.get (F.FAB_PORT_STATUS_NEIGH k.val) = (s.helloNamed k frame).get (F.FAB_PORT_STATUS_NEIGH k.val) := by
    rw [State.get, State.rxFrame_reg h _ (portNeigh_row k), State.get]
  refine ⟨(State.heard_helloActed _ _ _).trans (u.heard_helloHeard k f), ?_⟩
  rw [State.neigh_helloActed, State.helloHeard, State.get_modNb, hu, State.neigh_helloNamed]

/-! ### Costs, epochs (R285, R292) -/

theorem State.newCost_far {s : State} {l : Lnk} {c interval : Nat} (hup : s.flag (linkUpF l) = true)
    (hsuppr : s.flag (linkSupprF l) = false) (hdue : (s.nb l).costAt = none)
    (hfar : 8 ≤ ((c : Int) - (s.get (linkCostF l) : Int)).natAbs) : s.newCost l c interval =
    ((s.set (linkCostF l) c).modNb l (fun x => { x with costAt := some s.time.now })).advertise := by
  unfold State.newCost
  rw [hdue]
  exact if_neg (by simp [hup, hsuppr, hfar])

theorem State.newCost_down {s : State} {l : Lnk} {c interval : Nat} (hup : s.flag (linkUpF l) = false) :
    s.newCost l c interval = s := if_pos (.inl hup)

/-- The epoch before the next one is the present one. -/
theorem epoch_before_next {e : Nat} (h : e < 65536) : ((e + 1) % 65536 + 65535) % 65536 = e := by omega

/-- The next epoch is current, and cached keys of other epochs than it and the present one are wiped. -/
def State.epochAdvanced (s : State) : State :=
  let s := s.set F.FAB_KEY_EPOCH_EPOCH ((s.get F.FAB_KEY_EPOCH_EPOCH + 1) % 65536)
  { s with key := { s.key with cache := s.key.cache.filter (fun c => s.epochs.contains c.2.1) } }

theorem State.epoch_epochAdvanced (s : State) :
    s.epochAdvanced.get F.FAB_KEY_EPOCH_EPOCH = (s.get F.FAB_KEY_EPOCH_EPOCH + 1) % 65536 :=
  State.get_set_of_lt s (by decide) (Nat.mod_lt _ (by decide))

theorem State.cache_epochAdvanced (s : State) {x : Nat × Nat × Nat} (hx : x ∈ s.epochAdvanced.key.cache) :
    x.2.1 = s.epochAdvanced.get F.FAB_KEY_EPOCH_EPOCH ∨ x.2.1 = s.get F.FAB_KEY_EPOCH_EPOCH := by
  have hmem : x.2.1 ∈ (s.set F.FAB_KEY_EPOCH_EPOCH ((s.get F.FAB_KEY_EPOCH_EPOCH + 1) % 65536)).epochs :=
    List.contains_iff_mem.mp (List.mem_filter.mp hx).2
  rw [s.epoch_epochAdvanced]
  rw [State.epochs, show (s.set F.FAB_KEY_EPOCH_EPOCH _).get F.FAB_KEY_EPOCH_EPOCH = _ from s.epoch_epochAdvanced,
    epoch_before_next (s.get_lt F.FAB_KEY_EPOCH_EPOCH)] at hmem
  simpa using hmem

/-! ### The statement -/

/-- Settles O45: the fields and records of a link through its going up and down, one lemma per change. -/
theorem fabricLinks : Obligations.FabricLinks := by
  unfold Obligations.FabricLinks
  refine ⟨?phyUp, ?phyUpOff, ?phyDown, ?phyDownIdle, ?hello, ?helloNoPhy, ?helloRx, ?silent, ?silentIdle, ?cost,
    ?costDown, ?supprEnd, ?supprNone, ?quarEnd, ?quarNone, ?clear, ?epoch⟩
  case phyUp =>
    intro s k hrun hen
    exact congrArg Host.Outcome.next ((State.cm_run hrun _).trans (if_neg (ne_false_of_eq_true hen)))
  case phyUpOff =>
    intro s k hen
    exact congrArg Host.Outcome.next (State.cm_same (if_pos hen))
  case phyDown =>
    intro s k hrun hup
    have hflag : s.flag (linkUpF (.fp k)) = true := State.flag_of_one hup
    refine ⟨_, congrArg Host.Outcome.next (State.cm_run hrun _),
      State.up_linkDown hflag, State.downs_linkDown hflag, ?_⟩
    rw [State.phy_linkDown]
    simp
  case phyDownIdle =>
    intro s k hrun hup
    exact congrArg Host.Outcome.next ((State.cm_run hrun _).trans (State.linkDown_down (State.flag_of_zero hup)))
  case hello =>
    intro s k hrun hen hphy
    exact congrArg Host.Outcome.next ((State.cm_run hrun _).trans (if_neg (by rw [hen, hphy]; decide)))
  case helloNoPhy =>
    intro s k hphy
    exact congrArg Host.Outcome.next (State.cm_same (if_pos (.inr hphy)))
  case helloRx =>
    intro s k frame f u hrun hrx
    obtain ⟨hheard, hneigh⟩ := State.helloReceive_accepted hrx
    obtain ⟨hident, hus⟩ := Prod.mk.inj hheard
    exact ⟨_, congrArg Host.Outcome.next (State.cm_run hrun _), hident, hus, hneigh⟩
  case silent =>
    intro s k hrun hup
    have hflag : s.flag (linkUpF (.fp k)) = true := State.flag_of_one hup
    exact ⟨_, congrArg Host.Outcome.next (State.cm_run hrun _), State.up_linkDown hflag, State.downs_linkDown hflag⟩
  case silentIdle =>
    intro s k hup
    exact congrArg Host.Outcome.next (State.cm_same (State.linkDown_down (State.flag_of_zero hup)))
  case cost =>
    intro s k bad fill c hrun hc hup hsuppr hat hfar
    subst hc
    exact congrArg Host.Outcome.next ((State.cm_run hrun _).trans
      (State.newCost_far (State.flag_of_one hup) (State.flag_of_zero hsuppr) hat hfar))
  case costDown =>
    intro s k bad fill hup
    exact congrArg Host.Outcome.next (State.cm_same (State.newCost_down (State.flag_of_zero hup)))
  case supprEnd =>
    intro s port j hrun hsuppr hup
    refine congrArg Host.Outcome.next ((State.cm_run hrun _).trans ((if_neg (ne_false_of_eq_true hsuppr)).trans ?_))
    exact if_neg (by rw [State.flag, State.up_restarted]; exact ne_true_of_eq_false hup)
  case supprNone =>
    intro s port j hsuppr
    exact congrArg Host.Outcome.next (State.cm_same (if_pos hsuppr))
  case quarEnd =>
    intro s port j hrun hquar
    exact congrArg Host.Outcome.next ((State.cm_run hrun _).trans (if_pos hquar))
  case quarNone =>
    intro s port j hquar
    exact congrArg Host.Outcome.next (State.cm_same (if_neg (by rw [hquar]; decide)))
  case clear =>
    intro s d h
    exact congrArg Host.Outcome.next (State.command_ok h)
  case epoch =>
    intro s d h
    let t := s.epochAdvanced.ok d (natLE 2 ((s.get F.FAB_KEY_EPOCH_EPOCH + 1) % 65536))
    have hepoch : t.get F.FAB_KEY_EPOCH_EPOCH = (s.get F.FAB_KEY_EPOCH_EPOCH + 1) % 65536 := s.epoch_epochAdvanced
    exact ⟨t, congrArg Host.Outcome.next (State.command_ok h), hepoch, rfl, fun x hx => s.cache_epochAdvanced hx⟩

end Sys2Proof.Machine
end

section
/-! SUPPORT. Adverts, addresses and routes (R288, R290, R293, R294, R309). -/

namespace Sys2Proof.Machine

/-! ### Frames that ports refuse and accept -/

theorem State.takeTone_port {s : State} {port : Fin 5} {frame : List Byte} (h : port.val < 4) :
    s.takeTone port frame = s := by
  unfold State.takeTone
  split
  · next hport _ => omega
  · rfl

/-- A frame that carries no Derquan frame is BAD on its fabric port. -/
theorem State.rxFrame_bad {s : State} {port : Fin 5} {frame : List Byte} {types : List Nat}
    (hrun : s.running .cm = true) (hport : port.val < 4) (hen : s.flag (F.FAB_PORT_CFG_EN port.val) = true)
    (hphy : s.fab.ports[Fin.ofNat 4 port.val].phy = true) (hbad : derquan port frame = none) :
    s.rxFrame port frame types = (none, s.count (F.FAB_PORT_ERR_BAD port.val) 1) := by
  unfold State.rxFrame
  extract_lets on
  have hon : on = true := (if_pos hport).trans (by rw [hen, hphy]; rfl)
  rw [if_neg (by rw [hrun, hon]; decide), hbad]
  exact congrArg (Prod.mk none) (if_pos hport)

/-- What an accepted frame leaves of the fabric's records. -/
theorem State.rxFrame_fab {s u : State} {port : Fin 5} {frame : List Byte} {types : List Nat} {f : RxFrame}
    (h : s.rxFrame port frame types = (some f, u)) {α : Type} (p : FabS → α)
    (hp : ∀ f ports, p { f with ports := ports } = p f) : p u.fab = p s.fab := by
  obtain ⟨-, v, l, g, hv, rfl⟩ := State.rxFrame_accepted h
  have hmod : p (v.modNb l g).fab = p v.fab := by
    cases l with
    | fp k => exact hp _ _
    | tl j => rfl
  rw [hmod, hv.fab (by decide)]

theorem State.rxFrame_identity {s u : State} {port : Fin 5} {frame : List Byte} {types : List Nat} {f : RxFrame}
    (h : s.rxFrame port frame types = (some f, u)) : u.identity = s.identity := by
  have hlo : u.reg R.KEY_IDENT_LO = s.reg R.KEY_IDENT_LO := State.rxFrame_reg h _ (by decide)
  have hhi : u.reg (R.KEY_IDENT_LO + 4) = s.reg (R.KEY_IDENT_LO + 4) := State.rxFrame_reg h _ (by decide)
  unfold State.identity State.get64
  rw [hlo, hhi]

/-! ### The database -/

theorem State.db_advertise (s : State) : s.advertise.fab.db = s.fab.db :=
  (State.Sent.advertise s).fab_eq FabS.db (fun _ => rfl)

theorem State.db_raise (s : State) (e : Ev) : (s.raise e).fab.db = s.fab.db :=
  congrArg FabS.db ((s.raise_keeps e).fab (by decide))

theorem State.db_claim (s : State) (addr k : Nat) : (s.claim addr k).fab.db = s.fab.db :=
  State.db_advertise _

theorem State.db_yieldClaim (s : State) : s.yieldClaim.fab.db = s.fab.db :=
  (State.db_claim _ _ _).trans (s.db_raise _)

/-- A conflict of addresses leaves the database alone. -/
theorem State.db_conflict (s : State) (a : Advert) : (s.conflict a).fab.db = s.fab.db := by
  have hyield := s.db_yieldClaim
  have hstop : ((s.raise { src := 105 }).set F.FAB_STATUS_STATE 0).fab.db = s.fab.db := s.db_raise _
  unfold State.conflict
  extract_lets mineFixed theirFixed theirJoined
  refine ite_of (Q := fun t : State => t.fab.db = s.fab.db) rfl (ite_of (Q := fun t :
    State => t.fab.db = s.fab.db) hstop ?_)
  refine ite_of (Q := fun t : State => t.fab.db = s.fab.db) rfl (ite_of (Q := fun t :
    State => t.fab.db = s.fab.db) hyield ?_)
  refine ite_of (Q := fun t : State => t.fab.db = s.fab.db) rfl (ite_of (Q := fun t :
    State => t.fab.db = s.fab.db) hyield ?_)
  exact ite_of (Q := fun t : State => t.fab.db = s.fab.db) hyield rfl

theorem State.db_flood (s : State) (a : Advert) (age : Nat) (from_ : Option Lnk) (changed : Bool) :
    (s.flood a age from_ changed).fab.db = s.fab.db :=
  (State.Sent.flood s a age from_ changed).fab_eq FabS.db (fun _ => rfl)

/-- The first advert of a foreign originator is the whole database. -/
theorem State.takeAdvert_first {s : State} {a : Advert} {from_ : Option Lnk} (hident : a.ident.toNat ≠ s.identity)
    (hdb : s.fab.db = []) : s.takeAdvert a from_ = ((s.setDb [a]).flood a (a.age + 1) from_ true).conflict a := by
  unfold State.takeAdvert
  rw [if_neg hident, hdb]
  exact if_neg (by decide)

theorem State.takeAdvert_db {s : State} {a : Advert} {from_ : Option Lnk} (hident : a.ident.toNat ≠ s.identity)
    (hdb : s.fab.db = []) : (s.takeAdvert a from_).fab.db = [a] ∧ (s.takeAdvert a from_).get F.FAB_NODES_NODES = 1 := by
  rw [State.takeAdvert_first hident hdb, State.db_conflict, State.db_flood,
    (State.conflict_keeps _ _).get _ (by decide),
    (State.flood_keeps ..).get _ (by decide)]
  exact ⟨rfl, State.get_set_of_lt (v := 1) _ (by decide) (by decide)⟩

/-- A neighbour's advert of an originator not seen in the last second. -/
theorem State.advertRx_accepted {s u : State} {port : Fin 5} {frame : List Byte} {f : RxFrame} {a : Advert}
    (hrx : s.rxFrame port frame [0x02] = (some f, u)) (hread : u.readAdvert f.payload = some a)
    (hrate : (u.nb f.link).advRate = []) : s.advertRx port frame =
    (u.modNb f.link (fun x => { x with advRate := [(a.ident, u.time.now)] })).takeAdvert a (some f.link) := by
  unfold State.advertRx
  rw [hrx]
  simp only [hread, hrate]
  rfl

theorem State.identity_modNb (s : State) (l : Lnk) (g : Neigh → Neigh) : (s.modNb l g).identity = s.identity := by
  cases l <;> rfl

theorem State.db_modNb (s : State) (l : Lnk) (g : Neigh → Neigh) : (s.modNb l g).fab.db = s.fab.db := by
  cases l <;> rfl

theorem State.advertRx_first {s u : State} {port : Fin 5} {frame : List Byte} {f : RxFrame} {a : Advert}
    (hrx : s.rxFrame port frame [0x02] = (some f, u)) (hread : u.readAdvert f.payload = some a)
    (hrate : (u.nb f.link).advRate = []) (hident : a.ident.toNat ≠ s.identity) (hdb : s.fab.db = []) :
    (s.advertRx port frame).fab.db = [a] ∧ (s.advertRx port frame).get F.FAB_NODES_NODES = 1 := by
  rw [State.advertRx_accepted hrx hread hrate]
  refine State.takeAdvert_db ?_ ?_
  · rwa [State.identity_modNb, State.rxFrame_identity hrx]
  · rw [State.db_modNb, State.rxFrame_fab hrx FabS.db (fun _ _ => rfl), hdb]

/-! ### The module's own adverts -/

theorem State.repeats_repeated (s : State) (ls : List Lnk) (a : List Byte) :
    (ls.foldl (fun (s : State) l => s.sendFrame l 2 0 0xFFFF 0 [] a) s).fab.repeats = s.fab.repeats ∧
    (ls.foldl (fun (s : State) l => s.sendFrame l 2 0 0xFFFF 0 [] a) s).fab.ownSeq = s.fab.ownSeq := by
  have hsent : s.Sent (ls.foldl (fun (s : State) l => s.sendFrame l 2 0 0xFFFF 0 [] a) s) :=
    .foldl (fun u l => .sendFrame ..) s ls
  exact ⟨hsent.fab_eq FabS.repeats (fun _ => rfl), hsent.fab_eq FabS.ownSeq (fun _ => rfl)⟩

/-- The module's advert under its next sequence number. -/
def State.advertNext (s : State) : State := { s with fab := { s.fab with ownSeq := s.fab.ownSeq + 1 } }

theorem State.ownSeq_flood (s : State) (a : Advert) (age : Nat) (from_ : Option Lnk) (changed : Bool) :
    (s.flood a age from_ changed).fab.ownSeq = s.fab.ownSeq :=
  (State.Sent.flood s a age from_ changed).fab_eq FabS.ownSeq (fun _ => rfl)

/-! ### Joining (R288) -/

/-- The claim that has stood: the state, and the address kept, unless it is fixed. -/
def State.claimStood (s : State) : State :=
  let s := s.set F.FAB_STATUS_STATE 2
  let keep := if s.flag F.FAB_ADDR_CFG_FIXED then s.fab.stored else some (BitVec.ofNat 16 s.ownAddr, s.fab.k)
  { s with fab := { s.fab with stored := keep } }

theorem State.ownAddr_setState (s : State) (v : Nat) : (s.set F.FAB_STATUS_STATE v).ownAddr = s.ownAddr :=
  State.get_set_ne _ _ (by decide) (by decide)

theorem State.flag_fixed_setState (s : State) (v : Nat) :
    (s.set F.FAB_STATUS_STATE v).flag F.FAB_ADDR_CFG_FIXED = s.flag F.FAB_ADDR_CFG_FIXED := by
  rw [State.flag, State.get_set_ne _ _ (by decide) (by decide), State.flag]

theorem State.stored_claimStood (s : State) : s.claimStood.fab.stored =
    if s.flag F.FAB_ADDR_CFG_FIXED = true then s.fab.stored else some (BitVec.ofNat 16 s.ownAddr, s.fab.k) := by
  simp [State.claimStood, State.ownAddr_setState, State.flag_fixed_setState]

/-- The fabric's records after an event and the module's advert, in what no frame changes. -/
theorem State.stored_raise_advertise (s : State) (e : Ev) : (s.raise e).advertise.fab.stored = s.fab.stored := by
  rw [(State.Sent.advertise _).fab_eq FabS.stored (fun _ => rfl)]
  change (s.raise e).fab.stored = s.fab.stored
  exact congrArg FabS.stored ((s.raise_keeps e).fab (by decide))

/-! ### Routes (R294) -/

/-- The module's routes by its stored adverts. -/
def State.computedRoutes (s : State) : List RouteEntry :=
  (((s.fab.db.map Advert.addr).eraseDups).filter (fun a => a != BitVec.ofNat 16 s.ownAddr && a != 0)).filterMap
    (routeEntry (BitVec.ofNat 16 s.ownAddr) s.edges (walksFrom (BitVec.ofNat 16 s.ownAddr) s.edges))

theorem State.routes_recompute (s : State) : s.recompute.fab.routes = s.computedRoutes := by
  unfold State.recompute
  extract_lets own edges ws dests r s1 s2
  rw [(State.updateAdvSet_keeps _).fab (by decide)]
  rfl

/-! ### The statement -/

/-- Settles O46: adverts are taken and sent without touching the database, the sequence numbers and the claim that they
speak of. -/
theorem fabricAdverts : Obligations.FabricAdverts := by
  unfold Obligations.FabricAdverts
  refine ⟨?advert, ?bad, ?again, ?againNone, ?refresh, ?age, ?join, ?joinNot, ?routes, ?lookup⟩
  case advert =>
    intro s port frame f a u hrun hport hrx hread hrate hident hdb
    refine ⟨s.advertRx port frame, congrArg Host.Outcome.next ((State.cm_run hrun _).trans ?_),
      State.advertRx_first hrx hread hrate hident hdb⟩
    rw [State.takeTone_port hport]
  case bad =>
    intro s port frame hrun hport hen hphy hbad
    refine congrArg Host.Outcome.next ((State.cm_run hrun _).trans ?_)
    rw [State.takeTone_port hport, State.advertRx, State.rxFrame_bad hrun hport hen hphy hbad]
  case again =>
    intro s hrun hrep
    exact ⟨_, congrArg Host.Outcome.next ((State.cm_run hrun _).trans (if_neg hrep)), State.repeats_repeated _ _ _⟩
  case againNone =>
    intro s hrep
    exact congrArg Host.Outcome.next (State.cm_same (if_pos hrep))
  case refresh =>
    intro s hrun
    exact ⟨_, congrArg Host.Outcome.next (State.cm_run hrun _), s.advertNext.ownSeq_flood ..⟩
  case age =>
    intro s ident hrun
    exact congrArg Host.Outcome.next (State.cm_run hrun _)
  case join =>
    intro s hrun hstate
    refine ⟨(s.claimStood.raise { src := 104 }).advertise,
      congrArg Host.Outcome.next ((State.cm_run hrun _).trans (if_neg (not_not_intro hstate))), ?_, ?_, ?_⟩
    · refine ((State.raise_advertise_keeps _ _).get _ (by decide)).trans ?_
      exact State.get_set_of_lt s (by decide) (by decide)
    · refine ((State.raise_advertise_keeps _ _).get _ (by decide)).trans ?_
      exact s.ownAddr_setState 2
    · rw [State.stored_raise_advertise, State.stored_claimStood]
  case joinNot =>
    intro s hstate
    exact congrArg Host.Outcome.next (State.cm_same (if_pos hstate))
  case routes =>
    intro s hrun
    exact ⟨_, congrArg Host.Outcome.next (State.cm_run hrun _), s.routes_recompute⟩
  case lookup =>
    intro s d h
    exact congrArg Host.Outcome.next (State.command_ok h)

end Sys2Proof.Machine
end

section
/-! SUPPORT. Reports, collectors and routed frames (R295 to R302). -/

namespace Sys2Proof.Machine

/-! ### Reports issued (R298, R299) -/

/-- Only reports whose sequence number is still due wait for their spreading offset. -/
theorem State.reportSpread_one {s : State} {r : Report} (hrep : s.fab.reports = [r]) (hseq : r.seq = none)
    (hdue : r.due ≤ s.time.now) :
    s.fab.reports.filter (fun r => r.seq.isNone && decide (r.due ≤ s.time.now)) = [r] ∧
    s.fab.reports.filter (fun r => r.seq.isSome || decide (s.time.now < r.due)) = [] := by
  simp [hrep, hseq, hdue]

/-! ### The duplicate table (R300) -/

section
variable {s : State} {port type_ : Nat} {p : List Byte}

/-- What a collector answers a report with while it has no entry of any source. -/
theorem State.reportRx_first (hcoll : s.flag F.FAB_REP_CFG_IS_COLL = true) (hlen : 24 ≤ p.length)
    (hdups : s.fab.dups = []) (htype : type_ ≠ 0x30) : s.reportRx port type_ p =
    (s.setDups [⟨BitVec.ofNat 16 (fld p 10 2), BitVec.ofNat 32 (fld p 0 4), 1, s.time.now⟩]).collect port 0 p := by
  have hon : ¬(s.flag F.FAB_REP_CFG_IS_COLL = false ∨ p.length < 24) := by rw [hcoll]; simpa using hlen
  unfold State.reportRx
  extract_lets seq src now accept
  rw [if_neg hon, hdups]
  exact if_neg htype

/-- A report that its source's entry already has is discarded, counted, and refreshes the entry. -/
theorem State.reportRx_again {e : DupEntry} (hcoll : s.flag F.FAB_REP_CFG_IS_COLL = true) (hlen : 24 ≤ p.length)
    (hdups : s.fab.dups = [e]) (hsrc : e.src = BitVec.ofNat 16 (fld p 10 2))
    (hnewest : e.newest = BitVec.ofNat 32 (fld p 0 4)) (hbit : e.bits.toNat.testBit 0 = true) :
    s.reportRx port type_ p =
    (s.setDups [{ e with used := s.time.now }]).count F.FAB_DUP_STATUS_DISCARDED 1 := by
  have hon : ¬(s.flag F.FAB_REP_CFG_IS_COLL = false ∨ p.length < 24) := by rw [hcoll]; simpa using hlen
  have hnewer : serialNewer e.newest e.newest = false := by simp [serialNewer]
  unfold State.reportRx
  extract_lets seq src now accept
  have hfind : ([e].find? (fun e => e.src == src)) = some e := by simp [src, hsrc]
  have hseq : seq = e.newest := hnewest.symm
  have hback : (e.newest - seq).toNat = 0 := by simp [hseq]
  have hmap : s.fab.dups.map (fun x => if x.src = e.src then { e with used := s.time.now } else x) =
      [{ e with used := s.time.now }] := by simp [hdups]
  rw [if_neg hon, hdups, hfind]
  refine (if_neg (by rw [hseq, hnewer]; decide)).trans ((if_pos (by rw [hback]; decide)).trans ?_)
  refine (if_pos (by rw [hback]; exact hbit)).trans ?_
  exact congrArg (fun l => (s.setDups l).count F.FAB_DUP_STATUS_DISCARDED 1) hmap

theorem State.reportRx_other (hcoll : s.flag F.FAB_REP_CFG_IS_COLL = false) : s.reportRx port type_ p = s :=
  if_pos (.inl hcoll)

end

/-- Report types other than that of a relayed frame are taken as they are. -/
theorem reportType_taken {t : Byte} (h : t = 0x10 ∨ t = 0x11 ∨ t = 0x12) :
    [0x10, 0x11, 0x12, 0x30].contains t.toNat = true ∧ t.toNat ≠ 0x30 := by
  obtain rfl | rfl | rfl := h <;> decide

/-! ### Frames of an MMD5206 (R302) -/

theorem State.badFabric_port (s : State) (k : Fin 4) :
    s.badFabric (Fin.ofNat 5 k.val) = s.count (F.FAB_PORT_ERR_BAD k.val) 1 := by
  have hval : (Fin.ofNat 5 k.val).val = k.val := Nat.mod_eq_of_lt (k.isLt.trans (by decide))
  unfold State.badFabric
  rw [hval]
  exact if_pos k.isLt

/-! ### Routed frames (R295) -/

theorem derquan_port {port : Fin 5} {frame x : List Byte} (hport : port.val < 4) (h : derquan port frame = some x) :
    x = frame.drop 14 := by
  rw [derquan, if_pos hport] at h
  split at h
  · exact (Option.some.inj h).symm
  · simp at h

/-- A routed frame for this hop that names a next one goes on to it. -/
theorem State.routedRx_next {s u : State} {port : Fin 5} {frame : List Byte} {f : RxFrame} {h : Half} {l : Lnk}
    (hport : port.val < 4) (hrx : s.rxFrame port frame [0x10, 0x11, 0x12, 0x20, 0x21, 0x30] = (some f, u))
    (hhere : f.route[f.index]? = some (BitVec.ofNat 16 u.ownAddr)) (hnext : f.route[f.index + 1]? = some h)
    (hlink : u.linkTo h none = some l) : s.routedRx port frame =
    u.sendFrame l (fld (frame.drop 14) 1 1) f.flags f.dest (f.index + 1) f.route f.payload := by
  obtain ⟨⟨x, hx⟩, -⟩ := State.rxFrame_accepted hrx
  obtain rfl := derquan_port hport hx
  unfold State.routedRx
  rw [hrx, hx]
  simp only [hhere, hnext, hlink]
  exact if_neg (not_not_intro rfl)

/-! ### The statement -/

/-- Settles O47: the reports, the duplicate table and the routed frames, one lemma per case. -/
theorem fabricReports : Obligations.FabricReports := by
  unfold Obligations.FabricReports
  refine ⟨?spread, ?spreadNone, ?send, ?sendNone, ?first, ?again, ?other, ?store, ?storeNone, ?locate, ?relay,
    ?relayOff,
    ?routed, ?routedBad⟩
  case spread =>
    intro s r hrun hrep hseq hdue hjoined hstroke
    obtain ⟨hdues, hrest⟩ := State.reportSpread_one hrep hseq hdue
    refine congrArg Host.Outcome.next ((State.cm_run hrun _).trans ?_)
    rw [hdues, hrest]
    exact if_pos (show (s.joined && !s.stroke) = true by rw [hjoined, hstroke]; rfl)
  case spreadNone =>
    intro s hrep
    refine congrArg Host.Outcome.next (State.cm_same ?_)
    dsimp only
    rw [hrep]
    have hsame : ({ s with fab := { s.fab with reports := [] } } : State) = s := by rw [← hrep]
    exact (ite_self _).trans hsame
  case send =>
    intro s r rest hrun hrep hseq hjoined hstroke
    refine congrArg Host.Outcome.next ((State.cm_run hrun _).trans ?_)
    have hfind : (r :: rest).find? (fun r => r.seq.isSome) = some r := List.find?_cons_of_pos hseq
    dsimp only
    rw [hrep, hfind]
    dsimp only
    rw [List.erase_cons_head]
    exact if_neg (by rw [hjoined, hstroke]; decide)
  case sendNone =>
    intro s hjoined
    refine congrArg Host.Outcome.next (State.cm_same ?_)
    dsimp only
    split
    · rfl
    · exact if_pos (.inl hjoined)
  case first =>
    intro s port p type_ hrun htype hcoll hlen hdups
    obtain ⟨htaken, hnot⟩ := reportType_taken htype
    exact congrArg Host.Outcome.next ((State.cm_run hrun _).trans ((if_pos htaken).trans
      (State.reportRx_first hcoll hlen hdups hnot)))
  case again =>
    intro s port p type_ e hrun htype hcoll hlen hdups hsrc hnewest hbit
    obtain ⟨htaken, -⟩ := reportType_taken htype
    exact congrArg Host.Outcome.next ((State.cm_run hrun _).trans ((if_pos htaken).trans
      (State.reportRx_again hcoll hlen hdups hsrc hnewest hbit)))
  case other =>
    intro s port p type_ hcoll
    refine congrArg Host.Outcome.next (State.cm_same ?_)
    exact (congrArg (ite _ · s) (State.reportRx_other hcoll)).trans (ite_self s)
  case store =>
    intro s pkt rest hrun hpkts
    refine congrArg Host.Outcome.next ((State.cm_run hrun _).trans ?_)
    dsimp only
    rw [hpkts]
  case storeNone =>
    intro s hpkts
    refine congrArg Host.Outcome.next (State.cm_same ?_)
    dsimp only
    rw [hpkts]
  case locate =>
    intro s d h
    exact congrArg Host.Outcome.next (State.command_ok h)
  case relay =>
    intro s k frame f hrun hen hphy hframe hrelay htype hrate hjoined hstroke hcoll
    refine congrArg Host.Outcome.next ((State.cm_run hrun _).trans ?_)
    refine (if_neg (by rw [hen, hphy]; decide)).trans ?_
    rw [hframe, hrate]
    refine (if_neg (by rw [hrelay, htype]; simp [State.recent])).trans (if_pos ?_)
    have hnamed : (s.collectors != []) = true := by simpa using hcoll
    exact (congrArg₂ and (show (s.joined && !s.stroke) = true by rw [hjoined, hstroke]; rfl) hnamed)
  case relayOff =>
    intro s k frame hrun hen hphy hrelay
    refine congrArg Host.Outcome.next ((State.cm_run hrun _).trans ?_)
    refine (if_neg (by rw [hen, hphy]; decide)).trans ?_
    rw [State.badFabric_port]
    split
    · rfl
    · exact if_pos (.inl hrelay)
  case routed =>
    intro s port frame f u h l hrun hport hrx hhere hnext hlink
    refine congrArg Host.Outcome.next ((State.cm_run hrun _).trans ?_)
    rw [State.takeTone_port hport, State.routedRx_next hport hrx hhere hnext hlink]
  case routedBad =>
    intro s port frame hrun hport hen hphy hbad
    refine congrArg Host.Outcome.next ((State.cm_run hrun _).trans ?_)
    rw [State.takeTone_port hport, State.routedRx, State.rxFrame_bad hrun hport hen hphy hbad]

end Sys2Proof.Machine
end

section
/-! SUPPORT. Fabric commands (R303, R309). -/

namespace Sys2Proof.Machine

theorem State.Sent.sendRoute (s : State) (r : Route) (type_ flags : Nat) (payload : List Byte) :
    s.Sent (s.sendRoute r type_ flags payload) := by
  unfold State.sendRoute
  split
  · exact .refl s
  · split
    · exact .sendFrame ..
    · exact (s.badFabric_keeps _).sent (by decide) (by decide)

theorem State.commandKey_fab {s u : State} {key : List Byte} (h : s.commandKey = some (key, u)) : u.fab = s.fab :=
  (s.commandKey_keeps.of_eq h).fab (by decide)

/-- Without a command key no completion is sent. -/
theorem State.fabricReply_noKey {s : State} (h : s.commandKey = none) (node : Half) (r : Result) (c : Dword) :
    s.fabricReply node r c = s := by
  unfold State.fabricReply
  rw [h]

/-! ### A command received -/

/-- The command that a payload carries. -/
def fabricDesc (p : List Byte) : Desc := ⟨.fabric (BitVec.ofNat 16 (fld p 0 2)), slice p 12 64⟩

section
variable {s u : State} {p key : List Byte}

theorem State.fabricCommandRx_noKey (hlen : p.length = 92) (haddr : fld p 2 2 = s.ownAddr) (hkey :
    s.commandKey = none) :
    s.fabricCommandRx p = s.raise { src := 111 } := by
  unfold State.fabricCommandRx
  extract_lets node ctr d
  rw [if_neg (by simp [hlen, haddr]), hkey]
  exact congrArg (State.raise · { src := 111 }) (State.fabricReply_noKey hkey node ⟨d, 0x0009, 0, []⟩ ctr)

/-- The first command of a node whose tag is good and whose privileges are held is accepted. -/
theorem State.fabricCommandRx_accepted (hlen : p.length = 92) (haddr : fld p 2 2 = s.ownAddr)
    (hkey : s.commandKey = some (key, u)) (htag : (hmac256 key (p.take 76)).take 16 = p.drop 76)
    (hcount : s.fab.counters = [])
    (hprivs : (opcodePrivs (fabricDesc p)).all (fun b => (u.privs (fabricDesc p).src).testBit b) = true) :
    s.fabricCommandRx p = u.fabricAccept (fabricDesc p) (BitVec.ofNat 16 (fld p 0 2))
      (BitVec.ofNat 64 (fld p 4 8)) := by
  have hfirst : u.fab.counters = [] := by rw [State.commandKey_fab hkey, hcount]
  have hnone : (opcodePrivs (fabricDesc p)).find? (fun b => !((u.privs (fabricDesc p).src).testBit b)) = none := by
    simpa using hprivs
  unfold State.fabricCommandRx
  extract_lets node ctr d
  rw [if_neg (by simp [hlen, haddr]), hkey]
  dsimp only
  rw [hfirst]
  refine (if_neg ?_).trans ?_
  · rw [htag]; simp
  · rw [show (opcodePrivs d).find? (fun b => !((u.privs d.src).testBit b)) = none from hnone]
    rfl

end

/-- An accepted command waits for its execution, and its counter is the node's newest. -/
theorem State.fabricAccept_waits (u : State) (d : Desc) (node : Half) (c : Dword) (hcount : u.fab.counters = [])
    (hroom : u.host.inFlight.length < 256) :
    (u.fabricAccept d node c).host.inFlight = u.host.inFlight ++ [d] ∧
    (u.fabricAccept d node c).fab.counters = [(node, c)] ∧
    (u.fabricAccept d node c).fab.waiting = u.fab.waiting ++ [(d, c)] := by
  unfold State.fabricAccept
  rw [if_pos hroom, hcount]
  dsimp only
  split <;> exact ⟨rfl, rfl, rfl⟩

/-! ### Completions and commands sent -/

theorem State.fabricCompletionRx_noKey {s : State} {p : List Byte} (h : s.commandKey = none) :
    s.fabricCompletionRx p = s := by
  unfold State.fabricCompletionRx
  rw [h]

/-- A completion under a good tag ends the one outstanding command. -/
theorem State.fabricCompletionRx_mine {s u : State} {p key : List Byte} {r : RemoteCmd} (hlen : p.length = 48)
    (hkey : s.commandKey = some (key, u)) (hremote : u.fab.remote = [r])
    (htag : (hmac256 key (p.take 32 ++ natLE 8 r.counter.toNat)).take 16 = p.drop 32) : s.fabricCompletionRx p =
    State.ok { u with fab := { u.fab with remote := [] } } r.desc (p.take 16) := by
  unfold State.fabricCompletionRx
  rw [hkey]
  dsimp only
  rw [if_neg (not_not_intro hlen), hremote, List.find?_cons_of_pos (by rw [htag]; exact beq_self_eq_true _)]
  dsimp only
  rw [List.erase_cons_head]

/-- A command numbered and noted as outstanding. -/
def State.remoteNoted (s : State) (d : Desc) : State :=
  { s with fab := { s.fab with
      ownCounter := s.fab.ownCounter + 1,
      remote := s.fab.remote ++ [⟨d, BitVec.ofNat 16 (d.n 24 2), s.fab.ownCounter + 1⟩] } }

/-- The outstanding command leaves under the command key along the primary route, if both are there. -/
def State.remoteSent (s : State) (dest : Half) (body : List Byte) : State :=
  match s.commandKey, s.routeTo dest with
  | some (key, s), some e => s.sendRoute e.prim 0x20 0 (body ++ (hmac256 key body).take 16)
  | _, _ => s

theorem State.Sent.remoteSent (s : State) (dest : Half) (body : List Byte) : s.Sent (s.remoteSent dest body) := by
  unfold State.remoteSent
  split
  next key u e hkey _ =>
    exact ((s.commandKey_keeps.of_eq hkey).sent (by decide) (by decide)).trans (.sendRoute ..)
  next => exact .refl s

/-! ### The statement -/

/-- Settles O48: the receipt and the sending of commands, and what ends one. -/
theorem fabricCommands : Obligations.FabricCommands := by
  unfold Obligations.FabricCommands
  refine ⟨?accept, ?noKey, ?done, ?doneNoKey, ?send, ?late, ?lateNone⟩
  case accept =>
    intro s p key u hrun hlen haddr hkey htag hcount hprivs hroom
    have hcount' : u.fab.counters = [] := by rw [State.commandKey_fab hkey, hcount]
    refine ⟨_, congrArg Host.Outcome.next ((State.cm_run hrun _).trans
      (State.fabricCommandRx_accepted hlen haddr hkey htag hcount hprivs)), ?_⟩
    exact u.fabricAccept_waits (fabricDesc p) _ _ hcount' hroom
  case noKey =>
    intro s p hrun hlen haddr hkey
    exact congrArg Host.Outcome.next ((State.cm_run hrun _).trans (State.fabricCommandRx_noKey hlen haddr hkey))
  case done =>
    intro s p key u r hrun hlen hkey hremote htag
    exact congrArg Host.Outcome.next ((State.cm_run hrun _).trans
      (State.fabricCompletionRx_mine hlen hkey hremote htag))
  case doneNoKey =>
    intro s p hkey
    exact congrArg Host.Outcome.next (State.cm_same (State.fabricCompletionRx_noKey hkey))
  case send =>
    intro s d h
    have hsent := State.Sent.remoteSent (s.remoteNoted d) (BitVec.ofNat 16 (d.n 24 2))
      (natLE 2 s.ownAddr ++ natLE 2 (BitVec.ofNat 16 (d.n 24 2)).toNat ++ natLE 8 (s.fab.ownCounter + 1).toNat ++
        (s.remoteNoted d).staged d)
    exact ⟨_, congrArg Host.Outcome.next (State.command_ok h), hsent.fab_eq FabS.ownCounter (fun _ => rfl),
      hsent.fab_eq FabS.remote (fun _ => rfl)⟩
  case late =>
    intro s r rest hrun hremote
    refine congrArg Host.Outcome.next ((State.cm_run hrun _).trans ?_)
    dsimp only
    rw [hremote]
  case lateNone =>
    intro s hremote
    refine congrArg Host.Outcome.next (State.cm_same ?_)
    dsimp only
    rw [hremote]

end Sys2Proof.Machine
end

section
/-! SUPPORT. Fabric time (R304). -/

namespace Sys2Proof.Machine

/-! ### A Sync on the receiving port -/

/-- A time that a condition has held since: now, where it begins to hold. -/
def State.since (s : State) (old : Option Nat) (on : Bool) : Option Nat :=
    if on then some (old.getD s.time.now) else none

/-- A Sync taken: its offset shown, the servo fed, and the times of its nearness noted. -/
def State.syncTaken (s : State) (o : Int) : State :=
  let u := s.set F.FAB_PTP_OFFSET_OFFSET (ofSigned 32 (max (-(2 ^ 31 - 1) - 1) (min (2 ^ 31 - 1) o)))
  let u := { u with time := { u.time with servoPpm := max (-100) (min 100 (Config.servo o s.free)) }, free :=
    s.free + 1 }
  u.modPtp (fun x => { x with
    syncAt := some s.time.now,
    within := s.since x.within (decide (o.natAbs ≤ 50000)),
    apart := s.since x.apart (decide (2000000000 < o.natAbs)) })

theorem State.flag_lock_syncTaken (s : State) (o : Int) :
    (s.syncTaken o).flag F.FAB_PTP_STATUS_LOCK = s.flag F.FAB_PTP_STATUS_LOCK :=
  congrArg (· == 1) (State.get_set_ne s (f := F.FAB_PTP_OFFSET_OFFSET) _ (by decide) (by decide))

/-- Without a lock a Sync does no more. -/
theorem State.syncRx_unlocked {s : State} (o : Int) (h : s.flag F.FAB_PTP_STATUS_LOCK = false) :
    s.syncRx o = s.syncTaken o := if_pos ((s.flag_lock_syncTaken o).trans h)

theorem clamp_word {o : Int} (h : o.natAbs < 2 ^ 31) : max (-(2 ^ 31 - 1) - 1) (min (2 ^ 31 - 1) o) = o := by omega

theorem ofSigned_lt (o : Int) : ofSigned 32 o < 2 ^ 32 := by
  unfold ofSigned
  omega

theorem State.offset_syncTaken (s : State) {o : Int} (h : o.natAbs < 2 ^ 31) :
    (s.syncTaken o).get F.FAB_PTP_OFFSET_OFFSET = ofSigned 32 o := by
  have hset : (s.syncTaken o).get F.FAB_PTP_OFFSET_OFFSET =
      ofSigned 32 (max (-(2 ^ 31 - 1) - 1) (min (2 ^ 31 - 1) o)) := State.get_set_of_lt s (by decide) (ofSigned_lt _)
  rw [hset, clamp_word h]

/-! ### Announces -/

/-- The first Announce of the domain is the best master; without a valid UTC offset it does no more. -/
theorem State.announce_first {s : State} {k : Fin 4} {m : PtpMaster} {utc : Int} (h : s.fab.ptp.best = none) :
    s.announce k m utc false = (s.modPtp (fun x => { x with best := some m })).bestClock := by
  unfold State.announce
  rw [h]
  exact if_neg (by rw [Bool.and_false]; decide)

/-! ### Lock -/

theorem Keeps.open_ {P B : Nat} {s t : State} (h : Keeps P B s t) (hb : B.testBit (rowOf R.MG_ISLAND_STATE) = false)
    (hp : P.testBit 1 = false) (a b : Isl) : t.open_ a b = s.open_ a b := by
  rw [State.open_, h.running hb, h.running hb, h.isl hp, State.open_]

section
variable (s : State)

theorem State.open_setLock (on : Bool) (a b : Isl) : (s.setLock on).open_ a b = s.open_ a b := by
  rw [State.setLock, (State.raise_keeps _ _).open_ (by decide) (by decide), State.open_,
    State.running_set _ _ _ (by decide) (by decide), State.running_set _ _ _ (by decide) (by decide)]
  rfl

theorem State.quality_setLock (on : Bool) : (s.setLock on).quality = s.quality :=
  ((State.raise_keeps _ _).get _ (by decide)).trans (State.get_set_ne _ _ (by decide) (by decide))

theorem State.lock_setLock (on : Bool) : (s.setLock on).get F.FAB_PTP_STATUS_LOCK = on.toNat :=
  ((State.raise_keeps _ _).get _ (by decide)).trans (State.get_set_of_lt _ (by decide) on.toNat_lt)

theorem State.now_setLock (on : Bool) : (s.setLock on).time = s.time := (State.raise_keeps _ _).time (by decide)

/-- Where the time quality is not 2, a synchronisation makes it 0. -/
theorem State.quality_synced {s : State} (h : s.quality ≠ 2) : (s.synced false).quality = 0 := by
  unfold State.synced
  extract_lets clock stamped
  rw [if_neg (fun hq => h hq.1)]
  exact stamped.setQuality_quality (by decide)

/-- The receiver's lock after an offset that has stayed near, where it may not synchronise device time and where it
may. -/
theorem State.ptpLockAcquired_eq {s : State} (hrun : s.running .cm = true) (hrole : s.get F.FAB_PTP_STATUS_ROLE = 1)
    (hlock : s.flag F.FAB_PTP_STATUS_LOCK = false) (hnear : s.fab.ptp.within ≠ none) : exec .ptpLockAcquired s =
    .next (if s.open_ .cm .vl then (s.setLock true).synced false else s.setLock true) := by
  refine congrArg Host.Outcome.next ((State.cm_run hrun _).trans ((if_neg (by simp [hrole, hlock, hnear])).trans ?_))
  dsimp only
  rw [State.open_setLock]

end

/-- Lock as it ends when Syncs fall silent. -/
theorem State.lock_ended (s : State) :
    (if s.flag F.FAB_PTP_STATUS_LOCK then s.setLock false else s).get F.FAB_PTP_STATUS_LOCK = 0 := by
  split
  · exact s.lock_setLock false
  · next h =>
    have hlt : s.get F.FAB_PTP_STATUS_LOCK < 2 := s.get_lt F.FAB_PTP_STATUS_LOCK
    have hne : s.get F.FAB_PTP_STATUS_LOCK ≠ 1 := fun e => h (State.flag_of_one e)
    omega

/-- The receiver without a Sync: nothing near, and a servo that steers no more. -/
def State.syncLost (s : State) : State :=
  let s := s.modPtp (fun x => { x with within := none, syncAt := none })
  { s with time := { s.time with servoPpm := 0 } }

/-- The end of a lock leaves time and the clock's records as they were. -/
theorem State.lockEnd_parts (s : State) :
    (if s.flag F.FAB_PTP_STATUS_LOCK then s.setLock false else s).time = s.time ∧
    (if s.flag F.FAB_PTP_STATUS_LOCK then s.setLock false else s).fab = s.fab := by
  split
  · exact ⟨s.now_setLock false, (State.raise_keeps _ _).fab (by decide)⟩
  · exact ⟨rfl, rfl⟩

/-! ### The statement -/

/-- Settles O49: the messages of the clock in and out, and its lock gained and lost. -/
theorem fabricClock : Obligations.FabricClock := by
  unfold Obligations.FabricClock
  refine ⟨?sync, ?domain, ?announce, ?sendSync, ?sendSyncNot, ?sendAnnounce, ?sendDelay, ?silent, ?silentNone,
    ?lock, ?lockSynced, ?lost⟩
  case sync =>
    intro s k o hrun huse hport ho hlock
    refine ⟨s.syncTaken o, congrArg Host.Outcome.next ((State.cm_run hrun _).trans ?_), s.offset_syncTaken ho, rfl, rfl⟩
    exact (if_neg (ne_false_of_eq_true huse)).trans ((if_pos hport).trans (State.syncRx_unlocked o hlock))
  case domain =>
    intro s k domain gm p1 cl p2 ident steps utc valid hrun hdomain
    refine congrArg Host.Outcome.next ((State.cm_run hrun _).trans ?_)
    split
    · rfl
    · exact if_pos hdomain
  case announce =>
    intro s k domain gm p1 cl p2 ident steps utc hrun huse hdomain hbest
    refine congrArg Host.Outcome.next ((State.cm_run hrun _).trans ?_)
    exact (if_neg (ne_false_of_eq_true huse)).trans ((if_neg (not_not_intro hdomain)).trans
      (State.announce_first hbest))
  case sendSync =>
    intro s k hrun hmaster
    exact congrArg Host.Outcome.next ((State.cm_run hrun _).trans (if_pos hmaster))
  case sendSyncNot =>
    intro s k hmaster
    exact congrArg Host.Outcome.next (State.cm_same (if_neg (ne_true_of_eq_false hmaster)))
  case sendAnnounce =>
    intro s k hrun hmaster
    exact congrArg Host.Outcome.next ((State.cm_run hrun _).trans (if_pos hmaster))
  case sendDelay =>
    intro s k hrun huse
    exact congrArg Host.Outcome.next ((State.cm_run hrun _).trans (if_pos huse))
  case silent =>
    intro s k m hrun hbest hport
    refine congrArg Host.Outcome.next ((State.cm_run hrun _).trans ?_)
    rw [hbest]
    exact if_pos hport
  case silentNone =>
    intro s k hbest
    refine congrArg Host.Outcome.next (State.cm_same ?_)
    rw [hbest]
  case lock =>
    intro s hrun hrole hlock hnear hclosed
    rw [State.ptpLockAcquired_eq hrun hrole hlock hnear, if_neg (ne_true_of_eq_false hclosed)]
    rfl
  case lockSynced =>
    intro s hrun hrole hlock hnear hopen hquality
    refine ⟨_, (State.ptpLockAcquired_eq hrun hrole hlock hnear).trans (congrArg _ (if_pos hopen)), ?_, ?_, ?_⟩
    · exact ((State.synced_keeps _ _).get _ (by decide)).trans (s.lock_setLock true)
    · exact State.quality_synced (by rwa [State.quality_setLock])
    · rw [State.synced_time, State.now_setLock]
  case lost =>
    intro s hrun
    obtain ⟨htime, hfab⟩ := s.syncLost.lockEnd_parts
    refine ⟨_, congrArg Host.Outcome.next (State.cm_run hrun _), ?_, ?_, ?_, s.syncLost.lock_ended⟩
    · exact congrArg TimeS.servoPpm htime
    · exact congrArg (fun f : FabS => f.ptp.syncAt) hfab
    · exact congrArg (fun f : FabS => f.ptp.within) hfab

end Sys2Proof.Machine
end

section
/-! SUPPORT. Duplex pairs (R305 to R309). -/

namespace Sys2Proof.Machine

/-! ### What a command that passes its checks shows of its island -/

theorem State.takes_of_admits {s : State} {d : Desc} {c : CmdSpec} {ranges : List (Nat × Bool)}
    (h : s.admits d c ranges) : s.takes c = true := by
  have hnone : s.cmdFail d c c.priv.toList ranges = none := h
  by_contra htakes
  have hdown : s.takes c = false := Bool.eq_false_of_not_eq_true htakes
  unfold State.cmdFail at hnone
  rw [hdown] at hnone
  split at hnone
  · simp at hnone
  · split at hnone
    · simp at hnone
    · split at hnone
      · simp at hnone
      · split at hnone <;> simp at hnone

/-- Only MG takes commands while it recovers. -/
theorem State.running_of_admits {s : State} {d : Desc} {c : CmdSpec} {ranges : List (Nat × Bool)}
    (h : s.admits d c ranges) (hisl : c.isl ≠ .mg) : s.running c.isl = true := by
  have htakes := State.takes_of_admits h
  unfold State.takes at htakes
  simpa [hisl] using htakes

/-! ### Roles -/

theorem State.get_setRole (s : State) (role : Nat) {f : Fld} (hoff : f.off ≠ R.FAB_STATUS)
    (hswitch : f.Apart F.FAB_PAIR_STATUS_SWITCHES)
    (hrow : (0x800000000000000000000000000000000000000000000000018088800000 : Nat).testBit (rowOf f.off) = false) :
    (s.setRole role).get f = s.get f := by
  have hrole : (s.set F.FAB_STATUS_ROLE role).get f = s.get f := State.get_set_ne _ _ (by decide) (.inl hoff)
  unfold State.setRole
  extract_lets old u
  split
  · exact hrole
  · refine ((State.raise_keeps _ _).get _ hrow).trans ((State.get_set_ne _ _ (by decide) ?_).trans hrole)
    obtain h | h | h := hswitch
    · exact .inl h.symm
    · exact .inr (.inr h)
    · exact .inr (.inl h)

theorem State.role_setRole (s : State) {role : Nat} (h : role < 4) : (s.setRole role).get F.FAB_STATUS_ROLE = role := by
  have hrole : (s.set F.FAB_STATUS_ROLE role).get F.FAB_STATUS_ROLE = role := State.get_set_of_lt _ (by decide) h
  unfold State.setRole
  extract_lets old u
  split
  · exact hrole
  · exact ((State.raise_keeps _ _).get _ (by decide)).trans ((State.get_set_ne _ _ (by decide) (by decide)).trans hrole)

theorem State.fab_setRole (s : State) (role : Nat) : (s.setRole role).fab = s.fab :=
  (s.setRole_keeps role).fab (by decide)

/-- What a module shows of the partner it has met: both lanes up, and the address of the pair. -/
def State.partnerMet (s : State) (ident : BitVec 48) (addr : Half) (pref : Bool) (pairAddr : Nat) : State :=
  let s := s.modPair (fun x => { x with ident := ident, addr := addr, pref := pref })
  let s := (s.set F.FAB_PAIR_STATUS_PARTNER 1).set F.FAB_PAIR_STATUS_PAIR_ADDR pairAddr
  (s.set F.FAB_PAIR_STATUS_LANE_A 1).set F.FAB_PAIR_STATUS_LANE_B 1

section
variable (s : State) (ident : BitVec 48) (addr : Half) (pref : Bool) (a : Nat)

theorem State.partner_partnerMet : (s.partnerMet ident addr pref a).get F.FAB_PAIR_STATUS_PARTNER = 1 := by
  unfold State.partnerMet
  rw [State.get_set_ne _ _ (by decide) (by decide), State.get_set_ne _ _ (by decide) (by decide),
    State.get_set_ne _ _ (by decide) (by decide), State.get_set_of_lt _ (by decide) (by decide)]

theorem State.pairAddr_partnerMet (h : a < 65536) :
    (s.partnerMet ident addr pref a).get F.FAB_PAIR_STATUS_PAIR_ADDR = a := by
  unfold State.partnerMet
  rw [State.get_set_ne _ _ (by decide) (by decide), State.get_set_ne _ _ (by decide) (by decide),
    State.get_set_of_lt _ (by decide) h]

theorem State.laneA_partnerMet : (s.partnerMet ident addr pref a).get F.FAB_PAIR_STATUS_LANE_A = 1 := by
  unfold State.partnerMet
  rw [State.get_set_ne _ _ (by decide) (by decide), State.get_set_of_lt _ (by decide) (by decide)]

theorem State.laneB_partnerMet : (s.partnerMet ident addr pref a).get F.FAB_PAIR_STATUS_LANE_B = 1 :=
  State.get_set_of_lt _ (by decide) (by decide)

end

/-- Of two equal preferences the lower identity acts as bow, and the pair has its address. -/
theorem State.pairUp_lower {s : State} {pid : BitVec 48} {paddr : Half} {ppref : Bool} (hrun : s.running .cm = true)
    (hen : s.flag F.FAB_PAIR_CFG_EN = true) (hpref : s.flag F.FAB_PAIR_CFG_PREF_BOW = ppref)
    (hlower : s.identity < pid.toNat) : exec (.pairUp pid paddr ppref) s =
    .next ((s.partnerMet pid paddr ppref s.ownAddr).setRole 1) := by
  refine congrArg Host.Outcome.next ((State.cm_run hrun _).trans ((if_neg (ne_false_of_eq_true hen)).trans ?_))
  have hlow : decide (s.identity < pid.toNat) = true := decide_eq_true hlower
  dsimp only
  rw [hlow, if_pos hpref]
  rfl

/-! ### The mirror -/

/-- The mirror that the stroke has just heard of. -/
def State.mirrorHeard (s : State) : State := (s.modPair (fun x => { x with mirrorAt := some s.time.now })).showMirror

theorem State.showMirror_now {s : State} (h : s.fab.pair.mirrorAt = some s.time.now) :
    s.showMirror = s.set F.FAB_PAIR_STATUS_MIRROR_OK 1 := by
  unfold State.showMirror
  rw [h]
  simp

theorem State.showMirror_none {s : State} (h : s.fab.pair.mirrorAt = none) :
    s.showMirror = s.set F.FAB_PAIR_STATUS_MIRROR_OK 0 := by
  unfold State.showMirror
  rw [h]
  rfl

theorem State.mirrorHeard_eq (s : State) : s.mirrorHeard =
    (s.modPair (fun x => { x with mirrorAt := some s.time.now })).set F.FAB_PAIR_STATUS_MIRROR_OK 1 :=
  State.showMirror_now rfl

theorem State.mirrorOk_mirrorHeard (s : State) : s.mirrorHeard.get F.FAB_PAIR_STATUS_MIRROR_OK = 1 := by
  rw [State.mirrorHeard_eq]
  exact State.get_set_of_lt _ (by decide) (by decide)

/-- A stroke with a partner takes what the bow mirrors. -/
theorem State.duplexMirror_stroke {s : State} (m : MirrorItem) (hrun : s.running .cm = true)
    (hpartner : s.flag F.FAB_PAIR_STATUS_PARTNER = true) (hstroke : s.stroke = true) :
    exec (.duplexMirror m) s = .next (s.mirrorRx m) :=
  congrArg Host.Outcome.next ((State.cm_run hrun _).trans ((if_neg (ne_false_of_eq_true hpartner)).trans
    (if_pos hstroke)))

/-! ### Switch-over (R307) -/

/-- The stroke's own islands that it needs run. -/
theorem State.considerSwitch_ready {s : State} (hstroke : s.stroke = true) (hcm : s.running .cm = true)
    (hvl : s.running .vl = true) (hap : s.running .ap = true) (hpt : s.running .pt = true) (hpw : s.running .pw = true)
    (hmode : s.get F.VOT_STATUS_MODE ≠ 2) (hmirror : s.fab.pair.mirrorAt = some s.time.now) :
    s.considerSwitch = s.showMirror.takeOver := by
  have hmode' : s.showMirror.get F.VOT_STATUS_MODE ≠ 2 := by rwa [s.showMirror_keeps.get _ (by decide)]
  have hok : s.showMirror.flag F.FAB_PAIR_STATUS_MIRROR_OK = true := by
    rw [State.showMirror_now hmirror]
    exact State.flag_of_one (State.get_set_of_lt _ (by decide) (by decide))
  have hup : ([Isl.vl, .ap, .pt, .pw, .cm].all s.showMirror.running) = true := by
    simp [s.showMirror_keeps.running (by decide), hcm, hvl, hap, hpt, hpw]
  unfold State.considerSwitch
  rw [if_neg (ne_false_of_eq_true hstroke)]
  exact if_pos (by simp [hup, hmode', hok])

/-- Without a mirror the stroke does not take over. -/
theorem State.considerSwitch_noMirror {s : State} (hstroke : s.stroke = true) (hmirror : s.fab.pair.mirrorAt = none) :
    s.considerSwitch = (s.set F.FAB_PAIR_STATUS_MIRROR_OK 0).raise { src := 112 } := by
  have hzero : (s.set F.FAB_PAIR_STATUS_MIRROR_OK 0).flag F.FAB_PAIR_STATUS_MIRROR_OK = false :=
    State.flag_of_zero (State.get_set_of_lt _ (by decide) (by decide))
  unfold State.considerSwitch
  rw [if_neg (ne_false_of_eq_true hstroke), State.showMirror_none hmirror]
  exact if_neg (by rw [hzero, Bool.and_false]; decide)

theorem State.considerSwitch_other {s : State} (hstroke : s.stroke = false) : s.considerSwitch = s := if_pos hstroke

/-! ### Lanes that return -/

theorem State.identity_set (s : State) {f : Fld} (v : Nat) (hlo : R.KEY_IDENT_LO ≠ f.off)
    (hhi : R.KEY_IDENT_LO + 4 ≠ f.off) : (s.set f v).identity = s.identity := by
  have h0 : (s.set f v).reg R.KEY_IDENT_LO = s.reg R.KEY_IDENT_LO := State.reg_setReg_ne _ _ hlo
  have h4 : (s.set f v).reg (R.KEY_IDENT_LO + 4) = s.reg (R.KEY_IDENT_LO + 4) := State.reg_setReg_ne _ _ hhi
  unfold State.identity State.get64
  rw [h0, h4]

theorem State.bow_set (s : State) {f : Fld} (v : Nat) (h : f.hi < 32) (hoff : F.FAB_STATUS_ROLE.off ≠ f.off) :
    (s.set f v).bow = s.bow := congrArg (· == 1) (State.get_set_ne s v h (.inl hoff))

/-- What a lane shows is no part of the role or the identity. -/
theorem State.role_setLane (s : State) {f : Fld} (hf : f = F.FAB_PAIR_STATUS_LANE_A ∨ f = F.FAB_PAIR_STATUS_LANE_B)
    (v : Nat) : (s.set f v).bow = s.bow ∧ (s.set f v).identity = s.identity := by
  obtain rfl | rfl := hf
  · exact ⟨s.bow_set v (by decide) (by decide), s.identity_set v (by decide) (by decide)⟩
  · exact ⟨s.bow_set v (by decide) (by decide), s.identity_set v (by decide) (by decide)⟩

/-! ### The statement -/

/-- Settles O50: the roles, the mirror and the lanes of a pair. -/
theorem duplexPairs : Obligations.DuplexPairs := by
  unfold Obligations.DuplexPairs
  refine ⟨?up, ?upOff, ?beat, ?beatNot, ?channels, ?report, ?alone, ?release, ?releaseOld, ?releaseNot, ?loss, ?laneA,
    ?laneB, ?returnB, ?returnA, ?switch_, ?switchNot⟩
  case up =>
    intro s pid paddr ppref hrun hen hpref hlower
    have haddr : s.ownAddr < 65536 := s.get_lt F.FAB_STATUS_ADDR
    refine ⟨_, State.pairUp_lower hrun hen hpref hlower, State.role_setRole _ (by decide), ?_, ?_, ?_, ?_, ?_⟩
    · rw [State.get_setRole _ _ (by decide) (by decide) (by decide), State.partner_partnerMet]
    · rw [State.get_setRole _ _ (by decide) (by decide) (by decide), State.pairAddr_partnerMet _ _ _ _ _ haddr]
    · rw [State.get_setRole _ _ (by decide) (by decide) (by decide), State.laneA_partnerMet]
    · rw [State.get_setRole _ _ (by decide) (by decide) (by decide), State.laneB_partnerMet]
    · rw [State.fab_setRole]
      rfl
  case upOff =>
    intro s pid paddr ppref hen
    exact congrArg Host.Outcome.next (State.cm_same (if_pos hen))
  case beat =>
    intro s hrun hbow hpartner
    exact congrArg Host.Outcome.next ((State.cm_run hrun _).trans (if_pos ⟨hbow, hpartner⟩))
  case beatNot =>
    intro s hbow
    exact congrArg Host.Outcome.next (State.cm_same (if_neg (fun h => ne_true_of_eq_false hbow h.1)))
  case channels =>
    intro s on hrun hpartner hstroke
    refine ⟨_, State.duplexMirror_stroke _ hrun hpartner hstroke, rfl, ?_, s.mirrorOk_mirrorHeard⟩
    change s.mirrorHeard.fab.pair.mirrorAt = _
    rw [State.mirrorHeard_eq]
    rfl
  case report =>
    intro s seq type_ body hrun hpartner hstroke
    exact ⟨_, State.duplexMirror_stroke _ hrun hpartner hstroke, rfl, rfl⟩
  case alone =>
    intro s m hpartner
    exact congrArg Host.Outcome.next (State.cm_same (if_pos hpartner))
  case release =>
    intro s hrun hstroke hvl hap hpt hpw hmode hmirror
    exact congrArg Host.Outcome.next ((State.cm_run hrun _).trans
      (State.considerSwitch_ready hstroke hrun hvl hap hpt hpw hmode hmirror))
  case releaseOld =>
    intro s hrun hstroke hmirror
    exact congrArg Host.Outcome.next ((State.cm_run hrun _).trans (State.considerSwitch_noMirror hstroke hmirror))
  case releaseNot =>
    intro s hstroke
    exact congrArg Host.Outcome.next (State.cm_same (State.considerSwitch_other hstroke))
  case loss =>
    intro s hrun hstroke
    exact congrArg Host.Outcome.next ((State.cm_run hrun _).trans (if_neg (ne_false_of_eq_true hstroke)))
  case laneA =>
    intro s hrun hlane
    exact congrArg Host.Outcome.next ((State.cm_run hrun _).trans (if_pos hlane))
  case laneB =>
    intro s hrun hlane
    exact congrArg Host.Outcome.next ((State.cm_run hrun _).trans (if_pos hlane))
  case returnB =>
    intro s pid pbow hrun hpartner hone
    obtain ⟨hbow, hident⟩ := s.role_setLane (.inr rfl) 1
    refine congrArg Host.Outcome.next ((State.cm_run hrun _).trans ((if_neg (ne_false_of_eq_true hpartner)).trans
      (if_neg ?_)))
    change ¬((s.set F.FAB_PAIR_STATUS_LANE_B 1).bow = true ∧ pbow = true ∧
      pid.toNat < (s.set F.FAB_PAIR_STATUS_LANE_B 1).identity)
    rw [hbow, hident]
    rintro ⟨hb, hp, hlt⟩
    obtain h | h | h := hone
    · exact ne_true_of_eq_false h hb
    · exact ne_true_of_eq_false h hp
    · exact absurd hlt (Nat.not_lt.mpr h)
  case returnA =>
    intro s pid hrun hpartner hb hlt
    obtain ⟨hbow, hident⟩ := s.role_setLane (.inl rfl) 1
    refine congrArg Host.Outcome.next ((State.cm_run hrun _).trans ((if_neg (ne_false_of_eq_true hpartner)).trans
      (if_pos ?_)))
    exact ⟨hbow.trans hb, rfl, hident.symm ▸ hlt⟩
  case switch_ =>
    intro s d h hbow hpartner
    have hrun : s.running .cm = true := State.running_of_admits h (by decide)
    refine congrArg Host.Outcome.next ((State.command_ok h).trans ((if_pos ⟨hbow, hpartner⟩).trans ?_))
    exact congrArg (State.ok · d []) (if_pos ⟨hbow, hrun⟩)
  case switchNot =>
    intro s d h hbow
    exact congrArg Host.Outcome.next ((State.command_ok h).trans (if_neg (fun hb => ne_true_of_eq_false hbow hb.1)))

end Sys2Proof.Machine
end

section
/-! SUPPORT. The neighbour table of the mains tone link (R287, R323, R324, R331). -/

namespace Sys2Proof.Machine

/-! ### A neighbour that falls silent -/

theorem State.segs_toneDrop (s : State) (j : Fin 32) : (s.toneDrop (.tl j)).mtl.nbs[j].segs = none := by
  simp [State.toneDrop]

theorem State.segs_linkDown {s : State} {j : Fin 32} (h : s.flag (linkUpF (.tl j)) = true) :
    (s.linkDown (.tl j)).mtl.nbs[j].segs = none := by
  rw [State.linkDown_eq h, State.entry_advertise _ MtlNb.segs (fun _ => rfl), (State.raise_keeps _ _).mtl (by decide),
    State.segs_toneDrop]

/-! ### An entry freed -/

/-- An entry's records and what others wait for of it discarded. -/
def State.entryDropped (s : State) (j : Fin 32) : State :=
  ((s.toneDrop (.tl j)).modEntry j (fun _ => MtlNb.reset)).modTone
    (fun m => { m with asked := m.asked.filter (fun x => x.2 != j) })

theorem State.nbs_entryDropped (s : State) (j : Fin 32) :
    (s.entryDropped j).mtl.nbs = s.mtl.nbs.set j MtlNb.reset := by
  simp [State.entryDropped, State.modTone, State.modEntry, State.toneDrop]

/-- The three registers of an entry cleared. -/
def State.entryCleared (s : State) (j : Fin 32) : State :=
  ((s.setReg (R.MTL_NB_ID j.val) 0).setReg (R.MTL_NB_LINK j.val) 0).setReg (R.MTL_NB_CNT j.val) 0

theorem entryRegs_ne (j : Fin 32) : R.MTL_NB_ID j.val ≠ R.MTL_NB_LINK j.val ∧ R.MTL_NB_ID j.val ≠ R.MTL_NB_CNT j.val ∧
    R.MTL_NB_LINK j.val ≠ R.MTL_NB_CNT j.val := by
  revert j
  decide

theorem State.reg_entryCleared (s : State) (j : Fin 32) : (s.entryCleared j).reg (R.MTL_NB_ID j.val) = 0 ∧
    (s.entryCleared j).reg (R.MTL_NB_LINK j.val) = 0 ∧ (s.entryCleared j).reg (R.MTL_NB_CNT j.val) = 0 := by
  obtain ⟨hlink, hcnt, hlinkCnt⟩ := entryRegs_ne j
  unfold State.entryCleared
  refine ⟨?_, ?_, State.reg_setReg_self ..⟩
  · rw [State.reg_setReg_ne _ _ hcnt, State.reg_setReg_ne _ _ hlink, State.reg_setReg_self, Nat.zero_mod]
  · rw [State.reg_setReg_ne _ _ hlinkCnt, State.reg_setReg_self, Nat.zero_mod]

/-! ### The statement -/

/-- Settles O53: the timers and the commands of the neighbour table. -/
theorem toneTable : Obligations.ToneTable := by
  unfold Obligations.ToneTable
  refine ⟨?silent, ?silentDown, ?free, ?freeUp, ?segs, ?noise, ?clear, ?clearNone⟩
  case silent =>
    intro s j hrun hup
    have hflag : s.flag (linkUpF (.tl j)) = true := State.flag_of_one hup
    exact ⟨_, congrArg Host.Outcome.next (State.cm_run hrun _), State.up_linkDown hflag, State.downs_linkDown hflag,
      State.segs_linkDown hflag⟩
  case silentDown =>
    intro s j hup
    exact congrArg Host.Outcome.next (State.cm_same (State.linkDown_down (State.flag_of_zero hup)))
  case free =>
    intro s j hrun hvalid hup
    obtain ⟨hid, hlink, hcnt⟩ := (s.entryDropped j).reg_entryCleared j
    refine ⟨(s.entryDropped j).entryCleared j, congrArg Host.Outcome.next ((State.cm_run hrun _).trans (if_neg ?_)),
      hid, hlink, hcnt, s.nbs_entryDropped j⟩
    rw [hvalid, hup]
    decide
  case freeUp =>
    intro s j hup
    exact congrArg Host.Outcome.next (State.cm_same (if_pos (.inr hup)))
  case segs =>
    intro s j hrun
    exact congrArg Host.Outcome.next (State.cm_run hrun _)
  case noise =>
    intro s d noise h hlen
    refine congrArg Host.Outcome.next ((State.command_ok h).trans ?_)
    rw [padTo_length_eq hlen]
  case clear =>
    intro s d j h hentry
    refine congrArg Host.Outcome.next ((State.command_ok h).trans ?_)
    rw [hentry]
  case clearNone =>
    intro s d h hentry
    refine congrArg Host.Outcome.next ((State.command_ok h).trans ?_)
    rw [hentry]

end Sys2Proof.Machine
end

section
/-! SUPPORT. Access to the mains (R312, R315, R320, R321). -/

namespace Sys2Proof.Machine

theorem State.flag_set_ne (s : State) {f g : Fld} (v : Nat) (h : f.hi < 32)
    (hg : g.off ≠ f.off ∨ g.hi < f.lo ∨ f.hi < g.lo) : (s.set f v).flag g = s.flag g := by
  rw [State.flag, State.get_set_ne s v h hg, State.flag]

/-! ### What the cost of a link leaves of the link's records -/

/-- A neighbour entry without what sending advances, the time of its last cost, and its replay window. -/
def MtlNb.core (n : MtlNb) : MtlNb := { n with nb := { n.nb with txSeq := 0, costAt := none, replay := Replay.reset } }

/-- The mains tone link's records without those, and without what sending advances. -/
def MtlS.core (m : MtlS) : MtlS :=
  { m with nbs := m.nbs.map MtlNb.core, queue := [], number := 0, setNo := 0, refresh := [], whole := [] }

theorem MtlS.core_unsent (m : MtlS) : m.unsent.core = m.core := by
  simp [MtlS.core, MtlS.unsent, Function.comp_def, MtlNb.core, MtlNb.unsent, Neigh.unsent]

section
variable {s t : State}

theorem State.Sent.core (h : s.Sent t) : t.mtl.core = s.mtl.core := by
  rw [← t.mtl.core_unsent, h.mtl, s.mtl.core_unsent]

theorem State.mtl_of_core {α : Type} (h : t.mtl.core = s.mtl.core) (p : MtlS → α) (hp : ∀ m, p m.core = p m) :
    p t.mtl = p s.mtl := by rw [← hp, h, hp]

end

/-- A change of a neighbour that the entry's core does not see. -/
theorem State.core_modNb (s : State) (l : Lnk) {f : Neigh → Neigh}
    (hf : ∀ n : MtlNb, ({ n with nb := f n.nb } : MtlNb).core = n.core) : (s.modNb l f).mtl.core = s.mtl.core := by
  cases l with
  | fp k => rfl
  | tl j =>
    have hnbs := map_set_of_eq s.mtl.nbs j.isLt (f := MtlNb.core)
      (x := { s.mtl.nbs[j] with nb := f s.mtl.nbs[j].nb }) (hf _)
    exact congrArg (fun p => { s.mtl.core with nbs := p }) hnbs

theorem State.core_advertise (s : State) : s.advertise.mtl.core = s.mtl.core := (State.Sent.advertise s).core

theorem State.core_newCost (s : State) (l : Lnk) (c interval : Nat) :
    (s.newCost l c interval).mtl.core = s.mtl.core := by
  unfold State.newCost
  extract_lets old due far u
  refine ite_of (Q := fun t : State => t.mtl.core = s.mtl.core) rfl ?_
  exact u.core_advertise.trans (State.core_modNb _ l (fun _ => rfl))

theorem State.core_toneQuality (s : State) (j : Fin 32) : (s.toneQuality j).mtl.core = s.mtl.core := by
  unfold State.toneQuality
  extract_lets u v
  have hv : v.mtl = s.mtl := by
    dsimp only [v]
    split <;> rfl
  exact (State.core_newCost ..).trans (congrArg MtlS.core hv)

/-- The link's records after an attempt, but for its neighbour's tries. -/
theorem State.mtl_toneTried {α : Type} (s : State) (t : MtlTx) (failed : Bool) (p : MtlS → α)
    (hp : ∀ m, p m.core = p m) (hnbs : ∀ m nbs, p { m with nbs := nbs } = p m) :
    p (s.toneTried t failed).mtl = p s.mtl := by
  unfold State.toneTried
  split
  · rfl
  · exact (State.mtl_of_core (State.core_toneQuality _ _) p hp).trans (hnbs _ _)

/-! ### The countdown (R320) -/

theorem State.nextTone_set (s : State) (f : Fld) (v : Nat) : (s.set f v).nextTone = s.nextTone := rfl

/-- So many slots of the countdown are left. -/
def State.slotsLeft (s : State) (n : Nat) : State := s.modTone (fun m => { m with slots := some n })

section
variable (s : State)

theorem State.toneIdle_setBusy (v : Nat) : (s.set F.MTL_STATUS_BUSY v).toneIdle = s.toneIdle := by
  have hen : (s.set F.MTL_STATUS_BUSY v).flag F.MTL_CFG_EN = s.flag F.MTL_CFG_EN :=
    s.flag_set_ne v (by decide) (by decide)
  have hfault : (s.set F.MTL_STATUS_BUSY v).flag F.MTL_STATUS_DRV_FAULT = s.flag F.MTL_STATUS_DRV_FAULT :=
    s.flag_set_ne v (by decide) (by decide)
  have hlimit : (s.set F.MTL_STATUS_BUSY v).flag F.MTL_STATUS_AIR_LIMIT = s.flag F.MTL_STATUS_AIR_LIMIT :=
    s.flag_set_ne v (by decide) (by decide)
  rw [State.toneIdle, State.driverOn, hen, hfault, hlimit]
  rfl

/-! ### A transmission begins -/

variable (t : MtlTx)

theorem State.mtl_startTone : (s.startTone t).mtl = { s.mtl with
    sending := some t, slots := none, counting := false,
    air := if t.kind = 2 then s.mtl.air else (s.time.now, toneTime (toneWords t.body)) :: s.mtl.air } := by
  unfold State.startTone
  extract_lets head s1 s2 s3 air
  have h : s3.mtl = s.mtl ∧ s3.time = s.time := by
    refine ite_of (Q := fun u : State => u.mtl = s.mtl ∧ u.time = s.time) ⟨rfl, rfl⟩ ⟨rfl, rfl⟩
  obtain ⟨hmtl, htime⟩ := h
  simp only [air, hmtl, htime]
  rw [(State.showAir_keeps _).mtl (by decide), State.modTone, hmtl]

/-- TX and the count of frames of a transmission that begins, before its airtime is shown. -/
theorem State.get_startTone {f : Fld} (hf : f ∈ [F.MTL_STATUS_TX, F.MTL_CNT_TX_FRAMES]) : (s.startTone t).get f =
    ((s.set F.MTL_STATUS_TX 1).count F.MTL_CNT_TX_FRAMES 1).get f := by
  have hair : f.off ≠ F.MTL_STATUS_AIR.off ∨ f.hi < F.MTL_STATUS_AIR.lo ∨ F.MTL_STATUS_AIR.hi < f.lo := by
    revert hf f; decide
  have hretries : f.off ≠ F.MTL_CNT_TX_RETRIES.off ∨ f.hi < F.MTL_CNT_TX_RETRIES.lo ∨ F.MTL_CNT_TX_RETRIES.hi < f.lo
    := by
    revert hf f; decide
  unfold State.startTone
  extract_lets head s1 s2 s3 air
  refine (State.get_set_ne _ (f := F.MTL_STATUS_AIR) _ (by decide) hair).trans ?_
  change s3.get f = s2.get f
  exact ite_of (Q := fun u : State => u.get f = s2.get f) rfl (State.get_set_ne _ _ (by decide) hretries)

theorem State.tx_startTone : (s.startTone t).get F.MTL_STATUS_TX = 1 := by
  rw [s.get_startTone t (by simp)]
  exact (State.get_set_ne _ _ (by decide) (by decide)).trans (State.get_set_of_lt _ (by decide) (by decide))

theorem State.frames_startTone : (s.startTone t).get F.MTL_CNT_TX_FRAMES = sat 16 (s.get F.MTL_CNT_TX_FRAMES + 1) := by
  rw [s.get_startTone t (by simp), State.get_count_self _ _ _ (by decide), State.get_set_ne _ _ (by decide) (by decide)]
  rfl

end

/-- The transmission next in order that fits the airtime begins, and leaves the queue. -/
theorem State.accessTone_begins {s : State} {x : MtlTx} (hnext : s.nextTone = some x)
    (hair : s.airUsed + toneTime (toneWords x.body) ≤ s.get F.MTL_TX_AIR_MAX * 600000) :
    s.accessTone = (s.modTone (fun m => { m with queue := m.queue.erase x })).startTone x := by
  unfold State.accessTone
  rw [hnext]
  exact if_neg (Nat.not_lt.mpr hair)

/-! ### Acknowledgements sent (R321) -/

/-- The fields of an acknowledgement (R317). -/
def ackFields (dest : Half) (number result : Byte) (snr : Int) (erased : Nat) : List Byte :=
  natLE 2 dest.toNat ++ [number, result] ++ natLE 2 (ofSigned 16 snr) ++ natLE 2 (sat 16 erased)

theorem take_ackFields (dest : Half) (number result : Byte) (snr : Int) (erased : Nat) :
    (toneBody (ackFields dest number result snr erased)).take 6 =
    natLE 2 dest.toNat ++ [number, result] ++ natLE 2 (ofSigned 16 snr) := by
  simp [toneBody, ackFields, padTo, natLE]

theorem State.ackSend_eq {s : State} {dest : Half} {number result : Byte} {snr : Int} {erased : Nat}
    (hrun : s.running .cm = true) (hen : s.flag F.MTL_CFG_EN = true)
    (hack : s.mtl.ack = some (dest, number, result, snr, erased)) (hon : s.driverOn = true)
    (hsend : s.mtl.sending = none) : exec .mtlAckSend s =
    .next ((s.modTone (fun m => { m with ack := none, number := s.mtl.number + 1 })).startTone
      ⟨2, 1, dest, s.mtl.number + 1, toneBody (ackFields dest number result snr erased), 0, []⟩) := by
  refine congrArg Host.Outcome.next ((State.tone_run hrun hen _).trans ?_)
  rw [hack]
  exact if_neg (by rw [hon, hsend]; decide)

/-! ### Attempts that fail (R321, R330) -/

/-- Where the plan in force is the one asked for, no link goes down. -/
theorem State.toneSettle_samePlan {s : State} (h : s.mtl.plan = s.get F.MTL_CFG_PLAN) :
    s.toneSettle.mtl.awaiting = s.mtl.awaiting ∧ s.toneSettle.mtl.queue = s.mtl.queue := by
  unfold State.toneSettle
  extract_lets plan old u
  refine ite_of (Q := fun t : State => t.mtl.awaiting = s.mtl.awaiting ∧ t.mtl.queue = s.mtl.queue) ⟨rfl, rfl⟩ ?_
  rw [if_pos h.symm]
  exact ⟨rfl, rfl⟩

/-- Nothing settles while an exchange is under way. -/
theorem State.toneSettle_awaiting {s : State} {x : MtlTx} (h : s.mtl.awaiting = some x) : s.toneSettle = s :=
  if_pos (by rw [h]; simp)

/-- Without a transmission there is none to cut off. -/
theorem State.toneCut_idle {s : State} (h : s.mtl.sending = none) : s.toneCut = s := by
  unfold State.toneCut
  rw [h]

theorem State.awaiting_toneDrop {s : State} (j : Fin 32) (h : s.mtl.awaiting = none) :
    (s.toneDrop (.tl j)).mtl.awaiting = none := by
  simp [State.toneDrop, h]

theorem State.awaiting_linkMarked (s : State) (j : Fin 32) : (s.linkMarked (.tl j)).mtl.awaiting = s.mtl.awaiting := by
  unfold State.linkMarked
  extract_lets v u
  split <;> rfl

/-- A link that goes down discards what awaits an acknowledgement, and puts nothing in its place. -/
theorem State.awaiting_linkDown {s : State} (j : Fin 32) (h : s.mtl.awaiting = none) :
    (s.linkDown (.tl j)).mtl.awaiting = none := by
  by_cases hup : s.flag (linkUpF (.tl j)) = true
  · rw [State.linkDown_eq hup, (State.Sent.advertise _).mtl_eq MtlS.awaiting (fun _ => rfl)]
    change ((((s.linkMarked (.tl j)).toneDrop (.tl j)).raise _).mtl).awaiting = none
    rw [(State.raise_keeps _ _).mtl (by decide)]
    exact State.awaiting_toneDrop j ((s.awaiting_linkMarked j).trans h)
  · rw [State.linkDown_down (Bool.eq_false_of_not_eq_true hup), h]

theorem State.awaiting_toneSettle {s : State} (h : s.mtl.awaiting = none) : s.toneSettle.mtl.awaiting = none := by
  unfold State.toneSettle
  extract_lets plan old u
  refine ite_of (Q := fun t : State => t.mtl.awaiting = none) h ?_
  refine ite_of (Q := fun t : State => t.mtl.awaiting = none) h ?_
  exact foldl_of (Q := fun t : State => t.mtl.awaiting = none) h (fun t j _ ht => State.awaiting_linkDown j ht)

/-- Nothing awaits an acknowledgement after its time. -/
theorem State.ackTimeout_eq {s : State} {x : MtlTx} (hrun : s.running .cm = true) (hen : s.flag F.MTL_CFG_EN = true)
    (hwait : s.mtl.awaiting = some x) : exec .mtlAckTimeout s =
    .next ((s.modTone (fun m => { m with awaiting := none })).toneFail x).toneSettle := by
  refine congrArg Host.Outcome.next ((State.tone_run hrun hen _).trans ?_)
  rw [hwait]

/-- A failed attempt leaves nothing awaiting that did not await before, and the plan. -/
theorem State.mtl_toneFailed (s : State) (t : MtlTx) (failed : Bool) :
    (s.toneTried t failed).mtl.awaiting = s.mtl.awaiting ∧ (s.toneTried t failed).mtl.plan = s.mtl.plan :=
  ⟨s.mtl_toneTried t failed MtlS.awaiting (fun _ => rfl) (fun _ _ => rfl),
    s.mtl_toneTried t failed MtlS.plan (fun _ => rfl) (fun _ _ => rfl)⟩

/-- What failed is sent again while it has attempts left. -/
theorem State.toneFail_again {s : State} {x : MtlTx} (h : x.tries + 1 < s.get F.MTL_CFG_MAX_TRY) : s.toneFail x =
    (s.toneTried { x with tries := x.tries + 1 } true).modTone
      (fun m => { m with queue := m.queue ++ [{ x with tries := x.tries + 1 }] }) := by
  unfold State.toneFail
  extract_lets t u v
  have hu : u.get F.MTL_CFG_MAX_TRY = s.get F.MTL_CFG_MAX_TRY := (State.toneTried_keeps _ _ _).get _ (by decide)
  exact if_pos (hu ▸ h)

/-- The link's count of discards is apart from those of its neighbours. -/
theorem arqOff_ne (j : Fin 32) : R.MTL_CNT_ARQ ≠ R.MTL_NB_CNT j.val := by revert j; decide

/-- What has had its attempts is discarded and counted. -/
theorem State.toneFail_exhausted {s : State} {x : MtlTx} (h : s.get F.MTL_CFG_MAX_TRY ≤ x.tries + 1) :
    (s.toneFail x).mtl.awaiting = s.mtl.awaiting ∧
    (s.toneFail x).get F.MTL_CNT_ARQ_EXHAUSTED = sat 16 (s.get F.MTL_CNT_ARQ_EXHAUSTED + 1) := by
  unfold State.toneFail
  extract_lets t u v
  have hu : Keeps _ _ s u := State.toneTried_keeps s t true
  have hmax : ¬(t.tries < u.get F.MTL_CFG_MAX_TRY) := by
    rw [hu.get _ (by decide)]
    exact Nat.not_lt.mpr h
  have hv : v.mtl.awaiting = s.mtl.awaiting := (s.mtl_toneFailed t true).1
  have hcount : v.get F.MTL_CNT_ARQ_EXHAUSTED = sat 16 (s.get F.MTL_CNT_ARQ_EXHAUSTED + 1) := by
    rw [State.get_count_self _ _ _ (by decide), hu.get _ (by decide)]
    rfl
  rw [if_neg hmax]
  split
  · refine ⟨(congrArg MtlS.awaiting ((State.raise_keeps _ _).mtl (by decide))).trans hv, ?_⟩
    exact ((State.raise_keeps _ _).get _ (by decide)).trans
      ((State.get_set_ne _ _ (show 15 < 32 by decide) (.inl (arqOff_ne _))).trans hcount)
  · exact ⟨(congrArg MtlS.awaiting ((State.raise_keeps _ _).mtl (by decide))).trans hv,
      ((State.raise_keeps _ _).get _ (by decide)).trans hcount⟩

/-! ### The statement -/

/-- Settles O51: the countdown, the transmissions and the attempts, one lemma per change of the medium. -/
theorem toneMedium : Obligations.ToneMedium := by
  unfold Obligations.ToneMedium
  refine ⟨?busy, ?busyOff, ?idle, ?idleNone, ?slot, ?begins, ?slotNot, ?limit, ?ack, ?ackNone, ?ended, ?endNone, ?cut,
    ?cutNone, ?again, ?exhausted, ?fault, ?resume⟩
  case busy =>
    intro s hrun hen
    exact congrArg Host.Outcome.next (State.tone_run hrun hen _)
  case busyOff =>
    intro s hen
    exact congrArg Host.Outcome.next (State.cm_same (if_neg (ne_true_of_eq_false hen)))
  case idle =>
    intro s draw x hrun hen hidle hnext hslots hdraw
    refine congrArg Host.Outcome.next ((State.tone_run hrun hen _).trans ((if_neg ?_).trans ?_))
    · rw [State.toneIdle_setBusy, hidle]
      decide
    · rw [State.nextTone_set, hnext]
      dsimp only
      rw [State.set_mtl, hslots]
      exact if_neg hdraw
  case idleNone =>
    intro s draw hrun hen hnext
    refine congrArg Host.Outcome.next ((State.tone_run hrun hen _).trans ?_)
    dsimp only
    rw [State.nextTone_set, hnext]
    exact ite_self _
  case slot =>
    intro s r hrun hen hcounting hslots hr
    refine congrArg Host.Outcome.next ((State.tone_run hrun hen _).trans ?_)
    rw [hcounting, hslots]
    exact if_neg (fun h => by omega)
  case begins =>
    intro s x hrun hen hcounting hslots hidle hnext hair
    have hrun' : exec .mtlBackoffSlot s =
        .next (((s.slotsLeft 0).modTone (fun m => { m with queue := m.queue.erase x })).startTone x) := by
      refine congrArg Host.Outcome.next ((State.tone_run hrun hen _).trans ?_)
      rw [hcounting, hslots]
      exact (if_pos ⟨rfl, hidle⟩).trans (State.accessTone_begins (s := s.slotsLeft 0) hnext hair)
    refine ⟨_, hrun', ?_, ?_, State.tx_startTone _ _, State.frames_startTone _ _⟩
    all_goals rw [State.mtl_startTone]
    all_goals rfl
  case slotNot =>
    intro s hcounting
    refine congrArg Host.Outcome.next (State.tone_same ?_)
    rw [hcounting]
  case limit =>
    intro s hrun hen hair
    exact congrArg Host.Outcome.next ((State.tone_run hrun hen _).trans (if_pos hair))
  case ack =>
    intro s dest number result snr erased hrun hen hack hon hsend
    refine ⟨_, State.ackSend_eq hrun hen hack hon hsend, ?_, ⟨_, ?_, take_ackFields dest number result snr erased⟩, ?_⟩
    all_goals rw [State.mtl_startTone]
    all_goals rfl
  case ackNone =>
    intro s hack
    refine congrArg Host.Outcome.next (State.tone_same ?_)
    rw [hack]
  case ended =>
    intro s x hrun hen hsend hkind
    refine congrArg Host.Outcome.next ((State.tone_run hrun hen _).trans ?_)
    rw [hsend]
    simp only [if_pos hkind]
    exact State.toneSettle_awaiting rfl
  case endNone =>
    intro s hsend
    refine congrArg Host.Outcome.next (State.tone_same ?_)
    rw [hsend]
  case cut =>
    intro s x hrun hen hsend hkind
    refine congrArg Host.Outcome.next ((State.tone_run hrun hen _).trans ?_)
    unfold State.toneCut
    rw [hsend]
    exact congrArg State.toneSettle (if_neg hkind)
  case cutNone =>
    intro s hsend
    refine congrArg Host.Outcome.next (State.tone_same ?_)
    unfold State.toneCut
    rw [hsend]
  case again =>
    intro s x hrun hen hwait htries hplan
    let u := s.modTone (fun m => { m with awaiting := none })
    obtain ⟨hawaiting, hplan'⟩ := u.mtl_toneFailed { x with tries := x.tries + 1 } true
    have hcfg : (u.toneTried { x with tries := x.tries + 1 } true).get F.MTL_CFG_PLAN = s.get F.MTL_CFG_PLAN :=
      (State.toneTried_keeps _ _ _).get _ (by decide)
    have hsettle := State.toneSettle_samePlan (s := u.toneFail x) (by
      rw [State.toneFail_again (s := u) htries]
      exact hplan'.trans (hplan.trans hcfg.symm))
    refine ⟨_, State.ackTimeout_eq hrun hen hwait, hsettle.1.trans ?_,
      (u.toneTried { x with tries := x.tries + 1 } true).mtl.queue, hsettle.2.trans ?_⟩
    all_goals rw [State.toneFail_again (s := u) htries]
    · exact hawaiting
    · rfl
  case exhausted =>
    intro s x hrun hen hwait htries
    obtain ⟨hawaiting, hcount⟩ :=
      State.toneFail_exhausted (s := s.modTone (fun m => { m with awaiting := none })) (x := x) htries
    exact ⟨_, State.ackTimeout_eq hrun hen hwait, State.awaiting_toneSettle hawaiting,
      ((State.toneSettle_keeps _).get _ (by decide)).trans hcount⟩
  case fault =>
    intro s hrun hen hsend
    refine congrArg Host.Outcome.next ((State.tone_run hrun hen _).trans (State.toneCut_idle ?_))
    rw [(State.raise_keeps _ _).mtl (by decide)]
    exact hsend
  case resume =>
    intro s hrun
    exact congrArg Host.Outcome.next (State.cm_run hrun _)

end Sys2Proof.Machine
end

section
/-! SUPPORT. Frames of the mains tone link (R319 to R329): a beacon's identity is read least significant byte first
(R11, R317), as every integer field of a frame. -/

namespace Sys2Proof.Machine

/-- A module on the mains tone link with the neighbour 0x0102 in entry 3, and a fabric key in slot 5. -/
def beaconHearer : State :=
  let s := (State.reset.set F.MG_ISLAND_STATE_STATE 0).set F.MTL_CFG_EN 1
  let s := (s.set (F.MTL_NB_ID_VALID 3) 1).set (F.MTL_NB_ID_ADDR 3) 0x0102
  { s.set F.FAB_KEY_CFG_LINK_SLOT 5 with
    key := { s.key with slots := [⟨5, .valid, 1, 9, 8192, none, false, 0, 1, zeros 32, []⟩] } }

/-- The fields of a beacon of identity 9 under counter 1, which hears nobody and wants nothing (R317). -/
def beaconOfNine : List Byte := natLE 2 0xFFFF ++ natLE 6 9 ++ natLE 4 1 ++ [1, 0, 0]

/-- The header of a beacon of one or more codewords from the neighbour 0x0102. -/
def beaconHead (body : List Byte) : List Byte := natLE 1 (48 + (toneWords body - 1)) ++ natLE 2 0x0102 ++ [7]

/-- The tag of the beacon under the hearer's segment key (R325). -/
def beaconTag : List Byte :=
  let key := (beaconHearer.segmentKey (beaconHearer.get F.FAB_KEY_EPOCH_EPOCH)).map Prod.fst
  (hmac256 (key.getD []) (beaconHead (toneBody (beaconOfNine ++ zeros 16)) ++ beaconOfNine)).take 16

/-- That beacon as it arrives, without errors. -/
def beaconFrame : MtlRx :=
  let b := toneBody (beaconOfNine ++ beaconTag)
  ⟨beaconHead b, b ++ natLE 4 (crc32 (beaconHead b ++ b)), (0, 0), List.replicate (toneWords b) (0, 0), 40⟩

/-- The identity that an outcome shows of entry 3. -/
def identOfThree (o : Host.Outcome State Fault Refusal) : BitVec 48 :=
  match o with
  | .next t => t.mtl.nbs[(3 : Fin 32)].nb.ident
  | _ => 0

/-- The frame decodes, comes from the neighbour of entry 3, and carries a good tag. -/
theorem beaconFrame_decodes : beaconFrame.decodes = true ∧ beaconFrame.sender ≠ 0 ∧ beaconFrame.sender ≠ 0xFFFF ∧
    beaconHearer.toneEntry beaconFrame.sender = some 3 ∧ beaconFrame.kind = 3 := by decide +kernel

theorem beaconFrame_tagged : beaconHearer.toneTagOk beaconFrame 15 = some true := by decide +kernel

/-- The model takes the identity 9 from it, not its bytes in reverse. -/
theorem beaconFrame_ident : identOfThree (exec (.mtlBeacon beaconFrame) beaconHearer) = 9 := by decide +kernel

theorem beaconFrame_reverse : BitVec.ofNat 48 (beNat (slice beaconFrame.body 2 6)) ≠ 9 := by decide +kernel

/-- Refutes O52: its clause on beacons reads the identity most significant byte first. The model reads it as R11 has
it, least significant byte first: it takes 9 from a beacon of identity 9, and the clause asks for 9 · 2⁴⁰. -/
theorem not_toneFrames : ¬ Obligations.ToneFrames := by
  unfold Obligations.ToneFrames
  rintro ⟨-, -, -, -, -, -, hbeacon, -⟩
  obtain ⟨hdecodes, hzero, hall, hentry, hkind⟩ := beaconFrame_decodes
  obtain ⟨t, hexec, -, hident, -⟩ := hbeacon beaconHearer beaconFrame 3 15 (by decide +kernel) (by decide +kernel)
    hdecodes hzero hall hentry hkind (by decide +kernel) (by decide +kernel) beaconFrame_tagged (by decide +kernel)
  have hnine := beaconFrame_ident
  rw [hexec] at hnine
  exact beaconFrame_reverse (hident.symm.trans hnine)

end Sys2Proof.Machine
end

section
/-! SUPPORT. Key slots (R335 to R346, R349). -/

namespace Sys2Proof.Machine

/-- Settles O54: the three commands on slots by their checks in order, and the two ends of a use. -/
theorem keySlots : Obligations.KeySlots := by
  unfold Obligations.KeySlots
  refine ⟨?write, ?writeLost, ?writeScalar, ?derive_, ?destroy, ?use, ?useFault⟩
  case write =>
    intro s d h hfill htype hzero
    refine congrArg Host.Outcome.next ((State.command_ok h).trans ((if_neg (ne_false_of_eq_true hfill)).trans ?_))
    exact (if_neg (fun hscalar => absurd htype (Nat.not_lt.mpr hscalar.1))).trans (if_neg (ne_true_of_eq_false hzero))
  case writeLost =>
    intro s d h hfill htype hzero
    refine congrArg Host.Outcome.next ((State.command_ok h).trans ((if_neg (ne_false_of_eq_true hfill)).trans ?_))
    exact (if_neg (fun hscalar => absurd htype (Nat.not_lt.mpr hscalar.1))).trans (if_pos hzero)
  case writeScalar =>
    intro s d h hfill htype hscalar
    refine congrArg Host.Outcome.next ((State.command_ok h).trans ((if_neg (ne_false_of_eq_true hfill)).trans ?_))
    exact if_pos ⟨htype, .inl hscalar⟩
  case derive_ =>
    intro s d p h hfill hslot hvalid htype huse hdepth hother hlabel hzero
    refine congrArg Host.Outcome.next ((State.command_ok h).trans ((if_neg (ne_false_of_eq_true hfill)).trans ?_))
    rw [hslot]
    refine (if_neg ?_).trans ((if_neg hlabel).trans (if_neg (ne_true_of_eq_false hzero)))
    simp [hvalid, htype, huse, hother, Nat.not_le.mpr hdepth]
  case destroy =>
    intro s d k h hslot hvalid hmode
    refine congrArg Host.Outcome.next ((State.command_ok h).trans ?_)
    dsimp only
    rw [hslot]
    refine if_neg ?_
    rintro (hbad | ⟨hparent, hdesc⟩)
    · exact ne_false_of_eq_true hvalid hbad
    · obtain hone | hnone := hmode
      · exact ne_false_of_eq_true (State.flag_of_one hone) hparent
      · exact hdesc hnone
  case use =>
    intro s r slot use rebuildOk k huse
    change execKeyUseRequest r slot use true rebuildOk s = _
    unfold execKeyUseRequest
    rw [huse]
    rfl
  case useFault =>
    intro s r slot use rebuildOk k huse hgeneral
    change execKeyUseRequest r slot use false rebuildOk s = _
    unfold execKeyUseRequest
    rw [huse]
    exact (if_neg Bool.false_ne_true).trans (if_neg (Nat.not_lt.mpr hgeneral))

end Sys2Proof.Machine
end

section
/-! SUPPORT. Evidence of KS, tamper inputs, seal and debug port (R347 to R362). -/

namespace Sys2Proof.Machine

/-! ### Tamper inputs (R347) -/

/-- The level that an input shows is no part of what decides whether it acts. -/
theorem State.tamperLevel_apart (s : State) (n : Fin 4) (b : Bool) :
    (s.setBit F.KEY_TMP_STAT_LEVEL n.val b).running .ks = s.running .ks ∧
    (s.setBit F.KEY_TMP_STAT_LEVEL n.val b).bit F.KEY_TMP_CFG_EN n.val = s.bit F.KEY_TMP_CFG_EN n.val :=
  ⟨s.running_set _ _ (by decide) (by decide),
    congrArg (Nat.testBit · n.val) (State.get_set_ne s (f := F.KEY_TMP_STAT_LEVEL) _ (by decide) (by decide))⟩

/-! ### The statement -/

/-- Settles O55: what the two statements are written from, and what tamper inputs, seal and debug port act on. -/
theorem keyEvidence : Obligations.KeyEvidence := by
  unfold Obligations.KeyEvidence
  refine ⟨?statement, ?attest, ?tamper, ?tamperOff, ?tamperBack, ?opens, ?closes, ?debug, ?debugSealed⟩
  case statement =>
    intro s d k body h hslot hvalid htype hbody
    subst hbody
    refine congrArg Host.Outcome.next ((State.command_ok h).trans ?_)
    dsimp only
    rw [hslot]
    refine if_neg ?_
    rw [hvalid]
    simpa using htype
  case attest =>
    intro s d k body h huse htype hbody
    subst hbody
    refine congrArg Host.Outcome.next ((State.command_ok h).trans ?_)
    dsimp only
    rw [huse]
    exact if_neg (not_not_intro htype)
  case tamper =>
    intro s n hrun hen hspent
    obtain ⟨hrun', hen'⟩ := s.tamperLevel_apart n true
    refine if_neg ?_
    rintro (hdown | hoff | hdone)
    · exact ne_false_of_eq_true (hrun'.trans hrun) hdown
    · exact ne_false_of_eq_true (hen'.trans hen) hoff
    · exact ne_true_of_eq_false hspent hdone
  case tamperOff =>
    intro s n hen
    obtain ⟨-, hen'⟩ := s.tamperLevel_apart n true
    exact if_pos (.inr (.inl (hen'.trans hen)))
  case tamperBack =>
    intro s n
    rfl
  case opens =>
    intro s hseal
    exact if_neg (by rw [hseal]; decide)
  case closes =>
    intro s hseal
    exact if_neg (by rw [hseal]; decide)
  case debug =>
    intro s d h hkill hseal
    refine congrArg Host.Outcome.next ((State.command_ok h).trans ?_)
    have hpass : (!(d.n 24 1 == 1) || s.sealOpen) = true := by
      obtain hopen | hclose := hseal
      · rw [hopen, Bool.or_true]
      · rw [hclose]; rfl
    have hnone : firstFail [(!(s.flag F.KEY_LIFE_DEBUG_KILL), 0x0005, 0), (!(d.n 24 1 == 1) || s.sealOpen, 0x0004, 0)] =
        none := firstFail_none (by simp only [State.flag_of_zero hkill, hpass]; decide)
    dsimp only
    rw [hnone]
  case debugSealed =>
    intro s d h hkill hseal hopen
    refine congrArg Host.Outcome.next ((State.command_ok h).trans ?_)
    have hfail : firstFail [(!(s.flag F.KEY_LIFE_DEBUG_KILL), 0x0005, 0), (!(d.n 24 1 == 1) || s.sealOpen, 0x0004, 0)] =
        some (0x0004, 0) := by simp only [State.flag_of_zero hkill, hopen, hseal]; rfl
    dsimp only
    rw [hfail]

end Sys2Proof.Machine
end

section
/-! SUPPORT. The limited changes of KS (R345, R358 to R362). -/

namespace Sys2Proof.Machine

/-! ### The checks of a limited change -/

section
variable {s : State} {f : Fld}

theorem State.limitedChecks_pass (hseal : s.sealOpen = true) (hleft : 0 < s.get f) (hlog : s.logRefusing = false) :
    firstFail (s.limitedChecks f) = none := firstFail_none (by simp [State.limitedChecks, hseal, hleft, hlog])

theorem State.limitedChecks_spent (hseal : s.sealOpen = true) (hleft : s.get f = 0) :
    firstFail (s.limitedChecks f) = some (0x0005, 0) := by simp [firstFail, State.limitedChecks, hseal, hleft]

end

/-! ### Destruction modes (R345) -/

/-- The destruction modes in force, as command 0x0708 names them. -/
def State.destructionModes (s : State) : Nat :=
  (s.flag F.KEY_LIFE_DESTROY_PARENT).toNat + 2 * (s.flag F.KEY_LIFE_DESTROY_TAMPER).toNat

/-- Modes that leave out PARENT, where it is in force, take a mode away. -/
theorem destructionModes_removed {old new : Nat} (hold : old.testBit 0 = true) (hnew : new.testBit 0 = false) :
    old - (old &&& new) ≠ 0 := by
  intro hzero
  have hsame : old &&& new = old := Nat.le_antisymm Nat.and_le_left (Nat.le_of_sub_eq_zero hzero)
  have hbit : (old &&& new).testBit 0 = false := by rw [Nat.testBit_and, hnew, Bool.and_false]
  rw [hsame, hold] at hbit
  exact Bool.noConfusion hbit

theorem State.destructionModes_parent {s : State} (h : s.get F.KEY_LIFE_DESTROY_PARENT = 1) :
    s.destructionModes.testBit 0 = true := by
  rw [State.destructionModes, State.flag_of_one h]
  cases s.flag F.KEY_LIFE_DESTROY_TAMPER <;> rfl

theorem State.destructionModes_none {s : State} (hparent : s.get F.KEY_LIFE_DESTROY_PARENT = 0)
    (htamper : s.get F.KEY_LIFE_DESTROY_TAMPER = 0) : s.destructionModes = 0 := by
  rw [State.destructionModes, State.flag_of_zero hparent, State.flag_of_zero htamper]
  rfl

/-! ### The integrator's key (R361) -/

/-- An entry of the legal log and an event keep what the entry keeps. -/
theorem State.log_raise_keeps (s : State) (e : LogE) (v : Ev) :
    Keeps 98576 0x800000000000000000000000000080000000000000000000018088800000 s ((s.log e).raise v) :=
  (State.raise_keeps _ v).app (by decide) (by decide) (s.log_keeps e)

/-- The key enrolled with so many changes left: its hash kept, its index shown, logged, and EV123. -/
def State.keyEnrolled (s : State) (d : Desc) (h : List Byte) (left : Nat) : State :=
  let payload := h.take 16 ++ natLE 1 (4 - left) ++ natLE 1 left
  let s := ({ s with key := { s.key with hashes := h :: s.key.hashes } } : State).set F.KEY_INTEG_INDEX (4 - left)
  (s.log { type_ := 0x0032, src := d.logSrc, sub := 5, payload := payload }).raise { src := 123 }

section
variable (s : State) (d : Desc) (h : List Byte) (left : Nat)

theorem State.hashes_keyEnrolled : (s.keyEnrolled d h left).key.hashes = h :: s.key.hashes :=
  congrArg KeyS.hashes (((State.raise_keeps _ _).key (by decide)).trans ((State.log_keeps _ _).key (by decide)))

/-- What is logged and raised writes no register of the key. -/
theorem State.get_keyEnrolled {f : Fld}
    (hrow : (0x800000000000000000000000000080000000000000000000018088800000 : Nat).testBit (rowOf f.off) = false) :
    (s.keyEnrolled d h left).get f = (s.set F.KEY_INTEG_INDEX (4 - left)).get f :=
  (State.log_raise_keeps _ _ _).get f hrow

theorem State.results_keyEnrolled : (s.keyEnrolled d h left).host.results = s.host.results :=
  (State.results_raise _ _).trans (State.results_log _ _)

end

/-! ### The statement -/

theorem State.identity_setLeft (s : State) (v : Nat) : (s.set F.KEY_CHG_LEFT_IDENT v).identity = s.identity :=
  s.identity_set v (by decide) (by decide)

/-- Settles O56: each change by its checks, the fuse it blows, and its effect. -/
theorem limitedChanges : Obligations.LimitedChanges := by
  unfold Obligations.LimitedChanges
  refine ⟨?ident, ?identSealed, ?enrol, ?kill, ?killSpent, ?modes, ?modesRemoved⟩
  case ident =>
    intro s d h hseal hlog hsupply hfuses hleft hrest
    have hpass : firstFail (s.limitedChecks F.KEY_CHG_LEFT_IDENT ++ [(s.noTransfer, 0x0007, 5)]) = none :=
      firstFail_none (by simp [State.limitedChecks, hseal, hlog, hleft, hrest])
    refine congrArg Host.Outcome.next ((State.command_ok h).trans ?_)
    dsimp only
    rw [hpass]
    dsimp only
    rw [State.limited_ok d _ hsupply hfuses hleft]
    rw [s.identity_setLeft, State.get_fuse s (f := F.KEY_CHG_LEFT_IDENT) (by decide)]
  case identSealed =>
    intro s d h hseal
    have hfail : firstFail (s.limitedChecks F.KEY_CHG_LEFT_IDENT ++ [(s.noTransfer, 0x0007, 5)]) = some (0x0004,
      0) := by
      simp [firstFail, State.limitedChecks, hseal]
    refine congrArg Host.Outcome.next ((State.command_ok h).trans ?_)
    dsimp only
    rw [hfail]
  case enrol =>
    intro s d h hseal hlog hsupply hfuses hleft
    let u := s.set F.KEY_CHG_LEFT_INTEG (s.get F.KEY_CHG_LEFT_INTEG - 1)
    have hu : u.get F.KEY_CHG_LEFT_INTEG = s.get F.KEY_CHG_LEFT_INTEG - 1 := State.get_fuse s (by decide)
    have hrun : exec (.enrolIntegratorKey d) s = .next ((u.keyEnrolled d (padTo 48 (Config.sha384 (s.staged d)))
        (s.get F.KEY_CHG_LEFT_INTEG - 1)).ok d
        (natLE 1 (4 - (s.get F.KEY_CHG_LEFT_INTEG - 1)) ++ natLE 1 (s.get F.KEY_CHG_LEFT_INTEG - 1))) := by
      refine congrArg Host.Outcome.next ((State.command_ok h).trans ?_)
      dsimp only
      rw [State.limitedChecks_pass hseal hleft hlog]
      dsimp only
      rw [State.limited_ok d _ hsupply hfuses hleft]
      rw [State.get_fuse s (f := F.KEY_CHG_LEFT_INTEG) (by decide)]
      rfl
    refine ⟨_, hrun, State.hashes_keyEnrolled .., ?_, ?_, ?_⟩
    · exact (State.get_keyEnrolled _ _ _ _ (by decide)).trans
        ((State.get_set_ne _ _ (by decide) (by decide)).trans hu)
    · exact (State.get_keyEnrolled _ _ _ _ (by decide)).trans
        (State.get_set_of_lt _ (by decide) ((Nat.sub_le _ _).trans_lt (by decide)))
    · exact congrArg (· ++ [_]) (State.results_keyEnrolled ..)
  case kill =>
    intro s d h hseal hlog hsupply hfuses hleft
    refine congrArg Host.Outcome.next ((State.command_ok h).trans ?_)
    dsimp only
    rw [State.limitedChecks_pass hseal hleft hlog]
    exact State.limited_ok d _ hsupply hfuses hleft
  case killSpent =>
    intro s d h hseal hleft
    refine congrArg Host.Outcome.next ((State.command_ok h).trans ?_)
    dsimp only
    rw [State.limitedChecks_spent hseal hleft]
  case modes =>
    intro s d h hparent htamper hnew hseal hlog hsupply
    have hold : s.destructionModes = 0 := State.destructionModes_none hparent htamper
    have hpass : firstFail [(s.sealOpen, 0x0004, 0), (!s.logRefusing, 0x0006, 0)] = none :=
      firstFail_none (by simp [hseal, hlog])
    refine congrArg Host.Outcome.next ((State.command_ok h).trans ?_)
    refine (if_neg ?_).trans ?_
    · change ¬(s.destructionModes - (s.destructionModes &&& d.n 24 1) ≠ 0)
      rw [hold, Nat.zero_sub]
      exact not_not_intro rfl
    · rw [hpass]
      refine (if_neg (fun hsame => hnew (hsame.trans hold))).trans ((if_neg (not_not_intro hsupply)).trans ?_)
      rw [show (s.flag F.KEY_LIFE_DESTROY_PARENT).toNat + 2 * (s.flag F.KEY_LIFE_DESTROY_TAMPER).toNat = 0 from hold]
  case modesRemoved =>
    intro s d h hparent hnew
    exact congrArg Host.Outcome.next ((State.command_ok h).trans
      (if_pos (destructionModes_removed (State.destructionModes_parent hparent) hnew)))

end Sys2Proof.Machine
end

section
/-! SUPPORT. Display power, its faults and timers (R367 to R375, R381). -/

namespace Sys2Proof.Machine

/-! ### A write of LDP_CTRL (R369, R381) -/

theorem registerAt_LDP_CTRL : RegisterAt R.LDP_CTRL
    ⟨0xB0000, 0x0, 1, .vl, 0x04001440, [⟨31, 31, .rw⟩, ⟨30, 24, .rw⟩, ⟨14, 8, .rw⟩, ⟨7, 4, .rw⟩]⟩ := by decide

/-- DIV, COM_PER and LEG_DWELL of a value within their ranges. -/
structure LdpCtrlInRange (v : Nat) : Prop where
  div : 4 ≤ bitsOf v 30 24 ∧ bitsOf v 30 24 ≤ 99
  com : 1 ≤ bitsOf v 14 8 ∧ bitsOf v 14 8 ≤ 100
  dwell : 2 ≤ bitsOf v 7 4 ∧ bitsOf v 7 4 ≤ 10

/-- The fields of LDP_CTRL taken, and what DISCH records ended. -/
def State.ldpCtrlTaken (s : State) (v en : Nat) : State :=
  ((((s.set F.LDP_CTRL_EN en).set F.LDP_CTRL_DIV (bitsOf v 30 24)).set F.LDP_CTRL_COM_PER (bitsOf v 14 8)).set
    F.LDP_CTRL_LEG_DWELL (bitsOf v 7 4)).set F.LDP_STATUS_DISCH 0

theorem bitsOf_putEn (v en : Nat) : bitsOf (putBits v 31 31 en) 30 24 = bitsOf v 30 24 ∧
    bitsOf (putBits v 31 31 en) 14 8 = bitsOf v 14 8 ∧ bitsOf (putBits v 31 31 en) 7 4 = bitsOf v 7 4 :=
  ⟨bitsOf_putBits_apart (by decide), bitsOf_putBits_apart (by decide), bitsOf_putBits_apart (by decide)⟩

theorem State.writeLdpCtrl_taken (s : State) {v en : Nat} (h : LdpCtrlInRange v) (hen : en < 2) :
    s.writeLdpCtrl (putBits v 31 31 en) = (s.ldpCtrlTaken v en).displayEn (en == 1) := by
  obtain ⟨⟨hdivLow, hdivHigh⟩, ⟨hcomLow, hcomHigh⟩, hdwellLow, hdwellHigh⟩ := h
  obtain ⟨hdiv, hcom, hdwell⟩ := bitsOf_putEn v en
  unfold State.writeLdpCtrl
  rw [hdiv, hcom, hdwell, bitsOf_putBits_of_lt hen]
  exact if_neg (by omega)

theorem State.writeLdpCtrl_discarded (s : State) {v : Nat} (en : Nat) (h : bitsOf v 30 24 < 4 ∨ 99 < bitsOf v 30 24) :
    s.writeLdpCtrl (putBits v 31 31 en) = s.raise { src := 0 } := by
  unfold State.writeLdpCtrl
  rw [(bitsOf_putEn v en).1]
  refine if_pos ?_
  obtain hlow | hhigh := h
  · exact .inl hlow
  · exact .inr (.inl hhigh)

/-- The fields of LDP_CTRL are no part of what shows that VFIELD is missing. -/
theorem State.uvOff_ldpCtrlTaken (s : State) (v en : Nat) :
    (s.ldpCtrlTaken v en).flag F.LSW_STATUS_UV_OFF = s.flag F.LSW_STATUS_UV_OFF := by
  unfold State.ldpCtrlTaken
  rw [State.flag_set_ne _ _ (by decide) (by decide), State.flag_set_ne _ _ (by decide) (by decide),
    State.flag_set_ne _ _ (by decide) (by decide), State.flag_set_ne _ _ (by decide) (by decide),
    State.flag_set_ne _ _ (by decide) (by decide)]

section
variable {s : State}

theorem State.displayEn_on (hseq : s.ldp.seq = none) (hdis : s.ldp.discharging = false)
    (hfield : s.flag F.LSW_STATUS_UV_OFF = false) : s.displayEn true = s.railsOn := by
  unfold State.displayEn
  rw [hseq, hdis, hfield]
  rfl

theorem State.displayEn_waits (hfield : s.flag F.LSW_STATUS_UV_OFF = true) :
    s.displayEn true = s.modLdp (fun x => { x with enNext := some true }) := by
  unfold State.displayEn
  exact if_pos (by rw [hfield]; simp)

theorem State.displayEn_off (hseq : s.ldp.seq = none) (hdis : s.ldp.discharging = false) :
    s.displayEn false = (s.modLdp (fun x => { x with enNext := none })).railsOff := by
  unfold State.displayEn
  rw [hseq, hdis]
  rfl

end

/-! ### The end of a fast discharge (R370) -/

theorem State.running_dropPass (s : State) (i : Isl) : s.dropPass.running i = s.running i :=
  (State.running_set _ _ _ (by decide) (by decide)).trans (State.running_set _ _ _ (by decide) (by decide))

/-- The panel white and the rails off do not stop an island. -/
theorem State.running_discharged (s : State) (i : Isl) :
    ((s.dropPass.panelWhite.set F.LDP_STATUS_RAIL 0).set F.LDP_STATUS_DISCH 1).running i = s.running i :=
  (State.running_set _ _ _ (by decide) (by decide)).trans
    ((State.running_set _ _ _ (by decide) (by decide)).trans (s.running_dropPass i))

/-! ### The trim (R374) -/

theorem State.vcomTrim_moves {s : State} {next : Int} (hrun : s.running .vl = true) (hrail : s.rail = 2)
    (hnext : (if toSigned 16 (s.get F.LDP_VCOM_NOW_TRIM) < s.targetTrim then toSigned 16 (s.get F.LDP_VCOM_NOW_TRIM) + 1
      else if s.targetTrim < toSigned 16 (s.get F.LDP_VCOM_NOW_TRIM) then toSigned 16 (s.get F.LDP_VCOM_NOW_TRIM) - 1
      else toSigned 16 (s.get F.LDP_VCOM_NOW_TRIM)) = next)
    (hmoves : next ≠ toSigned 16 (s.get F.LDP_VCOM_NOW_TRIM)) : exec .vcomTrimUpdate s =
    .next (((s.set F.LDP_VCOM_NOW_TRIM (ofSigned 16 next)).raise { src := 128 }).storeStress) := by
  subst hnext
  refine congrArg Host.Outcome.next ((if_neg (ne_false_of_eq_true hrun)).trans ((if_neg
    (not_not_intro hrail)).trans ?_))
  exact congrArg State.storeStress (if_neg hmoves)

/-! ### The statement -/

/-- Settles O57: a write of LDP_CTRL through its fields; the rest is the branch that each clause names. -/
theorem displayPower : Obligations.DisplayPower := by
  unfold Obligations.DisplayPower
  refine ⟨?on, ?onWaits, ?off, ?discarded, ?stepOn, ?stepOff, ?panel, ?rail, ?discharged, ?stress, ?trimUp, ?trimDown,
    ?page⟩
  case on =>
    intro s v hhi hvl hd1 hd2 hc1 hc2 hw1 hw2 hseq hdis hfield
    refine congrArg Host.Outcome.next ((State.guard_registerAt registerAt_LDP_CTRL hhi hvl).trans ?_)
    rw [State.writeLdpCtrl_taken s ⟨⟨hd1, hd2⟩, ⟨hc1, hc2⟩, hw1, hw2⟩ (by decide)]
    exact State.displayEn_on (s := s.ldpCtrlTaken v.toNat 1) hseq hdis ((s.uvOff_ldpCtrlTaken _ _).trans hfield)
  case onWaits =>
    intro s v hhi hvl hd1 hd2 hc1 hc2 hw1 hw2 hfield
    refine congrArg Host.Outcome.next ((State.guard_registerAt registerAt_LDP_CTRL hhi hvl).trans ?_)
    rw [State.writeLdpCtrl_taken s ⟨⟨hd1, hd2⟩, ⟨hc1, hc2⟩, hw1, hw2⟩ (by decide)]
    exact State.displayEn_waits ((s.uvOff_ldpCtrlTaken _ _).trans hfield)
  case off =>
    intro s v hhi hvl hd1 hd2 hc1 hc2 hw1 hw2 hseq hdis
    refine congrArg Host.Outcome.next ((State.guard_registerAt registerAt_LDP_CTRL hhi hvl).trans ?_)
    rw [State.writeLdpCtrl_taken s ⟨⟨hd1, hd2⟩, ⟨hc1, hc2⟩, hw1, hw2⟩ (by decide)]
    exact State.displayEn_off (s := s.ldpCtrlTaken v.toNat 0) hseq hdis
  case discarded =>
    intro s v hhi hvl hdiv
    exact congrArg Host.Outcome.next ((State.guard_registerAt registerAt_LDP_CTRL hhi hvl).trans
      (s.writeLdpCtrl_discarded 1 hdiv))
  case stepOn =>
    intro s n hrun hseq
    refine congrArg Host.Outcome.next ?_
    rw [hrun, hseq]
  case stepOff =>
    intro s n hrun hseq
    refine congrArg Host.Outcome.next ?_
    rw [hrun, hseq]
  case panel =>
    intro s hrun hrail
    exact congrArg Host.Outcome.next (if_pos ⟨hrun, hrail⟩)
  case rail =>
    intro s hrun hrail
    exact congrArg Host.Outcome.next (if_pos ⟨hrun, hrail⟩)
  case discharged =>
    intro s hrun
    refine congrArg Host.Outcome.next (congrArg (fun t : State => (t.modLdp (fun x =>
      { x with discharging := false })).seqDone) ?_)
    exact if_pos ((s.running_discharged .vl).trans hrun)
  case stress =>
    intro s hrun hrail
    exact congrArg Host.Outcome.next (if_pos ⟨hrun, hrail⟩)
  case trimUp =>
    intro s hrun hrail hlow
    exact State.vcomTrim_moves hrun hrail (if_pos hlow) (by omega)
  case trimDown =>
    intro s hrun hrail hhigh
    exact State.vcomTrim_moves hrun hrail ((if_neg (by omega)).trans (if_pos hhigh)) (by omega)
  case page =>
    intro s hrun
    exact congrArg Host.Outcome.next (if_pos hrun)

end Sys2Proof.Machine
end

section
/-! SUPPORT. Display passes and the display commands (R366, R371 to R379). -/

namespace Sys2Proof.Machine

/-- Settles O58: each event of the interface by the branch that its clause names, each command by its checks. -/
theorem displayPasses : Obligations.DisplayPasses := by
  unfold Obligations.DisplayPasses
  refine ⟨?starts, ?transfer, ?ends, ?release, ?toggle, ?open_, ?frame, ?stored⟩
  case starts =>
    intro s hready hpass hdirty
    exact congrArg Host.Outcome.next (if_neg (by simp [hready, hpass, hdirty]))
  case transfer =>
    intro s p hready hpass hbetween hrelease
    refine congrArg Host.Outcome.next ?_
    rw [hpass]
    refine (if_neg (by simp [hready, hbetween])).trans ?_
    dsimp only
    rw [if_neg hrelease]
  case ends =>
    intro s p hpass hat hlegal hopen hgroup
    refine congrArg Host.Outcome.next ?_
    rw [hpass]
    exact if_neg (by simp [hat, hlegal, hopen, State.flag_of_zero hgroup])
  case release =>
    intro s
    rfl
  case toggle =>
    intro s hrun hrail hdis
    exact congrArg Host.Outcome.next (if_pos ⟨hrun, hrail, hdis⟩)
  case open_ =>
    intro s d h
    exact congrArg Host.Outcome.next (State.command_ok h)
  case frame =>
    intro s d h
    exact congrArg Host.Outcome.next (State.command_ok h)
  case stored =>
    intro s d h
    exact congrArg Host.Outcome.next (State.command_ok h)

end Sys2Proof.Machine
end

section
/-! SUPPORT. The five commands of the field update (R393 to R399). -/

namespace Sys2Proof.Machine

/-! ### Staging (R393) -/

/-- A slot's state is apart from the update's state. -/
theorem slotFld_apart (g slot : Nat) : (slotFld g slot).hi < 32 ∧ (slotFld g slot).off ≠ R.UPD_STATUS := by
  have hne : R.UPD_SLOT g ≠ R.UPD_STATUS := by
    unfold R.UPD_SLOT R.UPD_STATUS
    omega
  unfold slotFld
  split
  · exact ⟨show 23 < 32 by decide, hne⟩
  · exact ⟨show 27 < 32 by decide, hne⟩

/-- The inactive slots of some groups staged with a manifest. -/
def State.slotsStaged (s : State) (gs : List Nat) (keep : List Byte) : State :=
  gs.foldl (fun (s : State) g =>
    let b := 1 - s.activeSlot g
    let k := slotIdx g b
    (s.set (slotFld g b) 1).modUpd (fun u => { u with
      manifests := (k, keep) :: u.manifests.filter (fun x => x.1 != k) })) s

theorem State.slotsStaged_apart (s : State) (gs : List Nat) (keep : List Byte) :
    (s.slotsStaged gs keep).get F.UPD_STATUS_STATE = s.get F.UPD_STATUS_STATE ∧
    (s.slotsStaged gs keep).host.results = s.host.results := by
  refine foldl_of (Q := fun t : State => t.get F.UPD_STATUS_STATE = s.get F.UPD_STATUS_STATE ∧
    t.host.results = s.host.results) ⟨rfl, rfl⟩ (fun t g _ ht => ?_)
  obtain ⟨hhi, hoff⟩ := slotFld_apart g (1 - t.activeSlot g)
  exact ⟨(State.get_set_ne t _ hhi (.inl hoff.symm)).trans ht.1, ht.2⟩

/-- An update that is not in progress shows that a slot is staged. -/
def State.stagedShown (s : State) : State := if s.updating then s else s.set F.UPD_STATUS_STATE 1

theorem State.stagedShown_idle {s : State} (h : s.updating = false) : s.stagedShown = s.set F.UPD_STATUS_STATE 1 :=
  if_neg (ne_true_of_eq_false h)

/-- The key of the fleet that may unwrap. -/
def State.fleetKey (s : State) : Option KeySlot := (s.mayUse 19 (s.get F.UPD_CFG_FLEET_SLOT) 2).filter (fun k =>
    k.type_ == 2)

/-- The manifest in the incoming area, with what follows it. -/
def State.incomingManifest (s : State) : List Byte := memRead s.mem (incomingBase + 96)
  (min (manifestLen (memRead s.mem (incomingBase + 96) 24) + 296) 0x800000)

/-- The groups that a manifest names. -/
def manifestGroups (m : List Byte) : List Nat := groupList.filter (fun g =>
  (manifestEntries m).any (fun e => groupOf e.1.val == g))

/-- A container that passes the checks, staged. -/
def State.containerStaged (s : State) (m : List Byte) : State :=
  (((s.countUse (s.get F.UPD_CFG_FLEET_SLOT)).slotsStaged (manifestGroups m) (m.take (manifestLen m + 96 +
    200 * (fld (memRead s.mem incomingBase 96 ++ m) 6 1 % 2)))).stagedShown).raise { src := 129 }

section
variable {s : State}

theorem State.stageContainer_passes {d : Desc} {m : List Byte} {gs : List Nat}
    (h : s.admits d { opcode := 0x0802, priv := some 4, isl := .mg, load := true }) (hm : m = s.incomingManifest)
    (hgs : gs = manifestGroups m) (hsome : s.reg R.UPD_INCOMING ≠ 0) (hall : s.reg R.UPD_INCOMING = s.upd.total)
    (hok : containerOk (memRead s.mem incomingBase 96 ++ m) s.upd.total = true) (hengines : enginesOk m = true)
    (hidle : s.updating = false) (hserved : s.groupsServed gs = true) (hfleet : s.fleetKey.isSome = true) :
    exec (.stageContainer d true) s = .next ((s.containerStaged m).ok d
      (natLE 1 ((gs.map (fun g => 1 <<< g)).sum))) := by
  subst hgs hm
  have htotal : s.upd.total ≠ 0 := hall ▸ hsome
  unfold State.incomingManifest at hok hengines hserved
  unfold manifestGroups at hserved
  unfold State.fleetKey at hfleet
  refine congrArg Host.Outcome.next ((State.command_ok h).trans ?_)
  dsimp only
  split
  next st det hfail =>
    refine absurd hfail ?_
    rw [firstFail_none]
    · simp
    · simp [hall, htotal, hok, hengines, hidle, hserved, hfleet]
  next => rfl

theorem State.countUse_updating (no : Nat) : (s.countUse no).updating = s.updating := by
  rw [State.updating, (s.countUse_keeps no).get _ (by decide), State.updating]

theorem State.slotsStaged_updating (gs : List Nat) (keep : List Byte) :
    (s.slotsStaged gs keep).updating = s.updating := by
  rw [State.updating, (s.slotsStaged_apart gs keep).1, State.updating]

/-- What a container staged while no update is in progress shows. -/
theorem State.containerStaged_idle (m : List Byte) (hidle : s.updating = false) :
    (s.containerStaged m).host.results = s.host.results ∧ (s.containerStaged m).get F.UPD_STATUS_STATE = 1 := by
  unfold State.containerStaged
  rw [State.stagedShown_idle (by rw [State.slotsStaged_updating, State.countUse_updating, hidle])]
  refine ⟨?_, ((State.raise_keeps _ _).get _ (by decide)).trans (State.get_set_of_lt _ (by decide) (by decide))⟩
  exact (State.results_raise _ _).trans ((State.slotsStaged_apart _ _ _).2.trans (State.results_countUse _ _))

end

/-! ### The statement -/

/-- Settles O59: each command by its checks in order, and what a container that is staged shows. -/
theorem updateCommands : Obligations.UpdateCommands := by
  unfold Obligations.UpdateCommands
  refine ⟨?first, ?goesOn, ?gap, ?stage, ?activate, ?activateBusy, ?revert, ?healthy, ?healthyEarly⟩
  case first =>
    intro s d h hoff hlen
    refine congrArg Host.Outcome.next ((State.command_ok h).trans ?_)
    dsimp only
    rw [hoff, if_pos rfl, if_neg (fun hbad => hbad.1 rfl), Nat.zero_add, if_neg (Nat.not_lt.mpr hlen)]
    rfl
  case goesOn =>
    intro s d h hoff hat hlen
    refine congrArg Host.Outcome.next ((State.command_ok h).trans ((if_neg (fun hbad => hbad.2 hat)).trans ?_))
    rw [if_neg hoff, if_neg (Nat.not_lt.mpr hlen)]
    rfl
  case gap =>
    intro s d h hoff hat
    exact congrArg Host.Outcome.next ((State.command_ok h).trans (if_pos ⟨hoff, hat⟩))
  case stage =>
    intro s d m gs h hm hgs hsome hall hok hengines hidle hserved hfleet
    obtain ⟨hresults, hstate⟩ := s.containerStaged_idle m hidle
    exact ⟨_, State.stageContainer_passes h hm hgs hsome hall hok hengines hidle hserved hfleet,
      congrArg (· ++ [_]) hresults, hstate⟩
  case activate =>
    intro s d h hpass
    refine congrArg Host.Outcome.next ((State.command_ok h).trans ?_)
    rw [hpass]
  case activateBusy =>
    intro s d h hbusy
    have hfail : s.activateFail (maskGroups (d.n 24 1)) 1 = some (0x0007, 0) := by
      simp [State.activateFail, firstFail, hbusy]
    refine congrArg Host.Outcome.next ((State.command_ok h).trans ?_)
    rw [hfail]
  case revert =>
    intro s d h hpass hfloors
    have hall : ((s.plan (maskGroups (d.n 24 1))).all (fun e =>
        decide (s.get (F.UPD_ENG_STAT_SEC_FLOOR e.1.val) ≤ fld e.2 8 2))) = true :=
      List.all_eq_true.mpr (fun e he => decide_eq_true (hfloors e he))
    refine congrArg Host.Outcome.next ((State.command_ok h).trans ?_)
    dsimp only
    rw [hpass, hall]
    rfl
  case healthy =>
    intro s d h hstate
    exact congrArg Host.Outcome.next ((State.command_ok h).trans (if_neg (not_not_intro hstate)))
  case healthyEarly =>
    intro s d h hstate
    exact congrArg Host.Outcome.next ((State.command_ok h).trans (if_pos hstate))

end Sys2Proof.Machine
end

section
/-! SUPPORT. The steps of an update (R394 to R396). -/

namespace Sys2Proof.Machine

/-- The update's records are no part of what a reset notes. -/
theorem State.upd_noteReset (s : State) (code : Nat) (i : Isl) : (s.noteReset code i).upd = s.upd :=
  (s.noteReset_keeps code i).upd (by decide)

section
variable {s : State} {e : Fin 20}

/-- The step that is next while MG serves an update of which every step before it is done. -/
structure State.StepNext (s : State) (e : Fin 20) : Prop where
  up : s.mgUp = true
  state : s.get F.UPD_STATUS_STATE = 2
  done : s.upd.done.length = s.upd.at_
  step : s.upd.steps[s.upd.at_]? = some e

/-- A step of an update, with its matrix held: the image that verifies and may be loaded is loaded, and any other
falls back. -/
theorem State.updateStep_next (h : s.StepNext e) (verified : Bool)
    (hmatrix : (s.noteReset 0x0C (engineIsl e.val)).prefixOk ((s.noteReset 0x0C (engineIsl e.val)).planRows
      (maskGroups s.upd.groups.toNat)) ((s.plan (maskGroups s.upd.groups.toNat)).take (s.upd.at_ + 1)) = true) :
    exec (.updateStep verified) s =
    if verified = true ∧ (s.noteReset 0x0C (engineIsl e.val)).loadable e (1 - s.activeSlot (groupOf e.val)) = true then
      .next ((((s.noteReset 0x0C (engineIsl e.val)).loadEngine e (1 - s.activeSlot (groupOf e.val)) true 0).set
        (F.UPD_SLOT_RUN (groupOf e.val)) (1 - s.activeSlot (groupOf e.val))).modUpd
          (fun u => { u with done := e :: u.done }))
    else .next ((((s.noteReset 0x0C (engineIsl e.val)).raise { src := 133, unit_ := e.val }).modUpd
      (fun u => { u with done := e :: u.done })).fallBack 2) := by
  obtain ⟨hup, hstate, hdone, hstep⟩ := h
  refine (if_neg (by simp [hup, hstate, hdone])).trans ?_
  rw [hstep]
  refine if_neg ?_
  rw [State.upd_noteReset, hmatrix]
  decide

/-- The step's engine reports running, and another step follows. -/
theorem State.engineRunning_goesOn (hup : s.mgUp = true) (hstate : s.get F.UPD_STATUS_STATE = 2)
    (hhead : s.upd.done.head? = some e) (hdone : s.upd.done.length = s.upd.at_ + 1)
    (hmore : s.upd.at_ + 1 < s.upd.steps.length) : exec (.engineRunningReport e) s =
    .next ((((s.set (F.UPD_ENG_STAT_BOOT e.val) 1).raise { src := 130, unit_ := e.val }).modUpd
      (fun u => { u with at_ := s.upd.at_ + 1 })).set F.UPD_STATUS_STEP (s.upd.at_ + 2)) := by
  have hupd : ((s.set (F.UPD_ENG_STAT_BOOT e.val) 1).raise { src := 130, unit_ := e.val }).upd = s.upd :=
    (State.raise_keeps _ _).upd (by decide)
  refine (if_neg (by simp [hup, hstate, hhead, hdone])).trans ?_
  dsimp only
  rw [hupd]
  refine if_pos ?_
  rw [State.modUpd, hupd]
  exact hmore

end

/-! ### The statement -/

/-- Settles O60: a step by the one lemma on steps, the reports and timeouts by the branch that each clause names. -/
theorem updateSteps : Obligations.UpdateSteps := by
  unfold Obligations.UpdateSteps
  refine ⟨?loads, ?failed, ?running, ?late, ?healthy, ?window⟩
  case loads =>
    intro s e hup hstate hdone hstep hmatrix hload
    exact (State.updateStep_next ⟨hup, hstate, hdone, hstep⟩ true hmatrix).trans (if_pos ⟨rfl, hload⟩)
  case failed =>
    intro s e hup hstate hdone hstep hmatrix
    exact (State.updateStep_next ⟨hup, hstate, hdone, hstep⟩ false hmatrix).trans (if_neg (fun h =>
      Bool.noConfusion h.1))
  case running =>
    intro s e hup hstate hhead hdone hmore
    exact State.engineRunning_goesOn hup hstate hhead hdone hmore
  case late =>
    intro s hup hstate hdone
    exact if_neg (by simp [hup, hstate, hdone])
  case healthy =>
    intro s e hup he hboot
    refine if_neg ?_
    rintro (hdown | hlow | ⟨hone, hthree⟩)
    · exact ne_false_of_eq_true hup hdown
    · omega
    · exact hboot.elim hone hthree
  case window =>
    intro s hup hstate
    exact if_neg (by simp [hup, hstate])

end Sys2Proof.Machine
end
